-- ==== Sys2Proof/Word.lean ====
section
/-! DEFINITION. The word types of the panel and their plainest arithmetic (R11: values are little-endian;
a field's bit 0 is its least significant bit). -/

namespace Sys2Proof

/-- A byte of memory. -/
abbrev Byte := BitVec 8
/-- A 32-bit data word: one lane, one scratchpad word. -/
abbrev W32 := BitVec 32
/-- A 64-bit register. -/
abbrev W64 := BitVec 64
/-- A vector register: 64 lanes of 32 bits, lane `i` at bits `32 i + 31 : 32 i` (R86). -/
abbrev Vec := BitVec 2048
/-- One bit per lane: a predicate register, or the poison bits of a vector register (R37). -/
abbrev Lanes := BitVec 64

/-- Lane `i` of a vector register. -/
def Vec.lane (v : Vec) (i : Nat) : W32 := v.extractLsb' (32 * i) 32

/-- The natural number whose base-`2^w` digits are `f 0 .. f (n-1)`, digit 0 least significant. -/
def packDigits (w : Nat) (f : Nat → Nat) : Nat → Nat
  | 0 => 0
  | n + 1 => packDigits w f n + (f n % 2 ^ w) * 2 ^ (w * n)

/-- The vector whose lane `i` is `f i`. -/
def Vec.ofLanes (f : Nat → W32) : Vec := BitVec.ofNat 2048 (packDigits 32 (fun i => (f i).toNat) 64)

/-- The lane set whose bit `i` is `f i`. -/
def Lanes.ofFn (f : Nat → Bool) : Lanes := BitVec.ofNat 64 (packDigits 1 (fun i => (f i).toNat) 64)

/-- Bits `lo + len - 1 : lo` of a number. -/
def bitsOf (x lo len : Nat) : Nat := (x >>> lo) % 2 ^ len

/-- `x` with its bits `lo + len - 1 : lo` replaced by the low bits of `v`. -/
def setBitsOf (x lo len v : Nat) : Nat :=
  x - (bitsOf x lo len) * 2 ^ lo + (v % 2 ^ len) * 2 ^ lo

/-- The signed value of the low `w` bits of `x`. -/
def signedOf (w x : Nat) : Int := (BitVec.ofNat w x).toInt

end Sys2Proof
end

