-- ==== Sys2Proof/Syntax.lean ====
section
/-! DEFINITION. The commands of the panel: one constructor per row of the opcode table, with the row's operands.

A row that a core issues names only the core: its operands are the fields of the bundle that the core fetches from
its instruction store at its program counter (R39 to R63). A row that takes one of several waiting things (a packet,
a message, a queued operation) names it by its index in the state's list, oldest first. A row that is a control-space
write names the writing agent of R392. An event whose outcome the physical world decides (a test result, a reading)
carries that outcome as an operand. -/

namespace Sys2Proof

/-- A core: the position index of its tile (R14) and its number on the tile, 0 to 7. -/
structure CoreId where
  pos : Nat
  core : Nat
  deriving DecidableEq, Repr

/-- Who sends a control-space access (the columns of R392). -/
inductive Agent where
  /-- the management controller and its subsystem -/
  | mgmt
  /-- the host complex, by the host core that makes the access -/
  | host (hcore : Fin 32)
  /-- an ADMIN management-port client -/
  | admin
  /-- a READ management-port client -/
  | read
  deriving DecidableEq, Repr

/-- A 64-byte fabric unit (R218, R227). -/
abbrev Unit64B := BitVec 512

/-- A die under logic BIST (R319). -/
inductive Die where
  /-- the C-die of a position -/
  | cdie (pos : Nat)
  /-- H-rim die k -/
  | hrim (k : Nat)
  /-- L-rim die m -/
  | lrim (m : Nat)
  /-- the host die -/
  | host
  deriving DecidableEq, Repr

/-- A sensor of the panel or module (R371). -/
inductive Sensor where
  /-- diode `d` of a position -/
  | diode (pos d : Nat)
  /-- the diode of an H-rim die, an L-rim die or the host die -/
  | die (k : Die)
  /-- coolant inlet and outlet temperature, differential pressure in hPa, flow in 0.01 L/min -/
  | inlet
  | outlet
  | pressure
  | flow
  deriving DecidableEq, Repr

/-- What the check bits show of a packet or message that has crossed a link (R178, R187): how many words were put right,
the numbers of the words that cannot be, and a poison bit set in a header word. Words 0 to 13 of a packet are its header,
14 and 15 INLINE, 16 to 79 the payload. -/
structure LinkErrors where
  single : Nat
  words : List Nat
  poisoned : Bool
  deriving DecidableEq, Repr

/-- A crossing without an error. -/
def LinkErrors.none : LinkErrors := ⟨0, [], false⟩

/-- A packet on the mesh that a router takes: its place in the list of packets, and what the check bits show of its words
where it came in, unless it came from another router (R178). -/
structure AtRouter where
  item : Nat
  here : LinkErrors
  deriving DecidableEq, Repr

/-- What reaches a sync object in one cycle (R142): how many sets, and how many adds behind them. -/
structure CycleInputs where
  obj : Nat
  sets : Nat
  adds : Nat
  deriving DecidableEq, Repr

/-- A reading of a VDD_CORE phase (R359): its path resistance in microohms and its current in amperes. -/
structure PhaseReading where
  micro : Nat
  amps : Nat
  deriving DecidableEq, Repr

/-- What a millisecond has shown (R284, R361, R362): the input power averaged over it, the voltages of the input and of the
bus, and whether the management controller refreshed its watchdog in it. -/
structure MsReading where
  pin : Nat
  vin : Nat
  vbus : Nat
  refreshed : Bool
  deriving DecidableEq, Repr

/-- A segment of the test access network (R332). -/
inductive TapSegment where
  /-- the management die -/
  | mgmt
  /-- the host die with its two stacks -/
  | host
  /-- L-rim die m -/
  | lrim (m : Nat)
  /-- H-rim die k with its stack -/
  | hrim (k : Nat)
  /-- a grove's instruments -/
  | grove (g : Nat)
  /-- the two-die stack of a position -/
  | position (pos : Nat)
  deriving DecidableEq, Repr

/-- The commands, one constructor per row of spec/opcode_table.json. -/
inductive Instr where
  /-- S_NOP: S slot no-operation occupies its slot and does nothing (R50) -/
  | sNop (c : CoreId)
  /-- S_ADD: Scalar add of two registers with latency 1 (R50) -/
  | sAdd (c : CoreId)
  /-- S_SUB: Scalar subtract of two registers with latency 1 (R50) -/
  | sSub (c : CoreId)
  /-- S_AND: Scalar bitwise and (R50) -/
  | sAnd (c : CoreId)
  /-- S_OR: Scalar bitwise or (R50) -/
  | sOr (c : CoreId)
  /-- S_XOR: Scalar bitwise exclusive or (R50) -/
  | sXor (c : CoreId)
  /-- S_SLL: Scalar logical left shift by rb[5:0] (R50) -/
  | sSll (c : CoreId)
  /-- S_SRL: Scalar logical right shift by rb[5:0] (R50) -/
  | sSrl (c : CoreId)
  /-- S_SRA: Scalar arithmetic right shift by rb[5:0] (R50) -/
  | sSra (c : CoreId)
  /-- S_MUL: Low 64 bits of a scalar product, latency 3 (R50) -/
  | sMul (c : CoreId)
  /-- S_MULHU: High 64 bits of an unsigned scalar product, latency 3 (R50) -/
  | sMulhu (c : CoreId)
  /-- S_MIN: Signed scalar minimum (R50) -/
  | sMin (c : CoreId)
  /-- S_MAX: Signed scalar maximum (R50) -/
  | sMax (c : CoreId)
  /-- S_MINU: Unsigned scalar minimum (R50) -/
  | sMinu (c : CoreId)
  /-- S_MAXU: Unsigned scalar maximum (R50) -/
  | sMaxu (c : CoreId)
  /-- S_ADDI: Scalar add of a sign-extended immediate (R50) -/
  | sAddi (c : CoreId)
  /-- S_ANDI: Scalar and with a zero-extended immediate (R50) -/
  | sAndi (c : CoreId)
  /-- S_ORI: Scalar or with a zero-extended immediate (R50) -/
  | sOri (c : CoreId)
  /-- S_XORI: Scalar exclusive or with a zero-extended immediate (R50) -/
  | sXori (c : CoreId)
  /-- S_SLLI: Scalar left shift by an immediate (R50) -/
  | sSlli (c : CoreId)
  /-- S_SRLI: Scalar logical right shift by an immediate (R50) -/
  | sSrli (c : CoreId)
  /-- S_SRAI: Scalar arithmetic right shift by an immediate (R50) -/
  | sSrai (c : CoreId)
  /-- S_LUI: Loads a sign-extended immediate shifted left by 26 (R50) -/
  | sLui (c : CoreId)
  /-- S_CMP_EQ: Sets a predicate register to register equality (R50) -/
  | sCmpEq (c : CoreId)
  /-- S_CMP_NE: Sets a predicate register to register inequality (R50) -/
  | sCmpNe (c : CoreId)
  /-- S_CMP_LT: Sets a predicate register to signed less-than (R50) -/
  | sCmpLt (c : CoreId)
  /-- S_CMP_LTU: Sets a predicate register to unsigned less-than (R50) -/
  | sCmpLtu (c : CoreId)
  /-- S_CMPI_EQ: Sets a predicate register to equality with an immediate (R50) -/
  | sCmpiEq (c : CoreId)
  /-- S_CMPI_LT: Sets a predicate register to signed less-than an immediate (R50) -/
  | sCmpiLt (c : CoreId)
  /-- S_PAND: Lane-wise and of predicate registers (R50) -/
  | sPand (c : CoreId)
  /-- S_POR: Lane-wise or of predicate registers (R50) -/
  | sPor (c : CoreId)
  /-- S_PXOR: Lane-wise exclusive or of predicate registers (R50) -/
  | sPxor (c : CoreId)
  /-- S_PNOT: Complements a predicate register (R50) -/
  | sPnot (c : CoreId)
  /-- S_BR: Relative branch, taking effect two cycles later when taken (R48) -/
  | sBr (c : CoreId)
  /-- S_JR: Jump to the bundle index held in a register (R48) -/
  | sJr (c : CoreId)
  /-- S_CALL: Writes the link register and branches relative (R50) -/
  | sCall (c : CoreId)
  /-- S_LOOP: Starts a hardware loop level with a trip count and end bundle (R70) -/
  | sLoop (c : CoreId)
  /-- S_END: Stops issue with STATE 5 after posted operations are handed off (R80) -/
  | sEnd (c : CoreId)
  /-- S_TRAP: Raises a software trap with a 6-bit code (R78) -/
  | sTrap (c : CoreId)
  /-- S_TRET: Leaves the trap handler, sets STATE 1 and continues at ra (R78) -/
  | sTret (c : CoreId)
  /-- S_MFCR: Reads a core control register into a scalar register (R73) -/
  | sMfcr (c : CoreId)
  /-- S_MTCR: Writes a core control register, effective two cycles later (R76) -/
  | sMtcr (c : CoreId)
  /-- V_NOP: V slot no-operation (R54) -/
  | vNop (c : CoreId)
  /-- V_ADD: Lane-wise FP32 or INT32 add (R98) -/
  | vAdd (c : CoreId)
  /-- V_SUB: Lane-wise FP32 or INT32 subtract (R98) -/
  | vSub (c : CoreId)
  /-- V_MUL: Lane-wise FP32 or INT32 multiply (R98) -/
  | vMul (c : CoreId)
  /-- V_FMA: Lane-wise FP32 fused multiply-add with one rounding (R98) -/
  | vFma (c : CoreId)
  /-- V_MIN: Lane-wise minimum (R99) -/
  | vMin (c : CoreId)
  /-- V_MAX: Lane-wise maximum (R99) -/
  | vMax (c : CoreId)
  /-- V_ABS: Lane-wise absolute value (R99) -/
  | vAbs (c : CoreId)
  /-- V_NEG: Lane-wise negation (R99) -/
  | vNeg (c : CoreId)
  /-- V_AND: Lane-wise INT32 bitwise and (R54) -/
  | vAnd (c : CoreId)
  /-- V_OR: Lane-wise INT32 bitwise or (R54) -/
  | vOr (c : CoreId)
  /-- V_XOR: Lane-wise INT32 bitwise exclusive or (R54) -/
  | vXor (c : CoreId)
  /-- V_SHL: Lane-wise left shift (R54) -/
  | vShl (c : CoreId)
  /-- V_SHR: Lane-wise logical right shift (R54) -/
  | vShr (c : CoreId)
  /-- V_SRA: Lane-wise arithmetic right shift (R54) -/
  | vSra (c : CoreId)
  /-- V_CMP_EQ: Lane-wise equality compare into a predicate register (R99) -/
  | vCmpEq (c : CoreId)
  /-- V_CMP_LT: Lane-wise less-than compare into a predicate register (R99) -/
  | vCmpLt (c : CoreId)
  /-- V_CMP_LE: Lane-wise less-or-equal compare into a predicate register (R99) -/
  | vCmpLe (c : CoreId)
  /-- V_EXP: Lane-wise exponential within 2 ulp (R101) -/
  | vExp (c : CoreId)
  /-- V_LOG: Lane-wise natural logarithm within 2 ulp (R101) -/
  | vLog (c : CoreId)
  /-- V_RCP: Lane-wise reciprocal within 1 ulp (R101) -/
  | vRcp (c : CoreId)
  /-- V_RSQRT: Lane-wise reciprocal square root within 1 ulp (R101) -/
  | vRsqrt (c : CoreId)
  /-- V_TANH: Lane-wise hyperbolic tangent within 3 ulp (R101) -/
  | vTanh (c : CoreId)
  /-- V_SIGM: Lane-wise logistic sigmoid within 3 ulp (R101) -/
  | vSigm (c : CoreId)
  /-- V_CVT: Converts FP32 lanes to a packed format with the selected rounding (R88) -/
  | vCvt (c : CoreId)
  /-- V_UNPK: Unpacks one part of a packed register to exact FP32 values (R89) -/
  | vUnpk (c : CoreId)
  /-- V_BCAST: Broadcasts a scalar's low 32 bits to every enabled lane (R54) -/
  | vBcast (c : CoreId)
  /-- V_EXT: Extracts one lane into a scalar register (R54) -/
  | vExt (c : CoreId)
  /-- V_SHUF: Permutes lanes of one vector by indices in another (R54) -/
  | vShuf (c : CoreId)
  /-- V_RSUM: Sums all lanes in a fixed pairwise tree to every lane (R102) -/
  | vRsum (c : CoreId)
  /-- V_RMAX: Maximum of all lanes to every lane (R102) -/
  | vRmax (c : CoreId)
  /-- V_RAND: Draws 64 random words from the stochastic-rounding generator (R91) -/
  | vRand (c : CoreId)
  /-- V_MOV: Copies a vector register (R54) -/
  | vMov (c : CoreId)
  /-- V_IOTA: Writes each lane's index (R54) -/
  | vIota (c : CoreId)
  /-- M_NOP: M slot no-operation (R56) -/
  | mNop (c : CoreId)
  /-- M_LDW: Loads a weight block from a feeder-W stream into a weight buffer (R58) -/
  | mLdw (c : CoreId)
  /-- M_MMUL: Multiplies activation vectors by a weight buffer into accumulator rows (R93) -/
  | mMmul (c : CoreId)
  /-- M_RD: Reads an accumulator row into a vector register (R56) -/
  | mRd (c : CoreId)
  /-- M_WR: Writes a vector register into an accumulator row (R56) -/
  | mWr (c : CoreId)
  /-- M_CVT: Converts an accumulator row to a packed format with computed block scales (R96) -/
  | mCvt (c : CoreId)
  /-- M_ZERO: Sets every row of an accumulator to +0 (R56) -/
  | mZero (c : CoreId)
  /-- T_NOP: T slot no-operation (R63) -/
  | tNop (c : CoreId)
  /-- T_SET: Loads a stream descriptor from three scalar registers (R62) -/
  | tSet (c : CoreId)
  /-- T_LDS: 64-bit direct scratchpad load (R63) -/
  | tLds (c : CoreId)
  /-- T_STS: Posted 64-bit direct scratchpad store (R63) -/
  | tSts (c : CoreId)
  /-- T_LDV: 256-B direct vector load (R63) -/
  | tLdv (c : CoreId)
  /-- T_STV: Posted 256-B direct vector store, split when it spans groups or lines (R63) -/
  | tStv (c : CoreId)
  /-- T_RD: Reads the next element of a read wheel stream (R63) -/
  | tRd (c : CoreId)
  /-- T_WR: Writes the next element of a write wheel stream (R63) -/
  | tWr (c : CoreId)
  /-- T_SEND: Sends a 256-B routed packet to a scratchpad or HBM address with a sync attachment (R173) -/
  | tSend (c : CoreId)
  /-- T_RLU: Reads a route handle from the partition's route table (R232) -/
  | tRlu (c : CoreId)
  /-- T_SENDR: Sends a packet to the destination of a route table entry (R233) -/
  | tSendr (c : CoreId)
  /-- T_ADD: Posts an add to a sync object after earlier writes are performed (R66) -/
  | tAdd (c : CoreId)
  /-- T_WAIT: Stalls until a sync object's count reaches a threshold (R147) -/
  | tWait (c : CoreId)
  /-- T_FILL: Queues a fill of own scratchpad with a constant (R126) -/
  | tFill (c : CoreId)
  /-- T_COPY: Queues a copy within own scratchpad (R126) -/
  | tCopy (c : CoreId)
  /-- T_MOV: Reads a mover descriptor and queues it on a mover (R200) -/
  | tMov (c : CoreId)
  /-- T_SGAT: Queues a slot-indexed gather from a KV region into a write stream (R158) -/
  | tSgat (c : CoreId)
  /-- T_SSCAT: Queues a slot-indexed scatter from a read stream into a KV region (R158) -/
  | tSscat (c : CoreId)
  /-- T_WOPEN: Reads a window record and opens a write window (R124) -/
  | tWopen (c : CoreId)
  /-- T_WCLOSE: Closes a write window four cycles after issue (R124) -/
  | tWclose (c : CoreId)
  /-- T_FENCE: Stalls until every earlier posted T-slot operation is performed (R63) -/
  | tFence (c : CoreId)
  /-- T_SENDRED: Contributes a payload to a declared in-network reduction (R184) -/
  | tSendred (c : CoreId)
  /-- REGISTER_WRITEBACK: An instruction's result lands in its destination at the end of cycle c + L − 1 (R44) -/
  | registerWriteback (c : CoreId)
  /-- SEQUENTIAL_ISSUE_OVERRUN: Issue past bundle 2,047 raises an instruction-store trap in the next issue cycle (R51) -/
  | sequentialIssueOverrun (c : CoreId)
  /-- STALL_RESUME: A stalled core resumes issue at the next wheel position 0 once its condition clears (R47) -/
  | stallResume (c : CoreId)
  /-- CORE_RUN: Writing RUN 1 clears core state and starts at ENTRY (R38) -/
  | coreRun (a : Agent) (c : CoreId)
  /-- CORE_HALT: Writing RUN 0 halts the core at the next issue cycle (R74) -/
  | coreHalt (a : Agent) (c : CoreId)
  /-- CONTROL_WRITE: A control-space write to a register without its own row, checked for range and permission (R433) -/
  | controlWrite (a : Agent) (addr : Nat) (value : W64) (bytes : Nat)
  /-- WHEEL_TURN_ACCESS: An agent's access is served at its turn at a bank group (R111) -/
  | wheelTurnAccess (pos : Nat) (agent : Nat)
  /-- FEEDER_FETCH: An operand feeder fetches a footprint on its fixed schedule (R115) -/
  | feederFetch (c : CoreId) (weights : Bool)
  /-- POISON_MARKING: The memory-side engine rewrites an uncorrectable word or line poisoned at its next turn (R132) -/
  | poisonMarking (pos : Nat)
  /-- MSE_FILL: The memory-side engine runs a queued fill and applies its attachment (R127) -/
  | mseFill (pos : Nat)
  /-- MSE_COPY: The memory-side engine runs a queued copy and applies its attachment (R127) -/
  | mseCopy (pos : Nat)
  /-- SCRUB_PASS: The patrol scrubber reads every line once per scrub period on idle turns (R133) -/
  | scrubPass (pos : Nat)
  /-- WINDOW_OPEN_EFFECT: A window opened by t.wopen takes effect 3 cycles after its record is read (R124) -/
  | windowOpenEffect (pos : Nat)
  /-- WINDOW_CLOSE_EFFECT: A t.wclose takes effect 4 cycles after issue (R124) -/
  | windowCloseEffect (pos : Nat)
  /-- CONTROL_WINDOW_OPEN: Writing OPEN 1 to TILE_SPAD_WINn_HI opens the window at an issue boundary (R124) -/
  | controlWindowOpen (a : Agent) (pos : Nat) (n : Nat) (hi : W64)
  /-- CONTROL_WINDOW_CLOSE: Writing OPEN 0 to TILE_SPAD_WINn_HI closes the window (R124) -/
  | controlWindowClose (a : Agent) (pos : Nat) (n : Nat) (hi : W64)
  /-- SPAD_CLEAR_START: TILE_SPAD_CLEAR.START clears every non-resident region when all cores are stopped (R135) -/
  | spadClearStart (a : Agent) (pos : Nat)
  /-- SPAD_CLEAR_DONE: A scratchpad clear finishes and BUSY returns to 0 (R129) -/
  | spadClearDone (pos : Nat)
  /-- REACH_ENTRY_WRITE: A write to a TILE_SPAD_REACH entry is validated and sets PATH (R118) -/
  | reachEntryWrite (a : Agent) (pos : Nat) (d : Nat) (value : W64)
  /-- CAPTURE_REARM: Writing 1 to a capture VALID bit re-arms the capture (R134) -/
  | captureRearm (a : Agent) (addr : Nat)
  /-- DIRECT_LOAD_RETURN: Data of a flow-controlled direct load returns and the core resumes (R69) -/
  | directLoadReturn (c : CoreId)
  /-- SYNC_ADD_APPLY: Adds reaching an object in one cycle are checked and applied together at its home (R142) -/
  | syncAddApply (obj : Nat) (count : Nat)
  /-- SYNC_SET_APPLY: A set reaching an object is applied before same-cycle adds (R142) -/
  | syncSetApply (inputs : CycleInputs)
  /-- SYNC_NACK: The last working node before a fenced home answers an add with SYNC_NACK (R144) -/
  | syncNack (n : Nat)
  /-- SYNC_ADD_RESEND: A source node resends a held add after its map changes or 1,024 cycles after a SYNC_NACK (R144) -/
  | syncAddResend (n : Nat)
  /-- WAIT_RELEASE: A stalled t.wait is released once its threshold is reached (R147) -/
  | waitRelease (c : CoreId)
  /-- SYNC_CHECKPOINT_WRITE: Mover 1 writes a sync checkpoint record for a boundary wait of core 0 (R148) -/
  | syncCheckpointWrite (pos : Nat)
  /-- SYNC_CMD_ADD: Control-space OP 0 adds VALUE to the object (R150) -/
  | syncCmdAdd (a : Agent) (obj : Nat) (value : W32)
  /-- SYNC_CMD_SET: Control-space OP 1 sets COUNT to VALUE (R150) -/
  | syncCmdSet (a : Agent) (obj : Nat) (value : W32)
  /-- SYNC_CMD_CLEAR_FLAGS: Control-space OP 2 clears SHORT, VOID and SHORT_BY (R150) -/
  | syncCmdClearFlags (a : Agent) (obj : Nat) (value : W32)
  /-- SEQ_WATCH_ARM: Writing ARM 1 arms a watch on an object and threshold (R151) -/
  | seqWatchArm (a : Agent) (w : Nat) (value : W64)
  /-- SEQ_WATCH_DISARM: Writing ARM 0 disarms a watch (R163) -/
  | seqWatchDisarm (a : Agent) (w : Nat) (value : W64)
  /-- ACTIVATE: Moves a FREE slot with a valid descriptor to ACTIVE (R156) -/
  | activate (a : Agent) (slot : Nat)
  /-- HOLD: Moves an ACTIVE slot to HELD (R156) -/
  | hold (a : Agent) (slot : Nat)
  /-- RESUME: Moves a HELD slot back to ACTIVE (R156) -/
  | resume (a : Agent) (slot : Nat)
  /-- RELEASE: Requests that a slot return to FREE once INFLIGHT reaches 0 (R156) -/
  | release (a : Agent) (slot : Nat)
  /-- RELEASE_COMPLETE: A pending RELEASE takes effect when INFLIGHT reaches 0 (R156) -/
  | releaseComplete (slot : Nat)
  /-- SETLEN: Sets a slot's LENGTH to a value not above EXTENT (R156) -/
  | setlen (a : Agent) (slot : Nat) (value : Nat)
  /-- MARK: Saves a slot's LENGTH into MARK (R156) -/
  | mark (a : Agent) (slot : Nat)
  /-- REWIND: Restores a slot's LENGTH from MARK (R156) -/
  | rewind (a : Agent) (slot : Nat)
  /-- SEQ_OP_DECIDE: The sequence unit accepts or rejects a gather or scatter in one step (R159) -/
  | seqOpDecide (n : Nat)
  /-- SEQ_OP_WAIT_DECIDE: An operation waiting for INFLIGHT below 511 is decided when room appears (R159) -/
  | seqOpWaitDecide (slot : Nat)
  /-- GATHER_COMPLETE: A gather's element writes finish, its attachment applies and INFLIGHT drops (R162) -/
  | gatherComplete (n : Nat)
  /-- SCATTER_COMPLETE: A scatter's rows are performed in HBM, LENGTH advances if ADV and FIRST match (R161) -/
  | scatterComplete (n : Nat)
  /-- PACKET_ROUTE: A router takes the next trail nibble and forwards, exits or drops the packet (R171) -/
  | packetRoute (n : AtRouter) (e : LinkErrors)
  /-- PACKET_DELIVERY: A packet at its destination router is checked and answered with ACK or NACK (R172) -/
  | packetDelivery (n : AtRouter)
  /-- SOURCE_ANSWER: An ACK, RDATA, NACK or DEAD arrives at the source router and completes or holds the entry (R173) -/
  | sourceAnswer (n : AtRouter)
  /-- HELD_PACKET_RESEND: A held packet is resent once the map copy or epoch changes (R173) -/
  | heldPacketResend (pos : Nat) (tag : Nat)
  /-- HOLD_LIMIT_EXPIRY: A packet held beyond HOLD_LIM ends with NACK reason 7 (R173) -/
  | holdLimitExpiry (pos : Nat) (tag : Nat)
  /-- ACK_TIMEOUT: An outstanding packet unanswered within ACK_TO ends with reason 6 (R173) -/
  | ackTimeout (pos : Nat) (tag : Nat)
  /-- STALL_REPORT: A head flit waiting 2^STALL_LIM cycles at one output raises a record (R177) -/
  | stallReport (n : Nat)
  /-- CREDIT_RETURN: A freed buffer slot's credit returns to the sender (R179) -/
  | creditReturn (link : Nat) (cls : Nat)
  /-- RED_ABSORB: A reduction contribution is stored or added into a combine buffer, emitting at FANIN (R184) -/
  | redAbsorb (n : AtRouter)
  /-- CNET_MESSAGE: An understory message takes effect at its destination when its tail arrives (R187) -/
  | cnetMessage (n : Nat) (e : LinkErrors) (node : Option Nat)
  /-- HBM_REQUEST: An H-rim die checks an arriving READ or WRITE and accepts or NACKs it (R197) -/
  | hbmRequest (n : Nat)
  /-- HBM_WRITE_ACK: A WRITE reaches the stack's write path and its ACK leaves (R198) -/
  | hbmWriteAck (k : Nat) (n : Nat)
  /-- HBM_READ_DATA: A READ is performed and its RDATA leaves (R198) -/
  | hbmReadData (k : Nat) (n : Nat)
  /-- HBM_SCRUB_PASS: The controller scrubs every word once per SCRUB_PERIOD hours (R205) -/
  | hbmScrubPass (k : Nat)
  /-- HBM_TEMP_POLL: Every 1 ms the controller reads stack temperature and sets refresh and request rate (R206) -/
  | hbmTempPoll (k : Nat) (temp : Nat)
  /-- HBM_STACK_FAIL: A stack that stops answering for 1 ms goes to state 3 (R207) -/
  | hbmStackFail (k : Nat)
  /-- HBM_CLEAR_START: HBM_CLEAR.START zeroes an ungranted range unless a grant overlaps (R211) -/
  | hbmClearStart (a : Agent) (k : Nat) (value : W64)
  /-- HBM_CLEAR_DONE: An HBM clear finishes and BUSY returns to 0 (R211) -/
  | hbmClearDone (k : Nat)
  /-- HBM_GRANT_WRITE: A grant write is refused if it overlaps another partition's grant (R196) -/
  | hbmGrantWrite (a : Agent) (k : Nat) (p : Nat) (value : W64)
  /-- MOVER_START: A mover starts a queue entry and checks the whole descriptor (R201) -/
  | moverStart (pos : Nat) (engine : Nat)
  /-- MOVER_PACKET_ISSUE: A mover takes a tracking entry and issues the next 256-B packet (R202) -/
  | moverPacketIssue (pos : Nat) (engine : Nat)
  /-- MOVER_COMPLETE: Every packet is answered; the mover writes status and applies the attachment (R203) -/
  | moverComplete (pos : Nat) (engine : Nat)
  /-- MGMTQ_GO: TILE_MOV_MGMTQ.GO copies the management descriptor and queues it (R211) -/
  | mgmtqGo (a : Agent) (pos : Nat)
  /-- MOVER_QUEUE_ENTRY_GRANT: A waiting checkpoint, management entry or instruction takes a freed queue entry (R199) -/
  | moverQueueEntryGrant (pos : Nat)
  /-- PORT_SIGNAL_DETECT: A fabric port detects signal and trains at width 8 or 4 (R213) -/
  | portSignalDetect (p : Nat)
  /-- TRAINING_COMPLETE: Lane training finishes and the port enters DISCOVERY or DOWN (R214) -/
  | trainingComplete (p : Nat) (lanesOk : BitVec 8)
  /-- HELLO_SEND: A port sends a HELLO every 1 ms in DISCOVERY and every 10 ms in UP (R215) -/
  | helloSend (p : Nat)
  /-- HELLO: A received HELLO may bring the port UP or DOWN on a new partner (R215) -/
  | hello (p : Nat) (u : Unit64B)
  /-- HELLO_TIMEOUT: Three intervals without a valid HELLO take the port DOWN (R215) -/
  | helloTimeout (p : Nat)
  /-- DOWN_RETRAIN_TIMER: A DOWN port restarts training every 1 s (R214) -/
  | downRetrainTimer (p : Nat)
  /-- CODEWORD_RECEIVE: A codeword is decoded and accepted, or discarded with a REPLAY sent (R220) -/
  | codewordReceive (p : Nat) (header : BitVec 20) (correctable : Bool) (symbols : List Nat) (units : List Unit64B)
  /-- REPLAY: A received REPLAY makes the sender resend from the named SEQ (R220) -/
  | replay (p : Nat) (u : Unit64B)
  /-- REPLAY_TIMEOUT: A replay not answered within 1 µs fails and REPLAY is sent again (R220) -/
  | replayTimeout (p : Nat)
  /-- RESYNC: A received RESYNC sets the replay point and recomputes credits (R221) -/
  | resync (p : Nat) (u : Unit64B)
  /-- RETRAIN_TIMEOUT: A retrain not done within 20 ms ends in DOWN (R221) -/
  | retrainTimeout (p : Nat)
  /-- CREDIT: A received CREDIT unit updates the sender's credits from cumulative freed counts (R223) -/
  | credit (p : Nat) (u : Unit64B)
  /-- CREDIT_SEND: A receiver sends a CREDIT unit at least every 64 codewords while counts change (R223) -/
  | creditSend (p : Nat)
  /-- FABRIC_ORIGIN: The origin die checks an exiting packet and sends it on the fabric (R235) -/
  | fabricOrigin (n : Nat)
  /-- FABRIC_ORIGIN_ANSWER: A fabric answer at the origin die becomes an on-panel answer (R235) -/
  | fabricOriginAnswer (n : Nat)
  /-- MACK: A merged MACK at the origin applies the multicast completion and SHORT marks (R243) -/
  | mack (n : Nat)
  /-- FABRIC_ARRIVAL: An arriving packet is checked and delivered into the panel (R236) -/
  | fabricArrival (n : Nat)
  /-- FABRIC_ARRIVAL_ANSWER: An on-panel answer to a delivery becomes a fabric answer or holds the packet (R237) -/
  | fabricArrivalAnswer (n : Nat)
  /-- FABRIC_ARRIVAL_RESEND: A held arrival is resent once its die trail entry is rewritten (R237) -/
  | fabricArrivalResend (die : Nat) (tag : Nat)
  /-- FABRIC_ARRIVAL_HOLD_LIMIT: An arrival held beyond HOLD_LIM is answered with NACK reason 7 (R237) -/
  | fabricArrivalHoldLimit (die : Nat) (tag : Nat)
  /-- FABRIC_TRANSIT: A packet in transit is forwarded on its next port or dropped at an unusable hop (R239) -/
  | fabricTransit (n : Nat)
  /-- MWRITE: A die works through a multicast tree, copying, delivering and pruning (R242) -/
  | mwrite (n : Nat)
  /-- MERGE_ANSWER: A child MACK or leaf answer is merged; the entry sends one MACK when complete (R242) -/
  | mergeAnswer (n : Nat)
  /-- MERGE_TIMEOUT: A merge entry waiting past MERGE_TO is freed and recorded (R242) -/
  | mergeTimeout (die : Nat) (n : Nat)
  /-- COLLECTIVE_EGRESS: An exiting on-panel RED is matched and sent as a fabric RED with its hash (R246) -/
  | collectiveEgress (n : Nat)
  /-- COLLECTIVE_INGRESS: An arriving RED's digest is checked and it enters the local reduction (R247) -/
  | collectiveIngress (n : Nat)
  /-- ETH_FRAME_RECEIVE: An Ethernet-mode port writes a received frame into the receive ring (R249) -/
  | ethFrameReceive (p : Nat) (addresses type payload fcs : List Byte)
  /-- ETH_FRAME_TRANSMIT: An Ethernet-mode port sends the frame of the next transmit entry (R249) -/
  | ethFrameTransmit (p : Nat)
  /-- ETH_RING_TAIL_WRITE: Software advances TX_TAIL or RX_TAIL, giving entries to the port (R249) -/
  | ethRingTailWrite (a : Agent) (p : Nat) (value : W64)
  /-- PORT_ENABLE: Writing FAB_CTRL.EN 1 enables the port, training when ready (R250) -/
  | portEnable (a : Agent) (p : Nat)
  /-- PORT_DISABLE: Writing FAB_CTRL.EN 0 takes the port to DISABLED under R216 (R250) -/
  | portDisable (a : Agent) (p : Nat)
  /-- PORT_MODE_SELECT: Writing FAB_CTRL.MODE selects fabric or Ethernet mode while EN is 0 (R248) -/
  | portModeSelect (a : Agent) (p : Nat) (ethernet : Bool)
  /-- PORT_FENCE: Writing FAB_CTRL.FENCE makes the port DOWN for egress (R217) -/
  | portFence (a : Agent) (p : Nat) (fence : Bool)
  /-- CREATE: Creates a partition on enabled ready groves and sets its HBM mapping (R263) -/
  | create (a : Agent) (p : Nat)
  /-- LOAD: Checks and loads an image into a partition (R264) -/
  | load (a : Agent) (p : Nat)
  /-- START: Announces a reference count at which the partition's cores start (R266) -/
  | start (a : Agent) (p : Nat)
  /-- RESET: Performs a partition reset and reapplies sync records, windows and SEGs (R267) -/
  | reset (a : Agent) (p : Nat)
  /-- TEARDOWN: Halts and removes a partition, releasing its groves (R268) -/
  | teardown (a : Agent) (p : Nat)
  /-- UPDATE: Writes new table and detour sections and flips them in (R269) -/
  | update (a : Agent) (p : Nat)
  /-- GROVE_ANNOUNCE_ACK: A grove acknowledges an announced reference count (R266) -/
  | groveAnnounceAck (g : Nat)
  /-- SCHEDULED_RUN: At the announced reference count RUN takes effect in every grove (R338) -/
  | scheduledRun (p : Nat)
  /-- COVERAGE_RECOMPUTE: Coverage is recomputed after LOAD, UPDATE or a DESC_GEN change (R274) -/
  | coverageRecompute (p : Nat)
  /-- FAULT_RECORD_ARRIVAL: The collector assigns SEQ, counts, stores or loses and logs a fault record (R282) -/
  | faultRecordArrival (n : Nat)
  /-- DOMAIN_ACTION_JOB: The job named by a JOB record dies (R287) -/
  | domainActionJob
  /-- TILE_RECOVERY: A TILE action makes the position deadfall and runs recovery steps 1 to 9 (R293) -/
  | tileRecovery
  /-- DOMAIN_ACTION_GROVE: A grove's supply is switched off and its positions become 0x04 (R285) -/
  | domainActionGrove
  /-- DOMAIN_ACTION_PARTITION: The partition is reset and left LOADED (R285) -/
  | domainActionPartition
  /-- DOMAIN_ACTION_DEVICE: Every partition is halted and reset and every grove goes to retention (R285) -/
  | domainActionDevice
  /-- POLICY_REWIND: Under the reset policy a POLICY record rewinds or resets the partition (R288) -/
  | policyRewind
  /-- FLT_REWIND: FLT_CMD REWIND rewinds a partition to its last invocation boundary (R295) -/
  | fltRewind (a : Agent) (p : Nat)
  /-- DECLARE: FLT_CMD DECLARE raises source 16 for an active or sapling position (R289) -/
  | declare (a : Agent) (pos : Nat)
  /-- FLT_ACK_WRITE: A write to FLT_ACK acknowledges records cumulatively (R283) -/
  | fltAckWrite (a : Agent) (value : W64)
  /-- FORCE: Writing FORCE produces one forced record for the source (R280) -/
  | force (a : Agent) (source : Nat)
  /-- HEARTBEAT_POLL: Every HB_MS the management die reads TILE_FLT_HB and counts misses (R289) -/
  | heartbeatPoll (unanswered : List Nat)
  /-- HEARTBEAT_INCREMENT: The service controller increments TILE_FLT_HB every 2^16 cycles (R305) -/
  | heartbeatIncrement (pos : Nat)
  /-- WAIT_LIMIT: A core stalled 2^WAIT_LIM cycles raises one source 19 record (R290) -/
  | waitLimit (c : CoreId)
  /-- HEALTH_UPDATE: Every PERIOD seconds health scores and test duty are updated (R301) -/
  | healthUpdate
  /-- ACK_DEADLINE_EXPIRY: A record unacknowledged past ACK_DL sets OVERDUE and holds ALIVE low (R284) -/
  | ackDeadlineExpiry
  /-- WATCHDOG_EXPIRY: 100 ms without a refresh restarts the management controller (R386) -/
  | watchdogExpiry
  /-- MANAGEMENT_RESTART: The restarted controller reverifies firmware, rebuilds state and takes pending actions (R386) -/
  | managementRestart
  /-- PANEL_RESET_RELEASE: Release of panel reset starts the bring-up sequence (R307) -/
  | panelResetRelease (refPresent : Bool)
  /-- WAVE_START: A wave begins its first stage once the previous wave and the arbiter allow (R317) -/
  | waveStart (w : Nat)
  /-- LOGIC_BIST_DONE: Logic BIST of a wave ends and signatures are compared (R319) -/
  | logicBistDone (die : Die) (signatureOk : Bool) (patterns : Nat) (tenthsMs : Nat)
  /-- MEMORY_BIST_DONE: Memory BIST of a tile ends and results are reconciled (R320) -/
  | memoryBistDone (pos : Nat) (result : Nat) (bank : Nat) (ms : Nat)
  /-- STACK_TEST_DONE: A stack's test and zero-write finish and the stack becomes ready or failed (R320) -/
  | stackTestDone (k : Nat) (result : Nat) (tenMs : Nat)
  /-- LANE_MARGIN_DONE: An L-rim die finishes margining a lane (R320) -/
  | laneMarginDone (lane : Nat) (pass : Bool) (tenMs : Nat)
  /-- BCAST: A firmware block is stored by service controllers of the addressed wave (R326) -/
  | bcast (pos : Nat) (uni : Bool) (wave : Nat) (block : Nat) (e : LinkErrors)
  /-- FIRMWARE_END: At END a service controller verifies the image and starts or is resent it (R327) -/
  | firmwareEnd (pos : Nat) (blocks : Nat) (digest : BitVec 384)
  /-- GROVE_READY: A grove meeting all readiness conditions goes to retention with its bit set (R328) -/
  | groveReady (g : Nat)
  /-- TAP_EXT_CONNECT: Writing MGMT_TAP_CFG.EXT connects the external test port when allowed (R333) -/
  | tapExtConnect (a : Agent) (ext : Bool)
  /-- CLK_OPP_CMD: A request to change the operating point is checked, locked and announced (R340) -/
  | clkOppCmd (a : Agent) (target : Nat)
  /-- OPP_SWITCH: At count T every grove switches PLL and crossings take the new codes (R340) -/
  | oppSwitch
  /-- OPP_ACK_MISSING: A missing acknowledgement 10 µs before T cancels and repeats the announcement (R340) -/
  | oppAckMissing
  /-- CROSSING_ALIGNMENT: Alignment measures a crossing's phase and stores a sampling code per point (R341) -/
  | crossingAlignment (g : Nat) (dir : Nat) (point : Nat) (code : Nat)
  /-- DROOP_STRETCH: A droop detector withholds the next grove clock edge (R343) -/
  | droopStretch (g : Nat)
  /-- PLL_LOSS_OF_LOCK: A grove PLL loses lock; the clock is gated and source 12 raised (R346) -/
  | pllLossOfLock (g : Nat)
  /-- REFERENCE_LOSS: A lost or off-frequency reference is cut and the mesh enters holdover (R347) -/
  | referenceLoss
  /-- BACKUP_IN_PLACE: The mesh pulls onto the backup oscillator and SOURCE reads BACKUP (R347) -/
  | backupInPlace
  /-- HOLDOVER_EXPIRY: Backup not in place 10 ms after detection raises device source 1 (R347) -/
  | holdoverExpiry
  /-- REFERENCE_RETURN: An input valid for RETURN_S seconds is injected again (R347) -/
  | referenceReturn
  /-- GROVE_CLOCK_START: A grove moves from OFF to KEEP, locking its PLL and aligning crossings (R345) -/
  | groveClockStart (g : Nat)
  /-- ARBITER_UPDATE: Every 10 µs the arbiter sets holdings and grants waiting header stages (R355) -/
  | arbiterUpdate (currents : List (Nat × Nat))
  /-- STAGE_TOKEN_RETURN: A stage's tokens return 25 µs after its grant (R355) -/
  | stageTokenReturn (g : Nat)
  /-- DROOP_TRIM_RAISE: A droop count rise of 8 within 1 ms raises the grove's droop trim (R357) -/
  | droopTrimRaise (g : Nat)
  /-- DROOP_TRIM_DECAY: The droop trim falls 10 mV after 10 s without a rise (R357) -/
  | droopTrimDecay (g : Nat)
  /-- PHASE_FAIL: A power phase fails; the others carry the load or the grove trips (R358) -/
  | phaseFail (g : Nat) (phase : Nat)
  /-- GROVE_SHORT: A rail or feed short trips the grove's stages and e-fuse (R358) -/
  | groveShort (g : Nat)
  /-- RESISTANCE_TREND: A phase path resistance above baseline for 10 min raises source 11 (R359) -/
  | resistanceTrend (g : Nat) (phase : Nat) (r : PhaseReading)
  /-- FE_CONVERTER_FAIL: A front-end converter fails and the input limit drops (R350) -/
  | feConverterFail (converter : Nat)
  /-- GOVERNOR_UPDATE: Every 1 ms the governor measures PIN, updates A and sets the target (R362) -/
  | governorUpdate (r : MsReading) (demand : Nat) (soc : Nat)
  /-- BALLAST_STEP: Every 10 µs the ballast moves by 0.25 W per position toward its need (R363) -/
  | ballastStep
  /-- INPUT_VOLTAGE_FAULT: Input outside 46–58 V for 1 ms raises device source 2 (R361) -/
  | inputVoltageFault (mv : Nat)
  /-- INPUT_LOSS: Input below 40 V stops the front end, commits the log and turns off (R361) -/
  | inputLoss
  /-- INPUT_RETURN: Input back above 46 V for 100 ms cold-starts the module (R361) -/
  | inputReturn (refPresent : Bool)
  /-- SENSOR_READ: Diodes are read at their period and hot spot values are formed (R371) -/
  | sensorRead (sensor : Sensor) (reading : Option (BitVec 16))
  /-- SENSOR_FAIL: A sensor implausible or disagreeing for 10 s is marked failed (R373) -/
  | sensorFail (pos : Nat) (diode : Nat)
  /-- THERMAL_MODEL_UPDATE: Every 1 ms the model corrects and predicts hot spots 8 ms ahead (R374) -/
  | thermalModelUpdate (preds : List (Nat × BitVec 12))
  /-- RTH_UPDATE: Every 100 ms thermal resistances are computed and trends flagged (R375) -/
  | rthUpdate (powers : List (Nat × Nat))
  /-- COMPAT_CAP_UPDATE: In compatibility mode THERM_CAP is rewritten every 100 ms (R379) -/
  | compatCapUpdate
  /-- FLOW_STOP: A detected coolant flow stop raises device source 4 (R382) -/
  | flowStop
  /-- FLOW_RESTORED: Pressure at DP_MIN for 10 s with inlet at most 40 °C clears FLOW_LOST (R383) -/
  | flowRestored
  /-- SESSION_OPEN: A TLS client connects and receives ADMIN or READ role (R391) -/
  | sessionOpen (adminChain : Bool) (readChain : Bool)
  /-- CREAD: Management operation that reads 64 bits of control space (R391) -/
  | cread (session : Nat) (addr : Nat)
  /-- CWRITE: Management operation that writes 64 bits of control space under R392 (R391) -/
  | cwrite (session : Nat) (addr : Nat) (value : W64)
  /-- LOG_READ: Returns up to 1,024 event log entries (R391) -/
  | logRead (session : Nat) (lseq : W32)
  /-- ATTEST: Returns a doubly signed attestation report for a nonce (R407) -/
  | attest (session : Nat) (nonce : BitVec 256)
  /-- CERT_READ: Returns the device identity certificates (R407) -/
  | certRead (session : Nat)
  /-- UPD_BEGIN: Invalidates the non-preferred slot of a kind for an update (R404) -/
  | updBegin (session : Nat) (kind : Nat)
  /-- UPD_DATA: Writes an image chunk into the target slot (R404) -/
  | updData (session : Nat) (kind : Nat) (offset : Nat) (chunk : List Byte)
  /-- UPD_END: Verifies the image and marks the slot VALID (R402) -/
  | updEnd (session : Nat) (kind : Nat)
  /-- UPD_ACTIVATE: Sets BOOTSEL to try a VALID slot from the next reset (R404) -/
  | updActivate (session : Nat) (kinds : List Nat)
  /-- UPD_CONFIRM: Commits a trial slot and may raise the minimum SVN (R404) -/
  | updConfirm (session : Nat) (kind : Nat) (raiseSvn : Bool)
  /-- FENCE_CLEAR: Invalidates a fence-map record (R398) -/
  | fenceClear (session : Nat) (record : Nat)
  /-- LANE_UNMASK: Clears a bit of STD_LANEMASK (R391) -/
  | laneUnmask (session : Nat) (lane : Nat)
  /-- REVOKE: Blows the fuse of a firmware key index (R406) -/
  | revoke (session : Nat) (key : Nat)
  /-- DEBUG_AUTH: Sets MGMT_STATUS.DEBUG when policy allows and no partition exists (R408) -/
  | debugAuth (session : Nat)
  /-- MGMT_OP_PANEL_RESET: Management RESET with ARG 0 resets the panel (R391) -/
  | mgmtOpPanelReset (session : Nat)
  /-- MGMT_OP_HOST_RESET: Management RESET with ARG 1 resets the host complex (R413) -/
  | mgmtOpHostReset (session : Nat)
  /-- MGMT_OP_MANAGEMENT_RESTART: Management RESET with ARG 2 restarts the management controller (R405) -/
  | mgmtOpManagementRestart (session : Nat)
  /-- MPORT_FAILOVER: The active port down for 1 s with standby up swaps the ports (R390) -/
  | mportFailover
  /-- MPORT_SWAP: Writing MGMT_MPORT.ACTIVE swaps the ports at once (R390) -/
  | mportSwap (a : Agent) (active : Nat)
  /-- STD_WRITE: A standing-register write is persisted with its write counter (R394) -/
  | stdWrite (a : Agent) (word : Nat) (value : W32)
  /-- HEALTH_HISTORY_WRITE: Every hour scores are written to the alternate health history copy (R399) -/
  | healthHistoryWrite
  /-- LOG_FLUSH: Buffered event-log entries are written to flash within 100 ms (R389) -/
  | logFlush
  /-- HOST_WINDOW_WRITE: A host store through a data window is combined and sent (R410) -/
  | hostWindowWrite (hcore : Nat) (ha : Nat) (bytes : Nat) (value : W64)
  /-- HOST_WINDOW_READ: A host load through a data window reads HBM or a sync entry (R410) -/
  | hostWindowRead (hcore : Nat) (ha : Nat) (bytes : Nat)
  /-- WC_FLUSH: A combining buffer goes out on a host fence or 1 µs after its first store (R411) -/
  | wcFlush (buffer : Nat)
  /-- HOST_BRIDGE_ANSWER: An answer to a bridge packet completes, holds or faults the access (R411) -/
  | hostBridgeAnswer (n : Nat)
  /-- HOST_BRIDGE_TIMEOUT: A bridge access unanswered within ACK_TO or held past HOLD_LIM ends in error (R411) -/
  | hostBridgeTimeout (tag : Nat)
  /-- HOST_CTRL_RESET: MGMT_HOST_CTRL.RESET resets host cores and bridge (R413) -/
  | hostCtrlReset (a : Agent)
  /-- WDOG_KICK: Restarts the host watchdog period (R413) -/
  | wdogKick (a : Agent)
  /-- HOST_WATCHDOG_EXPIRY: WDOG_MS without a kick raises source 6 and may reset the host (R413) -/
  | hostWatchdogExpiry
  /-- PANEL_RST_N_ASSERT: PANEL_RST_N low for 1 ms halts, commits the log and enters reset (R425) -/
  | panelRstNAssert
  /-- SMB_STATUS_READ: SMBus command 0x01 returns the status word (R428) -/
  | smbStatusRead
  /-- SMB_VIN_READ: SMBus command 0x10 returns VIN (R428) -/
  | smbVinRead
  /-- SMB_PIN_READ: SMBus command 0x11 returns PIN (R428) -/
  | smbPinRead
  /-- SMB_EFF_CAP_READ: SMBus command 0x12 returns EFF_CAP (R428) -/
  | smbEffCapRead
  /-- SMB_T_IN_READ: SMBus command 0x20 returns inlet temperature (R428) -/
  | smbTInRead
  /-- SMB_T_OUT_READ: SMBus command 0x21 returns outlet temperature (R428) -/
  | smbTOutRead
  /-- SMB_FLOW_READ: SMBus command 0x22 returns coolant flow (R428) -/
  | smbFlowRead
  /-- SMB_HS_MAX_READ: SMBus command 0x23 returns the largest hot spot value (R428) -/
  | smbHsMaxRead
  /-- SMB_FRU_READ: A read of the FRU device returns FRU data (R428) -/
  | smbFruRead (offset : Nat)
  /-- SMB_UNSUPPORTED: Other SMBus commands and writes are NACKed (R428) -/
  | smbUnsupported (command : Nat)
  /-- TELEMETRY_PUBLISH: Every 10 ms the controller publishes telemetry values (R428) -/
  | telemetryPublish
  /-- CAGE_OVERPOWER: An SFP28 module drawing over 1.5 W switches its cage off (R421) -/
  | cageOverpower (port : Nat)
  /-- RETRAIN_COMPLETE: The lanes of a RETRAINING port finish training and each side sends its RESYNC unit (R221) -/
  | retrainComplete (p : Nat)
  /-- INPUT_VOLTAGE_RESTORED: The 52 V input returns inside 46–58 V and the condition that blocks CREATE ends (R361) -/
  | inputVoltageRestored (mv : Nat)
  /-- VDD_CORE_LEVEL_REPORT: A grove's VDD_CORE setpoint comes within 5 mV and the grove reports the new level (R352) -/
  | vddCoreLevelReport (g : Nat) (mv : Nat)
  /-- HOST_COMPLEX_READY: The host die, its stacks and host boot firmware are up and the host complex becomes ready and running (R329) -/
  | hostComplexReady
  /-- MGMT_PORT_LINK_CHANGE: A management port's link goes up or down (R390) -/
  | mgmtPortLinkChange (port : Nat) (up : Bool)
  /-- SESSION_CLOSE: A management TLS session is closed by its client or its connection drops (R391) -/
  | sessionClose (session : Nat)
  /-- L_RIM_DIE_FAULT: An L-rim die faults at run time and its ports go DOWN (R278) -/
  | lRimDieFault (die : Nat)
  /-- RIM_RING_SEGMENT_FAULT: A rim ring segment faults and L-rim source 1 is raised (R278) -/
  | rimRingSegmentFault (die : Nat)
  /-- KEEP_ALIVE_DOMAIN_FAULT: A grove's network keep-alive domain faults, raising grove source 18 with GROVE domain (R278) -/
  | keepAliveDomainFault (g : Nat)
  /-- HOST_CORE_UNCORRECTABLE_READ: A host core reads an uncorrectable word of host memory and device source 6 is raised with CAUSE 2 (R413) -/
  | hostCoreUncorrectableRead (hcore : Nat)
  /-- EXTERNAL_TAP_ACCESS: The external IEEE 1149.1 master drives the test access network, opening or closing segments (R333) -/
  | externalTapAccess (segment : TapSegment) (opens : Bool)
  deriving DecidableEq, Repr

end Sys2Proof
end

