-- ==== Sys2Proof/WellFormed.lean ====
section
/-! DEFINITION. Which operands name something the panel has: 576 positions of eight cores, 36 groves, 50 HBM
controllers, 64 fabric ports, 16 L-rim dies, 16 partitions, 256 sequence slots, 64 watches, 131,072 sync objects
(R14, R16, R19, R21, R27, R136, R150, R154). The operands that a session or a host core sends are not bounded here: the
specification says what answers them (R391, R410). A row number in a list of waiting things is not bounded here: when nothing
waits there, the command's condition does not hold. -/

namespace Sys2Proof

/-- A core of a position. -/
def CoreId.wf (c : CoreId) : Bool := decide (c.pos < 576) && decide (c.core < 8)

/-- A die of the panel. -/
def Die.wf : Die → Bool
  | .cdie pos => decide (pos < 576)
  | .hrim k => decide (k < 48)
  | .lrim m => decide (m < 16)
  | .host => true

/-- A sensor of the panel (R371). -/
def Sensor.wf : Sensor → Bool
  | .diode pos d => decide (pos < 576) && decide (d < 5)
  | .die k => k.wf
  | _ => true

/-- A segment of the test access network (R333). -/
def TapSegment.wf : TapSegment → Bool
  | .mgmt => true
  | .host => true
  | .lrim m => decide (m < 16)
  | .hrim k => decide (k < 48)
  | .grove g => decide (g < 36)
  | .position pos => decide (pos < 576)

/-- Every operand that names an instance names one that exists. -/
def Instr.wf : Instr → Bool
  | .sNop c => c.wf
  | .sAdd c => c.wf
  | .sSub c => c.wf
  | .sAnd c => c.wf
  | .sOr c => c.wf
  | .sXor c => c.wf
  | .sSll c => c.wf
  | .sSrl c => c.wf
  | .sSra c => c.wf
  | .sMul c => c.wf
  | .sMulhu c => c.wf
  | .sMin c => c.wf
  | .sMax c => c.wf
  | .sMinu c => c.wf
  | .sMaxu c => c.wf
  | .sAddi c => c.wf
  | .sAndi c => c.wf
  | .sOri c => c.wf
  | .sXori c => c.wf
  | .sSlli c => c.wf
  | .sSrli c => c.wf
  | .sSrai c => c.wf
  | .sLui c => c.wf
  | .sCmpEq c => c.wf
  | .sCmpNe c => c.wf
  | .sCmpLt c => c.wf
  | .sCmpLtu c => c.wf
  | .sCmpiEq c => c.wf
  | .sCmpiLt c => c.wf
  | .sPand c => c.wf
  | .sPor c => c.wf
  | .sPxor c => c.wf
  | .sPnot c => c.wf
  | .sBr c => c.wf
  | .sJr c => c.wf
  | .sCall c => c.wf
  | .sLoop c => c.wf
  | .sEnd c => c.wf
  | .sTrap c => c.wf
  | .sTret c => c.wf
  | .sMfcr c => c.wf
  | .sMtcr c => c.wf
  | .vNop c => c.wf
  | .vAdd c => c.wf
  | .vSub c => c.wf
  | .vMul c => c.wf
  | .vFma c => c.wf
  | .vMin c => c.wf
  | .vMax c => c.wf
  | .vAbs c => c.wf
  | .vNeg c => c.wf
  | .vAnd c => c.wf
  | .vOr c => c.wf
  | .vXor c => c.wf
  | .vShl c => c.wf
  | .vShr c => c.wf
  | .vSra c => c.wf
  | .vCmpEq c => c.wf
  | .vCmpLt c => c.wf
  | .vCmpLe c => c.wf
  | .vExp c => c.wf
  | .vLog c => c.wf
  | .vRcp c => c.wf
  | .vRsqrt c => c.wf
  | .vTanh c => c.wf
  | .vSigm c => c.wf
  | .vCvt c => c.wf
  | .vUnpk c => c.wf
  | .vBcast c => c.wf
  | .vExt c => c.wf
  | .vShuf c => c.wf
  | .vRsum c => c.wf
  | .vRmax c => c.wf
  | .vRand c => c.wf
  | .vMov c => c.wf
  | .vIota c => c.wf
  | .mNop c => c.wf
  | .mLdw c => c.wf
  | .mMmul c => c.wf
  | .mRd c => c.wf
  | .mWr c => c.wf
  | .mCvt c => c.wf
  | .mZero c => c.wf
  | .tNop c => c.wf
  | .tSet c => c.wf
  | .tLds c => c.wf
  | .tSts c => c.wf
  | .tLdv c => c.wf
  | .tStv c => c.wf
  | .tRd c => c.wf
  | .tWr c => c.wf
  | .tSend c => c.wf
  | .tRlu c => c.wf
  | .tSendr c => c.wf
  | .tAdd c => c.wf
  | .tWait c => c.wf
  | .tFill c => c.wf
  | .tCopy c => c.wf
  | .tMov c => c.wf
  | .tSgat c => c.wf
  | .tSscat c => c.wf
  | .tWopen c => c.wf
  | .tWclose c => c.wf
  | .tFence c => c.wf
  | .tSendred c => c.wf
  | .registerWriteback c => c.wf
  | .sequentialIssueOverrun c => c.wf
  | .stallResume c => c.wf
  | .coreRun _ c => c.wf
  | .coreHalt _ c => c.wf
  | .controlWrite _ _ _ bytes => decide (bytes = 1 ∨ bytes = 2 ∨ bytes = 4 ∨ bytes = 8)
  | .wheelTurnAccess pos agent => decide (pos < 576) && decide (agent < 16)
  | .feederFetch c _ => c.wf
  | .poisonMarking pos => decide (pos < 576)
  | .mseFill pos => decide (pos < 576)
  | .mseCopy pos => decide (pos < 576)
  | .scrubPass pos => decide (pos < 576)
  | .windowOpenEffect pos => decide (pos < 576)
  | .windowCloseEffect pos => decide (pos < 576)
  | .controlWindowOpen _ pos n _ => decide (pos < 576) && decide (n < 16)
  | .controlWindowClose _ pos n _ => decide (pos < 576) && decide (n < 16)
  | .spadClearStart _ pos => decide (pos < 576)
  | .spadClearDone pos => decide (pos < 576)
  | .reachEntryWrite _ pos d _ => decide (pos < 576) && decide (d < 4)
  | .captureRearm _ _ => true
  | .directLoadReturn c => c.wf
  | .syncAddApply obj _ => decide (obj < 131072)
  | .syncSetApply i => decide (i.obj < 131072)
  | .syncNack _ => true
  | .syncAddResend _ => true
  | .waitRelease c => c.wf
  | .syncCheckpointWrite pos => decide (pos < 576)
  | .syncCmdAdd _ obj _ => decide (obj < 131072)
  | .syncCmdSet _ obj _ => decide (obj < 131072)
  | .syncCmdClearFlags _ obj _ => decide (obj < 131072)
  | .seqWatchArm _ w _ => decide (w < 64)
  | .seqWatchDisarm _ w _ => decide (w < 64)
  | .activate _ slot => decide (slot < 256)
  | .hold _ slot => decide (slot < 256)
  | .resume _ slot => decide (slot < 256)
  | .release _ slot => decide (slot < 256)
  | .releaseComplete slot => decide (slot < 256)
  | .setlen _ slot _ => decide (slot < 256)
  | .mark _ slot => decide (slot < 256)
  | .rewind _ slot => decide (slot < 256)
  | .seqOpDecide _ => true
  | .seqOpWaitDecide slot => decide (slot < 256)
  | .gatherComplete _ => true
  | .scatterComplete _ => true
  | .packetRoute _ _ => true
  | .packetDelivery _ => true
  | .sourceAnswer _ => true
  | .heldPacketResend pos tag => decide (pos < 576) && decide (tag < 64)
  | .holdLimitExpiry pos tag => decide (pos < 576) && decide (tag < 64)
  | .ackTimeout pos tag => decide (pos < 576) && decide (tag < 64)
  | .stallReport _ => true
  | .creditReturn link cls => decide (link < 18432) && decide (cls < 4)
  | .redAbsorb _ => true
  | .cnetMessage _ _ node => node.all (fun q => decide (q < 576))
  | .hbmRequest _ => true
  | .hbmWriteAck k _ => decide (k < 50)
  | .hbmReadData k _ => decide (k < 50)
  | .hbmScrubPass k => decide (k < 50)
  | .hbmTempPoll k _ => decide (k < 50)
  | .hbmStackFail k => decide (k < 50)
  | .hbmClearStart _ k _ => decide (k < 50)
  | .hbmClearDone k => decide (k < 50)
  | .hbmGrantWrite _ k p _ => decide (k < 50) && decide (p < 16)
  | .moverStart pos engine => decide (pos < 576) && decide (engine < 3)
  | .moverPacketIssue pos engine => decide (pos < 576) && decide (engine < 3)
  | .moverComplete pos engine => decide (pos < 576) && decide (engine < 3)
  | .mgmtqGo _ pos => decide (pos < 576)
  | .moverQueueEntryGrant pos => decide (pos < 576)
  | .portSignalDetect p => decide (p < 64)
  | .trainingComplete p _ => decide (p < 64)
  | .helloSend p => decide (p < 64)
  | .hello p _ => decide (p < 64)
  | .helloTimeout p => decide (p < 64)
  | .downRetrainTimer p => decide (p < 64)
  | .codewordReceive p _ _ _ _ => decide (p < 64)
  | .replay p _ => decide (p < 64)
  | .replayTimeout p => decide (p < 64)
  | .resync p _ => decide (p < 64)
  | .retrainTimeout p => decide (p < 64)
  | .credit p _ => decide (p < 64)
  | .creditSend p => decide (p < 64)
  | .fabricOrigin _ => true
  | .fabricOriginAnswer _ => true
  | .mack _ => true
  | .fabricArrival _ => true
  | .fabricArrivalAnswer _ => true
  | .fabricArrivalResend die _ => decide (die < 16)
  | .fabricArrivalHoldLimit die _ => decide (die < 16)
  | .fabricTransit _ => true
  | .mwrite _ => true
  | .mergeAnswer _ => true
  | .mergeTimeout die _ => decide (die < 16)
  | .collectiveEgress _ => true
  | .collectiveIngress _ => true
  | .ethFrameReceive p _ _ _ _ => decide (p < 64)
  | .ethFrameTransmit p => decide (p < 64)
  | .ethRingTailWrite _ p _ => decide (p < 64)
  | .portEnable _ p => decide (p < 64)
  | .portDisable _ p => decide (p < 64)
  | .portModeSelect _ p _ => decide (p < 64)
  | .portFence _ p _ => decide (p < 64)
  | .create _ p => decide (p < 16)
  | .load _ p => decide (p < 16)
  | .start _ p => decide (p < 16)
  | .reset _ p => decide (p < 16)
  | .teardown _ p => decide (p < 16)
  | .update _ p => decide (p < 16)
  | .groveAnnounceAck g => decide (g < 36)
  | .scheduledRun p => decide (p < 16)
  | .coverageRecompute p => decide (p < 16)
  | .faultRecordArrival _ => true
  | .domainActionJob => true
  | .tileRecovery => true
  | .domainActionGrove => true
  | .domainActionPartition => true
  | .domainActionDevice => true
  | .policyRewind => true
  | .fltRewind _ p => decide (p < 16)
  | .declare _ pos => decide (pos < 1024)
  | .fltAckWrite _ _ => true
  | .force _ source => decide (source < 14000)
  | .heartbeatPoll _ => true
  | .heartbeatIncrement pos => decide (pos < 576)
  | .waitLimit c => c.wf
  | .healthUpdate => true
  | .ackDeadlineExpiry => true
  | .watchdogExpiry => true
  | .managementRestart => true
  | .panelResetRelease _ => true
  | .waveStart w => decide (w < 6)
  | .logicBistDone die _ _ _ => die.wf
  | .memoryBistDone pos _ _ _ => decide (pos < 576)
  | .stackTestDone k _ _ => decide (k < 50)
  | .laneMarginDone lane _ _ => decide (lane < 512)
  | .bcast pos _ wave _ _ => decide (pos < 576) && decide (wave < 8)
  | .firmwareEnd pos _ _ => decide (pos < 576)
  | .groveReady g => decide (g < 36)
  | .tapExtConnect _ _ => true
  | .clkOppCmd _ _ => true
  | .oppSwitch => true
  | .oppAckMissing => true
  | .crossingAlignment g dir _ _ => decide (g < 36) && decide (dir < 4)
  | .droopStretch g => decide (g < 36)
  | .pllLossOfLock g => decide (g < 36)
  | .referenceLoss => true
  | .backupInPlace => true
  | .holdoverExpiry => true
  | .referenceReturn => true
  | .groveClockStart g => decide (g < 36)
  | .arbiterUpdate _ => true
  | .stageTokenReturn g => decide (g < 36)
  | .droopTrimRaise g => decide (g < 36)
  | .droopTrimDecay g => decide (g < 36)
  | .phaseFail g phase => decide (g < 36) && decide (phase < 10)
  | .groveShort g => decide (g < 36)
  | .resistanceTrend g phase _ => decide (g < 36) && decide (phase < 10)
  | .feConverterFail converter => decide (converter < 8)
  | .governorUpdate _ _ _ => true
  | .ballastStep => true
  | .inputVoltageFault _ => true
  | .inputLoss => true
  | .inputReturn _ => true
  | .sensorRead sensor _ => sensor.wf
  | .sensorFail pos diode => decide (pos < 576) && decide (diode < 5)
  | .thermalModelUpdate _ => true
  | .rthUpdate _ => true
  | .compatCapUpdate => true
  | .flowStop => true
  | .flowRestored => true
  | .sessionOpen _ _ => true
  | .cread _ _ => true
  | .cwrite _ _ _ => true
  | .logRead _ _ => true
  | .attest _ _ => true
  | .certRead _ => true
  | .updBegin _ _ => true
  | .updData _ _ _ _ => true
  | .updEnd _ _ => true
  | .updActivate _ _ => true
  | .updConfirm _ _ _ => true
  | .fenceClear _ _ => true
  | .laneUnmask _ _ => true
  | .revoke _ _ => true
  | .debugAuth _ => true
  | .mgmtOpPanelReset _ => true
  | .mgmtOpHostReset _ => true
  | .mgmtOpManagementRestart _ => true
  | .mportFailover => true
  | .mportSwap _ _ => true
  | .stdWrite _ word _ => decide (word < 16384)
  | .healthHistoryWrite => true
  | .logFlush => true
  | .hostWindowWrite hcore _ _ _ => decide (hcore < 32)
  | .hostWindowRead hcore _ _ => decide (hcore < 32)
  | .wcFlush _ => true
  | .hostBridgeAnswer _ => true
  | .hostBridgeTimeout _ => true
  | .hostCtrlReset _ => true
  | .wdogKick _ => true
  | .hostWatchdogExpiry => true
  | .panelRstNAssert => true
  | .smbStatusRead => true
  | .smbVinRead => true
  | .smbPinRead => true
  | .smbEffCapRead => true
  | .smbTInRead => true
  | .smbTOutRead => true
  | .smbFlowRead => true
  | .smbHsMaxRead => true
  | .smbFruRead _ => true
  | .smbUnsupported _ => true
  | .telemetryPublish => true
  | .cageOverpower port => decide (port < 2)
  | .retrainComplete p => decide (p < 64)
  | .inputVoltageRestored _ => true
  | .vddCoreLevelReport g _ => decide (g < 36)
  | .hostComplexReady => true
  | .mgmtPortLinkChange port _ => decide (port < 2)
  | .sessionClose _ => true
  | .lRimDieFault die => decide (die < 16)
  | .rimRingSegmentFault die => decide (die < 16)
  | .keepAliveDomainFault g => decide (g < 36)
  | .hostCoreUncorrectableRead hcore => decide (hcore < 32)
  | .externalTapAccess segment _ => segment.wf

end Sys2Proof
end

