-- ==== Sys2Proof/Machine/Sha384.lean ====
section
/-! DEFINITION. SHA-384, which the manifest (R252), firmware (R311, R327) and attestation (R407) digests use. -/

namespace Sys2Proof.Machine

/-- The primes below `n`, by trial division. -/
def primesBelow (n : Nat) : List Nat :=
  (List.range n).filter (fun k => decide (2 ≤ k) && (List.range k).all (fun d => decide (d < 2) || decide (k % d ≠ 0)))

/-- The largest `r < 2^(n + 1)` above the bits found so far with `r^deg ≤ x`, bit by bit from bit `n` down. -/
def rootFrom (deg x : Nat) : Nat → Nat → Nat
  | 0, r => if (r + 1) ^ deg ≤ x then r + 1 else r
  | n + 1, r => rootFrom deg x n (if (r + 2 ^ (n + 1)) ^ deg ≤ x then r + 2 ^ (n + 1) else r)

/-- The first 64 bits of the fraction of the `deg`-th root of `p` (below 32). -/
def rootFraction (deg p : Nat) : W64 := BitVec.ofNat 64 (rootFrom deg (p * 2 ^ (64 * deg)) 68 0)

/-- Round constants: the cube roots of the first 80 primes. -/
def shaK : List W64 := (primesBelow 410).map (rootFraction 3)

/-- Initial hash value of SHA-384: the square roots of the ninth to sixteenth primes. -/
def shaInit : List W64 := (primesBelow 54).drop 8 |>.map (rootFraction 2)

/-- One word of a message schedule from the sixteen before it, newest last. -/
def shaWord (w : List W64) : W64 :=
  let a := w.getD 14 0
  let b := w.getD 1 0
  (a.rotateRight 19 ^^^ a.rotateRight 61 ^^^ (a >>> 6)) + w.getD 9 0
    + (b.rotateRight 1 ^^^ b.rotateRight 8 ^^^ (b >>> 7)) + w.getD 0 0

/-- One round: the working variables a to h, a round constant and a schedule word. -/
def shaRound (v : List W64) (k w : W64) : List W64 :=
  match v with
  | [a, b, c, d, e, f, g, h] =>
    let t1 := h + (e.rotateRight 14 ^^^ e.rotateRight 18 ^^^ e.rotateRight 41) + ((e &&& f) ^^^ (~~~e &&& g)) + k + w
    let t2 := (a.rotateRight 28 ^^^ a.rotateRight 34 ^^^ a.rotateRight 39) + ((a &&& b) ^^^ (a &&& c) ^^^ (b &&& c))
    [t1 + t2, a, b, c, d + t1, e, f, g]
  | _ => v

/-- The rounds of a block: the window of sixteen schedule words moves along the constants. -/
def shaRounds : List W64 → List W64 → List W64 → List W64
  | [], _, v => v
  | k :: ks, w, v => shaRounds ks (w.drop 1 ++ [shaWord w]) (shaRound v k (w.headD 0))

/-- A 64-bit word from eight bytes, the first most significant. -/
def shaBytes (l : List Byte) : W64 := l.foldl (fun (a : W64) b => (a <<< 8) ||| b.setWidth 64) 0

/-- The sixteen words of a block. -/
def shaBlock (l : List Byte) : List W64 := (List.range 16).map (fun i => shaBytes ((l.drop (8 * i)).take 8))

/-- Blocks taken one after another. -/
def shaBlocks : Nat → List Byte → List W64 → List W64
  | 0, _, h => h
  | n + 1, l, h => shaBlocks n (l.drop 128) (List.zipWith (· + ·) h (shaRounds shaK (shaBlock l) h))

/-- The message padded: a one bit, zeros, and the length in bits in 16 bytes. -/
def shaPad (l : List Byte) : List Byte :=
  let n := l.length
  l ++ 0x80 :: List.replicate ((239 - n % 128) % 128) 0
    ++ (List.range 16).map (fun i => BitVec.ofNat 8 (bitsOf (8 * n) (8 * (15 - i)) 8))

/-- SHA-384 of bytes, the first byte of the digest most significant. -/
def sha384 (l : List Byte) : BitVec 384 :=
  let m := shaPad l
  ((shaBlocks (m.length / 128) m shaInit).take 6).foldl (fun (a : BitVec 384) w => (a <<< 64) ||| w.setWidth 384) 0

end Sys2Proof.Machine
end

