-- ==== Sys2Proof/Config.lean ====
section
/-! DEFINITION. The free values: constants without a body. Each stands for something the specification leaves
open; nothing in Lean can evaluate one, so a claim about the model holds for every choice. -/

namespace Sys2Proof

/-- The value the hardware returns for a vector transcendental inside the bound of R101 (operation 0 exp, 1 log,
2 rcp, 3 rsqrt, 4 tanh, 5 sigm). The model takes it only where it meets the bound. Log entry 12. -/
opaque Config.transcendental (op : Nat) (x : W32) : W32

/-- A value the specification leaves open, fresh at each use: applied to `State.free`, which the use advances.
Log entry 13. -/
opaque Config.freeValue (n : Nat) : BitVec 64

/-- Whether the RSASSA-PSS signature under the public key of a key index verifies over a message (R402 step 3, R406): a
cryptographic fact the model does not compute. Log entry 14. -/
opaque Config.rsaValid (key : Nat) (message signature : List Byte) : Bool

/-- The same of the SLH-DSA-SHA2-192s signature (R402 step 4). Log entry 14. -/
opaque Config.slhValid (key : Nat) (message signature : List Byte) : Bool

/-- The RSASSA-PSS signature of the device identity key over a message, at the `n`-th use (R407). Log entry 14. -/
opaque Config.rsaSignature (n : Nat) (message : List Byte) : BitVec 3072

/-- The SLH-DSA signature of the device identity key over a message, at the `n`-th use (R407). Log entry 14. -/
opaque Config.slhSignature (n : Nat) (message : List Byte) : BitVec 129792

/-- A device identity certificate, by index (R407). Log entry 14. -/
opaque Config.certificate (n : Nat) : List Byte

/-- Byte `n` of the test kernel that grove runtime firmware holds (R259): 256 bundles whose encoding the specification
does not give. Log entry 33. -/
opaque Config.kernelByte (n : Nat) : Byte

/-- Byte of the FRU data (R428): the IPMI FRU information storage format, whose bytes the specification does not give,
with the module serial, the ordering option and the module build. Log entry 44. -/
opaque Config.fruByte (serial : W64) (option build : Byte) (offset : Nat) : Byte

/-- Type code of an understory SYNC message (R188): of SYNC_ADD (0), SYNC_SET (1), SYNC_NACK (2), which the specification
does not give. Log entry 101. -/
opaque Config.cnetCode (message : Nat) : BitVec 4

/-- The 30 check symbols of a codeword from its 5,140 message bits: R218 names RS(544,514) over GF(2^10) and gives neither
the field's polynomial nor the code's generator (log entry 108). -/
opaque Config.rsCheck (message : BitVec 5140) : BitVec 300

end Sys2Proof
end

