-- ==== Sys2Proof/Machine/Float.lean ====
section
/-! DEFINITION. Number formats and arithmetic (R81 to R107): exact dyadic values, the element formats, rounding,
conversion, the vector operations, microscaling blocks, the half-sums of the matrix array. -/

namespace Sys2Proof.Machine

/-- A decoded number: a NaN, an infinity, or an exact dyadic `± mag * 2^exp` (a zero keeps its sign). -/
inductive Num where
  | nan
  | inf (neg : Bool)
  | fin (neg : Bool) (mag : Nat) (exp : Int)
  deriving DecidableEq, Repr

/-- A floating format of R81: `fbits` fraction bits, exponent bias, the width, the code of the largest finite
magnitude, and whether codes above it are infinity and NaNs (IEEE), one NaN (E4M3) or none. -/
structure FloatFmt where
  width : Nat
  fbits : Nat
  bias : Nat
  maxCode : Nat
  /-- the magnitude code of infinity, if the format has one -/
  infCode : Option Nat
  /-- the magnitude code of the canonical NaN, if the format has one -/
  nanCode : Option Nat
  deriving DecidableEq, Repr

/-- FP32. -/
def fp32 : FloatFmt := ⟨32, 23, 127, 0x7F7FFFFF, some 0x7F800000, some 0x7FC00000⟩
/-- BF16. -/
def bf16 : FloatFmt := ⟨16, 7, 127, 0x7F7F, some 0x7F80, some 0x7FC0⟩
/-- FP16. -/
def fp16 : FloatFmt := ⟨16, 10, 15, 0x7BFF, some 0x7C00, some 0x7E00⟩
/-- FP8 E4M3: only S.1111.111 is a NaN; overflow saturates. -/
def e4m3 : FloatFmt := ⟨8, 3, 7, 0x7E, none, some 0x7F⟩
/-- FP8 E5M2. -/
def e5m2 : FloatFmt := ⟨8, 2, 15, 0x7B, some 0x7C, some 0x7E⟩
/-- FP6 E3M2. -/
def e3m2 : FloatFmt := ⟨6, 2, 3, 0x1F, none, none⟩
/-- FP6 E2M3. -/
def e2m3 : FloatFmt := ⟨6, 3, 1, 0x1F, none, none⟩
/-- FP4 E2M1. -/
def e2m1 : FloatFmt := ⟨4, 1, 1, 0x7, none, none⟩

/-- The value of a code of a floating format (R81). -/
def FloatFmt.decode (f : FloatFmt) (code : Nat) : Num :=
  let neg := (code >>> (f.width - 1)) % 2 = 1
  let m := code % 2 ^ (f.width - 1)
  if f.infCode = some m then .inf neg
  else if m > f.maxCode then .nan
  else
    let e := m >>> f.fbits
    if e = 0 then .fin neg m (1 - (f.bias : Int) - f.fbits)
    else .fin neg (2 ^ f.fbits + m % 2 ^ f.fbits) ((e : Int) - f.bias - f.fbits)

/-- How a conversion rounds (R88): to nearest even, or up when the random word is below the fraction (R90). -/
inductive Rounding where
  | nearestEven
  | stochastic (r : Nat)
  deriving DecidableEq, Repr

/-- `mag / 2^shift` rounded to an integer. -/
def roundShift (rnd : Rounding) (mag shift : Nat) : Nat :=
  let lo := mag >>> shift
  let rem := mag % 2 ^ shift
  match rnd with
  | .nearestEven =>
    if 2 * rem > 2 ^ shift then lo + 1
    else if 2 * rem = 2 ^ shift ∧ lo % 2 = 1 then lo + 1
    else lo
  | .stochastic r => if r < (rem * 2 ^ 32) >>> shift then lo + 1 else lo

/-- `mag * 2^exp` rounded to an integer. -/
def roundInt (rnd : Rounding) (mag : Nat) (exp : Int) : Nat :=
  if 0 ≤ exp then mag * 2 ^ exp.toNat else roundShift rnd mag (-exp).toNat

/-- The magnitude code of `mag * 2^exp` rounded in the format with its exponent unbounded above and its subnormals
kept (R88). Codes grow with the magnitude, so overflow is a comparison with `maxCode`. -/
def FloatFmt.roundCode (f : FloatFmt) (rnd : Rounding) (mag : Nat) (exp : Int) : Nat :=
  if mag = 0 then 0
  else
    let top : Int := (Nat.log2 mag : Int) + exp
    let qmin : Int := 1 - (f.bias : Int) - f.fbits
    let q : Int := max (top - f.fbits) qmin
    let n := roundInt rnd mag (exp - q)
    if n < 2 ^ f.fbits then n
    else
      let (n, q) := if n = 2 ^ (f.fbits + 1) then (2 ^ f.fbits, q + 1) else (n, q)
      ((q + f.fbits + f.bias).toNat) * 2 ^ f.fbits + (n - 2 ^ f.fbits)

/-- The sign bit of a code. -/
def FloatFmt.sign (f : FloatFmt) (neg : Bool) : Nat := if neg then 2 ^ (f.width - 1) else 0

/-- The code of a value converted to a floating format (R88): out-of-range and special values by its table.
`nanNeg` is the sign of a NaN input, which only E4M3 keeps. -/
def FloatFmt.encode (f : FloatFmt) (rnd : Rounding) (nanNeg : Bool) : Num → Nat
  | .nan =>
    match f.infCode, f.nanCode with
    | some _, some c => c
    | none, some c => c + f.sign nanNeg
    | _, none => 0
  | .inf neg => f.sign neg + (f.infCode.getD f.maxCode)
  | .fin neg mag exp =>
    let c := f.roundCode rnd mag exp
    f.sign neg + (if c > f.maxCode then f.infCode.getD f.maxCode else c)

/-- The FP32 word nearest to a value; any NaN is canonical (R98). -/
def toF32 (n : Num) : W32 := BitVec.ofNat 32 (fp32.encode .nearestEven false n)

/-- The value of an FP32 word. -/
def ofF32 (x : W32) : Num := fp32.decode x.toNat

/-- The canonical NaN of FP32. -/
def canonNaN : W32 := 0x7FC00000#32

/-- The signed magnitude of a finite number at a lower exponent. -/
def scaledInt (neg : Bool) (mag : Nat) (exp low : Int) : Int :=
  let m : Int := ((mag * 2 ^ (exp - low).toNat : Nat) : Int)
  if neg then -m else m

/-- The exact sum; zero signs as IEEE 754 gives them to nearest even (R94, R98). -/
def Num.add : Num → Num → Num
  | .nan, _ => .nan
  | _, .nan => .nan
  | .inf a, .inf b => if a = b then .inf a else .nan
  | .inf a, .fin _ _ _ => .inf a
  | .fin _ _ _, .inf b => .inf b
  | .fin na ma ea, .fin nb mb eb =>
    let low := min ea eb
    let s := scaledInt na ma ea low + scaledInt nb mb eb low
    if s = 0 then .fin (na && nb) 0 0 else .fin (decide (s < 0)) s.natAbs low

/-- The exact product. -/
def Num.mul : Num → Num → Num
  | .nan, _ => .nan
  | _, .nan => .nan
  | .inf a, .inf b => .inf (a != b)
  | .inf a, .fin nb mb _ => if mb = 0 then .nan else .inf (a != nb)
  | .fin na ma _, .inf b => if ma = 0 then .nan else .inf (na != b)
  | .fin na ma ea, .fin nb mb eb => .fin (na != nb) (ma * mb) (ea + eb)

/-- Negation. -/
def Num.neg : Num → Num
  | .nan => .nan
  | .inf a => .inf (!a)
  | .fin n m e => .fin (!n) m e

/-- Multiplication by `2^k`, exactly. -/
def Num.scale (k : Int) : Num → Num
  | .fin n m e => .fin n m (e + k)
  | x => x

/-- Whether a number is a NaN. -/
def Num.isNaN : Num → Bool
  | .nan => true
  | _ => false

/-- A total preorder key for numbers that are not NaN: the sign of `x - y`. -/
def Num.cmp : Num → Num → Int
  | .inf a, .inf b => if a = b then 0 else if a then -1 else 1
  | .inf a, .fin _ _ _ => if a then -1 else 1
  | .fin _ _ _, .inf b => if b then 1 else -1
  | .fin na ma ea, .fin nb mb eb =>
    let low := min ea eb
    (scaledInt na ma ea low - scaledInt nb mb eb low).sign
  | _, _ => 0

/-- FP32 addition (R98). -/
def f32Add (a b : W32) : W32 := toF32 ((ofF32 a).add (ofF32 b))
/-- FP32 subtraction (R98). -/
def f32Sub (a b : W32) : W32 := toF32 ((ofF32 a).add (ofF32 b).neg)
/-- FP32 multiplication (R98). -/
def f32Mul (a b : W32) : W32 := toF32 ((ofF32 a).mul (ofF32 b))
/-- FP32 fused multiply-add, one rounding (R98). -/
def f32Fma (a b c : W32) : W32 := toF32 (((ofF32 a).mul (ofF32 b)).add (ofF32 c))

/-- The sign bit of a word. -/
def wordNeg (a : W32) : Bool := a.getLsbD 31

/-- Whether `a` is below `b` with −0 below +0; neither is a NaN (R99). -/
def f32Below (a b : W32) : Bool :=
  let c := (ofF32 a).cmp (ofF32 b)
  decide (c < 0) || (decide (c = 0) && wordNeg a && !wordNeg b)

/-- FP32 minimum (R99). -/
def f32Min (a b : W32) : W32 :=
  if (ofF32 a).isNaN || (ofF32 b).isNaN then canonNaN else if f32Below b a then b else a
/-- FP32 maximum (R99). -/
def f32Max (a b : W32) : W32 :=
  if (ofF32 a).isNaN || (ofF32 b).isNaN then canonNaN else if f32Below a b then b else a

/-- The three compares of R54 and R99. -/
inductive Cmp where
  | eq | lt | le
  deriving DecidableEq, Repr

/-- Whether a three-way result meets a compare. -/
def Cmp.holds (k : Cmp) (c : Int) : Bool :=
  match k with
  | .eq => decide (c = 0)
  | .lt => decide (c < 0)
  | .le => decide (c ≤ 0)

/-- FP32 compare: false with a NaN, −0 equal to +0 (R99). -/
def f32Cmp (k : Cmp) (a b : W32) : Bool :=
  !(ofF32 a).isNaN && !(ofF32 b).isNaN && k.holds ((ofF32 a).cmp (ofF32 b))

/-- INT32 compare, signed (R100). -/
def i32Cmp (k : Cmp) (a b : W32) : Bool := k.holds (a.toInt - b.toInt)

/-- FP32 absolute value: only the sign bit (R99). -/
def f32Abs (a : W32) : W32 := a &&& 0x7FFFFFFF#32
/-- FP32 negation: only the sign bit (R99). -/
def f32Neg (a : W32) : W32 := a ^^^ 0x80000000#32

/-- One level of the reduction tree of R102: adjacent values combined. -/
def treeLevel (f : W32 → W32 → W32) : List W32 → List W32
  | a :: b :: l => f a b :: treeLevel f l
  | l => l

/-- The six levels over 64 values (R102). -/
def tree6 (f : W32 → W32 → W32) (l : List W32) : W32 :=
  let t := treeLevel f
  ((t (t (t (t (t (t l)))))).head?).getD 0

/-- Sum of the lanes in the fixed tree (R102). -/
def f32Sum (l : List W32) : W32 := tree6 f32Add l

/-- Maximum of the lanes (R102). -/
def f32MaxAll (l : List W32) : W32 := tree6 f32Max l

/-! ## Transcendentals (R101) -/

/-- Fixed-point precision of the reference evaluations, in bits. -/
def fixBits : Nat := 700

/-- The natural logarithm of 2 times `2^768`, rounded down. -/
def ln2Fix768 : Nat := 1076123538446541333968489415169508432842224177958106255750164252522041785147201710082978113221671954702078954257097489908144997250800824807918110090822149185963696392723534394238453863706452940795345033951805530581513038384565057355

/-- The natural logarithm of 2 in fixed point. -/
def ln2Fix : Int := ((ln2Fix768 >>> (768 - fixBits) : Nat) : Int)

/-- Fixed-point product, rounded down. -/
def fixMul (a b : Int) : Int := (a * b) / (2 ^ fixBits : Int)

/-- `acc + term + term r / n + …`, the Taylor series of the exponential from term `n`. -/
def expSeries (r : Int) : Nat → Nat → Int → Int → Int
  | 0, _, _, acc => acc
  | fuel + 1, n, term, acc =>
    let t := fixMul term r / (n : Int)
    expSeries r fuel (n + 1) t (acc + t)

/-- A fixed-point value of a finite number (bits below the precision dropped). -/
def toFix (neg : Bool) (mag : Nat) (exp : Int) : Int :=
  let e := exp + fixBits
  let m : Int := if 0 ≤ e then ((mag * 2 ^ e.toNat : Nat) : Int) else ((mag >>> (-e).toNat : Nat) : Int)
  if neg then -m else m

/-- `e^x` of a fixed-point `x` as a mantissa in fixed point and a power of two. -/
def expFix (x : Int) : Int × Int :=
  let k := (x + ln2Fix / 2) / ln2Fix
  let r := x - k * ln2Fix
  let one : Int := 2 ^ fixBits
  (expSeries r 140 1 one one, k)

/-- `s + s^3/3 + s^5/5 + …` from term `n`. -/
def atanhSeries (s2 : Int) : Nat → Nat → Int → Int → Int
  | 0, _, _, acc => acc
  | fuel + 1, n, pow, acc =>
    let p := fixMul pow s2
    atanhSeries s2 fuel (n + 2) p (acc + p / (n : Int))

/-- The natural logarithm of `mag * 2^exp > 0` in fixed point. -/
def logFix (mag : Nat) (exp : Int) : Int :=
  let l := Nat.log2 mag
  let one : Int := 2 ^ fixBits
  let m : Int := ((mag * 2 ^ fixBits / 2 ^ l : Nat) : Int)
  let (m, k) : Int × Int := if m * m > 2 * one * one then (m / 2, (l : Int) + exp + 1) else (m, (l : Int) + exp)
  let s := (m - one) * one / (m + one)
  k * ln2Fix + 2 * atanhSeries (fixMul s s) 150 3 s s

/-- The reference value of a transcendental at a finite nonzero `x`, as `± mag * 2^exp`: within `2^-500` of the
exact result, relative to it. `none` where the operation has no real result there. -/
def transRef (op : Nat) (neg : Bool) (mag : Nat) (exp : Int) : Option Num :=
  let one : Int := 2 ^ fixBits
  let fb : Int := fixBits
  let big : Bool := (Nat.log2 mag : Int) + exp ≥ 8
  match op with
  | 0 => -- exp: beyond ±256 the result is far outside the format, whatever the tail
    if big then some (if neg then .fin false 1 (-400) else .fin false 1 400)
    else
      let (m, k) := expFix (toFix neg mag exp)
      some (.fin false m.natAbs (k - fb))
  | 1 => if neg then none else
      let v := logFix mag exp
      some (.fin (decide (v < 0)) v.natAbs (-fb))
  | 2 => some (.fin neg (2 ^ fixBits * 2 ^ Nat.log2 mag / mag) (-(exp + Nat.log2 mag) - fb))
  | 3 => if neg then none else
      -- 1/√(m 2^e) with an even exponent: √(2^1400 / m) 2^(-e/2 - 700)
      let (m, e) := if exp % 2 = 0 then (mag, exp) else (2 * mag, exp - 1)
      some (.fin false (Nat.sqrt (2 ^ 1400 / m)) (-(e / 2) - 700))
  | 4 =>
    if big then some (.fin neg (2 ^ fixBits - 1) (-fb))
    else
      let (m, k) := expFix (2 * toFix false mag exp)
      let e2 : Int := if 0 ≤ k then m * 2 ^ k.toNat else m / 2 ^ (-k).toNat
      some (.fin neg (((e2 - one) * one / (e2 + one)).natAbs) (-fb))
  | _ =>
    if big then some (if neg then .fin false 1 (-400) else .fin false (2 ^ fixBits - 1) (-fb))
    else
      -- 1/(1 + e^-x) = e^x/(1 + e^x)
      let (m, k) := expFix (toFix neg mag exp)
      let ex : Int := if 0 ≤ k then m * 2 ^ k.toNat else m / 2 ^ (-k).toNat
      some (.fin false ((ex * one / (one + ex)).natAbs) (-fb))

/-- The bound of R101 in units in the last place of the exact result. -/
def transBound (op : Nat) : Nat :=
  match op with
  | 0 => 2 | 1 => 2 | 2 => 1 | 3 => 1 | 4 => 3 | _ => 3

/-- `|y - x| ≤ bound * ulp(x)`, ulp as R101 defines it, with a slack of `2^-420` ulp for the reference's own error: no
value of the format lies so near the bound's edge without lying on it (log entry 12). -/
def withinUlp (bound : Nat) (x y : Num) : Bool :=
  match x, y with
  | .fin nx mx ex, .fin ny my ey =>
    let ulp : Int := if mx = 0 then -149 else max ((Nat.log2 mx : Int) + ex) (-126) - 23
    let low := min (min ex ey) (ulp - 420)
    let d := (scaledInt nx mx ex low - scaledInt ny my ey low).natAbs
    decide (d ≤ (bound * 2 ^ 420 + 1) * 2 ^ (ulp - 420 - low).toNat)
  | _, _ => false

/-- The result at a finite nonzero input: the hardware's free value where it meets the bound, infinity or zero of
the exact result's sign where that lies outside the format (R101). -/
def transFinite (op : Nat) (x : W32) (ref : Num) : W32 :=
  match ref with
  | .fin neg mag exp =>
    let top : Int := (Nat.log2 mag : Int) + exp
    -- magnitude above the largest finite value
    if (Num.fin false mag exp).cmp (fp32.decode fp32.maxCode) > 0 then toF32 (.inf neg)
    else if mag ≠ 0 ∧ top < -149 then toF32 (.fin neg 0 0)
    else
      let y := Config.transcendental op x
      if withinUlp (transBound op) ref (ofF32 y) then y else toF32 ref
  | n => toF32 n

/-- A vector transcendental on one lane (R101): special inputs give exactly the results of its table. -/
def transcend (op : Nat) (x : W32) : W32 :=
  match ofF32 x with
  | .nan => canonNaN
  | .inf neg =>
    match op with
    | 0 => if neg then 0 else toF32 (.inf false)
    | 1 => if neg then canonNaN else toF32 (.inf false)
    | 2 => toF32 (.fin neg 0 0)
    | 3 => if neg then canonNaN else 0
    | 4 => if neg then 0xBF800000#32 else 0x3F800000#32
    | _ => if neg then 0 else 0x3F800000#32
  | .fin neg mag exp =>
    if mag = 0 then
      match op with
      | 0 => 0x3F800000#32
      | 1 => toF32 (.inf true)
      | 2 => toF32 (.inf neg)
      | 3 => toF32 (.inf neg)
      | 4 => x
      | _ => 0x3F000000#32
    else if op = 1 ∧ x = 0x3F800000#32 then 0
    else
      match transRef op neg mag exp with
      | none => canonNaN
      | some ref => transFinite op x ref

/-! ## The stochastic generator (R91) -/

/-- The step of the generator state. -/
def srGamma : W64 := 0x9E3779B97F4A7C15#64

/-- The random word of lane `i` for a generator state (R91). -/
def srWord (state : W64) (i : Nat) : W32 :=
  let z := state + BitVec.ofNat 64 (i + 1) * srGamma
  let z := (z ^^^ (z >>> 30)) * 0xBF58476D1CE4E5B9#64
  let z := (z ^^^ (z >>> 27)) * 0x94D049BB133111EB#64
  let z := z ^^^ (z >>> 31)
  z.extractLsb' 32 32

/-- The generator state after a draw (R91). -/
def srNext (state : W64) : W64 := state + 64#64 * srGamma

/-! ## Format codes and packed layouts (R42, R85, R86) -/

/-- An element type behind a format code: a floating format, or an integer with an implied scale `2^-k` (R82). -/
inductive Elem where
  | float (f : FloatFmt)
  | int (width : Nat) (k : Nat)
  deriving DecidableEq, Repr

/-- What a format code of R42 names: its element type, width in bits, and whether it has MX block scales. -/
structure Format where
  elem : Elem
  width : Nat
  mx : Bool
  deriving DecidableEq, Repr

/-- The formats by code (R42); the reserved codes name none. -/
def formatOf (code : Nat) : Option Format :=
  match code with
  | 0 => some ⟨.float fp32, 32, false⟩
  | 1 => some ⟨.float bf16, 16, false⟩
  | 2 => some ⟨.float fp16, 16, false⟩
  | 3 => some ⟨.float e4m3, 8, false⟩
  | 4 => some ⟨.float e5m2, 8, false⟩
  | 5 => some ⟨.int 8 0, 8, false⟩
  | 6 => some ⟨.float e4m3, 8, true⟩
  | 7 => some ⟨.float e5m2, 8, true⟩
  | 8 => some ⟨.float e3m2, 6, true⟩
  | 9 => some ⟨.float e2m3, 6, true⟩
  | 10 => some ⟨.float e2m1, 4, true⟩
  | 11 => some ⟨.int 8 6, 8, true⟩
  | 12 => some ⟨.int 4 2, 4, true⟩
  | 13 => some ⟨.int 32 0, 32, false⟩
  | _ => none

/-- Whether a format code is an integer format of the matrix array (R57). -/
def isIntFormat (code : Nat) : Bool := code = 5 || code = 11 || code = 12

/-- The value of an element code (R81, R82). -/
def Elem.value (e : Elem) (code : Nat) : Num :=
  match e with
  | .float f => f.decode code
  | .int w k =>
    let v := signedOf w code
    .fin (decide (v < 0)) v.natAbs (-(k : Int))

/-- The value of an element under its block's scale code (R83). -/
def scaledValue (e : Elem) (code scale : Nat) : Num :=
  if scale = 0xFF then .nan else (e.value code).scale ((scale : Int) - 127)

/-- Elements per part of a packed register is 64; parts of a format (R86), by code. -/
def partsOf (code : Nat) : Nat :=
  if code = 1 ∨ code = 2 then 2 else if 3 ≤ code ∧ code ≤ 5 then 4 else if 6 ≤ code ∧ code ≤ 12 then 2 else 1

/-- The block-scale byte of part `p`, block `b` of a packed MX register: lane 63 (R86). -/
def partScale (packed : Nat) (p b : Nat) : Nat := bitsOf packed (63 * 32 + 16 * p + 8 * b) 8

/-- The FP32 value of element `n` of part `p` of a packed register (R86, R89). -/
def unpackElem (code : Nat) (packed p n : Nat) : W32 :=
  match formatOf code with
  | none => 0
  | some f =>
    let c := bitsOf packed (f.width * (64 * p + n)) f.width
    let v := if f.mx then scaledValue f.elem c (partScale packed p (n / 32)) else f.elem.value c
    toF32 v

/-- v.unpk: part `p` of a packed register as 64 FP32 lanes (R89). -/
def unpack (code : Nat) (packed : Vec) (p : Nat) : Vec := Vec.ofLanes (unpackElem code packed.toNat p)

/-- The code of a value converted to an element type after scaling (R88, R96). -/
def Elem.encode (e : Elem) (mx : Bool) (rnd : Rounding) (nanNeg : Bool) (v : Num) : Nat :=
  match e with
  | .float f =>
    let c := f.encode rnd nanNeg v
    -- inside an MX block every element type saturates (R81)
    match v with
    | .fin neg _ _ => if mx ∧ f.infCode = some (c % 2 ^ (f.width - 1)) then f.sign neg + f.maxCode else c
    | _ => c
  | .int w k =>
    let hi : Nat := 2 ^ (w - 1) - 1
    let lo : Nat := if mx then hi else hi + 1
    match v with
    | .nan => 0
    | .inf neg => if neg then 2 ^ w - lo else hi
    | .fin neg mag exp =>
      let n := roundInt rnd mag (exp + k)
      if neg then (if n = 0 then 0 else 2 ^ w - min n lo) else min n hi

/-- Conversion of one FP32 word to a non-MX format code (R88). -/
def convertWord (code : Nat) (rnd : Rounding) (x : W32) : Nat :=
  match formatOf code with
  | none => 0
  | some f => f.elem.encode false rnd (wordNeg x) (ofF32 x)

/-- v.cvt, and m.cvt to a non-MX format: 64 elements packed from lane 0 upward (R86). -/
def convertPacked (code : Nat) (rnd : Nat → Rounding) (v : Vec) : Vec :=
  match formatOf code with
  | none => 0
  | some f => BitVec.ofNat 2048 (packDigits f.width (fun i => convertWord code (rnd i) (v.lane i)) 64)

/-- The constants of the scale rules: the exponent `emax` and the largest value `Vmax` as `mag * 2^exp`. -/
def scaleConst (e : Elem) : Int × Nat × Int :=
  match e with
  | .float f =>
    match f.decode f.maxCode with
    | .fin _ m x => ((Nat.log2 m : Int) + x, m, x)
    | _ => (0, 0, 0)
  | .int w k => (0, 2 ^ (w - 1) - 1, -(k : Int))

/-- Comparison of `mag * 2^exp` with `mag' * 2^exp'`. -/
def leDyadic (mag : Nat) (exp : Int) (mag' : Nat) (exp' : Int) : Bool :=
  let low := min exp exp'
  decide (mag * 2 ^ (exp - low).toNat ≤ mag' * 2 ^ (exp' - low).toNat)

/-- The block scale exponent X of R96 for a nonzero finite largest magnitude `mag * 2^exp`. -/
def scaleExp (srule : Nat) (e : Elem) (mag : Nat) (exp : Int) : Int :=
  let (emax, vm, vx) := scaleConst e
  let top : Int := (Nat.log2 mag : Int) + exp
  let floorX := top - emax
  match srule with
  | 1 => if leDyadic mag (exp - floorX) vm vx then floorX else floorX + 1
  | 2 =>
    -- amax / 2^floorX rounded to nearest even in the element type with unbounded exponent
    let above : Bool := match e with
      | .float f => decide (f.roundCode .nearestEven mag (exp - floorX) > f.maxCode)
      | .int w k => decide (roundInt .nearestEven mag (exp - floorX + k) > 2 ^ (w - 1) - 1)
    if above then floorX + 1 else floorX
  | _ => floorX

/-- The largest magnitude of a block; `none` when it holds a NaN or an infinity. -/
def blockMax : List Num → Option (Nat × Int)
  | [] => some (0, 0)
  | .fin _ m e :: l =>
    match blockMax l with
    | none => none
    | some (m', e') => if leDyadic m' e' m e then some (m, e) else some (m', e')
  | _ :: _ => none

/-- One MX block of 32 FP32 words converted (R96): its scale code and element codes. -/
def convertBlock (srule : Nat) (e : Elem) (rnd : Nat → Rounding) (x : Nat → W32) : Nat × (Nat → Nat) :=
  match blockMax ((List.range 32).map (fun i => ofF32 (x i))) with
  | none => (0xFF, fun _ => 0)
  | some (m, ex) =>
    if m = 0 then
      (0x7F, fun i => match e with
        | .float f => f.sign (wordNeg (x i))
        | .int _ _ => 0)
    else
      let raw := scaleExp srule e m ex
      let X : Int := if raw < -127 then -127 else if raw > 127 then 127 else raw
      ((X + 127).toNat, fun i => e.encode true (rnd i) false ((ofF32 (x i)).scale (-X)))

/-- m.cvt of a row: packed into a vector register, MX scales in lane 63 (R86, R96). -/
def convertRow (code srule : Nat) (rnd : Nat → Rounding) (row : Vec) : Vec :=
  match formatOf code with
  | none => 0
  | some f =>
    if f.mx then
      let b0 := convertBlock srule f.elem rnd (fun i => row.lane i)
      let b1 := convertBlock srule f.elem (fun i => rnd (32 + i)) (fun i => row.lane (32 + i))
      let bits := packDigits f.width (fun i => if i < 32 then b0.2 i else b1.2 (i - 32)) 64
      BitVec.ofNat 2048 (bits + (b0.1 + b1.1 * 256) * 2 ^ (63 * 32))
    else convertPacked code rnd row

/-! ## The matrix array (R85, R93 to R95) -/

/-- Bytes of an activation vector's footprint in scratchpad (R85). -/
def activationBytes (code : Nat) : Nat :=
  if code = 1 ∨ code = 2 then 128 else if 3 ≤ code ∧ code ≤ 5 then 64
  else if code = 6 ∨ code = 7 ∨ code = 11 then 96 else 64

/-- Scratchpad words of an activation footprint that hold elements or scales; those after them are pad (R85). -/
def activationWords (code : Nat) : Nat :=
  match formatOf code with
  | none => 0
  | some f => (8 * f.width + (if f.mx then 2 else 0) + 3) / 4

/-- Bytes of a weight block's footprint (R58, R85). -/
def weightBytes (code : Nat) : Nat :=
  match formatOf code with
  | none => 0
  | some f => 512 * f.width + (if f.mx then 128 else 0)

/-- Element `n` of an activation footprint. -/
def activationElem (code : Nat) (bytes n : Nat) : Num :=
  match formatOf code with
  | none => .fin false 0 0
  | some f =>
    let c := bitsOf bytes (f.width * n) f.width
    if f.mx then scaledValue f.elem c (bitsOf bytes (64 * f.width + 8 * (n / 32)) 8) else f.elem.value c

/-- Element W[k][j] of a weight block held as its footprint's bytes (R84, R85). -/
def weightElem (code : Nat) (block k j : Nat) : Num :=
  match formatOf code with
  | none => .fin false 0 0
  | some f =>
    let c := bitsOf block (f.width * (64 * j + k)) f.width
    if f.mx then scaledValue f.elem c (bitsOf block (4096 * f.width + 8 * (2 * j + k / 32)) 8) else f.elem.value c

/-- The exact sum of a list of products; the sum of one product is itself. -/
def sumNums : List Num → Num
  | [] => .fin false 0 0
  | [x] => x
  | x :: l => x.add (sumNums l)

/-- The half-sum h_b of column `j` (R93, R94), rounded once to FP32. -/
def halfSum (fa fw : Nat) (act block : Nat) (j b : Nat) : W32 :=
  toF32 (sumNums ((List.range 32).map (fun i =>
    (activationElem fa act (32 * b + i)).mul (weightElem fw block (32 * b + i) j))))

/-- The new row of an accumulator: fl(fl(c + h0) + h1) per column (R93). -/
def mmulRow (fa fw : Nat) (act block : Nat) (prev : Vec) : Vec :=
  Vec.ofLanes (fun j => f32Add (f32Add (prev.lane j) (halfSum fa fw act block j 0)) (halfSum fa fw act block j 1))

/-- Occupancy O of an m.mmul of `count` vectors: the slower class of its formats (R57). -/
def mmulOccupancy (fa fw count : Nat) : Nat :=
  let half (c : Nat) : Bool := c = 1 || c = 2
  let double (c : Nat) : Bool := c = 10 || c = 12
  if half fa || half fw then 2 * count
  else if double fa && double fw then (count + 1) / 2
  else count

/-- Lw of an m.ldw (R58). -/
def ldwCycles (code : Nat) : Nat := (weightBytes code + 127) / 128

/-! ## Element-wise addition in the network (R107) -/

/-- BF16 addition, canonical NaN 0x7FC0 (R107). -/
def bf16Add (a b : Nat) : Nat := bf16.encode .nearestEven false ((bf16.decode a).add (bf16.decode b))

/-- Two 256-byte payloads added element by element in the declared format: FP32, or BF16 (R107). -/
def payloadAdd (useBf16 : Bool) (a b : Vec) : Vec :=
  if useBf16 then
    BitVec.ofNat 2048 (packDigits 16 (fun i => bf16Add (bitsOf a.toNat (16 * i) 16) (bitsOf b.toNat (16 * i) 16)) 128)
  else Vec.ofLanes (fun i => f32Add (a.lane i) (b.lane i))

end Sys2Proof.Machine
end

