-- ==== Sys2Proof/Machine/Sparse.lean ====
section
/-! DEFINITION. Sparse maps in one canonical form: pairs with strictly rising keys and no pair whose value is
the one an unlisted key reads as. Equal maps are equal lists. -/

namespace Sys2Proof.Machine

/-- A sparse map from natural numbers. -/
abbrev SMap (α : Type) := List (Nat × α)

/-- The value at `k`; `d` is what an unlisted key reads as. -/
def SMap.get {α : Type} (d : α) : SMap α → Nat → α
  | [], _ => d
  | (j, v) :: m, k => if k = j then v else SMap.get d m k

/-- The map with the entry of `k` taken out. -/
def SMap.erase {α : Type} : SMap α → Nat → SMap α
  | [], _ => []
  | (j, v) :: m, k => if k = j then SMap.erase m k else (j, v) :: SMap.erase m k

/-- The map with `v` at `k`, listed whatever `v` is. -/
def SMap.insert {α : Type} : SMap α → Nat → α → SMap α
  | [], k, v => [(k, v)]
  | (j, w) :: m, k, v =>
    if k = j then (k, v) :: m else if k < j then (k, v) :: (j, w) :: m else (j, w) :: SMap.insert m k v

/-- The map with `v` at `k`: a value that an unlisted key reads as takes its entry out. -/
def SMap.put {α : Type} [DecidableEq α] (d : α) (m : SMap α) (k : Nat) (v : α) : SMap α :=
  if v = d then m.erase k else m.insert k v

/-- Whether a key lies above a bound, if there is one. -/
def SMap.above : Option Nat → Nat → Bool
  | none, _ => true
  | some l, k => decide (l < k)

/-- Keys strictly rise, all above `lo`, and no entry equals what its key reads as when unlisted. -/
def SMap.wfFrom {α : Type} [DecidableEq α] (d : Nat → α) : Option Nat → SMap α → Bool
  | _, [] => true
  | lo, (k, v) :: m =>
    SMap.above lo k && decide (v ≠ d k) && SMap.wfFrom d (some k) m

/-- The canonical form of a sparse map. -/
def SMap.wf {α : Type} [DecidableEq α] (d : Nat → α) (m : SMap α) : Bool := SMap.wfFrom d none m

/-- A set of natural numbers, held as a strictly rising list. -/
abbrev NSet := List Nat

/-- Membership. -/
def NSet.has : NSet → Nat → Bool
  | [], _ => false
  | j :: m, k => if k = j then true else NSet.has m k

/-- The set with `k` added. -/
def NSet.add : NSet → Nat → NSet
  | [], k => [k]
  | j :: m, k => if k = j then j :: m else if k < j then k :: j :: m else j :: NSet.add m k

/-- The set with `k` taken out. -/
def NSet.del : NSet → Nat → NSet
  | [], _ => []
  | j :: m, k => if k = j then NSet.del m k else j :: NSet.del m k

/-- The list with element `n` taken out. -/
def removeAt {α : Type} : List α → Nat → List α
  | [], _ => []
  | _ :: l, 0 => l
  | x :: l, n + 1 => x :: removeAt l n

/-- The list with element `n` replaced. -/
def replaceAt {α : Type} : List α → Nat → α → List α
  | [], _, _ => []
  | _ :: l, 0, y => y :: l
  | x :: l, n + 1, y => x :: replaceAt l n y

end Sys2Proof.Machine
end

