-- ==== Sys2Proof/Machine/State.lean ====
section
/-! DEFINITION. The state of the panel: every register, memory, queue, buffer, counter, mode and pin the
specification gives it, as plain data; why a step can stop; and the state at reset.

Control-space registers are one sparse map of 64-bit words from canonical control-space addresses (R27, the aliases
of R28 and R250 folded to one address); an unlisted register holds the reset value its table gives
(Sys2Proof/Machine/Regs.lean). Everything else has a field of its own below. -/

namespace Sys2Proof.Machine

/-- A memory: bytes by address, addresses strictly rising, no byte equal to 0, which an unlisted byte reads as. -/
abbrev Mem := List Host.Cell

/-- Why a command stops with a fault. -/
inductive Fault where
  /-- The command names an instance that the panel does not have: a position index above 575, a core above 7, a
  controller above 49, a port above 63, a grove above 35, a partition above 15 (R14, R16, R27). Raised by `exec`
  for every command whose operands break `Instr.wf`. Safe: no agent of the panel can send such a command. -/
  | noSuchUnit
  deriving DecidableEq, Repr

/-- Why a command is refused. -/
inductive Refusal where
  /-- The command has no meaning yet. Raised by no meaning. Safe: the run ends. -/
  | notModelled (mnemonic : String)
  deriving DecidableEq, Repr

/-! ## Pedun cores (R37) -/

/-- A scalar register: its value and a poison bit per 32-bit half (R37). -/
structure PVal where
  val : W64
  poison : BitVec 2
  deriving DecidableEq, Repr

/-- A vector register: its lanes and a poison bit per lane (R37). -/
structure PVec where
  val : Vec
  poison : Lanes
  deriving DecidableEq, Repr

/-- A weight buffer: the bytes loaded and a poison bit per 32-bit word (R37). -/
structure WBuf where
  bytes : BitVec 65536
  poison : BitVec 2048
  deriving DecidableEq, Repr

/-- A stream descriptor (R37, R62). -/
structure Stream where
  base : BitVec 48
  stride : BitVec 24
  count : BitVec 16
  pos : BitVec 16
  feeder : BitVec 2
  fmt : BitVec 4
  dir : Bool
  deriving DecidableEq, Repr

/-- An active hardware loop level (R70). -/
structure Loop where
  start : BitVec 11
  stop : BitVec 11
  count : BitVec 32
  deriving DecidableEq, Repr

/-- Where a result lands. -/
inductive Dst where
  /-- scalar register -/
  | sreg (n : Nat)
  /-- predicate register -/
  | preg (n : Nat)
  /-- vector register, the lanes set in the write's mask -/
  | vreg (n : Nat)
  /-- row of an accumulator -/
  | accRow (a row : Nat)
  /-- all rows of an accumulator -/
  | accAll (a : Nat)
  /-- control register by its index (the effect of an s.mtcr) -/
  | ctl (index : Nat)
  deriving DecidableEq, Repr

/-- A result on its way to its destination: a bundle issued in local cycle `due` or later reads it (R44). -/
structure Pend where
  due : Nat
  dst : Dst
  mask : Lanes
  val : Vec
  poison : Lanes
  deriving DecidableEq, Repr

/-- What an outstanding posted T-slot operation is (R63, R66). -/
inductive PostKind where
  | store | send | fill | copy | add | wopen | wclose | mov | gather | scatter
  deriving DecidableEq, Repr

/-- An outstanding posted operation of a core. -/
structure Posted where
  id : Nat
  kind : PostKind
  /-- local cycle in which the order of R66 before it was met, where it had to wait for it -/
  met : Option Nat
  deriving DecidableEq, Repr

/-- The fetches of one m.ldw or m.mmul (R115). -/
structure FeedJob where
  /-- issue cycle -/
  at_ : Nat
  /-- scratchpad offset of element POS, and the signed stride between elements -/
  base : Nat
  stride : Int
  fmt : Nat
  /-- fetches in all, and fetches made -/
  total : Nat
  done : Nat
  /-- weight buffer named -/
  wb : Nat
  /-- m.mmul: accumulator, CLR, weight format -/
  acc : Nat
  clr : Bool
  fmtW : Nat
  /-- bundle index of the instruction, and the activation vectors fetched, oldest first -/
  pc : Nat
  acts : List Nat
  deriving DecidableEq, Repr

/-- The M-slot spacings of R58 still to be met, as the first local cycle in which each is. -/
structure MTime where
  ldwFree : Nat
  mmulFree : Nat
  wbReady : SMap Nat
  wbFree : SMap Nat
  accRead : SMap Nat
  accUse : SMap Nat
  streamBusy : SMap Nat
  deriving DecidableEq, Repr

/-- Why a core stalls (R46). -/
inductive Stall where
  | none
  /-- a t.wait on an object; once its threshold is reached, the first cycle it may issue in -/
  | wait (obj : Nat) (thr : W32) (release : Option Nat)
  /-- a t.fence -/
  | fence
  /-- a T-slot instruction without a credit, a queue entry, a tracking entry or its window's close -/
  | flow
  /-- a flow-controlled direct load; whether its data has returned (R69) -/
  | load (returned : Bool)
  deriving DecidableEq, Repr

/-- The architectural state of a core (R37) and what its issue holds between commands. -/
structure Core where
  s : SMap PVal
  p : SMap Lanes
  v : SMap PVec
  acc : SMap Vec
  wb : SMap WBuf
  t : SMap Stream
  pc : BitVec 11
  /-- sequential issue has passed bundle 2,047 (R51) -/
  overrun : Bool
  /-- active levels, outermost first -/
  loops : List Loop
  /-- TILE_CORE_STATUS.STATE (R74) -/
  state : BitVec 3
  /-- the trap handler is running (STATE 4, kept while a stall shows another STATE) -/
  handler : Bool
  /-- slots of the bundle at pc already performed, bit 0 S to bit 3 T -/
  issued : BitVec 4
  /-- taken target in the bundle being performed, if any -/
  target : Option (BitVec 11)
  /-- STATE the core takes when the bundle being performed is done, where an s.end or a halt falls in it -/
  ending : Option (BitVec 3)
  /-- local cycle in which the next bundle issues -/
  nextIssue : Nat
  stall : Stall
  /-- cycle in which the stall began -/
  stallFrom : Nat
  /-- cycle up to which the stall's cycles have been counted in PERF1 or PERF2 (R75) -/
  perfFrom : Nat
  /-- the stall of the bundle at pc has ended, so it issues -/
  cleared : Bool
  /-- a wait-limit record of this wait has been raised (R290) -/
  limitSent : Bool
  pend : List Pend
  posted : List Posted
  nextId : Nat
  feedA : List FeedJob
  feedW : List FeedJob
  mt : MTime
  deriving DecidableEq, Repr

/-- A core with every register zero, never run (R37, R38, R74). -/
def Core.init : Core where
  s := []
  p := []
  v := []
  acc := []
  wb := []
  t := []
  pc := 0
  overrun := false
  loops := []
  state := 0
  handler := false
  issued := 0
  target := none
  ending := none
  nextIssue := 0
  stall := .none
  stallFrom := 0
  perfFrom := 0
  cleared := false
  limitSent := false
  pend := []
  posted := []
  nextId := 0
  feedA := []
  feedW := []
  mt := ⟨0, 0, [], [], [], [], []⟩

/-! ## Packets (R167 to R173) -/

/-- Where a load's data goes. -/
inductive LoadDst where
  | sreg (n : Nat)
  | vreg (n : Nat)
  deriving DecidableEq, Repr

/-- The holder of an answer: what a finished access or packet releases. -/
inductive Holder where
  /-- nobody waits -/
  | none
  /-- a core's posted operation, by core key and posted id -/
  | posted (core id : Nat)
  /-- a core's load into a register -/
  | load (core : Nat) (dst : LoadDst)
  /-- packet `index` of mover-queue entry `id` at a position -/
  | mover (pos id index : Nat)
  /-- the sum of a reduction -/
  | sum
  /-- an L-rim die's delivery: die and tracking entry (R236) -/
  | die (die tag : Nat)
  /-- the host bridge's tracking entry (R411) -/
  | bridge (tag : Nat)
  deriving DecidableEq, Repr

/-- A routed packet: its header (R168), payload and poison. -/
structure Pkt where
  type : Nat
  size : Nat
  epoch : Bool
  ptr : Nat
  nibs : List Nat
  part : Nat
  src : Nat
  srckind : Nat
  tag : Nat
  addr : BitVec 48
  obj : BitVec 17
  add : BitVec 16
  en : Bool
  redid : Nat
  rfmt : Nat
  reason : Nat
  inlineW : W64
  inlinePoison : BitVec 2
  payload : Vec
  poison : Lanes
  /-- position of the source router, where the packet's tracking entry is; 576 when a partition reset has cleared the
  entry (R180) -/
  home : Nat
  /-- exit nibble that ends the trail of its answer, for a packet of a rim die or the host bridge -/
  back : Option Nat
  /-- the attachment waits on this core's earlier operations: core key and posted id (R66) -/
  guard_ : Option (Nat × Nat)
  /-- the total of a reduction (R184) -/
  sum : Bool
  /-- the fabric port whose trail entry it took; in no field of the header (log entry 28) -/
  port : Option Nat
  /-- an uncorrectable or poisoned header word, as the link delivered it (R178) -/
  badHeader : Option Nat
  deriving DecidableEq, Repr

/-- Where a packet is. -/
inductive Place where
  /-- in a router's input buffer: position and input (0 local, 1 north … 4 west, 6 host bridge, 8 + side an H-rim die,
  12 + side an L-rim die) -/
  | router (pos inport : Nat)
  /-- whole at an H-rim die, through the port of a position -/
  | hrim (k pos : Nat)
  /-- whole at an L-rim die, through the rim channel of a position -/
  | lrim (m pos : Nat)
  /-- whole at the host bridge -/
  | host (pos : Nat)
  deriving DecidableEq, Repr

/-- A packet on the mesh or at a rim die. -/
structure NetItem where
  pkt : Pkt
  place : Place
  /-- local cycle from which its head flit has waited there: when it came, or when the packet before it left -/
  at_ : Nat
  /-- its words have been checked where it is (R178) -/
  checked : Bool
  /-- a stall record of this wait has been raised (R177) -/
  stallSent : Bool
  deriving DecidableEq, Repr

/-- Why a tracked packet is held (R173). -/
inductive Hold where
  /-- sent, its answer awaited -/
  | out
  /-- refused with reason 1, held until the map copy of its logical ID changes, from this value -/
  | moved (entry : Nat)
  /-- held until the map copy of its logical ID shows a position -/
  | nowhere
  /-- held until EPOCH differs from the packet's -/
  | dead
  /-- payload not yet read from the own scratchpad (R202) -/
  | reading
  deriving DecidableEq, Repr

/-- A send-tracking entry (R173). -/
structure Track where
  pkt : Pkt
  /-- index of its trail: a trail-table entry, or 1,024 plus a reduction ID (R181, R183) -/
  dest : Nat
  hold : Hold
  holder : Holder
  /-- reference count of the last send -/
  sent : Nat
  /-- reference count at which it was last held, and the counts it was held for before -/
  heldFrom : Option Nat
  heldFor : Nat
  /-- route table entry and displacement of a fabric packet, read again at a resend (R235) -/
  route : Option (Nat × Int)
  deriving DecidableEq, Repr

/-- A combine buffer of a router (R184). -/
structure Combine where
  payload : Vec
  poison : Lanes
  count : Nat
  add : Nat
  addr : BitVec 48
  obj : BitVec 17
  en : Bool
  part : Nat
  src : Nat
  epoch : Bool
  deriving DecidableEq, Repr

/-! ## Tiles -/

/-- The class of a scratchpad write (R120, R122). -/
inductive WrClass where
  /-- the owner's own cores, movers and memory-side engine -/
  | own
  /-- a tile of a partition, by logical ID -/
  | tile (logical part : Nat)
  /-- a reduction delivery of a partition -/
  | red (part : Nat)
  | host
  | fabric
  deriving DecidableEq, Repr

/-- What an access does for whom. -/
inductive Task where
  /-- write `data` -/
  | write (cls : WrClass)
  /-- read into a core's register; the read's result is visible `lat` cycles after the turn -/
  | load (core : Nat) (dst : LoadDst) (lat : Nat)
  /-- read the 64-byte descriptor of mover-queue entry `id` -/
  | desc (id : Nat)
  /-- read a 16-byte window record for window `n` of core `core` -/
  | wopen (core n : Nat)
  /-- read the payload of tracked packet `tag` -/
  | payload (tag : Nat)
  /-- read 8 or 256 bytes to answer a READ packet -/
  | answer
  /-- read packet `index` of mover-queue entry `id`, bound for an instruction store (R201) -/
  | store (id index : Nat)
  deriving DecidableEq, Repr

/-- A scratchpad access waiting for its turn of the bank-slot wheel (R111). -/
structure Access where
  pos : Nat
  agent : Nat
  off : Nat
  len : Nat
  data : Vec
  poison : Lanes
  task : Task
  /-- local cycle of the turn it will be served at -/
  due : Nat
  timed : Bool
  /-- the issuing core, which its accesses stay in order for (R65) -/
  core : Option Nat
  /-- who is told when it is done -/
  holder : Holder
  /-- the packet delivered, for RT landings and answers -/
  pkt : Option Pkt
  /-- link whose buffer the packet still takes (R179) -/
  inlink : Option Nat
  /-- it is the first of two parts (R111) -/
  first : Bool
  /-- first offset and length of the whole access -/
  whole : Nat × Nat
  deriving DecidableEq, Repr

/-- A change of a write window that has not yet taken effect (R124). -/
structure WinChange where
  n : Nat
  /-- first landing cycle it applies to -/
  at_ : Nat
  core : Nat
  /-- the record, or a close -/
  record : Option (W64 × W64)
  /-- offset of the record -/
  off : Nat
  /-- the posted operation it ends -/
  id : Nat
  /-- word 1 as a control-space write gives it; none for a core's change -/
  control : Option W64
  deriving DecidableEq, Repr

/-- A marking that a tile's memory-side engine owes (R132). -/
structure Mark where
  pos : Nat
  off : Nat
  /-- of the whole line -/
  line : Bool
  /-- the engine's next turn at the bank group after the read that found the error -/
  due : Nat
  deriving DecidableEq, Repr

/-- What an entry of the mover queue is (R199). -/
inductive QKind where
  | mov
  | mgmt
  | gather (op : Nat)
  | scatter (op : Nat)
  | checkpoint
  | fill
  | copy
  deriving DecidableEq, Repr

/-- An entry of a tile's mover queue (R199). -/
structure QEntry where
  id : Nat
  kind : QKind
  /-- 0 mover 0, 1 mover 1, 2 memory-side engine -/
  engine : Nat
  core : Nat
  posted : Nat
  /-- descriptor words, operands of a fill or copy, or the words of a checkpoint record -/
  desc : List W64
  /-- scratchpad offset of the descriptor; HBM offset of a checkpoint record -/
  off : Nat
  /-- the descriptor has been read -/
  ready : Bool
  started : Bool
  /-- its descriptor failed the checks of R201 -/
  bad : Bool
  /-- packets issued, packets in all, answers awaited -/
  issued : Nat
  total : Nat
  outstanding : Nat
  /-- indices of packets not acknowledged or not issued are those absent here -/
  acked : NSet
  refused : Option Nat
  refusedAddr : BitVec 48
  poison : Bool
  /-- local cycle of the last packet, for PACE -/
  lastAt : Nat
  /-- a copy's piece that has been read and not yet written: data and poison -/
  piece : Option (Vec × Lanes)
  deriving DecidableEq, Repr

/-- A sync checkpoint record waiting for a queue entry (R148). -/
structure Ckpt where
  off : Nat
  words : List W64
  deriving DecidableEq, Repr

/-- What a tile holds beside its cores, registers and scratchpad. -/
structure Tile where
  queue : List QEntry
  nextId : Nat
  ckpts : List Ckpt
  mgmt : Option (Nat × List W64)
  wins : List WinChange
  /-- a clear of the scratchpad is running (TILE_SPAD_CLEAR.BUSY) -/
  clearing : Bool
  /-- first local cycle in which the memory-side engine may make another access (R113) -/
  msFree : Nat
  deriving DecidableEq, Repr

/-- A tile with empty queues. -/
def Tile.init : Tile := ⟨[], 0, [], none, [], false, 0⟩

/-! ## Sync objects and sequence slots (R136 to R163) -/

/-- A sync object (R139, R149). -/
structure SyncObj where
  count : W32
  short : Bool
  void : Bool
  shortBy : BitVec 16
  deriving DecidableEq, Repr

/-- A sync object at reset. -/
def SyncObj.init : SyncObj := ⟨0, false, false, 0⟩

/-- Where a sync message is. -/
inductive MsgPhase where
  /-- waiting for the order of R66 or on its way -/
  | flying
  /-- answered with SYNC_NACK and held at its source node, from a local cycle and with the map entry it had -/
  | held (since : Nat) (entry : Nat)
  deriving DecidableEq, Repr

/-- An add or a set on its way to an object (R142, R188). -/
structure SyncMsg where
  set : Bool
  obj : Nat
  value : W32
  /-- SRCKIND of SEQ_SYNCERR_CAP -/
  kind : Nat
  /-- source logical tile for kinds 0 and 1 -/
  source : Nat
  part : Nat
  /-- position of the source node -/
  pos : Nat
  /-- the add of a rejected operation (R149) -/
  void : Bool
  /-- the core's earlier operations it waits for (R66): core key and posted id -/
  guard_ : Option (Nat × Nat)
  /-- the posted operation it ends -/
  ends : Option (Nat × Nat)
  /-- a host core's: the core, and its place in the order of the bridge's accesses (R143) -/
  host : Option (Nat × Nat)
  /-- local cycle of its source node in which it was sent -/
  at_ : Nat
  phase : MsgPhase
  deriving DecidableEq, Repr

/-- Where a gather or scatter stands (R159). -/
inductive SeqPhase where
  /-- on its way to the sequence unit -/
  | arriving
  /-- waiting there for INFLIGHT below 511, with its place in the order of arrival -/
  | waiting (ticket : Nat)
  /-- accepted: the LENGTH snapshot and the four descriptor words -/
  | accepted (len : Nat) (words : List W64)
  deriving DecidableEq, Repr

/-- A gather or scatter (R157). -/
structure SeqOp where
  id : Nat
  pos : Nat
  core : Nat
  posted : Nat
  /-- mover-queue entry -/
  entry : Nat
  scatter : Bool
  slot : Nat
  sb : W64
  /-- logical tile and partition of the issuer -/
  logical : Nat
  part : Nat
  /-- scratchpad offset of stream element 0, stride, and POS before issue -/
  base : Nat
  stride : Int
  start : Nat
  phase : SeqPhase
  deriving DecidableEq, Repr

/-! ## The understory and control space -/

/-! ## HBM (R193 to R211) -/

/-- A request accepted by an H-rim die and not yet performed (R198). -/
structure HReq where
  k : Nat
  pkt : Pkt
  /-- position whose outward port it came through -/
  pos : Nat
  /-- performed already, ahead of a later access to its block: data and poison of a READ; its answer is still to leave -/
  done : Option (Nat × Nat)
  deriving DecidableEq, Repr

/-! ## Fault records (R281) -/

/-- A fault record, its fields apart. -/
structure FaultRec where
  source : Nat
  domain : Nat
  forced : Bool
  part : Option Nat
  logical : Option Nat
  pos : Nat
  cause : Nat
  refcount : Nat
  slot : Option Nat
  core : Option Nat
  tpc : Nat
  halted : Bool
  seqNo : Nat
  detail : Nat
  /-- reference count at which it came to the collector -/
  arrived : Nat
  deriving DecidableEq, Repr

/-! ## Fabric (R212 to R250) -/

/-- A fabric packet: its header (R228), tree and payload. -/
structure FPkt where
  type : Nat
  size : Bool
  epoch : Bool
  vc : Nat
  ptr : Nat
  len : Nat
  srcId : Nat
  srcPart : Nat
  srcTile : Nat
  tag : Nat
  dstId : Nat
  dpart : Nat
  reason : Nat
  daddr : BitVec 48
  obj : BitVec 17
  add : BitVec 16
  en : Bool
  cid : Nat
  delivered : Nat
  pruned : Nat
  refused : Nat
  ppoison : Lanes
  /-- trail bytes, 16 of them -/
  srt : List Nat
  ret : List Nat
  /-- the bytes of the three tree units of an MWRITE -/
  tree : List Nat
  payload : Vec
  deriving DecidableEq, Repr

/-- A packet's place in a buffer of the rim ring (R226). -/
structure Ring where
  /-- ring position that the segment leads to -/
  pos : Nat
  /-- direction: towards higher positions -/
  up : Bool
  /-- buffer class: 1 from the crossing of the dateline on -/
  cls : Nat
  /-- port the packet is to leave on -/
  exit : Nat
  deriving DecidableEq, Repr

/-- A fabric packet in the receive buffer of a port, at its die where it built the packet, or on the rim ring. -/
structure FItem where
  pkt : FPkt
  /-- port it came in by, or whose die built it -/
  port : Nat
  /-- units of the port's receive buffer it takes -/
  units : Nat
  /-- an answer that the die built itself -/
  own : Bool
  ring : Option Ring
  deriving DecidableEq, Repr

/-- What a port puts on its lanes: a codeword with its header and ten units, or an alignment marker (R218). -/
inductive LineWord where
  | codeword (header : BitVec 20) (units : List Unit64B)
  | marker
  deriving DecidableEq, Repr

/-- What a fabric port holds (R213 to R223). -/
structure Port where
  /-- FAB_STATUS.STATE (R214) -/
  state : Nat
  width4 : Bool
  half : Bool
  /-- last HELLO received: serial, port, module build, width 4, PANEL_ID, whether any -/
  echoSerial : W64
  echoPort : Nat
  echoValid : Bool
  /-- partner this UP was made with: PANEL_ID, port, width 4, build, serial -/
  partner : Nat × Nat × Bool × Nat × W64
  /-- reference count of the last valid HELLO, or of entering DISCOVERY -/
  lastHello : Nat
  /-- reference count at which the state was entered -/
  since : Nat
  /-- reference count of the last HELLO sent, or of entering DISCOVERY -/
  helloAt : Nat
  /-- corrected symbols of each lane since its FAB_LANE_SYMl last went up, which counts units of 2^20 (R306) -/
  syms : SMap Nat
  /-- next SEQ to use, and codewords sent and not acknowledged, oldest first (R219) -/
  seqNext : Nat
  replay : List (Nat × List Unit64B)
  /-- SEQ expected, the last accepted one valid, discarding since an error, replays failed (R220) -/
  expected : Nat
  accepted : Bool
  discarding : Bool
  failed : Nat
  replayAt : Nat
  /-- units sent, the partner's freed counts, per VC 0 to 2 (R223) -/
  sent : Nat × Nat × Nat
  freed : Nat × Nat × Nat
  /-- units held and freed by this receiver, and the counts last reported -/
  held : Nat × Nat × Nat
  gone : Nat × Nat × Nat
  told : Nat × Nat × Nat
  /-- egress queue: packets with credits that wait for replay room, oldest first -/
  queue : List FPkt
  /-- units of a packet whose later units have not arrived -/
  partial_ : List Unit64B
  /-- what the port last put on its lanes, and codewords since the last alignment marker (R218) -/
  lanes : List LineWord
  marked : Nat
  /-- Ethernet mode: the frame last sent, the reference count up to which each priority is paused, and whether a pause sent to
  the partner stands (R248) -/
  frame : List Byte
  pausedTo : SMap Nat
  xoff : Bool
  deriving DecidableEq, Repr

/-- A port at reset. -/
def Port.init : Port where
  state := 0
  width4 := false
  half := false
  echoSerial := 0
  echoPort := 0
  echoValid := false
  partner := (0, 0, false, 0, 0)
  lastHello := 0
  since := 0
  helloAt := 0
  syms := []
  seqNext := 0
  replay := []
  expected := 0
  accepted := false
  discarding := false
  failed := 0
  replayAt := 0
  sent := (0, 0, 0)
  freed := (0, 0, 0)
  held := (0, 0, 0)
  gone := (0, 0, 0)
  told := (0, 0, 0)
  queue := []
  partial_ := []
  lanes := []
  marked := 0
  frame := []
  pausedTo := []
  xoff := false

/-- An origin tracking entry of an L-rim die (R235). -/
structure OTrack where
  pkt : Pkt
  /-- position whose rim channel the packet used -/
  pos : Nat
  port : Nat
  /-- multicast completion: CPL_OBJ, when CPL_EN -/
  cpl : Option Nat
  cplObj : Nat
  deriving DecidableEq, Repr

/-- A destination tracking entry of an L-rim die (R237). -/
structure DTrack where
  pkt : FPkt
  port : Nat
  /-- the leaf of a multicast: its merge entry -/
  merge : Option Nat
  /-- held now, since a reference count -/
  heldFrom : Option Nat
  /-- reference counts that earlier holds took -/
  heldFor : Nat
  /-- writes of its die trail entry when it was last sent (R237) -/
  gen : Nat
  deriving DecidableEq, Repr

/-- A merge entry of an L-rim die (R242). -/
structure Merge where
  pkt : FPkt
  port : Nat
  awaited : Nat
  delivered : Nat
  pruned : Nat
  refused : Nat
  since : Nat
  deriving DecidableEq, Repr

/-- What an L-rim die holds. -/
structure LDie where
  origin : SMap OTrack
  dest : SMap DTrack
  merge : SMap Merge
  deriving DecidableEq, Repr

/-- An L-rim die at reset. -/
def LDie.init : LDie := ⟨[], [], []⟩

/-! ## Partitions and faults (R251 to R306) -/

/-- A manifest as the management subsystem keeps it (R251, R252, R254): the header fields it uses later and the
records of each section, each record as its 64-bit words. -/
structure Manifest where
  /-- place and length in the management store (R409) -/
  start : Nat
  len : Nat
  lgrvs : Nat
  features : W64
  duty : Nat
  kernel : Nat
  kbase : Nat
  tsoff : Nat
  shadow : Nat
  floor : Nat
  layout : List (List W64)
  core : List (List W64)
  tile : List (List W64)
  seg : List (List W64)
  sync : List (List W64)
  table : List (List W64)
  detourIndex : List (List W64)
  detourOvr : List (List W64)
  deriving DecidableEq, Repr

/-- A start announced for a reference count and not yet taken effect (R266, R293 step 9). -/
structure Announce where
  count : Nat
  /-- groves that have acknowledged -/
  acked : NSet
  /-- announcements made for this start -/
  tries : Nat
  /-- reference count of the detection, for a recovery's or rewind's restart -/
  recovery : Option Nat
  /-- logical ID that a sapling took, for a recovery's restart -/
  lost : Option Nat
  deriving DecidableEq, Repr

/-- What the management subsystem holds of a partition beside its registers. -/
structure Part where
  image : Option Manifest
  announce : Option Announce
  /-- reference counts at which the last rewind began and ended (R288) -/
  rewindFrom : Option Nat
  rewound : Option Nat
  /-- logical IDs whose sapling has not been loaded since it took over (R296) -/
  owed : NSet
  /-- an UPDATE waits for the last flip to be complete (R182, R269) -/
  updating : Bool
  deriving DecidableEq, Repr

/-- A partition that does not exist. -/
def Part.init : Part := ⟨none, none, none, none, [], false⟩

/-- What the fault collector and the heartbeat poll hold beside their registers (R276 to R305). -/
structure Faults where
  /-- records raised and not yet at the collector, oldest first -/
  flying : List FaultRec
  /-- stored records by ring entry (R283) -/
  ring : SMap FaultRec
  /-- arrival times of records not yet acknowledged, by SEQ, oldest first -/
  unacked : List (Nat × Nat)
  /-- records whose domain action has not begun, in SEQ order -/
  actions : List FaultRec
  /-- a record has been lost since one was last stored -/
  losing : Bool
  /-- last heartbeat read and misses, by position -/
  beat : SMap (Nat × Nat)
  /-- positions whose loss the present run of misses has raised -/
  beatLost : NSet
  /-- counter values at the last health update, by register address -/
  seen : SMap Nat
  /-- KCALL total and cycle count at the last duty measurement, by position -/
  duty : SMap (Nat × Nat)
  /-- events of kinds 10 to 13 of R301 since the last health update -/
  events : SMap Nat
  /-- arithmetic cycle of the last heartbeat increment, by position (R305) -/
  hbAt : SMap Nat
  deriving DecidableEq, Repr

/-- An empty collector. -/
def Faults.init : Faults := ⟨[], [], [], [], false, [], [], [], [], [], []⟩

/-! ## Bring-up, clocks, power and cooling (R307 to R385) -/

/-- What the fuses and the die identities say (R2, R34, R35, R309): fixed for a panel, held as plain data. -/
structure Fuses where
  option : BitVec 8
  build : BitVec 8
  serial : W64
  groves : BitVec 36
  stackMask : BitVec 50
  ports : BitVec 64
  ethernet : BitVec 64
  slots : BitVec 256
  powerMax : BitVec 2
  /-- CAPS of every die that `caps` does not list; CAPS by 1,000 KIND + instance (R309) -/
  capsAll : BitVec 6
  caps : SMap (BitVec 6)
  /-- local indices fused spare, and fused off, per grove, where the two maps list one: bit t -/
  spare : SMap (BitVec 16)
  off : SMap (BitVec 16)
  /-- local indices fused spare in a grove that `spare` does not list -/
  spareAll : BitVec 16
  /-- die steppings: by 1,000 KIND + instance, where not 0 (R309) -/
  stepping : SMap (BitVec 8)
  /-- per-grove VDD_CORE trim in mV -/
  trim : SMap Nat
  /-- firmware key indices revoked, bit n (R406) -/
  revoked : BitVec 8
  deriving DecidableEq, Repr

/-- The firmware store of a position's service controller (R326). -/
structure FwStore where
  blocks : NSet
  running : Bool
  resends : Nat
  deriving DecidableEq, Repr

/-- What bring-up holds beside its registers. -/
structure Boot where
  /-- panel reset is released and the sequence runs -/
  started : Bool
  /-- positions whose tests have ended; dies that have passed logic BIST: a position, 600 + H-rim die, 700 + L-rim die, 800
  the host die -/
  tested : NSet
  logicOk : NSet
  /-- rim dies that have passed and are not fenced (L-rim m as 64 + m), and the host die (128) -/
  dieOk : NSet
  /-- functions whose bring-up has ended, ready or failed (stack k, 64 + port p, 128 host, 200 + grove g) -/
  ended : NSet
  /-- parts in the fence map at step 2 of R307, as kind + 16 index (R398) -/
  scanned : NSet
  /-- fabric lanes whose margining has ended -/
  margined : NSet
  fw : SMap FwStore
  /-- positions that have left the reset of the self-test (R318, R322, R326) -/
  released : NSet
  /-- waves begun, and waves whose rim dies have power, on with the first stage -/
  waves : NSet
  rimOn : NSet
  /-- routers working, and map entries, when the distance table was written (R191) -/
  distUp : NSet
  distMap : SMap Nat
  /-- the host firmware has started -/
  hostUp : Bool
  /-- segments of the test access network that are open -/
  tapOpen : NSet
  deriving DecidableEq, Repr

/-- Bring-up before the release of panel reset. -/
def Boot.init : Boot := ⟨false, [], [], [], [], [], [], [], [], [], [], [], [], false, []⟩

/-- Who asked for a change of operating point. -/
inductive Asker where
  | host | governor | cooling
  deriving DecidableEq, Repr

/-- A pending change of operating point (R340). -/
structure OppChange where
  target : Nat
  asker : Asker
  /-- groves that have reported the raised level -/
  levels : NSet
  /-- the announced count, with the groves that have acknowledged it -/
  at_ : Option Nat
  acked : NSet
  tries : Nat
  deriving DecidableEq, Repr

/-- What the clock system holds beside its registers. -/
structure Clocks where
  /-- arithmetic cycles of an unstretched grove since reset, the reference count, and the fraction of a count in
  tenths of an arithmetic cycle -/
  cyc : Nat
  ref : Nat
  frac : Nat
  /-- how far each grove's cycle count lags `cyc` -/
  lag : SMap Nat
  /-- local cycle of a grove's last stretch -/
  stretched : SMap Nat
  change : Option OppChange
  /-- a request that arrived after announcement -/
  queued : Option (Nat × Asker)
  /-- reference count at which the loss of the reference was detected -/
  lostAt : Option Nat
  /-- reference count at which a periodic command was last taken, by its number -/
  last : SMap Nat
  /-- reference count at which a grove's position clocks last started -/
  runFrom : SMap Nat
  /-- reference count at which the droop of a grove began, and whether it has been counted -/
  droop : SMap (Nat × Bool)
  deriving DecidableEq, Repr

/-- The clocks at reset. -/
def Clocks.init : Clocks := ⟨0, 0, 0, [], [], none, none, none, [], [], []⟩

/-- What the power system holds beside its registers. -/
structure Power where
  /-- PIN of the last ten updates, newest first, and the trailing average in µW -/
  pins : List Nat
  avg : Nat
  target : Nat
  /-- consecutive updates above EFF_CAP, and below the floor -/
  overs : Nat
  under : Nat
  /-- reference counts of the last lower and restore requests of the governor -/
  lowered : Nat
  restored : Nat
  /-- the reservoir record of R364 has been raised in this episode -/
  empty : Bool
  /-- the governor drains a full reservoir (R363) -/
  draining : Bool
  /-- ballast per position in quarter watts -/
  ballast : Nat
  /-- demand beyond the target last measured, in W -/
  demand : Nat
  /-- stage tokens granted and not yet returned: grove, tokens, reference count of their return -/
  tokens : List (Nat × Nat × Nat)
  /-- groves with header stages to switch: grove and stages left, in the order they asked -/
  stages : SMap Nat
  /-- reference counts of a grove's last eight counted droops, newest first -/
  droops : SMap (List Nat)
  /-- reference count of the last rise of a grove's droop trim -/
  trimmed : SMap Nat
  /-- path-resistance trend: since when above the threshold, by 16 g + phase -/
  trend : SMap Nat
  /-- crossings aligned for a point, as 16 grove + 4 direction + point -/
  aligned : NSet
  /-- groves above ILIM -/
  overLimit : NSet
  /-- last VDD_CORE level a grove reported, in mV -/
  level : SMap Nat
  /-- the 52 V input is outside 46 to 58 V; the module has turned off for want of it -/
  badInput : Bool
  inputGone : Bool
  deriving DecidableEq, Repr

/-- The power system at reset. -/
def Power.init : Power := ⟨[], 0, 0, 0, 0, 0, 0, false, false, 0, 0, [], [], [], [], [], [], [], [], false, false⟩

/-- What thermal control holds beside its registers. -/
structure Thermal where
  /-- consecutive disagreeing reads, and since when, by 4 pos + hot spot -/
  apart : SMap (Nat × Nat)
  /-- since when a sensor's readings are implausible, by 8 pos + diode -/
  absent : SMap Nat
  /-- parts at 105 °C and at 115 °C or above: position, 600 + H-rim die, 700 + L-rim die, 800 the host die -/
  hot105 : NSet
  hot115 : NSet
  /-- reference count of the last step down -/
  steppedDown : Option Nat
  /-- since when every prediction is low enough to step up -/
  coolFrom : Option Nat
  /-- samples of the last 10 s, newest first: of R_p, and of R_g by grove -/
  rp : List Nat
  rg : SMap (List Nat)
  /-- since when R_g is above its baseline, by grove -/
  rth : SMap Nat
  deriving DecidableEq, Repr

/-- Thermal control at reset. -/
def Thermal.init : Thermal := ⟨[], [], [], [], none, none, [], [], []⟩

/-! ## Management, host complex and the module's pins (R386 to R431) -/

/-- An entry of the event log (R388). -/
structure LogEntry where
  lseq : W32
  type : Nat
  refcount : Nat
  /-- BODY as 64-bit words, with LEN in bytes -/
  len : Nat
  body : List W64
  deriving DecidableEq, Repr

/-- A management session (R391). -/
structure Session where
  id : Nat
  admin : Bool
  deriving DecidableEq, Repr

/-- State of a firmware slot (R403). -/
inductive SlotState where
  | invalid | valid | committed
  deriving DecidableEq, Repr

/-- A firmware slot of flash: its state, and its file as bytes (an unlisted byte reads 0). -/
structure FwSlot where
  state : SlotState
  file : List Host.Cell
  deriving DecidableEq, Repr

/-- A slot that holds nothing. -/
def FwSlot.init : FwSlot := ⟨.invalid, []⟩

/-- What the management die holds beside its registers. -/
structure Mgmt where
  /-- entries created and not yet in flash, oldest first; entries in flash, oldest first (R389) -/
  logBuffer : List LogEntry
  logFlash : List LogEntry
  /-- entries lost since one was last created -/
  logMissed : Nat
  sessions : List Session
  nextSession : Nat
  /-- firmware slots: 2 (k - 1) for slot A of kind k, 2 (k - 1) + 1 for slot B -/
  slots : SMap FwSlot
  /-- slot running by image kind: 0 A, 1 B; a kind not listed does not run -/
  running : SMap Nat
  /-- an update of a kind is open in a session: kind, session -/
  updating : SMap Nat
  /-- the controller is restarting; a domain action waits until it has (R386) -/
  down : Bool
  /-- reference count at which its watchdog was last refreshed, and whether 10 ms have passed since (R284) -/
  refreshed : Nat
  late : Bool
  /-- reference counts of the last restarts, newest first -/
  restarts : List Nat
  /-- HSEQ of the next health-history copy (R399) -/
  hseq : Nat
  /-- port links as the PHY shows them, and since when the active one is down -/
  downFrom : Option Nat
  deriving DecidableEq, Repr

/-- A combining buffer of the host bridge (R411). -/
structure WcBuf where
  window : Nat
  hcore : Nat
  /-- data-space address of its 256-byte block -/
  block : Nat
  data : Vec
  /-- 8-byte words stored, bit n word n -/
  words : BitVec 32
  /-- its place in the order of the bridge's accesses -/
  order : Nat
  deriving DecidableEq, Repr

/-- A packet the host bridge awaits an answer to, or holds (R411). -/
structure BTrack where
  pkt : Pkt
  window : Nat
  hcore : Nat
  /-- a read: first byte in the 8-byte word, and bytes -/
  read : Option (Nat × Nat)
  /-- its place in the order of the bridge's accesses -/
  order : Nat
  sent : Nat
  /-- reference count at which it was last held, and the counts it was held for before -/
  heldFrom : Option Nat
  heldFor : Nat
  /-- it is held until the trail table is written again, and the writes of the table when it was last sent (R411) -/
  held : Bool
  gen : Nat
  deriving DecidableEq, Repr

/-- A sync command of the host, or a read of an entry, waiting for the earlier writes of its core (R143, R411). -/
structure BSync where
  hcore : Nat
  window : Nat
  obj : Nat
  /-- none: a read -/
  command : Option W64
  /-- its place in the order of the bridge's accesses -/
  order : Nat
  deriving DecidableEq, Repr

/-- What the host bridge holds (R410, R411, R413). -/
structure Bridge where
  /-- the trail table: by index, the attachment position and the nibbles (R411) -/
  trails : SMap (List Nat)
  /-- how often the table has been written -/
  gen : Nat
  buffers : List WcBuf
  /-- packets that wait for credits of the channel, with their trails, oldest first (R179) -/
  out : List (Pkt × List Nat)
  track : SMap BTrack
  nextTag : Nat
  syncs : List BSync
  /-- the host watchdog's last kick -/
  kicked : Nat
  /-- interrupt messages written to the host's interrupt files: address and EIID, newest first (R412) -/
  interrupts : List (BitVec 48 × BitVec 32)
  /-- the last access of a host core ended in an access fault -/
  faulted : Bool
  deriving DecidableEq, Repr

/-- The management die at reset. -/
def Mgmt.init : Mgmt := ⟨[], [], 0, [], 0, [], [], [], false, 0, false, [], 0, none⟩

/-- The host bridge at reset. -/
def Bridge.init : Bridge := ⟨[], 0, [], [], [], 0, [], 0, [], false⟩

/-- The module's output pins and the values its SMBus target serves (R427 to R429). -/
structure Pins where
  /-- ALIVE toggles -/
  alive : Bool
  /-- SMB_ALERT_N is driven low -/
  alert : Bool
  /-- PANEL_RST_N holds the panel in reset -/
  inReset : Bool
  /-- telemetry words last published, by command -/
  telemetry : SMap (BitVec 16)
  /-- reference count of the last publication -/
  published : Option Nat
  /-- SFP28 cages switched off for over-power -/
  cageOff : NSet
  deriving DecidableEq, Repr

/-- The pins while the panel is in reset. -/
def Pins.init : Pins := ⟨false, false, false, [], none, []⟩

/-! ## The whole panel -/

/-- The panel. -/
structure State where
  /-- the commands that wait, first in first out -/
  pending : List Instr
  fuses : Fuses
  clk : Clocks
  /-- control-space registers by canonical address -/
  csr : SMap W64
  /-- standing-register words by word index, and their write counters (R394, R395) -/
  std : SMap W32
  wcnt : SMap Nat
  cores : SMap Core
  tiles : SMap Tile
  /-- scratchpads: bytes by `pos * 2^27 + offset`; poison bits and check-bit errors by word key
  `(pos * 2^27 + offset) / 4` (1 single, 2 uncorrectable); lines by key
  `(pos * 2^27 + offset) / 128` whose poison check bits have an uncorrectable error, and those with a single-bit error
  (R131, R132) -/
  spad : Mem
  spadPoison : NSet
  spadEcc : SMap Nat
  spadLine : NSet
  spadLineCe : NSet
  /-- markings the memory-side engines still owe (R132) -/
  marks : List Mark
  /-- instruction stores: bytes by `pos * 2^19 + offset` of the TILE window, check-bit errors by word (R80) -/
  imem : Mem
  imemEcc : SMap Nat
  /-- HBM: bytes by `k * 2^35 + stack address`, poison and check-bit errors by word (R204) -/
  hbm : Mem
  hbmPoison : NSet
  hbmEcc : SMap Nat
  /-- service-controller firmware stores: bytes by `pos * 2^18 + offset` (R326) -/
  fwBytes : Mem
  access : List Access
  sync : SMap SyncObj
  msgs : List SyncMsg
  ops : List SeqOp
  /-- slots with a RELEASE pending (R156) -/
  releasing : NSet
  nextOp : Nat
  /-- working nodes as of the last writing of the understory's next-hop tables (R189) -/
  nodesUp : NSet
  net : List NetItem
  /-- send-tracking entries by `pos * 64 + tag` -/
  track : SMap Track
  /-- combine buffers by `pos * 1024 + reduction ID` -/
  combine : SMap Combine
  /-- flits held at the receiver or on the wire, and credits on their way back, by link and class (R179) -/
  creditUsed : SMap Nat
  creditBack : SMap Nat
  /-- outputs won by the rim and bridge inputs that share a place, by `pos * 8 + place` (R176) -/
  rimTurn : SMap Nat
  /-- slots of route records and collective entries written since the last flip, by address (R240) -/
  idleSlots : NSet
  /-- how often each die trail entry has been written, by `die * 1024 + index` (R237) -/
  srtGen : SMap Nat
  hbmReqs : List HReq
  ports : SMap Port
  fabric : List FItem
  dies : SMap LDie
  parts : SMap Part
  faults : Faults
  boot : Boot
  power : Power
  thermal : Thermal
  mgmt : Mgmt
  bridge : Bridge
  pins : Pins
  /-- the words the last reading command returned -/
  answer : List W64
  /-- uses so far of `Config.freeValue` (the model's own field) -/
  free : Nat
  deriving DecidableEq, Repr

/-- The fuses of the panel that `State.reset` describes: an AP9-504 as shipped, two spare positions (local indices
5 and 10) in every grove. DESIGN CHOICE, log entry 2. -/
def Fuses.ap9_504 : Fuses where
  option := 1
  build := 0
  serial := 0
  groves := BitVec.allOnes 36
  stackMask := BitVec.allOnes 50
  ports := BitVec.allOnes 64
  ethernet := 0xFFFF#64
  slots := BitVec.allOnes 256
  powerMax := 2
  capsAll := 0x3F#6
  caps := []
  spare := []
  off := []
  spareAll := 0x420#16
  stepping := []
  trim := []
  revoked := 0

/-- The panel in reset: no command waiting, every register at the value its table gives (none listed), nothing in
any memory or queue. The standing registers hold the values written at manufacture (R396). -/
def State.reset : State where
  pending := []
  fuses := Fuses.ap9_504
  clk := Clocks.init
  csr := []
  std := []
  wcnt := []
  cores := []
  tiles := []
  spad := []
  spadPoison := []
  spadEcc := []
  spadLine := []
  spadLineCe := []
  marks := []
  imem := []
  imemEcc := []
  hbm := []
  hbmPoison := []
  hbmEcc := []
  fwBytes := []
  access := []
  sync := []
  msgs := []
  ops := []
  releasing := []
  nextOp := 0
  nodesUp := []
  net := []
  track := []
  combine := []
  creditUsed := []
  creditBack := []
  rimTurn := []
  idleSlots := []
  srtGen := []
  hbmReqs := []
  ports := []
  fabric := []
  dies := []
  parts := []
  faults := Faults.init
  boot := Boot.init
  power := Power.init
  thermal := Thermal.init
  mgmt := Mgmt.init
  bridge := Bridge.init
  pins := Pins.init
  answer := []
  free := 0

end Sys2Proof.Machine
end

