-- ==== Sys2Proof/Machine/Regs.lean ====
section
/-! DEFINITION. The control-space registers (R27 to R29, and the register tables of every chapter): for each
register its offset in its block, who may write it (R392), and its fields with bits, access code, reset value and
allowed values (R8, R433). From the same tables: the named registers and fields the meanings use. -/

namespace Sys2Proof.Machine

/-- The access codes of R8 (RWS occurs only in the standing registers, which are apart). -/
inductive Acc where
  | ro | rw | wo | w1c | w1s
  deriving DecidableEq, Repr

/-- The values a field allows (R433). -/
inductive Chk where
  | any
  | range (lo hi : Nat)
  | multiple (m : Nat)
  /-- a map entry: X and Y at most 23 when VALID (R192) -/
  | mapEntry
  /-- PWR_CAP.CAP_W: 3,000 to the class cap (R369) -/
  | cap
  deriving DecidableEq, Repr

/-- A field of a register. -/
structure Fld where
  lo : Nat
  len : Nat
  acc : Acc
  rst : Nat
  chk : Chk
  deriving DecidableEq, Repr

/-- The rows of R392's table. -/
inductive WrRow where
  | part | flt | clkpwr | tile | hwin | irq | hostg
  /-- every other register: the management controller only -/
  | mgmt
  deriving DecidableEq, Repr

/-- A register, or `count` registers `stride` apart. -/
structure RegRow where
  off : Nat
  count : Nat
  stride : Nat
  who : WrRow
  fields : List Fld
  deriving DecidableEq, Repr

/-- A named register: its address and its word at reset. -/
structure Reg where
  addr : Nat
  rst : W64
  deriving DecidableEq, Repr

/-- A named field of a register. -/
structure Field where
  reg : Reg
  lo : Nat
  len : Nat
  deriving DecidableEq, Repr

/-- Base of the TILE window of a position (R14, R27). -/
def tileBase (pos : Nat) : Nat :=
  let x := pos % 24
  let y := pos / 24
  0x100000000 + ((y / 4) * 6 + x / 4) * 0x1000000 + (x % 4 + 4 * (y % 4)) * 0x100000

/-- Base of the shared registers of a grove (R28). -/
def grvBase (g : Nat) : Nat := 0x100000000 + g * 0x1000000
/-- Base of an HBM block (R27). -/
def hbmBase (k : Nat) : Nat := 0x300000000 + k * 0x100000
/-- Base of a port block (R27). -/
def fabBase (p : Nat) : Nat := 0x200000000 + p * 0x10000
/-- Base of the shared registers of an L-rim die: the block of its first port (R250). -/
def dieBase (m : Nat) : Nat := 0x200000000 + 4 * m * 0x10000
/-- Base of a partition block (R275). -/
def partBase (p : Nat) : Nat := 0x40000 + p * 0x100
/-- Base of the registers of a core (R73). -/
def coreBase (pos core : Nat) : Nat := tileBase pos + 0x80000 + core * 0x1000

/-- Registers of the CORE block. -/
def rowsCore : List RegRow :=
  [ -- TILE_CORE_ID (R73)
      ⟨0x0, 1, 8, .mgmt, [⟨0, 64, .ro, 0, .any⟩]⟩,
    -- TILE_CORE_CYCLE (R73)
      ⟨0x8, 1, 8, .mgmt, [⟨0, 64, .ro, 0, .any⟩]⟩,
    -- TILE_CORE_WPOS (R73)
      ⟨0x10, 1, 8, .mgmt, [⟨0, 4, .ro, 0, .any⟩]⟩,
    -- TILE_CORE_REFCOUNT (R73)
      ⟨0x18, 1, 8, .mgmt, [⟨0, 64, .ro, 0, .any⟩]⟩,
    -- TILE_CORE_INVCOUNT (R73)
      ⟨0x20, 1, 8, .mgmt, [⟨0, 64, .rw, 0, .any⟩]⟩,
    -- TILE_CORE_JOB (R74)
      ⟨0x28, 1, 8, .mgmt, [⟨0, 8, .rw, 0, .any⟩, ⟨8, 1, .rw, 0, .any⟩]⟩,
    -- TILE_CORE_SRSEED (R73)
      ⟨0x30, 1, 8, .mgmt, [⟨0, 64, .rw, 0, .any⟩]⟩,
    -- TILE_CORE_TRAPVEC (R73)
      ⟨0x40, 1, 8, .mgmt, [⟨0, 11, .rw, 0, .any⟩, ⟨63, 1, .rw, 0, .any⟩]⟩,
    -- TILE_CORE_TCAUSE (R73)
      ⟨0x48, 1, 8, .mgmt, [⟨0, 64, .ro, 0, .any⟩]⟩,
    -- TILE_CORE_TPC (R73)
      ⟨0x50, 1, 8, .mgmt, [⟨0, 11, .ro, 0, .any⟩]⟩,
    -- TILE_CORE_TINFO (R74)
      ⟨0x58, 1, 8, .mgmt, [⟨0, 2, .ro, 0, .any⟩, ⟨2, 6, .ro, 0, .any⟩, ⟨8, 1, .ro, 0, .any⟩, ⟨16, 48, .ro, 0, .any⟩]⟩,
    -- TILE_CORE_LOOPn (R73)
      ⟨0x60, 4, 8, .mgmt, [⟨0, 32, .ro, 0, .any⟩, ⟨32, 11, .ro, 0, .any⟩, ⟨43, 11, .ro, 0, .any⟩, ⟨63, 1, .ro, 0, .any⟩]⟩,
    -- TILE_CORE_PERFn (R75)
      ⟨0x80, 4, 8, .mgmt, [⟨0, 48, .rw, 0, .any⟩]⟩,
    -- TILE_CORE_CTRL (R74)
      ⟨0x100, 1, 8, .mgmt, [⟨0, 1, .rw, 0, .any⟩]⟩,
    -- TILE_CORE_STATUS (R74)
      ⟨0x108, 1, 8, .mgmt, [⟨0, 3, .ro, 0, .any⟩, ⟨3, 1, .ro, 0, .any⟩, ⟨4, 3, .ro, 0, .any⟩, ⟨7, 11, .ro, 0, .any⟩, ⟨18, 4, .w1c, 0, .any⟩]⟩,
    -- TILE_CORE_ENTRY (R73)
      ⟨0x110, 1, 8, .mgmt, [⟨0, 11, .rw, 0, .any⟩]⟩ ]

/-- Registers of the TILE block, part 0. -/
def rowsTile0 : List RegRow :=
  [ -- TILE_MOV_CFG (R211)
      ⟨0x88000, 1, 8, .mgmt, [⟨0, 16, .rw, 0x800, (.range 1 65535)⟩, ⟨16, 6, .rw, 16, (.range 1 32)⟩]⟩,
    -- TILE_MOV_STATUS (R211)
      ⟨0x88008, 1, 8, .mgmt, [⟨0, 5, .ro, 0, .any⟩, ⟨5, 1, .ro, 0, .any⟩, ⟨6, 1, .ro, 0, .any⟩]⟩,
    -- TILE_MOV_ERR_CNT (R211)
      ⟨0x88010, 1, 8, .mgmt, [⟨0, 32, .rw, 0, .any⟩, ⟨32, 32, .rw, 0xffffffff, .any⟩]⟩,
    -- TILE_MOV_ERR_CAP (R211)
      ⟨0x88018, 1, 8, .mgmt, [⟨0, 4, .ro, 0, .any⟩, ⟨4, 4, .ro, 0, .any⟩, ⟨8, 2, .ro, 0, .any⟩, ⟨10, 48, .ro, 0, .any⟩, ⟨63, 1, .w1c, 0, .any⟩]⟩,
    -- TILE_MOV_MGMTDw (R211)
      ⟨0x88040, 8, 8, .mgmt, [⟨0, 64, .rw, 0, .any⟩]⟩,
    -- TILE_MOV_MGMTQ (R211)
      ⟨0x88080, 1, 8, .mgmt, [⟨0, 1, .w1s, 0, .any⟩, ⟨1, 1, .rw, 0, .any⟩, ⟨2, 1, .ro, 0, .any⟩]⟩,
    -- TILE_FLT_HB (R305)
      ⟨0x8C000, 1, 8, .mgmt, [⟨0, 32, .ro, 0, .any⟩]⟩,
    -- TILE_FLT_KAT (R305)
      ⟨0x8C008, 1, 8, .mgmt, [⟨0, 11, .rw, 0, .any⟩, ⟨11, 1, .rw, 0, .any⟩, ⟨12, 3, .ro, 0, .any⟩, ⟨15, 1, .ro, 0, .any⟩]⟩,
    -- TILE_FLT_KCALLc (R305)
      ⟨0x8C010, 8, 8, .mgmt, [⟨0, 48, .ro, 0, .any⟩]⟩,
    -- TILE_FLT_KFAIL_CNT (R305)
      ⟨0x8C050, 1, 8, .mgmt, [⟨0, 32, .rw, 0, .any⟩, ⟨32, 32, .rw, 0xffffffff, .any⟩]⟩,
    -- TILE_FLT_DUTY (R305)
      ⟨0x8C058, 1, 8, .mgmt, [⟨0, 20, .ro, 0, .any⟩]⟩,
    -- TILE_FLT_HEALTH (R306)
      ⟨0x8C060, 1, 8, .mgmt, [⟨0, 32, .ro, 0, .any⟩, ⟨32, 1, .ro, 0, .any⟩]⟩,
    -- TILE_THM_SENSd (R385)
      ⟨0x8D000, 5, 8, .mgmt, [⟨0, 12, .ro, 0, .any⟩, ⟨12, 2, .ro, 3, .any⟩]⟩,
    -- TILE_THM_HS (R385)
      ⟨0x8D028, 1, 8, .mgmt, [⟨0, 12, .ro, 0, .any⟩, ⟨12, 2, .ro, 0, .any⟩, ⟨16, 12, .ro, 0, .any⟩, ⟨28, 2, .ro, 0, .any⟩, ⟨32, 12, .ro, 0, .any⟩, ⟨44, 2, .ro, 0, .any⟩, ⟨48, 12, .ro, 0, .any⟩]⟩,
    -- TILE_SPAD_CFG (R135)
      ⟨0x90000, 1, 8, .mgmt, [⟨0, 1, .rw, 1, .any⟩, ⟨1, 7, .rw, 10, (.range 1 60)⟩]⟩,
    -- TILE_SPAD_RESIDENT0 (R135)
      ⟨0x90008, 1, 8, .tile, [⟨0, 64, .rw, 0, .any⟩]⟩,
    -- TILE_SPAD_RESIDENT1 (R135)
      ⟨0x90010, 1, 8, .tile, [⟨0, 32, .rw, 0, .any⟩]⟩,
    -- TILE_SPAD_CLEAR (R135)
      ⟨0x90018, 1, 8, .mgmt, [⟨0, 1, .w1s, 0, .any⟩, ⟨1, 1, .ro, 0, .any⟩]⟩,
    -- TILE_SPAD_REACH_d (R135)
      ⟨0x90020, 4, 8, .mgmt, [⟨0, 9, .rw, 0, .any⟩, ⟨15, 1, .rw, 0, .any⟩, ⟨16, 2, .ro, 3, .any⟩]⟩,
    -- TILE_SPAD_CE_CNT (R135)
      ⟨0x90048, 1, 8, .mgmt, [⟨0, 32, .rw, 0, .any⟩, ⟨32, 32, .rw, 0xffffffff, .any⟩]⟩ ]

/-- Registers of the TILE block, part 1. -/
def rowsTile1 : List RegRow :=
  [ -- TILE_SPAD_UE_CNT (R135)
      ⟨0x90050, 1, 8, .mgmt, [⟨0, 32, .rw, 0, .any⟩, ⟨32, 32, .rw, 0xffffffff, .any⟩]⟩,
    -- TILE_SPAD_CONFLICT_CNT (R135)
      ⟨0x90058, 1, 8, .mgmt, [⟨0, 32, .rw, 0, .any⟩, ⟨32, 32, .rw, 0xffffffff, .any⟩]⟩,
    -- TILE_SPAD_YIELD_CNT (R135)
      ⟨0x90060, 1, 8, .mgmt, [⟨0, 32, .rw, 0, .any⟩, ⟨32, 32, .rw, 0xffffffff, .any⟩]⟩,
    -- TILE_SPAD_DISCARD_CNT (R135)
      ⟨0x90068, 1, 8, .mgmt, [⟨0, 32, .rw, 0, .any⟩, ⟨32, 32, .rw, 0xffffffff, .any⟩]⟩,
    -- TILE_SPAD_MSERR_CNT (R135)
      ⟨0x90070, 1, 8, .mgmt, [⟨0, 32, .rw, 0, .any⟩, ⟨32, 32, .rw, 0xffffffff, .any⟩]⟩,
    -- TILE_SPAD_SCRUB_PASS (R135)
      ⟨0x90078, 1, 8, .mgmt, [⟨0, 48, .ro, 0, .any⟩]⟩,
    -- TILE_SPAD_UE_CAP (R135)
      ⟨0x90080, 1, 8, .mgmt, [⟨0, 27, .ro, 0, .any⟩, ⟨28, 4, .ro, 0, .any⟩, ⟨32, 1, .ro, 0, .any⟩, ⟨33, 1, .ro, 0, .any⟩, ⟨63, 1, .w1c, 0, .any⟩]⟩,
    -- TILE_SPAD_CONFLICT_CAP (R135)
      ⟨0x90088, 1, 8, .mgmt, [⟨0, 5, .ro, 0, .any⟩, ⟨5, 4, .ro, 0, .any⟩, ⟨9, 4, .ro, 0, .any⟩, ⟨13, 1, .ro, 0, .any⟩, ⟨14, 3, .ro, 0, .any⟩, ⟨17, 31, .ro, 0, .any⟩, ⟨63, 1, .w1c, 0, .any⟩]⟩,
    -- TILE_SPAD_DISCARD_CAP (R135)
      ⟨0x90090, 1, 8, .mgmt, [⟨0, 27, .ro, 0, .any⟩, ⟨27, 9, .ro, 0, .any⟩, ⟨36, 2, .ro, 0, .any⟩, ⟨38, 2, .ro, 0, .any⟩, ⟨63, 1, .w1c, 0, .any⟩]⟩,
    -- TILE_SPAD_MSERR_CAP (R135)
      ⟨0x90098, 1, 8, .mgmt, [⟨0, 3, .ro, 0, .any⟩, ⟨3, 2, .ro, 0, .any⟩, ⟨5, 3, .ro, 0, .any⟩, ⟨8, 27, .ro, 0, .any⟩, ⟨63, 1, .w1c, 0, .any⟩]⟩,
    -- TILE_SPAD_WINn_LO (R135)
      ⟨0x90100, 16, 16, .tile, [⟨0, 64, .rw, 0, .any⟩]⟩,
    -- TILE_SPAD_WINn_HI (R135)
      ⟨0x90108, 16, 16, .tile, [⟨0, 36, .rw, 0, .any⟩, ⟨63, 1, .rw, 0, .any⟩]⟩,
    -- TILE_NET_CFG (R192)
      ⟨0xA0000, 1, 8, .mgmt, [⟨0, 1, .rw, 0, .any⟩, ⟨8, 8, .rw, 10, (.range 1 255)⟩, ⟨16, 12, .rw, 200, (.range 1 4095)⟩, ⟨28, 5, .rw, 20, (.range 10 30)⟩]⟩,
    -- TILE_NET_STATUS (R192)
      ⟨0xA0008, 1, 8, .mgmt, [⟨0, 7, .ro, 0, .any⟩, ⟨7, 7, .ro, 0, .any⟩, ⟨14, 7, .ro, 0, .any⟩, ⟨21, 6, .ro, 0, .any⟩]⟩,
    -- TILE_NET_CE_CNT (R192)
      ⟨0xA0010, 1, 8, .mgmt, [⟨0, 32, .rw, 0, .any⟩, ⟨32, 32, .rw, 0xffffffff, .any⟩]⟩,
    -- TILE_NET_UE_CNT (R192)
      ⟨0xA0018, 1, 8, .mgmt, [⟨0, 32, .rw, 0, .any⟩, ⟨32, 32, .rw, 0xffffffff, .any⟩]⟩,
    -- TILE_NET_DROP_CNT (R192)
      ⟨0xA0020, 1, 8, .mgmt, [⟨0, 32, .rw, 0, .any⟩, ⟨32, 32, .rw, 0xffffffff, .any⟩]⟩,
    -- TILE_NET_STALL_CNT (R192)
      ⟨0xA0028, 1, 8, .mgmt, [⟨0, 32, .rw, 0, .any⟩, ⟨32, 32, .rw, 0xffffffff, .any⟩]⟩,
    -- TILE_NET_TIMEOUT_CNT (R192)
      ⟨0xA0030, 1, 8, .mgmt, [⟨0, 32, .rw, 0, .any⟩, ⟨32, 32, .rw, 0xffffffff, .any⟩]⟩,
    -- TILE_NET_DROP_CAP (R192)
      ⟨0xA0038, 1, 8, .mgmt, [⟨0, 4, .ro, 0, .any⟩, ⟨4, 3, .ro, 0, .any⟩, ⟨7, 9, .ro, 0, .any⟩, ⟨16, 4, .ro, 0, .any⟩, ⟨20, 1, .ro, 0, .any⟩, ⟨21, 6, .ro, 0, .any⟩, ⟨27, 6, .ro, 0, .any⟩, ⟨33, 28, .ro, 0, .any⟩, ⟨63, 1, .w1c, 0, .any⟩]⟩ ]

/-- Registers of the TILE block, part 2. -/
def rowsTile2 : List RegRow :=
  [ -- TILE_NET_MAP (R192)
      ⟨0xA1000, 128, 8, .mgmt, [⟨0, 16, .rw, 0, .mapEntry⟩, ⟨16, 16, .rw, 0, .mapEntry⟩, ⟨32, 16, .rw, 0, .mapEntry⟩, ⟨48, 16, .rw, 0, .mapEntry⟩]⟩,
    -- TILE_NET_SRTA_NIB (R181)
      ⟨0xA4000, 640, 32, .mgmt, [⟨0, 64, .rw, 0, .any⟩]⟩,
    -- TILE_NET_SRTA_NIB1 (R181)
      ⟨0xA4008, 640, 32, .mgmt, [⟨0, 64, .rw, 0, .any⟩]⟩,
    -- TILE_NET_SRTA_NIB2 (R181)
      ⟨0xA4010, 640, 32, .mgmt, [⟨0, 64, .rw, 0, .any⟩]⟩,
    -- TILE_NET_SRTA_CTL (R181)
      ⟨0xA4018, 640, 32, .mgmt, [⟨0, 6, .rw, 0, (.range 0 48)⟩, ⟨6, 1, .rw, 0, .any⟩]⟩,
    -- TILE_NET_SRTB_NIB (R181)
      ⟨0xA9000, 640, 32, .mgmt, [⟨0, 64, .rw, 0, .any⟩]⟩,
    -- TILE_NET_SRTB_NIB1 (R181)
      ⟨0xA9008, 640, 32, .mgmt, [⟨0, 64, .rw, 0, .any⟩]⟩,
    -- TILE_NET_SRTB_NIB2 (R181)
      ⟨0xA9010, 640, 32, .mgmt, [⟨0, 64, .rw, 0, .any⟩]⟩,
    -- TILE_NET_SRTB_CTL (R181)
      ⟨0xA9018, 640, 32, .mgmt, [⟨0, 6, .rw, 0, (.range 0 48)⟩, ⟨6, 1, .rw, 0, .any⟩]⟩,
    -- TILE_NET_REDA_NIB (R183)
      ⟨0xAE000, 1024, 32, .mgmt, [⟨0, 64, .rw, 0, .any⟩]⟩,
    -- TILE_NET_REDA_NIB1 (R183)
      ⟨0xAE008, 1024, 32, .mgmt, [⟨0, 64, .rw, 0, .any⟩]⟩,
    -- TILE_NET_REDA_NIB2 (R183)
      ⟨0xAE010, 1024, 32, .mgmt, [⟨0, 64, .rw, 0, .any⟩]⟩,
    -- TILE_NET_REDA_CTL (R183)
      ⟨0xAE018, 1024, 32, .mgmt, [⟨0, 6, .rw, 0, (.range 0 48)⟩, ⟨6, 1, .rw, 0, .any⟩, ⟨7, 1, .rw, 0, .any⟩, ⟨8, 6, .rw, 0, (.range 1 63)⟩, ⟨14, 4, .rw, 0, (.range 0 1)⟩]⟩,
    -- TILE_NET_REDB_NIB (R183)
      ⟨0xB6000, 1024, 32, .mgmt, [⟨0, 64, .rw, 0, .any⟩]⟩,
    -- TILE_NET_REDB_NIB1 (R183)
      ⟨0xB6008, 1024, 32, .mgmt, [⟨0, 64, .rw, 0, .any⟩]⟩,
    -- TILE_NET_REDB_NIB2 (R183)
      ⟨0xB6010, 1024, 32, .mgmt, [⟨0, 64, .rw, 0, .any⟩]⟩,
    -- TILE_NET_REDB_CTL (R183)
      ⟨0xB6018, 1024, 32, .mgmt, [⟨0, 6, .rw, 0, (.range 0 48)⟩, ⟨6, 1, .rw, 0, .any⟩, ⟨7, 1, .rw, 0, .any⟩, ⟨8, 6, .rw, 0, (.range 1 63)⟩, ⟨14, 4, .rw, 0, (.range 0 1)⟩]⟩ ]

/-- Registers of the GRV block, part 0. -/
def rowsGrv0 : List RegRow :=
  [ -- GRV_ROUTEA_W0 (R231)
      ⟨0xC0000, 1024, 32, .mgmt, [⟨0, 2, .rw, 0, .any⟩, ⟨8, 6, .rw, 0, .any⟩, ⟨16, 6, .rw, 0, (.range 0 47)⟩, ⟨48, 16, .rw, 0, .any⟩]⟩,
    -- GRV_ROUTEA_W1 (R231)
      ⟨0xC0008, 1024, 32, .mgmt, [⟨0, 32, .rw, 0, .any⟩, ⟨32, 32, .rw, 0, .any⟩]⟩,
    -- GRV_ROUTEA_W2 (R231)
      ⟨0xC0010, 1024, 32, .mgmt, []⟩,
    -- GRV_ROUTEA_W3 (R231)
      ⟨0xC0018, 1024, 32, .mgmt, []⟩,
    -- GRV_ROUTEB_W0 (R231)
      ⟨0xC8000, 1024, 32, .mgmt, [⟨0, 2, .rw, 0, .any⟩, ⟨8, 6, .rw, 0, .any⟩, ⟨16, 6, .rw, 0, (.range 0 47)⟩, ⟨48, 16, .rw, 0, .any⟩]⟩,
    -- GRV_ROUTEB_W1 (R231)
      ⟨0xC8008, 1024, 32, .mgmt, [⟨0, 32, .rw, 0, .any⟩, ⟨32, 32, .rw, 0, .any⟩]⟩,
    -- GRV_ROUTEB_W2 (R231)
      ⟨0xC8010, 1024, 32, .mgmt, []⟩,
    -- GRV_ROUTEB_W3 (R231)
      ⟨0xC8018, 1024, 32, .mgmt, []⟩,
    -- GRV_CNET_HOPSu (R192)
      ⟨0xE0000, 16, 8, .mgmt, [⟨0, 64, .ro, 0, .any⟩]⟩,
    -- GRV_CNET_SYNCDLY_CNT (R192)
      ⟨0xE0080, 1, 8, .mgmt, [⟨0, 32, .rw, 0, .any⟩, ⟨32, 32, .rw, 0xffffffff, .any⟩]⟩,
    -- GRV_HBM_MAP (R211)
      ⟨0xE0100, 1, 8, .mgmt, [⟨0, 48, .rw, 0, .any⟩, ⟨48, 2, .rw, 1, .any⟩]⟩,
    -- GRV_CLK_CFG (R349)
      ⟨0xE0200, 1, 8, .mgmt, [⟨0, 1, .rw, 1, .any⟩, ⟨1, 6, .rw, 25, (.range 10 60)⟩]⟩,
    -- GRV_CLK_STATUS (R349)
      ⟨0xE0208, 1, 8, .mgmt, [⟨0, 2, .ro, 0, .any⟩, ⟨2, 1, .ro, 0, .any⟩, ⟨3, 1, .ro, 0, .any⟩, ⟨4, 2, .ro, 0, .any⟩, ⟨6, 4, .ro, 0, .any⟩]⟩,
    -- GRV_CLK_STRETCH_CNT (R349)
      ⟨0xE0210, 1, 8, .mgmt, [⟨0, 32, .rw, 0, .any⟩, ⟨32, 32, .rw, 0xffffffff, .any⟩]⟩,
    -- GRV_CLK_DROOP_CNT (R349)
      ⟨0xE0218, 1, 8, .mgmt, [⟨0, 32, .rw, 0, .any⟩, ⟨32, 32, .rw, 0xffffffff, .any⟩]⟩,
    -- GRV_CLK_XPHASE (R349)
      ⟨0xE0220, 1, 8, .mgmt, [⟨0, 48, .ro, 0, .any⟩]⟩,
    -- GRV_PWR_CFG (R369)
      ⟨0xE0300, 1, 8, .mgmt, [⟨0, 1, .rw, 0, .any⟩, ⟨1, 8, .rw, 16, (.range 4 255)⟩, ⟨9, 7, .rw, 20, (.range 5 100)⟩]⟩,
    -- GRV_PWR_STATUS (R369)
      ⟨0xE0308, 1, 8, .mgmt, [⟨0, 2, .ro, 0, .any⟩, ⟨2, 4, .ro, 0, .any⟩, ⟨6, 10, .ro, 0, .any⟩, ⟨16, 10, .ro, 0, .any⟩, ⟨26, 9, .ro, 440, .any⟩, ⟨35, 10, .ro, 0, .any⟩, ⟨45, 2, .ro, 0, .any⟩, ⟨47, 1, .ro, 0, .any⟩]⟩,
    -- GRV_PWR_PHn (R369)
      ⟨0xE0310, 10, 8, .mgmt, [⟨0, 8, .ro, 0, .any⟩, ⟨8, 16, .ro, 0, .any⟩, ⟨24, 16, .ro, 0, .any⟩, ⟨40, 1, .ro, 0, .any⟩, ⟨41, 1, .ro, 0, .any⟩]⟩,
    -- GRV_THM_STATUS (R385)
      ⟨0xE0400, 1, 8, .mgmt, [⟨0, 16, .ro, 0, .any⟩, ⟨16, 16, .ro, 0, .any⟩, ⟨32, 1, .ro, 0, .any⟩, ⟨33, 1, .ro, 0, .any⟩]⟩ ]

/-- Registers of the GRV block, part 1. -/
def rowsGrv1 : List RegRow :=
  [ -- GRV_THM_DISAGREE_CNT (R385)
      ⟨0xE0408, 1, 8, .mgmt, [⟨0, 32, .rw, 0, .any⟩, ⟨32, 32, .rw, 0xffffffff, .any⟩]⟩ ]

/-- Registers of the HBM block. -/
def rowsHbm : List RegRow :=
  [ -- HBM_CFG (R211)
      ⟨0x0, 1, 8, .mgmt, [⟨0, 1, .rw, 1, .any⟩, ⟨1, 8, .rw, 24, (.range 1 168)⟩]⟩,
    -- HBM_STATUS (R211)
      ⟨0x8, 1, 8, .mgmt, [⟨0, 2, .ro, 0, .any⟩, ⟨2, 8, .ro, 0, .any⟩, ⟨10, 1, .ro, 0, .any⟩, ⟨11, 1, .ro, 0, .any⟩]⟩,
    -- HBM_CE_CNT (R211)
      ⟨0x10, 1, 8, .mgmt, [⟨0, 32, .rw, 0, .any⟩, ⟨32, 32, .rw, 0xffffffff, .any⟩]⟩,
    -- HBM_UE_CNT (R211)
      ⟨0x18, 1, 8, .mgmt, [⟨0, 32, .rw, 0, .any⟩, ⟨32, 32, .rw, 0xffffffff, .any⟩]⟩,
    -- HBM_NACK_CNT (R211)
      ⟨0x20, 1, 8, .mgmt, [⟨0, 32, .rw, 0, .any⟩, ⟨32, 32, .rw, 0xffffffff, .any⟩]⟩,
    -- HBM_UE_CAP (R211)
      ⟨0x28, 1, 8, .mgmt, [⟨0, 35, .ro, 0, .any⟩, ⟨35, 4, .ro, 0, .any⟩, ⟨39, 1, .ro, 0, .any⟩, ⟨63, 1, .w1c, 0, .any⟩]⟩,
    -- HBM_NACK_CAP (R211)
      ⟨0x30, 1, 8, .mgmt, [⟨0, 3, .ro, 0, .any⟩, ⟨3, 4, .ro, 0, .any⟩, ⟨7, 2, .ro, 0, .any⟩, ⟨9, 9, .ro, 0, .any⟩, ⟨18, 41, .ro, 0, .any⟩, ⟨63, 1, .w1c, 0, .any⟩]⟩,
    -- HBM_CLEAR (R211)
      ⟨0x38, 1, 8, .mgmt, [⟨0, 15, .rw, 0, .any⟩, ⟨16, 15, .rw, 0, (.range 0 24576)⟩, ⟨32, 1, .w1s, 0, .any⟩, ⟨33, 1, .ro, 0, .any⟩]⟩,
    -- HBM_HEALTH (R306)
      ⟨0x40, 1, 8, .mgmt, [⟨0, 32, .ro, 0, .any⟩, ⟨32, 1, .ro, 0, .any⟩]⟩,
    -- HBM_MAPp (R211)
      ⟨0x100, 16, 8, .mgmt, [⟨0, 48, .rw, 0, .any⟩, ⟨48, 2, .rw, 1, .any⟩]⟩,
    -- HBM_GRANTp (R211)
      ⟨0x180, 16, 8, .mgmt, [⟨0, 15, .rw, 0, .any⟩, ⟨16, 15, .rw, 0, (.range 0 24576)⟩]⟩ ]

/-- Registers of the FAB block, part 0. -/
def rowsFab0 : List RegRow :=
  [ -- FAB_CTRL (R250)
      ⟨0x0, 1, 8, .mgmt, [⟨0, 1, .rw, 0, .any⟩, ⟨1, 1, .rw, 0, .any⟩, ⟨2, 1, .rw, 0, .any⟩]⟩,
    -- FAB_STATUS (R250)
      ⟨0x8, 1, 8, .mgmt, [⟨0, 3, .ro, 0, .any⟩, ⟨3, 1, .ro, 0, .any⟩, ⟨4, 1, .ro, 0, .any⟩, ⟨5, 1, .ro, 0, .any⟩, ⟨6, 11, .ro, 0, .any⟩, ⟨17, 9, .ro, 0, .any⟩, ⟨26, 10, .ro, 0, .any⟩, ⟨36, 8, .ro, 0, .any⟩]⟩,
    -- FAB_PARTNER (R250)
      ⟨0x10, 1, 8, .mgmt, [⟨0, 16, .ro, 0, .any⟩, ⟨16, 6, .ro, 0, .any⟩, ⟨22, 1, .ro, 0, .any⟩, ⟨23, 8, .ro, 0, .any⟩, ⟨31, 1, .ro, 0, .any⟩]⟩,
    -- FAB_PARTNER_SERIAL (R250)
      ⟨0x18, 1, 8, .mgmt, [⟨0, 64, .ro, 0, .any⟩]⟩,
    -- FAB_ADMIT (R250)
      ⟨0x20, 1, 8, .mgmt, [⟨0, 16, .rw, 0, .any⟩]⟩,
    -- FAB_CE_CNT (R250)
      ⟨0x40, 1, 8, .mgmt, [⟨0, 32, .rw, 0, .any⟩, ⟨32, 32, .rw, 0xffffffff, .any⟩]⟩,
    -- FAB_UE_CNT (R250)
      ⟨0x48, 1, 8, .mgmt, [⟨0, 32, .rw, 0, .any⟩, ⟨32, 32, .rw, 0xffffffff, .any⟩]⟩,
    -- FAB_REPLAY_CNT (R250)
      ⟨0x50, 1, 8, .mgmt, [⟨0, 32, .rw, 0, .any⟩, ⟨32, 32, .rw, 0xffffffff, .any⟩]⟩,
    -- FAB_RETRAIN_CNT (R250)
      ⟨0x58, 1, 8, .mgmt, [⟨0, 32, .rw, 0, .any⟩, ⟨32, 32, .rw, 0xffffffff, .any⟩]⟩,
    -- FAB_DROP_CNT (R250)
      ⟨0x60, 1, 8, .mgmt, [⟨0, 32, .rw, 0, .any⟩, ⟨32, 32, .rw, 0xffffffff, .any⟩]⟩,
    -- FAB_DIGEST_CNT (R250)
      ⟨0x68, 1, 8, .mgmt, [⟨0, 32, .rw, 0, .any⟩, ⟨32, 32, .rw, 0xffffffff, .any⟩]⟩,
    -- FAB_DROP_CAP (R250)
      ⟨0x70, 1, 8, .mgmt, [⟨0, 4, .ro, 0, .any⟩, ⟨4, 4, .ro, 0, .any⟩, ⟨8, 16, .ro, 0, .any⟩, ⟨24, 9, .ro, 0, .any⟩, ⟨33, 4, .ro, 0, .any⟩, ⟨37, 5, .ro, 0, .any⟩, ⟨42, 6, .ro, 0, .any⟩, ⟨63, 1, .w1c, 0, .any⟩]⟩,
    -- FAB_DIGEST_CAP (R250)
      ⟨0x78, 1, 8, .mgmt, [⟨0, 2, .ro, 0, .any⟩, ⟨2, 6, .ro, 0, .any⟩, ⟨8, 16, .ro, 0, .any⟩, ⟨24, 4, .ro, 0, .any⟩, ⟨63, 1, .w1c, 0, .any⟩]⟩,
    -- FAB_ETH_CFG (R250)
      ⟨0x100, 1, 8, .mgmt, [⟨0, 48, .rw, 0, .any⟩, ⟨48, 3, .rw, 0, (.range 0 6)⟩, ⟨56, 8, .rw, 0, .any⟩]⟩,
    -- FAB_ETH_TXRING (R250)
      ⟨0x108, 1, 8, .mgmt, [⟨0, 48, .rw, 0, (.multiple 4096)⟩]⟩,
    -- FAB_ETH_RXRING (R250)
      ⟨0x110, 1, 8, .mgmt, [⟨0, 48, .rw, 0, (.multiple 4096)⟩]⟩,
    -- FAB_ETH_PTR (R250)
      ⟨0x118, 1, 8, .mgmt, [⟨0, 12, .rw, 0, .any⟩, ⟨16, 12, .ro, 0, .any⟩, ⟨32, 12, .rw, 0, .any⟩, ⟨48, 12, .ro, 0, .any⟩]⟩,
    -- FAB_ETH_RXDROP_CNT (R250)
      ⟨0x120, 1, 8, .mgmt, [⟨0, 32, .rw, 0, .any⟩, ⟨32, 32, .rw, 0xffffffff, .any⟩]⟩,
    -- FAB_LANE_SYMl (R306)
      ⟨0x180, 8, 8, .mgmt, [⟨0, 32, .rw, 0, .any⟩, ⟨32, 32, .rw, 0xffffffff, .any⟩]⟩,
    -- FAB_LANE_HEALTHl (R306)
      ⟨0x1C0, 8, 8, .mgmt, [⟨0, 32, .ro, 0, .any⟩, ⟨32, 1, .ro, 0, .any⟩]⟩ ]

/-- Registers of the FAB block, part 1. -/
def rowsFab1 : List RegRow :=
  [ -- FAB_RECA_W0 (R234)
      ⟨0x1000, 48, 256, .mgmt, [⟨0, 1, .rw, 0, .any⟩, ⟨1, 1, .rw, 0, .any⟩, ⟨8, 4, .rw, 0, .any⟩, ⟨16, 16, .rw, 0, .any⟩, ⟨32, 4, .rw, 0, .any⟩, ⟨40, 5, .rw, 0, (.range 1 16)⟩, ⟨48, 16, .rw, 0, .any⟩]⟩,
    -- FAB_RECA_W1 (R234)
      ⟨0x1008, 48, 256, .mgmt, [⟨0, 1, .rw, 0, .any⟩, ⟨1, 1, .rw, 0, .any⟩]⟩,
    -- FAB_RECA_W2 (R234)
      ⟨0x1010, 48, 256, .mgmt, [⟨0, 64, .rw, 0, .any⟩]⟩,
    -- FAB_RECA_W3 (R234)
      ⟨0x1018, 48, 256, .mgmt, [⟨0, 64, .rw, 0, .any⟩]⟩,
    -- FAB_RECA_W4 (R234)
      ⟨0x1020, 48, 256, .mgmt, []⟩,
    -- FAB_RECA_W5 (R234)
      ⟨0x1028, 48, 256, .mgmt, []⟩,
    -- FAB_RECA_W6 (R234)
      ⟨0x1030, 48, 256, .mgmt, []⟩,
    -- FAB_RECA_W7 (R234)
      ⟨0x1038, 48, 256, .mgmt, []⟩,
    -- FAB_RECA_W8 (R234)
      ⟨0x1040, 48, 256, .mgmt, [⟨0, 64, .rw, 0, .any⟩]⟩,
    -- FAB_RECA_W9 (R234)
      ⟨0x1048, 48, 256, .mgmt, [⟨0, 64, .rw, 0, .any⟩]⟩,
    -- FAB_RECA_W10 (R234)
      ⟨0x1050, 48, 256, .mgmt, [⟨0, 64, .rw, 0, .any⟩]⟩,
    -- FAB_RECA_W11 (R234)
      ⟨0x1058, 48, 256, .mgmt, [⟨0, 64, .rw, 0, .any⟩]⟩,
    -- FAB_RECA_W12 (R234)
      ⟨0x1060, 48, 256, .mgmt, [⟨0, 64, .rw, 0, .any⟩]⟩,
    -- FAB_RECA_W13 (R234)
      ⟨0x1068, 48, 256, .mgmt, [⟨0, 64, .rw, 0, .any⟩]⟩,
    -- FAB_RECA_W14 (R234)
      ⟨0x1070, 48, 256, .mgmt, [⟨0, 64, .rw, 0, .any⟩]⟩,
    -- FAB_RECA_W15 (R234)
      ⟨0x1078, 48, 256, .mgmt, [⟨0, 64, .rw, 0, .any⟩]⟩,
    -- FAB_RECA_W16 (R234)
      ⟨0x1080, 48, 256, .mgmt, [⟨0, 64, .rw, 0, .any⟩]⟩,
    -- FAB_RECA_W17 (R234)
      ⟨0x1088, 48, 256, .mgmt, [⟨0, 64, .rw, 0, .any⟩]⟩,
    -- FAB_RECA_W18 (R234)
      ⟨0x1090, 48, 256, .mgmt, [⟨0, 64, .rw, 0, .any⟩]⟩,
    -- FAB_RECA_W19 (R234)
      ⟨0x1098, 48, 256, .mgmt, [⟨0, 64, .rw, 0, .any⟩]⟩ ]

/-- Registers of the FAB block, part 2. -/
def rowsFab2 : List RegRow :=
  [ -- FAB_RECA_W20 (R234)
      ⟨0x10A0, 48, 256, .mgmt, [⟨0, 64, .rw, 0, .any⟩]⟩,
    -- FAB_RECA_W21 (R234)
      ⟨0x10A8, 48, 256, .mgmt, [⟨0, 64, .rw, 0, .any⟩]⟩,
    -- FAB_RECA_W22 (R234)
      ⟨0x10B0, 48, 256, .mgmt, [⟨0, 64, .rw, 0, .any⟩]⟩,
    -- FAB_RECA_W23 (R234)
      ⟨0x10B8, 48, 256, .mgmt, [⟨0, 64, .rw, 0, .any⟩]⟩,
    -- FAB_RECA_W24 (R234)
      ⟨0x10C0, 48, 256, .mgmt, [⟨0, 64, .rw, 0, .any⟩]⟩,
    -- FAB_RECA_W25 (R234)
      ⟨0x10C8, 48, 256, .mgmt, [⟨0, 64, .rw, 0, .any⟩]⟩,
    -- FAB_RECA_W26 (R234)
      ⟨0x10D0, 48, 256, .mgmt, [⟨0, 64, .rw, 0, .any⟩]⟩,
    -- FAB_RECA_W27 (R234)
      ⟨0x10D8, 48, 256, .mgmt, [⟨0, 64, .rw, 0, .any⟩]⟩,
    -- FAB_RECA_W28 (R234)
      ⟨0x10E0, 48, 256, .mgmt, [⟨0, 64, .rw, 0, .any⟩]⟩,
    -- FAB_RECA_W29 (R234)
      ⟨0x10E8, 48, 256, .mgmt, [⟨0, 64, .rw, 0, .any⟩]⟩,
    -- FAB_RECA_W30 (R234)
      ⟨0x10F0, 48, 256, .mgmt, [⟨0, 64, .rw, 0, .any⟩]⟩,
    -- FAB_RECA_W31 (R234)
      ⟨0x10F8, 48, 256, .mgmt, [⟨0, 64, .rw, 0, .any⟩]⟩,
    -- FAB_RECB_W0 (R234)
      ⟨0x4000, 48, 256, .mgmt, [⟨0, 1, .rw, 0, .any⟩, ⟨1, 1, .rw, 0, .any⟩, ⟨8, 4, .rw, 0, .any⟩, ⟨16, 16, .rw, 0, .any⟩, ⟨32, 4, .rw, 0, .any⟩, ⟨40, 5, .rw, 0, (.range 1 16)⟩, ⟨48, 16, .rw, 0, .any⟩]⟩,
    -- FAB_RECB_W1 (R234)
      ⟨0x4008, 48, 256, .mgmt, [⟨0, 1, .rw, 0, .any⟩, ⟨1, 1, .rw, 0, .any⟩]⟩,
    -- FAB_RECB_W2 (R234)
      ⟨0x4010, 48, 256, .mgmt, [⟨0, 64, .rw, 0, .any⟩]⟩,
    -- FAB_RECB_W3 (R234)
      ⟨0x4018, 48, 256, .mgmt, [⟨0, 64, .rw, 0, .any⟩]⟩,
    -- FAB_RECB_W4 (R234)
      ⟨0x4020, 48, 256, .mgmt, []⟩,
    -- FAB_RECB_W5 (R234)
      ⟨0x4028, 48, 256, .mgmt, []⟩,
    -- FAB_RECB_W6 (R234)
      ⟨0x4030, 48, 256, .mgmt, []⟩,
    -- FAB_RECB_W7 (R234)
      ⟨0x4038, 48, 256, .mgmt, []⟩ ]

/-- Registers of the FAB block, part 3. -/
def rowsFab3 : List RegRow :=
  [ -- FAB_RECB_W8 (R234)
      ⟨0x4040, 48, 256, .mgmt, [⟨0, 64, .rw, 0, .any⟩]⟩,
    -- FAB_RECB_W9 (R234)
      ⟨0x4048, 48, 256, .mgmt, [⟨0, 64, .rw, 0, .any⟩]⟩,
    -- FAB_RECB_W10 (R234)
      ⟨0x4050, 48, 256, .mgmt, [⟨0, 64, .rw, 0, .any⟩]⟩,
    -- FAB_RECB_W11 (R234)
      ⟨0x4058, 48, 256, .mgmt, [⟨0, 64, .rw, 0, .any⟩]⟩,
    -- FAB_RECB_W12 (R234)
      ⟨0x4060, 48, 256, .mgmt, [⟨0, 64, .rw, 0, .any⟩]⟩,
    -- FAB_RECB_W13 (R234)
      ⟨0x4068, 48, 256, .mgmt, [⟨0, 64, .rw, 0, .any⟩]⟩,
    -- FAB_RECB_W14 (R234)
      ⟨0x4070, 48, 256, .mgmt, [⟨0, 64, .rw, 0, .any⟩]⟩,
    -- FAB_RECB_W15 (R234)
      ⟨0x4078, 48, 256, .mgmt, [⟨0, 64, .rw, 0, .any⟩]⟩,
    -- FAB_RECB_W16 (R234)
      ⟨0x4080, 48, 256, .mgmt, [⟨0, 64, .rw, 0, .any⟩]⟩,
    -- FAB_RECB_W17 (R234)
      ⟨0x4088, 48, 256, .mgmt, [⟨0, 64, .rw, 0, .any⟩]⟩,
    -- FAB_RECB_W18 (R234)
      ⟨0x4090, 48, 256, .mgmt, [⟨0, 64, .rw, 0, .any⟩]⟩,
    -- FAB_RECB_W19 (R234)
      ⟨0x4098, 48, 256, .mgmt, [⟨0, 64, .rw, 0, .any⟩]⟩,
    -- FAB_RECB_W20 (R234)
      ⟨0x40A0, 48, 256, .mgmt, [⟨0, 64, .rw, 0, .any⟩]⟩,
    -- FAB_RECB_W21 (R234)
      ⟨0x40A8, 48, 256, .mgmt, [⟨0, 64, .rw, 0, .any⟩]⟩,
    -- FAB_RECB_W22 (R234)
      ⟨0x40B0, 48, 256, .mgmt, [⟨0, 64, .rw, 0, .any⟩]⟩,
    -- FAB_RECB_W23 (R234)
      ⟨0x40B8, 48, 256, .mgmt, [⟨0, 64, .rw, 0, .any⟩]⟩,
    -- FAB_RECB_W24 (R234)
      ⟨0x40C0, 48, 256, .mgmt, [⟨0, 64, .rw, 0, .any⟩]⟩,
    -- FAB_RECB_W25 (R234)
      ⟨0x40C8, 48, 256, .mgmt, [⟨0, 64, .rw, 0, .any⟩]⟩,
    -- FAB_RECB_W26 (R234)
      ⟨0x40D0, 48, 256, .mgmt, [⟨0, 64, .rw, 0, .any⟩]⟩,
    -- FAB_RECB_W27 (R234)
      ⟨0x40D8, 48, 256, .mgmt, [⟨0, 64, .rw, 0, .any⟩]⟩ ]

/-- Registers of the FAB block, part 4. -/
def rowsFab4 : List RegRow :=
  [ -- FAB_RECB_W28 (R234)
      ⟨0x40E0, 48, 256, .mgmt, [⟨0, 64, .rw, 0, .any⟩]⟩,
    -- FAB_RECB_W29 (R234)
      ⟨0x40E8, 48, 256, .mgmt, [⟨0, 64, .rw, 0, .any⟩]⟩,
    -- FAB_RECB_W30 (R234)
      ⟨0x40F0, 48, 256, .mgmt, [⟨0, 64, .rw, 0, .any⟩]⟩,
    -- FAB_RECB_W31 (R234)
      ⟨0x40F8, 48, 256, .mgmt, [⟨0, 64, .rw, 0, .any⟩]⟩ ]

/-- Registers of the DIE block, part 0. -/
def rowsDie0 : List RegRow :=
  [ -- FAB_DIE_SRT_NIB0 (R250)
      ⟨0x8000, 625, 32, .mgmt, [⟨0, 64, .rw, 0, .any⟩]⟩,
    -- FAB_DIE_SRT_NIB1 (R250)
      ⟨0x8008, 625, 32, .mgmt, [⟨0, 64, .rw, 0, .any⟩]⟩,
    -- FAB_DIE_SRT_NIB2 (R250)
      ⟨0x8010, 625, 32, .mgmt, [⟨0, 64, .rw, 0, .any⟩]⟩,
    -- FAB_DIE_SRT_CTL (R250)
      ⟨0x8018, 625, 32, .mgmt, [⟨0, 6, .rw, 0, (.range 0 48)⟩, ⟨6, 1, .rw, 0, .any⟩]⟩,
    -- FAB_DIE_COLLA_W0 (R245)
      ⟨0xD000, 64, 64, .mgmt, [⟨0, 1, .rw, 0, .any⟩, ⟨1, 1, .rw, 0, .any⟩, ⟨2, 1, .rw, 0, .any⟩, ⟨4, 4, .rw, 0, .any⟩, ⟨8, 10, .rw, 0, .any⟩, ⟨20, 6, .rw, 0, .any⟩, ⟨28, 6, .rw, 0, .any⟩, ⟨36, 16, .rw, 0, .any⟩, ⟨52, 4, .rw, 0, .any⟩, ⟨56, 5, .rw, 0, (.range 0 16)⟩]⟩,
    -- FAB_DIE_COLLA_W1 (R245)
      ⟨0xD008, 64, 64, .mgmt, [⟨0, 5, .rw, 0, .any⟩, ⟨8, 8, .rw, 0, .any⟩, ⟨16, 48, .rw, 0, .any⟩]⟩,
    -- FAB_DIE_COLLA_W2 (R245)
      ⟨0xD010, 64, 64, .mgmt, [⟨0, 17, .rw, 0, .any⟩, ⟨32, 1, .rw, 0, .any⟩]⟩,
    -- FAB_DIE_COLLA_W3 (R245)
      ⟨0xD018, 64, 64, .mgmt, [⟨0, 64, .rw, 0, .any⟩]⟩,
    -- FAB_DIE_COLLA_W4 (R245)
      ⟨0xD020, 64, 64, .mgmt, [⟨0, 64, .rw, 0, .any⟩]⟩,
    -- FAB_DIE_COLLA_W5 (R245)
      ⟨0xD028, 64, 64, .mgmt, [⟨0, 64, .rw, 0, .any⟩]⟩,
    -- FAB_DIE_COLLA_W6 (R245)
      ⟨0xD030, 64, 64, .mgmt, [⟨0, 6, .rw, 0, (.range 0 48)⟩]⟩,
    -- FAB_DIE_COLLA_W7 (R245)
      ⟨0xD038, 64, 64, .mgmt, []⟩,
    -- FAB_DIE_COLLB_W0 (R245)
      ⟨0xE000, 64, 64, .mgmt, [⟨0, 1, .rw, 0, .any⟩, ⟨1, 1, .rw, 0, .any⟩, ⟨2, 1, .rw, 0, .any⟩, ⟨4, 4, .rw, 0, .any⟩, ⟨8, 10, .rw, 0, .any⟩, ⟨20, 6, .rw, 0, .any⟩, ⟨28, 6, .rw, 0, .any⟩, ⟨36, 16, .rw, 0, .any⟩, ⟨52, 4, .rw, 0, .any⟩, ⟨56, 5, .rw, 0, (.range 0 16)⟩]⟩,
    -- FAB_DIE_COLLB_W1 (R245)
      ⟨0xE008, 64, 64, .mgmt, [⟨0, 5, .rw, 0, .any⟩, ⟨8, 8, .rw, 0, .any⟩, ⟨16, 48, .rw, 0, .any⟩]⟩,
    -- FAB_DIE_COLLB_W2 (R245)
      ⟨0xE010, 64, 64, .mgmt, [⟨0, 17, .rw, 0, .any⟩, ⟨32, 1, .rw, 0, .any⟩]⟩,
    -- FAB_DIE_COLLB_W3 (R245)
      ⟨0xE018, 64, 64, .mgmt, [⟨0, 64, .rw, 0, .any⟩]⟩,
    -- FAB_DIE_COLLB_W4 (R245)
      ⟨0xE020, 64, 64, .mgmt, [⟨0, 64, .rw, 0, .any⟩]⟩,
    -- FAB_DIE_COLLB_W5 (R245)
      ⟨0xE028, 64, 64, .mgmt, [⟨0, 64, .rw, 0, .any⟩]⟩,
    -- FAB_DIE_COLLB_W6 (R245)
      ⟨0xE030, 64, 64, .mgmt, [⟨0, 6, .rw, 0, (.range 0 48)⟩]⟩,
    -- FAB_DIE_COLLB_W7 (R245)
      ⟨0xE038, 64, 64, .mgmt, []⟩ ]

/-- Registers of the DIE block, part 1. -/
def rowsDie1 : List RegRow :=
  [ -- FAB_DIE_CFG (R250)
      ⟨0xF000, 1, 8, .mgmt, [⟨0, 16, .rw, 0, .any⟩, ⟨16, 12, .rw, 5, (.range 1 4095)⟩, ⟨28, 12, .rw, 8, (.range 1 4095)⟩]⟩,
    -- FAB_DIE_EPOCH (R250)
      ⟨0xF008, 1, 8, .mgmt, [⟨0, 16, .rw, 0, .any⟩]⟩,
    -- FAB_DIE_STATUS (R250)
      ⟨0xF010, 1, 8, .mgmt, [⟨0, 9, .ro, 0, .any⟩, ⟨9, 9, .ro, 0, .any⟩, ⟨18, 9, .ro, 0, .any⟩]⟩,
    -- FAB_DIE_HBM_MAPq (R250)
      ⟨0xF080, 16, 8, .mgmt, [⟨0, 48, .rw, 0, .any⟩, ⟨48, 2, .rw, 1, .any⟩]⟩,
    -- FAB_DIE_OLDOUTq (R250)
      ⟨0xF100, 16, 8, .mgmt, [⟨0, 9, .ro, 0, .any⟩]⟩ ]

/-- Registers of the SEQ block. -/
def rowsSeq : List RegRow :=
  [ -- SEQ_SLOTs_KV (R154)
      ⟨0x0, 256, 32, .tile, [⟨0, 41, .rw, 0, (.multiple 256)⟩, ⟨48, 8, .rw, 0, (.range 1 255)⟩]⟩,
    -- SEQ_SLOTs_LEN (R154)
      ⟨0x8, 256, 32, .tile, [⟨0, 24, .rw, 0, .any⟩, ⟨24, 24, .rw, 0, (.range 1 16777215)⟩]⟩,
    -- SEQ_SLOTs_SYNC (R154)
      ⟨0x10, 256, 32, .tile, [⟨0, 17, .rw, 0, .any⟩, ⟨32, 32, .rw, 0, .any⟩]⟩,
    -- SEQ_SLOTs_STATE (R154)
      ⟨0x18, 256, 32, .tile, [⟨0, 3, .ro, 0, .any⟩, ⟨3, 4, .rw, 0, .any⟩, ⟨7, 9, .ro, 0, .any⟩, ⟨16, 24, .ro, 0, .any⟩, ⟨40, 3, .ro, 0, .any⟩]⟩,
    -- SEQ_CMDs (R156)
      ⟨0x2000, 256, 8, .tile, [⟨0, 4, .wo, 0, (.range 1 7)⟩, ⟨16, 24, .wo, 0, .any⟩]⟩,
    -- SEQ_WATCHw (R163)
      ⟨0x4000, 64, 8, .tile, [⟨0, 17, .rw, 0, .any⟩, ⟨17, 1, .rw, 0, .any⟩, ⟨18, 1, .w1c, 0, .any⟩, ⟨32, 32, .rw, 0, .any⟩]⟩,
    -- SEQ_CKPT_BASEp (R163)
      ⟨0x4200, 16, 8, .mgmt, [⟨0, 41, .rw, 0, (.multiple 4096)⟩, ⟨63, 1, .rw, 0, .any⟩]⟩,
    -- SEQ_ERR_CNT (R163)
      ⟨0x4280, 1, 8, .mgmt, [⟨0, 32, .rw, 0, .any⟩, ⟨32, 32, .rw, 0xffffffff, .any⟩]⟩,
    -- SEQ_ERR_CAP (R163)
      ⟨0x4288, 1, 8, .mgmt, [⟨0, 8, .ro, 0, .any⟩, ⟨8, 3, .ro, 0, .any⟩, ⟨11, 9, .ro, 0, .any⟩, ⟨20, 1, .ro, 0, .any⟩, ⟨63, 1, .w1c, 0, .any⟩]⟩,
    -- SEQ_SYNCERR_CNT (R163)
      ⟨0x4290, 1, 8, .mgmt, [⟨0, 32, .rw, 0, .any⟩, ⟨32, 32, .rw, 0xffffffff, .any⟩]⟩,
    -- SEQ_SYNCERR_CAP (R163)
      ⟨0x4298, 1, 8, .mgmt, [⟨0, 17, .ro, 0, .any⟩, ⟨17, 2, .ro, 0, .any⟩, ⟨19, 2, .ro, 0, .any⟩, ⟨21, 9, .ro, 0, .any⟩, ⟨63, 1, .w1c, 0, .any⟩]⟩ ]

/-- Registers of the FLT block, part 0. -/
def rowsFlt0 : List RegRow :=
  [ -- FLT_CFG (R303)
      ⟨0x0, 1, 8, .mgmt, [⟨0, 12, .rw, 100, (.range 1 4095)⟩, ⟨12, 4, .rw, 1, (.range 1 15)⟩, ⟨16, 3, .rw, 3, (.range 2 7)⟩, ⟨19, 6, .rw, 30, (.range 20 40)⟩, ⟨25, 1, .rw, 0, .any⟩]⟩,
    -- FLT_STATUS (R303)
      ⟨0x8, 1, 8, .mgmt, [⟨0, 1, .ro, 0, .any⟩, ⟨1, 1, .ro, 0, .any⟩, ⟨2, 13, .ro, 0, .any⟩]⟩,
    -- FLT_HEAD (R303)
      ⟨0x10, 1, 8, .mgmt, [⟨0, 32, .ro, 0, .any⟩]⟩,
    -- FLT_ACK (R303)
      ⟨0x18, 1, 8, .flt, [⟨0, 32, .rw, 0xffffffff, .any⟩]⟩,
    -- FLT_LOST_CNT (R303)
      ⟨0x20, 1, 8, .mgmt, [⟨0, 32, .rw, 0, .any⟩, ⟨32, 32, .rw, 0xffffffff, .any⟩]⟩,
    -- FLT_CMD (R303)
      ⟨0x28, 1, 8, .flt, [⟨0, 4, .wo, 0, (.range 1 2)⟩, ⟨4, 10, .wo, 0, .any⟩]⟩,
    -- FLT_HCFG (R303)
      ⟨0x30, 1, 8, .mgmt, [⟨0, 8, .rw, 60, (.range 1 255)⟩, ⟨8, 5, .rw, 14, (.range 4 24)⟩]⟩,
    -- FLT_HTHRESH (R303)
      ⟨0x38, 1, 8, .mgmt, [⟨0, 16, .rw, 512, .any⟩, ⟨16, 16, .rw, 256, .any⟩, ⟨32, 16, .rw, 512, .any⟩, ⟨48, 16, .rw, 0x1000, .any⟩]⟩,
    -- FLT_PANEL_HEALTH (R306)
      ⟨0x40, 1, 8, .mgmt, [⟨0, 32, .ro, 0, .any⟩, ⟨32, 1, .ro, 0, .any⟩]⟩,
    -- FLT_HW0 (R303)
      ⟨0x100, 1, 8, .mgmt, [⟨0, 16, .rw, 1, .any⟩]⟩,
    -- FLT_HW1 (R303)
      ⟨0x108, 1, 8, .mgmt, [⟨0, 16, .rw, 1, .any⟩]⟩,
    -- FLT_HW2 (R303)
      ⟨0x110, 1, 8, .mgmt, [⟨0, 16, .rw, 0x400, .any⟩]⟩,
    -- FLT_HW3 (R303)
      ⟨0x118, 1, 8, .mgmt, [⟨0, 16, .rw, 0x400, .any⟩]⟩,
    -- FLT_HW4 (R303)
      ⟨0x120, 1, 8, .mgmt, [⟨0, 16, .rw, 1, .any⟩]⟩,
    -- FLT_HW5 (R303)
      ⟨0x128, 1, 8, .mgmt, [⟨0, 16, .rw, 0x400, .any⟩]⟩,
    -- FLT_HW6 (R303)
      ⟨0x130, 1, 8, .mgmt, [⟨0, 16, .rw, 1, .any⟩]⟩,
    -- FLT_HW7 (R303)
      ⟨0x138, 1, 8, .mgmt, [⟨0, 16, .rw, 4, .any⟩]⟩,
    -- FLT_HW8 (R303)
      ⟨0x140, 1, 8, .mgmt, [⟨0, 16, .rw, 256, .any⟩]⟩,
    -- FLT_HW9 (R303)
      ⟨0x148, 1, 8, .mgmt, [⟨0, 16, .rw, 16, .any⟩]⟩,
    -- FLT_HW10 (R303)
      ⟨0x150, 1, 8, .mgmt, [⟨0, 16, .rw, 0x4000, .any⟩]⟩ ]

/-- Registers of the FLT block, part 1. -/
def rowsFlt1 : List RegRow :=
  [ -- FLT_HW11 (R303)
      ⟨0x158, 1, 8, .mgmt, [⟨0, 16, .rw, 0x1000, .any⟩]⟩,
    -- FLT_HW12 (R303)
      ⟨0x160, 1, 8, .mgmt, [⟨0, 16, .rw, 0x4000, .any⟩]⟩,
    -- FLT_HW13 (R303)
      ⟨0x168, 1, 8, .mgmt, [⟨0, 17, .rw, 0x10000, .any⟩]⟩,
    -- FLT_HW14 (R303)
      ⟨0x170, 1, 8, .mgmt, [⟨0, 16, .rw, 0, .any⟩]⟩,
    -- FLT_HW15 (R303)
      ⟨0x178, 1, 8, .mgmt, [⟨0, 16, .rw, 0, .any⟩]⟩,
    -- FLT_SRCn (R303)
      ⟨0x100000, 14000, 8, .flt, [⟨0, 32, .rw, 0, .any⟩, ⟨32, 1, .w1c, 0, .any⟩, ⟨33, 1, .w1s, 0, .any⟩, ⟨34, 3, .ro, 0, .any⟩]⟩,
    -- FLT_RINGe (R303)
      ⟨0x200000, 16384, 8, .mgmt, [⟨0, 64, .ro, 0, .any⟩]⟩ ]

/-- Registers of the MGMT block, part 0. -/
def rowsMgmt0 : List RegRow :=
  [ -- MGMT_STATUS (R415)
      ⟨0x0, 1, 8, .mgmt, [⟨0, 8, .ro, 0, .any⟩, ⟨8, 1, .ro, 0, .any⟩, ⟨9, 1, .ro, 0, .any⟩, ⟨10, 4, .ro, 0, .any⟩]⟩,
    -- MGMT_ACL (R415)
      ⟨0x10, 1, 8, .hostg, [⟨0, 6, .rw, 63, .any⟩]⟩,
    -- MGMT_MPORT (R415)
      ⟨0x18, 1, 8, .hostg, [⟨0, 1, .rw, 0, .any⟩, ⟨1, 1, .ro, 0, .any⟩, ⟨2, 1, .ro, 0, .any⟩, ⟨3, 16, .ro, 0, .any⟩]⟩,
    -- MGMT_HWINw (R415)
      ⟨0x100, 16, 8, .hwin, [⟨0, 4, .rw, 0, .any⟩, ⟨4, 1, .rw, 0, .any⟩, ⟨5, 4, .rw, 0, .any⟩]⟩,
    -- MGMT_HOST_CTRL (R415)
      ⟨0x200, 1, 8, .hostg, [⟨0, 1, .w1s, 0, .any⟩, ⟨1, 1, .rw, 0, .any⟩, ⟨2, 12, .rw, 0x3e8, (.range 10 4095)⟩, ⟨14, 1, .rw, 0, .any⟩, ⟨15, 8, .rw, 10, (.range 1 255)⟩, ⟨23, 12, .rw, 200, (.range 1 4095)⟩, ⟨35, 3, .ro, 0, .any⟩, ⟨38, 1, .w1s, 0, .any⟩]⟩,
    -- MGMT_HBR_ERR_CNT (R415)
      ⟨0x208, 1, 8, .mgmt, [⟨0, 32, .rw, 0, .any⟩, ⟨32, 32, .rw, 0xffffffff, .any⟩]⟩,
    -- MGMT_HBR_ERR_CAP (R415)
      ⟨0x210, 1, 8, .mgmt, [⟨0, 4, .ro, 0, .any⟩, ⟨4, 4, .ro, 0, .any⟩, ⟨8, 2, .ro, 0, .any⟩, ⟨10, 5, .ro, 0, .any⟩, ⟨15, 48, .ro, 0, .any⟩, ⟨63, 1, .w1c, 0, .any⟩]⟩,
    -- MGMT_IRQn (R415)
      ⟨0x400, 128, 8, .irq, [⟨0, 48, .rw, 0, (.multiple 4)⟩, ⟨48, 11, .rw, 0, (.range 1 2047)⟩, ⟨63, 1, .rw, 0, .any⟩]⟩,
    -- MGMT_BOOT_STATUS (R334)
      ⟨0x10000, 1, 8, .mgmt, [⟨0, 4, .ro, 0, .any⟩, ⟨4, 3, .ro, 0, .any⟩, ⟨32, 32, .ro, 0, .any⟩]⟩,
    -- MGMT_READY_GRV (R334)
      ⟨0x10008, 1, 8, .mgmt, [⟨0, 36, .ro, 0, .any⟩]⟩,
    -- MGMT_READY_HBM (R334)
      ⟨0x10010, 1, 8, .mgmt, [⟨0, 50, .ro, 0, .any⟩]⟩,
    -- MGMT_READY_PORT (R334)
      ⟨0x10018, 1, 8, .mgmt, [⟨0, 64, .ro, 0, .any⟩]⟩,
    -- MGMT_READY_MISC (R334)
      ⟨0x10020, 1, 8, .mgmt, [⟨0, 1, .ro, 0, .any⟩, ⟨1, 1, .ro, 0, .any⟩, ⟨2, 1, .ro, 0, .any⟩, ⟨3, 1, .ro, 0, .any⟩, ⟨4, 1, .ro, 0, .any⟩, ⟨5, 1, .ro, 0, .any⟩, ⟨6, 1, .ro, 0, .any⟩, ⟨7, 1, .ro, 0, .any⟩]⟩,
    -- MGMT_BOOT_COMPAT (R334)
      ⟨0x10028, 1, 8, .mgmt, [⟨0, 4, .ro, 0, .any⟩, ⟨4, 16, .ro, 0, .any⟩, ⟨20, 1, .ro, 0, .any⟩, ⟨24, 4, .ro, 0, .any⟩, ⟨28, 16, .ro, 0, .any⟩, ⟨63, 1, .ro, 0, .any⟩]⟩,
    -- MGMT_TAP_CFG (R334)
      ⟨0x10040, 1, 8, .mgmt, [⟨0, 1, .rw, 0, .any⟩]⟩,
    -- MGMT_BISTi_RES (R334)
      ⟨0x10100, 576, 16, .mgmt, [⟨0, 4, .ro, 0, .any⟩, ⟨4, 2, .ro, 0, .any⟩, ⟨6, 1, .ro, 0, .any⟩, ⟨8, 10, .ro, 0, .any⟩, ⟨18, 10, .ro, 0, .any⟩, ⟨28, 12, .ro, 0, .any⟩, ⟨40, 12, .ro, 0, .any⟩, ⟨52, 5, .ro, 0, .any⟩]⟩,
    -- MGMT_BISTi_ID (R334)
      ⟨0x10108, 576, 16, .mgmt, [⟨0, 8, .ro, 0, .any⟩, ⟨8, 6, .ro, 0, .any⟩, ⟨16, 8, .ro, 0, .any⟩, ⟨24, 6, .ro, 0, .any⟩, ⟨32, 2, .ro, 0, .any⟩]⟩,
    -- MGMT_BIST_HBMk_0 (R334)
      ⟨0x12800, 50, 16, .mgmt, [⟨0, 4, .ro, 0, .any⟩, ⟨8, 10, .ro, 0, .any⟩, ⟨18, 10, .ro, 0, .any⟩, ⟨28, 12, .ro, 0, .any⟩, ⟨40, 12, .ro, 0, .any⟩]⟩,
    -- MGMT_BIST_HBMk_1 (R334)
      ⟨0x12808, 50, 16, .mgmt, [⟨0, 8, .ro, 0, .any⟩, ⟨8, 8, .ro, 0, .any⟩, ⟨32, 32, .ro, 0, .any⟩]⟩,
    -- MGMT_BIST_LRIMm_0 (R334)
      ⟨0x12C00, 16, 16, .mgmt, [⟨0, 4, .ro, 0, .any⟩, ⟨8, 10, .ro, 0, .any⟩, ⟨18, 10, .ro, 0, .any⟩, ⟨28, 12, .ro, 0, .any⟩, ⟨40, 12, .ro, 0, .any⟩]⟩ ]

/-- Registers of the MGMT block, part 1. -/
def rowsMgmt1 : List RegRow :=
  [ -- MGMT_BIST_LRIMm_1 (R334)
      ⟨0x12C08, 16, 16, .mgmt, [⟨0, 8, .ro, 0, .any⟩, ⟨8, 8, .ro, 0, .any⟩, ⟨32, 32, .ro, 0, .any⟩]⟩,
    -- MGMT_BIST_HOST_0 (R334)
      ⟨0x12D00, 1, 16, .mgmt, [⟨0, 4, .ro, 0, .any⟩, ⟨8, 10, .ro, 0, .any⟩, ⟨18, 10, .ro, 0, .any⟩, ⟨28, 12, .ro, 0, .any⟩, ⟨40, 12, .ro, 0, .any⟩]⟩,
    -- MGMT_BIST_HOST_1 (R334)
      ⟨0x12D08, 1, 16, .mgmt, [⟨0, 8, .ro, 0, .any⟩, ⟨8, 8, .ro, 0, .any⟩, ⟨32, 32, .ro, 0, .any⟩]⟩,
    -- MGMT_UPD_SLOTk (R415)
      ⟨0x20008, 5, 8, .mgmt, [⟨0, 2, .ro, 0, .any⟩, ⟨2, 2, .ro, 0, .any⟩, ⟨4, 1, .ro, 0, .any⟩, ⟨5, 1, .ro, 0, .any⟩, ⟨6, 1, .ro, 0, .any⟩, ⟨7, 2, .ro, 0, .any⟩, ⟨9, 4, .ro, 0, .any⟩, ⟨16, 16, .ro, 0, .any⟩, ⟨32, 16, .ro, 0, .any⟩]⟩,
    -- MGMT_LOG_HEAD (R415)
      ⟨0x30000, 1, 8, .mgmt, [⟨0, 32, .ro, 0, .any⟩]⟩,
    -- MGMT_LOG_OLDEST (R415)
      ⟨0x30008, 1, 8, .mgmt, [⟨0, 32, .ro, 0, .any⟩]⟩,
    -- MGMT_LOG_LOST (R415)
      ⟨0x30010, 1, 8, .mgmt, [⟨0, 32, .rw, 0, .any⟩, ⟨32, 32, .rw, 0xffffffff, .any⟩]⟩,
    -- MGMT_LOG_SEL (R415)
      ⟨0x30018, 1, 8, .mgmt, [⟨0, 32, .rw, 0, .any⟩]⟩,
    -- MGMT_LOG_DATAi (R415)
      ⟨0x30040, 8, 8, .mgmt, [⟨0, 64, .ro, 0, .any⟩]⟩ ]

/-- Registers of the PART block. -/
def rowsPart : List RegRow :=
  [ -- MGMT_PARTp_CFG (R275)
      ⟨0x0, 1, 8, .part, [⟨0, 36, .rw, 0, .any⟩, ⟨36, 2, .rw, 1, .any⟩, ⟨40, 12, .rw, 500, .any⟩]⟩,
    -- MGMT_PARTp_HBMSET (R275)
      ⟨0x8, 1, 8, .part, [⟨0, 48, .rw, 0, .any⟩]⟩,
    -- MGMT_PARTp_GRANT (R275)
      ⟨0x10, 1, 8, .part, [⟨0, 15, .rw, 0, .any⟩, ⟨16, 15, .rw, 0, .any⟩]⟩,
    -- MGMT_PARTp_CKPT (R275)
      ⟨0x18, 1, 8, .part, [⟨0, 41, .rw, 0, (.multiple 4096)⟩, ⟨63, 1, .rw, 0, .any⟩]⟩,
    -- MGMT_PARTp_IMAGE (R275)
      ⟨0x20, 1, 8, .part, [⟨0, 48, .rw, 0, (.multiple 4096)⟩]⟩,
    -- MGMT_PARTp_CMD (R275)
      ⟨0x28, 1, 8, .part, [⟨0, 4, .wo, 0, (.range 1 6)⟩]⟩,
    -- MGMT_PARTp_STATUS (R275)
      ⟨0x30, 1, 8, .part, [⟨0, 3, .ro, 0, .any⟩, ⟨3, 1, .ro, 0, .any⟩, ⟨4, 1, .ro, 0, .any⟩, ⟨5, 1, .w1c, 0, .any⟩, ⟨6, 1, .ro, 0, .any⟩]⟩,
    -- MGMT_PARTp_LOADERR (R275)
      ⟨0x38, 1, 8, .part, [⟨0, 4, .ro, 0, .any⟩, ⟨4, 4, .ro, 0, .any⟩, ⟨32, 32, .ro, 0, .any⟩]⟩,
    -- MGMT_PARTp_COVERw (R275)
      ⟨0x40, 9, 8, .part, [⟨0, 64, .ro, 0, .any⟩]⟩,
    -- MGMT_PARTp_FPOL (R304)
      ⟨0x88, 1, 8, .part, [⟨0, 1, .rw, 0, .any⟩, ⟨1, 1, .rw, 1, .any⟩]⟩,
    -- MGMT_PARTp_FSTAT (R304)
      ⟨0x90, 1, 8, .part, [⟨0, 1, .w1c, 0, .any⟩, ⟨1, 1, .ro, 0, .any⟩, ⟨2, 1, .ro, 0, .any⟩, ⟨3, 1, .w1c, 0, .any⟩, ⟨16, 16, .ro, 0, .any⟩, ⟨32, 32, .ro, 0, .any⟩]⟩,
    -- MGMT_PARTp_RTIME (R304)
      ⟨0x98, 1, 8, .mgmt, [⟨0, 32, .ro, 0, .any⟩]⟩ ]

/-- Registers of the CLK block. -/
def rowsClk : List RegRow :=
  [ -- CLK_CFG (R349)
      ⟨0x0, 1, 8, .mgmt, [⟨0, 1, .rw, 1, .any⟩, ⟨1, 8, .rw, 10, (.range 1 255)⟩, ⟨9, 14, .rw, 100, (.range 100 10000)⟩]⟩,
    -- CLK_STATUS (R349)
      ⟨0x8, 1, 8, .mgmt, [⟨0, 2, .ro, 0, .any⟩, ⟨2, 1, .ro, 0, .any⟩, ⟨3, 1, .ro, 0, .any⟩, ⟨4, 2, .ro, 2, .any⟩]⟩,
    -- CLK_REFCOUNT (R349)
      ⟨0x10, 1, 8, .mgmt, [⟨0, 64, .ro, 0, .any⟩]⟩,
    -- CLK_OPP_CMD (R349)
      ⟨0x18, 1, 8, .clkpwr, [⟨0, 2, .wo, 0, .any⟩]⟩,
    -- CLK_OPP_STATUS (R349)
      ⟨0x20, 1, 8, .mgmt, [⟨0, 1, .ro, 0, .any⟩, ⟨1, 1, .w1c, 0, .any⟩, ⟨2, 3, .ro, 0, .any⟩, ⟨5, 2, .ro, 0, .any⟩]⟩,
    -- CLK_OPP_T (R349)
      ⟨0x28, 1, 8, .mgmt, [⟨0, 64, .ro, 0, .any⟩]⟩,
    -- CLK_HOLD_CNT (R349)
      ⟨0x30, 1, 8, .mgmt, [⟨0, 32, .rw, 0, .any⟩, ⟨32, 32, .rw, 0xffffffff, .any⟩]⟩ ]

/-- Registers of the PWR block. -/
def rowsPwr : List RegRow :=
  [ -- PWR_CFG (R369)
      ⟨0x0, 1, 8, .clkpwr, [⟨0, 8, .rw, 192, .any⟩, ⟨8, 8, .rw, 10, (.range 1 255)⟩, ⟨16, 9, .rw, 150, (.range 10 300)⟩, ⟨25, 2, .ro, 2, .any⟩]⟩,
    -- PWR_CAP (R369)
      ⟨0x8, 1, 8, .clkpwr, [⟨0, 16, .rw, 0x36b0, .cap⟩, ⟨16, 16, .ro, 0x3a98, .any⟩, ⟨32, 16, .ro, 0x36b0, .any⟩]⟩,
    -- PWR_STATUS (R369)
      ⟨0x10, 1, 8, .mgmt, [⟨0, 16, .ro, 0, .any⟩, ⟨16, 14, .ro, 0, .any⟩, ⟨30, 7, .ro, 0, .any⟩, ⟨37, 8, .ro, 0, .any⟩, ⟨45, 1, .ro, 0, .any⟩, ⟨46, 1, .ro, 0, .any⟩, ⟨47, 1, .ro, 0, .any⟩, ⟨48, 1, .ro, 0, .any⟩, ⟨49, 2, .ro, 2, .any⟩]⟩,
    -- PWR_POWER (R369)
      ⟨0x18, 1, 8, .mgmt, [⟨0, 16, .ro, 0, .any⟩, ⟨16, 16, .ro, 0, .any⟩, ⟨32, 16, .ro, 0, .any⟩, ⟨48, 16, .ro, 0, .any⟩]⟩,
    -- PWR_ENV_CNT (R369)
      ⟨0x20, 1, 8, .mgmt, [⟨0, 32, .rw, 0, .any⟩, ⟨32, 32, .rw, 0xffffffff, .any⟩]⟩,
    -- PWR_ENV_CAP (R369)
      ⟨0x28, 1, 8, .mgmt, [⟨0, 3, .ro, 0, .any⟩, ⟨3, 16, .ro, 0, .any⟩, ⟨63, 1, .w1c, 0, .any⟩]⟩,
    -- PWR_SEGr (R369)
      ⟨0x100, 6, 8, .mgmt, [⟨0, 16, .ro, 520, .any⟩, ⟨16, 16, .ro, 520, .any⟩, ⟨32, 6, .ro, 0, .any⟩]⟩ ]

/-- Registers of the THM block. -/
def rowsThm : List RegRow :=
  [ -- THM_CFG (R385)
      ⟨0x0, 1, 8, .mgmt, [⟨0, 1, .ro, 0, .any⟩, ⟨1, 7, .rw, 101, (.range 90 104)⟩, ⟨8, 4, .rw, 3, (.range 1 15)⟩, ⟨12, 4, .rw, 5, (.range 1 15)⟩, ⟨16, 8, .rw, 5, .any⟩, ⟨24, 8, .rw, 20, .any⟩, ⟨32, 16, .rw, 200, .any⟩, ⟨48, 7, .rw, 15, (.range 5 100)⟩]⟩,
    -- THM_STATUS (R385)
      ⟨0x8, 1, 8, .mgmt, [⟨0, 1, .ro, 0, .any⟩, ⟨1, 2, .ro, 3, .any⟩, ⟨3, 1, .ro, 0, .any⟩, ⟨4, 1, .ro, 0, .any⟩, ⟨5, 1, .ro, 0, .any⟩, ⟨6, 1, .ro, 0, .any⟩, ⟨7, 6, .ro, 0, .any⟩]⟩,
    -- THM_COOLANT (R385)
      ⟨0x10, 1, 8, .mgmt, [⟨0, 12, .ro, 0, .any⟩, ⟨16, 12, .ro, 0, .any⟩, ⟨32, 16, .ro, 0, .any⟩, ⟨48, 16, .ro, 0, .any⟩]⟩,
    -- THM_PANEL (R385)
      ⟨0x18, 1, 8, .mgmt, [⟨0, 12, .ro, 0, .any⟩, ⟨16, 12, .ro, 0, .any⟩, ⟨32, 16, .ro, 0, .any⟩]⟩ ]

/-- Registers of the DESC block. -/
def rowsDesc : List RegRow :=
  [ -- DESC_MAGIC (R34)
      ⟨0x0, 1, 8, .mgmt, [⟨0, 64, .ro, 0, .any⟩]⟩,
    -- DESC_GEN (R34)
      ⟨0x8, 1, 8, .mgmt, [⟨0, 64, .ro, 0, .any⟩]⟩,
    -- DESC_IDENT (R34)
      ⟨0x10, 1, 8, .mgmt, [⟨0, 64, .ro, 0, .any⟩]⟩,
    -- DESC_SERIAL (R34)
      ⟨0x18, 1, 8, .mgmt, [⟨0, 64, .ro, 0, .any⟩]⟩,
    -- DESC_COUNTS (R34)
      ⟨0x20, 1, 8, .mgmt, [⟨0, 64, .ro, 0, .any⟩]⟩,
    -- DESC_COUNTS2 (R34)
      ⟨0x28, 1, 8, .mgmt, [⟨0, 64, .ro, 0, .any⟩]⟩,
    -- DESC_GRV_EN (R34)
      ⟨0x40, 1, 8, .mgmt, [⟨0, 64, .ro, 0, .any⟩]⟩,
    -- DESC_HBM_EN (R34)
      ⟨0x48, 1, 8, .mgmt, [⟨0, 64, .ro, 0, .any⟩]⟩,
    -- DESC_PORT_EN (R34)
      ⟨0x50, 1, 8, .mgmt, [⟨0, 64, .ro, 0, .any⟩]⟩,
    -- DESC_ETH_CAP (R34)
      ⟨0x58, 1, 8, .mgmt, [⟨0, 64, .ro, 0, .any⟩]⟩,
    -- DESC_FEATURES (R34)
      ⟨0x60, 1, 8, .mgmt, [⟨0, 64, .ro, 0, .any⟩]⟩,
    -- DESC_OPPOINTS (R34)
      ⟨0x68, 1, 8, .mgmt, [⟨0, 64, .ro, 0, .any⟩]⟩,
    -- DESC_POWER_MAX (R34)
      ⟨0x70, 1, 8, .mgmt, [⟨0, 64, .ro, 0, .any⟩]⟩,
    -- DESC_SLOT_EN (R34)
      ⟨0x80, 4, 8, .mgmt, [⟨0, 64, .ro, 0, .any⟩]⟩,
    -- DESC_LGRV (R34)
      ⟨0xC0, 5, 8, .mgmt, [⟨0, 64, .ro, 0, .any⟩]⟩,
    -- DESC_POS_STATUS (R34)
      ⟨0x100, 72, 8, .mgmt, [⟨0, 64, .ro, 0, .any⟩]⟩,
    -- DESC_POS_MAP (R34)
      ⟨0x400, 128, 8, .mgmt, [⟨0, 64, .ro, 0, .any⟩]⟩,
    -- DESC_REV_MAP (R34)
      ⟨0x800, 144, 8, .mgmt, [⟨0, 64, .ro, 0, .any⟩]⟩,
    -- DESC_DIST (R34)
      ⟨0x10000, 32768, 8, .mgmt, [⟨0, 64, .ro, 0, .any⟩]⟩ ]

/-- Registers of the TILE block. -/
def rowsTile : List RegRow := rowsTile0 ++ rowsTile1 ++ rowsTile2

/-- Registers of the GRV block. -/
def rowsGrv : List RegRow := rowsGrv0 ++ rowsGrv1

/-- Registers of the FAB block. -/
def rowsFab : List RegRow := rowsFab0 ++ rowsFab1 ++ rowsFab2 ++ rowsFab3 ++ rowsFab4

/-- Registers of the DIE block. -/
def rowsDie : List RegRow := rowsDie0 ++ rowsDie1

/-- Registers of the FLT block. -/
def rowsFlt : List RegRow := rowsFlt0 ++ rowsFlt1

/-- Registers of the MGMT block. -/
def rowsMgmt : List RegRow := rowsMgmt0 ++ rowsMgmt1

/-! ## Named registers and fields -/

/-- TILE_CORE_ID (R73). -/
def TILE_CORE_ID (pos c : Nat) : Reg := ⟨coreBase pos c, 0x0⟩
/-- TILE_CORE_CYCLE (R73). -/
def TILE_CORE_CYCLE (pos c : Nat) : Reg := ⟨coreBase pos c + 0x8, 0x0⟩
/-- TILE_CORE_WPOS (R73). -/
def TILE_CORE_WPOS (pos c : Nat) : Reg := ⟨coreBase pos c + 0x10, 0x0⟩
/-- Field WPOS of TILE_CORE_WPOS. -/
def TILE_CORE_WPOS_WPOS (pos c : Nat) : Field := ⟨TILE_CORE_WPOS pos c, 0, 4⟩
/-- TILE_CORE_REFCOUNT (R73). -/
def TILE_CORE_REFCOUNT (pos c : Nat) : Reg := ⟨coreBase pos c + 0x18, 0x0⟩
/-- TILE_CORE_INVCOUNT (R73). -/
def TILE_CORE_INVCOUNT (pos c : Nat) : Reg := ⟨coreBase pos c + 0x20, 0x0⟩
/-- TILE_CORE_JOB (R74). -/
def TILE_CORE_JOB (pos c : Nat) : Reg := ⟨coreBase pos c + 0x28, 0x0⟩
/-- Field SLOT of TILE_CORE_JOB. -/
def TILE_CORE_JOB_SLOT (pos c : Nat) : Field := ⟨TILE_CORE_JOB pos c, 0, 8⟩
/-- Field SLOT_VALID of TILE_CORE_JOB. -/
def TILE_CORE_JOB_SLOT_VALID (pos c : Nat) : Field := ⟨TILE_CORE_JOB pos c, 8, 1⟩
/-- TILE_CORE_SRSEED (R73). -/
def TILE_CORE_SRSEED (pos c : Nat) : Reg := ⟨coreBase pos c + 0x30, 0x0⟩
/-- TILE_CORE_TRAPVEC (R73). -/
def TILE_CORE_TRAPVEC (pos c : Nat) : Reg := ⟨coreBase pos c + 0x40, 0x0⟩
/-- Field INDEX of TILE_CORE_TRAPVEC. -/
def TILE_CORE_TRAPVEC_INDEX (pos c : Nat) : Field := ⟨TILE_CORE_TRAPVEC pos c, 0, 11⟩
/-- Field VALID of TILE_CORE_TRAPVEC. -/
def TILE_CORE_TRAPVEC_VALID (pos c : Nat) : Field := ⟨TILE_CORE_TRAPVEC pos c, 63, 1⟩
/-- TILE_CORE_TCAUSE (R73). -/
def TILE_CORE_TCAUSE (pos c : Nat) : Reg := ⟨coreBase pos c + 0x48, 0x0⟩
/-- TILE_CORE_TPC (R73). -/
def TILE_CORE_TPC (pos c : Nat) : Reg := ⟨coreBase pos c + 0x50, 0x0⟩
/-- Field TPC of TILE_CORE_TPC. -/
def TILE_CORE_TPC_TPC (pos c : Nat) : Field := ⟨TILE_CORE_TPC pos c, 0, 11⟩
/-- TILE_CORE_TINFO (R74). -/
def TILE_CORE_TINFO (pos c : Nat) : Reg := ⟨coreBase pos c + 0x58, 0x0⟩
/-- Field SLOT of TILE_CORE_TINFO. -/
def TILE_CORE_TINFO_SLOT (pos c : Nat) : Field := ⟨TILE_CORE_TINFO pos c, 0, 2⟩
/-- Field REG of TILE_CORE_TINFO. -/
def TILE_CORE_TINFO_REG (pos c : Nat) : Field := ⟨TILE_CORE_TINFO pos c, 2, 6⟩
/-- Field HDR of TILE_CORE_TINFO. -/
def TILE_CORE_TINFO_HDR (pos c : Nat) : Field := ⟨TILE_CORE_TINFO pos c, 8, 1⟩
/-- Field ADDR of TILE_CORE_TINFO. -/
def TILE_CORE_TINFO_ADDR (pos c : Nat) : Field := ⟨TILE_CORE_TINFO pos c, 16, 48⟩
/-- TILE_CORE_LOOPn (R73). -/
def TILE_CORE_LOOPn (pos c : Nat) (i : Nat) : Reg := ⟨coreBase pos c + 0x60 + i * 8, 0x0⟩
/-- Field COUNT of TILE_CORE_LOOPn. -/
def TILE_CORE_LOOPn_COUNT (pos c : Nat) (i : Nat) : Field := ⟨TILE_CORE_LOOPn pos c i, 0, 32⟩
/-- Field START of TILE_CORE_LOOPn. -/
def TILE_CORE_LOOPn_START (pos c : Nat) (i : Nat) : Field := ⟨TILE_CORE_LOOPn pos c i, 32, 11⟩
/-- Field END of TILE_CORE_LOOPn. -/
def TILE_CORE_LOOPn_END (pos c : Nat) (i : Nat) : Field := ⟨TILE_CORE_LOOPn pos c i, 43, 11⟩
/-- Field ACTIVE of TILE_CORE_LOOPn. -/
def TILE_CORE_LOOPn_ACTIVE (pos c : Nat) (i : Nat) : Field := ⟨TILE_CORE_LOOPn pos c i, 63, 1⟩
/-- TILE_CORE_PERFn (R75). -/
def TILE_CORE_PERFn (pos c : Nat) (i : Nat) : Reg := ⟨coreBase pos c + 0x80 + i * 8, 0x0⟩
/-- Field COUNT of TILE_CORE_PERFn. -/
def TILE_CORE_PERFn_COUNT (pos c : Nat) (i : Nat) : Field := ⟨TILE_CORE_PERFn pos c i, 0, 48⟩
/-- TILE_CORE_CTRL (R74). -/
def TILE_CORE_CTRL (pos c : Nat) : Reg := ⟨coreBase pos c + 0x100, 0x0⟩
/-- Field RUN of TILE_CORE_CTRL. -/
def TILE_CORE_CTRL_RUN (pos c : Nat) : Field := ⟨TILE_CORE_CTRL pos c, 0, 1⟩
/-- TILE_CORE_STATUS (R74). -/
def TILE_CORE_STATUS (pos c : Nat) : Reg := ⟨coreBase pos c + 0x108, 0x0⟩
/-- Field STATE of TILE_CORE_STATUS. -/
def TILE_CORE_STATUS_STATE (pos c : Nat) : Field := ⟨TILE_CORE_STATUS pos c, 0, 3⟩
/-- Field INFLIGHT of TILE_CORE_STATUS. -/
def TILE_CORE_STATUS_INFLIGHT (pos c : Nat) : Field := ⟨TILE_CORE_STATUS pos c, 3, 1⟩
/-- Field LOOPDEPTH of TILE_CORE_STATUS. -/
def TILE_CORE_STATUS_LOOPDEPTH (pos c : Nat) : Field := ⟨TILE_CORE_STATUS pos c, 4, 3⟩
/-- Field PC of TILE_CORE_STATUS. -/
def TILE_CORE_STATUS_PC (pos c : Nat) : Field := ⟨TILE_CORE_STATUS pos c, 7, 11⟩
/-- Field PERF_OVF of TILE_CORE_STATUS. -/
def TILE_CORE_STATUS_PERF_OVF (pos c : Nat) : Field := ⟨TILE_CORE_STATUS pos c, 18, 4⟩
/-- TILE_CORE_ENTRY (R73). -/
def TILE_CORE_ENTRY (pos c : Nat) : Reg := ⟨coreBase pos c + 0x110, 0x0⟩
/-- Field ENTRY of TILE_CORE_ENTRY. -/
def TILE_CORE_ENTRY_ENTRY (pos c : Nat) : Field := ⟨TILE_CORE_ENTRY pos c, 0, 11⟩
/-- TILE_MOV_CFG (R211). -/
def TILE_MOV_CFG (pos : Nat) : Reg := ⟨tileBase pos + 0x88000, 0x100800⟩
/-- Field PACE of TILE_MOV_CFG. -/
def TILE_MOV_CFG_PACE (pos : Nat) : Field := ⟨TILE_MOV_CFG pos, 0, 16⟩
/-- Field MAXOUT of TILE_MOV_CFG. -/
def TILE_MOV_CFG_MAXOUT (pos : Nat) : Field := ⟨TILE_MOV_CFG pos, 16, 6⟩
/-- TILE_MOV_STATUS (R211). -/
def TILE_MOV_STATUS (pos : Nat) : Reg := ⟨tileBase pos + 0x88008, 0x0⟩
/-- Field QUSED of TILE_MOV_STATUS. -/
def TILE_MOV_STATUS_QUSED (pos : Nat) : Field := ⟨TILE_MOV_STATUS pos, 0, 5⟩
/-- Field M0_BUSY of TILE_MOV_STATUS. -/
def TILE_MOV_STATUS_M0_BUSY (pos : Nat) : Field := ⟨TILE_MOV_STATUS pos, 5, 1⟩
/-- Field M1_BUSY of TILE_MOV_STATUS. -/
def TILE_MOV_STATUS_M1_BUSY (pos : Nat) : Field := ⟨TILE_MOV_STATUS pos, 6, 1⟩
/-- TILE_MOV_ERR_CNT (R211). -/
def TILE_MOV_ERR_CNT (pos : Nat) : Reg := ⟨tileBase pos + 0x88010, 0xFFFFFFFF00000000⟩
/-- Field COUNT of TILE_MOV_ERR_CNT. -/
def TILE_MOV_ERR_CNT_COUNT (pos : Nat) : Field := ⟨TILE_MOV_ERR_CNT pos, 0, 32⟩
/-- Field THRESH of TILE_MOV_ERR_CNT. -/
def TILE_MOV_ERR_CNT_THRESH (pos : Nat) : Field := ⟨TILE_MOV_ERR_CNT pos, 32, 32⟩
/-- TILE_MOV_ERR_CAP (R211). -/
def TILE_MOV_ERR_CAP (pos : Nat) : Reg := ⟨tileBase pos + 0x88018, 0x0⟩
/-- Field CODE of TILE_MOV_ERR_CAP. -/
def TILE_MOV_ERR_CAP_CODE (pos : Nat) : Field := ⟨TILE_MOV_ERR_CAP pos, 0, 4⟩
/-- Field REASON of TILE_MOV_ERR_CAP. -/
def TILE_MOV_ERR_CAP_REASON (pos : Nat) : Field := ⟨TILE_MOV_ERR_CAP pos, 4, 4⟩
/-- Field ENGINE of TILE_MOV_ERR_CAP. -/
def TILE_MOV_ERR_CAP_ENGINE (pos : Nat) : Field := ⟨TILE_MOV_ERR_CAP pos, 8, 2⟩
/-- Field ADDR of TILE_MOV_ERR_CAP. -/
def TILE_MOV_ERR_CAP_ADDR (pos : Nat) : Field := ⟨TILE_MOV_ERR_CAP pos, 10, 48⟩
/-- Field VALID of TILE_MOV_ERR_CAP. -/
def TILE_MOV_ERR_CAP_VALID (pos : Nat) : Field := ⟨TILE_MOV_ERR_CAP pos, 63, 1⟩
/-- TILE_MOV_MGMTDw (R211). -/
def TILE_MOV_MGMTDw (pos : Nat) (i : Nat) : Reg := ⟨tileBase pos + 0x88040 + i * 8, 0x0⟩
/-- TILE_MOV_MGMTQ (R211). -/
def TILE_MOV_MGMTQ (pos : Nat) : Reg := ⟨tileBase pos + 0x88080, 0x0⟩
/-- Field GO of TILE_MOV_MGMTQ. -/
def TILE_MOV_MGMTQ_GO (pos : Nat) : Field := ⟨TILE_MOV_MGMTQ pos, 0, 1⟩
/-- Field MOVER of TILE_MOV_MGMTQ. -/
def TILE_MOV_MGMTQ_MOVER (pos : Nat) : Field := ⟨TILE_MOV_MGMTQ pos, 1, 1⟩
/-- Field BUSY of TILE_MOV_MGMTQ. -/
def TILE_MOV_MGMTQ_BUSY (pos : Nat) : Field := ⟨TILE_MOV_MGMTQ pos, 2, 1⟩
/-- TILE_FLT_HB (R305). -/
def TILE_FLT_HB (pos : Nat) : Reg := ⟨tileBase pos + 0x8C000, 0x0⟩
/-- Field HB of TILE_FLT_HB. -/
def TILE_FLT_HB_HB (pos : Nat) : Field := ⟨TILE_FLT_HB pos, 0, 32⟩
/-- TILE_FLT_KAT (R305). -/
def TILE_FLT_KAT (pos : Nat) : Reg := ⟨tileBase pos + 0x8C008, 0x0⟩
/-- Field KBASE of TILE_FLT_KAT. -/
def TILE_FLT_KAT_KBASE (pos : Nat) : Field := ⟨TILE_FLT_KAT pos, 0, 11⟩
/-- Field VALID of TILE_FLT_KAT. -/
def TILE_FLT_KAT_VALID (pos : Nat) : Field := ⟨TILE_FLT_KAT pos, 11, 1⟩
/-- Field CORE of TILE_FLT_KAT. -/
def TILE_FLT_KAT_CORE (pos : Nat) : Field := ⟨TILE_FLT_KAT pos, 12, 3⟩
/-- Field IN of TILE_FLT_KAT. -/
def TILE_FLT_KAT_IN (pos : Nat) : Field := ⟨TILE_FLT_KAT pos, 15, 1⟩
/-- TILE_FLT_KCALLc (R305). -/
def TILE_FLT_KCALLc (pos : Nat) (i : Nat) : Reg := ⟨tileBase pos + 0x8C010 + i * 8, 0x0⟩
/-- Field CALLS of TILE_FLT_KCALLc. -/
def TILE_FLT_KCALLc_CALLS (pos : Nat) (i : Nat) : Field := ⟨TILE_FLT_KCALLc pos i, 0, 48⟩
/-- TILE_FLT_KFAIL_CNT (R305). -/
def TILE_FLT_KFAIL_CNT (pos : Nat) : Reg := ⟨tileBase pos + 0x8C050, 0xFFFFFFFF00000000⟩
/-- Field COUNT of TILE_FLT_KFAIL_CNT. -/
def TILE_FLT_KFAIL_CNT_COUNT (pos : Nat) : Field := ⟨TILE_FLT_KFAIL_CNT pos, 0, 32⟩
/-- Field THRESH of TILE_FLT_KFAIL_CNT. -/
def TILE_FLT_KFAIL_CNT_THRESH (pos : Nat) : Field := ⟨TILE_FLT_KFAIL_CNT pos, 32, 32⟩
/-- TILE_FLT_DUTY (R305). -/
def TILE_FLT_DUTY (pos : Nat) : Reg := ⟨tileBase pos + 0x8C058, 0x0⟩
/-- Field PPM of TILE_FLT_DUTY. -/
def TILE_FLT_DUTY_PPM (pos : Nat) : Field := ⟨TILE_FLT_DUTY pos, 0, 20⟩
/-- TILE_FLT_HEALTH (R306). -/
def TILE_FLT_HEALTH (pos : Nat) : Reg := ⟨tileBase pos + 0x8C060, 0x0⟩
/-- Field SCORE of TILE_FLT_HEALTH. -/
def TILE_FLT_HEALTH_SCORE (pos : Nat) : Field := ⟨TILE_FLT_HEALTH pos, 0, 32⟩
/-- Field CANDIDATE of TILE_FLT_HEALTH. -/
def TILE_FLT_HEALTH_CANDIDATE (pos : Nat) : Field := ⟨TILE_FLT_HEALTH pos, 32, 1⟩
/-- TILE_THM_SENSd (R385). -/
def TILE_THM_SENSd (pos : Nat) (i : Nat) : Reg := ⟨tileBase pos + 0x8D000 + i * 8, 0x3000⟩
/-- Field VALUE of TILE_THM_SENSd. -/
def TILE_THM_SENSd_VALUE (pos : Nat) (i : Nat) : Field := ⟨TILE_THM_SENSd pos i, 0, 12⟩
/-- Field STATE of TILE_THM_SENSd. -/
def TILE_THM_SENSd_STATE (pos : Nat) (i : Nat) : Field := ⟨TILE_THM_SENSd pos i, 12, 2⟩
/-- TILE_THM_HS (R385). -/
def TILE_THM_HS (pos : Nat) : Reg := ⟨tileBase pos + 0x8D028, 0x0⟩
/-- Field HS0 of TILE_THM_HS. -/
def TILE_THM_HS_HS0 (pos : Nat) : Field := ⟨TILE_THM_HS pos, 0, 12⟩
/-- Field BASIS0 of TILE_THM_HS. -/
def TILE_THM_HS_BASIS0 (pos : Nat) : Field := ⟨TILE_THM_HS pos, 12, 2⟩
/-- Field HS1 of TILE_THM_HS. -/
def TILE_THM_HS_HS1 (pos : Nat) : Field := ⟨TILE_THM_HS pos, 16, 12⟩
/-- Field BASIS1 of TILE_THM_HS. -/
def TILE_THM_HS_BASIS1 (pos : Nat) : Field := ⟨TILE_THM_HS pos, 28, 2⟩
/-- Field HS2 of TILE_THM_HS. -/
def TILE_THM_HS_HS2 (pos : Nat) : Field := ⟨TILE_THM_HS pos, 32, 12⟩
/-- Field BASIS2 of TILE_THM_HS. -/
def TILE_THM_HS_BASIS2 (pos : Nat) : Field := ⟨TILE_THM_HS pos, 44, 2⟩
/-- Field PRED of TILE_THM_HS. -/
def TILE_THM_HS_PRED (pos : Nat) : Field := ⟨TILE_THM_HS pos, 48, 12⟩
/-- TILE_SPAD_CFG (R135). -/
def TILE_SPAD_CFG (pos : Nat) : Reg := ⟨tileBase pos + 0x90000, 0x15⟩
/-- Field SCRUB_EN of TILE_SPAD_CFG. -/
def TILE_SPAD_CFG_SCRUB_EN (pos : Nat) : Field := ⟨TILE_SPAD_CFG pos, 0, 1⟩
/-- Field SCRUB_PERIOD of TILE_SPAD_CFG. -/
def TILE_SPAD_CFG_SCRUB_PERIOD (pos : Nat) : Field := ⟨TILE_SPAD_CFG pos, 1, 7⟩
/-- TILE_SPAD_RESIDENT0 (R135). -/
def TILE_SPAD_RESIDENT0 (pos : Nat) : Reg := ⟨tileBase pos + 0x90008, 0x0⟩
/-- TILE_SPAD_RESIDENT1 (R135). -/
def TILE_SPAD_RESIDENT1 (pos : Nat) : Reg := ⟨tileBase pos + 0x90010, 0x0⟩
/-- Field RES of TILE_SPAD_RESIDENT1. -/
def TILE_SPAD_RESIDENT1_RES (pos : Nat) : Field := ⟨TILE_SPAD_RESIDENT1 pos, 0, 32⟩
/-- TILE_SPAD_CLEAR (R135). -/
def TILE_SPAD_CLEAR (pos : Nat) : Reg := ⟨tileBase pos + 0x90018, 0x0⟩
/-- Field START of TILE_SPAD_CLEAR. -/
def TILE_SPAD_CLEAR_START (pos : Nat) : Field := ⟨TILE_SPAD_CLEAR pos, 0, 1⟩
/-- Field BUSY of TILE_SPAD_CLEAR. -/
def TILE_SPAD_CLEAR_BUSY (pos : Nat) : Field := ⟨TILE_SPAD_CLEAR pos, 1, 1⟩
/-- TILE_SPAD_REACH_d (R135). -/
def TILE_SPAD_REACH_d (pos : Nat) (i : Nat) : Reg := ⟨tileBase pos + 0x90020 + i * 8, 0x30000⟩
/-- Field LOGICAL of TILE_SPAD_REACH_d. -/
def TILE_SPAD_REACH_d_LOGICAL (pos : Nat) (i : Nat) : Field := ⟨TILE_SPAD_REACH_d pos i, 0, 9⟩
/-- Field VALID of TILE_SPAD_REACH_d. -/
def TILE_SPAD_REACH_d_VALID (pos : Nat) (i : Nat) : Field := ⟨TILE_SPAD_REACH_d pos i, 15, 1⟩
/-- Field PATH of TILE_SPAD_REACH_d. -/
def TILE_SPAD_REACH_d_PATH (pos : Nat) (i : Nat) : Field := ⟨TILE_SPAD_REACH_d pos i, 16, 2⟩
/-- TILE_SPAD_CE_CNT (R135). -/
def TILE_SPAD_CE_CNT (pos : Nat) : Reg := ⟨tileBase pos + 0x90048, 0xFFFFFFFF00000000⟩
/-- Field COUNT of TILE_SPAD_CE_CNT. -/
def TILE_SPAD_CE_CNT_COUNT (pos : Nat) : Field := ⟨TILE_SPAD_CE_CNT pos, 0, 32⟩
/-- Field THRESH of TILE_SPAD_CE_CNT. -/
def TILE_SPAD_CE_CNT_THRESH (pos : Nat) : Field := ⟨TILE_SPAD_CE_CNT pos, 32, 32⟩
/-- TILE_SPAD_UE_CNT (R135). -/
def TILE_SPAD_UE_CNT (pos : Nat) : Reg := ⟨tileBase pos + 0x90050, 0xFFFFFFFF00000000⟩
/-- Field COUNT of TILE_SPAD_UE_CNT. -/
def TILE_SPAD_UE_CNT_COUNT (pos : Nat) : Field := ⟨TILE_SPAD_UE_CNT pos, 0, 32⟩
/-- Field THRESH of TILE_SPAD_UE_CNT. -/
def TILE_SPAD_UE_CNT_THRESH (pos : Nat) : Field := ⟨TILE_SPAD_UE_CNT pos, 32, 32⟩
/-- TILE_SPAD_CONFLICT_CNT (R135). -/
def TILE_SPAD_CONFLICT_CNT (pos : Nat) : Reg := ⟨tileBase pos + 0x90058, 0xFFFFFFFF00000000⟩
/-- Field COUNT of TILE_SPAD_CONFLICT_CNT. -/
def TILE_SPAD_CONFLICT_CNT_COUNT (pos : Nat) : Field := ⟨TILE_SPAD_CONFLICT_CNT pos, 0, 32⟩
/-- Field THRESH of TILE_SPAD_CONFLICT_CNT. -/
def TILE_SPAD_CONFLICT_CNT_THRESH (pos : Nat) : Field := ⟨TILE_SPAD_CONFLICT_CNT pos, 32, 32⟩
/-- TILE_SPAD_YIELD_CNT (R135). -/
def TILE_SPAD_YIELD_CNT (pos : Nat) : Reg := ⟨tileBase pos + 0x90060, 0xFFFFFFFF00000000⟩
/-- Field COUNT of TILE_SPAD_YIELD_CNT. -/
def TILE_SPAD_YIELD_CNT_COUNT (pos : Nat) : Field := ⟨TILE_SPAD_YIELD_CNT pos, 0, 32⟩
/-- Field THRESH of TILE_SPAD_YIELD_CNT. -/
def TILE_SPAD_YIELD_CNT_THRESH (pos : Nat) : Field := ⟨TILE_SPAD_YIELD_CNT pos, 32, 32⟩
/-- TILE_SPAD_DISCARD_CNT (R135). -/
def TILE_SPAD_DISCARD_CNT (pos : Nat) : Reg := ⟨tileBase pos + 0x90068, 0xFFFFFFFF00000000⟩
/-- Field COUNT of TILE_SPAD_DISCARD_CNT. -/
def TILE_SPAD_DISCARD_CNT_COUNT (pos : Nat) : Field := ⟨TILE_SPAD_DISCARD_CNT pos, 0, 32⟩
/-- Field THRESH of TILE_SPAD_DISCARD_CNT. -/
def TILE_SPAD_DISCARD_CNT_THRESH (pos : Nat) : Field := ⟨TILE_SPAD_DISCARD_CNT pos, 32, 32⟩
/-- TILE_SPAD_MSERR_CNT (R135). -/
def TILE_SPAD_MSERR_CNT (pos : Nat) : Reg := ⟨tileBase pos + 0x90070, 0xFFFFFFFF00000000⟩
/-- Field COUNT of TILE_SPAD_MSERR_CNT. -/
def TILE_SPAD_MSERR_CNT_COUNT (pos : Nat) : Field := ⟨TILE_SPAD_MSERR_CNT pos, 0, 32⟩
/-- Field THRESH of TILE_SPAD_MSERR_CNT. -/
def TILE_SPAD_MSERR_CNT_THRESH (pos : Nat) : Field := ⟨TILE_SPAD_MSERR_CNT pos, 32, 32⟩
/-- TILE_SPAD_SCRUB_PASS (R135). -/
def TILE_SPAD_SCRUB_PASS (pos : Nat) : Reg := ⟨tileBase pos + 0x90078, 0x0⟩
/-- Field PASSES of TILE_SPAD_SCRUB_PASS. -/
def TILE_SPAD_SCRUB_PASS_PASSES (pos : Nat) : Field := ⟨TILE_SPAD_SCRUB_PASS pos, 0, 48⟩
/-- TILE_SPAD_UE_CAP (R135). -/
def TILE_SPAD_UE_CAP (pos : Nat) : Reg := ⟨tileBase pos + 0x90080, 0x0⟩
/-- Field OFFSET of TILE_SPAD_UE_CAP. -/
def TILE_SPAD_UE_CAP_OFFSET (pos : Nat) : Field := ⟨TILE_SPAD_UE_CAP pos, 0, 27⟩
/-- Field AGENT of TILE_SPAD_UE_CAP. -/
def TILE_SPAD_UE_CAP_AGENT (pos : Nat) : Field := ⟨TILE_SPAD_UE_CAP pos, 28, 4⟩
/-- Field FEEDER of TILE_SPAD_UE_CAP. -/
def TILE_SPAD_UE_CAP_FEEDER (pos : Nat) : Field := ⟨TILE_SPAD_UE_CAP pos, 32, 1⟩
/-- Field POISON_LINE of TILE_SPAD_UE_CAP. -/
def TILE_SPAD_UE_CAP_POISON_LINE (pos : Nat) : Field := ⟨TILE_SPAD_UE_CAP pos, 33, 1⟩
/-- Field VALID of TILE_SPAD_UE_CAP. -/
def TILE_SPAD_UE_CAP_VALID (pos : Nat) : Field := ⟨TILE_SPAD_UE_CAP pos, 63, 1⟩
/-- TILE_SPAD_CONFLICT_CAP (R135). -/
def TILE_SPAD_CONFLICT_CAP (pos : Nat) : Reg := ⟨tileBase pos + 0x90088, 0x0⟩
/-- Field BANK of TILE_SPAD_CONFLICT_CAP. -/
def TILE_SPAD_CONFLICT_CAP_BANK (pos : Nat) : Field := ⟨TILE_SPAD_CONFLICT_CAP pos, 0, 5⟩
/-- Field WPOS of TILE_SPAD_CONFLICT_CAP. -/
def TILE_SPAD_CONFLICT_CAP_WPOS (pos : Nat) : Field := ⟨TILE_SPAD_CONFLICT_CAP pos, 5, 4⟩
/-- Field AGENT of TILE_SPAD_CONFLICT_CAP. -/
def TILE_SPAD_CONFLICT_CAP_AGENT (pos : Nat) : Field := ⟨TILE_SPAD_CONFLICT_CAP pos, 9, 4⟩
/-- Field FEEDER of TILE_SPAD_CONFLICT_CAP. -/
def TILE_SPAD_CONFLICT_CAP_FEEDER (pos : Nat) : Field := ⟨TILE_SPAD_CONFLICT_CAP pos, 13, 1⟩
/-- Field FCORE of TILE_SPAD_CONFLICT_CAP. -/
def TILE_SPAD_CONFLICT_CAP_FCORE (pos : Nat) : Field := ⟨TILE_SPAD_CONFLICT_CAP pos, 14, 3⟩
/-- Field CYCLE of TILE_SPAD_CONFLICT_CAP. -/
def TILE_SPAD_CONFLICT_CAP_CYCLE (pos : Nat) : Field := ⟨TILE_SPAD_CONFLICT_CAP pos, 17, 31⟩
/-- Field VALID of TILE_SPAD_CONFLICT_CAP. -/
def TILE_SPAD_CONFLICT_CAP_VALID (pos : Nat) : Field := ⟨TILE_SPAD_CONFLICT_CAP pos, 63, 1⟩
/-- TILE_SPAD_DISCARD_CAP (R135). -/
def TILE_SPAD_DISCARD_CAP (pos : Nat) : Reg := ⟨tileBase pos + 0x90090, 0x0⟩
/-- Field OFFSET of TILE_SPAD_DISCARD_CAP. -/
def TILE_SPAD_DISCARD_CAP_OFFSET (pos : Nat) : Field := ⟨TILE_SPAD_DISCARD_CAP pos, 0, 27⟩
/-- Field SOURCE of TILE_SPAD_DISCARD_CAP. -/
def TILE_SPAD_DISCARD_CAP_SOURCE (pos : Nat) : Field := ⟨TILE_SPAD_DISCARD_CAP pos, 27, 9⟩
/-- Field CLASS of TILE_SPAD_DISCARD_CAP. -/
def TILE_SPAD_DISCARD_CAP_CLASS (pos : Nat) : Field := ⟨TILE_SPAD_DISCARD_CAP pos, 36, 2⟩
/-- Field REASON of TILE_SPAD_DISCARD_CAP. -/
def TILE_SPAD_DISCARD_CAP_REASON (pos : Nat) : Field := ⟨TILE_SPAD_DISCARD_CAP pos, 38, 2⟩
/-- Field VALID of TILE_SPAD_DISCARD_CAP. -/
def TILE_SPAD_DISCARD_CAP_VALID (pos : Nat) : Field := ⟨TILE_SPAD_DISCARD_CAP pos, 63, 1⟩
/-- TILE_SPAD_MSERR_CAP (R135). -/
def TILE_SPAD_MSERR_CAP (pos : Nat) : Reg := ⟨tileBase pos + 0x90098, 0x0⟩
/-- Field CORE of TILE_SPAD_MSERR_CAP. -/
def TILE_SPAD_MSERR_CAP_CORE (pos : Nat) : Field := ⟨TILE_SPAD_MSERR_CAP pos, 0, 3⟩
/-- Field OP of TILE_SPAD_MSERR_CAP. -/
def TILE_SPAD_MSERR_CAP_OP (pos : Nat) : Field := ⟨TILE_SPAD_MSERR_CAP pos, 3, 2⟩
/-- Field CAUSE of TILE_SPAD_MSERR_CAP. -/
def TILE_SPAD_MSERR_CAP_CAUSE (pos : Nat) : Field := ⟨TILE_SPAD_MSERR_CAP pos, 5, 3⟩
/-- Field OFFSET of TILE_SPAD_MSERR_CAP. -/
def TILE_SPAD_MSERR_CAP_OFFSET (pos : Nat) : Field := ⟨TILE_SPAD_MSERR_CAP pos, 8, 27⟩
/-- Field VALID of TILE_SPAD_MSERR_CAP. -/
def TILE_SPAD_MSERR_CAP_VALID (pos : Nat) : Field := ⟨TILE_SPAD_MSERR_CAP pos, 63, 1⟩
/-- TILE_SPAD_WINn_LO (R135). -/
def TILE_SPAD_WINn_LO (pos : Nat) (i : Nat) : Reg := ⟨tileBase pos + 0x90100 + i * 16, 0x0⟩
/-- TILE_SPAD_WINn_HI (R135). -/
def TILE_SPAD_WINn_HI (pos : Nat) (i : Nat) : Reg := ⟨tileBase pos + 0x90108 + i * 16, 0x0⟩
/-- Field HI of TILE_SPAD_WINn_HI. -/
def TILE_SPAD_WINn_HI_HI (pos : Nat) (i : Nat) : Field := ⟨TILE_SPAD_WINn_HI pos i, 0, 36⟩
/-- Field OPEN of TILE_SPAD_WINn_HI. -/
def TILE_SPAD_WINn_HI_OPEN (pos : Nat) (i : Nat) : Field := ⟨TILE_SPAD_WINn_HI pos i, 63, 1⟩
/-- TILE_NET_CFG (R192). -/
def TILE_NET_CFG (pos : Nat) : Reg := ⟨tileBase pos + 0xA0000, 0x140C80A00⟩
/-- Field EPOCH of TILE_NET_CFG. -/
def TILE_NET_CFG_EPOCH (pos : Nat) : Field := ⟨TILE_NET_CFG pos, 0, 1⟩
/-- Field ACK_TO of TILE_NET_CFG. -/
def TILE_NET_CFG_ACK_TO (pos : Nat) : Field := ⟨TILE_NET_CFG pos, 8, 8⟩
/-- Field HOLD_LIM of TILE_NET_CFG. -/
def TILE_NET_CFG_HOLD_LIM (pos : Nat) : Field := ⟨TILE_NET_CFG pos, 16, 12⟩
/-- Field STALL_LIM of TILE_NET_CFG. -/
def TILE_NET_CFG_STALL_LIM (pos : Nat) : Field := ⟨TILE_NET_CFG pos, 28, 5⟩
/-- TILE_NET_STATUS (R192). -/
def TILE_NET_STATUS (pos : Nat) : Reg := ⟨tileBase pos + 0xA0008, 0x0⟩
/-- Field TRACK of TILE_NET_STATUS. -/
def TILE_NET_STATUS_TRACK (pos : Nat) : Field := ⟨TILE_NET_STATUS pos, 0, 7⟩
/-- Field HELD of TILE_NET_STATUS. -/
def TILE_NET_STATUS_HELD (pos : Nat) : Field := ⟨TILE_NET_STATUS pos, 7, 7⟩
/-- Field OLDOUT of TILE_NET_STATUS. -/
def TILE_NET_STATUS_OLDOUT (pos : Nat) : Field := ⟨TILE_NET_STATUS pos, 14, 7⟩
/-- Field COMBINE of TILE_NET_STATUS. -/
def TILE_NET_STATUS_COMBINE (pos : Nat) : Field := ⟨TILE_NET_STATUS pos, 21, 6⟩
/-- TILE_NET_CE_CNT (R192). -/
def TILE_NET_CE_CNT (pos : Nat) : Reg := ⟨tileBase pos + 0xA0010, 0xFFFFFFFF00000000⟩
/-- Field COUNT of TILE_NET_CE_CNT. -/
def TILE_NET_CE_CNT_COUNT (pos : Nat) : Field := ⟨TILE_NET_CE_CNT pos, 0, 32⟩
/-- Field THRESH of TILE_NET_CE_CNT. -/
def TILE_NET_CE_CNT_THRESH (pos : Nat) : Field := ⟨TILE_NET_CE_CNT pos, 32, 32⟩
/-- TILE_NET_UE_CNT (R192). -/
def TILE_NET_UE_CNT (pos : Nat) : Reg := ⟨tileBase pos + 0xA0018, 0xFFFFFFFF00000000⟩
/-- Field COUNT of TILE_NET_UE_CNT. -/
def TILE_NET_UE_CNT_COUNT (pos : Nat) : Field := ⟨TILE_NET_UE_CNT pos, 0, 32⟩
/-- Field THRESH of TILE_NET_UE_CNT. -/
def TILE_NET_UE_CNT_THRESH (pos : Nat) : Field := ⟨TILE_NET_UE_CNT pos, 32, 32⟩
/-- TILE_NET_DROP_CNT (R192). -/
def TILE_NET_DROP_CNT (pos : Nat) : Reg := ⟨tileBase pos + 0xA0020, 0xFFFFFFFF00000000⟩
/-- Field COUNT of TILE_NET_DROP_CNT. -/
def TILE_NET_DROP_CNT_COUNT (pos : Nat) : Field := ⟨TILE_NET_DROP_CNT pos, 0, 32⟩
/-- Field THRESH of TILE_NET_DROP_CNT. -/
def TILE_NET_DROP_CNT_THRESH (pos : Nat) : Field := ⟨TILE_NET_DROP_CNT pos, 32, 32⟩
/-- TILE_NET_STALL_CNT (R192). -/
def TILE_NET_STALL_CNT (pos : Nat) : Reg := ⟨tileBase pos + 0xA0028, 0xFFFFFFFF00000000⟩
/-- Field COUNT of TILE_NET_STALL_CNT. -/
def TILE_NET_STALL_CNT_COUNT (pos : Nat) : Field := ⟨TILE_NET_STALL_CNT pos, 0, 32⟩
/-- Field THRESH of TILE_NET_STALL_CNT. -/
def TILE_NET_STALL_CNT_THRESH (pos : Nat) : Field := ⟨TILE_NET_STALL_CNT pos, 32, 32⟩
/-- TILE_NET_TIMEOUT_CNT (R192). -/
def TILE_NET_TIMEOUT_CNT (pos : Nat) : Reg := ⟨tileBase pos + 0xA0030, 0xFFFFFFFF00000000⟩
/-- Field COUNT of TILE_NET_TIMEOUT_CNT. -/
def TILE_NET_TIMEOUT_CNT_COUNT (pos : Nat) : Field := ⟨TILE_NET_TIMEOUT_CNT pos, 0, 32⟩
/-- Field THRESH of TILE_NET_TIMEOUT_CNT. -/
def TILE_NET_TIMEOUT_CNT_THRESH (pos : Nat) : Field := ⟨TILE_NET_TIMEOUT_CNT pos, 32, 32⟩
/-- TILE_NET_DROP_CAP (R192). -/
def TILE_NET_DROP_CAP (pos : Nat) : Reg := ⟨tileBase pos + 0xA0038, 0x0⟩
/-- Field CAUSE of TILE_NET_DROP_CAP. -/
def TILE_NET_DROP_CAP_CAUSE (pos : Nat) : Field := ⟨TILE_NET_DROP_CAP pos, 0, 4⟩
/-- Field INPORT of TILE_NET_DROP_CAP. -/
def TILE_NET_DROP_CAP_INPORT (pos : Nat) : Field := ⟨TILE_NET_DROP_CAP pos, 4, 3⟩
/-- Field SRC of TILE_NET_DROP_CAP. -/
def TILE_NET_DROP_CAP_SRC (pos : Nat) : Field := ⟨TILE_NET_DROP_CAP pos, 7, 9⟩
/-- Field TYPE of TILE_NET_DROP_CAP. -/
def TILE_NET_DROP_CAP_TYPE (pos : Nat) : Field := ⟨TILE_NET_DROP_CAP pos, 16, 4⟩
/-- Field EPOCH of TILE_NET_DROP_CAP. -/
def TILE_NET_DROP_CAP_EPOCH (pos : Nat) : Field := ⟨TILE_NET_DROP_CAP pos, 20, 1⟩
/-- Field PTR of TILE_NET_DROP_CAP. -/
def TILE_NET_DROP_CAP_PTR (pos : Nat) : Field := ⟨TILE_NET_DROP_CAP pos, 21, 6⟩
/-- Field TAG of TILE_NET_DROP_CAP. -/
def TILE_NET_DROP_CAP_TAG (pos : Nat) : Field := ⟨TILE_NET_DROP_CAP pos, 27, 6⟩
/-- Field ADDR of TILE_NET_DROP_CAP. -/
def TILE_NET_DROP_CAP_ADDR (pos : Nat) : Field := ⟨TILE_NET_DROP_CAP pos, 33, 28⟩
/-- Field VALID of TILE_NET_DROP_CAP. -/
def TILE_NET_DROP_CAP_VALID (pos : Nat) : Field := ⟨TILE_NET_DROP_CAP pos, 63, 1⟩
/-- TILE_NET_MAP (R192). -/
def TILE_NET_MAP (pos : Nat) (i : Nat) : Reg := ⟨tileBase pos + 0xA1000 + i * 8, 0x0⟩
/-- Field E0 of TILE_NET_MAP. -/
def TILE_NET_MAP_E0 (pos : Nat) (i : Nat) : Field := ⟨TILE_NET_MAP pos i, 0, 16⟩
/-- Field E1 of TILE_NET_MAP. -/
def TILE_NET_MAP_E1 (pos : Nat) (i : Nat) : Field := ⟨TILE_NET_MAP pos i, 16, 16⟩
/-- Field E2 of TILE_NET_MAP. -/
def TILE_NET_MAP_E2 (pos : Nat) (i : Nat) : Field := ⟨TILE_NET_MAP pos i, 32, 16⟩
/-- Field E3 of TILE_NET_MAP. -/
def TILE_NET_MAP_E3 (pos : Nat) (i : Nat) : Field := ⟨TILE_NET_MAP pos i, 48, 16⟩
/-- TILE_NET_SRTA_NIB (R181). -/
def TILE_NET_SRTA_NIB (pos : Nat) (i : Nat) : Reg := ⟨tileBase pos + 0xA4000 + i * 32, 0x0⟩
/-- TILE_NET_SRTA_NIB1 (R181). -/
def TILE_NET_SRTA_NIB1 (pos : Nat) (i : Nat) : Reg := ⟨tileBase pos + 0xA4008 + i * 32, 0x0⟩
/-- TILE_NET_SRTA_NIB2 (R181). -/
def TILE_NET_SRTA_NIB2 (pos : Nat) (i : Nat) : Reg := ⟨tileBase pos + 0xA4010 + i * 32, 0x0⟩
/-- TILE_NET_SRTA_CTL (R181). -/
def TILE_NET_SRTA_CTL (pos : Nat) (i : Nat) : Reg := ⟨tileBase pos + 0xA4018 + i * 32, 0x0⟩
/-- Field LEN of TILE_NET_SRTA_CTL. -/
def TILE_NET_SRTA_CTL_LEN (pos : Nat) (i : Nat) : Field := ⟨TILE_NET_SRTA_CTL pos i, 0, 6⟩
/-- Field VALID of TILE_NET_SRTA_CTL. -/
def TILE_NET_SRTA_CTL_VALID (pos : Nat) (i : Nat) : Field := ⟨TILE_NET_SRTA_CTL pos i, 6, 1⟩
/-- TILE_NET_SRTB_NIB (R181). -/
def TILE_NET_SRTB_NIB (pos : Nat) (i : Nat) : Reg := ⟨tileBase pos + 0xA9000 + i * 32, 0x0⟩
/-- TILE_NET_SRTB_NIB1 (R181). -/
def TILE_NET_SRTB_NIB1 (pos : Nat) (i : Nat) : Reg := ⟨tileBase pos + 0xA9008 + i * 32, 0x0⟩
/-- TILE_NET_SRTB_NIB2 (R181). -/
def TILE_NET_SRTB_NIB2 (pos : Nat) (i : Nat) : Reg := ⟨tileBase pos + 0xA9010 + i * 32, 0x0⟩
/-- TILE_NET_SRTB_CTL (R181). -/
def TILE_NET_SRTB_CTL (pos : Nat) (i : Nat) : Reg := ⟨tileBase pos + 0xA9018 + i * 32, 0x0⟩
/-- Field LEN of TILE_NET_SRTB_CTL. -/
def TILE_NET_SRTB_CTL_LEN (pos : Nat) (i : Nat) : Field := ⟨TILE_NET_SRTB_CTL pos i, 0, 6⟩
/-- Field VALID of TILE_NET_SRTB_CTL. -/
def TILE_NET_SRTB_CTL_VALID (pos : Nat) (i : Nat) : Field := ⟨TILE_NET_SRTB_CTL pos i, 6, 1⟩
/-- TILE_NET_REDA_NIB (R183). -/
def TILE_NET_REDA_NIB (pos : Nat) (i : Nat) : Reg := ⟨tileBase pos + 0xAE000 + i * 32, 0x0⟩
/-- TILE_NET_REDA_NIB1 (R183). -/
def TILE_NET_REDA_NIB1 (pos : Nat) (i : Nat) : Reg := ⟨tileBase pos + 0xAE008 + i * 32, 0x0⟩
/-- TILE_NET_REDA_NIB2 (R183). -/
def TILE_NET_REDA_NIB2 (pos : Nat) (i : Nat) : Reg := ⟨tileBase pos + 0xAE010 + i * 32, 0x0⟩
/-- TILE_NET_REDA_CTL (R183). -/
def TILE_NET_REDA_CTL (pos : Nat) (i : Nat) : Reg := ⟨tileBase pos + 0xAE018 + i * 32, 0x0⟩
/-- Field LEN of TILE_NET_REDA_CTL. -/
def TILE_NET_REDA_CTL_LEN (pos : Nat) (i : Nat) : Field := ⟨TILE_NET_REDA_CTL pos i, 0, 6⟩
/-- Field VALID of TILE_NET_REDA_CTL. -/
def TILE_NET_REDA_CTL_VALID (pos : Nat) (i : Nat) : Field := ⟨TILE_NET_REDA_CTL pos i, 6, 1⟩
/-- Field FINAL of TILE_NET_REDA_CTL. -/
def TILE_NET_REDA_CTL_FINAL (pos : Nat) (i : Nat) : Field := ⟨TILE_NET_REDA_CTL pos i, 7, 1⟩
/-- Field FANIN of TILE_NET_REDA_CTL. -/
def TILE_NET_REDA_CTL_FANIN (pos : Nat) (i : Nat) : Field := ⟨TILE_NET_REDA_CTL pos i, 8, 6⟩
/-- Field FMT of TILE_NET_REDA_CTL. -/
def TILE_NET_REDA_CTL_FMT (pos : Nat) (i : Nat) : Field := ⟨TILE_NET_REDA_CTL pos i, 14, 4⟩
/-- TILE_NET_REDB_NIB (R183). -/
def TILE_NET_REDB_NIB (pos : Nat) (i : Nat) : Reg := ⟨tileBase pos + 0xB6000 + i * 32, 0x0⟩
/-- TILE_NET_REDB_NIB1 (R183). -/
def TILE_NET_REDB_NIB1 (pos : Nat) (i : Nat) : Reg := ⟨tileBase pos + 0xB6008 + i * 32, 0x0⟩
/-- TILE_NET_REDB_NIB2 (R183). -/
def TILE_NET_REDB_NIB2 (pos : Nat) (i : Nat) : Reg := ⟨tileBase pos + 0xB6010 + i * 32, 0x0⟩
/-- TILE_NET_REDB_CTL (R183). -/
def TILE_NET_REDB_CTL (pos : Nat) (i : Nat) : Reg := ⟨tileBase pos + 0xB6018 + i * 32, 0x0⟩
/-- Field LEN of TILE_NET_REDB_CTL. -/
def TILE_NET_REDB_CTL_LEN (pos : Nat) (i : Nat) : Field := ⟨TILE_NET_REDB_CTL pos i, 0, 6⟩
/-- Field VALID of TILE_NET_REDB_CTL. -/
def TILE_NET_REDB_CTL_VALID (pos : Nat) (i : Nat) : Field := ⟨TILE_NET_REDB_CTL pos i, 6, 1⟩
/-- Field FINAL of TILE_NET_REDB_CTL. -/
def TILE_NET_REDB_CTL_FINAL (pos : Nat) (i : Nat) : Field := ⟨TILE_NET_REDB_CTL pos i, 7, 1⟩
/-- Field FANIN of TILE_NET_REDB_CTL. -/
def TILE_NET_REDB_CTL_FANIN (pos : Nat) (i : Nat) : Field := ⟨TILE_NET_REDB_CTL pos i, 8, 6⟩
/-- Field FMT of TILE_NET_REDB_CTL. -/
def TILE_NET_REDB_CTL_FMT (pos : Nat) (i : Nat) : Field := ⟨TILE_NET_REDB_CTL pos i, 14, 4⟩
/-- GRV_ROUTEA_W0 (R231). -/
def GRV_ROUTEA_W0 (g : Nat) (i : Nat) : Reg := ⟨grvBase g + 0xC0000 + i * 32, 0x0⟩
/-- Field KIND of GRV_ROUTEA_W0. -/
def GRV_ROUTEA_W0_KIND (g : Nat) (i : Nat) : Field := ⟨GRV_ROUTEA_W0 g i, 0, 2⟩
/-- Field PORT of GRV_ROUTEA_W0. -/
def GRV_ROUTEA_W0_PORT (g : Nat) (i : Nat) : Field := ⟨GRV_ROUTEA_W0 g i, 8, 6⟩
/-- Field REC of GRV_ROUTEA_W0. -/
def GRV_ROUTEA_W0_REC (g : Nat) (i : Nat) : Field := ⟨GRV_ROUTEA_W0 g i, 16, 6⟩
/-- Field DADDR0 of GRV_ROUTEA_W0. -/
def GRV_ROUTEA_W0_DADDR0 (g : Nat) (i : Nat) : Field := ⟨GRV_ROUTEA_W0 g i, 48, 16⟩
/-- GRV_ROUTEA_W1 (R231). -/
def GRV_ROUTEA_W1 (g : Nat) (i : Nat) : Reg := ⟨grvBase g + 0xC0008 + i * 32, 0x0⟩
/-- Field DADDR1 of GRV_ROUTEA_W1. -/
def GRV_ROUTEA_W1_DADDR1 (g : Nat) (i : Nat) : Field := ⟨GRV_ROUTEA_W1 g i, 0, 32⟩
/-- Field EXTENT of GRV_ROUTEA_W1. -/
def GRV_ROUTEA_W1_EXTENT (g : Nat) (i : Nat) : Field := ⟨GRV_ROUTEA_W1 g i, 32, 32⟩
/-- GRV_ROUTEA_W2 (R231). -/
def GRV_ROUTEA_W2 (g : Nat) (i : Nat) : Reg := ⟨grvBase g + 0xC0010 + i * 32, 0x0⟩
/-- GRV_ROUTEA_W3 (R231). -/
def GRV_ROUTEA_W3 (g : Nat) (i : Nat) : Reg := ⟨grvBase g + 0xC0018 + i * 32, 0x0⟩
/-- GRV_ROUTEB_W0 (R231). -/
def GRV_ROUTEB_W0 (g : Nat) (i : Nat) : Reg := ⟨grvBase g + 0xC8000 + i * 32, 0x0⟩
/-- Field KIND of GRV_ROUTEB_W0. -/
def GRV_ROUTEB_W0_KIND (g : Nat) (i : Nat) : Field := ⟨GRV_ROUTEB_W0 g i, 0, 2⟩
/-- Field PORT of GRV_ROUTEB_W0. -/
def GRV_ROUTEB_W0_PORT (g : Nat) (i : Nat) : Field := ⟨GRV_ROUTEB_W0 g i, 8, 6⟩
/-- Field REC of GRV_ROUTEB_W0. -/
def GRV_ROUTEB_W0_REC (g : Nat) (i : Nat) : Field := ⟨GRV_ROUTEB_W0 g i, 16, 6⟩
/-- Field DADDR0 of GRV_ROUTEB_W0. -/
def GRV_ROUTEB_W0_DADDR0 (g : Nat) (i : Nat) : Field := ⟨GRV_ROUTEB_W0 g i, 48, 16⟩
/-- GRV_ROUTEB_W1 (R231). -/
def GRV_ROUTEB_W1 (g : Nat) (i : Nat) : Reg := ⟨grvBase g + 0xC8008 + i * 32, 0x0⟩
/-- Field DADDR1 of GRV_ROUTEB_W1. -/
def GRV_ROUTEB_W1_DADDR1 (g : Nat) (i : Nat) : Field := ⟨GRV_ROUTEB_W1 g i, 0, 32⟩
/-- Field EXTENT of GRV_ROUTEB_W1. -/
def GRV_ROUTEB_W1_EXTENT (g : Nat) (i : Nat) : Field := ⟨GRV_ROUTEB_W1 g i, 32, 32⟩
/-- GRV_ROUTEB_W2 (R231). -/
def GRV_ROUTEB_W2 (g : Nat) (i : Nat) : Reg := ⟨grvBase g + 0xC8010 + i * 32, 0x0⟩
/-- GRV_ROUTEB_W3 (R231). -/
def GRV_ROUTEB_W3 (g : Nat) (i : Nat) : Reg := ⟨grvBase g + 0xC8018 + i * 32, 0x0⟩
/-- GRV_CNET_HOPSu (R192). -/
def GRV_CNET_HOPSu (g : Nat) (i : Nat) : Reg := ⟨grvBase g + 0xE0000 + i * 8, 0x0⟩
/-- GRV_CNET_SYNCDLY_CNT (R192). -/
def GRV_CNET_SYNCDLY_CNT (g : Nat) : Reg := ⟨grvBase g + 0xE0080, 0xFFFFFFFF00000000⟩
/-- Field COUNT of GRV_CNET_SYNCDLY_CNT. -/
def GRV_CNET_SYNCDLY_CNT_COUNT (g : Nat) : Field := ⟨GRV_CNET_SYNCDLY_CNT g, 0, 32⟩
/-- Field THRESH of GRV_CNET_SYNCDLY_CNT. -/
def GRV_CNET_SYNCDLY_CNT_THRESH (g : Nat) : Field := ⟨GRV_CNET_SYNCDLY_CNT g, 32, 32⟩
/-- GRV_HBM_MAP (R211). -/
def GRV_HBM_MAP (g : Nat) : Reg := ⟨grvBase g + 0xE0100, 0x1000000000000⟩
/-- Field SET of GRV_HBM_MAP. -/
def GRV_HBM_MAP_SET (g : Nat) : Field := ⟨GRV_HBM_MAP g, 0, 48⟩
/-- Field GRAN of GRV_HBM_MAP. -/
def GRV_HBM_MAP_GRAN (g : Nat) : Field := ⟨GRV_HBM_MAP g, 48, 2⟩
/-- GRV_CLK_CFG (R349). -/
def GRV_CLK_CFG (g : Nat) : Reg := ⟨grvBase g + 0xE0200, 0x33⟩
/-- Field STRETCH_EN of GRV_CLK_CFG. -/
def GRV_CLK_CFG_STRETCH_EN (g : Nat) : Field := ⟨GRV_CLK_CFG g, 0, 1⟩
/-- Field DROOP_MV of GRV_CLK_CFG. -/
def GRV_CLK_CFG_DROOP_MV (g : Nat) : Field := ⟨GRV_CLK_CFG g, 1, 6⟩
/-- GRV_CLK_STATUS (R349). -/
def GRV_CLK_STATUS (g : Nat) : Reg := ⟨grvBase g + 0xE0208, 0x0⟩
/-- Field STATE of GRV_CLK_STATUS. -/
def GRV_CLK_STATUS_STATE (g : Nat) : Field := ⟨GRV_CLK_STATUS g, 0, 2⟩
/-- Field LOCK of GRV_CLK_STATUS. -/
def GRV_CLK_STATUS_LOCK (g : Nat) : Field := ⟨GRV_CLK_STATUS g, 2, 1⟩
/-- Field PLLSEL of GRV_CLK_STATUS. -/
def GRV_CLK_STATUS_PLLSEL (g : Nat) : Field := ⟨GRV_CLK_STATUS g, 3, 1⟩
/-- Field OPP of GRV_CLK_STATUS. -/
def GRV_CLK_STATUS_OPP (g : Nat) : Field := ⟨GRV_CLK_STATUS g, 4, 2⟩
/-- Field ALIGNED of GRV_CLK_STATUS. -/
def GRV_CLK_STATUS_ALIGNED (g : Nat) : Field := ⟨GRV_CLK_STATUS g, 6, 4⟩
/-- GRV_CLK_STRETCH_CNT (R349). -/
def GRV_CLK_STRETCH_CNT (g : Nat) : Reg := ⟨grvBase g + 0xE0210, 0xFFFFFFFF00000000⟩
/-- Field COUNT of GRV_CLK_STRETCH_CNT. -/
def GRV_CLK_STRETCH_CNT_COUNT (g : Nat) : Field := ⟨GRV_CLK_STRETCH_CNT g, 0, 32⟩
/-- Field THRESH of GRV_CLK_STRETCH_CNT. -/
def GRV_CLK_STRETCH_CNT_THRESH (g : Nat) : Field := ⟨GRV_CLK_STRETCH_CNT g, 32, 32⟩
/-- GRV_CLK_DROOP_CNT (R349). -/
def GRV_CLK_DROOP_CNT (g : Nat) : Reg := ⟨grvBase g + 0xE0218, 0xFFFFFFFF00000000⟩
/-- Field COUNT of GRV_CLK_DROOP_CNT. -/
def GRV_CLK_DROOP_CNT_COUNT (g : Nat) : Field := ⟨GRV_CLK_DROOP_CNT g, 0, 32⟩
/-- Field THRESH of GRV_CLK_DROOP_CNT. -/
def GRV_CLK_DROOP_CNT_THRESH (g : Nat) : Field := ⟨GRV_CLK_DROOP_CNT g, 32, 32⟩
/-- GRV_CLK_XPHASE (R349). -/
def GRV_CLK_XPHASE (g : Nat) : Reg := ⟨grvBase g + 0xE0220, 0x0⟩
/-- Field CODE of GRV_CLK_XPHASE. -/
def GRV_CLK_XPHASE_CODE (g : Nat) : Field := ⟨GRV_CLK_XPHASE g, 0, 48⟩
/-- GRV_PWR_CFG (R369). -/
def GRV_PWR_CFG (g : Nat) : Reg := ⟨grvBase g + 0xE0300, 0x2820⟩
/-- Field IDLE of GRV_PWR_CFG. -/
def GRV_PWR_CFG_IDLE (g : Nat) : Field := ⟨GRV_PWR_CFG g, 0, 1⟩
/-- Field STAGE_TOK of GRV_PWR_CFG. -/
def GRV_PWR_CFG_STAGE_TOK (g : Nat) : Field := ⟨GRV_PWR_CFG g, 1, 8⟩
/-- Field TREND_PCT of GRV_PWR_CFG. -/
def GRV_PWR_CFG_TREND_PCT (g : Nat) : Field := ⟨GRV_PWR_CFG g, 9, 7⟩
/-- GRV_PWR_STATUS (R369). -/
def GRV_PWR_STATUS (g : Nat) : Reg := ⟨grvBase g + 0xE0308, 0x6E0000000⟩
/-- Field STATE of GRV_PWR_STATUS. -/
def GRV_PWR_STATUS_STATE (g : Nat) : Field := ⟨GRV_PWR_STATUS g, 0, 2⟩
/-- Field STAGE of GRV_PWR_STATUS. -/
def GRV_PWR_STATUS_STAGE (g : Nat) : Field := ⟨GRV_PWR_STATUS g, 2, 4⟩
/-- Field PH_FAIL of GRV_PWR_STATUS. -/
def GRV_PWR_STATUS_PH_FAIL (g : Nat) : Field := ⟨GRV_PWR_STATUS g, 6, 10⟩
/-- Field TOK of GRV_PWR_STATUS. -/
def GRV_PWR_STATUS_TOK (g : Nat) : Field := ⟨GRV_PWR_STATUS g, 16, 10⟩
/-- Field ILIM of GRV_PWR_STATUS. -/
def GRV_PWR_STATUS_ILIM (g : Nat) : Field := ⟨GRV_PWR_STATUS g, 26, 9⟩
/-- Field VCORE of GRV_PWR_STATUS. -/
def GRV_PWR_STATUS_VCORE (g : Nat) : Field := ⟨GRV_PWR_STATUS g, 35, 10⟩
/-- Field TRIM of GRV_PWR_STATUS. -/
def GRV_PWR_STATUS_TRIM (g : Nat) : Field := ⟨GRV_PWR_STATUS g, 45, 2⟩
/-- Field SHORT of GRV_PWR_STATUS. -/
def GRV_PWR_STATUS_SHORT (g : Nat) : Field := ⟨GRV_PWR_STATUS g, 47, 1⟩
/-- GRV_PWR_PHn (R369). -/
def GRV_PWR_PHn (g : Nat) (i : Nat) : Reg := ⟨grvBase g + 0xE0310 + i * 8, 0x0⟩
/-- Field CURRENT of GRV_PWR_PHn. -/
def GRV_PWR_PHn_CURRENT (g : Nat) (i : Nat) : Field := ⟨GRV_PWR_PHn g i, 0, 8⟩
/-- Field RES of GRV_PWR_PHn. -/
def GRV_PWR_PHn_RES (g : Nat) (i : Nat) : Field := ⟨GRV_PWR_PHn g i, 8, 16⟩
/-- Field BASE of GRV_PWR_PHn. -/
def GRV_PWR_PHn_BASE (g : Nat) (i : Nat) : Field := ⟨GRV_PWR_PHn g i, 24, 16⟩
/-- Field TREND of GRV_PWR_PHn. -/
def GRV_PWR_PHn_TREND (g : Nat) (i : Nat) : Field := ⟨GRV_PWR_PHn g i, 40, 1⟩
/-- Field FAILED of GRV_PWR_PHn. -/
def GRV_PWR_PHn_FAILED (g : Nat) (i : Nat) : Field := ⟨GRV_PWR_PHn g i, 41, 1⟩
/-- GRV_THM_STATUS (R385). -/
def GRV_THM_STATUS (g : Nat) : Reg := ⟨grvBase g + 0xE0400, 0x0⟩
/-- Field RTH of GRV_THM_STATUS. -/
def GRV_THM_STATUS_RTH (g : Nat) : Field := ⟨GRV_THM_STATUS g, 0, 16⟩
/-- Field RTH_BASE of GRV_THM_STATUS. -/
def GRV_THM_STATUS_RTH_BASE (g : Nat) : Field := ⟨GRV_THM_STATUS g, 16, 16⟩
/-- Field TREND of GRV_THM_STATUS. -/
def GRV_THM_STATUS_TREND (g : Nat) : Field := ⟨GRV_THM_STATUS g, 32, 1⟩
/-- Field HOT of GRV_THM_STATUS. -/
def GRV_THM_STATUS_HOT (g : Nat) : Field := ⟨GRV_THM_STATUS g, 33, 1⟩
/-- GRV_THM_DISAGREE_CNT (R385). -/
def GRV_THM_DISAGREE_CNT (g : Nat) : Reg := ⟨grvBase g + 0xE0408, 0xFFFFFFFF00000000⟩
/-- Field COUNT of GRV_THM_DISAGREE_CNT. -/
def GRV_THM_DISAGREE_CNT_COUNT (g : Nat) : Field := ⟨GRV_THM_DISAGREE_CNT g, 0, 32⟩
/-- Field THRESH of GRV_THM_DISAGREE_CNT. -/
def GRV_THM_DISAGREE_CNT_THRESH (g : Nat) : Field := ⟨GRV_THM_DISAGREE_CNT g, 32, 32⟩
/-- HBM_CFG (R211). -/
def HBM_CFG (k : Nat) : Reg := ⟨hbmBase k, 0x31⟩
/-- Field SCRUB_EN of HBM_CFG. -/
def HBM_CFG_SCRUB_EN (k : Nat) : Field := ⟨HBM_CFG k, 0, 1⟩
/-- Field SCRUB_PERIOD of HBM_CFG. -/
def HBM_CFG_SCRUB_PERIOD (k : Nat) : Field := ⟨HBM_CFG k, 1, 8⟩
/-- HBM_STATUS (R211). -/
def HBM_STATUS (k : Nat) : Reg := ⟨hbmBase k + 0x8, 0x0⟩
/-- Field STATE of HBM_STATUS. -/
def HBM_STATUS_STATE (k : Nat) : Field := ⟨HBM_STATUS k, 0, 2⟩
/-- Field TEMP of HBM_STATUS. -/
def HBM_STATUS_TEMP (k : Nat) : Field := ⟨HBM_STATUS k, 2, 8⟩
/-- Field REF2X of HBM_STATUS. -/
def HBM_STATUS_REF2X (k : Nat) : Field := ⟨HBM_STATUS k, 10, 1⟩
/-- Field HALF of HBM_STATUS. -/
def HBM_STATUS_HALF (k : Nat) : Field := ⟨HBM_STATUS k, 11, 1⟩
/-- HBM_CE_CNT (R211). -/
def HBM_CE_CNT (k : Nat) : Reg := ⟨hbmBase k + 0x10, 0xFFFFFFFF00000000⟩
/-- Field COUNT of HBM_CE_CNT. -/
def HBM_CE_CNT_COUNT (k : Nat) : Field := ⟨HBM_CE_CNT k, 0, 32⟩
/-- Field THRESH of HBM_CE_CNT. -/
def HBM_CE_CNT_THRESH (k : Nat) : Field := ⟨HBM_CE_CNT k, 32, 32⟩
/-- HBM_UE_CNT (R211). -/
def HBM_UE_CNT (k : Nat) : Reg := ⟨hbmBase k + 0x18, 0xFFFFFFFF00000000⟩
/-- Field COUNT of HBM_UE_CNT. -/
def HBM_UE_CNT_COUNT (k : Nat) : Field := ⟨HBM_UE_CNT k, 0, 32⟩
/-- Field THRESH of HBM_UE_CNT. -/
def HBM_UE_CNT_THRESH (k : Nat) : Field := ⟨HBM_UE_CNT k, 32, 32⟩
/-- HBM_NACK_CNT (R211). -/
def HBM_NACK_CNT (k : Nat) : Reg := ⟨hbmBase k + 0x20, 0xFFFFFFFF00000000⟩
/-- Field COUNT of HBM_NACK_CNT. -/
def HBM_NACK_CNT_COUNT (k : Nat) : Field := ⟨HBM_NACK_CNT k, 0, 32⟩
/-- Field THRESH of HBM_NACK_CNT. -/
def HBM_NACK_CNT_THRESH (k : Nat) : Field := ⟨HBM_NACK_CNT k, 32, 32⟩
/-- HBM_UE_CAP (R211). -/
def HBM_UE_CAP (k : Nat) : Reg := ⟨hbmBase k + 0x28, 0x0⟩
/-- Field ADDR of HBM_UE_CAP. -/
def HBM_UE_CAP_ADDR (k : Nat) : Field := ⟨HBM_UE_CAP k, 0, 35⟩
/-- Field PART of HBM_UE_CAP. -/
def HBM_UE_CAP_PART (k : Nat) : Field := ⟨HBM_UE_CAP k, 35, 4⟩
/-- Field SCRUB of HBM_UE_CAP. -/
def HBM_UE_CAP_SCRUB (k : Nat) : Field := ⟨HBM_UE_CAP k, 39, 1⟩
/-- Field VALID of HBM_UE_CAP. -/
def HBM_UE_CAP_VALID (k : Nat) : Field := ⟨HBM_UE_CAP k, 63, 1⟩
/-- HBM_NACK_CAP (R211). -/
def HBM_NACK_CAP (k : Nat) : Reg := ⟨hbmBase k + 0x30, 0x0⟩
/-- Field CAUSE of HBM_NACK_CAP. -/
def HBM_NACK_CAP_CAUSE (k : Nat) : Field := ⟨HBM_NACK_CAP k, 0, 3⟩
/-- Field PART of HBM_NACK_CAP. -/
def HBM_NACK_CAP_PART (k : Nat) : Field := ⟨HBM_NACK_CAP k, 3, 4⟩
/-- Field SRCKIND of HBM_NACK_CAP. -/
def HBM_NACK_CAP_SRCKIND (k : Nat) : Field := ⟨HBM_NACK_CAP k, 7, 2⟩
/-- Field SRC of HBM_NACK_CAP. -/
def HBM_NACK_CAP_SRC (k : Nat) : Field := ⟨HBM_NACK_CAP k, 9, 9⟩
/-- Field ADDR of HBM_NACK_CAP. -/
def HBM_NACK_CAP_ADDR (k : Nat) : Field := ⟨HBM_NACK_CAP k, 18, 41⟩
/-- Field VALID of HBM_NACK_CAP. -/
def HBM_NACK_CAP_VALID (k : Nat) : Field := ⟨HBM_NACK_CAP k, 63, 1⟩
/-- HBM_CLEAR (R211). -/
def HBM_CLEAR (k : Nat) : Reg := ⟨hbmBase k + 0x38, 0x0⟩
/-- Field BASE of HBM_CLEAR. -/
def HBM_CLEAR_BASE (k : Nat) : Field := ⟨HBM_CLEAR k, 0, 15⟩
/-- Field LIMIT of HBM_CLEAR. -/
def HBM_CLEAR_LIMIT (k : Nat) : Field := ⟨HBM_CLEAR k, 16, 15⟩
/-- Field START of HBM_CLEAR. -/
def HBM_CLEAR_START (k : Nat) : Field := ⟨HBM_CLEAR k, 32, 1⟩
/-- Field BUSY of HBM_CLEAR. -/
def HBM_CLEAR_BUSY (k : Nat) : Field := ⟨HBM_CLEAR k, 33, 1⟩
/-- HBM_HEALTH (R306). -/
def HBM_HEALTH (k : Nat) : Reg := ⟨hbmBase k + 0x40, 0x0⟩
/-- Field SCORE of HBM_HEALTH. -/
def HBM_HEALTH_SCORE (k : Nat) : Field := ⟨HBM_HEALTH k, 0, 32⟩
/-- Field CANDIDATE of HBM_HEALTH. -/
def HBM_HEALTH_CANDIDATE (k : Nat) : Field := ⟨HBM_HEALTH k, 32, 1⟩
/-- HBM_MAPp (R211). -/
def HBM_MAPp (k : Nat) (i : Nat) : Reg := ⟨hbmBase k + 0x100 + i * 8, 0x1000000000000⟩
/-- Field SET of HBM_MAPp. -/
def HBM_MAPp_SET (k : Nat) (i : Nat) : Field := ⟨HBM_MAPp k i, 0, 48⟩
/-- Field GRAN of HBM_MAPp. -/
def HBM_MAPp_GRAN (k : Nat) (i : Nat) : Field := ⟨HBM_MAPp k i, 48, 2⟩
/-- HBM_GRANTp (R211). -/
def HBM_GRANTp (k : Nat) (i : Nat) : Reg := ⟨hbmBase k + 0x180 + i * 8, 0x0⟩
/-- Field GBASE of HBM_GRANTp. -/
def HBM_GRANTp_GBASE (k : Nat) (i : Nat) : Field := ⟨HBM_GRANTp k i, 0, 15⟩
/-- Field GLIMIT of HBM_GRANTp. -/
def HBM_GRANTp_GLIMIT (k : Nat) (i : Nat) : Field := ⟨HBM_GRANTp k i, 16, 15⟩
/-- FAB_CTRL (R250). -/
def FAB_CTRL (p : Nat) : Reg := ⟨fabBase p, 0x0⟩
/-- Field EN of FAB_CTRL. -/
def FAB_CTRL_EN (p : Nat) : Field := ⟨FAB_CTRL p, 0, 1⟩
/-- Field MODE of FAB_CTRL. -/
def FAB_CTRL_MODE (p : Nat) : Field := ⟨FAB_CTRL p, 1, 1⟩
/-- Field FENCE of FAB_CTRL. -/
def FAB_CTRL_FENCE (p : Nat) : Field := ⟨FAB_CTRL p, 2, 1⟩
/-- FAB_STATUS (R250). -/
def FAB_STATUS (p : Nat) : Reg := ⟨fabBase p + 0x8, 0x0⟩
/-- Field STATE of FAB_STATUS. -/
def FAB_STATUS_STATE (p : Nat) : Field := ⟨FAB_STATUS p, 0, 3⟩
/-- Field WIDTH4 of FAB_STATUS. -/
def FAB_STATUS_WIDTH4 (p : Nat) : Field := ⟨FAB_STATUS p, 3, 1⟩
/-- Field HALF of FAB_STATUS. -/
def FAB_STATUS_HALF (p : Nat) : Field := ⟨FAB_STATUS p, 4, 1⟩
/-- Field FENCED of FAB_STATUS. -/
def FAB_STATUS_FENCED (p : Nat) : Field := ⟨FAB_STATUS p, 5, 1⟩
/-- Field CRED_REQ of FAB_STATUS. -/
def FAB_STATUS_CRED_REQ (p : Nat) : Field := ⟨FAB_STATUS p, 6, 11⟩
/-- Field CRED_RSP of FAB_STATUS. -/
def FAB_STATUS_CRED_RSP (p : Nat) : Field := ⟨FAB_STATUS p, 17, 9⟩
/-- Field CRED_COLL of FAB_STATUS. -/
def FAB_STATUS_CRED_COLL (p : Nat) : Field := ⟨FAB_STATUS p, 26, 10⟩
/-- Field UNACKED of FAB_STATUS. -/
def FAB_STATUS_UNACKED (p : Nat) : Field := ⟨FAB_STATUS p, 36, 8⟩
/-- FAB_PARTNER (R250). -/
def FAB_PARTNER (p : Nat) : Reg := ⟨fabBase p + 0x10, 0x0⟩
/-- Field PANEL_ID of FAB_PARTNER. -/
def FAB_PARTNER_PANEL_ID (p : Nat) : Field := ⟨FAB_PARTNER p, 0, 16⟩
/-- Field PORT of FAB_PARTNER. -/
def FAB_PARTNER_PORT (p : Nat) : Field := ⟨FAB_PARTNER p, 16, 6⟩
/-- Field WIDTH4 of FAB_PARTNER. -/
def FAB_PARTNER_WIDTH4 (p : Nat) : Field := ⟨FAB_PARTNER p, 22, 1⟩
/-- Field BUILD of FAB_PARTNER. -/
def FAB_PARTNER_BUILD (p : Nat) : Field := ⟨FAB_PARTNER p, 23, 8⟩
/-- Field VALID of FAB_PARTNER. -/
def FAB_PARTNER_VALID (p : Nat) : Field := ⟨FAB_PARTNER p, 31, 1⟩
/-- FAB_PARTNER_SERIAL (R250). -/
def FAB_PARTNER_SERIAL (p : Nat) : Reg := ⟨fabBase p + 0x18, 0x0⟩
/-- FAB_ADMIT (R250). -/
def FAB_ADMIT (p : Nat) : Reg := ⟨fabBase p + 0x20, 0x0⟩
/-- Field ADMIT of FAB_ADMIT. -/
def FAB_ADMIT_ADMIT (p : Nat) : Field := ⟨FAB_ADMIT p, 0, 16⟩
/-- FAB_CE_CNT (R250). -/
def FAB_CE_CNT (p : Nat) : Reg := ⟨fabBase p + 0x40, 0xFFFFFFFF00000000⟩
/-- Field COUNT of FAB_CE_CNT. -/
def FAB_CE_CNT_COUNT (p : Nat) : Field := ⟨FAB_CE_CNT p, 0, 32⟩
/-- Field THRESH of FAB_CE_CNT. -/
def FAB_CE_CNT_THRESH (p : Nat) : Field := ⟨FAB_CE_CNT p, 32, 32⟩
/-- FAB_UE_CNT (R250). -/
def FAB_UE_CNT (p : Nat) : Reg := ⟨fabBase p + 0x48, 0xFFFFFFFF00000000⟩
/-- Field COUNT of FAB_UE_CNT. -/
def FAB_UE_CNT_COUNT (p : Nat) : Field := ⟨FAB_UE_CNT p, 0, 32⟩
/-- Field THRESH of FAB_UE_CNT. -/
def FAB_UE_CNT_THRESH (p : Nat) : Field := ⟨FAB_UE_CNT p, 32, 32⟩
/-- FAB_REPLAY_CNT (R250). -/
def FAB_REPLAY_CNT (p : Nat) : Reg := ⟨fabBase p + 0x50, 0xFFFFFFFF00000000⟩
/-- Field COUNT of FAB_REPLAY_CNT. -/
def FAB_REPLAY_CNT_COUNT (p : Nat) : Field := ⟨FAB_REPLAY_CNT p, 0, 32⟩
/-- Field THRESH of FAB_REPLAY_CNT. -/
def FAB_REPLAY_CNT_THRESH (p : Nat) : Field := ⟨FAB_REPLAY_CNT p, 32, 32⟩
/-- FAB_RETRAIN_CNT (R250). -/
def FAB_RETRAIN_CNT (p : Nat) : Reg := ⟨fabBase p + 0x58, 0xFFFFFFFF00000000⟩
/-- Field COUNT of FAB_RETRAIN_CNT. -/
def FAB_RETRAIN_CNT_COUNT (p : Nat) : Field := ⟨FAB_RETRAIN_CNT p, 0, 32⟩
/-- Field THRESH of FAB_RETRAIN_CNT. -/
def FAB_RETRAIN_CNT_THRESH (p : Nat) : Field := ⟨FAB_RETRAIN_CNT p, 32, 32⟩
/-- FAB_DROP_CNT (R250). -/
def FAB_DROP_CNT (p : Nat) : Reg := ⟨fabBase p + 0x60, 0xFFFFFFFF00000000⟩
/-- Field COUNT of FAB_DROP_CNT. -/
def FAB_DROP_CNT_COUNT (p : Nat) : Field := ⟨FAB_DROP_CNT p, 0, 32⟩
/-- Field THRESH of FAB_DROP_CNT. -/
def FAB_DROP_CNT_THRESH (p : Nat) : Field := ⟨FAB_DROP_CNT p, 32, 32⟩
/-- FAB_DIGEST_CNT (R250). -/
def FAB_DIGEST_CNT (p : Nat) : Reg := ⟨fabBase p + 0x68, 0xFFFFFFFF00000000⟩
/-- Field COUNT of FAB_DIGEST_CNT. -/
def FAB_DIGEST_CNT_COUNT (p : Nat) : Field := ⟨FAB_DIGEST_CNT p, 0, 32⟩
/-- Field THRESH of FAB_DIGEST_CNT. -/
def FAB_DIGEST_CNT_THRESH (p : Nat) : Field := ⟨FAB_DIGEST_CNT p, 32, 32⟩
/-- FAB_DROP_CAP (R250). -/
def FAB_DROP_CAP (p : Nat) : Reg := ⟨fabBase p + 0x70, 0x0⟩
/-- Field CAUSE of FAB_DROP_CAP. -/
def FAB_DROP_CAP_CAUSE (p : Nat) : Field := ⟨FAB_DROP_CAP p, 0, 4⟩
/-- Field TYPE of FAB_DROP_CAP. -/
def FAB_DROP_CAP_TYPE (p : Nat) : Field := ⟨FAB_DROP_CAP p, 4, 4⟩
/-- Field SRCID of FAB_DROP_CAP. -/
def FAB_DROP_CAP_SRCID (p : Nat) : Field := ⟨FAB_DROP_CAP p, 8, 16⟩
/-- Field SRCTILE of FAB_DROP_CAP. -/
def FAB_DROP_CAP_SRCTILE (p : Nat) : Field := ⟨FAB_DROP_CAP p, 24, 9⟩
/-- Field DPART of FAB_DROP_CAP. -/
def FAB_DROP_CAP_DPART (p : Nat) : Field := ⟨FAB_DROP_CAP p, 33, 4⟩
/-- Field PTR of FAB_DROP_CAP. -/
def FAB_DROP_CAP_PTR (p : Nat) : Field := ⟨FAB_DROP_CAP p, 37, 5⟩
/-- Field PORT of FAB_DROP_CAP. -/
def FAB_DROP_CAP_PORT (p : Nat) : Field := ⟨FAB_DROP_CAP p, 42, 6⟩
/-- Field VALID of FAB_DROP_CAP. -/
def FAB_DROP_CAP_VALID (p : Nat) : Field := ⟨FAB_DROP_CAP p, 63, 1⟩
/-- FAB_DIGEST_CAP (R250). -/
def FAB_DIGEST_CAP (p : Nat) : Reg := ⟨fabBase p + 0x78, 0x0⟩
/-- Field KIND of FAB_DIGEST_CAP. -/
def FAB_DIGEST_CAP_KIND (p : Nat) : Field := ⟨FAB_DIGEST_CAP p, 0, 2⟩
/-- Field CID of FAB_DIGEST_CAP. -/
def FAB_DIGEST_CAP_CID (p : Nat) : Field := ⟨FAB_DIGEST_CAP p, 2, 6⟩
/-- Field SRCID of FAB_DIGEST_CAP. -/
def FAB_DIGEST_CAP_SRCID (p : Nat) : Field := ⟨FAB_DIGEST_CAP p, 8, 16⟩
/-- Field SRCPART of FAB_DIGEST_CAP. -/
def FAB_DIGEST_CAP_SRCPART (p : Nat) : Field := ⟨FAB_DIGEST_CAP p, 24, 4⟩
/-- Field VALID of FAB_DIGEST_CAP. -/
def FAB_DIGEST_CAP_VALID (p : Nat) : Field := ⟨FAB_DIGEST_CAP p, 63, 1⟩
/-- FAB_ETH_CFG (R250). -/
def FAB_ETH_CFG (p : Nat) : Reg := ⟨fabBase p + 0x100, 0x0⟩
/-- Field MAC of FAB_ETH_CFG. -/
def FAB_ETH_CFG_MAC (p : Nat) : Field := ⟨FAB_ETH_CFG p, 0, 48⟩
/-- Field RINGSZ of FAB_ETH_CFG. -/
def FAB_ETH_CFG_RINGSZ (p : Nat) : Field := ⟨FAB_ETH_CFG p, 48, 3⟩
/-- Field PFC_EN of FAB_ETH_CFG. -/
def FAB_ETH_CFG_PFC_EN (p : Nat) : Field := ⟨FAB_ETH_CFG p, 56, 8⟩
/-- FAB_ETH_TXRING (R250). -/
def FAB_ETH_TXRING (p : Nat) : Reg := ⟨fabBase p + 0x108, 0x0⟩
/-- Field BASE of FAB_ETH_TXRING. -/
def FAB_ETH_TXRING_BASE (p : Nat) : Field := ⟨FAB_ETH_TXRING p, 0, 48⟩
/-- FAB_ETH_RXRING (R250). -/
def FAB_ETH_RXRING (p : Nat) : Reg := ⟨fabBase p + 0x110, 0x0⟩
/-- Field BASE of FAB_ETH_RXRING. -/
def FAB_ETH_RXRING_BASE (p : Nat) : Field := ⟨FAB_ETH_RXRING p, 0, 48⟩
/-- FAB_ETH_PTR (R250). -/
def FAB_ETH_PTR (p : Nat) : Reg := ⟨fabBase p + 0x118, 0x0⟩
/-- Field TX_TAIL of FAB_ETH_PTR. -/
def FAB_ETH_PTR_TX_TAIL (p : Nat) : Field := ⟨FAB_ETH_PTR p, 0, 12⟩
/-- Field TX_HEAD of FAB_ETH_PTR. -/
def FAB_ETH_PTR_TX_HEAD (p : Nat) : Field := ⟨FAB_ETH_PTR p, 16, 12⟩
/-- Field RX_TAIL of FAB_ETH_PTR. -/
def FAB_ETH_PTR_RX_TAIL (p : Nat) : Field := ⟨FAB_ETH_PTR p, 32, 12⟩
/-- Field RX_HEAD of FAB_ETH_PTR. -/
def FAB_ETH_PTR_RX_HEAD (p : Nat) : Field := ⟨FAB_ETH_PTR p, 48, 12⟩
/-- FAB_ETH_RXDROP_CNT (R250). -/
def FAB_ETH_RXDROP_CNT (p : Nat) : Reg := ⟨fabBase p + 0x120, 0xFFFFFFFF00000000⟩
/-- Field COUNT of FAB_ETH_RXDROP_CNT. -/
def FAB_ETH_RXDROP_CNT_COUNT (p : Nat) : Field := ⟨FAB_ETH_RXDROP_CNT p, 0, 32⟩
/-- Field THRESH of FAB_ETH_RXDROP_CNT. -/
def FAB_ETH_RXDROP_CNT_THRESH (p : Nat) : Field := ⟨FAB_ETH_RXDROP_CNT p, 32, 32⟩
/-- FAB_LANE_SYMl (R306). -/
def FAB_LANE_SYMl (p : Nat) (i : Nat) : Reg := ⟨fabBase p + 0x180 + i * 8, 0xFFFFFFFF00000000⟩
/-- Field COUNT of FAB_LANE_SYMl. -/
def FAB_LANE_SYMl_COUNT (p : Nat) (i : Nat) : Field := ⟨FAB_LANE_SYMl p i, 0, 32⟩
/-- Field THRESH of FAB_LANE_SYMl. -/
def FAB_LANE_SYMl_THRESH (p : Nat) (i : Nat) : Field := ⟨FAB_LANE_SYMl p i, 32, 32⟩
/-- FAB_LANE_HEALTHl (R306). -/
def FAB_LANE_HEALTHl (p : Nat) (i : Nat) : Reg := ⟨fabBase p + 0x1C0 + i * 8, 0x0⟩
/-- Field SCORE of FAB_LANE_HEALTHl. -/
def FAB_LANE_HEALTHl_SCORE (p : Nat) (i : Nat) : Field := ⟨FAB_LANE_HEALTHl p i, 0, 32⟩
/-- Field CANDIDATE of FAB_LANE_HEALTHl. -/
def FAB_LANE_HEALTHl_CANDIDATE (p : Nat) (i : Nat) : Field := ⟨FAB_LANE_HEALTHl p i, 32, 1⟩
/-- FAB_RECA_W0 (R234). -/
def FAB_RECA_W0 (p : Nat) (i : Nat) : Reg := ⟨fabBase p + 0x1000 + i * 256, 0x0⟩
/-- Field VALID of FAB_RECA_W0. -/
def FAB_RECA_W0_VALID (p : Nat) (i : Nat) : Field := ⟨FAB_RECA_W0 p i, 0, 1⟩
/-- Field MCAST of FAB_RECA_W0. -/
def FAB_RECA_W0_MCAST (p : Nat) (i : Nat) : Field := ⟨FAB_RECA_W0 p i, 1, 1⟩
/-- Field PART of FAB_RECA_W0. -/
def FAB_RECA_W0_PART (p : Nat) (i : Nat) : Field := ⟨FAB_RECA_W0 p i, 8, 4⟩
/-- Field DSTID of FAB_RECA_W0. -/
def FAB_RECA_W0_DSTID (p : Nat) (i : Nat) : Field := ⟨FAB_RECA_W0 p i, 16, 16⟩
/-- Field DPART of FAB_RECA_W0. -/
def FAB_RECA_W0_DPART (p : Nat) (i : Nat) : Field := ⟨FAB_RECA_W0 p i, 32, 4⟩
/-- Field LEN of FAB_RECA_W0. -/
def FAB_RECA_W0_LEN (p : Nat) (i : Nat) : Field := ⟨FAB_RECA_W0 p i, 40, 5⟩
/-- Field CPL_OBJ0 of FAB_RECA_W0. -/
def FAB_RECA_W0_CPL_OBJ0 (p : Nat) (i : Nat) : Field := ⟨FAB_RECA_W0 p i, 48, 16⟩
/-- FAB_RECA_W1 (R234). -/
def FAB_RECA_W1 (p : Nat) (i : Nat) : Reg := ⟨fabBase p + 0x1008 + i * 256, 0x0⟩
/-- Field CPL_OBJ1 of FAB_RECA_W1. -/
def FAB_RECA_W1_CPL_OBJ1 (p : Nat) (i : Nat) : Field := ⟨FAB_RECA_W1 p i, 0, 1⟩
/-- Field CPL_EN of FAB_RECA_W1. -/
def FAB_RECA_W1_CPL_EN (p : Nat) (i : Nat) : Field := ⟨FAB_RECA_W1 p i, 1, 1⟩
/-- FAB_RECA_W2 (R234). -/
def FAB_RECA_W2 (p : Nat) (i : Nat) : Reg := ⟨fabBase p + 0x1010 + i * 256, 0x0⟩
/-- FAB_RECA_W3 (R234). -/
def FAB_RECA_W3 (p : Nat) (i : Nat) : Reg := ⟨fabBase p + 0x1018 + i * 256, 0x0⟩
/-- FAB_RECA_W4 (R234). -/
def FAB_RECA_W4 (p : Nat) (i : Nat) : Reg := ⟨fabBase p + 0x1020 + i * 256, 0x0⟩
/-- FAB_RECA_W5 (R234). -/
def FAB_RECA_W5 (p : Nat) (i : Nat) : Reg := ⟨fabBase p + 0x1028 + i * 256, 0x0⟩
/-- FAB_RECA_W6 (R234). -/
def FAB_RECA_W6 (p : Nat) (i : Nat) : Reg := ⟨fabBase p + 0x1030 + i * 256, 0x0⟩
/-- FAB_RECA_W7 (R234). -/
def FAB_RECA_W7 (p : Nat) (i : Nat) : Reg := ⟨fabBase p + 0x1038 + i * 256, 0x0⟩
/-- FAB_RECA_W8 (R234). -/
def FAB_RECA_W8 (p : Nat) (i : Nat) : Reg := ⟨fabBase p + 0x1040 + i * 256, 0x0⟩
/-- FAB_RECA_W9 (R234). -/
def FAB_RECA_W9 (p : Nat) (i : Nat) : Reg := ⟨fabBase p + 0x1048 + i * 256, 0x0⟩
/-- FAB_RECA_W10 (R234). -/
def FAB_RECA_W10 (p : Nat) (i : Nat) : Reg := ⟨fabBase p + 0x1050 + i * 256, 0x0⟩
/-- FAB_RECA_W11 (R234). -/
def FAB_RECA_W11 (p : Nat) (i : Nat) : Reg := ⟨fabBase p + 0x1058 + i * 256, 0x0⟩
/-- FAB_RECA_W12 (R234). -/
def FAB_RECA_W12 (p : Nat) (i : Nat) : Reg := ⟨fabBase p + 0x1060 + i * 256, 0x0⟩
/-- FAB_RECA_W13 (R234). -/
def FAB_RECA_W13 (p : Nat) (i : Nat) : Reg := ⟨fabBase p + 0x1068 + i * 256, 0x0⟩
/-- FAB_RECA_W14 (R234). -/
def FAB_RECA_W14 (p : Nat) (i : Nat) : Reg := ⟨fabBase p + 0x1070 + i * 256, 0x0⟩
/-- FAB_RECA_W15 (R234). -/
def FAB_RECA_W15 (p : Nat) (i : Nat) : Reg := ⟨fabBase p + 0x1078 + i * 256, 0x0⟩
/-- FAB_RECA_W16 (R234). -/
def FAB_RECA_W16 (p : Nat) (i : Nat) : Reg := ⟨fabBase p + 0x1080 + i * 256, 0x0⟩
/-- FAB_RECA_W17 (R234). -/
def FAB_RECA_W17 (p : Nat) (i : Nat) : Reg := ⟨fabBase p + 0x1088 + i * 256, 0x0⟩
/-- FAB_RECA_W18 (R234). -/
def FAB_RECA_W18 (p : Nat) (i : Nat) : Reg := ⟨fabBase p + 0x1090 + i * 256, 0x0⟩
/-- FAB_RECA_W19 (R234). -/
def FAB_RECA_W19 (p : Nat) (i : Nat) : Reg := ⟨fabBase p + 0x1098 + i * 256, 0x0⟩
/-- FAB_RECA_W20 (R234). -/
def FAB_RECA_W20 (p : Nat) (i : Nat) : Reg := ⟨fabBase p + 0x10A0 + i * 256, 0x0⟩
/-- FAB_RECA_W21 (R234). -/
def FAB_RECA_W21 (p : Nat) (i : Nat) : Reg := ⟨fabBase p + 0x10A8 + i * 256, 0x0⟩
/-- FAB_RECA_W22 (R234). -/
def FAB_RECA_W22 (p : Nat) (i : Nat) : Reg := ⟨fabBase p + 0x10B0 + i * 256, 0x0⟩
/-- FAB_RECA_W23 (R234). -/
def FAB_RECA_W23 (p : Nat) (i : Nat) : Reg := ⟨fabBase p + 0x10B8 + i * 256, 0x0⟩
/-- FAB_RECA_W24 (R234). -/
def FAB_RECA_W24 (p : Nat) (i : Nat) : Reg := ⟨fabBase p + 0x10C0 + i * 256, 0x0⟩
/-- FAB_RECA_W25 (R234). -/
def FAB_RECA_W25 (p : Nat) (i : Nat) : Reg := ⟨fabBase p + 0x10C8 + i * 256, 0x0⟩
/-- FAB_RECA_W26 (R234). -/
def FAB_RECA_W26 (p : Nat) (i : Nat) : Reg := ⟨fabBase p + 0x10D0 + i * 256, 0x0⟩
/-- FAB_RECA_W27 (R234). -/
def FAB_RECA_W27 (p : Nat) (i : Nat) : Reg := ⟨fabBase p + 0x10D8 + i * 256, 0x0⟩
/-- FAB_RECA_W28 (R234). -/
def FAB_RECA_W28 (p : Nat) (i : Nat) : Reg := ⟨fabBase p + 0x10E0 + i * 256, 0x0⟩
/-- FAB_RECA_W29 (R234). -/
def FAB_RECA_W29 (p : Nat) (i : Nat) : Reg := ⟨fabBase p + 0x10E8 + i * 256, 0x0⟩
/-- FAB_RECA_W30 (R234). -/
def FAB_RECA_W30 (p : Nat) (i : Nat) : Reg := ⟨fabBase p + 0x10F0 + i * 256, 0x0⟩
/-- FAB_RECA_W31 (R234). -/
def FAB_RECA_W31 (p : Nat) (i : Nat) : Reg := ⟨fabBase p + 0x10F8 + i * 256, 0x0⟩
/-- FAB_RECB_W0 (R234). -/
def FAB_RECB_W0 (p : Nat) (i : Nat) : Reg := ⟨fabBase p + 0x4000 + i * 256, 0x0⟩
/-- Field VALID of FAB_RECB_W0. -/
def FAB_RECB_W0_VALID (p : Nat) (i : Nat) : Field := ⟨FAB_RECB_W0 p i, 0, 1⟩
/-- Field MCAST of FAB_RECB_W0. -/
def FAB_RECB_W0_MCAST (p : Nat) (i : Nat) : Field := ⟨FAB_RECB_W0 p i, 1, 1⟩
/-- Field PART of FAB_RECB_W0. -/
def FAB_RECB_W0_PART (p : Nat) (i : Nat) : Field := ⟨FAB_RECB_W0 p i, 8, 4⟩
/-- Field DSTID of FAB_RECB_W0. -/
def FAB_RECB_W0_DSTID (p : Nat) (i : Nat) : Field := ⟨FAB_RECB_W0 p i, 16, 16⟩
/-- Field DPART of FAB_RECB_W0. -/
def FAB_RECB_W0_DPART (p : Nat) (i : Nat) : Field := ⟨FAB_RECB_W0 p i, 32, 4⟩
/-- Field LEN of FAB_RECB_W0. -/
def FAB_RECB_W0_LEN (p : Nat) (i : Nat) : Field := ⟨FAB_RECB_W0 p i, 40, 5⟩
/-- Field CPL_OBJ0 of FAB_RECB_W0. -/
def FAB_RECB_W0_CPL_OBJ0 (p : Nat) (i : Nat) : Field := ⟨FAB_RECB_W0 p i, 48, 16⟩
/-- FAB_RECB_W1 (R234). -/
def FAB_RECB_W1 (p : Nat) (i : Nat) : Reg := ⟨fabBase p + 0x4008 + i * 256, 0x0⟩
/-- Field CPL_OBJ1 of FAB_RECB_W1. -/
def FAB_RECB_W1_CPL_OBJ1 (p : Nat) (i : Nat) : Field := ⟨FAB_RECB_W1 p i, 0, 1⟩
/-- Field CPL_EN of FAB_RECB_W1. -/
def FAB_RECB_W1_CPL_EN (p : Nat) (i : Nat) : Field := ⟨FAB_RECB_W1 p i, 1, 1⟩
/-- FAB_RECB_W2 (R234). -/
def FAB_RECB_W2 (p : Nat) (i : Nat) : Reg := ⟨fabBase p + 0x4010 + i * 256, 0x0⟩
/-- FAB_RECB_W3 (R234). -/
def FAB_RECB_W3 (p : Nat) (i : Nat) : Reg := ⟨fabBase p + 0x4018 + i * 256, 0x0⟩
/-- FAB_RECB_W4 (R234). -/
def FAB_RECB_W4 (p : Nat) (i : Nat) : Reg := ⟨fabBase p + 0x4020 + i * 256, 0x0⟩
/-- FAB_RECB_W5 (R234). -/
def FAB_RECB_W5 (p : Nat) (i : Nat) : Reg := ⟨fabBase p + 0x4028 + i * 256, 0x0⟩
/-- FAB_RECB_W6 (R234). -/
def FAB_RECB_W6 (p : Nat) (i : Nat) : Reg := ⟨fabBase p + 0x4030 + i * 256, 0x0⟩
/-- FAB_RECB_W7 (R234). -/
def FAB_RECB_W7 (p : Nat) (i : Nat) : Reg := ⟨fabBase p + 0x4038 + i * 256, 0x0⟩
/-- FAB_RECB_W8 (R234). -/
def FAB_RECB_W8 (p : Nat) (i : Nat) : Reg := ⟨fabBase p + 0x4040 + i * 256, 0x0⟩
/-- FAB_RECB_W9 (R234). -/
def FAB_RECB_W9 (p : Nat) (i : Nat) : Reg := ⟨fabBase p + 0x4048 + i * 256, 0x0⟩
/-- FAB_RECB_W10 (R234). -/
def FAB_RECB_W10 (p : Nat) (i : Nat) : Reg := ⟨fabBase p + 0x4050 + i * 256, 0x0⟩
/-- FAB_RECB_W11 (R234). -/
def FAB_RECB_W11 (p : Nat) (i : Nat) : Reg := ⟨fabBase p + 0x4058 + i * 256, 0x0⟩
/-- FAB_RECB_W12 (R234). -/
def FAB_RECB_W12 (p : Nat) (i : Nat) : Reg := ⟨fabBase p + 0x4060 + i * 256, 0x0⟩
/-- FAB_RECB_W13 (R234). -/
def FAB_RECB_W13 (p : Nat) (i : Nat) : Reg := ⟨fabBase p + 0x4068 + i * 256, 0x0⟩
/-- FAB_RECB_W14 (R234). -/
def FAB_RECB_W14 (p : Nat) (i : Nat) : Reg := ⟨fabBase p + 0x4070 + i * 256, 0x0⟩
/-- FAB_RECB_W15 (R234). -/
def FAB_RECB_W15 (p : Nat) (i : Nat) : Reg := ⟨fabBase p + 0x4078 + i * 256, 0x0⟩
/-- FAB_RECB_W16 (R234). -/
def FAB_RECB_W16 (p : Nat) (i : Nat) : Reg := ⟨fabBase p + 0x4080 + i * 256, 0x0⟩
/-- FAB_RECB_W17 (R234). -/
def FAB_RECB_W17 (p : Nat) (i : Nat) : Reg := ⟨fabBase p + 0x4088 + i * 256, 0x0⟩
/-- FAB_RECB_W18 (R234). -/
def FAB_RECB_W18 (p : Nat) (i : Nat) : Reg := ⟨fabBase p + 0x4090 + i * 256, 0x0⟩
/-- FAB_RECB_W19 (R234). -/
def FAB_RECB_W19 (p : Nat) (i : Nat) : Reg := ⟨fabBase p + 0x4098 + i * 256, 0x0⟩
/-- FAB_RECB_W20 (R234). -/
def FAB_RECB_W20 (p : Nat) (i : Nat) : Reg := ⟨fabBase p + 0x40A0 + i * 256, 0x0⟩
/-- FAB_RECB_W21 (R234). -/
def FAB_RECB_W21 (p : Nat) (i : Nat) : Reg := ⟨fabBase p + 0x40A8 + i * 256, 0x0⟩
/-- FAB_RECB_W22 (R234). -/
def FAB_RECB_W22 (p : Nat) (i : Nat) : Reg := ⟨fabBase p + 0x40B0 + i * 256, 0x0⟩
/-- FAB_RECB_W23 (R234). -/
def FAB_RECB_W23 (p : Nat) (i : Nat) : Reg := ⟨fabBase p + 0x40B8 + i * 256, 0x0⟩
/-- FAB_RECB_W24 (R234). -/
def FAB_RECB_W24 (p : Nat) (i : Nat) : Reg := ⟨fabBase p + 0x40C0 + i * 256, 0x0⟩
/-- FAB_RECB_W25 (R234). -/
def FAB_RECB_W25 (p : Nat) (i : Nat) : Reg := ⟨fabBase p + 0x40C8 + i * 256, 0x0⟩
/-- FAB_RECB_W26 (R234). -/
def FAB_RECB_W26 (p : Nat) (i : Nat) : Reg := ⟨fabBase p + 0x40D0 + i * 256, 0x0⟩
/-- FAB_RECB_W27 (R234). -/
def FAB_RECB_W27 (p : Nat) (i : Nat) : Reg := ⟨fabBase p + 0x40D8 + i * 256, 0x0⟩
/-- FAB_RECB_W28 (R234). -/
def FAB_RECB_W28 (p : Nat) (i : Nat) : Reg := ⟨fabBase p + 0x40E0 + i * 256, 0x0⟩
/-- FAB_RECB_W29 (R234). -/
def FAB_RECB_W29 (p : Nat) (i : Nat) : Reg := ⟨fabBase p + 0x40E8 + i * 256, 0x0⟩
/-- FAB_RECB_W30 (R234). -/
def FAB_RECB_W30 (p : Nat) (i : Nat) : Reg := ⟨fabBase p + 0x40F0 + i * 256, 0x0⟩
/-- FAB_RECB_W31 (R234). -/
def FAB_RECB_W31 (p : Nat) (i : Nat) : Reg := ⟨fabBase p + 0x40F8 + i * 256, 0x0⟩
/-- FAB_DIE_SRT_NIB0 (R250). -/
def FAB_DIE_SRT_NIB0 (m : Nat) (i : Nat) : Reg := ⟨dieBase m + 0x8000 + i * 32, 0x0⟩
/-- FAB_DIE_SRT_NIB1 (R250). -/
def FAB_DIE_SRT_NIB1 (m : Nat) (i : Nat) : Reg := ⟨dieBase m + 0x8008 + i * 32, 0x0⟩
/-- FAB_DIE_SRT_NIB2 (R250). -/
def FAB_DIE_SRT_NIB2 (m : Nat) (i : Nat) : Reg := ⟨dieBase m + 0x8010 + i * 32, 0x0⟩
/-- FAB_DIE_SRT_CTL (R250). -/
def FAB_DIE_SRT_CTL (m : Nat) (i : Nat) : Reg := ⟨dieBase m + 0x8018 + i * 32, 0x0⟩
/-- Field LEN of FAB_DIE_SRT_CTL. -/
def FAB_DIE_SRT_CTL_LEN (m : Nat) (i : Nat) : Field := ⟨FAB_DIE_SRT_CTL m i, 0, 6⟩
/-- Field VALID of FAB_DIE_SRT_CTL. -/
def FAB_DIE_SRT_CTL_VALID (m : Nat) (i : Nat) : Field := ⟨FAB_DIE_SRT_CTL m i, 6, 1⟩
/-- FAB_DIE_COLLA_W0 (R245). -/
def FAB_DIE_COLLA_W0 (m : Nat) (i : Nat) : Reg := ⟨dieBase m + 0xD000 + i * 64, 0x0⟩
/-- Field VALID of FAB_DIE_COLLA_W0. -/
def FAB_DIE_COLLA_W0_VALID (m : Nat) (i : Nat) : Field := ⟨FAB_DIE_COLLA_W0 m i, 0, 1⟩
/-- Field DIR of FAB_DIE_COLLA_W0. -/
def FAB_DIE_COLLA_W0_DIR (m : Nat) (i : Nat) : Field := ⟨FAB_DIE_COLLA_W0 m i, 1, 1⟩
/-- Field CHECK of FAB_DIE_COLLA_W0. -/
def FAB_DIE_COLLA_W0_CHECK (m : Nat) (i : Nat) : Field := ⟨FAB_DIE_COLLA_W0 m i, 2, 1⟩
/-- Field PART of FAB_DIE_COLLA_W0. -/
def FAB_DIE_COLLA_W0_PART (m : Nat) (i : Nat) : Field := ⟨FAB_DIE_COLLA_W0 m i, 4, 4⟩
/-- Field REDID of FAB_DIE_COLLA_W0. -/
def FAB_DIE_COLLA_W0_REDID (m : Nat) (i : Nat) : Field := ⟨FAB_DIE_COLLA_W0 m i, 8, 10⟩
/-- Field PORT of FAB_DIE_COLLA_W0. -/
def FAB_DIE_COLLA_W0_PORT (m : Nat) (i : Nat) : Field := ⟨FAB_DIE_COLLA_W0 m i, 20, 6⟩
/-- Field RCID of FAB_DIE_COLLA_W0. -/
def FAB_DIE_COLLA_W0_RCID (m : Nat) (i : Nat) : Field := ⟨FAB_DIE_COLLA_W0 m i, 28, 6⟩
/-- Field DSTID of FAB_DIE_COLLA_W0. -/
def FAB_DIE_COLLA_W0_DSTID (m : Nat) (i : Nat) : Field := ⟨FAB_DIE_COLLA_W0 m i, 36, 16⟩
/-- Field DPART of FAB_DIE_COLLA_W0. -/
def FAB_DIE_COLLA_W0_DPART (m : Nat) (i : Nat) : Field := ⟨FAB_DIE_COLLA_W0 m i, 52, 4⟩
/-- Field LEN of FAB_DIE_COLLA_W0. -/
def FAB_DIE_COLLA_W0_LEN (m : Nat) (i : Nat) : Field := ⟨FAB_DIE_COLLA_W0 m i, 56, 5⟩
/-- FAB_DIE_COLLA_W1 (R245). -/
def FAB_DIE_COLLA_W1 (m : Nat) (i : Nat) : Reg := ⟨dieBase m + 0xD008 + i * 64, 0x0⟩
/-- Field TOLREL of FAB_DIE_COLLA_W1. -/
def FAB_DIE_COLLA_W1_TOLREL (m : Nat) (i : Nat) : Field := ⟨FAB_DIE_COLLA_W1 m i, 0, 5⟩
/-- Field TOLABS of FAB_DIE_COLLA_W1. -/
def FAB_DIE_COLLA_W1_TOLABS (m : Nat) (i : Nat) : Field := ⟨FAB_DIE_COLLA_W1 m i, 8, 8⟩
/-- Field ADDR of FAB_DIE_COLLA_W1. -/
def FAB_DIE_COLLA_W1_ADDR (m : Nat) (i : Nat) : Field := ⟨FAB_DIE_COLLA_W1 m i, 16, 48⟩
/-- FAB_DIE_COLLA_W2 (R245). -/
def FAB_DIE_COLLA_W2 (m : Nat) (i : Nat) : Reg := ⟨dieBase m + 0xD010 + i * 64, 0x0⟩
/-- Field OBJ of FAB_DIE_COLLA_W2. -/
def FAB_DIE_COLLA_W2_OBJ (m : Nat) (i : Nat) : Field := ⟨FAB_DIE_COLLA_W2 m i, 0, 17⟩
/-- Field EN of FAB_DIE_COLLA_W2. -/
def FAB_DIE_COLLA_W2_EN (m : Nat) (i : Nat) : Field := ⟨FAB_DIE_COLLA_W2 m i, 32, 1⟩
/-- FAB_DIE_COLLA_W3 (R245). -/
def FAB_DIE_COLLA_W3 (m : Nat) (i : Nat) : Reg := ⟨dieBase m + 0xD018 + i * 64, 0x0⟩
/-- FAB_DIE_COLLA_W4 (R245). -/
def FAB_DIE_COLLA_W4 (m : Nat) (i : Nat) : Reg := ⟨dieBase m + 0xD020 + i * 64, 0x0⟩
/-- FAB_DIE_COLLA_W5 (R245). -/
def FAB_DIE_COLLA_W5 (m : Nat) (i : Nat) : Reg := ⟨dieBase m + 0xD028 + i * 64, 0x0⟩
/-- FAB_DIE_COLLA_W6 (R245). -/
def FAB_DIE_COLLA_W6 (m : Nat) (i : Nat) : Reg := ⟨dieBase m + 0xD030 + i * 64, 0x0⟩
/-- Field NLEN of FAB_DIE_COLLA_W6. -/
def FAB_DIE_COLLA_W6_NLEN (m : Nat) (i : Nat) : Field := ⟨FAB_DIE_COLLA_W6 m i, 0, 6⟩
/-- FAB_DIE_COLLA_W7 (R245). -/
def FAB_DIE_COLLA_W7 (m : Nat) (i : Nat) : Reg := ⟨dieBase m + 0xD038 + i * 64, 0x0⟩
/-- FAB_DIE_COLLB_W0 (R245). -/
def FAB_DIE_COLLB_W0 (m : Nat) (i : Nat) : Reg := ⟨dieBase m + 0xE000 + i * 64, 0x0⟩
/-- Field VALID of FAB_DIE_COLLB_W0. -/
def FAB_DIE_COLLB_W0_VALID (m : Nat) (i : Nat) : Field := ⟨FAB_DIE_COLLB_W0 m i, 0, 1⟩
/-- Field DIR of FAB_DIE_COLLB_W0. -/
def FAB_DIE_COLLB_W0_DIR (m : Nat) (i : Nat) : Field := ⟨FAB_DIE_COLLB_W0 m i, 1, 1⟩
/-- Field CHECK of FAB_DIE_COLLB_W0. -/
def FAB_DIE_COLLB_W0_CHECK (m : Nat) (i : Nat) : Field := ⟨FAB_DIE_COLLB_W0 m i, 2, 1⟩
/-- Field PART of FAB_DIE_COLLB_W0. -/
def FAB_DIE_COLLB_W0_PART (m : Nat) (i : Nat) : Field := ⟨FAB_DIE_COLLB_W0 m i, 4, 4⟩
/-- Field REDID of FAB_DIE_COLLB_W0. -/
def FAB_DIE_COLLB_W0_REDID (m : Nat) (i : Nat) : Field := ⟨FAB_DIE_COLLB_W0 m i, 8, 10⟩
/-- Field PORT of FAB_DIE_COLLB_W0. -/
def FAB_DIE_COLLB_W0_PORT (m : Nat) (i : Nat) : Field := ⟨FAB_DIE_COLLB_W0 m i, 20, 6⟩
/-- Field RCID of FAB_DIE_COLLB_W0. -/
def FAB_DIE_COLLB_W0_RCID (m : Nat) (i : Nat) : Field := ⟨FAB_DIE_COLLB_W0 m i, 28, 6⟩
/-- Field DSTID of FAB_DIE_COLLB_W0. -/
def FAB_DIE_COLLB_W0_DSTID (m : Nat) (i : Nat) : Field := ⟨FAB_DIE_COLLB_W0 m i, 36, 16⟩
/-- Field DPART of FAB_DIE_COLLB_W0. -/
def FAB_DIE_COLLB_W0_DPART (m : Nat) (i : Nat) : Field := ⟨FAB_DIE_COLLB_W0 m i, 52, 4⟩
/-- Field LEN of FAB_DIE_COLLB_W0. -/
def FAB_DIE_COLLB_W0_LEN (m : Nat) (i : Nat) : Field := ⟨FAB_DIE_COLLB_W0 m i, 56, 5⟩
/-- FAB_DIE_COLLB_W1 (R245). -/
def FAB_DIE_COLLB_W1 (m : Nat) (i : Nat) : Reg := ⟨dieBase m + 0xE008 + i * 64, 0x0⟩
/-- Field TOLREL of FAB_DIE_COLLB_W1. -/
def FAB_DIE_COLLB_W1_TOLREL (m : Nat) (i : Nat) : Field := ⟨FAB_DIE_COLLB_W1 m i, 0, 5⟩
/-- Field TOLABS of FAB_DIE_COLLB_W1. -/
def FAB_DIE_COLLB_W1_TOLABS (m : Nat) (i : Nat) : Field := ⟨FAB_DIE_COLLB_W1 m i, 8, 8⟩
/-- Field ADDR of FAB_DIE_COLLB_W1. -/
def FAB_DIE_COLLB_W1_ADDR (m : Nat) (i : Nat) : Field := ⟨FAB_DIE_COLLB_W1 m i, 16, 48⟩
/-- FAB_DIE_COLLB_W2 (R245). -/
def FAB_DIE_COLLB_W2 (m : Nat) (i : Nat) : Reg := ⟨dieBase m + 0xE010 + i * 64, 0x0⟩
/-- Field OBJ of FAB_DIE_COLLB_W2. -/
def FAB_DIE_COLLB_W2_OBJ (m : Nat) (i : Nat) : Field := ⟨FAB_DIE_COLLB_W2 m i, 0, 17⟩
/-- Field EN of FAB_DIE_COLLB_W2. -/
def FAB_DIE_COLLB_W2_EN (m : Nat) (i : Nat) : Field := ⟨FAB_DIE_COLLB_W2 m i, 32, 1⟩
/-- FAB_DIE_COLLB_W3 (R245). -/
def FAB_DIE_COLLB_W3 (m : Nat) (i : Nat) : Reg := ⟨dieBase m + 0xE018 + i * 64, 0x0⟩
/-- FAB_DIE_COLLB_W4 (R245). -/
def FAB_DIE_COLLB_W4 (m : Nat) (i : Nat) : Reg := ⟨dieBase m + 0xE020 + i * 64, 0x0⟩
/-- FAB_DIE_COLLB_W5 (R245). -/
def FAB_DIE_COLLB_W5 (m : Nat) (i : Nat) : Reg := ⟨dieBase m + 0xE028 + i * 64, 0x0⟩
/-- FAB_DIE_COLLB_W6 (R245). -/
def FAB_DIE_COLLB_W6 (m : Nat) (i : Nat) : Reg := ⟨dieBase m + 0xE030 + i * 64, 0x0⟩
/-- Field NLEN of FAB_DIE_COLLB_W6. -/
def FAB_DIE_COLLB_W6_NLEN (m : Nat) (i : Nat) : Field := ⟨FAB_DIE_COLLB_W6 m i, 0, 6⟩
/-- FAB_DIE_COLLB_W7 (R245). -/
def FAB_DIE_COLLB_W7 (m : Nat) (i : Nat) : Reg := ⟨dieBase m + 0xE038 + i * 64, 0x0⟩
/-- FAB_DIE_CFG (R250). -/
def FAB_DIE_CFG (m : Nat) : Reg := ⟨dieBase m + 0xF000, 0x80050000⟩
/-- Field PANEL_ID of FAB_DIE_CFG. -/
def FAB_DIE_CFG_PANEL_ID (m : Nat) : Field := ⟨FAB_DIE_CFG m, 0, 16⟩
/-- Field HOLD_LIM of FAB_DIE_CFG. -/
def FAB_DIE_CFG_HOLD_LIM (m : Nat) : Field := ⟨FAB_DIE_CFG m, 16, 12⟩
/-- Field MERGE_TO of FAB_DIE_CFG. -/
def FAB_DIE_CFG_MERGE_TO (m : Nat) : Field := ⟨FAB_DIE_CFG m, 28, 12⟩
/-- FAB_DIE_EPOCH (R250). -/
def FAB_DIE_EPOCH (m : Nat) : Reg := ⟨dieBase m + 0xF008, 0x0⟩
/-- Field EPOCH of FAB_DIE_EPOCH. -/
def FAB_DIE_EPOCH_EPOCH (m : Nat) : Field := ⟨FAB_DIE_EPOCH m, 0, 16⟩
/-- FAB_DIE_STATUS (R250). -/
def FAB_DIE_STATUS (m : Nat) : Reg := ⟨dieBase m + 0xF010, 0x0⟩
/-- Field OTRACK of FAB_DIE_STATUS. -/
def FAB_DIE_STATUS_OTRACK (m : Nat) : Field := ⟨FAB_DIE_STATUS m, 0, 9⟩
/-- Field DTRACK of FAB_DIE_STATUS. -/
def FAB_DIE_STATUS_DTRACK (m : Nat) : Field := ⟨FAB_DIE_STATUS m, 9, 9⟩
/-- Field HELD of FAB_DIE_STATUS. -/
def FAB_DIE_STATUS_HELD (m : Nat) : Field := ⟨FAB_DIE_STATUS m, 18, 9⟩
/-- FAB_DIE_HBM_MAPq (R250). -/
def FAB_DIE_HBM_MAPq (m : Nat) (i : Nat) : Reg := ⟨dieBase m + 0xF080 + i * 8, 0x1000000000000⟩
/-- Field SET of FAB_DIE_HBM_MAPq. -/
def FAB_DIE_HBM_MAPq_SET (m : Nat) (i : Nat) : Field := ⟨FAB_DIE_HBM_MAPq m i, 0, 48⟩
/-- Field GRAN of FAB_DIE_HBM_MAPq. -/
def FAB_DIE_HBM_MAPq_GRAN (m : Nat) (i : Nat) : Field := ⟨FAB_DIE_HBM_MAPq m i, 48, 2⟩
/-- FAB_DIE_OLDOUTq (R250). -/
def FAB_DIE_OLDOUTq (m : Nat) (i : Nat) : Reg := ⟨dieBase m + 0xF100 + i * 8, 0x0⟩
/-- Field COUNT of FAB_DIE_OLDOUTq. -/
def FAB_DIE_OLDOUTq_COUNT (m : Nat) (i : Nat) : Field := ⟨FAB_DIE_OLDOUTq m i, 0, 9⟩
/-- SEQ_SLOTs_KV (R154). -/
def SEQ_SLOTs_KV (i : Nat) : Reg := ⟨0x500000000 + 0x0 + i * 32, 0x0⟩
/-- Field KV_BASE of SEQ_SLOTs_KV. -/
def SEQ_SLOTs_KV_KV_BASE (i : Nat) : Field := ⟨SEQ_SLOTs_KV i, 0, 41⟩
/-- Field ROW_UNITS of SEQ_SLOTs_KV. -/
def SEQ_SLOTs_KV_ROW_UNITS (i : Nat) : Field := ⟨SEQ_SLOTs_KV i, 48, 8⟩
/-- SEQ_SLOTs_LEN (R154). -/
def SEQ_SLOTs_LEN (i : Nat) : Reg := ⟨0x500000000 + 0x8 + i * 32, 0x0⟩
/-- Field LENGTH of SEQ_SLOTs_LEN. -/
def SEQ_SLOTs_LEN_LENGTH (i : Nat) : Field := ⟨SEQ_SLOTs_LEN i, 0, 24⟩
/-- Field EXTENT of SEQ_SLOTs_LEN. -/
def SEQ_SLOTs_LEN_EXTENT (i : Nat) : Field := ⟨SEQ_SLOTs_LEN i, 24, 24⟩
/-- SEQ_SLOTs_SYNC (R154). -/
def SEQ_SLOTs_SYNC (i : Nat) : Reg := ⟨0x500000000 + 0x10 + i * 32, 0x0⟩
/-- Field SYNC_BASE of SEQ_SLOTs_SYNC. -/
def SEQ_SLOTs_SYNC_SYNC_BASE (i : Nat) : Field := ⟨SEQ_SLOTs_SYNC i, 0, 17⟩
/-- Field PAD of SEQ_SLOTs_SYNC. -/
def SEQ_SLOTs_SYNC_PAD (i : Nat) : Field := ⟨SEQ_SLOTs_SYNC i, 32, 32⟩
/-- SEQ_SLOTs_STATE (R154). -/
def SEQ_SLOTs_STATE (i : Nat) : Reg := ⟨0x500000000 + 0x18 + i * 32, 0x0⟩
/-- Field STATE of SEQ_SLOTs_STATE. -/
def SEQ_SLOTs_STATE_STATE (i : Nat) : Field := ⟨SEQ_SLOTs_STATE i, 0, 3⟩
/-- Field OWNER of SEQ_SLOTs_STATE. -/
def SEQ_SLOTs_STATE_OWNER (i : Nat) : Field := ⟨SEQ_SLOTs_STATE i, 3, 4⟩
/-- Field INFLIGHT of SEQ_SLOTs_STATE. -/
def SEQ_SLOTs_STATE_INFLIGHT (i : Nat) : Field := ⟨SEQ_SLOTs_STATE i, 7, 9⟩
/-- Field MARK of SEQ_SLOTs_STATE. -/
def SEQ_SLOTs_STATE_MARK (i : Nat) : Field := ⟨SEQ_SLOTs_STATE i, 16, 24⟩
/-- Field ERR of SEQ_SLOTs_STATE. -/
def SEQ_SLOTs_STATE_ERR (i : Nat) : Field := ⟨SEQ_SLOTs_STATE i, 40, 3⟩
/-- SEQ_CMDs (R156). -/
def SEQ_CMDs (i : Nat) : Reg := ⟨0x500000000 + 0x2000 + i * 8, 0x0⟩
/-- Field OP of SEQ_CMDs. -/
def SEQ_CMDs_OP (i : Nat) : Field := ⟨SEQ_CMDs i, 0, 4⟩
/-- Field VALUE of SEQ_CMDs. -/
def SEQ_CMDs_VALUE (i : Nat) : Field := ⟨SEQ_CMDs i, 16, 24⟩
/-- SEQ_WATCHw (R163). -/
def SEQ_WATCHw (i : Nat) : Reg := ⟨0x500000000 + 0x4000 + i * 8, 0x0⟩
/-- Field OBJ of SEQ_WATCHw. -/
def SEQ_WATCHw_OBJ (i : Nat) : Field := ⟨SEQ_WATCHw i, 0, 17⟩
/-- Field ARM of SEQ_WATCHw. -/
def SEQ_WATCHw_ARM (i : Nat) : Field := ⟨SEQ_WATCHw i, 17, 1⟩
/-- Field FIRED of SEQ_WATCHw. -/
def SEQ_WATCHw_FIRED (i : Nat) : Field := ⟨SEQ_WATCHw i, 18, 1⟩
/-- Field THRESH of SEQ_WATCHw. -/
def SEQ_WATCHw_THRESH (i : Nat) : Field := ⟨SEQ_WATCHw i, 32, 32⟩
/-- SEQ_CKPT_BASEp (R163). -/
def SEQ_CKPT_BASEp (i : Nat) : Reg := ⟨0x500000000 + 0x4200 + i * 8, 0x0⟩
/-- Field BASE of SEQ_CKPT_BASEp. -/
def SEQ_CKPT_BASEp_BASE (i : Nat) : Field := ⟨SEQ_CKPT_BASEp i, 0, 41⟩
/-- Field VALID of SEQ_CKPT_BASEp. -/
def SEQ_CKPT_BASEp_VALID (i : Nat) : Field := ⟨SEQ_CKPT_BASEp i, 63, 1⟩
/-- SEQ_ERR_CNT (R163). -/
def SEQ_ERR_CNT : Reg := ⟨0x500000000 + 0x4280, 0xFFFFFFFF00000000⟩
/-- Field COUNT of SEQ_ERR_CNT. -/
def SEQ_ERR_CNT_COUNT : Field := ⟨SEQ_ERR_CNT, 0, 32⟩
/-- Field THRESH of SEQ_ERR_CNT. -/
def SEQ_ERR_CNT_THRESH : Field := ⟨SEQ_ERR_CNT, 32, 32⟩
/-- SEQ_ERR_CAP (R163). -/
def SEQ_ERR_CAP : Reg := ⟨0x500000000 + 0x4288, 0x0⟩
/-- Field SLOT of SEQ_ERR_CAP. -/
def SEQ_ERR_CAP_SLOT : Field := ⟨SEQ_ERR_CAP, 0, 8⟩
/-- Field CAUSE of SEQ_ERR_CAP. -/
def SEQ_ERR_CAP_CAUSE : Field := ⟨SEQ_ERR_CAP, 8, 3⟩
/-- Field SOURCE of SEQ_ERR_CAP. -/
def SEQ_ERR_CAP_SOURCE : Field := ⟨SEQ_ERR_CAP, 11, 9⟩
/-- Field OP of SEQ_ERR_CAP. -/
def SEQ_ERR_CAP_OP : Field := ⟨SEQ_ERR_CAP, 20, 1⟩
/-- Field VALID of SEQ_ERR_CAP. -/
def SEQ_ERR_CAP_VALID : Field := ⟨SEQ_ERR_CAP, 63, 1⟩
/-- SEQ_SYNCERR_CNT (R163). -/
def SEQ_SYNCERR_CNT : Reg := ⟨0x500000000 + 0x4290, 0xFFFFFFFF00000000⟩
/-- Field COUNT of SEQ_SYNCERR_CNT. -/
def SEQ_SYNCERR_CNT_COUNT : Field := ⟨SEQ_SYNCERR_CNT, 0, 32⟩
/-- Field THRESH of SEQ_SYNCERR_CNT. -/
def SEQ_SYNCERR_CNT_THRESH : Field := ⟨SEQ_SYNCERR_CNT, 32, 32⟩
/-- SEQ_SYNCERR_CAP (R163). -/
def SEQ_SYNCERR_CAP : Reg := ⟨0x500000000 + 0x4298, 0x0⟩
/-- Field OBJ of SEQ_SYNCERR_CAP. -/
def SEQ_SYNCERR_CAP_OBJ : Field := ⟨SEQ_SYNCERR_CAP, 0, 17⟩
/-- Field CAUSE of SEQ_SYNCERR_CAP. -/
def SEQ_SYNCERR_CAP_CAUSE : Field := ⟨SEQ_SYNCERR_CAP, 17, 2⟩
/-- Field SRCKIND of SEQ_SYNCERR_CAP. -/
def SEQ_SYNCERR_CAP_SRCKIND : Field := ⟨SEQ_SYNCERR_CAP, 19, 2⟩
/-- Field SOURCE of SEQ_SYNCERR_CAP. -/
def SEQ_SYNCERR_CAP_SOURCE : Field := ⟨SEQ_SYNCERR_CAP, 21, 9⟩
/-- Field VALID of SEQ_SYNCERR_CAP. -/
def SEQ_SYNCERR_CAP_VALID : Field := ⟨SEQ_SYNCERR_CAP, 63, 1⟩
/-- FLT_CFG (R303). -/
def FLT_CFG : Reg := ⟨0x2000000, 0xF31064⟩
/-- Field ACK_DL of FLT_CFG. -/
def FLT_CFG_ACK_DL : Field := ⟨FLT_CFG, 0, 12⟩
/-- Field HB_MS of FLT_CFG. -/
def FLT_CFG_HB_MS : Field := ⟨FLT_CFG, 12, 4⟩
/-- Field HB_MISS of FLT_CFG. -/
def FLT_CFG_HB_MISS : Field := ⟨FLT_CFG, 16, 3⟩
/-- Field WAIT_LIM of FLT_CFG. -/
def FLT_CFG_WAIT_LIM : Field := ⟨FLT_CFG, 19, 6⟩
/-- Field FORCE_ACT of FLT_CFG. -/
def FLT_CFG_FORCE_ACT : Field := ⟨FLT_CFG, 25, 1⟩
/-- FLT_STATUS (R303). -/
def FLT_STATUS : Reg := ⟨0x2000000 + 0x8, 0x0⟩
/-- Field TOGGLING of FLT_STATUS. -/
def FLT_STATUS_TOGGLING : Field := ⟨FLT_STATUS, 0, 1⟩
/-- Field OVERDUE of FLT_STATUS. -/
def FLT_STATUS_OVERDUE : Field := ⟨FLT_STATUS, 1, 1⟩
/-- Field USED of FLT_STATUS. -/
def FLT_STATUS_USED : Field := ⟨FLT_STATUS, 2, 13⟩
/-- FLT_HEAD (R303). -/
def FLT_HEAD : Reg := ⟨0x2000000 + 0x10, 0x0⟩
/-- Field SEQ of FLT_HEAD. -/
def FLT_HEAD_SEQ : Field := ⟨FLT_HEAD, 0, 32⟩
/-- FLT_ACK (R303). -/
def FLT_ACK : Reg := ⟨0x2000000 + 0x18, 0xFFFFFFFF⟩
/-- Field SEQ of FLT_ACK. -/
def FLT_ACK_SEQ : Field := ⟨FLT_ACK, 0, 32⟩
/-- FLT_LOST_CNT (R303). -/
def FLT_LOST_CNT : Reg := ⟨0x2000000 + 0x20, 0xFFFFFFFF00000000⟩
/-- Field COUNT of FLT_LOST_CNT. -/
def FLT_LOST_CNT_COUNT : Field := ⟨FLT_LOST_CNT, 0, 32⟩
/-- Field THRESH of FLT_LOST_CNT. -/
def FLT_LOST_CNT_THRESH : Field := ⟨FLT_LOST_CNT, 32, 32⟩
/-- FLT_CMD (R303). -/
def FLT_CMD : Reg := ⟨0x2000000 + 0x28, 0x0⟩
/-- Field OP of FLT_CMD. -/
def FLT_CMD_OP : Field := ⟨FLT_CMD, 0, 4⟩
/-- Field TARGET of FLT_CMD. -/
def FLT_CMD_TARGET : Field := ⟨FLT_CMD, 4, 10⟩
/-- FLT_HCFG (R303). -/
def FLT_HCFG : Reg := ⟨0x2000000 + 0x30, 0xE3C⟩
/-- Field PERIOD of FLT_HCFG. -/
def FLT_HCFG_PERIOD : Field := ⟨FLT_HCFG, 0, 8⟩
/-- Field DECAY of FLT_HCFG. -/
def FLT_HCFG_DECAY : Field := ⟨FLT_HCFG, 8, 5⟩
/-- FLT_HTHRESH (R303). -/
def FLT_HTHRESH : Reg := ⟨0x2000000 + 0x38, 0x1000020001000200⟩
/-- Field TILE of FLT_HTHRESH. -/
def FLT_HTHRESH_TILE : Field := ⟨FLT_HTHRESH, 0, 16⟩
/-- Field LANE of FLT_HTHRESH. -/
def FLT_HTHRESH_LANE : Field := ⟨FLT_HTHRESH, 16, 16⟩
/-- Field STACK of FLT_HTHRESH. -/
def FLT_HTHRESH_STACK : Field := ⟨FLT_HTHRESH, 32, 16⟩
/-- Field PANEL of FLT_HTHRESH. -/
def FLT_HTHRESH_PANEL : Field := ⟨FLT_HTHRESH, 48, 16⟩
/-- FLT_PANEL_HEALTH (R306). -/
def FLT_PANEL_HEALTH : Reg := ⟨0x2000000 + 0x40, 0x0⟩
/-- Field SCORE of FLT_PANEL_HEALTH. -/
def FLT_PANEL_HEALTH_SCORE : Field := ⟨FLT_PANEL_HEALTH, 0, 32⟩
/-- Field CANDIDATE of FLT_PANEL_HEALTH. -/
def FLT_PANEL_HEALTH_CANDIDATE : Field := ⟨FLT_PANEL_HEALTH, 32, 1⟩
/-- FLT_HW0 (R303). -/
def FLT_HW0 : Reg := ⟨0x2000000 + 0x100, 0x1⟩
/-- Field WEIGHT of FLT_HW0. -/
def FLT_HW0_WEIGHT : Field := ⟨FLT_HW0, 0, 16⟩
/-- FLT_HW1 (R303). -/
def FLT_HW1 : Reg := ⟨0x2000000 + 0x108, 0x1⟩
/-- Field WEIGHT of FLT_HW1. -/
def FLT_HW1_WEIGHT : Field := ⟨FLT_HW1, 0, 16⟩
/-- FLT_HW2 (R303). -/
def FLT_HW2 : Reg := ⟨0x2000000 + 0x110, 0x400⟩
/-- Field WEIGHT of FLT_HW2. -/
def FLT_HW2_WEIGHT : Field := ⟨FLT_HW2, 0, 16⟩
/-- FLT_HW3 (R303). -/
def FLT_HW3 : Reg := ⟨0x2000000 + 0x118, 0x400⟩
/-- Field WEIGHT of FLT_HW3. -/
def FLT_HW3_WEIGHT : Field := ⟨FLT_HW3, 0, 16⟩
/-- FLT_HW4 (R303). -/
def FLT_HW4 : Reg := ⟨0x2000000 + 0x120, 0x1⟩
/-- Field WEIGHT of FLT_HW4. -/
def FLT_HW4_WEIGHT : Field := ⟨FLT_HW4, 0, 16⟩
/-- FLT_HW5 (R303). -/
def FLT_HW5 : Reg := ⟨0x2000000 + 0x128, 0x400⟩
/-- Field WEIGHT of FLT_HW5. -/
def FLT_HW5_WEIGHT : Field := ⟨FLT_HW5, 0, 16⟩
/-- FLT_HW6 (R303). -/
def FLT_HW6 : Reg := ⟨0x2000000 + 0x130, 0x1⟩
/-- Field WEIGHT of FLT_HW6. -/
def FLT_HW6_WEIGHT : Field := ⟨FLT_HW6, 0, 16⟩
/-- FLT_HW7 (R303). -/
def FLT_HW7 : Reg := ⟨0x2000000 + 0x138, 0x4⟩
/-- Field WEIGHT of FLT_HW7. -/
def FLT_HW7_WEIGHT : Field := ⟨FLT_HW7, 0, 16⟩
/-- FLT_HW8 (R303). -/
def FLT_HW8 : Reg := ⟨0x2000000 + 0x140, 0x100⟩
/-- Field WEIGHT of FLT_HW8. -/
def FLT_HW8_WEIGHT : Field := ⟨FLT_HW8, 0, 16⟩
/-- FLT_HW9 (R303). -/
def FLT_HW9 : Reg := ⟨0x2000000 + 0x148, 0x10⟩
/-- Field WEIGHT of FLT_HW9. -/
def FLT_HW9_WEIGHT : Field := ⟨FLT_HW9, 0, 16⟩
/-- FLT_HW10 (R303). -/
def FLT_HW10 : Reg := ⟨0x2000000 + 0x150, 0x4000⟩
/-- Field WEIGHT of FLT_HW10. -/
def FLT_HW10_WEIGHT : Field := ⟨FLT_HW10, 0, 16⟩
/-- FLT_HW11 (R303). -/
def FLT_HW11 : Reg := ⟨0x2000000 + 0x158, 0x1000⟩
/-- Field WEIGHT of FLT_HW11. -/
def FLT_HW11_WEIGHT : Field := ⟨FLT_HW11, 0, 16⟩
/-- FLT_HW12 (R303). -/
def FLT_HW12 : Reg := ⟨0x2000000 + 0x160, 0x4000⟩
/-- Field WEIGHT of FLT_HW12. -/
def FLT_HW12_WEIGHT : Field := ⟨FLT_HW12, 0, 16⟩
/-- FLT_HW13 (R303). -/
def FLT_HW13 : Reg := ⟨0x2000000 + 0x168, 0x10000⟩
/-- Field WEIGHT of FLT_HW13. -/
def FLT_HW13_WEIGHT : Field := ⟨FLT_HW13, 0, 17⟩
/-- FLT_HW14 (R303). -/
def FLT_HW14 : Reg := ⟨0x2000000 + 0x170, 0x0⟩
/-- Field WEIGHT of FLT_HW14. -/
def FLT_HW14_WEIGHT : Field := ⟨FLT_HW14, 0, 16⟩
/-- FLT_HW15 (R303). -/
def FLT_HW15 : Reg := ⟨0x2000000 + 0x178, 0x0⟩
/-- Field WEIGHT of FLT_HW15. -/
def FLT_HW15_WEIGHT : Field := ⟨FLT_HW15, 0, 16⟩
/-- FLT_SRCn (R303). -/
def FLT_SRCn (i : Nat) : Reg := ⟨0x2000000 + 0x100000 + i * 8, 0x0⟩
/-- Field COUNT of FLT_SRCn. -/
def FLT_SRCn_COUNT (i : Nat) : Field := ⟨FLT_SRCn i, 0, 32⟩
/-- Field STATUS of FLT_SRCn. -/
def FLT_SRCn_STATUS (i : Nat) : Field := ⟨FLT_SRCn i, 32, 1⟩
/-- Field FORCE of FLT_SRCn. -/
def FLT_SRCn_FORCE (i : Nat) : Field := ⟨FLT_SRCn i, 33, 1⟩
/-- Field DOMAIN of FLT_SRCn. -/
def FLT_SRCn_DOMAIN (i : Nat) : Field := ⟨FLT_SRCn i, 34, 3⟩
/-- FLT_RINGe (R303). -/
def FLT_RINGe (i : Nat) : Reg := ⟨0x2000000 + 0x200000 + i * 8, 0x0⟩
/-- MGMT_STATUS (R415). -/
def MGMT_STATUS : Reg := ⟨0, 0x0⟩
/-- Field RESTARTS of MGMT_STATUS. -/
def MGMT_STATUS_RESTARTS : Field := ⟨MGMT_STATUS, 0, 8⟩
/-- Field ROMREC of MGMT_STATUS. -/
def MGMT_STATUS_ROMREC : Field := ⟨MGMT_STATUS, 8, 1⟩
/-- Field DEBUG of MGMT_STATUS. -/
def MGMT_STATUS_DEBUG : Field := ⟨MGMT_STATUS, 9, 1⟩
/-- Field SESSIONS of MGMT_STATUS. -/
def MGMT_STATUS_SESSIONS : Field := ⟨MGMT_STATUS, 10, 4⟩
/-- MGMT_ACL (R415). -/
def MGMT_ACL : Reg := ⟨0 + 0x10, 0x3F⟩
/-- Field ACL of MGMT_ACL. -/
def MGMT_ACL_ACL : Field := ⟨MGMT_ACL, 0, 6⟩
/-- MGMT_MPORT (R415). -/
def MGMT_MPORT : Reg := ⟨0 + 0x18, 0x0⟩
/-- Field ACTIVE of MGMT_MPORT. -/
def MGMT_MPORT_ACTIVE : Field := ⟨MGMT_MPORT, 0, 1⟩
/-- Field LINK0 of MGMT_MPORT. -/
def MGMT_MPORT_LINK0 : Field := ⟨MGMT_MPORT, 1, 1⟩
/-- Field LINK1 of MGMT_MPORT. -/
def MGMT_MPORT_LINK1 : Field := ⟨MGMT_MPORT, 2, 1⟩
/-- Field FAILOVERS of MGMT_MPORT. -/
def MGMT_MPORT_FAILOVERS : Field := ⟨MGMT_MPORT, 3, 16⟩
/-- MGMT_HWINw (R415). -/
def MGMT_HWINw (i : Nat) : Reg := ⟨0 + 0x100 + i * 8, 0x0⟩
/-- Field PART of MGMT_HWINw. -/
def MGMT_HWINw_PART (i : Nat) : Field := ⟨MGMT_HWINw i, 0, 4⟩
/-- Field EN of MGMT_HWINw. -/
def MGMT_HWINw_EN (i : Nat) : Field := ⟨MGMT_HWINw i, 4, 1⟩
/-- Field RIGHTS of MGMT_HWINw. -/
def MGMT_HWINw_RIGHTS (i : Nat) : Field := ⟨MGMT_HWINw i, 5, 4⟩
/-- MGMT_HOST_CTRL (R415). -/
def MGMT_HOST_CTRL : Reg := ⟨0 + 0x200, 0x64050FA0⟩
/-- Field RESET of MGMT_HOST_CTRL. -/
def MGMT_HOST_CTRL_RESET : Field := ⟨MGMT_HOST_CTRL, 0, 1⟩
/-- Field WDOG_EN of MGMT_HOST_CTRL. -/
def MGMT_HOST_CTRL_WDOG_EN : Field := ⟨MGMT_HOST_CTRL, 1, 1⟩
/-- Field WDOG_MS of MGMT_HOST_CTRL. -/
def MGMT_HOST_CTRL_WDOG_MS : Field := ⟨MGMT_HOST_CTRL, 2, 12⟩
/-- Field AUTO_RESET of MGMT_HOST_CTRL. -/
def MGMT_HOST_CTRL_AUTO_RESET : Field := ⟨MGMT_HOST_CTRL, 14, 1⟩
/-- Field ACK_TO of MGMT_HOST_CTRL. -/
def MGMT_HOST_CTRL_ACK_TO : Field := ⟨MGMT_HOST_CTRL, 15, 8⟩
/-- Field HOLD_LIM of MGMT_HOST_CTRL. -/
def MGMT_HOST_CTRL_HOLD_LIM : Field := ⟨MGMT_HOST_CTRL, 23, 12⟩
/-- Field STATE of MGMT_HOST_CTRL. -/
def MGMT_HOST_CTRL_STATE : Field := ⟨MGMT_HOST_CTRL, 35, 3⟩
/-- Field WDOG_KICK of MGMT_HOST_CTRL. -/
def MGMT_HOST_CTRL_WDOG_KICK : Field := ⟨MGMT_HOST_CTRL, 38, 1⟩
/-- MGMT_HBR_ERR_CNT (R415). -/
def MGMT_HBR_ERR_CNT : Reg := ⟨0 + 0x208, 0xFFFFFFFF00000000⟩
/-- Field COUNT of MGMT_HBR_ERR_CNT. -/
def MGMT_HBR_ERR_CNT_COUNT : Field := ⟨MGMT_HBR_ERR_CNT, 0, 32⟩
/-- Field THRESH of MGMT_HBR_ERR_CNT. -/
def MGMT_HBR_ERR_CNT_THRESH : Field := ⟨MGMT_HBR_ERR_CNT, 32, 32⟩
/-- MGMT_HBR_ERR_CAP (R415). -/
def MGMT_HBR_ERR_CAP : Reg := ⟨0 + 0x210, 0x0⟩
/-- Field REASON of MGMT_HBR_ERR_CAP. -/
def MGMT_HBR_ERR_CAP_REASON : Field := ⟨MGMT_HBR_ERR_CAP, 0, 4⟩
/-- Field WIN of MGMT_HBR_ERR_CAP. -/
def MGMT_HBR_ERR_CAP_WIN : Field := ⟨MGMT_HBR_ERR_CAP, 4, 4⟩
/-- Field KIND of MGMT_HBR_ERR_CAP. -/
def MGMT_HBR_ERR_CAP_KIND : Field := ⟨MGMT_HBR_ERR_CAP, 8, 2⟩
/-- Field HCORE of MGMT_HBR_ERR_CAP. -/
def MGMT_HBR_ERR_CAP_HCORE : Field := ⟨MGMT_HBR_ERR_CAP, 10, 5⟩
/-- Field ADDR of MGMT_HBR_ERR_CAP. -/
def MGMT_HBR_ERR_CAP_ADDR : Field := ⟨MGMT_HBR_ERR_CAP, 15, 48⟩
/-- Field VALID of MGMT_HBR_ERR_CAP. -/
def MGMT_HBR_ERR_CAP_VALID : Field := ⟨MGMT_HBR_ERR_CAP, 63, 1⟩
/-- MGMT_IRQn (R415). -/
def MGMT_IRQn (i : Nat) : Reg := ⟨0 + 0x400 + i * 8, 0x0⟩
/-- Field ADDR of MGMT_IRQn. -/
def MGMT_IRQn_ADDR (i : Nat) : Field := ⟨MGMT_IRQn i, 0, 48⟩
/-- Field EIID of MGMT_IRQn. -/
def MGMT_IRQn_EIID (i : Nat) : Field := ⟨MGMT_IRQn i, 48, 11⟩
/-- Field EN of MGMT_IRQn. -/
def MGMT_IRQn_EN (i : Nat) : Field := ⟨MGMT_IRQn i, 63, 1⟩
/-- MGMT_BOOT_STATUS (R334). -/
def MGMT_BOOT_STATUS : Reg := ⟨0 + 0x10000, 0x0⟩
/-- Field PHASE of MGMT_BOOT_STATUS. -/
def MGMT_BOOT_STATUS_PHASE : Field := ⟨MGMT_BOOT_STATUS, 0, 4⟩
/-- Field WAVE of MGMT_BOOT_STATUS. -/
def MGMT_BOOT_STATUS_WAVE : Field := ⟨MGMT_BOOT_STATUS, 4, 3⟩
/-- Field DONE_MS of MGMT_BOOT_STATUS. -/
def MGMT_BOOT_STATUS_DONE_MS : Field := ⟨MGMT_BOOT_STATUS, 32, 32⟩
/-- MGMT_READY_GRV (R334). -/
def MGMT_READY_GRV : Reg := ⟨0 + 0x10008, 0x0⟩
/-- Field READY of MGMT_READY_GRV. -/
def MGMT_READY_GRV_READY : Field := ⟨MGMT_READY_GRV, 0, 36⟩
/-- MGMT_READY_HBM (R334). -/
def MGMT_READY_HBM : Reg := ⟨0 + 0x10010, 0x0⟩
/-- Field READY of MGMT_READY_HBM. -/
def MGMT_READY_HBM_READY : Field := ⟨MGMT_READY_HBM, 0, 50⟩
/-- MGMT_READY_PORT (R334). -/
def MGMT_READY_PORT : Reg := ⟨0 + 0x10018, 0x0⟩
/-- MGMT_READY_MISC (R334). -/
def MGMT_READY_MISC : Reg := ⟨0 + 0x10020, 0x0⟩
/-- Field MGMT of MGMT_READY_MISC. -/
def MGMT_READY_MISC_MGMT : Field := ⟨MGMT_READY_MISC, 0, 1⟩
/-- Field MPORT0 of MGMT_READY_MISC. -/
def MGMT_READY_MISC_MPORT0 : Field := ⟨MGMT_READY_MISC, 1, 1⟩
/-- Field MPORT1 of MGMT_READY_MISC. -/
def MGMT_READY_MISC_MPORT1 : Field := ⟨MGMT_READY_MISC, 2, 1⟩
/-- Field HOST of MGMT_READY_MISC. -/
def MGMT_READY_MISC_HOST : Field := ⟨MGMT_READY_MISC, 3, 1⟩
/-- Field HOSTPATH of MGMT_READY_MISC. -/
def MGMT_READY_MISC_HOSTPATH : Field := ⟨MGMT_READY_MISC, 4, 1⟩
/-- Field RING of MGMT_READY_MISC. -/
def MGMT_READY_MISC_RING : Field := ⟨MGMT_READY_MISC, 5, 1⟩
/-- Field DIST of MGMT_READY_MISC. -/
def MGMT_READY_MISC_DIST : Field := ⟨MGMT_READY_MISC, 6, 1⟩
/-- Field DONE of MGMT_READY_MISC. -/
def MGMT_READY_MISC_DONE : Field := ⟨MGMT_READY_MISC, 7, 1⟩
/-- MGMT_BOOT_COMPAT (R334). -/
def MGMT_BOOT_COMPAT : Reg := ⟨0 + 0x10028, 0x0⟩
/-- Field IMAGE of MGMT_BOOT_COMPAT. -/
def MGMT_BOOT_COMPAT_IMAGE : Field := ⟨MGMT_BOOT_COMPAT, 0, 4⟩
/-- Field VERSION of MGMT_BOOT_COMPAT. -/
def MGMT_BOOT_COMPAT_VERSION : Field := ⟨MGMT_BOOT_COMPAT, 4, 16⟩
/-- Field OTHER_IS_DIE of MGMT_BOOT_COMPAT. -/
def MGMT_BOOT_COMPAT_OTHER_IS_DIE : Field := ⟨MGMT_BOOT_COMPAT, 20, 1⟩
/-- Field OTHER_KIND of MGMT_BOOT_COMPAT. -/
def MGMT_BOOT_COMPAT_OTHER_KIND : Field := ⟨MGMT_BOOT_COMPAT, 24, 4⟩
/-- Field OTHER of MGMT_BOOT_COMPAT. -/
def MGMT_BOOT_COMPAT_OTHER : Field := ⟨MGMT_BOOT_COMPAT, 28, 16⟩
/-- Field VALID of MGMT_BOOT_COMPAT. -/
def MGMT_BOOT_COMPAT_VALID : Field := ⟨MGMT_BOOT_COMPAT, 63, 1⟩
/-- MGMT_TAP_CFG (R334). -/
def MGMT_TAP_CFG : Reg := ⟨0 + 0x10040, 0x0⟩
/-- Field EXT of MGMT_TAP_CFG. -/
def MGMT_TAP_CFG_EXT : Field := ⟨MGMT_TAP_CFG, 0, 1⟩
/-- MGMT_BISTi_RES (R334). -/
def MGMT_BISTi_RES (i : Nat) : Reg := ⟨0 + 0x10100 + i * 16, 0x0⟩
/-- Field RESULT of MGMT_BISTi_RES. -/
def MGMT_BISTi_RES_RESULT (i : Nat) : Field := ⟨MGMT_BISTi_RES i, 0, 4⟩
/-- Field POSFUSE of MGMT_BISTi_RES. -/
def MGMT_BISTi_RES_POSFUSE (i : Nat) : Field := ⟨MGMT_BISTi_RES i, 4, 2⟩
/-- Field FENCED of MGMT_BISTi_RES. -/
def MGMT_BISTi_RES_FENCED (i : Nat) : Field := ⟨MGMT_BISTi_RES i, 6, 1⟩
/-- Field LB_SA of MGMT_BISTi_RES. -/
def MGMT_BISTi_RES_LB_SA (i : Nat) : Field := ⟨MGMT_BISTi_RES i, 8, 10⟩
/-- Field LB_TD of MGMT_BISTi_RES. -/
def MGMT_BISTi_RES_LB_TD (i : Nat) : Field := ⟨MGMT_BISTi_RES i, 18, 10⟩
/-- Field LB_MS of MGMT_BISTi_RES. -/
def MGMT_BISTi_RES_LB_MS (i : Nat) : Field := ⟨MGMT_BISTi_RES i, 28, 12⟩
/-- Field MB_MS of MGMT_BISTi_RES. -/
def MGMT_BISTi_RES_MB_MS (i : Nat) : Field := ⟨MGMT_BISTi_RES i, 40, 12⟩
/-- Field FAILBANK of MGMT_BISTi_RES. -/
def MGMT_BISTi_RES_FAILBANK (i : Nat) : Field := ⟨MGMT_BISTi_RES i, 52, 5⟩
/-- MGMT_BISTi_ID (R334). -/
def MGMT_BISTi_ID (i : Nat) : Reg := ⟨0 + 0x10108 + i * 16, 0x0⟩
/-- Field C_STEP of MGMT_BISTi_ID. -/
def MGMT_BISTi_ID_C_STEP (i : Nat) : Field := ⟨MGMT_BISTi_ID i, 0, 8⟩
/-- Field C_CAPS of MGMT_BISTi_ID. -/
def MGMT_BISTi_ID_C_CAPS (i : Nat) : Field := ⟨MGMT_BISTi_ID i, 8, 6⟩
/-- Field M_STEP of MGMT_BISTi_ID. -/
def MGMT_BISTi_ID_M_STEP (i : Nat) : Field := ⟨MGMT_BISTi_ID i, 16, 8⟩
/-- Field M_CAPS of MGMT_BISTi_ID. -/
def MGMT_BISTi_ID_M_CAPS (i : Nat) : Field := ⟨MGMT_BISTi_ID i, 24, 6⟩
/-- Field FW_RESENDS of MGMT_BISTi_ID. -/
def MGMT_BISTi_ID_FW_RESENDS (i : Nat) : Field := ⟨MGMT_BISTi_ID i, 32, 2⟩
/-- MGMT_BIST_HBMk_0 (R334). -/
def MGMT_BIST_HBMk_0 (i : Nat) : Reg := ⟨0 + 0x12800 + i * 16, 0x0⟩
/-- Field RESULT of MGMT_BIST_HBMk_0. -/
def MGMT_BIST_HBMk_0_RESULT (i : Nat) : Field := ⟨MGMT_BIST_HBMk_0 i, 0, 4⟩
/-- Field LB_SA of MGMT_BIST_HBMk_0. -/
def MGMT_BIST_HBMk_0_LB_SA (i : Nat) : Field := ⟨MGMT_BIST_HBMk_0 i, 8, 10⟩
/-- Field LB_TD of MGMT_BIST_HBMk_0. -/
def MGMT_BIST_HBMk_0_LB_TD (i : Nat) : Field := ⟨MGMT_BIST_HBMk_0 i, 18, 10⟩
/-- Field LB_MS of MGMT_BIST_HBMk_0. -/
def MGMT_BIST_HBMk_0_LB_MS (i : Nat) : Field := ⟨MGMT_BIST_HBMk_0 i, 28, 12⟩
/-- Field TEST_10MS of MGMT_BIST_HBMk_0. -/
def MGMT_BIST_HBMk_0_TEST_10MS (i : Nat) : Field := ⟨MGMT_BIST_HBMk_0 i, 40, 12⟩
/-- MGMT_BIST_HBMk_1 (R334). -/
def MGMT_BIST_HBMk_1 (i : Nat) : Reg := ⟨0 + 0x12808 + i * 16, 0x0⟩
/-- Field STEP of MGMT_BIST_HBMk_1. -/
def MGMT_BIST_HBMk_1_STEP (i : Nat) : Field := ⟨MGMT_BIST_HBMk_1 i, 0, 8⟩
/-- Field STACK_STEP of MGMT_BIST_HBMk_1. -/
def MGMT_BIST_HBMk_1_STACK_STEP (i : Nat) : Field := ⟨MGMT_BIST_HBMk_1 i, 8, 8⟩
/-- Field LANE_FAIL of MGMT_BIST_HBMk_1. -/
def MGMT_BIST_HBMk_1_LANE_FAIL (i : Nat) : Field := ⟨MGMT_BIST_HBMk_1 i, 32, 32⟩
/-- MGMT_BIST_LRIMm_0 (R334). -/
def MGMT_BIST_LRIMm_0 (i : Nat) : Reg := ⟨0 + 0x12C00 + i * 16, 0x0⟩
/-- Field RESULT of MGMT_BIST_LRIMm_0. -/
def MGMT_BIST_LRIMm_0_RESULT (i : Nat) : Field := ⟨MGMT_BIST_LRIMm_0 i, 0, 4⟩
/-- Field LB_SA of MGMT_BIST_LRIMm_0. -/
def MGMT_BIST_LRIMm_0_LB_SA (i : Nat) : Field := ⟨MGMT_BIST_LRIMm_0 i, 8, 10⟩
/-- Field LB_TD of MGMT_BIST_LRIMm_0. -/
def MGMT_BIST_LRIMm_0_LB_TD (i : Nat) : Field := ⟨MGMT_BIST_LRIMm_0 i, 18, 10⟩
/-- Field LB_MS of MGMT_BIST_LRIMm_0. -/
def MGMT_BIST_LRIMm_0_LB_MS (i : Nat) : Field := ⟨MGMT_BIST_LRIMm_0 i, 28, 12⟩
/-- Field TEST_10MS of MGMT_BIST_LRIMm_0. -/
def MGMT_BIST_LRIMm_0_TEST_10MS (i : Nat) : Field := ⟨MGMT_BIST_LRIMm_0 i, 40, 12⟩
/-- MGMT_BIST_LRIMm_1 (R334). -/
def MGMT_BIST_LRIMm_1 (i : Nat) : Reg := ⟨0 + 0x12C08 + i * 16, 0x0⟩
/-- Field STEP of MGMT_BIST_LRIMm_1. -/
def MGMT_BIST_LRIMm_1_STEP (i : Nat) : Field := ⟨MGMT_BIST_LRIMm_1 i, 0, 8⟩
/-- Field STACK_STEP of MGMT_BIST_LRIMm_1. -/
def MGMT_BIST_LRIMm_1_STACK_STEP (i : Nat) : Field := ⟨MGMT_BIST_LRIMm_1 i, 8, 8⟩
/-- Field LANE_FAIL of MGMT_BIST_LRIMm_1. -/
def MGMT_BIST_LRIMm_1_LANE_FAIL (i : Nat) : Field := ⟨MGMT_BIST_LRIMm_1 i, 32, 32⟩
/-- MGMT_BIST_HOST_0 (R334). -/
def MGMT_BIST_HOST_0 : Reg := ⟨0 + 0x12D00, 0x0⟩
/-- Field RESULT of MGMT_BIST_HOST_0. -/
def MGMT_BIST_HOST_0_RESULT : Field := ⟨MGMT_BIST_HOST_0, 0, 4⟩
/-- Field LB_SA of MGMT_BIST_HOST_0. -/
def MGMT_BIST_HOST_0_LB_SA : Field := ⟨MGMT_BIST_HOST_0, 8, 10⟩
/-- Field LB_TD of MGMT_BIST_HOST_0. -/
def MGMT_BIST_HOST_0_LB_TD : Field := ⟨MGMT_BIST_HOST_0, 18, 10⟩
/-- Field LB_MS of MGMT_BIST_HOST_0. -/
def MGMT_BIST_HOST_0_LB_MS : Field := ⟨MGMT_BIST_HOST_0, 28, 12⟩
/-- Field TEST_10MS of MGMT_BIST_HOST_0. -/
def MGMT_BIST_HOST_0_TEST_10MS : Field := ⟨MGMT_BIST_HOST_0, 40, 12⟩
/-- MGMT_BIST_HOST_1 (R334). -/
def MGMT_BIST_HOST_1 : Reg := ⟨0 + 0x12D08, 0x0⟩
/-- Field STEP of MGMT_BIST_HOST_1. -/
def MGMT_BIST_HOST_1_STEP : Field := ⟨MGMT_BIST_HOST_1, 0, 8⟩
/-- Field STACK_STEP of MGMT_BIST_HOST_1. -/
def MGMT_BIST_HOST_1_STACK_STEP : Field := ⟨MGMT_BIST_HOST_1, 8, 8⟩
/-- Field LANE_FAIL of MGMT_BIST_HOST_1. -/
def MGMT_BIST_HOST_1_LANE_FAIL : Field := ⟨MGMT_BIST_HOST_1, 32, 32⟩
/-- MGMT_UPD_SLOTk (R415). -/
def MGMT_UPD_SLOTk (i : Nat) : Reg := ⟨0 + 0x20008 + i * 8, 0x0⟩
/-- Field A_STATE of MGMT_UPD_SLOTk. -/
def MGMT_UPD_SLOTk_A_STATE (i : Nat) : Field := ⟨MGMT_UPD_SLOTk i, 0, 2⟩
/-- Field B_STATE of MGMT_UPD_SLOTk. -/
def MGMT_UPD_SLOTk_B_STATE (i : Nat) : Field := ⟨MGMT_UPD_SLOTk i, 2, 2⟩
/-- Field RUNNING of MGMT_UPD_SLOTk. -/
def MGMT_UPD_SLOTk_RUNNING (i : Nat) : Field := ⟨MGMT_UPD_SLOTk i, 4, 1⟩
/-- Field PREF of MGMT_UPD_SLOTk. -/
def MGMT_UPD_SLOTk_PREF (i : Nat) : Field := ⟨MGMT_UPD_SLOTk i, 5, 1⟩
/-- Field TRIAL of MGMT_UPD_SLOTk. -/
def MGMT_UPD_SLOTk_TRIAL (i : Nat) : Field := ⟨MGMT_UPD_SLOTk i, 6, 1⟩
/-- Field TRIES of MGMT_UPD_SLOTk. -/
def MGMT_UPD_SLOTk_TRIES (i : Nat) : Field := ⟨MGMT_UPD_SLOTk i, 7, 2⟩
/-- Field VERIFY_ERR of MGMT_UPD_SLOTk. -/
def MGMT_UPD_SLOTk_VERIFY_ERR (i : Nat) : Field := ⟨MGMT_UPD_SLOTk i, 9, 4⟩
/-- Field A_VER of MGMT_UPD_SLOTk. -/
def MGMT_UPD_SLOTk_A_VER (i : Nat) : Field := ⟨MGMT_UPD_SLOTk i, 16, 16⟩
/-- Field B_VER of MGMT_UPD_SLOTk. -/
def MGMT_UPD_SLOTk_B_VER (i : Nat) : Field := ⟨MGMT_UPD_SLOTk i, 32, 16⟩
/-- MGMT_LOG_HEAD (R415). -/
def MGMT_LOG_HEAD : Reg := ⟨0 + 0x30000, 0x0⟩
/-- Field LSEQ of MGMT_LOG_HEAD. -/
def MGMT_LOG_HEAD_LSEQ : Field := ⟨MGMT_LOG_HEAD, 0, 32⟩
/-- MGMT_LOG_OLDEST (R415). -/
def MGMT_LOG_OLDEST : Reg := ⟨0 + 0x30008, 0x0⟩
/-- Field LSEQ of MGMT_LOG_OLDEST. -/
def MGMT_LOG_OLDEST_LSEQ : Field := ⟨MGMT_LOG_OLDEST, 0, 32⟩
/-- MGMT_LOG_LOST (R415). -/
def MGMT_LOG_LOST : Reg := ⟨0 + 0x30010, 0xFFFFFFFF00000000⟩
/-- Field COUNT of MGMT_LOG_LOST. -/
def MGMT_LOG_LOST_COUNT : Field := ⟨MGMT_LOG_LOST, 0, 32⟩
/-- Field THRESH of MGMT_LOG_LOST. -/
def MGMT_LOG_LOST_THRESH : Field := ⟨MGMT_LOG_LOST, 32, 32⟩
/-- MGMT_LOG_SEL (R415). -/
def MGMT_LOG_SEL : Reg := ⟨0 + 0x30018, 0x0⟩
/-- Field LSEQ of MGMT_LOG_SEL. -/
def MGMT_LOG_SEL_LSEQ : Field := ⟨MGMT_LOG_SEL, 0, 32⟩
/-- MGMT_LOG_DATAi (R415). -/
def MGMT_LOG_DATAi (i : Nat) : Reg := ⟨0 + 0x30040 + i * 8, 0x0⟩
/-- MGMT_PARTp_CFG (R275). -/
def MGMT_PARTp_CFG (p : Nat) : Reg := ⟨partBase p, 0x1F41000000000⟩
/-- Field GRVS of MGMT_PARTp_CFG. -/
def MGMT_PARTp_CFG_GRVS (p : Nat) : Field := ⟨MGMT_PARTp_CFG p, 0, 36⟩
/-- Field GRAN of MGMT_PARTp_CFG. -/
def MGMT_PARTp_CFG_GRAN (p : Nat) : Field := ⟨MGMT_PARTp_CFG p, 36, 2⟩
/-- Field MIN_DUTY of MGMT_PARTp_CFG. -/
def MGMT_PARTp_CFG_MIN_DUTY (p : Nat) : Field := ⟨MGMT_PARTp_CFG p, 40, 12⟩
/-- MGMT_PARTp_HBMSET (R275). -/
def MGMT_PARTp_HBMSET (p : Nat) : Reg := ⟨partBase p + 0x8, 0x0⟩
/-- Field SET of MGMT_PARTp_HBMSET. -/
def MGMT_PARTp_HBMSET_SET (p : Nat) : Field := ⟨MGMT_PARTp_HBMSET p, 0, 48⟩
/-- MGMT_PARTp_GRANT (R275). -/
def MGMT_PARTp_GRANT (p : Nat) : Reg := ⟨partBase p + 0x10, 0x0⟩
/-- Field GBASE of MGMT_PARTp_GRANT. -/
def MGMT_PARTp_GRANT_GBASE (p : Nat) : Field := ⟨MGMT_PARTp_GRANT p, 0, 15⟩
/-- Field GLIMIT of MGMT_PARTp_GRANT. -/
def MGMT_PARTp_GRANT_GLIMIT (p : Nat) : Field := ⟨MGMT_PARTp_GRANT p, 16, 15⟩
/-- MGMT_PARTp_CKPT (R275). -/
def MGMT_PARTp_CKPT (p : Nat) : Reg := ⟨partBase p + 0x18, 0x0⟩
/-- Field BASE of MGMT_PARTp_CKPT. -/
def MGMT_PARTp_CKPT_BASE (p : Nat) : Field := ⟨MGMT_PARTp_CKPT p, 0, 41⟩
/-- Field VALID of MGMT_PARTp_CKPT. -/
def MGMT_PARTp_CKPT_VALID (p : Nat) : Field := ⟨MGMT_PARTp_CKPT p, 63, 1⟩
/-- MGMT_PARTp_IMAGE (R275). -/
def MGMT_PARTp_IMAGE (p : Nat) : Reg := ⟨partBase p + 0x20, 0x0⟩
/-- Field ADDR of MGMT_PARTp_IMAGE. -/
def MGMT_PARTp_IMAGE_ADDR (p : Nat) : Field := ⟨MGMT_PARTp_IMAGE p, 0, 48⟩
/-- MGMT_PARTp_CMD (R275). -/
def MGMT_PARTp_CMD (p : Nat) : Reg := ⟨partBase p + 0x28, 0x0⟩
/-- Field OP of MGMT_PARTp_CMD. -/
def MGMT_PARTp_CMD_OP (p : Nat) : Field := ⟨MGMT_PARTp_CMD p, 0, 4⟩
/-- MGMT_PARTp_STATUS (R275). -/
def MGMT_PARTp_STATUS (p : Nat) : Reg := ⟨partBase p + 0x30, 0x0⟩
/-- Field STATE of MGMT_PARTp_STATUS. -/
def MGMT_PARTp_STATUS_STATE (p : Nat) : Field := ⟨MGMT_PARTp_STATUS p, 0, 3⟩
/-- Field BUSY of MGMT_PARTp_STATUS. -/
def MGMT_PARTp_STATUS_BUSY (p : Nat) : Field := ⟨MGMT_PARTp_STATUS p, 3, 1⟩
/-- Field COVERING of MGMT_PARTp_STATUS. -/
def MGMT_PARTp_STATUS_COVERING (p : Nat) : Field := ⟨MGMT_PARTp_STATUS p, 4, 1⟩
/-- Field ERR of MGMT_PARTp_STATUS. -/
def MGMT_PARTp_STATUS_ERR (p : Nat) : Field := ⟨MGMT_PARTp_STATUS p, 5, 1⟩
/-- Field FLOOR_LOW of MGMT_PARTp_STATUS. -/
def MGMT_PARTp_STATUS_FLOOR_LOW (p : Nat) : Field := ⟨MGMT_PARTp_STATUS p, 6, 1⟩
/-- MGMT_PARTp_LOADERR (R275). -/
def MGMT_PARTp_LOADERR (p : Nat) : Reg := ⟨partBase p + 0x38, 0x0⟩
/-- Field CAUSE of MGMT_PARTp_LOADERR. -/
def MGMT_PARTp_LOADERR_CAUSE (p : Nat) : Field := ⟨MGMT_PARTp_LOADERR p, 0, 4⟩
/-- Field SECTION of MGMT_PARTp_LOADERR. -/
def MGMT_PARTp_LOADERR_SECTION (p : Nat) : Field := ⟨MGMT_PARTp_LOADERR p, 4, 4⟩
/-- Field RECORD of MGMT_PARTp_LOADERR. -/
def MGMT_PARTp_LOADERR_RECORD (p : Nat) : Field := ⟨MGMT_PARTp_LOADERR p, 32, 32⟩
/-- MGMT_PARTp_COVERw (R275). -/
def MGMT_PARTp_COVERw (p : Nat) (i : Nat) : Reg := ⟨partBase p + 0x40 + i * 8, 0x0⟩
/-- MGMT_PARTp_FPOL (R304). -/
def MGMT_PARTp_FPOL (p : Nat) : Reg := ⟨partBase p + 0x88, 0x2⟩
/-- Field MEMPOL of MGMT_PARTp_FPOL. -/
def MGMT_PARTp_FPOL_MEMPOL (p : Nat) : Field := ⟨MGMT_PARTp_FPOL p, 0, 1⟩
/-- Field AUTO of MGMT_PARTp_FPOL. -/
def MGMT_PARTp_FPOL_AUTO (p : Nat) : Field := ⟨MGMT_PARTp_FPOL p, 1, 1⟩
/-- MGMT_PARTp_FSTAT (R304). -/
def MGMT_PARTp_FSTAT (p : Nat) : Reg := ⟨partBase p + 0x90, 0x0⟩
/-- Field JOBDEAD of MGMT_PARTp_FSTAT. -/
def MGMT_PARTp_FSTAT_JOBDEAD (p : Nat) : Field := ⟨MGMT_PARTp_FSTAT p, 0, 1⟩
/-- Field STALE of MGMT_PARTp_FSTAT. -/
def MGMT_PARTp_FSTAT_STALE (p : Nat) : Field := ⟨MGMT_PARTp_FSTAT p, 1, 1⟩
/-- Field STACK_LOST of MGMT_PARTp_FSTAT. -/
def MGMT_PARTp_FSTAT_STACK_LOST (p : Nat) : Field := ⟨MGMT_PARTp_FSTAT p, 2, 1⟩
/-- Field NOBOUNDARY of MGMT_PARTp_FSTAT. -/
def MGMT_PARTp_FSTAT_NOBOUNDARY (p : Nat) : Field := ⟨MGMT_PARTp_FSTAT p, 3, 1⟩
/-- Field RECOVERIES of MGMT_PARTp_FSTAT. -/
def MGMT_PARTp_FSTAT_RECOVERIES (p : Nat) : Field := ⟨MGMT_PARTp_FSTAT p, 16, 16⟩
/-- Field RESTART_N of MGMT_PARTp_FSTAT. -/
def MGMT_PARTp_FSTAT_RESTART_N (p : Nat) : Field := ⟨MGMT_PARTp_FSTAT p, 32, 32⟩
/-- MGMT_PARTp_RTIME (R304). -/
def MGMT_PARTp_RTIME (p : Nat) : Reg := ⟨partBase p + 0x98, 0x0⟩
/-- Field US of MGMT_PARTp_RTIME. -/
def MGMT_PARTp_RTIME_US (p : Nat) : Field := ⟨MGMT_PARTp_RTIME p, 0, 32⟩
/-- CLK_CFG (R349). -/
def CLK_CFG : Reg := ⟨0x1200000, 0xC815⟩
/-- Field AUTO_RETURN of CLK_CFG. -/
def CLK_CFG_AUTO_RETURN : Field := ⟨CLK_CFG, 0, 1⟩
/-- Field RETURN_S of CLK_CFG. -/
def CLK_CFG_RETURN_S : Field := ⟨CLK_CFG, 1, 8⟩
/-- Field LEAD_US of CLK_CFG. -/
def CLK_CFG_LEAD_US : Field := ⟨CLK_CFG, 9, 14⟩
/-- CLK_STATUS (R349). -/
def CLK_STATUS : Reg := ⟨0x1200000 + 0x8, 0x20⟩
/-- Field SOURCE of CLK_STATUS. -/
def CLK_STATUS_SOURCE : Field := ⟨CLK_STATUS, 0, 2⟩
/-- Field REF_OK of CLK_STATUS. -/
def CLK_STATUS_REF_OK : Field := ⟨CLK_STATUS, 2, 1⟩
/-- Field BACKUP_OK of CLK_STATUS. -/
def CLK_STATUS_BACKUP_OK : Field := ⟨CLK_STATUS, 3, 1⟩
/-- Field OPP of CLK_STATUS. -/
def CLK_STATUS_OPP : Field := ⟨CLK_STATUS, 4, 2⟩
/-- CLK_REFCOUNT (R349). -/
def CLK_REFCOUNT : Reg := ⟨0x1200000 + 0x10, 0x0⟩
/-- CLK_OPP_CMD (R349). -/
def CLK_OPP_CMD : Reg := ⟨0x1200000 + 0x18, 0x0⟩
/-- Field TARGET of CLK_OPP_CMD. -/
def CLK_OPP_CMD_TARGET : Field := ⟨CLK_OPP_CMD, 0, 2⟩
/-- CLK_OPP_STATUS (R349). -/
def CLK_OPP_STATUS : Reg := ⟨0x1200000 + 0x20, 0x0⟩
/-- Field BUSY of CLK_OPP_STATUS. -/
def CLK_OPP_STATUS_BUSY : Field := ⟨CLK_OPP_STATUS, 0, 1⟩
/-- Field ERR of CLK_OPP_STATUS. -/
def CLK_OPP_STATUS_ERR : Field := ⟨CLK_OPP_STATUS, 1, 1⟩
/-- Field CAUSE of CLK_OPP_STATUS. -/
def CLK_OPP_STATUS_CAUSE : Field := ⟨CLK_OPP_STATUS, 2, 3⟩
/-- Field TARGET of CLK_OPP_STATUS. -/
def CLK_OPP_STATUS_TARGET : Field := ⟨CLK_OPP_STATUS, 5, 2⟩
/-- CLK_OPP_T (R349). -/
def CLK_OPP_T : Reg := ⟨0x1200000 + 0x28, 0x0⟩
/-- CLK_HOLD_CNT (R349). -/
def CLK_HOLD_CNT : Reg := ⟨0x1200000 + 0x30, 0xFFFFFFFF00000000⟩
/-- Field COUNT of CLK_HOLD_CNT. -/
def CLK_HOLD_CNT_COUNT : Field := ⟨CLK_HOLD_CNT, 0, 32⟩
/-- Field THRESH of CLK_HOLD_CNT. -/
def CLK_HOLD_CNT_THRESH : Field := ⟨CLK_HOLD_CNT, 32, 32⟩
/-- PWR_CFG (R369). -/
def PWR_CFG : Reg := ⟨0x1000000, 0x4960AC0⟩
/-- Field FLOOR of PWR_CFG. -/
def PWR_CFG_FLOOR : Field := ⟨PWR_CFG, 0, 8⟩
/-- Field AVG_TAU of PWR_CFG. -/
def PWR_CFG_AVG_TAU : Field := ⟨PWR_CFG, 8, 8⟩
/-- Field SLEW of PWR_CFG. -/
def PWR_CFG_SLEW : Field := ⟨PWR_CFG, 16, 9⟩
/-- Field CLASS of PWR_CFG. -/
def PWR_CFG_CLASS : Field := ⟨PWR_CFG, 25, 2⟩
/-- PWR_CAP (R369). -/
def PWR_CAP : Reg := ⟨0x1000000 + 0x8, 0x36B03A9836B0⟩
/-- Field CAP_W of PWR_CAP. -/
def PWR_CAP_CAP_W : Field := ⟨PWR_CAP, 0, 16⟩
/-- Field THERM_CAP of PWR_CAP. -/
def PWR_CAP_THERM_CAP : Field := ⟨PWR_CAP, 16, 16⟩
/-- Field EFF_CAP of PWR_CAP. -/
def PWR_CAP_EFF_CAP : Field := ⟨PWR_CAP, 32, 16⟩
/-- PWR_STATUS (R369). -/
def PWR_STATUS : Reg := ⟨0x1000000 + 0x10, 0x4000000000000⟩
/-- Field VIN of PWR_STATUS. -/
def PWR_STATUS_VIN : Field := ⟨PWR_STATUS, 0, 16⟩
/-- Field VBUS of PWR_STATUS. -/
def PWR_STATUS_VBUS : Field := ⟨PWR_STATUS, 16, 14⟩
/-- Field SOC of PWR_STATUS. -/
def PWR_STATUS_SOC : Field := ⟨PWR_STATUS, 30, 7⟩
/-- Field FE_OK of PWR_STATUS. -/
def PWR_STATUS_FE_OK : Field := ⟨PWR_STATUS, 37, 8⟩
/-- Field CAPPED of PWR_STATUS. -/
def PWR_STATUS_CAPPED : Field := ⟨PWR_STATUS, 45, 1⟩
/-- Field FLOOR_ACT of PWR_STATUS. -/
def PWR_STATUS_FLOOR_ACT : Field := ⟨PWR_STATUS, 46, 1⟩
/-- Field SLEW_LIM of PWR_STATUS. -/
def PWR_STATUS_SLEW_LIM : Field := ⟨PWR_STATUS, 47, 1⟩
/-- Field OPP_HELD of PWR_STATUS. -/
def PWR_STATUS_OPP_HELD : Field := ⟨PWR_STATUS, 48, 1⟩
/-- Field HOST_OPP of PWR_STATUS. -/
def PWR_STATUS_HOST_OPP : Field := ⟨PWR_STATUS, 49, 2⟩
/-- PWR_POWER (R369). -/
def PWR_POWER : Reg := ⟨0x1000000 + 0x18, 0x0⟩
/-- Field PIN of PWR_POWER. -/
def PWR_POWER_PIN : Field := ⟨PWR_POWER, 0, 16⟩
/-- Field AVG of PWR_POWER. -/
def PWR_POWER_AVG : Field := ⟨PWR_POWER, 16, 16⟩
/-- Field FLOOR_W of PWR_POWER. -/
def PWR_POWER_FLOOR_W : Field := ⟨PWR_POWER, 32, 16⟩
/-- Field BALLAST of PWR_POWER. -/
def PWR_POWER_BALLAST : Field := ⟨PWR_POWER, 48, 16⟩
/-- PWR_ENV_CNT (R369). -/
def PWR_ENV_CNT : Reg := ⟨0x1000000 + 0x20, 0xFFFFFFFF00000000⟩
/-- Field COUNT of PWR_ENV_CNT. -/
def PWR_ENV_CNT_COUNT : Field := ⟨PWR_ENV_CNT, 0, 32⟩
/-- Field THRESH of PWR_ENV_CNT. -/
def PWR_ENV_CNT_THRESH : Field := ⟨PWR_ENV_CNT, 32, 32⟩
/-- PWR_ENV_CAP (R369). -/
def PWR_ENV_CAP : Reg := ⟨0x1000000 + 0x28, 0x0⟩
/-- Field CAUSE of PWR_ENV_CAP. -/
def PWR_ENV_CAP_CAUSE : Field := ⟨PWR_ENV_CAP, 0, 3⟩
/-- Field PIN of PWR_ENV_CAP. -/
def PWR_ENV_CAP_PIN : Field := ⟨PWR_ENV_CAP, 3, 16⟩
/-- Field VALID of PWR_ENV_CAP. -/
def PWR_ENV_CAP_VALID : Field := ⟨PWR_ENV_CAP, 63, 1⟩
/-- PWR_SEGr (R369). -/
def PWR_SEGr (i : Nat) : Reg := ⟨0x1000000 + 0x100 + i * 8, 0x2080208⟩
/-- Field FREE of PWR_SEGr. -/
def PWR_SEGr_FREE (i : Nat) : Field := ⟨PWR_SEGr i, 0, 16⟩
/-- Field SIZE of PWR_SEGr. -/
def PWR_SEGr_SIZE (i : Nat) : Field := ⟨PWR_SEGr i, 16, 16⟩
/-- Field WAITING of PWR_SEGr. -/
def PWR_SEGr_WAITING (i : Nat) : Field := ⟨PWR_SEGr i, 32, 6⟩
/-- THM_CFG (R385). -/
def THM_CFG : Reg := ⟨0x1100000, 0xF00C8140553CA⟩
/-- Field MODE of THM_CFG. -/
def THM_CFG_MODE : Field := ⟨THM_CFG, 0, 1⟩
/-- Field T_THROT of THM_CFG. -/
def THM_CFG_T_THROT : Field := ⟨THM_CFG, 1, 7⟩
/-- Field HYST of THM_CFG. -/
def THM_CFG_HYST : Field := ⟨THM_CFG, 8, 4⟩
/-- Field COMP_MARGIN of THM_CFG. -/
def THM_CFG_COMP_MARGIN : Field := ⟨THM_CFG, 12, 4⟩
/-- Field OUT_SLOPE of THM_CFG. -/
def THM_CFG_OUT_SLOPE : Field := ⟨THM_CFG, 16, 8⟩
/-- Field JRATE of THM_CFG. -/
def THM_CFG_JRATE : Field := ⟨THM_CFG, 24, 8⟩
/-- Field DP_MIN of THM_CFG. -/
def THM_CFG_DP_MIN : Field := ⟨THM_CFG, 32, 16⟩
/-- Field TREND_PCT of THM_CFG. -/
def THM_CFG_TREND_PCT : Field := ⟨THM_CFG, 48, 7⟩
/-- THM_STATUS (R385). -/
def THM_STATUS : Reg := ⟨0x1100000 + 0x8, 0x6⟩
/-- Field THROTTLED of THM_STATUS. -/
def THM_STATUS_THROTTLED : Field := ⟨THM_STATUS, 0, 1⟩
/-- Field TOPP of THM_STATUS. -/
def THM_STATUS_TOPP : Field := ⟨THM_STATUS, 1, 2⟩
/-- Field FLOW_LOST of THM_STATUS. -/
def THM_STATUS_FLOW_LOST : Field := ⟨THM_STATUS, 3, 1⟩
/-- Field SHUTDOWN of THM_STATUS. -/
def THM_STATUS_SHUTDOWN : Field := ⟨THM_STATUS, 4, 1⟩
/-- Field INLET_HIGH of THM_STATUS. -/
def THM_STATUS_INLET_HIGH : Field := ⟨THM_STATUS, 5, 1⟩
/-- Field RTH_TREND of THM_STATUS. -/
def THM_STATUS_RTH_TREND : Field := ⟨THM_STATUS, 6, 1⟩
/-- Field HOT_GRV of THM_STATUS. -/
def THM_STATUS_HOT_GRV : Field := ⟨THM_STATUS, 7, 6⟩
/-- THM_COOLANT (R385). -/
def THM_COOLANT : Reg := ⟨0x1100000 + 0x10, 0x0⟩
/-- Field T_IN of THM_COOLANT. -/
def THM_COOLANT_T_IN : Field := ⟨THM_COOLANT, 0, 12⟩
/-- Field T_OUT of THM_COOLANT. -/
def THM_COOLANT_T_OUT : Field := ⟨THM_COOLANT, 16, 12⟩
/-- Field DP of THM_COOLANT. -/
def THM_COOLANT_DP : Field := ⟨THM_COOLANT, 32, 16⟩
/-- Field FLOW of THM_COOLANT. -/
def THM_COOLANT_FLOW : Field := ⟨THM_COOLANT, 48, 16⟩
/-- THM_PANEL (R385). -/
def THM_PANEL : Reg := ⟨0x1100000 + 0x18, 0x0⟩
/-- Field PRED of THM_PANEL. -/
def THM_PANEL_PRED : Field := ⟨THM_PANEL, 0, 12⟩
/-- Field HS_MAX of THM_PANEL. -/
def THM_PANEL_HS_MAX : Field := ⟨THM_PANEL, 16, 12⟩
/-- Field RTH of THM_PANEL. -/
def THM_PANEL_RTH : Field := ⟨THM_PANEL, 32, 16⟩
/-- DESC_MAGIC (R34). -/
def DESC_MAGIC : Reg := ⟨0x600000000, 0x0⟩
/-- DESC_GEN (R34). -/
def DESC_GEN : Reg := ⟨0x600000000 + 0x8, 0x0⟩
/-- DESC_IDENT (R34). -/
def DESC_IDENT : Reg := ⟨0x600000000 + 0x10, 0x0⟩
/-- DESC_SERIAL (R34). -/
def DESC_SERIAL : Reg := ⟨0x600000000 + 0x18, 0x0⟩
/-- DESC_COUNTS (R34). -/
def DESC_COUNTS : Reg := ⟨0x600000000 + 0x20, 0x0⟩
/-- DESC_COUNTS2 (R34). -/
def DESC_COUNTS2 : Reg := ⟨0x600000000 + 0x28, 0x0⟩
/-- DESC_GRV_EN (R34). -/
def DESC_GRV_EN : Reg := ⟨0x600000000 + 0x40, 0x0⟩
/-- DESC_HBM_EN (R34). -/
def DESC_HBM_EN : Reg := ⟨0x600000000 + 0x48, 0x0⟩
/-- DESC_PORT_EN (R34). -/
def DESC_PORT_EN : Reg := ⟨0x600000000 + 0x50, 0x0⟩
/-- DESC_ETH_CAP (R34). -/
def DESC_ETH_CAP : Reg := ⟨0x600000000 + 0x58, 0x0⟩
/-- DESC_FEATURES (R34). -/
def DESC_FEATURES : Reg := ⟨0x600000000 + 0x60, 0x0⟩
/-- DESC_OPPOINTS (R34). -/
def DESC_OPPOINTS : Reg := ⟨0x600000000 + 0x68, 0x0⟩
/-- DESC_POWER_MAX (R34). -/
def DESC_POWER_MAX : Reg := ⟨0x600000000 + 0x70, 0x0⟩
/-- DESC_SLOT_EN (R34). -/
def DESC_SLOT_EN (i : Nat) : Reg := ⟨0x600000000 + 0x80 + i * 8, 0x0⟩
/-- DESC_LGRV (R34). -/
def DESC_LGRV (i : Nat) : Reg := ⟨0x600000000 + 0xC0 + i * 8, 0x0⟩
/-- DESC_POS_STATUS (R34). -/
def DESC_POS_STATUS (i : Nat) : Reg := ⟨0x600000000 + 0x100 + i * 8, 0x0⟩
/-- DESC_POS_MAP (R34). -/
def DESC_POS_MAP (i : Nat) : Reg := ⟨0x600000000 + 0x400 + i * 8, 0x0⟩
/-- DESC_REV_MAP (R34). -/
def DESC_REV_MAP (i : Nat) : Reg := ⟨0x600000000 + 0x800 + i * 8, 0x0⟩
/-- DESC_DIST (R34). -/
def DESC_DIST (i : Nat) : Reg := ⟨0x600000000 + 0x10000 + i * 8, 0x0⟩

end Sys2Proof.Machine
end

