-- ==== Sys2Proof/Machine/Ops.lean ====
section
/-! DEFINITION. The named operations that the meanings share: time, positions and partitions, control-space registers,
memories, counters and captures (R134), fault records (R281), the event log (R389), interrupts (R412), sync messages,
credits, and how a meaning answers. -/

namespace Sys2Proof.Machine

/-! ## Positions (R14 to R24) -/

/-- Position index of (x, y) (R14). -/
def posIndex (x y : Nat) : Nat := y * 24 + x
/-- Physical x of a position. -/
def posX (pos : Nat) : Nat := pos % 24
/-- Physical y of a position. -/
def posY (pos : Nat) : Nat := pos / 24
/-- Grove of a position (R14). -/
def groveOf (pos : Nat) : Nat := (posY pos / 4) * 6 + posX pos / 4
/-- Local index of a position in its grove (R14). -/
def localIdx (pos : Nat) : Nat := posX pos % 4 + 4 * (posY pos % 4)
/-- Position of local index `t` of grove `g` (R14). -/
def posOfGrove (g t : Nat) : Nat := posIndex ((g % 6) * 4 + t % 4) ((g / 6) * 4 + t / 4)
/-- Core key: eight cores per position. -/
def coreKey (pos core : Nat) : Nat := pos * 8 + core
end Sys2Proof.Machine

/-- Key of a core named by a command. -/
def Sys2Proof.CoreId.key (c : Sys2Proof.CoreId) : Nat := Sys2Proof.Machine.coreKey c.pos c.core

namespace Sys2Proof.Machine

/-- The position one step in a direction (0 north, 1 east, 2 south, 3 west), if it is on the grid. -/
def stepPos (pos dir : Nat) : Option Nat :=
  let x := posX pos
  let y := posY pos
  match dir with
  | 0 => if y < 23 then some (posIndex x (y + 1)) else none
  | 1 => if x < 23 then some (posIndex (x + 1) y) else none
  | 2 => if 0 < y then some (posIndex x (y - 1)) else none
  | 3 => if 0 < x then some (posIndex (x - 1) y) else none
  | _ => none

/-- Whether a position is on the side of a direction. -/
def onSide (pos dir : Nat) : Bool :=
  match dir with
  | 0 => posY pos = 23
  | 1 => posX pos = 23
  | 2 => posY pos = 0
  | 3 => posX pos = 0
  | _ => false

/-- Side code of R16's tables (south 0, east 1, north 2, west 3) of a direction. -/
def sideOf (dir : Nat) : Nat :=
  match dir with
  | 0 => 2
  | 1 => 1
  | 2 => 0
  | _ => 3

/-- Edge position number of a position on a side (R16). -/
def edgeOf (pos dir : Nat) : Nat := if dir = 0 ∨ dir = 2 then posX pos else posY pos

/-- The H-rim die that an edge position faces on a side (R16). -/
def hrimOf (pos dir : Nat) : Nat := 12 * sideOf dir + edgeOf pos dir / 2
/-- The L-rim die that an edge position faces on a side (R16). -/
def lrimOf (pos dir : Nat) : Nat := 4 * sideOf dir + edgeOf pos dir / 6

/-- The direction of the side of rim die code `side` (0 south, 1 east, 2 north, 3 west). -/
def dirOfSide (side : Nat) : Nat :=
  match side with
  | 0 => 2
  | 1 => 1
  | 2 => 0
  | _ => 3

/-- Edge position `e` of a side (R16). -/
def edgePos (side e : Nat) : Nat :=
  match side with
  | 0 => posIndex e 0
  | 1 => posIndex 23 e
  | 2 => posIndex e 23
  | _ => posIndex 0 e

/-- The two attachment positions of compute stack `k` (R16). -/
def attachPos (k : Nat) : List Nat := [edgePos (k / 12) (2 * (k % 12)), edgePos (k / 12) (2 * (k % 12) + 1)]
/-- The six attachment positions of L-rim die `m` (R16). -/
def lrimPos (m : Nat) : List Nat := (List.range 6).map (fun i => edgePos (m / 4) (6 * (m % 4) + i))

/-- The grove in a direction, if there is one. -/
def groveStep (g dir : Nat) : Option Nat :=
  match dir with
  | 0 => if g / 6 < 5 then some (g + 6) else none
  | 1 => if g % 6 < 5 then some (g + 1) else none
  | 2 => if 6 ≤ g then some (g - 6) else none
  | _ => if 0 < g % 6 then some (g - 1) else none

/-! ## Time (R336 to R344) -/

/-- Arithmetic cycles in ten reference counts at an operating point: 400, 600, 800, 880 MHz against 100 MHz. -/
def oppRatio (opp : Nat) : Nat :=
  match opp with
  | 0 => 40
  | 1 => 60
  | 2 => 80
  | _ => 88

/-- The clocks moved forward to arithmetic cycle `n`; never back. -/
def Clocks.forward (opp : Nat) (c : Clocks) (n : Nat) : Clocks :=
  if n ≤ c.cyc then c
  else
    let f := c.frac + 10 * (n - c.cyc)
    { c with cyc := n, ref := c.ref + f / oppRatio opp, frac := f % oppRatio opp }

/-- The clocks moved forward to reference count `r`; never back. -/
def Clocks.forwardRef (opp : Nat) (c : Clocks) (r : Nat) : Clocks :=
  if r ≤ c.ref then c
  else
    let d := c.forward opp (c.cyc + ((r - c.ref) * oppRatio opp - c.frac + 9) / 10)
    { d with ref := max d.ref r }

/-! ## Control-space registers -/

/-- The word of a register. -/
def State.rd (s : State) (r : Reg) : Nat := (SMap.get r.rst s.csr r.addr).toNat
/-- A register set to a word. -/
def State.wr (s : State) (r : Reg) (v : Nat) : State :=
  { s with csr := SMap.put r.rst s.csr r.addr (BitVec.ofNat 64 v) }
/-- A field of a register. -/
def State.fld (s : State) (f : Field) : Nat := bitsOf (s.rd f.reg) f.lo f.len
/-- A field of a register set. -/
def State.setFld (s : State) (f : Field) (v : Nat) : State := s.wr f.reg (setBitsOf (s.rd f.reg) f.lo f.len v)
/-- Whether a one-bit field reads 1. -/
def State.flag (s : State) (f : Field) : Bool := s.fld f = 1

/-- Element `i` of an array of `w`-bit elements packed in consecutive registers. -/
def State.elem (s : State) (r : Nat → Reg) (w i : Nat) : Nat :=
  bitsOf (s.rd (r (i / (64 / w)))) (w * (i % (64 / w))) w
/-- Element `i` of such an array set. -/
def State.setElem (s : State) (r : Nat → Reg) (w i v : Nat) : State :=
  s.wr (r (i / (64 / w))) (setBitsOf (s.rd (r (i / (64 / w)))) (w * (i % (64 / w))) w v)

/-- The operating point in effect (CLK_STATUS.OPP). -/
def State.opp (s : State) : Nat := s.fld CLK_STATUS_OPP
/-- The reference count (R336). -/
def State.now (s : State) : Nat := s.clk.ref
/-- The local cycle count of a grove (R344). -/
def State.cycle (s : State) (g : Nat) : Nat := s.clk.cyc - SMap.get 0 s.clk.lag g
/-- The state with time moved forward to local cycle `n` of a grove; never back. -/
def State.atCycle (s : State) (g n : Nat) : State :=
  { s with clk := s.clk.forward s.opp (n + SMap.get 0 s.clk.lag g) }
/-- The state with time moved forward to a reference count; never back. -/
def State.atRef (s : State) (r : Nat) : State := { s with clk := s.clk.forwardRef s.opp r }

/-- Reference counts in a millisecond. -/
def msCounts : Nat := 100000
/-- Reference counts in a microsecond. -/
def usCounts : Nat := 100

/-! ## The descriptor and the map copies (R26, R34, R36) -/

/-- Status byte of a position (R36). -/
def State.status (s : State) (pos : Nat) : Nat := s.elem DESC_POS_STATUS 8 pos
/-- The status byte of a position set. -/
def State.setStatus (s : State) (pos v : Nat) : State := s.setElem DESC_POS_STATUS 8 pos v
/-- DESC_POS_MAP entry of a logical ID. -/
def State.mapEntry (s : State) (l : Nat) : Nat := s.elem DESC_POS_MAP 16 l
/-- DESC_REV_MAP entry of a position. -/
def State.revEntry (s : State) (pos : Nat) : Nat := s.elem DESC_REV_MAP 16 pos
/-- Entry of a logical ID in a router's own map copy (R26). -/
def State.copyEntry (s : State) (pos l : Nat) : Nat := s.elem (TILE_NET_MAP pos) 16 l

/-- The position a map entry names, if it is VALID (R36). -/
def entryPos (e : Nat) : Option Nat :=
  if bitsOf e 15 1 = 1 then some (posIndex (bitsOf e 0 5) (bitsOf e 5 5)) else none
/-- The map entry that names a position (R36). -/
def posEntry (pos : Nat) : Nat := 0x8000 + posY pos * 32 + posX pos

/-- Position of a logical ID under the current map. -/
def State.posOf (s : State) (l : Nat) : Option Nat := if l < 512 then entryPos (s.mapEntry l) else none
/-- Position of a logical ID under a router's map copy. -/
def State.copyPos (s : State) (pos l : Nat) : Option Nat := if l < 512 then entryPos (s.copyEntry pos l) else none
/-- Logical ID of a position. -/
def State.logical (s : State) (pos : Nat) : Option Nat :=
  if pos < 576 ∧ bitsOf (s.revEntry pos) 15 1 = 1 then some (bitsOf (s.revEntry pos) 0 9) else none

/-- Clock state of a grove: 0 OFF, 1 KEEP, 2 RUN (R345). -/
def State.clkState (s : State) (g : Nat) : Nat := s.fld (GRV_CLK_STATUS_STATE g)
/-- Whether a position has a working router and node in a grove that is switched on (R36, R171, R186). -/
def State.routerUp (s : State) (pos : Nat) : Bool :=
  decide (pos < 576) && (decide (s.status pos = 1) || decide (s.status pos = 2))
    && decide (s.clkState (groveOf pos) ≠ 0)

/-- The working routers of the panel. -/
def State.liveRouters (s : State) : List Nat :=
  ((List.range 36).filter (fun g => decide (s.clkState g ≠ 0))).flatMap
    (fun g => ((List.range 16).map (posOfGrove g)).filter s.routerUp)

/-- A map entry written in the descriptor and in every working router's copy (R26). -/
def State.mapAll (s : State) (l v : Nat) : State :=
  let s := s.setElem DESC_POS_MAP 16 l v
  s.liveRouters.foldl (fun (s : State) q => s.setElem (TILE_NET_MAP q) 16 l v) s

/-- State of a partition (R262). -/
def State.partState (s : State) (p : Nat) : Nat := s.fld (MGMT_PARTp_STATUS_STATE p)
/-- Whether a partition exists. -/
def State.partExists (s : State) (p : Nat) : Bool := decide (p < 16) && decide (s.partState p ≠ 0)
/-- The groves of a partition's registers. -/
def State.partGroves (s : State) (p : Nat) : List Nat :=
  (List.range 36).filter (fun g => Nat.testBit (s.fld (MGMT_PARTp_CFG_GRVS p)) g)
/-- The partition a grove belongs to (R21). -/
def State.partOfGrove (s : State) (g : Nat) : Option Nat :=
  (List.range 16).find? (fun p => s.partExists p && Nat.testBit (s.fld (MGMT_PARTp_CFG_GRVS p)) g)
/-- The partition of a position's grove. -/
def State.partOf (s : State) (pos : Nat) : Option Nat := s.partOfGrove (groveOf pos)
/-- Whether a partition is under reset (RESETTING or RECOVERING). -/
def State.underReset (s : State) (p : Nat) : Bool :=
  decide (s.partState p = 5) || decide (s.partState p = 6)
/-- Every position of a partition. -/
def State.partPositions (s : State) (p : Nat) : List Nat :=
  (s.partGroves p).flatMap (fun g => (List.range 16).map (posOfGrove g))

/-! ## Memories -/

/-- A byte. -/
def Mem.byte (m : Mem) (a : Nat) : Byte := SMap.get (0 : Byte) m a
/-- A byte written; the canonical form is kept. -/
def Mem.setByte (m : Mem) (a : Nat) (b : Byte) : Mem := SMap.put (0 : Byte) m a b
/-- `n` bytes from an address as a number, the lowest-addressed least significant (R11). -/
def Mem.read (m : Mem) (a : Nat) : Nat → Nat
  | 0 => 0
  | n + 1 => (Mem.byte m a).toNat + 256 * Mem.read m (a + 1) n
/-- The low `n` bytes of a number written from an address. -/
def Mem.write (m : Mem) (a : Nat) : Nat → Nat → Mem
  | 0, _ => m
  | n + 1, v => Mem.write (m.setByte a (BitVec.ofNat 8 v)) (a + 1) n (v / 256)
/-- Every byte of `[lo, hi)` zero. -/
def Mem.clear (m : Mem) (lo hi : Nat) : Mem := m.filter (fun c => decide (c.1 < lo) || decide (hi ≤ c.1))
/-- The canonical form: addresses strictly rising, no listed byte 0. -/
def Mem.wf (m : Mem) : Bool := SMap.wf (fun _ => (0 : Byte)) m
/-- Members of `[lo, hi)` taken out of a set. -/
def NSet.clear (m : NSet) (lo hi : Nat) : NSet := m.filter (fun c => decide (c < lo) || decide (hi ≤ c))
/-- Keys of `[lo, hi)` taken out of a map. -/
def SMap.clear {α : Type} (m : SMap α) (lo hi : Nat) : SMap α := m.filter (fun c => decide (c.1 < lo) || decide (hi ≤ c.1))
/-- Membership bits of `n` consecutive keys, the first least significant. -/
def NSet.bits (m : NSet) (k : Nat) : Nat → Nat
  | 0 => 0
  | n + 1 => (m.has k).toNat + 2 * NSet.bits m (k + 1) n
/-- `n` consecutive keys made members or not by the bits of a number. -/
def NSet.setBits (m : NSet) (k : Nat) : Nat → Nat → NSet
  | 0, _ => m
  | n + 1, v => NSet.setBits (if v % 2 = 1 then m.add k else m.del k) (k + 1) n (v / 2)

/-- Scratchpad key of an offset on a position. -/
def spadKey (pos off : Nat) : Nat := pos * 2 ^ 27 + off
/-- Key of an instruction-store byte: TILE window offset on a position (R80). -/
def imemKey (pos off : Nat) : Nat := pos * 2 ^ 19 + off
/-- Key of a stack address on a controller. -/
def hbmKey (k a : Nat) : Nat := k * 2 ^ 35 + a

/-! ## Cores and tiles -/

/-- A core. -/
def State.core (s : State) (key : Nat) : Core := SMap.get Core.init s.cores key
/-- A core replaced. -/
def State.setCore (s : State) (key : Nat) (c : Core) : State := { s with cores := SMap.put Core.init s.cores key c }
/-- A core changed. -/
def State.modCore (s : State) (key : Nat) (f : Core → Core) : State := s.setCore key (f (s.core key))
/-- A tile. -/
def State.tile (s : State) (pos : Nat) : Tile := SMap.get Tile.init s.tiles pos
/-- A tile changed. -/
def State.modTile (s : State) (pos : Nat) (f : Tile → Tile) : State :=
  { s with tiles := SMap.put Tile.init s.tiles pos (f (s.tile pos)) }
/-- A fabric port. -/
def State.port (s : State) (p : Nat) : Port := SMap.get Port.init s.ports p
/-- A fabric port changed. -/
def State.modPort (s : State) (p : Nat) (f : Port → Port) : State :=
  { s with ports := SMap.put Port.init s.ports p (f (s.port p)) }
/-- An L-rim die. -/
def State.die (s : State) (m : Nat) : LDie := SMap.get LDie.init s.dies m
/-- An L-rim die changed. -/
def State.modDie (s : State) (m : Nat) (f : LDie → LDie) : State :=
  { s with dies := SMap.put LDie.init s.dies m (f (s.die m)) }
/-- What the management subsystem holds of a partition. -/
def State.part (s : State) (p : Nat) : Part := SMap.get Part.init s.parts p
/-- The same, changed. -/
def State.modPart (s : State) (p : Nat) (f : Part → Part) : State :=
  { s with parts := SMap.put Part.init s.parts p (f (s.part p)) }

/-- Whether a core's STATE is 0, 5, 6 or 7: stopped (R76, R345). -/
def Core.stopped (c : Core) : Bool := c.state == 0 || c.state == 5 || c.state == 6 || c.state == 7
/-- Whether every core of a position is stopped. -/
def State.tileStopped (s : State) (pos : Nat) : Bool :=
  (List.range 8).all (fun c => (s.core (coreKey pos c)).stopped)

/-- A posted operation added to a core: its id, and the core. -/
def Core.post (c : Core) (k : PostKind) : Nat × Core :=
  (c.nextId, { c with posted := c.posted ++ [⟨c.nextId, k, none⟩], nextId := c.nextId + 1 })
/-- Whether every store, send, fill, copy, window open and window close of a core before `id` is over (R66, R125). -/
def Core.ordered (c : Core) (id : Nat) : Bool :=
  c.posted.all (fun q => decide (id ≤ q.id) || match q.kind with
    | .store | .send | .fill | .copy | .wopen | .wclose => false
    | _ => true)
/-- A posted operation out of a core at local cycle `t`; those whose order it met are marked with that cycle. -/
def Core.performed (c : Core) (t id : Nat) : Core :=
  let d : Core := { c with posted := c.posted.filter (fun q => q.id ≠ id) }
  { d with posted := d.posted.map (fun (q : Posted) =>
      if d.ordered q.id && !c.ordered q.id then { q with met := some t } else q) }
/-- A posted operation of a core performed or discarded. -/
def State.posted (s : State) (key id : Nat) : State :=
  s.modCore key (fun c => c.performed (s.cycle (groveOf (key / 8))) id)
/-- Whether the order that a message or attachment waits for is met. -/
def State.guardMet (s : State) : Option (Nat × Nat) → Bool
  | none => true
  | some (key, id) => (s.core key).ordered id

/-- Whether a write of a host core, before an order number, is still in a buffer of the bridge or unanswered (R143,
R411). -/
def State.earlierWrites (s : State) (hcore order : Nat) : Bool :=
  s.bridge.buffers.any (fun b => decide (b.hcore = hcore) && decide (b.order < order))
    || s.bridge.track.any (fun e => decide (e.2.hcore = hcore) && decide (e.2.order < order) && e.2.read.isNone)

/-! ## The event log, interrupts and fault records -/

/-- An interrupt source has an event: with EN 1 the bridge writes EIID to ADDR once (R412); an event while the host is in
reset is lost (R414). -/
def State.irq (s : State) (n : Nat) : State :=
  if s.flag (MGMT_IRQn_EN n) && decide (s.fld MGMT_HOST_CTRL_STATE ≠ 3) then
    { s with bridge := { s.bridge with interrupts :=
        (BitVec.ofNat 48 (s.fld (MGMT_IRQn_ADDR n)), BitVec.ofNat 32 (s.fld (MGMT_IRQn_EIID n)))
          :: s.bridge.interrupts } }
  else s

/-- Domain code of a source for a cause (R277, R278, R285); HBM source 0 takes 4 in a record that carries a
partition. -/
def domainOf (source cause : Nat) : Nat :=
  if source < 0x2D00 then
    let t := source % 20
    if t < 8 then (if cause = 4 then 6 else 1)
    else if t < 17 then 2
    else if t = 17 then 6
    else if t = 18 then 1
    else 0
  else if source < 0x3180 then
    let t := (source - 0x2D00) % 32
    if t = 10 ∨ t = 12 ∨ t = 18 then 3 else if t = 17 then 5 else 0
  else if source < 0x3310 then (if (source - 0x3180) % 8 = 1 then 6 else 0)
  else if source < 0x3590 then 0
  else
    let t := source - 0x3590
    if t = 1 ∨ t = 2 ∨ t = 4 then 5 else if t = 5 then (if cause = 7 ∨ cause = 8 then 0 else 5) else 0

/-- An event of kind 10 to 13 of R301 noted for the next health update. -/
def State.healthEvent (s : State) (k : Nat) : State :=
  { s with faults := { s.faults with events := s.faults.events.insert k (SMap.get 0 s.faults.events k + 1) } }

/-- Source number of a position's source (R276). -/
def srcPos (pos t : Nat) : Nat := 20 * pos + t
/-- Source number of a grove's source (R276). -/
def srcGrove (g t : Nat) : Nat := 0x2D00 + 32 * g + t
/-- Source number of a controller's source (R276). -/
def srcHbm (k t : Nat) : Nat := 0x3180 + 8 * k + t
/-- Source number of a port's source (R276). -/
def srcPort (p t : Nat) : Nat := 0x3310 + 8 * p + t
/-- Source number of an L-rim die's source (R276). -/
def srcLrim (m t : Nat) : Nat := 0x3510 + 8 * m + t
/-- Source number of a device source (R276). -/
def srcDev (t : Nat) : Nat := 0x3590 + t

/-- The record of a source with the fields the panel's state gives it (R281). -/
def State.record (s : State) (source cause detail : Nat) : FaultRec :=
  let isPos := source < 0x2D00
  let pos := source / 20
  let part := if isPos then s.partOf pos
    else if source < 0x3180 then s.partOfGrove ((source - 0x2D00) / 32) else none
  { source := source, domain := domainOf source cause, forced := false
    part := part
    logical := if isPos then s.logical pos else none
    pos := if isPos then pos else 0x3FF
    cause := cause, refcount := s.now, slot := none, core := none, tpc := 0, halted := false
    seqNo := 0, detail := detail, arrived := 0 }

/-- Whether a position is fused off (R3, R309): its grove is, or its own fuse is. -/
def State.fusedOff (s : State) (pos : Nat) : Bool :=
  !s.fuses.groves.getLsbD (groveOf pos) || (SMap.get 0 s.fuses.off (groveOf pos)).getLsbD (localIdx pos)

/-- Whether the instance of a fault source is fused off (R3, R276). -/
def State.sourceAbsent (s : State) (n : Nat) : Bool :=
  if n < 0x2D00 then s.fusedOff (n / 20)
  else if n < 0x3180 then !s.fuses.groves.getLsbD ((n - 0x2D00) / 32)
  else if n < 0x3310 then !s.fuses.stackMask.getLsbD ((n - 0x3180) / 8)
  else if n < 0x3510 then !s.fuses.ports.getLsbD ((n - 0x3310) / 8)
  else false

/-- A record sent to the collector (R281, R282); an absent source raises none (R276). -/
def State.send (s : State) (r : FaultRec) : State :=
  { s with faults := { s.faults with
    flying := if s.sourceAbsent r.source then s.faults.flying else s.faults.flying ++ [r] } }

/-- A source raises a record. -/
def State.raise (s : State) (source cause detail : Nat) : State := s.send (s.record source cause detail)

/-- A saturating counter (R134): its register, the source that carries its events (R436), and its offset in its block
or TILE window. -/
structure Counter where
  reg : Reg
  source : Nat
  off : Nat
  deriving DecidableEq, Repr

/-- DETAIL of a counter event (R436): the offset and COUNT. -/
def counterDetail (off count : Nat) : Nat := off % 2 ^ 20 + (count % 2 ^ 32) * 2 ^ 20

/-- A counter goes up by `n`, saturating; an event at THRESH and at saturation, saturation alone when the two
coincide (R134). -/
def State.count (s : State) (c : Counter) (n : Nat) : State :=
  let w := s.rd c.reg
  let old := bitsOf w 0 32
  let thr := bitsOf w 32 32
  let new := min (old + n) 0xFFFFFFFF
  let s := s.wr c.reg (setBitsOf w 0 32 new)
  let s := if old < thr ∧ thr ≤ new ∧ thr ≠ 0xFFFFFFFF then s.raise c.source 7 (counterDetail c.off new) else s
  if old < 0xFFFFFFFF ∧ new = 0xFFFFFFFF then s.raise c.source 8 (counterDetail c.off new) else s

/-- MGMT_LOG_LOST (R389): its events come from device source 5 (R436). -/
def logLost : Counter := ⟨MGMT_LOG_LOST, srcDev 5, 0x30010⟩

/-- An entry appended to the event log, or counted as lost when the buffer is full (R389). -/
def State.log (s : State) (type len : Nat) (body : List W64) : State :=
  if s.mgmt.logBuffer.length < 4096 then
    let n := s.fld MGMT_LOG_HEAD_LSEQ
    let s := s.setFld MGMT_LOG_HEAD_LSEQ ((n + 1) % 2 ^ 32)
    { s with mgmt := { s.mgmt with
        logBuffer := s.mgmt.logBuffer ++ [⟨BitVec.ofNat 32 n, type, s.now, len, body⟩] } }
  else
    let s := s.count logLost 1
    { s with mgmt := { s.mgmt with logMissed := s.mgmt.logMissed + 1 } }

/-- A TILE_ counter of a position: its events come from source 19 (R436). -/
def tileCounter (pos : Nat) (r : Reg) : Counter := ⟨r, srcPos pos 19, r.addr - tileBase pos⟩

/-- A capture register takes its first event while VALID is 0 and sends one record (R134). The word carries the
fields; VALID is bit 63. -/
def State.capture (s : State) (r : Reg) (word : Nat) (source cause : Nat) : State :=
  if bitsOf (s.rd r) 63 1 = 1 then s
  else
    let w := setBitsOf word 63 1 1
    (s.wr r w).raise source cause w

/-- A capture whose record is not its source's plain one. -/
def State.captureWith (s : State) (r : Reg) (word : Nat) (rec : State → Nat → FaultRec) : State :=
  if bitsOf (s.rd r) 63 1 = 1 then s
  else
    let w := setBitsOf word 63 1 1
    let s := s.wr r w
    s.send (rec s w)

/-- A control-space decode fault (R29, R437): device source 9, cause 1 read, 2 write. -/
def State.decodeFault (s : State) (write : Bool) (addr : Nat) : State :=
  s.raise (srcDev 9) (if write then 2 else 1) (addr % 2 ^ 40)

/-- A wrapping 48-bit performance counter goes up by `n`; a wrap sets PERF_OVF and raises the overflow event
(R75, R436). -/
def State.perf (s : State) (pos core i n : Nat) : State :=
  let r := TILE_CORE_PERFn pos core i
  let new := s.fld (TILE_CORE_PERFn_COUNT pos core i) + n
  let s := s.wr r (new % 2 ^ 48)
  if new < 2 ^ 48 then s
  else
    let s := s.setFld (TILE_CORE_STATUS_PERF_OVF pos core)
      (s.fld (TILE_CORE_STATUS_PERF_OVF pos core) ||| 2 ^ i)
    s.raise (srcPos pos 19) 9 (counterDetail (r.addr - tileBase pos) (new % 2 ^ 48))

/-! ## Permission to write (R392) -/

/-- The position of a control-space address in the TILE_ part of a TILE window (R27, R28). -/
def tilePart (addr : Nat) : Option Nat :=
  if 0x100000000 ≤ addr ∧ addr < 0x100000000 + 36 * 0x1000000 ∧ addr % 0x100000 < 0xC0000 then
    some (posOfGrove ((addr - 0x100000000) / 0x1000000) (addr % 0x1000000 / 0x100000))
  else none

/-- Whether a control-space address belongs to a resource that fuses removed: it reads zero, and writes to it are
discarded without a record (R3, R28, R29, R250). -/
def State.absent (s : State) (addr : Nat) : Bool :=
  if 0x100000000 ≤ addr ∧ addr < 0x100000000 + 36 * 0x1000000 then
    match tilePart addr with
    | some pos => s.fusedOff pos
    | none => !s.fuses.groves.getLsbD ((addr - 0x100000000) / 0x1000000)
  else if 0x200000000 ≤ addr ∧ addr < 0x200000000 + 64 * 0x10000 then
    decide (addr % 0x10000 < 0x8000) && !s.fuses.ports.getLsbD ((addr - 0x200000000) / 0x10000)
  else if 0x300000000 ≤ addr ∧ addr < 0x300000000 + 50 * 0x100000 then
    !s.fuses.stackMask.getLsbD ((addr - 0x300000000) / 0x100000)
  else if 0x2100000 ≤ addr ∧ addr < 0x2100000 + 8 * 14000 then s.sourceAbsent ((addr - 0x2100000) / 8)
  else if 0x500000000 ≤ addr ∧ addr < 0x500002000 then !s.fuses.slots.getLsbD ((addr - 0x500000000) / 0x20)
  else if 0x500002000 ≤ addr ∧ addr < 0x500002800 then !s.fuses.slots.getLsbD ((addr - 0x500002000) / 8)
  else false

/-- Whether an agent is the host complex. -/
def agentIsHost : Agent → Bool
  | .host _ => true
  | .mgmt | .admin | .read => false

/-- Whether a write by an agent is discarded without a record: the resource is absent (R3), or the host complex writes
a block of a fenced or failed position (R29). -/
def State.mute (s : State) (a : Agent) (addr : Nat) : Bool :=
  s.absent addr || (agentIsHost a && match tilePart addr with
    | some pos => decide (s.status pos = 3) || decide (s.status pos = 4)
    | none => false)

/-- Whether an agent may write the registers of a row of R392's table. -/
def State.mayWrite (s : State) (a : Agent) (row : WrRow) : Bool :=
  let acl (i : Nat) : Bool := Nat.testBit (s.fld MGMT_ACL_ACL) i
  match a with
  | .mgmt => true
  | .read => false
  | .admin => decide (row ≠ .mgmt)
  | .host _ =>
    match row with
    | .part => acl 0
    | .flt => acl 1
    | .clkpwr => acl 2
    | .tile => acl 3
    | .hwin => acl 4
    | .irq => true
    | .hostg => false
    | .mgmt => false

/-! ## Words of the records that captures hold -/

/-- Fields packed from bit positions: `(low bit, width, value)`. -/
def packFields : List (Nat × Nat × Nat) → Nat
  | [] => 0
  | (lo, w, v) :: l => (v % 2 ^ w) * 2 ^ lo + packFields l

/-! ## Sync messages -/

/-- A sync add or set sent toward its home (R142). -/
def State.sendSync (s : State) (m : SyncMsg) : State :=
  { s with msgs := s.msgs ++ [{ m with at_ := s.cycle (groveOf m.pos) }] }

/-- An attachment that the panel applies for a source tile after a payload has landed or an operation has completed
(R64): an add of kind 1. -/
def State.attach (s : State) (en : Bool) (obj value logical part pos : Nat) (void : Bool)
    (guard_ ends : Option (Nat × Nat)) : State :=
  if en then
    s.sendSync { set := false, obj := obj, value := BitVec.ofNat 32 value, kind := 1, source := logical
                 part := part, pos := pos, void := void, guard_ := guard_, ends := ends, host := none, at_ := 0, phase := .flying }
  else
    match ends with
    | none => s
    | some (key, id) => s.posted key id

/-- The next free value (log entry 13), and the state that has used it. -/
def State.freeValue (s : State) : W64 × State := (Config.freeValue s.free, { s with free := s.free + 1 })

/-! ## How a meaning answers

A meaning computes a state from the state it is given and answers through one of the functions below. Each takes
from the computed state only the parts that its kind of command may change, so that every other part is, by its very
form, as it was. No command touches the queue or the resources that the fuses give. -/

/-- The outcome of a command. -/
abbrev Out := Host.Outcome State Fault Refusal

/-- The state once a periodic command, number `k` of its kind, has been taken at its time. -/
def State.lastDone (s : State) (k : Nat) : State := { s with clk := { s.clk with last := s.clk.last.insert k s.clk.ref } }

/-- The answer of a command that neither takes time nor changes a fuse. -/
def answer (s t : State) : Out := .next { t with pending := s.pending, clk := s.clk, fuses := s.fuses }

/-- The answer of a command at local cycle `n` of grove `g`: its effect `f` on the state at that time. -/
def answerAt (g n : Nat) (s : State) (f : State → State) : Out :=
  let s' := s.atCycle g n
  answer s' (f s')

/-- The answer of a command at reference count `r`. -/
def answerRef (r : Nat) (s : State) (f : State → State) : Out :=
  let s' := s.atRef r
  answer s' (f s')

/-- The answer of a command that comes every `period` reference counts, number `k` of its kind: time moves to a period
after the last one. -/
def answerEvery (k period : Nat) (s : State) (f : State → State) : Out :=
  let s' := s.atRef (SMap.get 0 s.clk.last k + period)
  let s'' : State := { s' with clk := { s'.clk with last := s'.clk.last.insert k s'.clk.ref } }
  answer s'' (f s'')

/-- The answer of a command whose condition does not hold: nothing happens (log entry 3). -/
def idle (s : State) : Out := .next s

/-- The answer of a command under a condition on the state. -/
def when (b : Bool) (s : State) (f : State → State) : Out := if b then answer s (f s) else idle s

/-- The answer of a control-space write by an agent: nothing at an absent resource (R3, R29), its effect where R392
allows it, else a decode fault. -/
def allowed (a : Agent) (row : WrRow) (addr : Nat) (s : State) (f : State → State) : Out :=
  if s.mute a addr then idle s
  else if s.mayWrite a row then answer s (f s) else answer s (s.decodeFault true addr)

/-- The answer of a command that names no instance of the panel. -/
def noUnit : Out := .fault .noSuchUnit

end Sys2Proof.Machine
end

