-- ==== Sys2Proof/Machine/Operands.lean ====
section
/-! DEFINITION. Operand forms of the Pedun core: bundles and slots (R39 to R42), the opcode tables with their forms,
reserved bits and latencies (R49 to R63), register reads (R37), stream descriptors (R62) and data-space addresses
(R30). -/

namespace Sys2Proof.Machine

/-! ## Bundles (R39) -/

/-- A bundle: its header fields and the four slot fields. -/
structure Bundle where
  act : Nat
  idle : Nat
  reserved : Nat
  s : Nat
  v : Nat
  m : Nat
  t : Nat
  deriving DecidableEq, Repr

/-- A bundle from its 32 bytes, little-endian. -/
def Bundle.ofNat (b : Nat) : Bundle :=
  ⟨bitsOf b 0 4, bitsOf b 4 4, bitsOf b 8 8, bitsOf b 16 48, bitsOf b 64 64, bitsOf b 128 64, bitsOf b 192 64⟩

/-- Slot field `k`: 0 S, 1 V, 2 M, 3 T. -/
def Bundle.slot (b : Bundle) (k : Nat) : Nat :=
  match k with
  | 0 => b.s
  | 1 => b.v
  | 2 => b.m
  | _ => b.t

/-- Whether slot `k` is enabled (R39). -/
def Bundle.on (b : Bundle) (k : Nat) : Bool := Nat.testBit b.act k

/-- OPC of a slot field. -/
def opcOf (w : Nat) : Nat := bitsOf w 4 8
/-- PRED of a slot field. -/
def predOf (w : Nat) : Nat := bitsOf w 0 4

/-- Key of the first byte of bundle `pc` of a core's instruction store (R80). -/
def bundleKey (pos core pc : Nat) : Nat := imemKey pos (core * 0x10000 + 32 * pc)

/-- The bundle stored at an index. -/
def State.bundle (s : State) (pos core pc : Nat) : Bundle := Bundle.ofNat (Mem.read s.imem (bundleKey pos core pc) 32)

/-- Bits `hi : lo` set. -/
def maskBits (lo hi : Nat) : Nat := 2 ^ (hi + 1) - 2 ^ lo

/-- Whether a slot field has a bit set outside the fields its opcode uses: PRED, OPC and those listed. -/
def hasReserved (w : Nat) (used : List (Nat × Nat)) : Bool :=
  decide (w &&& used.foldl (fun m (f : Nat × Nat) => m ||| maskBits f.1 f.2) 0xFFF ≠ w)

/-! ## Register reads (R37, R41) -/

/-- A scalar register; s0 reads zero. -/
def Core.sreg (c : Core) (n : Nat) : PVal := if n = 0 then ⟨0, 0⟩ else SMap.get ⟨0, 0⟩ c.s n
/-- A predicate register; p0 reads all ones. -/
def Core.preg (c : Core) (n : Nat) : Lanes := if n = 0 then BitVec.allOnes 64 else SMap.get 0 c.p n
/-- A vector register. -/
def Core.vreg (c : Core) (n : Nat) : PVec := SMap.get ⟨0, 0⟩ c.v n
/-- Row of an accumulator. -/
def Core.accRow (c : Core) (a row : Nat) : Vec := SMap.get 0 c.acc (a * 64 + row)
/-- A weight buffer. -/
def Core.wbuf (c : Core) (n : Nat) : WBuf := SMap.get ⟨0, 0⟩ c.wb n
/-- A stream descriptor with every field zero. -/
def Stream.zero : Stream := ⟨0, 0, 0, 0, 0, 0, false⟩
/-- A stream descriptor. -/
def Core.stream (c : Core) (n : Nat) : Stream := SMap.get Stream.zero c.t n
/-- A stream descriptor replaced. -/
def Core.setStream (c : Core) (n : Nat) (d : Stream) : Core := { c with t := SMap.put Stream.zero c.t n d }

/-- The lanes a PRED field selects (R41). -/
def Core.lanesOf (c : Core) (pred : Nat) : Lanes :=
  let r := c.preg (pred % 8)
  if pred < 8 then r else ~~~ r

/-- Whether an S, M or T slot takes effect under its predicate: bit 0 of the selected lanes (R41). -/
def Core.slotOn (c : Core) (w : Nat) : Bool := (c.lanesOf (predOf w)).getLsbD 0

/-- Whether a scalar operand has a poison bit set in either half. -/
def Core.sPoison (c : Core) (n : Nat) : Bool := decide ((c.sreg n).poison ≠ 0)
/-- Whether the low half of a scalar operand is poisoned. -/
def Core.sPoisonLow (c : Core) (n : Nat) : Bool := (c.sreg n).poison.getLsbD 0
/-- Whether a vector operand has a poison bit set in a lane of `on`. -/
def Core.vPoison (c : Core) (n : Nat) (on : Lanes) : Bool := decide ((c.vreg n).poison &&& on ≠ 0)

/-! ## S slot (R49, R50) -/

/-- Forms of the S slot. -/
inductive SForm where
  | none | r | i | shift | lui | cmp | cmpi | pred | pnot | br | jr | call | loop | trap | tret | mfcr | mtcr
  deriving DecidableEq, Repr

/-- The form of an S-slot opcode; none for a reserved opcode. -/
def sForm (opc : Nat) : Option SForm :=
  if opc = 0x00 ∨ opc = 0x34 then some .none
  else if opc ≤ 0x0E then some .r
  else if 0x10 ≤ opc ∧ opc ≤ 0x13 then some .i
  else if 0x14 ≤ opc ∧ opc ≤ 0x16 then some .shift
  else match opc with
    | 0x17 => some .lui
    | 0x20 | 0x21 | 0x22 | 0x23 => some .cmp
    | 0x24 | 0x25 => some .cmpi
    | 0x28 | 0x29 | 0x2A => some .pred
    | 0x2B => some .pnot
    | 0x30 => some .br
    | 0x31 => some .jr
    | 0x32 => some .call
    | 0x33 => some .loop
    | 0x35 => some .trap
    | 0x36 => some .tret
    | 0x38 => some .mfcr
    | 0x39 => some .mtcr
    | _ => none

/-- Fields an S-slot form uses beside PRED and OPC, as bit ranges. -/
def SForm.used : SForm → List (Nat × Nat)
  | .none => []
  | .r => [(12, 26)]
  | .i => [(12, 47)]
  | .shift => [(12, 27)]
  | .lui => [(12, 16), (22, 47)]
  | .cmp => [(12, 14), (17, 26)]
  | .cmpi => [(12, 14), (17, 47)]
  | .pred => [(12, 14), (17, 19), (22, 24)]
  | .pnot => [(12, 14), (17, 19)]
  | .br => [(22, 47)]
  | .jr => [(17, 21)]
  | .call => [(12, 16), (22, 47)]
  | .loop => [(12, 13), (17, 47)]
  | .trap => [(22, 27)]
  | .tret => [(17, 21)]
  | .mfcr => [(12, 16), (22, 29)]
  | .mtcr => [(17, 21), (22, 29)]

/-- RD of an S slot. -/
def sRd (w : Nat) : Nat := bitsOf w 12 5
/-- RA of an S slot. -/
def sRa (w : Nat) : Nat := bitsOf w 17 5
/-- RB of an S slot. -/
def sRb (w : Nat) : Nat := bitsOf w 22 5
/-- IMM26, sign-extended to 64 bits. -/
def sImmS (w : Nat) : W64 := BitVec.ofInt 64 (signedOf 26 (bitsOf w 22 26))
/-- IMM26, zero-extended to 64 bits. -/
def sImmZ (w : Nat) : W64 := BitVec.ofNat 64 (bitsOf w 22 26)
/-- Index of the bundle a branch or call names. -/
def sTarget (pc w : Nat) : Int := (pc : Int) + signedOf 26 (bitsOf w 22 26)

/-- Latency of an S-slot result (R50). -/
def sLatency (opc : Nat) : Nat := if opc = 0x09 ∨ opc = 0x0A then 3 else if opc = 0x38 then 2 else 1

/-- Scalar registers an S-slot form consumes. -/
def sReads (f : SForm) (w : Nat) : List Nat :=
  match f with
  | .r | .cmp => [sRa w, sRb w]
  | .i | .shift | .cmpi | .jr | .tret | .mtcr => [sRa w]
  | _ => []

/-- The register an S-slot form writes, with s0 and p0 discarding writes (R37). -/
def sDst (f : SForm) (w : Nat) : Option Dst :=
  match f with
  | .r | .i | .shift | .lui | .call | .mfcr => if sRd w = 0 then none else some (.sreg (sRd w))
  | .cmp | .cmpi | .pred | .pnot => if sRd w = 0 then none else some (.preg (sRd w))
  | _ => none

/-! ## V slot (R52 to R54) -/

/-- Format rules of R54. -/
inductive FmtRule where
  | fp | int | either
  deriving DecidableEq, Repr

/-- Forms of the V slot; `elem n` takes `n` vector operands lane by lane. -/
inductive VForm where
  | nop
  | elem (n : Nat) (fmt : FmtRule)
  | cmp | cvt | unpk | bcast | ext | shuf | red | rand | mov | iota
  deriving DecidableEq, Repr

/-- The form of a V-slot opcode. -/
def vForm (opc : Nat) : Option VForm :=
  match opc with
  | 0x00 => some .nop
  | 0x01 | 0x02 | 0x03 | 0x05 | 0x06 => some (.elem 2 .either)
  | 0x04 => some (.elem 3 .fp)
  | 0x07 | 0x08 => some (.elem 1 .either)
  | 0x10 | 0x11 | 0x12 | 0x13 | 0x14 | 0x15 => some (.elem 2 .int)
  | 0x18 | 0x19 | 0x1A => some .cmp
  | 0x20 | 0x21 | 0x22 | 0x23 | 0x24 | 0x25 => some (.elem 1 .fp)
  | 0x28 => some .cvt
  | 0x29 => some .unpk
  | 0x30 => some .bcast
  | 0x31 => some .ext
  | 0x32 => some .shuf
  | 0x33 | 0x34 => some .red
  | 0x35 => some .rand
  | 0x36 => some .mov
  | 0x37 => some .iota
  | _ => none

/-- Fields a V-slot form uses. -/
def VForm.used : VForm → List (Nat × Nat)
  | .nop => []
  | .elem n _ => [(12, 16 + 5 * n), (32, 35)]
  | .cmp => [(12, 14), (17, 26), (32, 35)]
  | .cvt => [(12, 21), (32, 37)]
  | .unpk => [(12, 21), (32, 35), (43, 45)]
  | .bcast => [(12, 16), (38, 42)]
  | .ext => [(12, 21), (43, 48)]
  | .shuf => [(12, 26)]
  | .red => [(12, 21), (32, 35)]
  | .rand => [(12, 16)]
  | .mov => [(12, 21)]
  | .iota => [(12, 16)]

/-- VD of a V slot. -/
def vVd (w : Nat) : Nat := bitsOf w 12 5
/-- VA of a V slot. -/
def vVa (w : Nat) : Nat := bitsOf w 17 5
/-- VB of a V slot. -/
def vVb (w : Nat) : Nat := bitsOf w 22 5
/-- VC of a V slot. -/
def vVc (w : Nat) : Nat := bitsOf w 27 5
/-- FMT of a V slot. -/
def vFmt (w : Nat) : Nat := bitsOf w 32 4
/-- RND of a V slot. -/
def vRnd (w : Nat) : Nat := bitsOf w 36 2
/-- SR of a V slot. -/
def vSr (w : Nat) : Nat := bitsOf w 38 5
/-- IMM21 of a V slot. -/
def vImm (w : Nat) : Nat := bitsOf w 43 21

/-- Latency of a V-slot result (R54). -/
def vLatency (opc fmt : Nat) : Nat :=
  match opc with
  | 0x01 | 0x02 => if fmt = 0 then 4 else 1
  | 0x03 => if fmt = 0 then 4 else 3
  | 0x04 => 4
  | 0x05 | 0x06 => if fmt = 0 then 2 else 1
  | 0x18 | 0x19 | 0x1A => 2
  | 0x20 | 0x21 => 10
  | 0x22 | 0x23 => 8
  | 0x24 | 0x25 => 12
  | 0x28 | 0x29 => 3
  | 0x31 | 0x32 | 0x35 => 2
  | 0x33 => 12
  | 0x34 => 6
  | _ => 1

/-- Whether a V slot does something: PRED 0x8 is never (R41). -/
def vActive (w : Nat) : Bool := decide (predOf w ≠ 8)

/-- The register a V slot writes and the lanes it writes there: a compare writes a whole predicate register, v.ext a
scalar when lane 0 is enabled, anything else the enabled lanes of a vector register (R53); nothing under PRED 0x8
(R41). -/
def vDst (f : VForm) (w : Nat) (on : Lanes) : Option Dst :=
  match f with
  | .nop => none
  | .cmp => if vVd w = 0 ∨ vActive w = false then none else some (.preg (vVd w))
  | .ext => if vVd w = 0 ∨ on.getLsbD 0 = false then none else some (.sreg (vVd w))
  | _ => if on = 0 then none else some (.vreg (vVd w))

/-! ## M slot (R55 to R57) -/

/-- Fields an M-slot opcode uses; none for a reserved opcode. -/
def mUsed (opc : Nat) : Option (List (Nat × Nat)) :=
  match opc with
  | 0x00 => some []
  | 0x01 => some [(14, 14), (20, 27)]
  | 0x02 => some [(12, 34)]
  | 0x03 | 0x04 => some [(12, 13), (35, 45)]
  | 0x05 => some [(12, 13), (16, 19), (35, 50)]
  | 0x06 => some [(12, 13)]
  | _ => none

/-- ACC. -/
def mAcc (w : Nat) : Nat := bitsOf w 12 2
/-- WB. -/
def mWb (w : Nat) : Nat := bitsOf w 14 1
/-- CLR. -/
def mClr (w : Nat) : Bool := Nat.testBit w 15
/-- FMT_A. -/
def mFmtA (w : Nat) : Nat := bitsOf w 16 4
/-- FMT_W. -/
def mFmtW (w : Nat) : Nat := bitsOf w 20 4
/-- TS. -/
def mTs (w : Nat) : Nat := bitsOf w 24 4
/-- COUNT. -/
def mCount (w : Nat) : Nat := bitsOf w 28 7
/-- ROW. -/
def mRow (w : Nat) : Nat := bitsOf w 35 6
/-- VR. -/
def mVr (w : Nat) : Nat := bitsOf w 41 5
/-- RND. -/
def mRnd (w : Nat) : Nat := bitsOf w 46 2
/-- SRULE. -/
def mSrule (w : Nat) : Nat := bitsOf w 48 3

/-! ## T slot (R61, R63) -/

/-- Fields a T-slot opcode uses; none for a reserved opcode. -/
def tUsed (opc : Nat) : Option (List (Nat × Nat)) :=
  match opc with
  | 0x00 | 0x14 => some []
  | 0x01 => some [(12, 25), (31, 35)]
  | 0x02 | 0x09 => some [(16, 20), (31, 63)]
  | 0x03 => some [(16, 25), (36, 63)]
  | 0x04 | 0x05 => some [(16, 20), (26, 30), (36, 63)]
  | 0x06 | 0x07 => some [(12, 15), (26, 30)]
  | 0x08 => some [(16, 30)]
  | 0x0A => some [(16, 30), (36, 63)]
  | 0x0B => some [(16, 25)]
  | 0x0C => some [(16, 25), (36, 36)]
  | 0x0D | 0x0E => some [(16, 25), (31, 52), (63, 63)]
  | 0x0F => some [(16, 20), (36, 36)]
  | 0x10 | 0x11 => some [(12, 25)]
  | 0x12 => some [(16, 20), (36, 39)]
  | 0x13 => some [(36, 39)]
  | 0x15 => some [(16, 30), (36, 45)]
  | _ => none

/-- TD. -/
def tTd (w : Nat) : Nat := bitsOf w 12 4
/-- SA. -/
def tSa (w : Nat) : Nat := bitsOf w 16 5
/-- SB. -/
def tSb (w : Nat) : Nat := bitsOf w 21 5
/-- VX. -/
def tVx (w : Nat) : Nat := bitsOf w 26 5
/-- SC. -/
def tSc (w : Nat) : Nat := bitsOf w 31 5
/-- IMM28 as stored. -/
def tImm (w : Nat) : Nat := bitsOf w 36 28
/-- IMM28, signed. -/
def tImmS (w : Nat) : Int := signedOf 28 (tImm w)
/-- The address sa + imm of a direct access. -/
def Core.tAddr (c : Core) (w : Nat) : Nat := ((c.sreg (tSa w)).val + BitVec.ofInt 64 (tImmS w)).toNat

/-- Scalar registers a T-slot opcode consumes whole. -/
def tReads (opc w : Nat) : List Nat :=
  match opc with
  | 0x01 | 0x0D | 0x0E => [tSa w, tSb w, tSc w]
  | 0x02 | 0x03 | 0x04 | 0x05 | 0x09 | 0x0F | 0x12 => [tSa w]
  | 0x08 | 0x0A | 0x10 | 0x11 | 0x15 | 0x0B | 0x0C => [tSa w, tSb w]
  | _ => []

/-! ## Format codes and features (R42, R312) -/

/-- Whether a format code is usable under the panel's features. -/
def State.fmtFeature (s : State) (code : Nat) : Bool :=
  let f := s.rd DESC_FEATURES
  if code = 8 ∨ code = 9 then Nat.testBit f 0 else if code = 12 then Nat.testBit f 1 else true

/-- Codes of the M slot: every packed format. -/
def State.fmtM (s : State) (code : Nat) : Bool := decide (1 ≤ code ∧ code ≤ 12) && s.fmtFeature code

/-- Whether RND 1 may be used, as a value of RND. -/
def State.rndOk (s : State) (rnd : Nat) : Bool :=
  decide (rnd = 0) || (decide (rnd = 1) && Nat.testBit (s.rd DESC_FEATURES) 3)

/-! ## Data-space addresses (R30) -/

/-- What a data-space address names. -/
inductive DSpace where
  | spad (logical off : Nat)
  | hbm (off : Nat)
  | sync (obj : Nat)
  deriving DecidableEq, Repr

/-- Enabled groves. -/
def State.groveCount (s : State) : Nat := ((List.range 36).filter (fun g => s.fuses.groves.getLsbD g)).length
/-- Logical IDs that a tile may hold: 14 for each enabled grove (R24). -/
def State.logicalCount (s : State) : Nat := 14 * s.groveCount
/-- Compute stacks enabled by fuses. -/
def State.computeStacks (s : State) : Nat := ((List.range 48).filter (fun k => s.fuses.stackMask.getLsbD k)).length
/-- Compute HBM capacity in bytes: 24 GiB a stack. -/
def State.hbmCapacity (s : State) : Nat := s.computeStacks * (24 * 2 ^ 30)
/-- First offset beyond a tile's scratchpad (R30). -/
def spadLimit : Nat := 0x06000000

/-- Whether a logical ID is that of a tile with a position (R30): it has one, or another tile of its logical grove has:
then its own takeover is under way, and R119 and R173 say what an access does (log entry 20). A grove too short to have
an active set (R25), or lost, has none. -/
def State.tileExists (s : State) (l : Nat) : Bool :=
  (s.posOf l).isSome || (List.range 14).any (fun i => (s.posOf (l / 14 * 14 + i)).isSome)

/-- The space, unit and offset that a data-space address names by its layout (R30). Whether a tile of that logical ID
exists is `State.tileExists`. -/
def State.dspace (s : State) (a : Nat) : Option DSpace :=
  if a < 2 ^ 36 then
    let l := bitsOf a 27 9
    let off := bitsOf a 0 27
    if l < s.logicalCount ∧ off < spadLimit then some (.spad l off) else none
  else if bitsOf a 44 20 = 1 ∧ bitsOf a 41 3 = 0 then
    let off := bitsOf a 0 41
    if off < s.hbmCapacity then some (.hbm off) else none
  else if bitsOf a 44 20 = 2 ∧ bitsOf a 20 24 = 0 ∧ a % 8 = 0 then some (.sync (bitsOf a 3 17))
  else none

/-- The space that every byte of an access of `n` bytes lies in by its layout: one space, and one tile (R30). -/
def State.dlayout (s : State) (a n : Nat) : Option DSpace :=
  match s.dspace a with
  | some (.spad l off) => if off + n ≤ spadLimit then some (.spad l off) else none
  | some (.hbm off) => if off + n ≤ s.hbmCapacity then some (.hbm off) else none
  | some (.sync o) => if n ≤ 8 then some (.sync o) else none
  | none => none

/-- The meaning of an access of `n` bytes that a core or a mover issues: its layout, in a tile with a position (R30). -/
def State.dspan (s : State) (a n : Nat) : Option DSpace :=
  match s.dlayout a n with
  | some (.spad l off) => if s.tileExists l then some (.spad l off) else none
  | d => d

/-! ## Stream descriptors (R62) -/

/-- The descriptor that t.set loads from its operands. -/
def streamOf (sa sb sc : W64) : Stream where
  base := sa.extractLsb' 0 48
  stride := sb.extractLsb' 0 24
  count := sb.extractLsb' 24 16
  pos := 0
  feeder := sc.extractLsb' 0 2
  fmt := sc.extractLsb' 2 4
  dir := sc.getLsbD 6

/-- Data-space address of element `n` of a stream, modulo 2^64: one below address 0 lies in no space of R30. -/
def Stream.elemAddr (d : Stream) (n : Nat) : Nat := (((d.base.toNat : Int) + d.stride.toInt * n) % 2 ^ 64).toNat

/-- Bytes of one element of a stream. -/
def Stream.elemBytes (d : Stream) : Nat :=
  match d.feeder.toNat with
  | 1 => activationBytes d.fmt.toNat
  | 2 => weightBytes d.fmt.toNat
  | _ => 256

/-- Lowest offset and offset after the last byte of a stream whose base is at `off`. -/
def Stream.extent (d : Stream) (off : Nat) : Int × Int :=
  let last : Int := (off : Int) + d.stride.toInt * ((d.count.toNat - 1 : Nat) : Int)
  (min (off : Int) last, max (off : Int) last + d.elemBytes)

end Sys2Proof.Machine
end

