-- ==== Sys2Proof/Machine/Wheel.lean ====
section
/-! DEFINITION. Shared operations of the tile scratchpad: geometry (R108), the wheel's turns (R110 to R112), split
accesses (R111), feeder schedules (R115), checked reads and whole-word writes (R111, R131, R132), windows (R120 to
R125) and direct-reach paths (R118, R119). -/

namespace Sys2Proof.Machine

/-- Bank group of an offset (R108). -/
def groupOf (off : Nat) : Nat := off / 0x600000
/-- Bank of an offset (R108). -/
def bankOf (off : Nat) : Nat := 2 * groupOf off + bitsOf off 7 1
/-- Banks that hold bytes of an access. -/
def banksOf (off len : Nat) : List Nat :=
  (List.range ((off + len - 1) / 128 + 1 - off / 128)).map (fun i => bankOf (off / 128 * 128 + 128 * i))

/-- First cycle at or after `t` in which an agent has its turn at a group (R110). -/
def turnFrom (agent group t : Nat) : Nat := t + (agent + group + 16 - t % 16) % 16

/-- First cycle at or after `t` at wheel position 0 (R47). -/
def wposZero (t : Nat) : Nat := t + (16 - t % 16) % 16

/-- Bytes of the first part of an access: all of them unless it meets the next bank group or a third line (R111). -/
def firstPart (off len : Nat) : Nat :=
  min len (min ((groupOf off + 1) * 0x600000 - off) ((off / 128 + 2) * 128 - off))

/-! ## Accesses that wait for their turns (R65, R111, R165) -/

/-- The turn of the last part of an access. -/
def Access.lastDue (a : Access) : Nat :=
  if a.first then turnFrom a.agent (groupOf (a.off + a.len)) (a.due + 1) else a.due

/-- Cycles an access travels before it can meet a turn: 2 through a neighbour port, none on the own wheel (R165). -/
def Access.travel (a : Access) : Nat := if 10 ≤ a.agent ∧ a.agent ≤ 13 then 2 else 0

/-- The accesses of a core that wait, in issue order. -/
def State.ownAccesses (s : State) (key : Nat) : List Access := s.access.filter (fun a => a.core = some key)

/-- Cycle in which an access of a core issued in cycle `t` leaves the core (R65, R165): at issue, or in the cycle
after the core's last waiting access is served. -/
def State.leaveAt (s : State) (key t : Nat) : Nat :=
  (s.ownAccesses key).foldl (fun m a => max m (a.lastDue + 1)) t

/-- The turn of an access of a core that leaves the core in cycle `leave`. -/
def dueFrom (agent off leave : Nat) : Nat :=
  turnFrom agent (groupOf off) (if 10 ≤ agent ∧ agent ≤ 13 then leave + 2 else leave)

/-- The later accesses of a core kept behind an earlier one served or retried at `prev` (R65, R116). -/
def rebase (key : Nat) : Nat → List Access → List Access
  | _, [] => []
  | prev, a :: l =>
    if a.core = some key then
      let due := max a.due (dueFrom a.agent a.off (prev + 1))
      let a := { a with due := due }
      a :: rebase key a.lastDue l
    else a :: rebase key prev l

/-- An access that a tile makes for itself or that a packet makes on delivery. -/
def accessOf (pos agent off len due : Nat) (task : Task) : Access where
  pos := pos
  agent := agent
  off := off
  len := firstPart off len
  data := 0
  poison := 0
  task := task
  due := due
  timed := false
  core := none
  holder := .none
  pkt := none
  inlink := none
  first := decide (firstPart off len < len)
  whole := (off, len)

/-! ## Feeders (R114, R115) -/

/-- Cycle of fetch `i` of a feeder job: each cycle for weights, and by rate class for activations (R115). -/
def FeedJob.cycle (j : FeedJob) (weights : Bool) (i : Nat) : Nat :=
  if weights then j.at_ + i
  else if mmulOccupancy j.fmt j.fmtW 2 = 4 then j.at_ + 2 * i
  else if mmulOccupancy j.fmt j.fmtW 2 = 1 then j.at_ + i / 2
  else j.at_ + i

/-- Offset and bytes of fetch `i` of a feeder job (R85, R115). -/
def FeedJob.bytes (j : FeedJob) (weights : Bool) (i : Nat) : Nat × Nat :=
  if weights then (j.base + 128 * i, min 128 (weightBytes j.fmt - 128 * i))
  else (((j.base : Int) + j.stride * i).toNat, activationBytes j.fmt)

/-- Banks a job's fetches of one cycle use. -/
def FeedJob.banksAt (j : FeedJob) (weights : Bool) (t : Nat) : List Nat :=
  ((List.range j.total).filter (fun i => j.cycle weights i = t)).flatMap
    (fun i => banksOf (j.bytes weights i).1 (j.bytes weights i).2)

/-- Banks that a core's feeder uses in a local cycle. -/
def Core.feederBanks (c : Core) (weights : Bool) (t : Nat) : List Nat :=
  (if weights then c.feedW else c.feedA).flatMap (fun j => j.banksAt weights t)

/-- The first feeder of a tile that holds one of the banks in a local cycle: bank, whether feeder W, core (R116). -/
def State.feederAt (s : State) (pos : Nat) (banks : List Nat) (t : Nat) : Option (Nat × Bool × Nat) :=
  (List.range 8).findSome? (fun c =>
    let core := s.core (coreKey pos c)
    [false, true].findSome? (fun w =>
      (banks.find? (fun b => (core.feederBanks w t).contains b)).map (fun b => (b, w, c))))

/-! ## Checked reads and writes of scratchpad words (R131, R132) -/

/-- The local cycle now, for a position. -/
def State.hereNow (s : State) (pos : Nat) : Nat := s.cycle (groveOf pos)

/-- An uncorrectable error read: counted, captured (source 17 CAUSE 1), and owed a marking at the memory-side engine's
next turn at that group (R132). -/
def State.spadUe (s : State) (pos off agent : Nat) (feeder line : Bool) : State :=
  let s := s.count (tileCounter pos (TILE_SPAD_UE_CNT pos)) 1
  let m : Mark := ⟨pos, off, line, turnFrom 15 (groupOf off) (s.hereNow pos + 1)⟩
  let s : State := { s with marks := s.marks ++ [m] }
  s.capture (TILE_SPAD_UE_CAP pos)
    (packFields [(0, 27, off), (28, 4, agent), (32, 1, feeder.toNat), (33, 1, line.toNat)]) (srcPos pos 17) 1

/-- The check of one stored word: a single-bit error is counted, an uncorrectable one handled (R132). -/
def State.checkWord (s : State) (pos agent : Nat) (feeder : Bool) (e : Nat × Nat) : State :=
  if e.2 = 1 then s.count (tileCounter pos (TILE_SPAD_CE_CNT pos)) 1
  else s.spadUe pos (4 * e.1 - spadKey pos 0) agent feeder false

/-- Errors among the words of an access. -/
def State.spadErrors (s : State) (pos off len : Nat) : SMap Nat :=
  s.spadEcc.filter (fun e => decide (spadKey pos off / 4 ≤ e.1 ∧ e.1 < (spadKey pos (off + len) + 3) / 4))
/-- Lines of an access whose poison check bits have an error. -/
def State.spadLines (s : State) (pos off len : Nat) : NSet :=
  s.spadLine.filter (fun l => decide (spadKey pos off / 128 ≤ l ∧ l < (spadKey pos (off + len) + 127) / 128))
/-- Lines of an access whose poison check bits have a single-bit error. -/
def State.spadLinesCe (s : State) (pos off len : Nat) : NSet :=
  s.spadLineCe.filter (fun l => decide (spadKey pos off / 128 ≤ l ∧ l < (spadKey pos (off + len) + 127) / 128))

/-- Whether a word reads poisoned: its poison bit, an uncorrectable error, or its line's poison code (R132). -/
def State.spadWordPoison (s : State) (key : Nat) : Bool :=
  s.spadPoison.has key || decide (SMap.get 0 s.spadEcc key = 2) || s.spadLine.has (key / 32)

/-- Poison bits of the words of an access, the first least significant. -/
def State.spadPoisonBits (s : State) (pos off len : Nat) : Nat :=
  packDigits 1 (fun i => (s.spadWordPoison (spadKey pos off / 4 + i)).toNat) (len / 4)

/-- A read of scratchpad words: data, poison bits, and the state after the checks of R132. -/
def State.spadRead (s : State) (pos off len agent : Nat) (feeder : Bool) : Nat × Nat × State :=
  let data := Mem.read s.spad (spadKey pos off) len
  let poison := s.spadPoisonBits pos off len
  let t := (s.spadErrors pos off len).foldl (fun s e => s.checkWord pos agent feeder e) s
  let t := if (s.spadLinesCe pos off len).isEmpty then t
    else t.count (tileCounter pos (TILE_SPAD_CE_CNT pos)) (s.spadLinesCe pos off len).length
  let t := (s.spadLines pos off len).foldl
    (fun s l => s.spadUe pos (128 * l - spadKey pos 0) agent feeder true) t
  (data, poison, t)

/-- A write of whole scratchpad words with their poison bits and fresh check bits. A write that covers a whole line
ends an error of its poison code and drops the marking still owed for it (R132). -/
def State.spadWrite (s : State) (pos off len data poison : Nat) : State :=
  let lo := spadKey pos off
  let whole (l : Nat) : Bool := decide (lo ≤ 128 * l ∧ 128 * l + 128 ≤ lo + len)
  { s with
    spad := Mem.write s.spad lo len data
    spadPoison := NSet.setBits s.spadPoison (lo / 4) (len / 4) poison
    spadEcc := SMap.clear s.spadEcc (lo / 4) ((lo + len) / 4)
    spadLine := s.spadLine.filter (fun l => !whole l)
    spadLineCe := s.spadLineCe.filter (fun l => !whole l)
    marks := s.marks.filter (fun m => !(m.line && decide (m.pos = pos) && whole (spadKey pos m.off / 128))) }

/-- A scratchpad range written zero with poison clear and fresh check bits (R129). -/
def State.spadZero (s : State) (pos lo hi : Nat) : State :=
  let a := spadKey pos lo
  let b := spadKey pos hi
  { s with
    spad := Mem.clear s.spad a b
    spadPoison := NSet.clear s.spadPoison (a / 4) (b / 4)
    spadEcc := SMap.clear s.spadEcc (a / 4) (b / 4)
    spadLine := NSet.clear s.spadLine (a / 128) (b / 128)
    spadLineCe := NSet.clear s.spadLineCe (a / 128) (b / 128)
    marks := s.marks.filter (fun m => !(decide (m.pos = pos) && decide (lo ≤ m.off ∧ m.off < hi))) }

/-! ## Turns of the memory-side engine (R113, R116) -/

/-- Whether a turn is idle: no access of its owner is to be served at it. -/
def State.idleTurn (s : State) (pos group t : Nat) : Bool :=
  !(s.access.any (fun a => decide (a.pos = pos) && decide (a.due = t) && decide (groupOf a.off = group)
    && decide ((a.agent + groupOf a.off) % 16 = t % 16)))

/-- The first cycle from `t` in which the memory-side engine meets a group: its own turn there, or an idle turn at
whose cycle no feeder holds a bank it needs; one of its own comes within 16 cycles (R110, R113, R116). -/
def State.msTurn (s : State) (pos off len : Nat) : Nat → Nat → Nat
  | 0, t => t
  | fuel + 1, t =>
    if t % 16 = (15 + groupOf off) % 16 then t
    else if s.idleTurn pos (groupOf off) t && (s.feederAt pos (banksOf off len) t).isNone then t
    else s.msTurn pos off len fuel (t + 1)

/-- The cycle of the memory-side engine's next access of a range at a position. -/
def State.msNext (s : State) (pos off len : Nat) : Nat :=
  s.msTurn pos off len 16 (max (s.hereNow pos) (s.tile pos).msFree)

/-- An access of the memory-side engine in cycle `t`: a deferral at its own turn where a feeder holds one of the banks,
counted in TILE_SPAD_YIELD_CNT (R116), else `f`; its next access comes later (R113). -/
def State.msAccess (s : State) (pos off len t : Nat) (f : State → State) : State :=
  let s := s.modTile pos (fun x => { x with msFree := t + 1 })
  if (s.feederAt pos (banksOf off len) t).isSome then s.count (tileCounter pos (TILE_SPAD_YIELD_CNT pos)) 1 else f s

/-- Whether a marking is still to be made whose turn comes before cycle `t` (R132). -/
def State.marksDue (s : State) (pos t : Nat) : Bool := s.marks.any (fun m => decide (m.pos = pos) && decide (m.due < t))

/-- Whether region `r` of a tile is resident (R128). -/
def State.resident (s : State) (pos r : Nat) : Bool :=
  if r < 64 then Nat.testBit (s.rd (TILE_SPAD_RESIDENT0 pos)) r
  else Nat.testBit (s.rd (TILE_SPAD_RESIDENT1 pos)) (r - 64)

/-- Every non-resident region of a tile cleared (R129). -/
def State.clearNonResident (s : State) (pos : Nat) : State :=
  (List.range 96).foldl (fun s r => if s.resident pos r then s else s.spadZero pos (r * 0x100000) ((r + 1) * 0x100000)) s

/-! ## Write windows (R120 to R124) -/

/-- Whether window `n` is open and contains the bytes of a write. -/
def State.winHolds (s : State) (pos off len n : Nat) : Bool :=
  let lo := s.rd (TILE_SPAD_WINn_LO pos n)
  s.flag (TILE_SPAD_WINn_HI_OPEN pos n) && decide (bitsOf lo 0 27 ≤ off) && decide (off + len ≤ bitsOf lo 32 27)

/-- The reason window `n` refuses a write of a class, if it does, in the order of R123. -/
def State.winRefuses (s : State) (pos n : Nat) (cls : WrClass) : Option Nat :=
  let hi := s.rd (TILE_SPAD_WINn_HI pos n)
  let right := match cls with
    | .own => true
    | .tile _ _ => Nat.testBit hi 32
    | .red _ => Nat.testBit hi 33
    | .host => Nat.testBit hi 34
    | .fabric => Nat.testBit hi 35
  let owner := match cls with
    | .tile _ p | .red p => decide (s.partOf pos = some p)
    | _ => true
  let ids := match cls with
    | .tile l _ => decide (l &&& bitsOf hi 16 9 = bitsOf hi 0 9 &&& bitsOf hi 16 9)
    | _ => true
  if !right then some 1 else if !owner then some 3 else if !ids then some 2 else none

/-- The window check: nothing when the write lands, else the reason of R123. -/
def State.windowReason (s : State) (pos off len : Nat) (cls : WrClass) : Option Nat :=
  let holding := (List.range 16).filter (s.winHolds pos off len)
  if cls = .own ∨ holding.any (fun n => (s.winRefuses pos n cls).isNone) then none
  else match holding with
    | [] => some 0
    | n :: _ => s.winRefuses pos n cls

/-- Class code and source of a write in TILE_SPAD_DISCARD_CAP. -/
def WrClass.code : WrClass → Nat × Nat
  | .own => (0, 0)
  | .tile l _ => (0, l)
  | .red _ => (1, 0)
  | .host => (2, 0)
  | .fabric => (3, 0)

/-- A write discarded at its window: counted and captured (R123). The source of a reduction delivery is the writer
the packet names. -/
def State.discard (s : State) (pos off : Nat) (cls : WrClass) (src reason : Nat) : State :=
  let s := s.count (tileCounter pos (TILE_SPAD_DISCARD_CNT pos)) 1
  s.capture (TILE_SPAD_DISCARD_CAP pos)
    (packFields [(0, 27, off), (27, 9, src), (36, 2, cls.code.1), (38, 2, reason)]) (srcPos pos 19) 1

/-- A memory-side error counted and captured (R124, R126). -/
def State.msError (s : State) (pos core op cause off : Nat) : State :=
  let s := s.count (tileCounter pos (TILE_SPAD_MSERR_CNT pos)) 1
  s.capture (TILE_SPAD_MSERR_CAP pos) (packFields [(0, 3, core), (3, 2, op), (5, 3, cause), (8, 27, off)])
    (srcPos pos 19) 2

/-- Whether a window record is valid (R121); OPEN is not one of its bits. -/
def winValid (lo hi : Nat) : Bool :=
  let base := bitsOf lo 0 27
  let limit := bitsOf lo 32 27
  decide (bitsOf lo 27 5 = 0) && decide (bitsOf lo 59 5 = 0) && decide (base % 128 = 0) && decide (limit % 128 = 0)
    && decide (base < limit) && decide (limit ≤ spadLimit)
    && decide (bitsOf hi 9 7 = 0) && decide (bitsOf hi 25 7 = 0) && decide (bitsOf hi 36 28 = 0)

/-- A window set from a record, or closed by an invalid one (R124). -/
def State.winSet (s : State) (pos n lo hi : Nat) (core op capOff : Nat) : State :=
  if winValid lo hi then
    (s.wr (TILE_SPAD_WINn_LO pos n) lo).wr (TILE_SPAD_WINn_HI pos n) (setBitsOf hi 63 1 1)
  else
    (s.setFld (TILE_SPAD_WINn_HI_OPEN pos n) 0).msError pos core op 4 capOff

/-- Every window of a tile closed, with no change pending. -/
def State.winsClosed (s : State) (pos : Nat) : State :=
  let s : State := (List.range 16).foldl (fun (s : State) n => s.setFld (TILE_SPAD_WINn_HI_OPEN pos n) 0) s
  s.modTile pos (fun t => { t with wins := [] })

/-! ## Direct reach (R118, R119) -/

/-- The PATH of a reach entry: direction, logical ID and VALID under the current map (R119). -/
def State.pathOf (s : State) (pos d logical : Nat) (valid : Bool) : Nat :=
  if !valid then 3
  else match stepPos pos d, s.posOf logical with
    | some n, some q => if n = q then (if groveOf n = groveOf pos then 0 else 1) else 2
    | _, _ => 2

/-- PATH of entry `d` of a tile as it now is. -/
def State.reachPath (s : State) (pos d : Nat) : Nat :=
  s.pathOf pos d (s.fld (TILE_SPAD_REACH_d_LOGICAL pos d)) (s.flag (TILE_SPAD_REACH_d_VALID pos d))

/-- The first reach entry of a tile that names a logical ID. -/
def State.reachDir (s : State) (pos logical : Nat) : Option Nat :=
  (List.range 4).find? (fun d => s.flag (TILE_SPAD_REACH_d_VALID pos d)
    && decide (s.fld (TILE_SPAD_REACH_d_LOGICAL pos d) = logical))

/-- Agent that serves, at the target, an access sent in direction `d`: the port of the target that faces the
issuer (R165). -/
def portAgent (d : Nat) : Nat :=
  match d with
  | 0 => 12
  | 1 => 13
  | 2 => 10
  | _ => 11

end Sys2Proof.Machine
end

