-- ==== Sys2Proof/Machine/Router.lean ====
section
/-! DEFINITION. Shared operations of the routed mesh: packets and their answers (R168 to R170), links and credits
(R179, R180), trail tables (R181, R183), the HBM interleave (R195), the source router's tracking entries (R173), and
what an answer completes. -/

namespace Sys2Proof.Machine

/-! ## Packets -/

/-- Packet types (R169). -/
def tWRITE : Nat := 0
/-- READ. -/
def tREAD : Nat := 1
/-- RED. -/
def tRED : Nat := 2
/-- RDATA. -/
def tRDATA : Nat := 3
/-- ACK. -/
def tACK : Nat := 4
/-- NACK. -/
def tNACK : Nat := 5
/-- DEAD. -/
def tDEAD : Nat := 6

/-- Traffic class of a packet type: 0 REQ, 1 RSP, 2 RED (R169). -/
def classOf (type : Nat) : Nat := if type ≤ 1 then 0 else if type = 2 then 2 else 1

/-- A header with every field zero. -/
def Pkt.blank : Pkt where
  type := 0
  size := 0
  epoch := false
  ptr := 0
  nibs := []
  part := 0
  src := 0
  srckind := 0
  tag := 0
  addr := 0
  obj := 0
  add := 0
  en := false
  redid := 0
  rfmt := 0
  reason := 0
  inlineW := 0
  inlinePoison := 0
  payload := 0
  poison := 0
  home := 0
  back := none
  guard_ := none
  sum := false
  port := none
  badHeader := none

/-- The 512 header bits of a packet (R168). -/
def Pkt.header (p : Pkt) : BitVec 512 :=
  BitVec.ofNat 512 (packFields [(0, 4, p.type), (4, 2, p.size), (6, 1, p.epoch.toNat), (8, 6, p.ptr), (14, 6, p.nibs.length)
    , (20, 4, p.part), (24, 9, p.src), (33, 2, p.srckind), (35, 6, p.tag), (48, 48, p.addr.toNat), (96, 17, p.obj.toNat)
    , (113, 16, p.add.toNat), (129, 1, p.en.toNat), (130, 10, p.redid), (140, 4, p.rfmt), (144, 4, p.reason)
    , (256, 192, packDigits 4 (fun i => p.nibs.getD i 0) 48), (448, 64, p.inlineW.toNat)])

/-- The packet that header bits spell (R168), without payload and without what no header holds. -/
def pktOfHeader (h : BitVec 512) : Pkt :=
  let f (lo n : Nat) : Nat := bitsOf h.toNat lo n
  { Pkt.blank with
    type := f 0 4, size := f 4 2, epoch := h.getLsbD 6, ptr := f 8 6
    nibs := (List.range (f 14 6)).map (fun i => f (256 + 4 * i) 4)
    part := f 20 4, src := f 24 9, srckind := f 33 2, tag := f 35 6, addr := BitVec.ofNat 48 (f 48 48)
    obj := BitVec.ofNat 17 (f 96 17), add := BitVec.ofNat 16 (f 113 16), en := h.getLsbD 129, redid := f 130 10
    rfmt := f 140 4, reason := f 144 4, inlineW := BitVec.ofNat 64 (f 448 64) }

/-- Flits of a packet: 4 with a payload, else 1 (R167, R169). -/
def Pkt.flits (p : Pkt) : Nat := if p.type = tRED ∨ (p.size = 2 ∧ (p.type = tWRITE ∨ p.type = tRDATA)) then 4 else 1

/-- The moves made so far reversed, each direction inverted, exits left off (R170). -/
def reverseMoves (l : List Nat) : List Nat := ((l.filter (· < 4)).reverse).map (fun d => (d + 2) % 4)

/-- The answer to a packet, on the reverse of the moves it has made; an answer to a rim die or to the host bridge
leaves the mesh where its request came in (R170). -/
def Pkt.answer (p : Pkt) (type reason : Nat) : Pkt :=
  { Pkt.blank with
    type := type
    epoch := p.epoch
    nibs := reverseMoves (p.nibs.take p.ptr) ++ p.back.toList
    part := p.part
    src := p.src
    srckind := p.srckind
    tag := p.tag
    addr := p.addr
    reason := reason
    home := p.home }

/-- RDATA for a READ: 8 bytes inline or 256 bytes of payload. -/
def Pkt.rdata (p : Pkt) (data poison : Nat) : Pkt :=
  if p.size = 1 then
    { p.answer tRDATA 0 with size := 1, inlineW := BitVec.ofNat 64 data, inlinePoison := BitVec.ofNat 2 poison }
  else { p.answer tRDATA 0 with size := 2, payload := BitVec.ofNat 2048 data, poison := BitVec.ofNat 64 poison }

/-- Data bytes that a packet asks for or carries. -/
def Pkt.bytes (p : Pkt) : Nat := if p.size = 1 then 8 else 256

/-- Data a packet carries. -/
def Pkt.data (p : Pkt) : Nat := if p.size = 1 then p.inlineW.toNat else p.payload.toNat
/-- Poison bits of the words a packet carries. -/
def Pkt.dataPoison (p : Pkt) : Nat := if p.size = 1 then p.inlinePoison.toNat else p.poison.toNat

/-! ## Links and credits (R179, R180) -/

/-- Link out of a position: 0–3 mesh by direction, 4–7 to an H-rim die, 8–11 to an L-rim die, 12 to the host bridge,
28–31 neighbour port between groves. Into a position: 16 + side from an H-rim die, 20 + side from an L-rim die, 24
from the host bridge. -/
def linkKey (pos code : Nat) : Nat := pos * 32 + code
/-- Key of a link and class: 0 REQ, 1 RSP, 2 RED, 3 neighbour-port accesses. -/
def creditKey (link cls : Nat) : Nat := link * 4 + cls

/-- Slots of the buffer at the end of a link for a class; 0 where the class has none (R179, R198). -/
def linkSlots (link cls : Nat) : Nat :=
  let pos := link / 32
  let code := link % 32
  if code < 4 then
    let same := match stepPos pos code with
      | some n => decide (groveOf n = groveOf pos)
      | none => false
    if cls = 3 then 0 else if same then 8 else if cls = 0 then 24 else 16
  else if code < 8 then (if cls = 0 then 64 else 0)
  else if code < 12 then (if cls < 3 then 16 else 0)
  else if code = 12 then (if cls < 2 then 16 else 0)
  else if 16 ≤ code ∧ code < 20 then (if cls = 1 then 32 else 0)
  else if 20 ≤ code ∧ code < 24 then (if cls < 3 then 16 else 0)
  else if code = 24 then (if cls < 2 then 16 else 0)
  else if 28 ≤ code then (if cls = 3 then 32 else 0)
  else 0

/-- Credits a sender holds on a link and class. -/
def State.credits (s : State) (link cls : Nat) : Nat :=
  linkSlots link cls - SMap.get 0 s.creditUsed (creditKey link cls) - SMap.get 0 s.creditBack (creditKey link cls)

/-- Flits sent on a link. -/
def State.takeCredits (s : State) (link cls n : Nat) : State :=
  let k := creditKey link cls
  { s with creditUsed := SMap.put 0 s.creditUsed k (SMap.get 0 s.creditUsed k + n) }

/-- Slots of a buffer freed; their credits are on their way back. -/
def State.freeSlots (s : State) (link : Option Nat) (cls n : Nat) : State :=
  match link with
  | none => s
  | some l =>
    let k := creditKey l cls
    { s with
      creditUsed := SMap.put 0 s.creditUsed k (SMap.get 0 s.creditUsed k - n)
      creditBack := SMap.put 0 s.creditBack k (SMap.get 0 s.creditBack k + n) }

/-- The link whose buffer an input of a router is: the neighbour's mesh link, or the inward link of a rim die or the
host bridge; the local input has none. -/
def inLink (pos inport : Nat) : Option Nat :=
  if inport = 0 then none
  else if inport < 5 then (stepPos pos (inport - 1)).map (fun n => linkKey n ((inport + 1) % 4))
  else if inport = 6 then some (linkKey pos 24)
  else some (linkKey pos (8 + inport))

/-- INPORT code of an input in TILE_NET_DROP_CAP. -/
def inportCode (inport : Nat) : Nat := if inport < 5 then inport else if inport = 6 then 6 else 5

/-- The position of a place: that of the router, or of the router whose port or channel the packet uses. -/
def Place.pos : Place → Nat
  | .router pos _ => pos
  | .hrim _ pos => pos
  | .lrim _ pos => pos
  | .host pos => pos

/-- A packet put at a place, its words checked there or not yet (R178). -/
def State.placeAs (s : State) (checked : Bool) (p : Pkt) (w : Place) : State :=
  { s with net := s.net ++ [⟨p, w, s.cycle (groveOf w.pos), checked, false⟩] }
/-- A packet put at a place by the tile, a rim die or the host bridge. -/
def State.place (s : State) (p : Pkt) (w : Place) : State := s.placeAs false p w

/-- Item `n` out of the mesh; the head flit of the next packet of its input and class waits from now (R177). -/
def State.leaveNet (s : State) (n : Nat) : State :=
  match s.net[n]? with
  | none => s
  | some it =>
    let l := removeAt s.net n
    let same (x : NetItem) : Bool := decide (x.place = it.place) && decide (classOf x.pkt.type = classOf it.pkt.type)
    match l.findIdx? same with
    | none => { s with net := l }
    | some i =>
      match l[i]? with
      | none => { s with net := l }
      | some x =>
        let head : NetItem := { x with at_ := s.cycle (groveOf x.place.pos) }
        { s with net := if n ≤ i then replaceAt l i head else l }

/-- Packets of the host bridge put on its channel in order, as far as each class has credits (R179). -/
def State.bridgeOut (s : State) : List (Pkt × List Nat) → List (Pkt × List Nat) → State
  | [], kept => { s with bridge := { s.bridge with out := kept } }
  | x :: l, kept =>
    let link := linkKey (x.2.headD 0) 24
    let blocked := kept.any (fun y => decide (y.2.headD 0 = x.2.headD 0) && decide (classOf y.1.type = classOf x.1.type))
    if blocked || decide (s.credits link (classOf x.1.type) < x.1.flits) then s.bridgeOut l (kept ++ [x])
    else ((s.takeCredits link (classOf x.1.type) x.1.flits).place { x.1 with nibs := x.2.drop 1, ptr := 0 }
      (.router (x.2.headD 0) 6)).bridgeOut l kept

/-! ## Trail tables (R181, R183) and the interleave (R195) -/

/-- Nibbles of three table words. -/
def nibsOf (w0 w1 w2 len : Nat) : List Nat :=
  (List.range len).map (fun i => bitsOf (w0 + w1 * 2 ^ 64 + w2 * 2 ^ 128) (4 * i) 4)

/-- The selected trail table of a router. -/
def State.epoch (s : State) (pos : Nat) : Bool := s.flag (TILE_NET_CFG_EPOCH pos)

/-- A trail table entry of version A or B: its nibbles, if VALID. -/
def State.trailEntry (s : State) (pos : Nat) (e : Bool) (d : Nat) : Option (List Nat) :=
  let ctl := s.rd (if e then TILE_NET_SRTB_CTL pos d else TILE_NET_SRTA_CTL pos d)
  if bitsOf ctl 6 1 = 1 then
    some (nibsOf (s.rd (if e then TILE_NET_SRTB_NIB pos d else TILE_NET_SRTA_NIB pos d))
      (s.rd (if e then TILE_NET_SRTB_NIB1 pos d else TILE_NET_SRTA_NIB1 pos d))
      (s.rd (if e then TILE_NET_SRTB_NIB2 pos d else TILE_NET_SRTA_NIB2 pos d)) (bitsOf ctl 0 6))
  else none

/-- CTL word of a reduction table entry of version A or B: LEN, VALID, FINAL, FANIN, FMT. -/
def State.redCtl (s : State) (pos : Nat) (e : Bool) (r : Nat) : Nat :=
  s.rd (if e then TILE_NET_REDB_CTL pos r else TILE_NET_REDA_CTL pos r)

/-- Trail of a reduction table entry. -/
def State.redNibs (s : State) (pos : Nat) (e : Bool) (r : Nat) : List Nat :=
  nibsOf (s.rd (if e then TILE_NET_REDB_NIB pos r else TILE_NET_REDA_NIB pos r))
    (s.rd (if e then TILE_NET_REDB_NIB1 pos r else TILE_NET_REDA_NIB1 pos r))
    (s.rd (if e then TILE_NET_REDB_NIB2 pos r else TILE_NET_REDA_NIB2 pos r)) (bitsOf (s.redCtl pos e r) 0 6)

/-- The destination index that no table entry has. -/
def noDest : Nat := 1000

/-- The trail to a destination index: one of the 640 trail table entries, or for 1,024 and above a reduction table
entry. -/
def State.trailTo (s : State) (pos dest : Nat) : Option (List Nat) :=
  let e := s.epoch pos
  if dest < 640 then s.trailEntry pos e dest
  else if dest < 1024 then none
  else if bitsOf (s.redCtl pos e (dest - 1024)) 6 1 = 1 then some (s.redNibs pos e (dest - 1024)) else none

/-- Granule of a GRAN code (R195). -/
def granule (gran : Nat) : Nat :=
  match gran with
  | 0 => 256
  | 1 => 4096
  | 2 => 65536
  | _ => 2097152

/-- The stack and stack address of an HBM offset under a set and granule (R195). -/
def hbmMap (set gran off : Nat) : Option (Nat × Nat) :=
  let ks := (List.range 48).filter (Nat.testBit set)
  let g := granule gran
  match ks[(off / g) % ks.length]? with
  | some k => some (k, (off / g / ks.length) * g + off % g)
  | none => none

/-- The trail index of a data-space address at a router: its logical ID, or 512 plus its stack (R173, R181). -/
def State.destOf (s : State) (pos : Nat) (a : BitVec 48) : Option Nat :=
  match s.dspace a.toNat with
  | some (.spad l _) => some l
  | some (.hbm off) =>
    (hbmMap (s.fld (GRV_HBM_MAP_SET (groveOf pos))) (s.fld (GRV_HBM_MAP_GRAN (groveOf pos))) off).map (fun r => 512 + r.1)
  | _ => none

/-! ## Tracking entries (R173) -/

/-- Tracking entries of a router that are in use. -/
def State.tracks (s : State) (pos : Nat) : SMap Track :=
  s.track.filter (fun e => decide (e.1 / 64 = pos))
/-- The lowest free tag of a router. -/
def State.freeTag (s : State) (pos : Nat) : Option Nat :=
  (List.range 64).find? (fun t => (s.track.find? (fun e => e.1 = pos * 64 + t)).isNone)
/-- The entry of a tag. -/
def State.trackAt (s : State) (pos tag : Nat) : Option Track :=
  (s.track.find? (fun e => e.1 = pos * 64 + tag)).map (·.2)
/-- An entry written. -/
def State.setTrack (s : State) (pos tag : Nat) (t : Track) : State :=
  { s with track := s.track.insert (pos * 64 + tag) t }
/-- An entry freed. -/
def State.freeTrack (s : State) (pos tag : Nat) : State := { s with track := s.track.erase (pos * 64 + tag) }

/-- Logical ID that a tracked packet is for: that of its trail, or that of the address of a reduction's total. -/
def State.logicalDest (s : State) (t : Track) : Option Nat :=
  if t.dest < 512 then some t.dest
  else if t.dest < 1024 then none
  else match s.dlayout t.pkt.addr.toNat 256 with
    | some (.spad l _) => some l
    | _ => none

/-- A tracked packet held from now (R173). -/
def Track.holdFrom (t : Track) (now : Nat) (h : Hold) : Track :=
  { t with hold := h, heldFrom := some (t.heldFrom.getD now) }
/-- A tracked packet on its way again: the time it was held adds up. -/
def Track.letGo (t : Track) (now : Nat) : Track :=
  { t with heldFor := t.heldFor + (now - t.heldFrom.getD now), heldFrom := none }

/-- A packet as its source router stamps it: SRC, PART, TAG, EPOCH (R168). -/
def State.stamp (s : State) (pos tag : Nat) (p : Pkt) : Pkt :=
  { p with src := (s.logical pos).getD 0, part := (s.partOf pos).getD 0, srckind := 0, tag := tag
           epoch := s.epoch pos, ptr := 0, home := pos }

/-- A tracked packet sent: held while its logical destination has no position under the router's map copy, answered
locally with reason 4 when it has no trail, else put on the mesh (R173). -/
def State.dispatch (s : State) (pos tag : Nat) (t : Track) : State :=
  let t : Track := { t with pkt := s.stamp pos tag t.pkt }
  if (s.logicalDest t).any (fun l => (s.copyPos pos l).isNone) then s.setTrack pos tag (t.holdFrom s.now .nowhere)
  else
    let s := s.setTrack pos tag { t.letGo s.now with hold := .out, sent := s.now }
    match s.trailTo pos t.dest with
    | none => s.place { t.pkt.answer tNACK 4 with nibs := [] } (.router pos 0)
    | some nibs => s.place { t.pkt with nibs := nibs } (.router pos 0)

/-- A packet sent from a router with a tracking entry for `holder`; nothing where no entry is free. -/
def State.sendPacket (s : State) (pos dest : Nat) (p : Pkt) (holder : Holder) : State :=
  match s.freeTag pos with
  | none => s
  | some tag => s.dispatch pos tag ⟨p, dest, .out, holder, s.now, none, 0, none⟩

/-- A fabric packet sent from a router by entry `index` of its route table, at a displacement (R233). -/
def State.sendRouted (s : State) (pos port : Nat) (p : Pkt) (holder : Holder) (index : Nat) (disp : Int) : State :=
  match s.freeTag pos with
  | none => s
  | some tag => s.dispatch pos tag ⟨p, 560 + port, .out, holder, s.now, none, 0, some (index, disp)⟩

/-- A drop captured in TILE_NET_DROP_CAP: source 19 CAUSE 4 (R171, R173, R277). -/
def State.dropCapture (s : State) (pos cause inport : Nat) (p : Pkt) : State :=
  s.capture (TILE_NET_DROP_CAP pos)
    (packFields [(0, 4, cause), (4, 3, inportCode inport), (7, 9, p.src), (16, 4, p.type), (20, 1, p.epoch.toNat)
      , (21, 6, p.ptr), (27, 6, p.tag), (33, 28, p.addr.toNat)]) (srcPos pos 19) 4

/-- A packet dropped at a router: counted and captured (R171). -/
def State.dropped (s : State) (pos cause inport : Nat) (p : Pkt) : State :=
  (s.count (tileCounter pos (TILE_NET_DROP_CNT pos)) 1).dropCapture pos cause inport p

/-! ## Mover queue entries (R199 to R203) -/

/-- Fields of a mover descriptor (R200). -/
structure MDesc where
  src : Nat
  dst : Nat
  rowBytes : Nat
  rows : Nat
  sstride : Int
  dstride : Int
  obj : Nat
  add : Nat
  en : Bool
  paced : Bool
  imem : Bool
  deriving DecidableEq, Repr

/-- A descriptor from its words. -/
def mdescOf (w : List W64) : MDesc :=
  let x (i : Nat) : Nat := (w.getD i 0).toNat
  { src := bitsOf (x 0) 0 48, dst := bitsOf (x 1) 0 48, rowBytes := bitsOf (x 2) 0 24, rows := bitsOf (x 2) 24 16
    sstride := signedOf 32 (bitsOf (x 3) 0 32), dstride := signedOf 32 (bitsOf (x 3) 32 32)
    obj := bitsOf (x 4) 0 17, add := bitsOf (x 4) 32 16, en := Nat.testBit (x 4) 63
    paced := Nat.testBit (x 5) 0, imem := Nat.testBit (x 5) 1 }

/-- Source and destination addresses of packet `i` of a descriptor, in ascending row and address order (R202). -/
def MDesc.packet (d : MDesc) (i : Nat) : Nat × Nat :=
  let per := d.rowBytes / 256
  let row := i / per
  let col := 256 * (i % per)
  (((d.src : Int) + d.sstride * row + col).toNat, ((d.dst : Int) + d.dstride * row + col).toNat)

/-- A mover-queue entry changed. -/
def State.modEntry (s : State) (pos id : Nat) (f : QEntry → QEntry) : State :=
  s.modTile pos (fun t => { t with queue := t.queue.map (fun e => if e.id = id then f e else e) })

/-- Packet `i` of a mover entry answered: acknowledged, or refused with a reason; the first refusal is kept
(R203). -/
def QEntry.answered (e : QEntry) (i : Nat) (refused : Option Nat) (addr : BitVec 48) (poison : Bool) : QEntry :=
  let e := { e with outstanding := e.outstanding - 1, poison := e.poison || poison }
  match refused with
  | none => { e with acked := e.acked.add i }
  | some r => if e.refused.isSome then e else { e with refused := some r, refusedAddr := addr }

/-- Entries a tile's mover queue holds. -/
def State.queueLen (s : State) (pos : Nat) : Nat := (s.tile pos).queue.length

/-- Whether an instruction may take a mover-queue entry: one is free, and no checkpoint record or management entry
waits for it (R199). -/
def State.queueRoom (s : State) (pos : Nat) : Bool :=
  let t := s.tile pos
  decide (t.queue.length < 16) && t.ckpts.isEmpty && t.mgmt.isNone

/-- An entry appended to a tile's mover queue. -/
def State.enqueue (s : State) (pos : Nat) (kind : QKind) (engine core posted : Nat) (desc : List W64) (off : Nat)
    (ready : Bool) : State :=
  s.modTile pos (fun t => { t with
    nextId := t.nextId + 1
    queue := t.queue ++ [{ id := t.nextId, kind := kind, engine := engine, core := core, posted := posted, desc := desc
                           off := off, ready := ready, started := false, bad := false, issued := 0, total := 0, outstanding := 0
                           acked := [], refused := none, refusedAddr := 0, poison := false, lastAt := 0, piece := none }] })

/-! ## What an answer completes -/

/-- A load's data written to its register with its poison bits (R69, R79). -/
def Core.landLoad (c : Core) (dst : LoadDst) (data poison : Nat) : Core :=
  match dst with
  | .sreg n => if n = 0 then c else { c with s := SMap.put ⟨0, 0⟩ c.s n ⟨BitVec.ofNat 64 data, BitVec.ofNat 2 poison⟩ }
  | .vreg n => { c with v := SMap.put ⟨0, 0⟩ c.v n ⟨BitVec.ofNat 2048 data, BitVec.ofNat 64 poison⟩ }

/-- The data of a flow-controlled load is back (R69). -/
def State.loadBack (s : State) (key : Nat) (dst : LoadDst) (data poison : Nat) : State :=
  s.modCore key (fun c =>
    let c := c.landLoad dst data poison
    match c.stall with
    | .load _ => { c with stall := .load true }
    | _ => c)

/-- A negative acknowledgement returned for a core's write, counted in its PERF3 (R75, R173). -/
def State.perfNack (s : State) (key : Nat) : State := s.perf (key / 8) (key % 8) 3 1

/-- The end of a tracked packet without data: final refusal `reason`, or performed when none (R173). -/
def State.conclude (s : State) (t : Track) (refused : Option Nat) : State :=
  match t.holder with
  | .posted key id =>
    let s := match refused with
      | some r => if r = 6 ∨ r = 7 then s else s.perfNack key
      | none => s
    s.posted key id
  | .load key dst =>
    match refused with
    | some _ => s.loadBack key dst 0 (2 ^ 64 - 1)
    | none => s
  | .mover pos id i => s.modEntry pos id (fun e =>
    e.answered i refused t.pkt.addr (refused.isNone && decide (t.pkt.poison ≠ 0)))
  | _ => s

end Sys2Proof.Machine
end

