-- ==== Sys2Proof/Machine/Flags.lean ====
section
/-! DEFINITION. What a bundle raises before it performs anything: the traps of each slot with their TCAUSE and TINFO
(R77 to R79), the clash of two writes (R45), and the stalls of the T slot (R46). -/

namespace Sys2Proof.Machine

/-- A trap: TCAUSE, TINFO.SLOT, TINFO.REG, TINFO.ADDR, TINFO.HDR, and whether a check-bit error of the instruction
store raised it (R74, R77, R277). -/
structure Trap where
  cause : Nat
  slot : Nat
  reg : Nat
  addr : Nat
  hdr : Bool
  ecc : Bool
  deriving DecidableEq, Repr

/-- A trap with a cause, a slot and a register number. -/
def Trap.at (cause slot reg : Nat) : Trap := ⟨cause, slot, reg, 0, false, false⟩
/-- A trap of the T or M slot with a data-space address. -/
def Trap.addrAt (cause slot addr : Nat) : Trap := ⟨cause, slot, 0, addr % 2 ^ 48, false, false⟩

/-- TILE_CORE_TINFO of a trap (R74). -/
def Trap.info (t : Trap) : Nat := packFields [(0, 2, t.slot), (2, 6, t.reg), (8, 1, t.hdr.toNat), (16, 48, t.addr)]

/-- The first poisoned register of a list, as the trap that its consumption raises (R79). -/
def Core.sPoisonTrap (c : Core) (slot : Nat) (regs : List Nat) : Option Trap :=
  (regs.find? c.sPoison).map (fun r => Trap.at 4 slot r)

/-! ## S slot -/

/-- Control registers by index: what a core may do with them (R73). -/
inductive CrAccess where
  | rw | ro | none
  deriving DecidableEq, Repr

/-- Core access of a control-register index: nothing for a reserved index. -/
def crAccess (i : Nat) : Option CrAccess :=
  if i ≤ 3 ∨ (9 ≤ i ∧ i ≤ 0x0F) then some .ro
  else if (4 ≤ i ∧ i ≤ 6) ∨ i = 8 ∨ (0x10 ≤ i ∧ i ≤ 0x13) then some .rw
  else if i = 0x21 then some .ro
  else if i = 0x20 ∨ i = 0x22 then some .none
  else none

/-- Trap of the S slot, if any (R49 to R51, R70, R71, R73, R79). An s.loop of END 0 raises the loop trap (log entry
97). -/
def Core.sTrap (c : Core) (w : Nat) : Option Trap :=
  let ill := some (Trap.at 1 0 0)
  let pc := c.pc.toNat
  match sForm (opcOf w) with
  | none => ill
  | some f =>
    if hasReserved w f.used then ill
    else if (f = .mfcr ∨ f = .mtcr) ∧ (crAccess (bitsOf w 22 8)).isNone then ill
    else if !c.slotOn w then none
    else match f with
      | .br | .call => if 0 ≤ sTarget pc w ∧ sTarget pc w ≤ 2047 then none else some (Trap.at 7 0 0)
      | .jr =>
        match c.sPoisonTrap 0 [sRa w] with
        | some t => some t
        | none => if (c.sreg (sRa w)).val.toNat < 2048 then none else some (Trap.at 7 0 0)
      | .loop =>
        if sRa w ≠ 0 ∧ c.sPoisonLow (sRa w) then some (Trap.at 4 0 (sRa w))
        else
          let stop := pc + bitsOf w 22 11
          let inside : Bool := match c.loops.getLast? with
            | some l => decide (stop ≤ l.stop.toNat)
            | none => true
          if bitsOf w 12 2 = c.loops.length ∧ c.loops.length < 4 ∧ 1 ≤ bitsOf w 22 11 ∧ stop ≤ 2047 ∧ inside then none
          else some (Trap.at 6 0 0)
      | .trap => some (Trap.at 8 0 (bitsOf w 22 6))
      | .mfcr | .mtcr =>
        if crAccess (bitsOf w 22 8) = some .none then ill else c.sPoisonTrap 0 (sReads f w)
      | _ => c.sPoisonTrap 0 (sReads f w)

/-! ## V slot -/

/-- Element width of a packed format. -/
def fmtWidth (code : Nat) : Nat :=
  match formatOf code with
  | some f => f.width
  | none => 32

/-- Source lanes that v.cvt consumes: those whose elements lie in an enabled destination lane (R53, R86). -/
def cvtLanes (code : Nat) (on : Lanes) : Lanes := Lanes.ofFn (fun i => on.getLsbD (fmtWidth code * i / 32))

/-- Packed lanes that v.unpk consumes: those that hold an element, or the scales, of an enabled lane (R53, R86). -/
def unpkLanes (code part : Nat) (on : Lanes) : Lanes :=
  let w := fmtWidth code
  let base := 2 * w * part
  Lanes.ofFn (fun m => (List.range 64).any (fun i => on.getLsbD i
    && (decide (base + w * i / 32 ≤ m ∧ m ≤ base + (w * i + w - 1) / 32) || (decide (m = 63) && decide (6 ≤ code)))))

/-- Whether the format code of a V slot is one its opcode allows (R42, R54, R312). -/
def State.vFmtOk (s : State) (f : VForm) (fmt : Nat) : Bool :=
  match f with
  | .elem _ .fp | .red => decide (fmt = 0)
  | .elem _ .int => decide (fmt = 13)
  | .elem _ .either | .cmp => decide (fmt = 0 ∨ fmt = 13)
  | .cvt => decide ((1 ≤ fmt ∧ fmt ≤ 5) ∨ fmt = 13)
  | .unpk => s.fmtM fmt
  | _ => true

/-- Trap of the V slot, if any (R52 to R54, R79, R87). -/
def State.vTrap (s : State) (c : Core) (w : Nat) : Option Trap :=
  let ill := some (Trap.at 1 1 0)
  match vForm (opcOf w) with
  | none => ill
  | some f =>
    if hasReserved w f.used || !s.vFmtOk f (vFmt w) then ill
    else if f = .cvt ∧ !s.rndOk (vRnd w) then ill
    else if f = .unpk ∧ partsOf (vFmt w) ≤ vImm w then ill
    else if f = .rand ∧ !Nat.testBit (s.rd DESC_FEATURES) 3 then ill
    else
      let on := c.lanesOf (predOf w)
      let bad (r : Nat) (lanes : Lanes) : Option Trap := if c.vPoison r lanes then some (Trap.at 4 1 r) else none
      match f with
      | .elem n _ => ([vVa w, vVb w, vVc w].take n).findSome? (fun r => bad r on)
      | .cmp => [vVa w, vVb w].findSome? (fun r => bad r on)
      | .red => bad (vVa w) on
      | .cvt => bad (vVa w) (cvtLanes (vFmt w) on)
      | .unpk => bad (vVa w) (unpkLanes (vFmt w) (vImm w) on)
      | .shuf => bad (vVb w) on
      | _ => none

/-! ## M slot -/

/-- Whether the formats, rounding, scale rule and count of an M slot are usable (R42, R55 to R57, R87, R96, R312). -/
def State.mCodesOk (s : State) (w : Nat) : Bool :=
  match opcOf w with
  | 0x01 => s.fmtM (mFmtW w)
  | 0x02 => s.fmtM (mFmtA w) && s.fmtM (mFmtW w) && decide (isIntFormat (mFmtA w) = isIntFormat (mFmtW w))
      && decide (1 ≤ mCount w ∧ mCount w ≤ 64)
  | 0x05 => s.fmtM (mFmtA w) && s.rndOk (mRnd w)
      && (if 6 ≤ mFmtA w then decide (mSrule w ≤ 1) || (decide (mSrule w = 2) && Nat.testBit (s.rd DESC_FEATURES) 2)
          else decide (mSrule w = 0))
  | _ => true

/-- First cycle held for a key of an M-slot timing table. -/
def mtGet (m : SMap Nat) (k : Nat) : Nat := SMap.get 0 m k

/-- Whether a word of the activation vectors that an m.mmul takes from its stream is poisoned, words wholly of pad
apart (R79, R85). -/
def State.actsPoison (s : State) (pos : Nat) (d : Stream) (fmt n : Nat) : Bool :=
  (List.range n).any (fun i =>
    decide (s.spadPoisonBits pos (d.elemAddr (d.pos.toNat + i) % 2 ^ 27) (4 * activationWords fmt) ≠ 0))

/-- Trap of the M slot of a bundle issued in cycle `t`, if any (R55 to R60, R62, R79): the reserved encoding first, then
timing, format, overrun and poison (log entry 97). -/
def State.mTrap (s : State) (pos : Nat) (c : Core) (w t : Nat) : Option Trap :=
  let ill := some (Trap.at 1 2 0)
  let timing := some (Trap.at 5 2 0)
  match mUsed (opcOf w) with
  | none => ill
  | some used =>
    if hasReserved w used || !s.mCodesOk w then ill
    else if !c.slotOn w then none
    else
      let d := c.stream (mTs w)
      let a := mAcc w
      match opcOf w with
      | 0x01 =>
        if d.feeder ≠ 2 ∨ t < c.mt.ldwFree ∨ t < mtGet c.mt.wbFree (mWb w) then timing
        else if d.fmt.toNat ≠ mFmtW w then ill
        else if d.count.toNat < d.pos.toNat + 1 then some (Trap.addrAt 9 2 (d.elemAddr d.pos.toNat))
        else none
      | 0x02 =>
        if d.feeder ≠ 1 ∨ t < c.mt.mmulFree ∨ t < mtGet c.mt.wbReady (mWb w) ∨ t < mtGet c.mt.accUse a then timing
        else if d.fmt.toNat ≠ mFmtA w then ill
        else if d.count.toNat < d.pos.toNat + mCount w then some (Trap.addrAt 9 2 (d.elemAddr d.pos.toNat))
        else if (c.wbuf (mWb w)).poison ≠ 0 then some (Trap.at 4 2 (mWb w))
        else if s.actsPoison pos d (mFmtA w) (mCount w) then some (Trap.at 4 2 (mTs w))
        else none
      | 0x03 | 0x05 => if t < mtGet c.mt.accRead a ∨ t < mtGet c.mt.accUse a then timing else none
      | 0x04 =>
        if t < mtGet c.mt.accRead a then timing
        else if c.vPoison (mVr w) (BitVec.allOnes 64) then some (Trap.at 4 2 (mVr w))
        else none
      | 0x06 => if t < mtGet c.mt.accRead a then timing else none
      | _ => none

/-! ## T slot -/

/-- Where a direct access goes (R68, R69, R119): the own scratchpad, a physical neighbour in a direction (of the same
grove or of another), or a logical tile over the routed mesh. -/
inductive Reach where
  | own (off : Nat)
  | near (d pos off : Nat) (same : Bool)
  | routed (logical off : Nat)
  deriving DecidableEq, Repr

/-- The target of a direct access of `n` bytes, or the trap it raises (R31, R63, R68). -/
def State.reach (s : State) (pos addr n align : Nat) : Trap ⊕ Reach :=
  match s.dspan addr n with
  | none => .inl (Trap.addrAt 2 3 addr)
  | some (.spad l off) =>
    if addr % align ≠ 0 then .inl (Trap.addrAt 2 3 addr)
    else if s.logical pos = some l then .inr (.own off)
    else match s.reachDir pos l with
      | none => .inl (Trap.addrAt 3 3 addr)
      | some d =>
        match s.reachPath pos d, stepPos pos d with
        | 0, some q => .inr (.near d q off true)
        | 1, some q => .inr (.near d q off false)
        | _, _ => .inr (.routed l off)
  | some _ => if addr % align ≠ 0 then .inl (Trap.addrAt 2 3 addr) else .inl (Trap.addrAt 3 3 addr)

/-- Bytes and alignment of a direct access by opcode (R63). -/
def tShape (opc : Nat) : Nat × Nat :=
  match opc with
  | 0x02 | 0x03 => (8, 8)
  | 0x05 => (256, 32)
  | _ => (256, 128)

/-- The address a direct-access opcode names: sa + imm, or the next element of a wheel stream. -/
def Core.tDirect (c : Core) (w : Nat) : Nat :=
  if opcOf w = 0x06 ∨ opcOf w = 0x07 then (c.stream (tTd w)).elemAddr (c.stream (tTd w)).pos.toNat else c.tAddr w

/-- Reserved bits of a sync attachment in sb (R64). -/
def attachReserved (sb : W64) : Bool := decide (bitsOf sb.toNat 17 15 ≠ 0 ∨ bitsOf sb.toNat 48 15 ≠ 0)

/-- The offset that t.mov and t.wopen name, the low bits taken as zero (R435). -/
def ownOffset (sa size : Nat) : Option Nat :=
  let off := sa / size * size
  if sa < 2 ^ 27 ∧ off + size ≤ spadLimit then some off else none

/-- The route table entry a t.sendr names (R231, R233): KIND, PORT, REC, DADDR, EXTENT. -/
structure Route where
  kind : Nat
  port : Nat
  record : Nat
  daddr : Nat
  extent : Nat
  deriving DecidableEq, Repr

/-- Entry `i` of the version of the route table that a router's EPOCH selects (R231). -/
def State.route (s : State) (pos i : Nat) : Route :=
  let g := groveOf pos
  let w0 := s.rd (if s.epoch pos then GRV_ROUTEB_W0 g i else GRV_ROUTEA_W0 g i)
  let w1 := s.rd (if s.epoch pos then GRV_ROUTEB_W1 g i else GRV_ROUTEA_W1 g i)
  ⟨bitsOf w0 0 2, bitsOf w0 8 6, bitsOf w0 16 6, bitsOf w0 48 16 + 2 ^ 16 * bitsOf w1 0 32, bitsOf w1 32 32⟩

/-- Whether t.set's operands break a layout or alignment rule of R62, name a reserved format (R42, R77), or a feeder
stream leaves its bank group; one of COUNT 0 must have its base element there (log entry 97). -/
def State.setTrap (s : State) (pos core : Nat) (sa sb sc : W64) : Option Trap :=
  let d := streamOf sa sb sc
  let al := if d.feeder = 0 then 128 else 32
  let addr := some (Trap.addrAt 2 3 d.base.toNat)
  if sa.toNat ≥ 2 ^ 48 ∨ sb.toNat ≥ 2 ^ 40 ∨ sc.toNat ≥ 2 ^ 7 ∨ d.feeder = 3
      ∨ d.base.toNat % al ≠ 0 ∨ d.stride.toNat % al ≠ 0 then addr
  else if d.feeder = 0 then none
  else if d.dir then addr
  else if !s.fmtM d.fmt.toNat then some (Trap.at 1 3 0)
  else match s.dspace d.base.toNat with
    | none => addr
    | some (.spad l off) =>
      let g : Int := ((2 * core + d.feeder.toNat - 1) * 0x600000 : Nat)
      let e := d.extent off
      if s.logical pos = some l ∧ g ≤ e.1 ∧ e.2 ≤ g + 0x600000 then none else some (Trap.addrAt 3 3 d.base.toNat)
    | some _ => some (Trap.addrAt 3 3 d.base.toNat)

/-- Trap of a send to an address: R31, the sync space, reserved attachment bits (R63, R64, log entry 97). -/
def State.sendTrap (s : State) (addr : Nat) (sb : W64) : Option Trap :=
  match s.dspan addr 256 with
  | some (.spad _ _) | some (.hbm _) => if attachReserved sb then some (Trap.addrAt 2 3 addr) else none
  | _ => some (Trap.addrAt 2 3 addr)

/-- Trap of the T slot of a bundle issued in cycle `t`, if any (R31, R60 to R63, R68, R79, R146, R158, R232, R233,
R435). A wheel stream of the other DIR raises the address trap (log entry 97). -/
def State.tTrap (s : State) (pos core : Nat) (c : Core) (w t : Nat) : Option Trap :=
  let opc := opcOf w
  let ill := some (Trap.at 1 3 0)
  match tUsed opc with
  | none => ill
  | some used =>
    if hasReserved w used then ill
    else if !c.slotOn w then none
    else
      let sa := (c.sreg (tSa w)).val
      let sb := (c.sreg (tSb w)).val
      let sc := (c.sreg (tSc w)).val
      let d := c.stream (tTd w)
      let poison :=
        if opc = 0x0B ∨ opc = 0x0C ∨ opc = 0x0D then
          match c.sPoisonTrap 3 (if opc = 0x0D then [tSa w, tSc w] else [tSa w]) with
          | some p => some p
          | none => if c.sPoisonLow (tSb w) then some (Trap.at 4 3 (tSb w)) else none
        else if opc = 0x15 ∧ c.vPoison (tVx w) (BitVec.allOnes 64) then
          (match c.sPoisonTrap 3 (tReads opc w) with
            | some p => some p
            | none => some (Trap.at 4 3 (tVx w)))
        else c.sPoisonTrap 3 (tReads opc w)
      match poison with
      | some p => some p
      | none =>
        match opc with
        | 0x01 => if t < mtGet c.mt.streamBusy (tTd w) then some (Trap.at 5 3 0) else s.setTrap pos core sa sb sc
        | 0x02 | 0x03 | 0x04 | 0x05 =>
          (match s.reach pos (c.tDirect w) (tShape opc).1 (tShape opc).2 with
            | .inl p => some p
            | .inr _ => none)
        | 0x06 | 0x07 =>
          if d.feeder ≠ 0 then some (Trap.at 5 3 0)
          else if d.dir ≠ (opc == 0x07) then some (Trap.addrAt 2 3 d.base.toNat)
          else if d.count.toNat < d.pos.toNat + 1 then some (Trap.addrAt 9 3 (d.elemAddr d.pos.toNat))
          else (match s.reach pos (c.tDirect w) 256 128 with
            | .inl p => some p
            | .inr _ => none)
        | 0x08 | 0x15 => s.sendTrap sa.toNat sb
        | 0x09 =>
          if (c.tAddr w) < 1024 then none else some (Trap.addrAt 2 3 (c.tAddr w))
        | 0x0A =>
          let r := s.route pos (bitsOf sa.toNat 0 10)
          let imm := tImmS w
          if sa.toNat ≥ 2 ^ 13 ∨ r.kind = 0 ∨ imm < 0 ∨ imm + 256 > r.extent ∨ imm % 128 ≠ 0 then
            some (Trap.addrAt 2 3 sa.toNat)
          else if r.kind = 1 then s.sendTrap (((r.daddr : Int) + imm).toNat) sb
          else if attachReserved sb then some (Trap.addrAt 2 3 sa.toNat) else none
        | 0x0B =>
          (match s.dspace sa.toNat with
            | some (.sync _) => none
            | _ => some (Trap.addrAt 2 3 sa.toNat))
        | 0x0C =>
          (match s.dspace sa.toNat with
            | none => some (Trap.addrAt 2 3 sa.toNat)
            | some (.sync o) => if s.logical pos = some (o / 256) then none else some (Trap.addrAt 3 3 sa.toNat)
            | some _ => some (Trap.addrAt 3 3 sa.toNat))
        | 0x0F => if (ownOffset sa.toNat 64).isSome then none else some (Trap.addrAt 2 3 sa.toNat)
        | 0x12 => if (ownOffset sa.toNat 16).isSome then none else some (Trap.addrAt 2 3 sa.toNat)
        | 0x10 | 0x11 =>
          let n := bitsOf sb.toNat 24 12 * bitsOf sb.toNat 36 8 + (if opc = 0x10 then bitsOf sb.toNat 62 1 else 0)
          if d.feeder ≠ 0 then some (Trap.at 5 3 0)
          else if sa.toNat ≥ 256 ∨ Nat.testBit sb.toNat 61 ∨ d.dir ≠ (opc == 0x10) then
            some (Trap.addrAt 2 3 d.base.toNat)
          else if d.count.toNat < d.pos.toNat + n then some (Trap.addrAt 9 3 (d.elemAddr d.pos.toNat))
          else if n = 0 then none
          else (match s.reach pos (d.elemAddr d.pos.toNat) 256 128, s.reach pos (d.elemAddr (d.pos.toNat + n - 1)) 256 128 with
            | .inr (.own _), .inr (.own _) => none
            | .inr _, _ => some (Trap.addrAt 2 3 (d.elemAddr d.pos.toNat))
            | .inl p, _ => some { p with cause := 2 })
        | _ => none

/-! ## The whole bundle (R77) -/

/-- The trap of a bundle issued in cycle `t`, if any: reserved header bits ahead of every slot, then the lowest slot
(R77); a disabled slot must be all zeros (R40). -/
def State.bundleTrap (s : State) (pos core : Nat) (c : Core) (b : Bundle) (t : Nat) : Option Trap :=
  if b.reserved ≠ 0 then some ⟨1, 0, 0, 0, true, false⟩
  else
    let off (k : Nat) : Option Trap := if b.slot k = 0 then none else some (Trap.at 1 k 0)
    [ if b.on 0 then c.sTrap b.s else off 0
    , if b.on 1 then s.vTrap c b.v else off 1
    , if b.on 2 then s.mTrap pos c b.m t else off 2
    , if b.on 3 then s.tTrap pos core c b.t t else off 3 ].findSome? id

/-! ## Two writes in one cycle (R45) -/

/-- The turn at which a direct access of a core issued in cycle `t` completes, where its latency is fixed: own tile or
same-grove neighbour; with the cycles from that turn to the first bundle that reads the result (R63, R165). -/
def State.loadLanding (s : State) (pos core : Nat) (c : Core) (w t : Nat) : Option Nat :=
  let key := coreKey pos core
  let leave := s.leaveAt key t
  let len := (tShape (opcOf w)).1
  match s.reach pos (c.tDirect w) len (tShape (opcOf w)).2 with
  | .inr (.own off) =>
    let a := accessOf pos core off len (dueFrom core off leave) .answer
    some (a.lastDue + 4)
  | .inr (.near d q off true) =>
    let a := accessOf q (portAgent d) off len (dueFrom (portAgent d) off leave) .answer
    some (a.lastDue + 6)
  | _ => none

/-- Register writes of a bundle issued in cycle `t`: slot, destination, first cycle that reads it. -/
def State.bundleWrites (s : State) (pos core : Nat) (c : Core) (b : Bundle) (t : Nat) : List (Nat × Dst × Nat) :=
  let sw := if b.on 0 && c.slotOn b.s then
      ((sForm (opcOf b.s)).bind (fun f => sDst f b.s)).toList.map (fun d => (0, d, t + sLatency (opcOf b.s)))
    else []
  let vw := if b.on 1 then
      ((vForm (opcOf b.v)).bind (fun f => vDst f b.v (c.lanesOf (predOf b.v)))).toList.map
        (fun d => (1, d, t + vLatency (opcOf b.v) (vFmt b.v)))
    else []
  let mw := if b.on 2 && c.slotOn b.m then
      match opcOf b.m with
      | 0x03 => [(2, Dst.vreg (mVr b.m), t + 2)]
      | 0x05 => [(2, Dst.vreg (mVr b.m), t + 4)]
      | _ => []
    else []
  let tw := if b.on 3 && c.slotOn b.t then
      match opcOf b.t with
      | 0x02 => if tSc b.t = 0 then [] else (s.loadLanding pos core c b.t t).toList.map (fun d => (3, Dst.sreg (tSc b.t), d))
      | 0x04 | 0x06 => (s.loadLanding pos core c b.t t).toList.map (fun d => (3, Dst.vreg (tVx b.t), d))
      | 0x09 => if tSc b.t = 0 then [] else [(3, Dst.sreg (tSc b.t), t + 4)]
      | _ => []
    else []
  sw ++ vw ++ mw ++ tw

/-- The register a load writes. -/
def LoadDst.dst : LoadDst → Dst
  | .sreg n => .sreg n
  | .vreg n => .vreg n

/-- Register writes in flight of a core: destination and first cycle that reads it. -/
def State.flightWrites (s : State) (key : Nat) (c : Core) : List (Dst × Nat) :=
  c.pend.map (fun p => (p.dst, p.due)) ++
  (s.ownAccesses key).flatMap (fun a => match a.task with
    | .load _ d lat => if a.timed then [(d.dst, a.lastDue + lat)] else []
    | _ => [])

/-- Register number of a destination. -/
def Dst.number : Dst → Nat
  | .sreg n | .preg n | .vreg n | .accAll n | .ctl n => n
  | .accRow a _ => a

/-- The clashes of a bundle's writes with one another and with the writes in flight, two writes to one register in one
cycle each (R45): the slot of the trap, the lower of the two when both writes are the bundle's, and the write. -/
def clashes (flying : List (Dst × Nat)) : List (Nat × Dst × Nat) → List (Nat × Dst × Nat) → List (Nat × Dst × Nat)
  | _, [] => []
  | seen, (slot, d, due) :: l =>
    let rest := clashes flying ((slot, d, due) :: seen) l
    match seen.find? (fun x => x.2 = (d, due)) with
    | some x => (x.1, d, due) :: rest
    | none => if flying.contains (d, due) then (slot, d, due) :: rest else rest

/-- The clash of the lowest slot. -/
def lowestClash : List (Nat × Dst × Nat) → Option (Nat × Dst × Nat)
  | [] => none
  | x :: l =>
    match lowestClash l with
    | none => some x
    | some y => if y.1 < x.1 then some y else some x

/-- What a bundle issued in cycle `t` raises, if anything, and the writes in flight that are dropped with it: the trap
of the lowest slot, a clash of writes (R45) coming after any other trap of its slot (R77). A bundle that another trap
stops performs no write that could clash. -/
def State.issueTrap (s : State) (pos core : Nat) (c : Core) (b : Bundle) (t : Nat) : Option (Trap × List (Dst × Nat)) :=
  let l := clashes (s.flightWrites (coreKey pos core) c) [] (s.bundleWrites pos core c b t)
  let x := (lowestClash l).map (fun x => (Trap.at 5 x.1 x.2.1.number, l.map (fun y => y.2)))
  match s.bundleTrap pos core c b t, x with
  | some p, some q => if q.1.slot < p.slot && !p.hdr then some q else some (p, [])
  | some p, none => some (p, [])
  | none, x => x

/-! ## Stalls (R46) -/

/-- Whether the count of a sync object has reached a threshold (R139). -/
def reached (count thr : W32) : Bool := decide ((count - thr).toNat < 2 ^ 31)

/-- Count of a sync object. -/
def State.syncCount (s : State) (o : Nat) : W32 := (SMap.get SyncObj.init s.sync o).count

/-- Why the T slot of a bundle cannot issue now, if it cannot: STATE 2 for t.wait and t.fence, 3 for a credit, a
queue entry, a tracking entry or a window (R46, R124, R147, R173, R199). -/
def State.tStall (s : State) (pos : Nat) (c : Core) (w : Nat) : Option (Stall × BitVec 3) :=
  let flow := some (Stall.flow, (3 : BitVec 3))
  if !c.slotOn w then none
  else match opcOf w with
    | 0x0C =>
      let o := bitsOf (c.sreg (tSa w)).val.toNat 3 17
      let thr := (c.sreg (tSb w)).val.setWidth 32
      if c.cleared || reached (s.syncCount o) thr then none else some (.wait o thr none, 2)
    | 0x14 => if c.posted.isEmpty then none else some (.fence, 2)
    | 0x08 | 0x0A | 0x15 => if (s.freeTag pos).isNone then flow else none
    | 0x0D | 0x0E | 0x0F | 0x10 | 0x11 => if s.queueRoom pos then none else flow
    | 0x12 => if (s.tile pos).wins.any (fun x => decide (x.n = bitsOf w 36 4) && x.record.isNone) then flow else none
    | 0x02 | 0x03 | 0x04 | 0x05 | 0x06 | 0x07 =>
      (match s.reach pos (c.tDirect w) (tShape (opcOf w)).1 (tShape (opcOf w)).2 with
        | .inr (.near d _ _ false) => if s.credits (linkKey pos (28 + d)) 3 = 0 then flow else none
        | .inr (.routed _ _) => if (s.freeTag pos).isNone then flow else none
        | _ => none)
    | _ => none

end Sys2Proof.Machine
end

