-- ==== Sys2Proof/Machine/CoreIssue.lean ====
section
/-! DEFINITION. How a Pedun core issues: a bundle's slots one command each, in the order S, V, M, T, in one issue cycle
(R39 to R48); traps (R77, R78, R298); hardware loops and branches (R48, R70 to R72); results on their way and their
landing (R44); run control (R38, R74, R76); and the end of stalls (R47, R69, R147).

The cycle numbers are local cycles of the core's grove. -/

namespace Sys2Proof.Machine

/-! ## Answers of core commands -/

/-- The answer of a slot command of the S, V or M slot at local cycle `n`: only cores, control registers, fault
records and the use of free values may change. -/
def answerCore (g n : Nat) (s : State) (f : State → State) : Out :=
  let s' := s.atCycle g n
  let t := f s'
  .next { s' with cores := t.cores, csr := t.csr, faults := t.faults, free := t.free }

/-- The answer of a T-slot command, or of a bundle that traps, at local cycle `n`: memories, sync objects, tables of the management subsystem and
everything off the tile's cores, queues and networks stay as they are. -/
def answerT (g n : Nat) (s : State) (f : State → State) : Out :=
  let s' := s.atCycle g n
  let t := f s'
  .next { s' with
    cores := t.cores, csr := t.csr, faults := t.faults, free := t.free, tiles := t.tiles, access := t.access
    net := t.net, track := t.track, creditUsed := t.creditUsed, msgs := t.msgs, ops := t.ops, nextOp := t.nextOp }

/-! ## Results on their way (R44) -/

/-- A scalar result on its way. -/
def Core.sendS (c : Core) (rd due : Nat) (v : W64) (poison : BitVec 2) : Core :=
  if rd = 0 then c
  else { c with pend := c.pend ++ [⟨due, .sreg rd, BitVec.allOnes 64, v.setWidth 2048, poison.setWidth 64⟩] }

/-- A predicate result on its way. -/
def Core.sendP (c : Core) (pd due : Nat) (v : Lanes) : Core :=
  if pd = 0 then c else { c with pend := c.pend ++ [⟨due, .preg pd, BitVec.allOnes 64, v.setWidth 2048, 0⟩] }

/-- A vector result on its way to the lanes of `mask`. -/
def Core.sendV (c : Core) (vd due : Nat) (mask : Lanes) (v : Vec) (poison : Lanes) : Core :=
  if mask = 0 then c else { c with pend := c.pend ++ [⟨due, .vreg vd, mask, v, poison⟩] }

/-- A vector with the lanes of `mask` taken from another. -/
def Vec.merge (mask : Lanes) (new old : Vec) : Vec :=
  Vec.ofLanes (fun i => if mask.getLsbD i then new.lane i else old.lane i)

/-- A result written to a register of a core. -/
def Core.land (c : Core) (p : Pend) : Core :=
  match p.dst with
  | .sreg n => { c with s := SMap.put ⟨0, 0⟩ c.s n ⟨p.val.setWidth 64, p.poison.setWidth 2⟩ }
  | .preg n => { c with p := SMap.put 0 c.p n (p.val.setWidth 64) }
  | .vreg n =>
    let old := c.vreg n
    { c with v := SMap.put ⟨0, 0⟩ c.v n ⟨Vec.merge p.mask p.val old.val, (p.poison &&& p.mask) ||| (old.poison &&& ~~~ p.mask)⟩ }
  | .accRow a row => { c with acc := SMap.put 0 c.acc (a * 64 + row) p.val }
  | .accAll a => { c with acc := SMap.clear c.acc (a * 64) (a * 64 + 64) }
  | .ctl _ => c

/-- The effect of an s.mtcr on a control register (R73, R76); a read-only index discards the write. -/
def State.writeCr (s : State) (pos core i v : Nat) : State :=
  match i with
  | 0x04 => s.wr (TILE_CORE_INVCOUNT pos core) v
  | 0x05 => s.wr (TILE_CORE_JOB pos core) (v % 2 ^ 9)
  | 0x06 => s.wr (TILE_CORE_SRSEED pos core) v
  | 0x08 => s.wr (TILE_CORE_TRAPVEC pos core) (v &&& (0x7FF + 2 ^ 63))
  | _ => if 0x10 ≤ i ∧ i ≤ 0x13 then s.wr (TILE_CORE_PERFn pos core (i - 0x10)) (v % 2 ^ 48) else s

/-- A result of a core landed: out of the list of results on their way, into its destination. -/
def State.landPend (s : State) (key : Nat) (p : Pend) : State :=
  let s := s.modCore key (fun c => ({ c with pend := c.pend.erase p }).land p)
  match p.dst with
  | .ctl i => s.writeCr (key / 8) (key % 8) i (p.val.setWidth 64).toNat
  | _ => s

/-- The result of a core that lands first. -/
def firstPend : List Pend → Option Pend
  | [] => none
  | p :: l =>
    match firstPend l with
    | none => some p
    | some q => if q.due < p.due then some q else some p

/-! ## Readiness -/

/-- Whether a core issues bundles: STATE 1 or 4, clocks running. -/
def State.live (s : State) (pos : Nat) (c : Core) : Bool :=
  (decide (c.state = 1) || decide (c.state = 4)) && decide (s.clkState (groveOf pos) = 2)
    && s.flag (GRV_CLK_STATUS_LOCK (groveOf pos))

/-- Feeder fetches of a core owed in a cycle before `t`. -/
def Core.fetchOwed (c : Core) (t : Nat) : Bool :=
  c.feedA.any (fun j => decide (j.done < j.total) && decide (j.cycle false j.done < t))
    || c.feedW.any (fun j => decide (j.done < j.total) && decide (j.cycle true j.done < t))

/-- Whether everything that a core's own instructions bring about before cycle `t` has come about: results landed,
turns served, fetches made. Its next bundle issues only then. -/
def State.caughtUp (s : State) (key : Nat) (c : Core) (t : Nat) : Bool :=
  c.pend.all (fun p => decide (t < p.due)) && (s.ownAccesses key).all (fun a => decide (t ≤ a.due)) && !c.fetchOwed t

/-! ## Traps (R77, R78, R298) -/

/-- Whether a bundle index lies in the installed test kernel (R298). -/
def State.inKernel (s : State) (pos pc : Nat) : Bool :=
  let base := s.fld (TILE_FLT_KAT_KBASE pos)
  s.flag (TILE_FLT_KAT_VALID pos) && decide (base ≤ pc ∧ pc < base + 256)

/-- The record of a trap, naming the core, the cause and TILE_CORE_JOB (R78, R277, R281, R298). -/
def State.trapRecord (s : State) (pos core pc : Nat) (p : Trap) (halted : Bool) : FaultRec :=
  let kernel := s.inKernel pos pc
  let source := srcPos pos (if kernel then 8 + core else core)
  let cause := if kernel then (if p.cause = 8 ∧ p.reg = 0x3F then 1 else 2) else p.cause
  let r := s.record source cause p.info
  { r with
    domain := if kernel then 2 else if p.ecc then 6 else r.domain
    slot := if s.flag (TILE_CORE_JOB_SLOT_VALID pos core) then some (s.fld (TILE_CORE_JOB_SLOT pos core)) else none
    core := some core
    tpc := pc
    halted := halted }

/-- PERF counter that the cycles of a core's stall go to: 1 in t.wait or t.fence, 2 for flow control (R75). -/
def Core.stallPerf (c : Core) : Nat := if c.state = 2 then 1 else 2

/-- The cycles of a core's stall up to cycle `n` counted in PERF1 or PERF2 (R75). -/
def State.stallCounted (s : State) (pos core n : Nat) : State :=
  let c := s.core (coreKey pos core)
  if c.stall = .none then s
  else (s.perf pos core c.stallPerf (n - c.perfFrom)).modCore (coreKey pos core) (fun c => { c with perfFrom := max n c.perfFrom })

/-- A trap of the bundle at index `pc` whose issue cycle is `t`: nothing of the bundle is performed; TCAUSE, TPC and
TINFO are set, the loop levels cleared, the record sent, and the handler issues under the timing of R48, or the core
stops with STATE 6 (R78). -/
def State.takeTrap (s : State) (pos core pc idle t : Nat) (p : Trap) : State :=
  let key := coreKey pos core
  let s := s.stallCounted pos core t
  let c := s.core key
  let handle := s.flag (TILE_CORE_TRAPVEC_VALID pos core) && !c.handler && !c.stopped
  let s := ((s.wr (TILE_CORE_TCAUSE pos core) p.cause).wr (TILE_CORE_TPC pos core) pc).wr (TILE_CORE_TINFO pos core) p.info
  let s := s.send (s.trapRecord pos core pc p (!handle))
  let s := if s.inKernel pos pc then s.count (tileCounter pos (TILE_FLT_KFAIL_CNT pos)) 1 else s
  let vec := BitVec.ofNat 11 (s.fld (TILE_CORE_TRAPVEC_INDEX pos core))
  s.setCore key { c with
    loops := [], issued := 0, target := none, overrun := false, cleared := false, ending := none, stall := .none
    state := if handle then 4 else 6
    handler := handle
    pc := if handle then vec else c.pc
    nextIssue := t + 2 + idle }

/-- The writes in flight that a timing trap of R45 drops. -/
def State.dropWrites (s : State) (key : Nat) (drop : List (Dst × Nat)) : State :=
  drop.foldl (fun (s : State) (x : Dst × Nat) =>
    let d := x.1
    let due := x.2
    let s := s.modCore key (fun c => { c with pend := c.pend.filter (fun p => !(decide (p.dst = d) && decide (p.due = due))) })
    { s with access := s.access.map (fun a =>
        match a.task with
        | .load k ld lat => if a.core = some key ∧ ld.dst = d ∧ a.lastDue + lat = due then { a with task := .load k (.sreg 0) lat } else a
        | _ => a) }) s

/-! ## The end of a bundle (R40, R48, R51, R70 to R72) -/

/-- The levels whose bodies hold a branch target; a level whose body does not hold it ends, with every level inside it
(R72), for an s.tret as for a jump (log entry 97). -/
def levelsAt : List Loop → Nat → List Loop
  | [], _ => []
  | l :: rest, target => if l.start.toNat ≤ target ∧ target ≤ l.stop.toNat then l :: levelsAt rest target else []

/-- The back edge at an end bundle, innermost level first: the levels left and the next index (R72). The list is
innermost first here. -/
def backEdge : List Loop → Nat → List Loop × Option Nat
  | [], _ => ([], none)
  | l :: rest, pc =>
    if l.stop.toNat ≠ pc then (l :: rest, none)
    else if 1 < l.count.toNat then ({ l with count := l.count - 1 } :: rest, some l.start.toNat)
    else backEdge rest pc

/-- The core after a bundle without a taken branch, issued in cycle `t` with IDLE `idle` (R40, R51, R72). -/
def Core.fallThrough (c : Core) (idle t : Nat) : Core :=
  let e := backEdge c.loops.reverse c.pc.toNat
  let next := e.2.getD (c.pc.toNat + 1)
  { c with
    issued := 0, cleared := false, ending := none
    loops := e.1.reverse
    pc := BitVec.ofNat 11 (min next 2047)
    overrun := decide (2047 < next)
    nextIssue := t + 1 + idle }

/-- The core after its bundle issued in cycle `t`: a taken branch issues its target two cycles later (R48) and ends
the levels it leaves; else the back edge or the next bundle. A trip count of 0 skips to its target with the timing of
a taken branch and ends no level (R70); a skip past bundle 2,047 (its target wraps to 0, which no skip names) is a
sequential issue past the end of the store (R51, log entry 22). -/
def Core.done (c : Core) (skip : Bool) (idle t : Nat) : Core :=
  match c.target with
  | none => c.fallThrough idle t
  | some p =>
    { c with
      issued := 0, target := none, cleared := false, ending := none
      loops := if skip then c.loops else levelsAt c.loops p.toNat
      pc := if skip && p == 0 then 2047 else p
      overrun := skip && p == 0
      nextIssue := t + 2 + idle }

/-- A kernel call counted when its bundle leaves the kernel by a taken branch (R298). -/
def State.kernelLeft (s : State) (pos core pc : Nat) (target : Option (BitVec 11)) : State :=
  match target with
  | none => s
  | some p =>
    if s.inKernel pos pc && !s.inKernel pos p.toNat then
      let r := TILE_FLT_KCALLc pos core
      let n := s.rd r + 1
      let s := s.wr r (n % 2 ^ 48)
      if n < 2 ^ 48 then s else s.raise (srcPos pos 19) 9 (counterDetail (r.addr - tileBase pos) 0)
    else s

/-- The bundle of a core is done: PERF0 counts it, the core moves on, and an s.end or a halt that fell in it takes
effect (R75, R80). -/
def State.bundleDone (s : State) (pos core idle t : Nat) : State :=
  let key := coreKey pos core
  let c := s.core key
  let skip := decide (opcOf (s.bundle pos core c.pc.toNat).s = 0x33)
  let s := s.perf pos core 0 1
  let s := s.kernelLeft pos core c.pc.toNat (if skip then none else c.target)
  s.setCore key (match c.ending with
    | none => c.done skip idle t
    | some st => { c.done skip idle t with state := st, handler := false, stall := .none, overrun := false })

/-! ## One slot -/

/-- What a slot command meets. -/
inductive Met where
  /-- the command is not the next thing this core does -/
  | nothing
  | trap (p : Trap) (drop : List (Dst × Nat))
  | stall (why : Stall) (state : BitVec 3)
  | run
  deriving DecidableEq, Repr

/-- The first enabled slot of a bundle not yet performed. -/
def Core.nextSlot (c : Core) (b : Bundle) : Option Nat :=
  (List.range 4).find? (fun k => b.on k && !c.issued.getLsbD k)

/-- Whether a word of a bundle has an uncorrectable check-bit error in the instruction store (R80). -/
def State.fetchError (s : State) (pos core pc : Nat) : Bool :=
  (List.range 8).any (fun i => SMap.get 0 s.imemEcc (bundleKey pos core pc / 4 + i) = 2)

/-- The single-bit errors of a bundle's words, corrected as it is fetched, counted in TILE_SPAD_CE_CNT of its tile (R80,
log entry 98). -/
def State.fetchCount (s : State) (pos core pc : Nat) : State :=
  let n := ((List.range 8).filter (fun i => SMap.get 0 s.imemEcc (bundleKey pos core pc / 4 + i) = 1)).length
  if n = 0 then s else s.count (tileCounter pos (TILE_SPAD_CE_CNT pos)) n

/-- The fetch of the bundle that a core is to issue: counted with its first slot (R80). -/
def State.fetched (s : State) (pos core : Nat) : State :=
  let c := s.core (coreKey pos core)
  if c.issued = 0 then s.fetchCount pos core c.pc.toNat else s

/-- Whether the T slot waits for a credit, a queue entry, a tracking entry or a window (R46): a slot command of its
bundle that found room at issue waits where another command has since taken it. -/
def State.noRoom (s : State) (pos : Nat) (c : Core) (w : Nat) : Bool :=
  match s.tStall pos c w with
  | some (.flow, _) => true
  | _ => false

/-- What the command for opcode `opc` of slot `k` meets at a core. At the first slot of a bundle the store's check
bits, the stalls of the T slot and the traps of the whole bundle come first (R46, R77, R80); whichever slot command
comes then takes them (log entry 21). A bundle with no slot enabled issues by S_NOP. -/
def State.meet (s : State) (pos core : Nat) (k opc : Nat) : Met :=
  let key := coreKey pos core
  let c := s.core key
  let t := c.nextIssue
  let pc := c.pc.toNat
  let b := s.bundle pos core pc
  let mine : Bool := match c.nextSlot b with
    | some j => decide (j = k) && decide (opcOf (b.slot k) = opc)
    | none => decide (k = 0 ∧ opc = 0)
  if !s.live pos c || c.overrun then .nothing
  else if c.issued ≠ 0 then
    (if mine && !(decide (k = 3) && s.noRoom pos c b.t) then .run else .nothing)
  else if !s.caughtUp key c t then .nothing
  else if s.fetchError pos core pc then .trap ⟨7, 0, 0, 0, false, true⟩ []
  else
    let stall := if b.reserved = 0 ∧ b.on 3 = true ∧ s.tTrap pos core c b.t t = none then s.tStall pos c b.t else none
    match stall with
    | some (w, st) => .stall w st
    | none =>
      match s.issueTrap pos core c b t with
      | some (p, d) => .trap p d
      | none => if mine then .run else .nothing

/-- A slot marked performed; after the last enabled slot the bundle is done. -/
def State.slotDone (s : State) (pos core k t : Nat) : State :=
  let key := coreKey pos core
  let c := s.core key
  let b := s.bundle pos core c.pc.toNat
  let c := { c with issued := c.issued ||| BitVec.ofNat 4 (2 ^ k) }
  let s := s.setCore key c
  if (c.nextSlot b).isNone then s.bundleDone pos core b.idle t else s

/-- A stall entered at issue (R46). -/
def Core.stallAt (c : Core) (why : Stall) (st : BitVec 3) (t : Nat) : Core :=
  { c with stall := why, state := st, stallFrom := t, perfFrom := t, limitSent := false }

/-- A slot command: the bundle's trap or stall, or the slot's effect `f` of its field and its issue cycle, through the
answer of its kind. -/
def slotCmd (id : CoreId) (k opc : Nat) (ans : Nat → Nat → State → (State → State) → Out) (s : State)
    (f : Nat → Nat → State → State) : Out :=
  if !id.wf then noUnit
  else
    let key := id.key
    let g := groveOf id.pos
    let c := s.core key
    let t := c.nextIssue
    let b := s.bundle id.pos id.core c.pc.toNat
    match s.meet id.pos id.core k opc with
    | .nothing => idle s
    | .trap p d => answerT g t s (fun s =>
        ((s.fetchCount id.pos id.core c.pc.toNat).dropWrites key d).takeTrap id.pos id.core c.pc.toNat b.idle t p)
    | .stall w st => answerCore g t s (fun s => s.modCore key (fun c => c.stallAt w st t))
    | .run => ans g t s (fun s =>
        (f (b.slot k) t (s.fetched id.pos id.core)).slotDone id.pos id.core k t)

/-- The effect of a slot under its predicate (R41): nothing when it is off. -/
def State.ifOn (s : State) (key w : Nat) (f : State → State) : State := if (s.core key).slotOn w then f s else s

/-! ## Commands of the core itself -/

/-- The first cycle in which a core may issue its next bundle, where that is settled: a running core's next issue, or the
resume of a released wait. -/
def State.issueFrom (s : State) (pos : Nat) (c : Core) : Option Nat :=
  if s.live pos c then some c.nextIssue
  else match c.stall with
    | .wait _ _ (some r) => some (wposZero (max r (c.stallFrom + 1)))
    | _ => none

/-- REGISTER_WRITEBACK (R44): the result due first lands at the end of the cycle before its first reader, once every
bundle that issues before that reader has. A stall that has no end yet ends after the cycle of the landing. -/
def execRegisterWriteback (id : CoreId) (s : State) : Out :=
  if !id.wf then noUnit
  else
    let c := s.core id.key
    match firstPend c.pend with
    | none => idle s
    | some p =>
      if (s.issueFrom id.pos c).any (fun n => decide (n < p.due)) then idle s
      else answerCore (groveOf id.pos) (p.due - 1) s (fun s => s.landPend id.key p)

/-- SEQUENTIAL_ISSUE_OVERRUN (R51): an instruction-store trap in the cycle after bundle 2,047, TPC 2,047, TINFO 0. -/
def execSequentialIssueOverrun (id : CoreId) (s : State) : Out :=
  if !id.wf then noUnit
  else
    let c := s.core id.key
    if s.live id.pos c && c.overrun && s.caughtUp id.key c c.nextIssue then
      answerT (groveOf id.pos) c.nextIssue s
        (fun s => s.takeTrap id.pos id.core 2047 0 c.nextIssue (Trap.at 7 0 0))
    else idle s

/-- The core resumed from its stall in cycle `n`: the stalled cycles counted in PERF1 or PERF2 (R75), STATE as before
the stall. -/
def State.resume (s : State) (pos core n : Nat) : State :=
  let key := coreKey pos core
  let s := s.stallCounted pos core n
  let c := s.core key
  s.setCore key { c with state := if c.handler then 4 else 1, stall := .none, nextIssue := n
                         cleared := decide (c.state = 2) }

/-- STALL_RESUME (R47): a t.fence with nothing outstanding, or a flow-control stall whose want is met, ends at the first
wheel position 0 after the cycle that ended it, and the stalled bundle issues there (log entry 97). -/
def execStallResume (id : CoreId) (s : State) : Out :=
  if !id.wf then noUnit
  else
    let c := s.core id.key
    let n := wposZero (max (s.hereNow id.pos + 1) (c.stallFrom + 1))
    let b := s.bundle id.pos id.core c.pc.toNat
    let above : Bool := match c.stall with
      | .fence => c.posted.isEmpty
      | .flow => (s.tStall id.pos c b.t).isNone
      | _ => false
    if above then answerCore (groveOf id.pos) n s (fun s => s.resume id.pos id.core n) else idle s

/-- WAIT_RELEASE (R147): a stalled t.wait whose threshold has been reached resumes at wheel position 0, at least two
cycles after the add that reached it. -/
def execWaitRelease (id : CoreId) (s : State) : Out :=
  if !id.wf then noUnit
  else
    let c := s.core id.key
    match c.stall with
    | .wait _ _ (some r) =>
      let n := wposZero (max r (c.stallFrom + 1))
      answerCore (groveOf id.pos) n s (fun s => s.resume id.pos id.core n)
    | _ => idle s

/-- DIRECT_LOAD_RETURN (R69): the data of a flow-controlled direct load has been written to its destination; the core
resumes at the next wheel position 0. Its bundle's slots were performed at its issue cycle, so the bundle after it
issues then (log entry 97). -/
def execDirectLoadReturn (id : CoreId) (s : State) : Out :=
  if !id.wf then noUnit
  else
    let c := s.core id.key
    match c.stall with
    | .load true =>
      let n := wposZero (max c.nextIssue (max (s.hereNow id.pos + 1) (c.stallFrom + 1)))
      answerCore (groveOf id.pos) n s (fun s => (s.resume id.pos id.core n).modCore id.key (fun c => { c with cleared := false }))
    | _ => idle s

/-- A core started: every register of R37 zero with poison clear, loop levels clear, PC at ENTRY, first issue at wheel
position 0 (R38, R47). Results still on their way to control registers land first; those on their way to other registers
are dropped, and a load that still waits for its turn lands later (log entry 97). -/
def State.startCore (s : State) (pos core : Nat) : State :=
  let key := coreKey pos core
  let c := s.core key
  let s := (c.pend.filter (fun p => match p.dst with
    | .ctl _ => true
    | _ => false)).foldl (fun s p => s.landPend key p) s
  let s := s.setFld (TILE_CORE_CTRL_RUN pos core) 1
  s.setCore key { Core.init with
    pc := BitVec.ofNat 11 (s.fld (TILE_CORE_ENTRY_ENTRY pos core))
    state := 1
    nextIssue := wposZero (s.hereNow pos)
    posted := c.posted
    nextId := c.nextId }

/-- A core halted at its next issue cycle, any stall abandoned with its cycles counted (R74, R75); a bundle some of
whose slots have been performed is performed whole first. A core that is not running keeps its STATE. -/
def State.haltCore (s : State) (pos core : Nat) : State :=
  let key := coreKey pos core
  let s := s.stallCounted pos core (s.hereNow pos)
  let c := s.core key
  let s := s.setFld (TILE_CORE_CTRL_RUN pos core) 0
  if c.stopped then s
  else if c.issued ≠ 0 then s.setCore key { c with ending := some 7 }
  else s.setCore key { c with state := 7, handler := false, stall := .none, cleared := false, overrun := false }

/-- CORE_RUN (R38): RUN written 1 to a core whose RUN is 0 starts it. -/
def execCoreRun (a : Agent) (id : CoreId) (s : State) : Out :=
  if !id.wf then noUnit
  else allowed a .mgmt (TILE_CORE_CTRL id.pos id.core).addr s (fun s =>
    if s.flag (TILE_CORE_CTRL_RUN id.pos id.core) || decide (s.clkState (groveOf id.pos) ≠ 2) then s
    else s.startCore id.pos id.core)

/-- CORE_HALT (R74): RUN written 0. -/
def execCoreHalt (a : Agent) (id : CoreId) (s : State) : Out :=
  if !id.wf then noUnit
  else allowed a .mgmt (TILE_CORE_CTRL id.pos id.core).addr s (fun s => s.haltCore id.pos id.core)

end Sys2Proof.Machine
end

