-- ==== Sys2Proof/Machine/ScalarSlot.lean ====
section
/-! DEFINITION. The S slot (R49 to R51, R70 to R76, R78, R80): one meaning per instruction over the shared forms. -/

namespace Sys2Proof.Machine

/-! ## Forms -/

/-- An S-slot instruction that writes a scalar register with the latency of its opcode (R44, R50): `val` of the field
and of ra and rb as the issue cycle reads them. -/
def scalarOp (id : CoreId) (opc : Nat) (s : State) (val : Nat → W64 → W64 → W64) : Out :=
  slotCmd id 0 opc answerCore s (fun w t s => s.ifOn id.key w (fun s => s.modCore id.key (fun c =>
    c.sendS (sRd w) (t + sLatency opc) (val w (c.sreg (sRa w)).val (c.sreg (sRb w)).val) 0)))

/-- A scalar compare: all 64 bits of pd take the result (R50). -/
def scalarCmp (id : CoreId) (opc : Nat) (s : State) (test : Nat → W64 → W64 → Bool) : Out :=
  slotCmd id 0 opc answerCore s (fun w t s => s.ifOn id.key w (fun s => s.modCore id.key (fun c =>
    c.sendP (bitsOf w 12 3) (t + sLatency opc)
      (if test w (c.sreg (sRa w)).val (c.sreg (sRb w)).val then BitVec.allOnes 64 else 0))))

/-- A predicate operation, lane by lane (R50). -/
def predOp (id : CoreId) (opc : Nat) (s : State) (val : Lanes → Lanes → Lanes) : Out :=
  slotCmd id 0 opc answerCore s (fun w t s => s.ifOn id.key w (fun s => s.modCore id.key (fun c =>
    c.sendP (bitsOf w 12 3) (t + sLatency opc) (val (c.preg (bitsOf w 17 3)) (c.preg (bitsOf w 22 3))))))

/-! ## Instructions -/

/-- S_NOP (R50): none. -/
def execSNop (id : CoreId) (s : State) : Out := slotCmd id 0 0x00 answerCore s (fun _ _ s => s)

/-- S_ADD (R50): rd := ra + rb. -/
def execSAdd (id : CoreId) (s : State) : Out := scalarOp id 0x01 s (fun _ a b => a + b)

/-- S_SUB (R50): rd := ra − rb. -/
def execSSub (id : CoreId) (s : State) : Out := scalarOp id 0x02 s (fun _ a b => a - b)

/-- S_AND (R50): bitwise and. -/
def execSAnd (id : CoreId) (s : State) : Out := scalarOp id 0x03 s (fun _ a b => a &&& b)

/-- S_OR (R50): bitwise or. -/
def execSOr (id : CoreId) (s : State) : Out := scalarOp id 0x04 s (fun _ a b => a ||| b)

/-- S_XOR (R50): bitwise exclusive or. -/
def execSXor (id : CoreId) (s : State) : Out := scalarOp id 0x05 s (fun _ a b => a ^^^ b)

/-- S_SLL (R50): rd := ra << rb[5:0]. -/
def execSSll (id : CoreId) (s : State) : Out := scalarOp id 0x06 s (fun _ a b => a <<< (b.toNat % 64))

/-- S_SRL (R50): logical right shift by rb[5:0]. -/
def execSSrl (id : CoreId) (s : State) : Out := scalarOp id 0x07 s (fun _ a b => a >>> (b.toNat % 64))

/-- S_SRA (R50): arithmetic right shift by rb[5:0]. -/
def execSSra (id : CoreId) (s : State) : Out := scalarOp id 0x08 s (fun _ a b => a.sshiftRight (b.toNat % 64))

/-- S_MUL (R50): low 64 bits of ra × rb. -/
def execSMul (id : CoreId) (s : State) : Out := scalarOp id 0x09 s (fun _ a b => a * b)

/-- S_MULHU (R50): high 64 bits of unsigned ra × rb. -/
def execSMulhu (id : CoreId) (s : State) : Out := scalarOp id 0x0a s (fun _ a b => BitVec.ofNat 64 (a.toNat * b.toNat / 2 ^ 64))

/-- S_MIN (R50): signed minimum. -/
def execSMin (id : CoreId) (s : State) : Out := scalarOp id 0x0b s (fun _ a b => if b.slt a then b else a)

/-- S_MAX (R50): signed maximum. -/
def execSMax (id : CoreId) (s : State) : Out := scalarOp id 0x0c s (fun _ a b => if a.slt b then b else a)

/-- S_MINU (R50): unsigned minimum. -/
def execSMinu (id : CoreId) (s : State) : Out := scalarOp id 0x0d s (fun _ a b => if b.ult a then b else a)

/-- S_MAXU (R50): unsigned maximum. -/
def execSMaxu (id : CoreId) (s : State) : Out := scalarOp id 0x0e s (fun _ a b => if a.ult b then b else a)

/-- S_ADDI (R50): rd := ra + imm, sign-extended. -/
def execSAddi (id : CoreId) (s : State) : Out := scalarOp id 0x10 s (fun w a _ => a + sImmS w)

/-- S_ANDI (R50): rd := ra and imm, zero-extended. -/
def execSAndi (id : CoreId) (s : State) : Out := scalarOp id 0x11 s (fun w a _ => a &&& sImmZ w)

/-- S_ORI (R50): rd := ra or imm, zero-extended. -/
def execSOri (id : CoreId) (s : State) : Out := scalarOp id 0x12 s (fun w a _ => a ||| sImmZ w)

/-- S_XORI (R50): rd := ra xor imm, zero-extended. -/
def execSXori (id : CoreId) (s : State) : Out := scalarOp id 0x13 s (fun w a _ => a ^^^ sImmZ w)

/-- S_SLLI (R50): rd := ra << imm[5:0]. -/
def execSSlli (id : CoreId) (s : State) : Out := scalarOp id 0x14 s (fun w a _ => a <<< bitsOf w 22 6)

/-- S_SRLI (R50): logical right shift. -/
def execSSrli (id : CoreId) (s : State) : Out := scalarOp id 0x15 s (fun w a _ => a >>> bitsOf w 22 6)

/-- S_SRAI (R50): arithmetic right shift. -/
def execSSrai (id : CoreId) (s : State) : Out := scalarOp id 0x16 s (fun w a _ => a.sshiftRight (bitsOf w 22 6))

/-- S_LUI (R50): rd := imm, sign-extended, shifted left by 26. -/
def execSLui (id : CoreId) (s : State) : Out := scalarOp id 0x17 s (fun w _ _ => sImmS w <<< 26)

/-- S_CMP_EQ (R50): pd := (ra = rb). -/
def execSCmpEq (id : CoreId) (s : State) : Out := scalarCmp id 0x20 s (fun _ a b => a == b)

/-- S_CMP_NE (R50): pd := (ra ≠ rb). -/
def execSCmpNe (id : CoreId) (s : State) : Out := scalarCmp id 0x21 s (fun _ a b => a != b)

/-- S_CMP_LT (R50): pd := (signed ra < rb). -/
def execSCmpLt (id : CoreId) (s : State) : Out := scalarCmp id 0x22 s (fun _ a b => a.slt b)

/-- S_CMP_LTU (R50): pd := (unsigned ra < rb). -/
def execSCmpLtu (id : CoreId) (s : State) : Out := scalarCmp id 0x23 s (fun _ a b => a.ult b)

/-- S_CMPI_EQ (R50): pd := (ra = imm), imm sign-extended. -/
def execSCmpiEq (id : CoreId) (s : State) : Out := scalarCmp id 0x24 s (fun w a _ => a == sImmS w)

/-- S_CMPI_LT (R50): pd := (signed ra < imm), imm sign-extended. -/
def execSCmpiLt (id : CoreId) (s : State) : Out := scalarCmp id 0x25 s (fun w a _ => a.slt (sImmS w))

/-- S_PAND (R50): lane-wise and. -/
def execSPand (id : CoreId) (s : State) : Out := predOp id 0x28 s (fun a b => a &&& b)

/-- S_POR (R50): lane-wise or. -/
def execSPor (id : CoreId) (s : State) : Out := predOp id 0x29 s (fun a b => a ||| b)

/-- S_PXOR (R50): lane-wise exclusive or. -/
def execSPxor (id : CoreId) (s : State) : Out := predOp id 0x2a s (fun a b => a ^^^ b)

/-- S_PNOT (R50): complement. -/
def execSPnot (id : CoreId) (s : State) : Out := predOp id 0x2b s (fun a _ => ~~~ a)

/-! ## Branches, loops and the end of issue -/

/-- A taken branch to a bundle index (R48): the bundle that follows this one. -/
def Core.branch (c : Core) (target : Int) : Core := { c with target := some (BitVec.ofNat 11 target.toNat) }

/-- S_BR (R50): PC := PC + off. -/
def execSBr (id : CoreId) (s : State) : Out :=
  slotCmd id 0 0x30 answerCore s (fun w _ s => s.ifOn id.key w (fun s => s.modCore id.key (fun c =>
    c.branch (sTarget c.pc.toNat w))))

/-- S_JR (R50): PC := ra[10:0]. -/
def execSJr (id : CoreId) (s : State) : Out :=
  slotCmd id 0 0x31 answerCore s (fun w _ s => s.ifOn id.key w (fun s => s.modCore id.key (fun c =>
    c.branch (bitsOf (c.sreg (sRa w)).val.toNat 0 11))))

/-- S_CALL (R50): rd := PC + 1; PC := PC + off. -/
def execSCall (id : CoreId) (s : State) : Out :=
  slotCmd id 0 0x32 answerCore s (fun w t s => s.ifOn id.key w (fun s => s.modCore id.key (fun c =>
    (c.sendS (sRd w) (t + 1) (BitVec.ofNat 64 (c.pc.toNat + 1)) 0).branch (sTarget c.pc.toNat w))))

/-- S_LOOP (R70): level lvl over the bundles after this one to index + END, with a trip count of ICOUNT when RA names
s0, else ra[31:0]; a count of 0 skips the body. -/
def execSLoop (id : CoreId) (s : State) : Out :=
  slotCmd id 0 0x33 answerCore s (fun w _ s => s.ifOn id.key w (fun s => s.modCore id.key (fun c =>
    let stop := c.pc.toNat + bitsOf w 22 11
    let n := if sRa w = 0 then bitsOf w 33 15 else bitsOf (c.sreg (sRa w)).val.toNat 0 32
    if n = 0 then c.branch (stop + 1 : Nat)
    else { c with loops := c.loops ++ [⟨BitVec.ofNat 11 (c.pc.toNat + 1), BitVec.ofNat 11 stop, BitVec.ofNat 32 n⟩] })))

/-- S_END (R80): issue stops with STATE 5. -/
def execSEnd (id : CoreId) (s : State) : Out :=
  slotCmd id 0 0x34 answerCore s (fun w _ s => s.ifOn id.key w (fun s => s.modCore id.key (fun c =>
    { c with ending := some (c.ending.getD 5) })))

/-- S_TRAP (R50, R78): its trap is taken at issue, as every trap of a bundle is; predicated off it does nothing. -/
def execSTrap (id : CoreId) (s : State) : Out := slotCmd id 0 0x35 answerCore s (fun _ _ s => s)

/-- S_TRET (R78): the handler is left, STATE 1, PC := ra[10:0]. -/
def execSTret (id : CoreId) (s : State) : Out :=
  slotCmd id 0 0x36 answerCore s (fun w _ s => s.ifOn id.key w (fun s => s.modCore id.key (fun c =>
    { c.branch (bitsOf (c.sreg (sRa w)).val.toNat 0 11) with state := 1, handler := false })))

/-! ## Control registers (R73, R74, R76) -/

/-- Whether a posted operation or an M-slot occupancy of a core is outstanding in cycle `t` (R74). -/
def Core.inflight (c : Core) (t : Nat) : Bool :=
  !c.posted.isEmpty || decide (t < c.mt.ldwFree) || decide (t < c.mt.mmulFree)

/-- TILE_CORE_STATUS of a core in cycle `t` (R74). PC is the bundle at which the core stands: for an s.mfcr that reads it
that is its own bundle (log entry 97). -/
def State.coreStatus (s : State) (pos core t : Nat) : Nat :=
  let c := s.core (coreKey pos core)
  packFields [(0, 3, c.state.toNat), (3, 1, (c.inflight t).toNat), (4, 3, c.loops.length), (7, 11, c.pc.toNat)
    , (18, 4, s.fld (TILE_CORE_STATUS_PERF_OVF pos core))]

/-- TILE_CORE_LOOPn of a core (R73). -/
def Core.loopWord (c : Core) (n : Nat) : Nat :=
  match c.loops[n]? with
  | none => 0
  | some l => packFields [(0, 32, l.count.toNat), (32, 11, l.start.toNat), (43, 11, l.stop.toNat), (63, 1, 1)]

/-- TILE_CORE_PERFn of a core in cycle `t`, with the cycles of a stall it is in (R75). -/
def State.perfNow (s : State) (pos core n t : Nat) : Nat :=
  let c := s.core (coreKey pos core)
  if c.stall ≠ .none ∧ c.stallPerf = n then (s.rd (TILE_CORE_PERFn pos core n) + (t - c.perfFrom)) % 2 ^ 48
  else s.rd (TILE_CORE_PERFn pos core n)

/-- Value of the control register of index `i` of a core in cycle `t` (R73). A position without a logical ID shows a
free value in TILE_CORE_ID (log entry 23). -/
def State.readCr (s : State) (pos core i t : Nat) : Nat :=
  match i with
  | 0x00 => core + 8 * ((s.logical pos).getD ((Config.freeValue s.free).toNat % 512))
  | 0x01 => t % 2 ^ 64
  | 0x02 => t % 16
  | 0x03 => s.now % 2 ^ 64
  | 0x04 => s.rd (TILE_CORE_INVCOUNT pos core)
  | 0x05 => s.rd (TILE_CORE_JOB pos core)
  | 0x06 => s.rd (TILE_CORE_SRSEED pos core)
  | 0x08 => s.rd (TILE_CORE_TRAPVEC pos core)
  | 0x09 => s.rd (TILE_CORE_TCAUSE pos core)
  | 0x0A => s.rd (TILE_CORE_TPC pos core)
  | 0x0B => s.rd (TILE_CORE_TINFO pos core)
  | 0x0C | 0x0D | 0x0E | 0x0F => (s.core (coreKey pos core)).loopWord (i - 0x0C)
  | 0x10 | 0x11 | 0x12 | 0x13 => s.perfNow pos core (i - 0x10) t
  | 0x20 => s.rd (TILE_CORE_CTRL pos core)
  | 0x21 => s.coreStatus pos core t
  | 0x22 => s.rd (TILE_CORE_ENTRY pos core)
  | _ => 0

/-- S_MFCR (R50, R73): rd := control register, as its issue cycle reads it. -/
def execSMfcr (id : CoreId) (s : State) : Out :=
  slotCmd id 0 0x38 answerCore s (fun w t s => s.ifOn id.key w (fun s =>
    let v := s.readCr id.pos id.core (bitsOf w 22 8) t
    let s := if bitsOf w 22 8 = 0 ∧ s.logical id.pos = none then { s with free := s.free + 1 } else s
    s.modCore id.key (fun c => c.sendS (sRd w) (t + 2) (BitVec.ofNat 64 v) 0)))

/-- S_MTCR (R50, R76): the control register takes ra for bundles issued two cycles later; a read-only one discards
it. -/
def execSMtcr (id : CoreId) (s : State) : Out :=
  slotCmd id 0 0x39 answerCore s (fun w t s => s.ifOn id.key w (fun s => s.modCore id.key (fun c =>
    { c with pend := c.pend ++ [⟨t + 2, .ctl (bitsOf w 22 8), BitVec.allOnes 64,
        (c.sreg (sRa w)).val.setWidth 2048, 0⟩] })))

end Sys2Proof.Machine
end

