-- ==== Sys2Proof/Machine/VectorSlot.lean ====
section
/-! DEFINITION. The V slot (R52 to R54, R86 to R92, R98 to R102): one meaning per instruction over the shared forms. -/

namespace Sys2Proof.Machine

/-! ## Forms -/

/-- A V-slot instruction that writes lanes of a vector register with the latency of its opcode and format (R44, R53,
R54): `val` of the core and the field gives the lanes and their poison bits. -/
def vectorOp (id : CoreId) (opc : Nat) (s : State) (val : Core → Nat → Vec × Lanes) : Out :=
  slotCmd id 1 opc answerCore s (fun w t s => s.modCore id.key (fun c =>
    let r := val c w
    c.sendV (vVd w) (t + vLatency opc (vFmt w)) (c.lanesOf (predOf w)) r.1 r.2))

/-- Lane-wise on one operand. -/
def lanewise1 (id : CoreId) (opc : Nat) (s : State) (f : Nat → W32 → W32) : Out :=
  vectorOp id opc s (fun c w => (Vec.ofLanes (fun i => f (vFmt w) ((c.vreg (vVa w)).val.lane i)), 0))

/-- Lane-wise on two operands. -/
def lanewise2 (id : CoreId) (opc : Nat) (s : State) (f : Nat → W32 → W32 → W32) : Out :=
  vectorOp id opc s (fun c w =>
    (Vec.ofLanes (fun i => f (vFmt w) ((c.vreg (vVa w)).val.lane i) ((c.vreg (vVb w)).val.lane i)), 0))

/-- A compare: bit i of pd is the result in enabled lane i, 0 in the others (R53, R99, R100); under PRED 0x8 nothing
(R41). -/
def vectorCmp (id : CoreId) (opc : Nat) (s : State) (k : Cmp) : Out :=
  slotCmd id 1 opc answerCore s (fun w t s => s.modCore id.key (fun c =>
    let on := c.lanesOf (predOf w)
    let test (a b : W32) : Bool := if vFmt w = 0 then f32Cmp k a b else i32Cmp k a b
    if vActive w then
      c.sendP (bitsOf w 12 3) (t + vLatency opc (vFmt w))
        (Lanes.ofFn (fun i => on.getLsbD i && test ((c.vreg (vVa w)).val.lane i) ((c.vreg (vVb w)).val.lane i)))
    else c))

/-- A reduction of all lanes to every enabled lane; a lane predicated off contributes `neutral` (R53, R102). -/
def vectorReduce (id : CoreId) (opc : Nat) (s : State) (neutral : W32) (f : List W32 → W32) : Out :=
  vectorOp id opc s (fun c w =>
    let on := c.lanesOf (predOf w)
    let r := f ((List.range 64).map (fun i => if on.getLsbD i then (c.vreg (vVa w)).val.lane i else neutral))
    (Vec.ofLanes (fun _ => r), 0))

/-- The generator of a core (R91). -/
def State.generator (s : State) (pos core : Nat) : W64 := BitVec.ofNat 64 (s.rd (TILE_CORE_SRSEED pos core))

/-- The generator after a draw (R91). -/
def State.drawn (s : State) (pos core : Nat) : State :=
  s.wr (TILE_CORE_SRSEED pos core) (srNext (s.generator pos core)).toNat

/-- The rounding of each element for a RND field and a generator state (R88, R90, R91). -/
def roundingOf (rnd : Nat) (g : W64) (i : Nat) : Rounding :=
  if rnd = 1 then .stochastic (srWord g i).toNat else .nearestEven

/-! ## Instructions -/

/-- V_NOP (R54): none. -/
def execVNop (id : CoreId) (s : State) : Out := slotCmd id 1 0x00 answerCore s (fun _ _ s => s)

/-- V_ADD: FP32 or INT32 sum (R98, R100). -/
def execVAdd (id : CoreId) (s : State) : Out :=
  lanewise2 id 0x01 s (fun fmt a b => if fmt = 0 then f32Add a b else a + b)

/-- V_SUB: FP32 or INT32 difference (R98, R100). -/
def execVSub (id : CoreId) (s : State) : Out :=
  lanewise2 id 0x02 s (fun fmt a b => if fmt = 0 then f32Sub a b else a - b)

/-- V_MUL: FP32 product, or the low 32 bits of the INT32 product (R98, R100). -/
def execVMul (id : CoreId) (s : State) : Out :=
  lanewise2 id 0x03 s (fun fmt a b => if fmt = 0 then f32Mul a b else a * b)

/-- V_MIN: minimum (R99, R100). -/
def execVMin (id : CoreId) (s : State) : Out :=
  lanewise2 id 0x05 s (fun fmt a b => if fmt = 0 then f32Min a b else if b.slt a then b else a)

/-- V_MAX: maximum (R99, R100). -/
def execVMax (id : CoreId) (s : State) : Out :=
  lanewise2 id 0x06 s (fun fmt a b => if fmt = 0 then f32Max a b else if a.slt b then b else a)

/-- V_AND: bitwise and (R54). -/
def execVAnd (id : CoreId) (s : State) : Out :=
  lanewise2 id 0x10 s (fun _ a b => a &&& b)

/-- V_OR: bitwise or (R54). -/
def execVOr (id : CoreId) (s : State) : Out :=
  lanewise2 id 0x11 s (fun _ a b => a ||| b)

/-- V_XOR: bitwise exclusive or (R54). -/
def execVXor (id : CoreId) (s : State) : Out :=
  lanewise2 id 0x12 s (fun _ a b => a ^^^ b)

/-- V_SHL: left shift by vb[4:0] (R54). -/
def execVShl (id : CoreId) (s : State) : Out :=
  lanewise2 id 0x13 s (fun _ a b => a <<< (b.toNat % 32))

/-- V_SHR: logical right shift by vb[4:0] (R54). -/
def execVShr (id : CoreId) (s : State) : Out :=
  lanewise2 id 0x14 s (fun _ a b => a >>> (b.toNat % 32))

/-- V_SRA: arithmetic right shift by vb[4:0] (R54). -/
def execVSra (id : CoreId) (s : State) : Out :=
  lanewise2 id 0x15 s (fun _ a b => a.sshiftRight (b.toNat % 32))

/-- V_ABS: absolute value; INT32 of the least value keeps it (R99, R100). -/
def execVAbs (id : CoreId) (s : State) : Out :=
  lanewise1 id 0x07 s (fun fmt a => if fmt = 0 then f32Abs a else if a.slt 0 then -a else a)

/-- V_NEG: negation (R99, R100). -/
def execVNeg (id : CoreId) (s : State) : Out :=
  lanewise1 id 0x08 s (fun fmt a => if fmt = 0 then f32Neg a else -a)

/-- V_FMA: va × vb + vc with one rounding (R98). -/
def execVFma (id : CoreId) (s : State) : Out :=
  vectorOp id 0x04 s (fun c w => (Vec.ofLanes (fun i =>
    f32Fma ((c.vreg (vVa w)).val.lane i) ((c.vreg (vVb w)).val.lane i) ((c.vreg (vVc w)).val.lane i)), 0))

/-- V_CMP_EQ (R54, R99, R100). -/
def execVCmpEq (id : CoreId) (s : State) : Out := vectorCmp id 0x18 s .eq

/-- V_CMP_LT (R54, R99, R100). -/
def execVCmpLt (id : CoreId) (s : State) : Out := vectorCmp id 0x19 s .lt

/-- V_CMP_LE (R54, R99, R100). -/
def execVCmpLe (id : CoreId) (s : State) : Out := vectorCmp id 0x1a s .le

/-- V_EXP: e to the x (R101). -/
def execVExp (id : CoreId) (s : State) : Out := lanewise1 id 0x20 s (fun _ a => transcend 0 a)

/-- V_LOG: natural logarithm (R101). -/
def execVLog (id : CoreId) (s : State) : Out := lanewise1 id 0x21 s (fun _ a => transcend 1 a)

/-- V_RCP: reciprocal (R101). -/
def execVRcp (id : CoreId) (s : State) : Out := lanewise1 id 0x22 s (fun _ a => transcend 2 a)

/-- V_RSQRT: reciprocal square root (R101). -/
def execVRsqrt (id : CoreId) (s : State) : Out := lanewise1 id 0x23 s (fun _ a => transcend 3 a)

/-- V_TANH: hyperbolic tangent (R101). -/
def execVTanh (id : CoreId) (s : State) : Out := lanewise1 id 0x24 s (fun _ a => transcend 4 a)

/-- V_SIGM: logistic sigmoid (R101). -/
def execVSigm (id : CoreId) (s : State) : Out := lanewise1 id 0x25 s (fun _ a => transcend 5 a)

/-- V_CVT: FP32 lanes to a packed format, packed from lane 0 upward; with RND 1 one draw at issue (R88, R91, R92). -/
def execVCvt (id : CoreId) (s : State) : Out :=
  slotCmd id 1 0x28 answerCore s (fun w t s =>
    let g := s.generator id.pos id.core
    let s := if vRnd w = 1 && vActive w then s.drawn id.pos id.core else s
    s.modCore id.key (fun c => c.sendV (vVd w) (t + 3) (c.lanesOf (predOf w))
      (convertPacked (vFmt w) (roundingOf (vRnd w) g) (c.vreg (vVa w)).val) 0))

/-- V_UNPK: part IMM of a packed register as exact FP32 values (R89). -/
def execVUnpk (id : CoreId) (s : State) : Out :=
  vectorOp id 0x29 s (fun c w => (unpack (vFmt w) (c.vreg (vVa w)).val (vImm w), 0))

/-- V_BCAST: sr[31:0] to every enabled lane, its poison with it (R54, R79). -/
def execVBcast (id : CoreId) (s : State) : Out :=
  vectorOp id 0x30 s (fun c w =>
    let r := c.sreg (vSr w)
    (Vec.ofLanes (fun _ => r.val.setWidth 32), if r.poison.getLsbD 0 then BitVec.allOnes 64 else 0))

/-- V_EXT: a lane zero-extended to a scalar register, its poison with it, when lane 0 is enabled (R53, R54, R79). -/
def execVExt (id : CoreId) (s : State) : Out :=
  slotCmd id 1 0x31 answerCore s (fun w t s => s.modCore id.key (fun c =>
    let r := c.vreg (vVa w)
    if (c.lanesOf (predOf w)).getLsbD 0 then
      c.sendS (vVd w) (t + 2) ((r.val.lane (vImm w)).setWidth 64) (if r.poison.getLsbD (vImm w) then 1 else 0)
    else c))

/-- V_SHUF: va[vb[i] mod 64], each with its poison (R54, R79). -/
def execVShuf (id : CoreId) (s : State) : Out :=
  vectorOp id 0x32 s (fun c w =>
    let a := c.vreg (vVa w)
    let ix (i : Nat) : Nat := ((c.vreg (vVb w)).val.lane i).toNat % 64
    (Vec.ofLanes (fun i => a.val.lane (ix i)), Lanes.ofFn (fun i => a.poison.getLsbD (ix i))))

/-- V_RSUM: the sum of the lanes in the fixed tree (R102). -/
def execVRsum (id : CoreId) (s : State) : Out := vectorReduce id 0x33 s 0 f32Sum

/-- V_RMAX: the maximum of the lanes (R102). -/
def execVRmax (id : CoreId) (s : State) : Out := vectorReduce id 0x34 s 0xFF800000#32 f32MaxAll

/-- V_RAND: one draw, its words to the enabled lanes (R91, R92). -/
def execVRand (id : CoreId) (s : State) : Out :=
  slotCmd id 1 0x35 answerCore s (fun w t s =>
    let g := s.generator id.pos id.core
    let s := if vActive w then s.drawn id.pos id.core else s
    s.modCore id.key (fun c => c.sendV (vVd w) (t + 2) (c.lanesOf (predOf w)) (Vec.ofLanes (srWord g)) 0))

/-- V_MOV: a copy, with its poison (R54, R79). -/
def execVMov (id : CoreId) (s : State) : Out :=
  vectorOp id 0x36 s (fun c w => ((c.vreg (vVa w)).val, (c.vreg (vVa w)).poison))

/-- V_IOTA: each lane its index (R54). -/
def execVIota (id : CoreId) (s : State) : Out :=
  vectorOp id 0x37 s (fun _ _ => (Vec.ofLanes (fun i => BitVec.ofNat 32 i), 0))

end Sys2Proof.Machine
end

