-- ==== Sys2Proof/Machine/MatrixSlot.lean ====
section
/-! DEFINITION. The M slot (R55 to R60, R93 to R96): one meaning per instruction. The fetches of m.ldw and m.mmul are
the FEEDER_FETCH commands of their schedule (R115); the traps of R59 keep every reader behind them. -/

namespace Sys2Proof.Machine

/-- Last cycle of a feeder job's schedule. -/
def FeedJob.lastCycle (j : FeedJob) (weights : Bool) : Nat := j.cycle weights (j.total - 1)

/-- Whether a feeder job is still wanted: fetches owed, or an access or an issue cycle of the tile that may still meet
one of its bank uses (R116). -/
def State.keepJob (s : State) (pos : Nat) (weights : Bool) (j : FeedJob) : Bool :=
  decide (j.done < j.total)
    || s.access.any (fun a => decide (a.pos = pos) && decide (a.due ≤ j.lastCycle weights))
    || (List.range 8).any (fun c => let k := s.core (coreKey pos c)
                                    !k.stopped && decide (k.nextIssue ≤ j.lastCycle weights))

/-- Scratchpad offset of the element at the current position of a feeder stream. -/
def Stream.offset (d : Stream) : Nat := d.elemAddr d.pos.toNat % 2 ^ 27

/-- M_NOP (R56): none. -/
def execMNop (id : CoreId) (s : State) : Out := slotCmd id 2 0x00 answerCore s (fun _ _ s => s)

/-- M_LDW (R56, R58): the weight block at POS into wb, POS up by 1; the feeder for Lw cycles. -/
def execMLdw (id : CoreId) (s : State) : Out :=
  slotCmd id 2 0x01 answerCore s (fun w t s => s.ifOn id.key w (fun s => s.modCore id.key (fun c =>
    let d := c.stream (mTs w)
    let lw := ldwCycles (mFmtW w)
    let job : FeedJob :=
      { at_ := t, base := d.offset, stride := d.stride.toInt, fmt := mFmtW w, total := lw, done := 0, wb := mWb w
        acc := 0, clr := false, fmtW := mFmtW w, pc := c.pc.toNat, acts := [] }
    { c.setStream (mTs w) { d with pos := d.pos + 1 } with
      wb := SMap.put ⟨0, 0⟩ c.wb (mWb w) ⟨0, 0⟩
      feedW := c.feedW.filter (s.keepJob id.pos true) ++ [job]
      mt := { c.mt with
        ldwFree := t + lw
        wbReady := SMap.put 0 c.mt.wbReady (mWb w) (t + lw + 2)
        streamBusy := SMap.put 0 c.mt.streamBusy (mTs w) (t + lw) } })))

/-- M_MMUL (R56, R58, R93): count activation vectors times wb into rows 0 to count − 1 of acc, POS up by count; the
array for O cycles, the accumulator readable 8 later. -/
def execMMmul (id : CoreId) (s : State) : Out :=
  slotCmd id 2 0x02 answerCore s (fun w t s => s.ifOn id.key w (fun s => s.modCore id.key (fun c =>
    let d := c.stream (mTs w)
    let n := mCount w
    let o := mmulOccupancy (mFmtA w) (mFmtW w) n
    let job : FeedJob :=
      { at_ := t, base := d.offset, stride := d.stride.toInt, fmt := mFmtA w, total := n, done := 0, wb := mWb w
        acc := mAcc w, clr := mClr w, fmtW := mFmtW w, pc := c.pc.toNat, acts := [] }
    { c.setStream (mTs w) { d with pos := d.pos + BitVec.ofNat 16 n } with
      feedA := c.feedA.filter (s.keepJob id.pos false) ++ [job]
      mt := { c.mt with
        mmulFree := t + o
        wbFree := SMap.put 0 c.mt.wbFree (mWb w) (t + o)
        accRead := SMap.put 0 c.mt.accRead (mAcc w) (t + o + 8)
        streamBusy := SMap.put 0 c.mt.streamBusy (mTs w) (t + o) } })))

/-- M_RD (R56): vr := row of acc. -/
def execMRd (id : CoreId) (s : State) : Out :=
  slotCmd id 2 0x03 answerCore s (fun w t s => s.ifOn id.key w (fun s => s.modCore id.key (fun c =>
    c.sendV (mVr w) (t + 2) (BitVec.allOnes 64) (c.accRow (mAcc w) (mRow w)) 0)))

/-- M_WR (R56): row of acc := vr, usable two cycles later. -/
def execMWr (id : CoreId) (s : State) : Out :=
  slotCmd id 2 0x04 answerCore s (fun w t s => s.ifOn id.key w (fun s => s.modCore id.key (fun c =>
    { c with
      pend := c.pend ++ [⟨t + 2, .accRow (mAcc w) (mRow w), BitVec.allOnes 64, (c.vreg (mVr w)).val, 0⟩]
      mt := { c.mt with accUse := SMap.put 0 c.mt.accUse (mAcc w) (t + 2) } })))

/-- M_CVT (R56, R96): a row of acc converted and packed, its block scales in lane 63; with RND 1 one draw (R91). -/
def execMCvt (id : CoreId) (s : State) : Out :=
  slotCmd id 2 0x05 answerCore s (fun w t s => s.ifOn id.key w (fun s =>
    let g := s.generator id.pos id.core
    let s := if mRnd w = 1 then s.drawn id.pos id.core else s
    s.modCore id.key (fun c => c.sendV (mVr w) (t + 4) (BitVec.allOnes 64)
      (convertRow (mFmtA w) (mSrule w) (roundingOf (mRnd w) g) (c.accRow (mAcc w) (mRow w))) 0)))

/-- M_ZERO (R56): all rows of acc := +0, usable two cycles later. -/
def execMZero (id : CoreId) (s : State) : Out :=
  slotCmd id 2 0x06 answerCore s (fun w t s => s.ifOn id.key w (fun s => s.modCore id.key (fun c =>
    { c with
      pend := c.pend ++ [⟨t + 2, .accAll (mAcc w), BitVec.allOnes 64, 0, 0⟩]
      mt := { c.mt with accUse := SMap.put 0 c.mt.accUse (mAcc w) (t + 2) } })))

end Sys2Proof.Machine
end

