-- ==== Sys2Proof/Machine/TransferSlot.lean ====
section
/-! DEFINITION. The T slot (R61 to R69): one meaning per instruction over the shared forms: direct accesses, sends,
sync, the queued operations and windows. -/

namespace Sys2Proof.Machine

/-- A posted operation of a core: its id, and the state that holds it. -/
def State.post (s : State) (key : Nat) (k : PostKind) : Nat × State :=
  let r := (s.core key).post k
  (r.1, s.setCore key r.2)

/-- Local cycle of grove `h` at local cycle `n` of grove `g`. -/
def State.cycleIn (s : State) (g h n : Nat) : Nat := n + SMap.get 0 s.clk.lag g - SMap.get 0 s.clk.lag h

/-- The class of a store that a core of a position makes into another tile (R120, R122). -/
def State.tileClass (s : State) (pos : Nat) : WrClass := .tile ((s.logical pos).getD 0) ((s.partOf pos).getD 0)

/-- The bank-slot access of a core's direct access: at its own turns, or at the neighbour's turns for the port facing
the issuer (R65, R112, R165). -/
def State.coreAccess (s : State) (pos core q agent off len t : Nat) (task : Task) : Access :=
  let key := coreKey pos core
  { accessOf q agent off len (dueFrom agent off (s.leaveAt key t)) task with timed := true, core := some key }

/-- An access that crosses the neighbour port into another grove: it holds a credit of the link until it is served
(R20, R69, R179); its turn there is an untimed one. -/
def State.crossAccess (s : State) (pos d q off len t : Nat) (task : Task) : Access :=
  let c := s.cycleIn (groveOf pos) (groveOf q) t
  { accessOf q (portAgent d) off len (dueFrom (portAgent d) off c) task with inlink := some (linkKey pos (28 + d)) }

/-- An access put among those that wait for turns. -/
def State.addAccess (s : State) (a : Access) : State := { s with access := s.access ++ [a] }

/-- A core stalled until a flow-controlled load returns (R69). -/
def State.loadStall (s : State) (key t : Nat) : State :=
  s.modCore key (fun c => { c.stallAt (.load false) 3 (t + 1) with nextIssue := c.nextIssue })

/-- A packet for a data-space address, with a tracking entry for `holder` (R173). -/
def State.sendTo (s : State) (pos addr : Nat) (p : Pkt) (holder : Holder) : State :=
  s.sendPacket pos ((s.destOf pos (BitVec.ofNat 48 addr)).getD noDest) { p with addr := BitVec.ofNat 48 addr } holder

/-- A direct load of `len` bytes from the address a T slot names (R63, R69). -/
def State.directLoad (s : State) (pos core w t : Nat) (dst : LoadDst) : State :=
  let key := coreKey pos core
  let addr := (s.core key).tDirect w
  let len := (tShape (opcOf w)).1
  match s.reach pos addr len (tShape (opcOf w)).2 with
  | .inl _ => s
  | .inr (.own off) => s.addAccess (s.coreAccess pos core pos core off len t (.load key dst 4))
  | .inr (.near d q off true) => s.addAccess (s.coreAccess pos core q (portAgent d) off len t (.load key dst 6))
  | .inr (.near d q off false) =>
    ((s.takeCredits (linkKey pos (28 + d)) 3 1).addAccess (s.crossAccess pos d q off len t (.load key dst 0))).loadStall key t
  | .inr (.routed _ _) =>
    (s.sendTo pos addr { Pkt.blank with type := tREAD, size := if len = 8 then 1 else 2 } (.load key dst)).loadStall key t

/-- A direct store to the address a T slot names, posted (R63, R65, R69). -/
def State.directStore (s : State) (pos core w t : Nat) (data : Vec) (poison : Lanes) : State :=
  let key := coreKey pos core
  let addr := (s.core key).tDirect w
  let len := (tShape (opcOf w)).1
  let r := s.post key .store
  let s := r.2
  let own (a : Access) : Access := { a with data := data, poison := poison, holder := .posted key r.1 }
  match s.reach pos addr len (tShape (opcOf w)).2 with
  | .inl _ => s
  | .inr (.own off) => s.addAccess (own (s.coreAccess pos core pos core off len t (.write .own)))
  | .inr (.near d q off true) =>
    s.addAccess (own (s.coreAccess pos core q (portAgent d) off len t (.write (s.tileClass pos))))
  | .inr (.near d q off false) =>
    (s.takeCredits (linkKey pos (28 + d)) 3 1).addAccess (own (s.crossAccess pos d q off len t (.write (s.tileClass pos))))
  | .inr (.routed _ _) =>
    let p := if len = 8 then { Pkt.blank with type := tWRITE, size := 1, inlineW := data.setWidth 64, inlinePoison := poison.setWidth 2 }
      else { Pkt.blank with type := tWRITE, size := 2, payload := data, poison := poison }
    s.sendTo pos addr p (.posted key r.1)

/-- The next element of a stream taken (R62). -/
def State.advance (s : State) (key w n : Nat) : State :=
  s.modCore key (fun c => c.setStream (tTd w) { c.stream (tTd w) with pos := (c.stream (tTd w)).pos + BitVec.ofNat 16 n })

/-- A 256-byte WRITE with a vector register's payload and the sync attachment of sb (R64), waiting under R66 for the
core's operations before `id`. -/
def Core.sendPkt (c : Core) (key id w : Nat) : Pkt :=
  let v := c.vreg (tVx w)
  let sb := (c.sreg (tSb w)).val.toNat
  { Pkt.blank with
    type := tWRITE, size := 2, payload := v.val, poison := v.poison
    obj := BitVec.ofNat 17 (bitsOf sb 0 17), add := BitVec.ofNat 16 (bitsOf sb 32 16), en := Nat.testBit sb 63
    guard_ := some (key, id) }

/-- A packet for a fabric port: INLINE holds the request word; the port stands beside the header (log entry 28). -/
def Pkt.toFabric (p : Pkt) (addr : Nat) (rt : Route) : Pkt :=
  { p with addr := BitVec.ofNat 48 addr, inlineW := BitVec.ofNat 64 (rt.record + 64 * rt.kind), port := some rt.port }

/-- A T slot that is active performs `f` of its field and issue cycle. -/
def transferOp (id : CoreId) (opc : Nat) (s : State) (f : Nat → Nat → State → State) : Out :=
  slotCmd id 3 opc answerT s (fun w t s => s.ifOn id.key w (f w t))

/-! ## Instructions -/

/-- T_NOP (R63): none. -/
def execTNop (id : CoreId) (s : State) : Out := transferOp id 0x00 s (fun _ _ s => s)

/-- T_SET (R62): the descriptor of three scalar registers, POS 0. -/
def execTSet (id : CoreId) (s : State) : Out :=
  transferOp id 0x01 s (fun w _ s => s.modCore id.key (fun c =>
    c.setStream (tTd w) (streamOf (c.sreg (tSa w)).val (c.sreg (tSb w)).val (c.sreg (tSc w)).val)))

/-- T_LDS (R63, R69): a 64-bit load into a scalar register. -/
def execTLds (id : CoreId) (s : State) : Out :=
  transferOp id 0x02 s (fun w t s => s.directLoad id.pos id.core w t (.sreg (tSc w)))

/-- T_STS (R63): a posted 64-bit store of sb with its poison. -/
def execTSts (id : CoreId) (s : State) : Out :=
  transferOp id 0x03 s (fun w t s =>
    let r := (s.core id.key).sreg (tSb w)
    s.directStore id.pos id.core w t (r.val.setWidth 2048) (r.poison.setWidth 64))

/-- T_LDV (R63, R69): a 256-byte load into a vector register. -/
def execTLdv (id : CoreId) (s : State) : Out :=
  transferOp id 0x04 s (fun w t s => s.directLoad id.pos id.core w t (.vreg (tVx w)))

/-- T_STV (R63): a posted 256-byte store, split under R111 where it must be. -/
def execTStv (id : CoreId) (s : State) : Out :=
  transferOp id 0x05 s (fun w t s =>
    let r := (s.core id.key).vreg (tVx w)
    s.directStore id.pos id.core w t r.val r.poison)

/-- T_RD (R62, R63): the next element of a read wheel stream. -/
def execTRd (id : CoreId) (s : State) : Out :=
  transferOp id 0x06 s (fun w t s => (s.directLoad id.pos id.core w t (.vreg (tVx w))).advance id.key w 1)

/-- T_WR (R62, R63): the next element of a write wheel stream. -/
def execTWr (id : CoreId) (s : State) : Out :=
  transferOp id 0x07 s (fun w t s =>
    let r := (s.core id.key).vreg (tVx w)
    (s.directStore id.pos id.core w t r.val r.poison).advance id.key w 1)

/-- T_SEND (R63, R64, R173): a routed packet to a data-space address. -/
def execTSend (id : CoreId) (s : State) : Out :=
  transferOp id 0x08 s (fun w _ s =>
    let r := s.post id.key .send
    let c := s.core id.key
    r.2.sendTo id.pos (c.sreg (tSa w)).val.toNat (c.sendPkt id.key r.1 w) (.posted id.key r.1))

/-- T_RLU (R232): the handle of a route table entry: INDEX, the version read, KIND. -/
def execTRlu (id : CoreId) (s : State) : Out :=
  transferOp id 0x09 s (fun w t s => s.modCore id.key (fun c =>
    let i := c.tAddr w
    c.sendS (tSc w) (t + 4)
      (BitVec.ofNat 64 (packFields [(0, 10, i), (10, 1, (s.epoch id.pos).toNat), (11, 2, (s.route id.pos i).kind)])) 0))

/-- T_SENDR (R233): to the destination of a route table entry; kinds 2 and 3 leave for their fabric port with the
request word in INLINE. -/
def execTSendr (id : CoreId) (s : State) : Out :=
  transferOp id 0x0A s (fun w _ s =>
    let r := s.post id.key .send
    let c := s.core id.key
    let i := bitsOf (c.sreg (tSa w)).val.toNat 0 10
    let rt := s.route id.pos i
    let addr := ((rt.daddr : Int) + tImmS w).toNat
    let p := c.sendPkt id.key r.1 w
    if rt.kind = 1 then r.2.sendTo id.pos addr p (.posted id.key r.1)
    else r.2.sendRouted id.pos rt.port (p.toFabric addr rt) (.posted id.key r.1) i (tImmS w))

/-- T_ADD (R63, R66): an add of sb[31:0], which leaves once the core's earlier writes are performed. -/
def execTAdd (id : CoreId) (s : State) : Out :=
  transferOp id 0x0B s (fun w _ s =>
    let r := s.post id.key .add
    let c := s.core id.key
    r.2.sendSync { set := false, obj := bitsOf (c.sreg (tSa w)).val.toNat 3 17, value := (c.sreg (tSb w)).val.setWidth 32
                   kind := 0, source := (s.logical id.pos).getD 0, part := (s.partOf id.pos).getD 0, pos := id.pos
                   void := false, guard_ := some (id.key, r.1), ends := some (id.key, r.1), host := none, at_ := 0, phase := .flying })

/-- The words of a tile's sync checkpoint record: the counts of entries 0 to 255, INVCOUNT, its complement (R148). -/
def State.ckptWords (s : State) (logical inv : Nat) : List W64 :=
  (List.range 128).map (fun i => BitVec.ofNat 64
    ((s.syncCount (logical * 256 + 2 * i)).toNat + 2 ^ 32 * (s.syncCount (logical * 256 + 2 * i + 1)).toNat))
    ++ [BitVec.ofNat 64 inv, ~~~ BitVec.ofNat 64 inv]

/-- HBM offset of a tile's checkpoint record (R148). -/
def ckptOffset (base logical inv : Nat) : Nat := base + logical * 4096 + inv % 2 * 2048

/-- A waiting checkpoint record given a mover-queue entry of mover 1 when one is free (R148, R199). -/
def State.grantCkpt (s : State) (pos : Nat) : State :=
  match (s.tile pos).ckpts with
  | [] => s
  | k :: rest =>
    if s.queueLen pos < 16 then
      (s.modTile pos (fun t => { t with ckpts := rest })).enqueue pos .checkpoint 1 0 0 k.words k.off true
    else s

/-- An invocation boundary completed (R148): INVCOUNT counts, and core 0 writes a checkpoint record where the
partition's area is VALID. -/
def State.boundary (s : State) (pos core : Nat) : State :=
  let inv := (s.rd (TILE_CORE_INVCOUNT pos core) + 1) % 2 ^ 64
  let s := s.wr (TILE_CORE_INVCOUNT pos core) inv
  match s.partOf pos, s.logical pos with
  | some p, some l =>
    if core = 0 && s.flag (SEQ_CKPT_BASEp_VALID p) then
      (s.modTile pos (fun t => { t with
        ckpts := t.ckpts ++ [⟨ckptOffset (s.fld (SEQ_CKPT_BASEp_BASE p)) l inv, s.ckptWords l inv⟩] })).grantCkpt pos
    else s
  | _, _ => s

/-- T_WAIT (R147, R148): complete once the threshold is reached; IMM[0] marks a boundary. -/
def execTWait (id : CoreId) (s : State) : Out :=
  transferOp id 0x0C s (fun w _ s => if Nat.testBit w 36 then s.boundary id.pos id.core else s)

/-- A fill or copy queued for the memory-side engine with its operands (R126, R127). -/
def State.queueMse (s : State) (pos core : Nat) (kind : QKind) (post : PostKind) (words : List W64) : State :=
  let r := s.post (coreKey pos core) post
  r.2.enqueue pos kind 2 core r.1 words 0 true

/-- T_FILL (R63, R126): queued with sa, sb[31:0], sc and IMM. -/
def execTFill (id : CoreId) (s : State) : Out :=
  transferOp id 0x0D s (fun w _ s =>
    let c := s.core id.key
    s.queueMse id.pos id.core .fill .fill
      [(c.sreg (tSa w)).val, ((c.sreg (tSb w)).val.setWidth 32).setWidth 64, (c.sreg (tSc w)).val, BitVec.ofNat 64 (tImm w)])

/-- T_COPY (R63, R126): queued with sa, sb, sc and IMM. -/
def execTCopy (id : CoreId) (s : State) : Out :=
  transferOp id 0x0E s (fun w _ s =>
    let c := s.core id.key
    s.queueMse id.pos id.core .copy .copy
      [(c.sreg (tSa w)).val, (c.sreg (tSb w)).val, (c.sreg (tSc w)).val, BitVec.ofNat 64 (tImm w)])

/-- T_MOV (R199, R200): an entry for mover IMM[0], its descriptor read at the core's turns. -/
def execTMov (id : CoreId) (s : State) : Out :=
  transferOp id 0x0F s (fun w t s =>
    let off := (ownOffset ((s.core id.key).sreg (tSa w)).val.toNat 64).getD 0
    let qid := (s.tile id.pos).nextId
    let r := s.post id.key .mov
    let s := r.2.enqueue id.pos .mov (bitsOf w 36 1) id.core r.1 [] off false
    s.addAccess (s.coreAccess id.pos id.core id.pos id.core off 64 t (.desc qid)))

/-- A gather or scatter posted: POS up by E, a mover-queue entry taken, the operation on its way to the sequence unit
(R158). -/
def State.slotOp (s : State) (pos core w : Nat) (scatter : Bool) : State :=
  let key := coreKey pos core
  let c := s.core key
  let sb := (c.sreg (tSb w)).val
  let slot := bitsOf (c.sreg (tSa w)).val.toNat 0 8
  let d := c.stream (tTd w)
  let n := bitsOf sb.toNat 24 12 * bitsOf sb.toNat 36 8 + (if scatter then 0 else bitsOf sb.toNat 62 1)
  let qid := (s.tile pos).nextId
  let r := s.post key (if scatter then .scatter else .gather)
  let s := (r.2.advance key w n).enqueue pos (if scatter then .scatter s.nextOp else .gather s.nextOp) 0 core r.1 [] 0 true
  { s with
    nextOp := s.nextOp + 1
    ops := s.ops ++ [{ id := s.nextOp, pos := pos, core := core, posted := r.1, entry := qid, scatter := scatter
                       slot := slot, sb := sb, logical := (s.logical pos).getD 0, part := (s.partOf pos).getD 0
                       base := d.base.toNat % 2 ^ 27, stride := d.stride.toInt, start := d.pos.toNat, phase := .arriving }] }

/-- T_SGAT (R158). -/
def execTSgat (id : CoreId) (s : State) : Out :=
  transferOp id 0x10 s (fun w _ s => s.slotOp id.pos id.core w false)

/-- T_SSCAT (R158). -/
def execTSscat (id : CoreId) (s : State) : Out :=
  transferOp id 0x11 s (fun w _ s => s.slotOp id.pos id.core w true)

/-- T_WOPEN (R124): the record read at the core's turns; the window changes 3 cycles after. -/
def execTWopen (id : CoreId) (s : State) : Out :=
  transferOp id 0x12 s (fun w t s =>
    let off := (ownOffset ((s.core id.key).sreg (tSa w)).val.toNat 16).getD 0
    let r := s.post id.key .wopen
    r.2.addAccess { r.2.coreAccess id.pos id.core id.pos id.core off 16 t (.wopen id.core (bitsOf w 36 4)) with
                    holder := .posted id.key r.1 })

/-- T_WCLOSE (R124): closed for every landing turn from 4 cycles after issue. -/
def execTWclose (id : CoreId) (s : State) : Out :=
  transferOp id 0x13 s (fun w t s =>
    let r := s.post id.key .wclose
    r.2.modTile id.pos (fun x => { x with
      wins := x.wins ++ [⟨bitsOf w 36 4, t + 4, id.core, none, 0, r.1, none⟩] }))

/-- T_FENCE (R63): complete once nothing posted is outstanding. -/
def execTFence (id : CoreId) (s : State) : Out := transferOp id 0x14 s (fun _ _ s => s)

/-- T_SENDRED (R63, R184): a contribution to reduction IMM[9:0], absorbed at the own router. -/
def execTSendred (id : CoreId) (s : State) : Out :=
  transferOp id 0x15 s (fun w _ s =>
    let r := s.post id.key .send
    let c := s.core id.key
    let s := r.2
    let p := { c.sendPkt id.key r.1 w with
      type := tRED, addr := BitVec.ofNat 48 (c.sreg (tSa w)).val.toNat, redid := bitsOf w 36 10 }
    s.place { s.stamp id.pos 0 p with guard_ := some (id.key, r.1) } (.router id.pos 0))

end Sys2Proof.Machine
end

