-- ==== Sys2Proof/Machine/Scratchpad.lean ====
section
/-! DEFINITION. The tile scratchpad's own events (R108 to R135): turns of the wheel, feeder fetches, marking, fills and
copies, scrubbing, windows, clears, reach entries and captures. -/

namespace Sys2Proof.Machine

/-! ## Answers -/

/-- The answer of an event of a tile at local cycle `n`: what lies outside the tiles' cores, memories, registers,
queues and networks stays as it is. -/
def answerTile (g n : Nat) (s : State) (f : State → State) : Out :=
  let s' := s.atCycle g n
  let t := f s'
  .next { s' with
    cores := t.cores, csr := t.csr, faults := t.faults, free := t.free, tiles := t.tiles, access := t.access
    net := t.net, track := t.track, creditUsed := t.creditUsed, creditBack := t.creditBack, msgs := t.msgs
    spad := t.spad, spadPoison := t.spadPoison, spadEcc := t.spadEcc, spadLine := t.spadLine, spadLineCe := t.spadLineCe, marks := t.marks
    imem := t.imem, imemEcc := t.imemEcc }

/-! ## What an access does when its turn serves it -/

/-- The sync attachment of a landed WRITE (R64, R66): kind 1 for a tile's, 2 for one that came from the fabric. -/
def State.attachPkt (s : State) (p : Pkt) (pos : Nat) : State :=
  if p.en then
    s.sendSync { set := false, obj := p.obj.toNat, value := p.add.setWidth 32, kind := if p.srckind = 2 then 2 else 1
                 source := if p.srckind = 0 then p.src else 0, part := p.part, pos := pos, void := false
                 guard_ := p.guard_, ends := none, host := none, at_ := 0, phase := .flying }
  else s

/-- The end of an access: the buffer slots it held are free, its packet is answered, its holder told. A refused write
has no attachment applied (R123). -/
def State.accessDone (s : State) (a : Access) (refused : Option Nat) (dataPoison : Bool) : State :=
  let s := match a.pkt with
    | none => s.freeSlots a.inlink 3 1
    | some p => s.freeSlots a.inlink (classOf p.type) p.flits
  let s := match a.pkt with
    | none => s
    | some p =>
      if p.type ≠ tWRITE then s
      else match refused with
        | some r => s.place (p.answer tNACK r) (.router a.pos 0)
        | none => (s.place (p.answer tACK 0) (.router a.pos 0)).attachPkt p a.pos
  match a.holder with
  | .posted key id =>
    let s := if refused.isSome then s.perfNack key else s
    s.posted key id
  | .mover pos id i => s.modEntry pos id (fun e => e.answered i refused 0 dataPoison)
  | _ => s

/-- Words written to an instruction store from a TILE window offset; a poisoned word gets check bits that read as
uncorrectable (R80, R201). -/
def State.imemWrite (s : State) (pos off len data poison : Nat) : State :=
  let k := imemKey pos off
  { s with
    imem := Mem.write s.imem k len data
    imemEcc := (List.range (len / 4)).foldl
      (fun m i => SMap.put 0 m (k / 4 + i) (if Nat.testBit poison i then 2 else 0)) s.imemEcc }

/-- An access put back at its place in the list. -/
def State.putAccess (s : State) (i : Nat) (a : Access) : State := { s with access := replaceAt s.access i a }
/-- An access taken out of the list. -/
def State.dropAccess (s : State) (i : Nat) : State := { s with access := removeAt s.access i }

/-- The second part of a split access (R111): a write's remaining data, or a read that keeps what it has read. -/
def Access.second (a : Access) (data poison : Nat) : Access :=
  { a with
    off := a.off + a.len, len := a.whole.2 - a.len, data := BitVec.ofNat 2048 data, poison := BitVec.ofNat 64 poison
    due := a.lastDue, first := false }

/-- A part of a read joined to what its access has read before: data and poison bits from the first byte on (R111). -/
def Access.joined (a : Access) (data poison : Nat) : Nat × Nat :=
  if a.off = a.whole.1 then (data, poison)
  else
    let n := a.off - a.whole.1
    (setBitsOf a.data.toNat (8 * n) (8 * a.len) data, setBitsOf a.poison.toNat (n / 4) (a.len / 4) poison)

/-- 64-bit words of a number. -/
def wordsOf (n data : Nat) : List W64 := (List.range n).map (fun i => BitVec.ofNat 64 (bitsOf data (64 * i) 64))

/-- A write to an instruction store by a mover: taken while every core whose store it meets is stopped, else discarded
with a decode fault (R76). -/
def State.storeLanding (s : State) (pos off data poison : Nat) : State :=
  if (s.core (coreKey pos (off / 0x10000))).stopped && (s.core (coreKey pos ((off + 255) / 0x10000))).stopped then
    s.imemWrite pos off 256 data poison
  else s.decodeFault true (tileBase pos + off)

/-- What a read brings once all its bytes are in (R111, R132): `r` its data and poison bits. The words of a window record
are taken as they are, poisoned or not (log entry 97). -/
def State.readServed (s : State) (a : Access) (t : Nat) (r : Nat × Nat) : State :=
  match a.task with
  | .write _ => s
  | .load key dst lat =>
    if a.timed then
      (if dst = .sreg 0 then s
       else s.modCore key (fun c => { c with
         pend := c.pend ++ [⟨t + lat, dst.dst, BitVec.allOnes 64, BitVec.ofNat 2048 r.1, BitVec.ofNat 64 r.2⟩] }))
    else (s.accessDone a none false).loadBack key dst r.1 r.2
  | .desc id => s.modEntry a.pos id (fun e => { e with desc := wordsOf 8 r.1, ready := true })
  | .wopen core n =>
    let id := match a.holder with
      | .posted _ id => id
      | _ => 0
    s.modTile a.pos (fun x => { x with
      wins := x.wins ++ [⟨n, t + 3, core, some (BitVec.ofNat 64 r.1, BitVec.ofNat 64 (r.1 >>> 64)), a.whole.1, id, none⟩] })
  | .payload tag =>
    (match s.trackAt a.pos tag with
      | none => s
      | some tr => s.dispatch a.pos tag { tr with
          pkt := { tr.pkt with payload := BitVec.ofNat 2048 r.1, poison := BitVec.ofNat 64 r.2 } })
  | .answer =>
    (match a.pkt with
      | none => s
      | some p => (s.freeSlots a.inlink (classOf p.type) p.flits).place (p.rdata r.1 r.2) (.router a.pos 0))
  | .store id index =>
    (match (s.tile a.pos).queue.find? (fun e => e.id = id) with
      | none => s
      | some e =>
        (s.storeLanding a.pos (((mdescOf e.desc).packet index).2 % 2 ^ 19) r.1 r.2).modEntry a.pos id
          (fun e => e.answered index none 0 (decide (r.2 ≠ 0))))

/-- Access `i` of the list served at its turn in cycle `t` (R111, R122, R123, R132). A split access makes its first part
and waits for the turn of its second; a window refuses a write whole, at its first part, with NACK reason 0 (R172). -/
def State.serve (s : State) (i : Nat) (a : Access) (t : Nat) : State :=
  match a.task with
  | .write cls =>
    let reason := if a.off = a.whole.1 then s.windowReason a.pos a.whole.1 a.whole.2 cls else none
    (match reason with
      | some r =>
        let src := match a.pkt with
          | some p => p.src
          | none => cls.code.2
        ((s.dropAccess i).discard a.pos a.whole.1 cls src r).accessDone a (some 0) false
      | none =>
        let s := s.spadWrite a.pos a.off a.len a.data.toNat a.poison.toNat
        if a.first then s.putAccess i (a.second (a.data.toNat >>> (8 * a.len)) (a.poison.toNat >>> (a.len / 4)))
        else (s.dropAccess i).accessDone a none (decide (a.poison ≠ 0)))
  | _ =>
    let r := s.spadRead a.pos a.off a.len a.agent false
    let j := a.joined r.1 r.2.1
    if a.first then r.2.2.putAccess i (a.second j.1 j.2) else (r.2.2.dropAccess i).readServed a t j

/-- The access that an agent serves next at a tile: the earliest turn, the lowest core at one turn (R166), the oldest
of those; with its place in the list. -/
def nextAccess (pos agent : Nat) : List Access → Nat → Option (Nat × Access)
  | [], _ => none
  | a :: l, i =>
    let rest := nextAccess pos agent l (i + 1)
    if a.pos = pos ∧ a.agent = agent then
      match rest with
      | none => some (i, a)
      | some (j, b) =>
        if b.due < a.due ∨ (b.due = a.due ∧ (b.core.getD 0) < (a.core.getD 0)) then some (j, b) else some (i, a)
    else rest

/-- The accesses that a turn served to another leaves waiting: each meets the turn 16 cycles later, and its core's
later ones stay behind it (R65, R166). -/
def bumped (pos agent group t : Nat) (l : List Access) : List Access :=
  let hit (a : Access) : Bool :=
    decide (a.pos = pos ∧ a.agent = agent ∧ a.due = t ∧ groupOf a.off = group)
  let keys := (l.filter hit).filterMap (fun a => a.core)
  let l := l.map (fun a => if hit a then { a with due := t + 16 } else a)
  keys.foldl (fun l k => rebase k 0 l) l

/-- An access that a feeder holds off in cycle `t`: a timed agent's turn is a collision, counted and captured; an
untimed one defers and is counted (R116). -/
def State.heldOff (s : State) (i : Nat) (a : Access) (t bank : Nat) (weights : Bool) (fcore : Nat) : State :=
  let s := s.putAccess i { a with due := t + 16 }
  let s := match a.core with
    | some k => { s with access := rebase k 0 s.access }
    | none => s
  if a.timed then
    (s.count (tileCounter a.pos (TILE_SPAD_CONFLICT_CNT a.pos)) 1).capture (TILE_SPAD_CONFLICT_CAP a.pos)
      (packFields [(0, 5, bank), (5, 4, t), (9, 4, a.agent), (13, 1, weights.toNat), (14, 3, fcore), (17, 31, t)])
      (srcPos a.pos 18) 1
  else s.count (tileCounter a.pos (TILE_SPAD_YIELD_CNT a.pos)) 1

/-- Whether a window change that has taken effect by cycle `t` is still to be made. -/
def State.winsDue (s : State) (pos t : Nat) : Bool := (s.tile pos).wins.any (fun x => decide (x.at_ ≤ t))

/-- WHEEL_TURN_ACCESS (R111, R116, R122, R123, R165, R166): an agent's next access at a tile meets its turn. -/
def execWheelTurnAccess (pos agent : Nat) (s : State) : Out :=
  if 576 ≤ pos ∨ 16 ≤ agent then noUnit
  else match nextAccess pos agent s.access 0 with
    | none => idle s
    | some (i, a) =>
      let t := a.due
      if s.winsDue pos t || s.marksDue pos t then idle s
      else match s.feederAt pos (banksOf a.off a.len) t with
        | some (bank, w, fc) => answerTile (groveOf pos) t s (fun s => s.heldOff i a t bank w fc)
        | none => answerTile (groveOf pos) t s (fun s =>
            let s := s.serve i a t
            { s with access := bumped pos agent (groupOf a.off) t s.access })

/-! ## Feeders (R114, R115) -/

/-- The first job of a feeder with a fetch owed. -/
def nextJob : List FeedJob → Nat → Option (Nat × FeedJob)
  | [], _ => none
  | j :: l, i => if j.done < j.total then some (i, j) else nextJob l (i + 1)

/-- The rows of an m.mmul computed once its last activation vector is in (R93). -/
def Core.mmulRows (c : Core) (j : FeedJob) : Core :=
  let w := (c.wbuf j.wb).bytes.toNat
  { c with acc := (j.acts.zip (List.range j.acts.length)).foldl (fun m a =>
      let prev := if j.clr then 0 else SMap.get 0 m (j.acc * 64 + a.2)
      SMap.put 0 m (j.acc * 64 + a.2) (mmulRow j.fmt j.fmtW a.1 w prev)) c.acc }

/-- A weight fetch put into its buffer: bytes 128i on, with the poison of their words (R37, R115). -/
def Core.loadWeights (c : Core) (j : FeedJob) (len data poison : Nat) : Core :=
  let b := c.wbuf j.wb
  let b : WBuf :=
    ⟨BitVec.ofNat 65536 (setBitsOf b.bytes.toNat (1024 * j.done) (8 * len) data)
    , BitVec.ofNat 2048 (setBitsOf b.poison.toNat (32 * j.done) (len / 4) poison)⟩
  { c with wb := SMap.put ⟨0, 0⟩ c.wb j.wb b }

/-- Words of a feeder's fetch whose poison counts: all of a weight block, and those of an activation footprint that are
not pad (R79, R85). -/
def FeedJob.words (j : FeedJob) (weights : Bool) (len : Nat) : Nat := if weights then len / 4 else activationWords j.fmt

/-- FEEDER_FETCH (R115): the next fetch of a core's feeder in its scheduled cycle. The last fetch of an m.mmul completes
its rows. Activations poisoned when the bundle issued have trapped there (R77, R79); where words have become poisoned
between the issue and the fetch, the m.mmul takes the trap of its bundle at the fetch and no row changes (log entry
24). -/
def execFeederFetch (id : CoreId) (weights : Bool) (s : State) : Out :=
  if !id.wf then noUnit
  else
    let key := id.key
    let c := s.core key
    match nextJob (if weights then c.feedW else c.feedA) 0 with
    | none => idle s
    | some (i, j) =>
      let t := j.cycle weights j.done
      if (c.issued ≠ 0 ∧ c.nextIssue ≤ t) ∨ s.marksDue id.pos t = true then idle s
      else answerTile (groveOf id.pos) t s (fun s =>
        let p := j.bytes weights j.done
        let r := s.spadRead id.pos p.1 p.2 id.core true
        let s := r.2.2
        if weights then
          s.modCore key (fun c =>
            { c.loadWeights j p.2 r.1 r.2.1 with feedW := replaceAt c.feedW i { j with done := j.done + 1 } })
        else if r.2.1 % 2 ^ j.words weights p.2 ≠ 0 then
          let s := s.modCore key (fun c =>
            { c with feedA := replaceAt c.feedA i { j with done := j.total, acts := [] } })
          s.takeTrap id.pos id.core j.pc 0 t (Trap.at 4 2 0)
        else
          let j := { j with done := j.done + 1, acts := j.acts ++ [r.1] }
          s.modCore key (fun c =>
            let c := { c with feedA := replaceAt c.feedA i (if j.done = j.total then { j with acts := [] } else j) }
            if j.done = j.total then c.mmulRows j else c))

/-! ## The memory-side engine (R126, R127, R132, R133) -/

/-- A marking made: the word, or every word of the line, poisoned with fresh check bits; a word or line put right since
is left alone (R132). -/
def State.marked (s : State) (m : Mark) : State :=
  let k := spadKey m.pos m.off
  let s := { s with marks := s.marks.erase m }
  if m.line then
    if s.spadLine.has (k / 128) then
      { s with
        spadLine := s.spadLine.del (k / 128)
        spadLineCe := s.spadLineCe.del (k / 128)
        spadPoison := NSet.setBits s.spadPoison (k / 128 * 32) 32 (2 ^ 32 - 1)
        spadEcc := SMap.clear s.spadEcc (k / 128 * 32) (k / 128 * 32 + 32) }
    else s
  else if SMap.get 0 s.spadEcc (k / 4) = 2 then
    { s with spadPoison := s.spadPoison.add (k / 4), spadEcc := s.spadEcc.erase (k / 4) }
  else s

/-- The marking of a tile whose turn comes first. -/
def nextMark (pos : Nat) : List Mark → Option Mark
  | [] => none
  | m :: l =>
    match nextMark pos l with
    | none => if m.pos = pos then some m else none
    | some n => if m.pos = pos ∧ m.due ≤ n.due then some m else some n

/-- POISON_MARKING (R132): the marking a tile owes first, at the memory-side engine's turn; a feeder that holds the bank
puts it off to the next turn, which is counted (R116). -/
def execPoisonMarking (pos : Nat) (s : State) : Out :=
  if 576 ≤ pos then noUnit
  else match nextMark pos s.marks with
    | none => idle s
    | some m =>
      answerTile (groveOf pos) m.due s (fun s =>
        let s := s.modTile pos (fun x => { x with msFree := max x.msFree (m.due + 1) })
        if (s.feederAt pos (banksOf m.off (if m.line then 128 else 4)) m.due).isSome then
          ({ s with marks := replaceAt s.marks (s.marks.idxOf m) { m with due := m.due + 16 } }).count
            (tileCounter pos (TILE_SPAD_YIELD_CNT pos)) 1
        else s.marked m)

/-- Cause of the memory-side error of ranges of `n` bytes at the offsets given, if any (R126). -/
def mseCheck (offs : List Nat) (n : Nat) : Option Nat :=
  if offs.any (fun o => decide (2 ^ 27 ≤ o)) then some 0
  else if offs.any (fun o => decide (o % 128 ≠ 0)) ∨ n % 128 ≠ 0 then some 1
  else if offs.any (fun o => decide (spadLimit < o + n)) then some 2
  else none

/-- The entry that an engine of a tile runs next, if its kind is `kind`. -/
def State.engineHead (s : State) (pos engine : Nat) : Option QEntry :=
  (s.tile pos).queue.find? (fun e => e.engine = engine)

/-- A mover-queue entry freed. -/
def State.freeEntry (s : State) (pos id : Nat) : State :=
  s.modTile pos (fun t => { t with queue := t.queue.filter (fun e => e.id ≠ id) })

/-- The end of a fill or copy: the entry frees, the core's posted operation is performed, and a good one applies the
attachment of its IMM: EN at bit 27, OBJ in [16:0], ADD 1 (R64, R126). -/
def State.mseDone (s : State) (pos : Nat) (e : QEntry) (good : Bool) : State :=
  let imm := (e.desc.getD 3 0).toNat
  let s := (s.freeEntry pos e.id).posted (coreKey pos e.core) e.posted
  if good && Nat.testBit imm 27 then
    s.attach true (bitsOf imm 0 17) 1 ((s.logical pos).getD 0) ((s.partOf pos).getD 0) pos false
      (some (coreKey pos e.core, e.posted)) none
  else s

/-- The low `n` 32-bit words all `v`. -/
def repeatWord (v : Nat) (n : Nat) : Nat := packDigits 32 (fun _ => v) n

/-- Bytes of the next piece of a fill or copy of `n` bytes, `done` of which are made, at an offset: within 256 bytes and
one bank group (R111, R127). -/
def mseLen (off n done : Nat) : Nat := firstPart off (min 256 (n - done))

/-- A piece of `len` bytes of a fill or copy made: the operation is over after its last (R127). -/
def State.mseStep (s : State) (pos : Nat) (e : QEntry) (n len : Nat) : State :=
  if n ≤ e.issued + len then s.mseDone pos e true
  else s.modEntry pos e.id (fun e => { e with started := true, issued := e.issued + len, piece := none })

/-- MSE_FILL (R113, R126, R127): the queued fill at the head of the memory-side engine makes its next access, at the
engine's next turn: every word the constant, poison clear; after the last its entry frees and its attachment applies. -/
def execMseFill (pos : Nat) (s : State) : Out :=
  if 576 ≤ pos then noUnit
  else match s.engineHead pos 2 with
    | none => idle s
    | some e =>
      let sa := (e.desc.getD 0 0).toNat
      let n := (e.desc.getD 2 0).toNat
      let off := sa + e.issued
      let len := mseLen off n e.issued
      if e.kind ≠ .fill then idle s
      else if n = 0 then answerTile (groveOf pos) (s.hereNow pos) s (fun s => s.mseDone pos e true)
      else match mseCheck [sa] n with
        | some c => answerTile (groveOf pos) (s.hereNow pos) s (fun s => (s.msError pos e.core 0 c (sa % 2 ^ 27)).mseDone pos e false)
        | none =>
          let t := s.msNext pos off len
          if s.marksDue pos t || s.winsDue pos t then idle s
          else answerTile (groveOf pos) t s (fun s => s.msAccess pos off len t (fun s =>
            (s.spadWrite pos off len (repeatWord (e.desc.getD 1 0).toNat (len / 4)) 0).mseStep pos e n len))

/-- MSE_COPY (R113, R126, R127): the queued copy at the head of the memory-side engine makes its next access at the
engine's next turn: a piece read, or the piece read before written; poison moves with the data, and an uncorrectable
word is copied poisoned. -/
def execMseCopy (pos : Nat) (s : State) : Out :=
  if 576 ≤ pos then noUnit
  else match s.engineHead pos 2 with
    | none => idle s
    | some e =>
      let sa := (e.desc.getD 0 0).toNat
      let sb := (e.desc.getD 1 0).toNat
      let n := (e.desc.getD 2 0).toNat
      let bad := match mseCheck [sa, sb] n with
        | some c => some c
        | none => if sa < sb + n ∧ sb < sa + n then some 3 else none
      let len := min (mseLen (sa + e.issued) n e.issued) (mseLen (sb + e.issued) n e.issued)
      if e.kind ≠ .copy then idle s
      else if n = 0 then answerTile (groveOf pos) (s.hereNow pos) s (fun s => s.mseDone pos e true)
      else match bad with
        | some c => answerTile (groveOf pos) (s.hereNow pos) s (fun s => (s.msError pos e.core 1 c (sa % 2 ^ 27)).mseDone pos e false)
        | none =>
          let off := (if e.piece.isSome then sa else sb) + e.issued
          let t := s.msNext pos off len
          if s.marksDue pos t || s.winsDue pos t then idle s
          else answerTile (groveOf pos) t s (fun s => s.msAccess pos off len t (fun s =>
            match e.piece with
            | none =>
              let r := s.spadRead pos off len 15 false
              r.2.2.modEntry pos e.id (fun e => { e with started := true, piece := some (BitVec.ofNat 2048 r.1, BitVec.ofNat 64 r.2.1) })
            | some d => (s.spadWrite pos off len d.1.toNat d.2.toNat).mseStep pos e n len))

/-- SCRUB_PASS (R133): a pass over a tile ends, a period of SCRUB_PERIOD seconds after the one before it or later: every
line read once on idle turns, single-bit errors rewritten, uncorrectable ones handled under R132; PASSES counts, and a
wrap raises its event. The pass's reads, spread over the period, are taken together at its end (log entry 99). -/
def execScrubPass (pos : Nat) (s : State) : Out :=
  if 576 ≤ pos then noUnit
  else if s.flag (TILE_SPAD_CFG_SCRUB_EN pos) && decide (s.clkState (groveOf pos) = 2) then
    let s' := (s.atRef (SMap.get 0 s.clk.last (1000 + pos) + s.fld (TILE_SPAD_CFG_SCRUB_PERIOD pos) * 1000 * msCounts)).lastDone (1000 + pos)
    answerTile (groveOf pos) (s'.hereNow pos) s' (fun s =>
      let errs := s.spadErrors pos 0 spadLimit
      let s : State := errs.foldl (fun s e => s.checkWord pos 15 false e) s
      let ce := s.spadLinesCe pos 0 spadLimit
      let s : State := if ce.isEmpty then s else s.count (tileCounter pos (TILE_SPAD_CE_CNT pos)) ce.length
      let s : State := { s with spadLineCe := s.spadLineCe.filter (fun l => !(ce.contains l)) }
      let s : State := (s.spadLines pos 0 spadLimit).foldl (fun s l => s.spadUe pos (128 * l - spadKey pos 0) 15 false true) s
      let s : State := { s with spadEcc := (errs.filter (fun (e : Nat × Nat) => e.2 = 1)).foldl (fun (m : SMap Nat) (e : Nat × Nat) => m.erase e.1) s.spadEcc }
      let n : Nat := s.fld (TILE_SPAD_SCRUB_PASS_PASSES pos) + 1
      let s := s.setFld (TILE_SPAD_SCRUB_PASS_PASSES pos) (n % 2 ^ 48)
      if n < 2 ^ 48 then s
      else s.raise (srcPos pos 19) 9 (counterDetail ((TILE_SPAD_SCRUB_PASS pos).addr - tileBase pos) 0))
  else idle s

/-! ## Windows (R124) -/

/-- The window change of a tile that takes effect first, changes of one cycle in ascending core order, so that the
higher-numbered core's is the result. -/
def nextWin (open_ : Bool) : List WinChange → Option WinChange
  | [] => none
  | x :: l =>
    match nextWin open_ l with
    | none => if x.record.isSome = open_ then some x else none
    | some y =>
      if x.record.isSome = open_ ∧ (x.at_ < y.at_ ∨ (x.at_ = y.at_ ∧ x.core ≤ y.core)) then some x else some y

/-- Whether another change of the tile takes effect before one: earlier, or in the same cycle by a lower core. -/
def winBefore (l : List WinChange) (x : WinChange) : Bool :=
  l.any (fun y => decide (y.n = x.n) && (decide (y.at_ < x.at_) || (decide (y.at_ = x.at_) && decide (y.core < x.core))))

/-- Whether an access of a tile still waits for a turn before cycle `t`: a window change of that cycle comes after it
(R124). -/
def State.turnsBefore (s : State) (pos t : Nat) : Bool := s.access.any (fun a => decide (a.pos = pos) && decide (a.due < t))

/-- Word 1 of a window as a control-space write leaves it: the record bits written, reserved bits zero. -/
def winHiWritten (hi : W64) : Nat := bitsOf hi.toNat 0 36

/-- A window change made (R124, R125): a core's posted operation is performed; a control-space write opens the window
from its LO and the word written, or closes it. -/
def State.winEffect (s : State) (pos : Nat) (x : WinChange) : State :=
  let s := s.modTile pos (fun t => { t with wins := t.wins.erase x })
  match x.control with
  | some hi =>
    if x.record.isSome then
      let open_ := s.fld (TILE_SPAD_WINn_HI_OPEN pos x.n)
      let s := s.wr (TILE_SPAD_WINn_HI pos x.n) (winHiWritten hi + open_ * 2 ^ 63)
      s.winSet pos x.n (s.rd (TILE_SPAD_WINn_LO pos x.n)) (winHiWritten hi) 0 3 x.n
    else s.wr (TILE_SPAD_WINn_HI pos x.n) (winHiWritten hi)
  | none =>
    let s := match x.record with
      | some (lo, hi) => s.winSet pos x.n lo.toNat hi.toNat x.core 2 x.off
      | none => s.setFld (TILE_SPAD_WINn_HI_OPEN pos x.n) 0
    s.posted (coreKey pos x.core) x.id

/-- A control-space change of window `n` at the issue boundary that is now: made at once, or, where an access of an
earlier turn or a change of the window that is due by now is still to come, after those; in one cycle it comes after
every core's change, so that it is the result (R124). -/
def State.winControl (s : State) (pos n : Nat) (hi : W64) (open_ : Bool) : State :=
  let t := s.hereNow pos
  let x : WinChange := ⟨n, t, 8, if open_ then some (0, hi) else none, n, 0, some hi⟩
  if s.turnsBefore pos t || (s.tile pos).wins.any (fun y => decide (y.n = n) && decide (y.at_ ≤ t)) then
    s.modTile pos (fun y => { y with wins := y.wins ++ [x] })
  else s.winEffect pos x

/-- WINDOW_OPEN_EFFECT (R124): a t.wopen's record takes effect 3 cycles after the turn that read its last word. -/
def execWindowOpenEffect (pos : Nat) (s : State) : Out :=
  if 576 ≤ pos then noUnit
  else match nextWin true (s.tile pos).wins with
    | none => idle s
    | some x =>
      if winBefore (s.tile pos).wins x || s.turnsBefore pos x.at_ then idle s
      else answerTile (groveOf pos) x.at_ s (fun s => s.winEffect pos x)

/-- WINDOW_CLOSE_EFFECT (R124): a t.wclose takes effect 4 cycles after issue. -/
def execWindowCloseEffect (pos : Nat) (s : State) : Out :=
  if 576 ≤ pos then noUnit
  else match nextWin false (s.tile pos).wins with
    | none => idle s
    | some x =>
      if winBefore (s.tile pos).wins x || s.turnsBefore pos x.at_ then idle s
      else answerTile (groveOf pos) x.at_ s (fun s => s.winEffect pos x)

/-- CONTROL_WINDOW_OPEN (R124): OPEN written 1 opens window n from the LO and HI contents, or closes it where they
make no valid record. -/
def execControlWindowOpen (a : Agent) (pos n : Nat) (hi : W64) (s : State) : Out :=
  if 576 ≤ pos ∨ 16 ≤ n then noUnit
  else allowed a .tile (TILE_SPAD_WINn_HI pos n).addr s (fun s => s.winControl pos n hi true)

/-- CONTROL_WINDOW_CLOSE (R124): OPEN written 0 closes window n. -/
def execControlWindowClose (a : Agent) (pos n : Nat) (hi : W64) (s : State) : Out :=
  if 576 ≤ pos ∨ 16 ≤ n then noUnit
  else allowed a .tile (TILE_SPAD_WINn_HI pos n).addr s (fun s => s.winControl pos n hi false)

/-! ## Clears, reach entries, captures (R118, R129, R134, R135) -/

/-- SPAD_CLEAR_START (R135): with every core stopped the clear runs and BUSY reads 1; else a decode fault. -/
def execSpadClearStart (a : Agent) (pos : Nat) (s : State) : Out :=
  if 576 ≤ pos then noUnit
  else allowed a .mgmt (TILE_SPAD_CLEAR pos).addr s (fun s =>
    if s.tileStopped pos then
      (s.setFld (TILE_SPAD_CLEAR_BUSY pos) 1).modTile pos (fun t => { t with clearing := true })
    else s.decodeFault true (TILE_SPAD_CLEAR pos).addr)

/-- SPAD_CLEAR_DONE (R129): every non-resident region is zero with poison clear, and BUSY reads 0. -/
def execSpadClearDone (pos : Nat) (s : State) : Out :=
  if 576 ≤ pos then noUnit
  else if (s.tile pos).clearing then
    answerTile (groveOf pos) (s.hereNow pos) s (fun s =>
      ((s.clearNonResident pos).setFld (TILE_SPAD_CLEAR_BUSY pos) 0).modTile pos (fun t => { t with clearing := false }))
  else idle s

/-- Whether a reach entry with VALID may be written: its logical ID belongs to the tile's partition and has a position
(R118). -/
def State.reachOk (s : State) (pos logical : Nat) : Bool :=
  match s.posOf logical with
  | some q => match s.partOf pos, s.partOf q with
    | some a, some b => decide (a = b)
    | _, _ => false
  | none => false

/-- A reach entry written, with its PATH (R118, R119). -/
def State.setReach (s : State) (pos d logical : Nat) (valid : Bool) : State :=
  s.wr (TILE_SPAD_REACH_d pos d)
    (packFields [(0, 9, logical), (15, 1, valid.toNat), (16, 2, s.pathOf pos d logical valid)])

/-- REACH_ENTRY_WRITE (R118): taken when VALID is 0, or when the ID named is one of the partition with a position;
else a decode fault. -/
def execReachEntryWrite (a : Agent) (pos d : Nat) (value : W64) (s : State) : Out :=
  if 576 ≤ pos ∨ 4 ≤ d then noUnit
  else allowed a .mgmt (TILE_SPAD_REACH_d pos d).addr s (fun s =>
    let l := bitsOf value.toNat 0 9
    let v := Nat.testBit value.toNat 15
    if !v || s.reachOk pos l then s.setReach pos d l v else s.decodeFault true (TILE_SPAD_REACH_d pos d).addr)

end Sys2Proof.Machine
end

