-- ==== Sys2Proof/Machine/Network.lean ====
section
/-! DEFINITION. The routed mesh's events (R170 to R186): routing, delivery, answers at the source router, held packets,
timeouts, stalls, credits and reductions. -/

namespace Sys2Proof.Machine

/-- The answer of an event of the mesh: packets, tracking entries, combine buffers, credits, waiting accesses, and what
an answer completes. -/
def answerNet (s t : State) : Out :=
  .next { s with
    csr := t.csr, faults := t.faults, cores := t.cores, tiles := t.tiles, access := t.access, net := t.net
    track := t.track, combine := t.combine, creditUsed := t.creditUsed, creditBack := t.creditBack
    rimTurn := t.rimTurn, hbmReqs := t.hbmReqs, dies := t.dies, imem := t.imem, imemEcc := t.imemEcc, bridge := t.bridge }

/-! ## Inputs and outputs of a router (R171, R176, R179) -/

/-- A packet has reached the router it is for (R170). -/
def Pkt.arrived (p : Pkt) : Bool := decide (p.nibs.length ≤ p.ptr)

/-- A local contribution to a reduction leaves its core once the order of R66 is met; until then it is not yet in the
router's input. -/
def State.entered (s : State) (it : NetItem) : Bool :=
  !(decide (it.pkt.type = tRED) && it.pkt.en && it.pkt.arrived) || s.guardMet it.pkt.guard_

/-- Whether item `n` is the head of its input buffer and class: no earlier packet of its class is in the same input. -/
def State.headItem (s : State) (n : Nat) (it : NetItem) : Bool :=
  s.entered it && (s.net.take n).all (fun x =>
    !(decide (x.place = it.place) && decide (classOf x.pkt.type = classOf it.pkt.type) && s.entered x))

/-- What a router does with the next nibble of a packet. -/
inductive Turn where
  /-- drop, with the cause of TILE_NET_DROP_CAP -/
  | drop (cause : Nat)
  /-- leave on a link of the router, to a place -/
  | go (link : Nat) (next : Place)
  deriving DecidableEq, Repr

/-- The output a nibble names: malformed exits and moves, an absent next router, or the link and where it ends
(R170, R171). A class that has no buffer across the link cannot use it. -/
def State.turnOf (s : State) (pos : Nat) (p : Pkt) : Turn :=
  let nib := p.nibs.getD p.ptr 15
  let last : Bool := decide (p.ptr + 1 = p.nibs.length)
  let exit (link : Nat) (next : Place) : Turn :=
    if last && decide (0 < linkSlots link (classOf p.type)) then .go link next else .drop 4
  if 13 ≤ nib then .drop 3
  else if nib < 4 then
    match stepPos pos nib with
    | none => .drop 3
    | some q => if s.routerUp q then .go (linkKey pos nib) (.router q ((nib + 2) % 4 + 1)) else .drop 5
  else if nib < 8 then
    if onSide pos (nib - 4) then exit (linkKey pos nib) (.hrim (hrimOf pos (nib - 4)) pos) else .drop 4
  else if nib < 12 then
    if onSide pos (nib - 8) then exit (linkKey pos nib) (.lrim (lrimOf pos (nib - 8)) pos) else .drop 4
  else if pos = 0 ∨ pos = 24 then exit (linkKey pos 12) (.host pos) else .drop 4

/-- Service order of a class at an output: RSP, RED, REQ (R176). -/
def classRank (type : Nat) : Nat :=
  match classOf type with
  | 1 => 0
  | 2 => 1
  | _ => 2

/-- The place of an input in the rotation: local, north, east, south, west; a rim die takes the place of its side, the
host bridge that of west (R176). -/
def inputPlace (inport : Nat) : Nat :=
  if inport < 5 then inport
  else if inport = 6 then 4
  else dirOfSide (inport % 4) + 1

/-- Order of the inputs that share one place: outward neighbour port, router rim channel, host bridge (R176). -/
def inputOrder (inport : Nat) : Nat := if inport = 6 then 2 else if 12 ≤ inport then 1 else 0

/-- Rank of an input of a router at its local cycle count, the least served first (R176). -/
def State.inputRank (s : State) (pos inport : Nat) : Nat :=
  let start := s.hereNow pos % 5
  let turn := SMap.get 0 s.rimTurn (pos * 8 + inputPlace inport) % 3
  ((inputPlace inport + 5 - start) % 5) * 3 + (inputOrder inport + 3 - turn) % 3

/-- A packet that asks for an output: its index, its rank, its input, the link and the place beyond (R176). -/
structure Ask where
  index : Nat
  rank : Nat
  inport : Nat
  link : Nat
  next : Place
  deriving DecidableEq, Repr

/-- What item `n` asks for: an output that holds credits for all of its flits (R176). -/
def State.askOf (s : State) (n : Nat) (it : NetItem) : Option Ask :=
  match it.place with
  | .router pos inport =>
    if it.pkt.arrived || !s.headItem n it || it.pkt.badHeader.isSome then none
    else match s.turnOf pos it.pkt with
      | .drop _ => none
      | .go link next =>
        if it.pkt.flits ≤ s.credits link (classOf it.pkt.type) then
          some ⟨n, classRank it.pkt.type * 15 + s.inputRank pos inport, inport, link, next⟩
        else none
  | _ => none

/-- Whether an ask wins its output: no other packet asks for the same link with a lower rank (R176). -/
def State.wins (s : State) (a : Ask) : Bool :=
  (s.net.zip (List.range s.net.length)).all (fun x =>
    match s.askOf x.2 x.1 with
    | none => true
    | some b => decide (b.link ≠ a.link) || decide (a.rank < b.rank) || decide (a.rank = b.rank ∧ a.index ≤ b.index))

/-- A packet taken out of the mesh, its flit slots freed. -/
def State.takeItem (s : State) (n pos inport : Nat) (p : Pkt) : State :=
  (s.leaveNet n).freeSlots (inLink pos inport) (classOf p.type) p.flits

/-- An answer of a router to a request: it starts at that router's local input. -/
def State.reply (s : State) (pos : Nat) (p : Pkt) (type reason : Nat) : State :=
  s.place (p.answer type reason) (.router pos 0)

/-- A packet dropped by a router (R171, R172, R178): counted and captured. Where the next router is absent any packet but a
response or notice is answered with DEAD; a malformed request is answered with NACK 3; a malformed RED, and a packet with a
bad header, with nothing. No router holds an entry for a RED. -/
def State.dropItem (s : State) (n pos inport cause : Nat) (p : Pkt) : State :=
  let s := (s.takeItem n pos inport p).dropped pos cause inport p
  if tRED < p.type ∨ cause ≤ 1 then s
  else if cause = 5 then s.reply pos (if p.type = tRED then { p with home := 576 } else p) tDEAD 0
  else if p.type = tRED then s
  else s.reply pos p tNACK 3

/-- The number of words of a packet: header and INLINE, and a payload (R167). -/
def Pkt.wordCount (p : Pkt) : Nat := if p.flits = 4 then 80 else 16

/-- Which of the words from `lo` to `lo + n - 1` of a packet cannot be put right, as bits. -/
def Pkt.badWords (p : Pkt) (e : LinkErrors) (lo n : Nat) : Nat :=
  ((List.range n).map (fun i => if (lo + i) ∈ e.words ∧ lo + i < p.wordCount then 2 ^ i else 0)).sum

/-- A packet as a router receives it after a crossing (R178): payload and INLINE words that cannot be put right carry
poison; a header word that cannot be, or that carries poison, makes its header bad. -/
def Pkt.crossed (p : Pkt) (e : LinkErrors) : Pkt :=
  { p with
    badHeader := if p.badWords e 0 14 ≠ 0 then some 0 else if e.poisoned then some 1 else p.badHeader
    inlinePoison := p.inlinePoison ||| BitVec.ofNat 2 (p.badWords e 14 2)
    poison := p.poison ||| BitVec.ofNat 64 (p.badWords e 16 64) }

/-- Words put right at a router counted (R178). -/
def State.corrected (s : State) (q n : Nat) : State := if n = 0 then s else s.count (tileCounter q (TILE_NET_CE_CNT q)) n

/-- The words of a packet with a good header counted as the router it comes to checks them: those put right, and the
payload and INLINE words that cannot be, with one record, which carries the packet's PART (R178, R277, R281). -/
def State.linkChecked (s : State) (q : Nat) (p : Pkt) (e : LinkErrors) : State :=
  let s := s.corrected q e.single
  let bad := ((List.range p.wordCount).filter (fun w => decide (14 ≤ w) && decide (w ∈ e.words))).length
  if bad = 0 ∨ (p.crossed e).badHeader.isSome then s
  else
    let s := s.count (tileCounter q (TILE_NET_UE_CNT q)) bad
    s.send { s.record (srcPos q 17) 2 0 with part := some p.part }

/-- The words of item `n` checked where they came from the tile, a rim die or the host bridge and have not been yet; `e` is
what that link did to them (R178). -/
def State.inspect (s : State) (n : Nat) (e : LinkErrors) : State :=
  match s.net[n]? with
  | none => s
  | some it =>
    match it.place with
    | .router q _ =>
      if it.checked then s
      else
        let seen : NetItem := { it with pkt := it.pkt.crossed e, checked := true }
        ({ s with net := replaceAt s.net n seen }).linkChecked q it.pkt e
    | _ => s

/-- The answer of a command that acts on item `n` once its words have been checked; nothing where it cannot act yet. -/
def answerChecked (n : Nat) (e : LinkErrors) (s : State) (act : State → NetItem → Option State) : Out :=
  let t := s.inspect n e
  match t.net[n]? with
  | none => idle s
  | some it =>
    match act t it with
    | none => idle s
    | some t' => answerNet s t'

/-- A packet moved onto its link: credits taken, its slots freed, PTR up by one (R171, R179); the router, rim die or host
bridge beyond checks its words (R178, R228; at a rim die and the bridge they count at the edge router, log entry 91). -/
def State.forward (s : State) (n pos : Nat) (p : Pkt) (a : Ask) (e : LinkErrors) : State :=
  let s := (s.takeItem n pos a.inport p).takeCredits a.link (classOf p.type) p.flits
  let key := pos * 8 + inputPlace a.inport
  let s := if 6 ≤ a.inport then { s with rimTurn := SMap.put 0 s.rimTurn key (SMap.get 0 s.rimTurn key + 1) } else s
  let p := { p with ptr := p.ptr + 1 }
  let q := match a.next with
    | .router q _ => q
    | _ => pos
  (s.placeAs true (p.crossed e) a.next).linkChecked q p e

/-- Item `it` of a router routed on: dropped, or on its output when it wins it. -/
def State.routeItem (s : State) (n : Nat) (e : LinkErrors) (it : NetItem) : Option State :=
  match it.place with
  | .router pos inport =>
    let p := it.pkt
    if p.arrived || !s.headItem n it || !s.routerUp pos then none
    else match p.badHeader with
      | some c => some (s.dropItem n pos inport c p)
      | none =>
        match s.turnOf pos p with
        | .drop c => some (s.dropItem n pos inport c p)
        | .go _ _ =>
          match s.askOf n it with
          | none => none
          | some a => if s.wins a then some (s.forward n pos p a e) else none
  | _ => none

/-- PACKET_ROUTE (R170, R171, R176, R178): item `n`, a head flit in a router that is not its last, is dropped, or
leaves on its output when it wins it; `e` is what the link it leaves on does to its words. -/
def execPacketRoute (n : AtRouter) (e : LinkErrors) (s : State) : Out :=
  answerChecked n.item n.here s (fun t it => t.routeItem n.item e it)

/-! ## Delivery (R172) -/

/-- Class of a WRITE for the window check at a tile of logical ID `own`: a write that the tile's own cores send to it is
its own (R120, R122). -/
def Pkt.writeClass (p : Pkt) (own : Option Nat) : WrClass :=
  if p.sum then .red p.part
  else match p.srckind with
    | 0 => if own = some p.src then .own else .tile p.src p.part
    | 1 => .host
    | _ => .fabric

/-- The reason a router refuses a request on arrival, if it does: malformed, moved, or under reset (R172). -/
def State.deliveryReason (s : State) (pos : Nat) (p : Pkt) : Option Nat :=
  match (if 1 < p.type ∨ (p.size ≠ 1 ∧ p.size ≠ 2) then none else s.dlayout p.addr.toNat p.bytes) with
  | some (.spad l _) =>
    if s.copyPos pos l ≠ some pos then some 1
    else match s.partOf pos with
      | some q => if s.underReset q then some 2 else none
      | none => none
  | _ => some 3

/-- An accepted request waits for a turn of the router's agent at its bank group (R110, R172). -/
def State.landing (s : State) (pos inport : Nat) (p : Pkt) : State :=
  let off := bitsOf p.addr.toNat 0 27
  let task := if p.type = tREAD then Task.answer else .write (p.writeClass (s.logical pos))
  s.addAccess { accessOf pos 14 off p.bytes (turnFrom 14 (groupOf off) (s.hereNow pos)) task with
                data := BitVec.ofNat 2048 p.data, poison := BitVec.ofNat 64 p.dataPoison, pkt := some p
                inlink := inLink pos inport }

/-- Item `it`, a request at its last router, delivered or refused. -/
def State.deliverItem (s : State) (n : Nat) (it : NetItem) : Option State :=
  match it.place with
  | .router pos inport =>
    let p := it.pkt
    if !p.arrived || !s.headItem n it || !s.routerUp pos || decide (classOf p.type ≠ 0 ∧ p.type ≤ 6) then none
    else match p.badHeader with
      | some c => some (s.dropItem n pos inport c p)
      | none =>
        match s.deliveryReason pos p with
        | some 3 => some (s.dropItem n pos inport 2 p)
        | some r => some ((s.takeItem n pos inport p).reply pos p tNACK r)
        | none => some ((s.leaveNet n).landing pos inport p)
  | _ => none

/-- PACKET_DELIVERY (R172, R178): item `n`, a request at its last router, is refused with a NACK or waits for its
landing turn, where WHEEL_TURN_ACCESS checks its window and answers it. -/
def execPacketDelivery (n : AtRouter) (s : State) : Out :=
  answerChecked n.item n.here s (fun t it => t.deliverItem n.item it)

/-! ## Answers at the source router (R173, R203) -/

/-- Logical ID whose map entry a held packet watches. -/
def State.watched (s : State) (t : Track) : Nat := (s.logicalDest t).getD t.dest

/-- A tracked packet held (R173). -/
def State.holdTrack (s : State) (pos tag : Nat) (t : Track) (h : Hold) : State := s.setTrack pos tag (t.holdFrom s.now h)

/-- Read data for a mover: an instruction-store word is written at once, scratchpad data waits for its turn — the
router's, or that of the outward port where it came from the own H-rim die (R194, R201, R203). -/
def State.moverData (s : State) (pos inport id i : Nat) (p : Pkt) : State :=
  match (s.tile pos).queue.find? (fun e => e.id = id) with
  | none => s.freeSlots (inLink pos inport) 1 p.flits
  | some e =>
    let d := mdescOf e.desc
    let dst := (d.packet i).2
    if d.imem then
      ((s.imemWrite pos (dst % 2 ^ 19) 256 p.data p.dataPoison).modEntry pos id
        (fun e => e.answered i none 0 (decide (p.dataPoison ≠ 0)))).freeSlots (inLink pos inport) 1 p.flits
    else
      let off := bitsOf dst 0 27
      let agent := if 8 ≤ inport ∧ inport < 12 then 10 + dirOfSide (inport - 8) else 14
      s.addAccess { accessOf pos agent off 256 (turnFrom agent (groupOf off) (s.hereNow pos)) (.write .own) with
                    data := BitVec.ofNat 2048 p.data, poison := BitVec.ofNat 64 p.dataPoison, pkt := some p
                    holder := .mover pos id i, inlink := inLink pos inport }

/-- RDATA completes its entry: a load's data to its register, a mover's toward its destination (R69, R173). -/
def State.readBack (s : State) (pos inport tag : Nat) (t : Track) (p : Pkt) : State :=
  let s := s.freeTrack pos tag
  match t.holder with
  | .mover _ id i => s.moverData pos inport id i p
  | .load key dst => (s.loadBack key dst p.data p.dataPoison).freeSlots (inLink pos inport) 1 p.flits
  | _ => s.freeSlots (inLink pos inport) 1 p.flits

/-- An answer meets its tracking entry (R173): completion, a final refusal, or a hold. -/
def State.answered (s : State) (pos inport tag : Nat) (t : Track) (p : Pkt) : State :=
  if p.type = tRDATA then s.readBack pos inport tag t p
  else
    let s := s.freeSlots (inLink pos inport) 1 p.flits
    if p.type = tACK then (s.freeTrack pos tag).conclude t none
    else if p.type = tDEAD then s.holdTrack pos tag t .dead
    else if p.reason = 1 then s.holdTrack pos tag t (.moved (s.copyEntry pos (s.watched t)))
    else (s.freeTrack pos tag).conclude t (some p.reason)

/-- Item `it`, a response at its last router, met with its entry. -/
def State.answerItem (s : State) (n : Nat) (it : NetItem) : Option State :=
  match it.place with
  | .router pos inport =>
    let p := it.pkt
    if !p.arrived || !s.headItem n it || !s.routerUp pos || decide (classOf p.type ≠ 1) || decide (6 < p.type) then none
    else match p.badHeader with
      | some c => some (s.dropItem n pos inport c p)
      | none =>
        match (if p.home = pos then s.trackAt pos p.tag else none) with
        | none => some (s.takeItem n pos inport p)
        | some t => some ((s.leaveNet n).answered pos inport p.tag t p)
  | _ => none

/-- SOURCE_ANSWER (R173): item `n`, a response at its last router, meets its tracking entry; one whose entry has been
cleared, or has ended, is discarded (R180). -/
def execSourceAnswer (n : AtRouter) (s : State) : Out :=
  answerChecked n.item n.here s (fun t it => t.answerItem n.item it)

/-! ## Held packets and timeouts (R173) -/

/-- Whether what holds a packet has gone (R173). -/
def State.released (s : State) (pos : Nat) (t : Track) : Bool :=
  match t.hold with
  | .moved e => decide (s.copyEntry pos (s.watched t) ≠ e)
  | .nowhere => (s.copyPos pos (s.watched t)).isSome
  | .dead => decide (s.epoch pos ≠ t.pkt.epoch)
  | _ => false

/-- Whether a packet is held. -/
def Track.held (t : Track) : Bool :=
  match t.hold with
  | .moved _ | .nowhere | .dead => true
  | _ => false

/-- A held packet as it leaves again: a fabric packet reads its route entry once more, from the version now selected;
one whose entry no longer names a fabric route has no trail (R235). -/
def State.rerouted (s : State) (pos : Nat) (t : Track) : Track :=
  match t.route with
  | none => t
  | some (i, disp) =>
    let rt := s.route pos i
    let addr := ((rt.daddr : Int) + disp).toNat
    if rt.kind < 2 then { t with dest := noDest }
    else { t with dest := 560 + rt.port, pkt := t.pkt.toFabric addr rt }

/-- HELD_PACKET_RESEND (R173): a held packet leaves again under the current epoch with a fresh trail. -/
def execHeldPacketResend (pos tag : Nat) (s : State) : Out :=
  if 576 ≤ pos ∨ 64 ≤ tag then noUnit
  else match s.trackAt pos tag with
    | none => idle s
    | some t => if s.released pos t then answerNet s (s.dispatch pos tag (s.rerouted pos t)) else idle s

/-- A packet of an entry that has ended, wherever it is: its answer will find no entry. -/
def Pkt.disowned (pos tag : Nat) (p : Pkt) : Pkt := if p.home = pos ∧ p.tag = tag then { p with home := 576 } else p

/-- The same for the packets that an L-rim die carries for their sources. -/
def LDie.disowned (pos tag : Nat) (d : LDie) : LDie :=
  { d with origin := d.origin.map (fun (o : Nat × OTrack) => (o.1, { o.2 with pkt := o.2.pkt.disowned pos tag })) }

/-- An entry ended by the source router (R173): counted and captured, its packet disowned wherever it is. -/
def State.expire (s : State) (pos tag reason cause : Nat) (t : Track) : State :=
  let s := { s with
    net := s.net.map (fun (x : NetItem) => { x with pkt := x.pkt.disowned pos tag })
    access := s.access.map (fun (x : Access) => { x with pkt := x.pkt.map (Pkt.disowned pos tag) })
    hbmReqs := s.hbmReqs.map (fun (x : HReq) => { x with pkt := x.pkt.disowned pos tag })
    dies := s.dies.map (fun (d : Nat × LDie) => (d.1, d.2.disowned pos tag)) }
  let s := (s.freeTrack pos tag).conclude t (some reason)
  (s.count (tileCounter pos (TILE_NET_TIMEOUT_CNT pos)) 1).dropCapture pos cause 0 t.pkt

/-- HOLD_LIMIT_EXPIRY (R173): a packet whose time held, over all its holds, exceeds HOLD_LIM ends with reason 7. -/
def execHoldLimitExpiry (pos tag : Nat) (s : State) : Out :=
  if 576 ≤ pos ∨ 64 ≤ tag then noUnit
  else match s.trackAt pos tag with
    | none => idle s
    | some t =>
      match t.heldFrom with
      | none => idle s
      | some from_ =>
        if t.held && !s.released pos t then
          let s' := s.atRef (from_ + (s.fld (TILE_NET_CFG_HOLD_LIM pos) * msCounts - t.heldFor) + 1)
          answerNet s' (s'.expire pos tag 7 8 t)
        else idle s

/-- ACK_TIMEOUT (R173): an entry unanswered within ACK_TO of its last send ends with reason 6. -/
def execAckTimeout (pos tag : Nat) (s : State) : Out :=
  if 576 ≤ pos ∨ 64 ≤ tag then noUnit
  else match s.trackAt pos tag with
    | none => idle s
    | some t =>
      if t.hold = .out then
        let s' := s.atRef (t.sent + s.fld (TILE_NET_CFG_ACK_TO pos) * msCounts)
        answerNet s' (s'.expire pos tag 6 7 t)
      else idle s

/-! ## Stalls and credits (R177, R179) -/

/-- STALL_REPORT (R177): item `n`, a head flit that has waited 2^STALL_LIM cycles at one output, is counted and
recorded once for its wait. -/
def execStallReport (n : Nat) (s : State) : Out :=
  match s.net[n]? with
  | none => idle s
  | some it =>
    match it.place with
    | .router pos _ =>
      let due := it.at_ + 2 ^ s.fld (TILE_NET_CFG_STALL_LIM pos)
      let s' := s.atCycle (groveOf pos) due
      let waits : Bool := match s'.turnOf pos it.pkt with
        | .drop _ => false
        | .go _ _ => match s'.askOf n it with
          | none => true
          | some a => !s'.wins a
      if it.stallSent || it.pkt.arrived || !s.headItem n it || !waits then idle s
      else
        let seen : NetItem := { it with stallSent := true }
        answerNet s' ((({ s' with net := replaceAt s'.net n seen }).count
          (tileCounter pos (TILE_NET_STALL_CNT pos)) 1).raise (srcPos pos 19) 5 0)
    | _ => idle s

/-- CREDIT_RETURN (R179, R180): one credit of a link and class reaches its sender; what the host bridge kept back for want
of it goes out. -/
def execCreditReturn (link cls : Nat) (s : State) : Out :=
  if 576 * 32 ≤ link ∨ 4 ≤ cls then noUnit
  else
    let k := creditKey link cls
    let back := SMap.get 0 s.creditBack k
    if back = 0 then idle s
    else
      let t : State := { s with creditBack := SMap.put 0 s.creditBack k (back - 1) }
      answerNet s (if link % 32 = 24 then t.bridgeOut t.bridge.out [] else t)

/-! ## Reductions (R183 to R185) -/

/-- Fields of a reduction table entry of the current epoch, if VALID: FINAL, FANIN, whether BF16. -/
def State.redEntry (s : State) (pos r : Nat) : Option (Bool × Nat × Bool) :=
  let ctl := s.redCtl pos (s.epoch pos) r
  if bitsOf ctl 6 1 = 1 then some (Nat.testBit ctl 7, bitsOf ctl 8 6, decide (bitsOf ctl 14 4 = 1)) else none

/-- Combine buffers in use at a router. -/
def State.combineUsed (s : State) (pos : Nat) : Nat := (s.combine.filter (fun e => decide (e.1 / 1024 = pos))).length

/-- The open round of a reduction at a router. -/
def State.round (s : State) (pos r : Nat) : Option Combine :=
  (s.combine.find? (fun e => e.1 = pos * 1024 + r)).map (·.2)

/-- A first contribution as its round holds it. -/
def Pkt.round (p : Pkt) : Combine :=
  ⟨p.payload, p.poison, 1, p.add.toNat, p.addr, p.obj, p.en, p.part, p.src, p.epoch⟩

/-- A later contribution added to its round (R107, R184): poison spreads by element word. -/
def Combine.join (c : Combine) (bf16 : Bool) (p : Pkt) : Combine :=
  { c with
    payload := payloadAdd bf16 c.payload p.payload, poison := c.poison ||| p.poison, count := c.count + 1
    add := c.add + p.add.toNat }

/-- A contribution out of its input; a local one has been absorbed, so its core's operation is performed. -/
def State.absorbed (s : State) (n pos inport : Nat) (p : Pkt) : State :=
  let s := s.takeItem n pos inport p
  match p.guard_ with
  | some (key, id) => s.posted key id
  | none => s

/-- A complete round sent on (R184): a FINAL total as a tracked WRITE, a partial sum as a RED. A total of the ADD
values above 0xFFFF goes out as 0xFFFF and is recorded (R185). -/
def State.emit (s : State) (pos r inport : Nat) (p : Pkt) (c : Combine) (final : Bool) (bf16 : Bool) : State :=
  let s := { s with combine := s.combine.erase (pos * 1024 + r) }
  let s := if 0xFFFF < c.add then s.dropCapture pos 6 inport p else s
  let sum : Pkt := { Pkt.blank with
    size := 2, payload := c.payload, poison := c.poison, addr := c.addr, obj := c.obj
    add := BitVec.ofNat 16 (min c.add 0xFFFF), en := c.en, redid := r, rfmt := bf16.toNat }
  if final then s.sendPacket pos (1024 + r) { sum with type := tWRITE, sum := true } .sum
  else s.place { s.stamp pos 0 { sum with type := tRED } with
    nibs := s.redNibs pos (s.epoch pos) r, home := 576 } (.router pos 0)

/-- Whether a complete round can leave: a FINAL total takes a tracking entry (R173). -/
def State.canEmit (s : State) (pos : Nat) (final : Bool) : Bool := !final || (s.freeTag pos).isSome

/-- A contribution refused (R172): a remote one is answered to its sender, which holds no entry for it; a local one
counts as discarded for its core. -/
def State.redRefused (s : State) (n pos inport reason : Nat) (p : Pkt) : State :=
  match p.guard_ with
  | some (key, _) => (s.absorbed n pos inport p).perfNack key
  | none => (s.takeItem n pos inport p).place ({ p.answer tNACK reason with home := 576 }) (.router pos 0)

/-- A contribution stored or added, and the round sent on at FANIN; a contribution that differs from its round drops
the whole round (R184, R185). -/
def State.combineIn (s : State) (n pos inport : Nat) (p : Pkt) (e : Bool × Nat × Bool) : State :=
  match s.round pos p.redid with
  | some c =>
    if c.addr ≠ p.addr ∨ c.obj ≠ p.obj ∨ c.en ≠ p.en then
      let s := { (s.absorbed n pos inport p) with combine := s.combine.erase (pos * 1024 + p.redid) }
      s.dropped pos 6 inport p
    else
      let c := c.join e.2.2 p
      let s := s.absorbed n pos inport p
      if e.2.1 ≤ c.count then s.emit pos p.redid inport p c e.1 e.2.2
      else { s with combine := s.combine.insert (pos * 1024 + p.redid) c }
  | none =>
    let c := p.round
    let s := s.absorbed n pos inport p
    if e.2.1 ≤ c.count then s.emit pos p.redid inport p c e.1 e.2.2
    else { s with combine := s.combine.insert (pos * 1024 + p.redid) c }

/-- Whether a contribution must wait in its input: for a combine buffer, or for the entry of the total it completes. -/
def State.redWaits (s : State) (pos : Nat) (p : Pkt) (e : Bool × Nat × Bool) : Bool :=
  match s.round pos p.redid with
  | some c => decide (e.2.1 ≤ c.count + 1) && !s.canEmit pos e.1
  | none => decide (32 ≤ s.combineUsed pos) || (decide (e.2.1 ≤ 1) && !s.canEmit pos e.1)

/-- Whether another contribution to the same reduction stands at the head of an input of this router since earlier, or since
the same cycle on an input that comes first: local, north, east, south, west (R184). -/
def State.redBefore (s : State) (n pos inport at_ : Nat) (p : Pkt) : Bool :=
  (s.net.zip (List.range s.net.length)).any (fun x =>
    match x.1.place with
    | .router q i =>
      decide (x.2 ≠ n) && decide (q = pos) && decide (x.1.pkt.type = tRED) && x.1.pkt.arrived && decide (x.1.pkt.redid = p.redid)
        && s.headItem x.2 x.1 && (decide (x.1.at_ < at_) || (decide (x.1.at_ = at_) && decide (inputPlace i < inputPlace inport)))
    | _ => false)

/-- Item `it`, a contribution at its combining router, absorbed or refused. -/
def State.absorbItem (s : State) (n : Nat) (it : NetItem) : Option State :=
  match it.place with
  | .router pos inport =>
    let p := it.pkt
    if !p.arrived || !s.headItem n it || !s.routerUp pos || decide (p.type ≠ tRED) then none
    else match p.badHeader with
      | some c => some (s.dropItem n pos inport c p)
      | none =>
        if (match s.partOf pos with
            | some q => s.underReset q
            | none => false) then some (s.redRefused n pos inport 2 p)
        else match s.redEntry pos p.redid with
          | none => some (s.redRefused n pos inport 8 p)
          | some e =>
            if s.redWaits pos p e || s.redBefore n pos inport it.at_ p then none else some (s.combineIn n pos inport p e)
  | _ => none

/-- RED_ABSORB (R172, R184, R185): item `n`, a contribution at its combining router. -/
def execRedAbsorb (n : AtRouter) (s : State) : Out :=
  answerChecked n.item n.here s (fun t it => t.absorbItem n.item it)

end Sys2Proof.Machine
end

