-- ==== Sys2Proof/Machine/Standing.lean ====
section
/-! DEFINITION. Shared operations of the management die: the standing registers (R394 to R398), the fence map and lane
masks, and the readiness bitmaps (R329). -/

namespace Sys2Proof.Machine

/-! ## Standing registers (R394 to R396) -/

/-- A standing word as written at manufacture (R396): STD_HDR, and the policy words with power class 2. -/
def stdReset (w : Nat) : W32 :=
  match w with
  | 0 => 0x53395041
  | 1 => 1
  | 4 => 4
  | 5 => 192 + 150 * 256
  | 6 => 0x3F
  | _ => 0

/-- Word `w` of the standing registers. -/
def State.stdWord (s : State) (w : Nat) : Nat := (SMap.get (stdReset w) s.std w).toNat
/-- A word written, its write counter already up. -/
def State.setStd (s : State) (w : Nat) (v : Nat) : State :=
  { s with std := SMap.put (stdReset w) s.std w (BitVec.ofNat 32 v) }

/-- Writes to a word that take it to its warning, and to its limit (R395). -/
def stdWarning : Nat := 900000
/-- The limit. -/
def stdLimit : Nat := 1000000

/-- Whether a word still takes writes (R395). -/
def State.stdOpen (s : State) (w : Nat) : Bool := decide (SMap.get 0 s.wcnt w < stdLimit)

/-- One acknowledged or refused write of a word (R395): the counter first, then the word; at the limit nothing but the
log entry and the record. -/
def State.stdWrite (s : State) (w v : Nat) : State :=
  let n := SMap.get 0 s.wcnt w
  if stdLimit ≤ n then
    (s.log 7 8 [BitVec.ofNat 64 (w + v * 2 ^ 32)]).raise (srcDev 10) 2 0
  else
    let s := { s with wcnt := SMap.put 0 s.wcnt w (n + 1) }.setStd w v
    if n + 1 = stdWarning then s.raise (srcDev 10) 1 0 else s

/-! ## The fence map (R398) -/

/-- Word index of record `i` of the fence map; its commit word follows. -/
def fenceWord (i : Nat) : Nat := 0x400 + 2 * i
/-- Word 0 of a fence-map record. -/
def fenceRecord (kind index reason : Nat) : Nat := packFields [(0, 4, kind), (4, 10, index), (14, 8, reason)]
/-- Bitwise complement of a 32-bit word. -/
def complement (v : Nat) : Nat := 0xFFFFFFFF - v % 2 ^ 32
/-- Whether record `i` exists: its commit word is the complement of word 0 (R397, R398). -/
def State.fenceValid (s : State) (i : Nat) : Bool :=
  decide (s.stdWord (fenceWord i + 1) = complement (s.stdWord (fenceWord i)))
/-- Whether a part is in the fence map. -/
def State.inFenceMap (s : State) (kind index : Nat) : Bool :=
  (List.range 1024).any (fun i => s.fenceValid i && decide (s.stdWord (fenceWord i) % 2 ^ 14 = kind + 16 * index))
/-- A part added in the lowest free slot, or logged where the map is full (R398). -/
def State.addFence (s : State) (kind index reason : Nat) : State :=
  match (List.range 1024).find? (fun i => !s.fenceValid i) with
  | some i =>
    let v := fenceRecord kind index reason
    (s.stdWrite (fenceWord i) v).stdWrite (fenceWord i + 1) (complement v)
  | none => s.log 7 8 [BitVec.ofNat 64 (fenceRecord kind index reason)]

/-! ## Lane masks (R213, R396) -/

/-- Whether a fabric lane is in the lane mask. -/
def State.laneMasked (s : State) (l : Nat) : Bool := Nat.testBit (s.stdWord (0x40 + l / 32)) (l % 32)
/-- Whether a lane is usable: not masked, and not failed in margining. -/
def State.laneGood (s : State) (l : Nat) : Bool :=
  !s.laneMasked l && !Nat.testBit (s.fld (MGMT_BIST_LRIMm_1_LANE_FAIL (l / 32))) (l % 32)
/-- Whether lanes `lo` to `lo + n - 1` of a port are usable. -/
def State.lanesGood (s : State) (p lo n : Nat) : Bool := (List.range n).all (fun i => s.laneGood (8 * p + lo + i))
/-- Whether a port has the lanes of width 8 or 4 (R213, R323). -/
def State.portLanes (s : State) (p : Nat) : Bool := s.lanesGood p 0 4 || s.lanesGood p 4 4

/-! ## Readiness (R329) -/

/-- The readiness registers by their code in the event log: GRV, HBM, PORT, MISC (R388). -/
def readyReg (code : Nat) : Reg :=
  match code with
  | 0 => MGMT_READY_GRV
  | 1 => MGMT_READY_HBM
  | 2 => MGMT_READY_PORT
  | _ => MGMT_READY_MISC

/-- Whether a readiness bit reads 1. -/
def State.ready (s : State) (code bit : Nat) : Bool := Nat.testBit (s.rd (readyReg code)) bit

/-- A readiness bit takes a value; a change is appended to the event log (R329, R388). -/
def State.setReady (s : State) (code bit : Nat) (v : Bool) : State :=
  if s.ready code bit = v then s
  else (s.wr (readyReg code) (setBitsOf (s.rd (readyReg code)) bit 1 v.toNat)).log 2 3
    [BitVec.ofNat 64 (packFields [(0, 8, code), (8, 8, bit), (16, 1, v.toNat)])]

/-- Whether a position has a working router in a ready grove. -/
def State.readyRouter (s : State) (pos : Nat) : Bool := s.routerUp pos && s.ready 0 (groveOf pos)

/-- Whether stack `k` is usable (R329); a host stack has no attachment position. -/
def State.stackUsable (s : State) (k : Nat) : Bool :=
  decide (s.fld (HBM_STATUS_STATE k) = 1) && (decide (48 ≤ k) || (attachPos k).any s.readyRouter)

/-- Whether port `p` is usable (R329): its bring-up has ended, its die has passed, it has lanes and a router. -/
def State.portUsable (s : State) (p : Nat) : Bool :=
  s.fuses.ports.getLsbD p && s.boot.ended.has (64 + p) && s.boot.dieOk.has (64 + p / 4) && s.portLanes p
    && (lrimPos (p / 4)).any s.readyRouter

/-- Whether the host complex is usable (R329). -/
def State.hostUsable (s : State) : Bool := s.boot.dieOk.has 128 && s.stackUsable 48 && s.stackUsable 49 && s.boot.hostUp

/-- Whether an L-rim die is powered once its wave has begun: a grove of its attachment positions is enabled (R18, R316). -/
def State.lrimPowered (s : State) (m : Nat) : Bool := (lrimPos m).any (fun pos => s.fuses.groves.getLsbD (groveOf pos))
/-- The same of an H-rim die. -/
def State.hrimPowered (s : State) (k : Nat) : Bool := (attachPos k).any (fun pos => s.fuses.groves.getLsbD (groveOf pos))

/-- Whether every powered L-rim die has passed. -/
def State.ringUsable (s : State) : Bool := (List.range 16).all (fun m => !s.lrimPowered m || s.boot.dieOk.has (64 + m))

/-- The readiness bits of stacks, ports, host complex, host path and ring brought up to date (R329, R334). -/
def State.refreshReady (s : State) : State :=
  let s := (List.range 50).foldl (fun s k => s.setReady 1 k (s.stackUsable k)) s
  let s := (List.range 64).foldl (fun s p => s.setReady 2 p (s.portUsable p)) s
  let s := s.setReady 3 3 s.hostUsable
  let s := s.setReady 3 4 (s.readyRouter 0 || s.readyRouter 24)
  s.setReady 3 5 s.ringUsable

end Sys2Proof.Machine
end

