-- ==== Sys2Proof/Machine/FabricUnit.lean ====
section
/-! DEFINITION. Fabric units: packets and control units as 64-byte units (R227, R228), trails (R229), multicast trees
(R230), and the digest of a partial (R244 to R247). -/

namespace Sys2Proof.Machine

/-! ## Packet types and virtual channels (R222, R227) -/

/-- Fabric WRITE. -/
def fWRITE : Nat := 0
/-- MWRITE. -/
def fMWRITE : Nat := 1
/-- Fabric RED. -/
def fRED : Nat := 2
/-- Fabric ACK. -/
def fACK : Nat := 3
/-- Fabric NACK. -/
def fNACK : Nat := 4
/-- Fabric DEAD. -/
def fDEAD : Nat := 5
/-- MACK. -/
def fMACK : Nat := 6

/-- Virtual channel of a packet type: 0 REQ, 1 RSP, 2 COLL (R227). -/
def vcOf (type : Nat) : Nat := if type ≤ 1 then 0 else if type = 2 then 2 else 1
/-- Units of a packet type (R227). -/
def unitsOf (type : Nat) : Nat := if type = 0 ∨ type = 2 then 5 else if type = 1 then 8 else 1
/-- Units of the receive buffer of a virtual channel (R222). -/
def vcBuffer (vc : Nat) : Nat := if vc = 0 then 1024 else if vc = 1 then 256 else 768

/-- The count of a virtual channel. -/
def vcGet (t : Nat × Nat × Nat) (vc : Nat) : Nat := if vc = 0 then t.1 else if vc = 1 then t.2.1 else t.2.2
/-- The count of a virtual channel replaced. -/
def vcSet (t : Nat × Nat × Nat) (vc n : Nat) : Nat × Nat × Nat :=
  if vc = 0 then (n, t.2.1, t.2.2) else if vc = 1 then (t.1, n, t.2.2) else (t.1, t.2.1, n)

/-! ## Headers as units (R228) -/

/-- Bytes as a number, the first least significant. -/
def bytesToNat (l : List Nat) : Nat := packDigits 8 (fun i => l.getD i 0) l.length
/-- `n` bytes of a number from bit `lo`. -/
def natToBytes (v lo n : Nat) : List Nat := (List.range n).map (fun i => bitsOf v (lo + 8 * i) 8)

/-- The header unit of a packet. -/
def FPkt.header (p : FPkt) : Unit64B :=
  BitVec.ofNat 512 (packFields
    [ (0, 4, p.type), (4, 1, p.size.toNat), (5, 1, p.epoch.toNat), (6, 2, p.vc), (8, 5, p.ptr), (13, 5, p.len)
    , (20, 16, p.srcId), (36, 4, p.srcPart), (40, 9, p.srcTile), (49, 6, p.tag), (56, 16, p.dstId), (72, 4, p.dpart)
    , (76, 4, p.reason), (80, 48, p.daddr.toNat), (128, 17, p.obj.toNat), (145, 16, p.add.toNat), (161, 1, p.en.toNat)
    , (162, 6, p.cid), (168, 7, p.delivered), (175, 7, p.pruned), (182, 7, p.refused), (192, 64, p.ppoison.toNat)
    , (256, 128, bytesToNat p.srt), (384, 128, bytesToNat p.ret)])

/-- The units of a packet: header, the tree of an MWRITE, the payload of a long one. -/
def FPkt.units (p : FPkt) : List Unit64B :=
  p.header :: ((if p.type = fMWRITE then (List.range 3).map (fun i => BitVec.ofNat 512 (bitsOf (bytesToNat p.tree) (512 * i) 512)) else [])
    ++ (if p.type ≤ 2 then (List.range 4).map (fun i => BitVec.ofNat 512 (bitsOf p.payload.toNat (512 * i) 512)) else []))

/-- A packet from its units. -/
def FPkt.ofUnits (l : List Unit64B) : FPkt :=
  let h := (l.headD 0).toNat
  let at_ (i : Nat) : Nat := (l.getD i 0).toNat
  let type := bitsOf h 0 4
  let first := if type = fMWRITE then 4 else 1
  { type := type, size := Nat.testBit h 4, epoch := Nat.testBit h 5, vc := bitsOf h 6 2, ptr := bitsOf h 8 5
    len := bitsOf h 13 5, srcId := bitsOf h 20 16, srcPart := bitsOf h 36 4, srcTile := bitsOf h 40 9
    tag := bitsOf h 49 6, dstId := bitsOf h 56 16, dpart := bitsOf h 72 4, reason := bitsOf h 76 4
    daddr := BitVec.ofNat 48 (bitsOf h 80 48), obj := BitVec.ofNat 17 (bitsOf h 128 17)
    add := BitVec.ofNat 16 (bitsOf h 145 16), en := Nat.testBit h 161, cid := bitsOf h 162 6
    delivered := bitsOf h 168 7, pruned := bitsOf h 175 7, refused := bitsOf h 182 7
    ppoison := BitVec.ofNat 64 (bitsOf h 192 64), srt := natToBytes h 256 16, ret := natToBytes h 384 16
    tree := if type = fMWRITE then natToBytes (packDigits 512 (fun i => at_ (1 + i)) 3) 0 192 else []
    payload := if type ≤ 2 then BitVec.ofNat 2048 (packDigits 512 (fun i => at_ (first + i)) 4) else 0 }

/-- Whether a header uses a reserved type, virtual channel, field, length or trail byte (R227 to R229). -/
def FPkt.reserved (p : FPkt) (header : Nat) : Bool :=
  decide (6 < p.type) || decide (p.vc ≠ vcOf p.type) || decide (bitsOf header 18 2 ≠ 0)
    || decide (bitsOf header 55 1 ≠ 0) || decide (bitsOf header 189 3 ≠ 0) || decide (p.size ≠ decide (p.type ≤ 2))
    || (decide (p.type = fRED) && decide (bitsOf header 112 16 ≠ 0)) || decide (16 < p.ptr) || (decide (p.type ≠ fMWRITE) && (decide (p.len = 0) || decide (16 < p.len)
      || (p.srt.take p.len).any (fun b => decide (64 ≤ b))))

/-! ## Responses (R229) -/

/-- A response built at the panel where `k` hops have been made: it leaves on the port its request came in by. -/
def FPkt.respond (p : FPkt) (k type reason : Nat) : FPkt :=
  { p with
    type := type, size := false, vc := 1, ptr := 0, len := k, reason := reason, cid := 0, delivered := 0, pruned := 0
    refused := 0, ppoison := 0, srt := (List.range 16).map (fun j => if j < k then p.ret.getD (k - 1 - j) 0 else 0)
    ret := List.replicate 16 0, tree := [], payload := 0 }

/-- A packet as a port receives it: the port goes into RET[PTR − 1]. -/
def FPkt.received (p : FPkt) (port : Nat) : FPkt :=
  { p with ret := (List.range 16).map (fun j => if j + 1 = p.ptr then port else p.ret.getD j 0) }

/-! ## Control units (R227) -/

/-- HELLO. -/
def helloUnit (panelId serial port width4 build echoSerial echoPort : Nat) (echoValid : Bool) : Unit64B :=
  BitVec.ofNat 512 (packFields [(0, 4, 8), (4, 16, panelId), (20, 64, serial), (84, 6, port), (90, 1, width4), (91, 8, build)
    , (99, 64, echoSerial), (163, 6, echoPort), (169, 1, echoValid.toNat)])
/-- CREDIT. -/
def creditUnit (freed : Nat × Nat × Nat) : Unit64B :=
  BitVec.ofNat 512 (packFields [(0, 4, 9), (4, 16, freed.1), (20, 16, freed.2.1), (36, 16, freed.2.2)])
/-- REPLAY. -/
def replayUnit (seq : Nat) : Unit64B := BitVec.ofNat 512 (packFields [(0, 4, 10), (4, 9, seq)])
/-- RESYNC. -/
def resyncUnit (seq : Nat) (freed : Nat × Nat × Nat) : Unit64B :=
  BitVec.ofNat 512 (packFields [(0, 4, 11), (4, 9, seq), (13, 16, freed.1), (29, 16, freed.2.1), (45, 16, freed.2.2)])
/-- IDLE. -/
def idleUnit : Unit64B := 0xF
/-! ## Codewords (R218) -/

/-- Ten units: padded with IDLE units. -/
def padUnits (l : List Unit64B) : List Unit64B := l ++ List.replicate (10 - l.length) idleUnit
/-- The header of a codeword: SEQ, IDLE, and in ACK and ACKV the last SEQ accepted in order. -/
def Port.header (x : Port) (seq : Nat) (idle : Bool) : BitVec 20 :=
  BitVec.ofNat 20 (packFields [(0, 9, seq), (9, 1, idle.toNat), (10, 9, (x.expected + 511) % 512), (19, 1, x.accepted.toNat)])
/-- An IDLE codeword with control units. -/
def Port.idleWord (x : Port) (units : List Unit64B) : LineWord := .codeword (x.header x.seqNext true) (padUnits units)
/-- A codeword of the replay buffer as it goes on the lanes. -/
def Port.dataWord (x : Port) (e : Nat × List Unit64B) : LineWord := .codeword (x.header e.1 false) e.2

/-- The 5,140 message bits of a codeword. -/
def messageOf (header : BitVec 20) (units : List Unit64B) : BitVec 5140 :=
  BitVec.ofNat 5140 (header.toNat + 2 ^ 20 * packDigits 512 (fun i => (units.getD i 0).toNat) 10)
/-- Symbol `i` of a codeword: ten message bits, then ten check bits. That symbol `i` holds message bits [10i + 9 : 10i] is
the model's choice, log entry 108. -/
def symbolOf (header : BitVec 20) (units : List Unit64B) (i : Nat) : BitVec 10 :=
  let m := messageOf header units
  if i < 514 then m.extractLsb' (10 * i) 10 else (Config.rsCheck m).extractLsb' (10 * (i - 514)) 10
/-- Lane of the port that carries symbol `i` (R213, R218). -/
def Port.laneOf (x : Port) (i : Nat) : Nat := if x.width4 then (if x.half then 4 else 0) + i % 4 else i % 8

/-- Codewords with an alignment marker after every 16,384, from the count since the last. -/
def withMarkers : Nat → List LineWord → List LineWord × Nat
  | n, [] => ([], n)
  | n, w :: l =>
    let r := withMarkers (if n = 16384 then 1 else n + 1) l
    ((if n = 16384 then .marker :: w :: r.1 else w :: r.1), r.2)
/-- Codewords put on the lanes. -/
def Port.put (x : Port) (l : List LineWord) : Port :=
  let r := withMarkers x.marked l
  { x with lanes := r.1, marked := r.2 }

/-- TYPE of a unit. -/
def unitType (u : Unit64B) : Nat := bitsOf u.toNat 0 4

/-! ## Multicast trees (R230) -/

/-- An item of a tree: a copy that leaves on a port with the subtree beyond it, or a leaf here. -/
inductive TItem where
  | copy (port : Nat) (sub : List Nat)
  | leaf
  deriving DecidableEq, Repr

/-- Port of a copy. -/
def TItem.port? : TItem → Option Nat
  | .copy p _ => some p
  | .leaf => none

/-- The items of the subtree at the front of a byte list, with the bytes after its END; nothing where a byte is
reserved, a port is named twice, or the tree goes more than `depth` panels beyond this one. -/
def parseTree : Nat → Nat → List Nat → Option (List TItem × List Nat)
  | 0, _, _ => none
  | _ + 1, _, [] => none
  | fuel + 1, depth, b :: l =>
    if b = 0x41 then some ([], l)
    else if b = 0x40 then (parseTree fuel depth l).map (fun r => (.leaf :: r.1, r.2))
    else
      let item : Option (TItem × List Nat) :=
        if b < 0x40 then
          match depth with
          | 0 => none
          | d + 1 => (parseTree fuel d l).map (fun r => (.copy b (l.take (l.length - r.2.length)), r.2))
        else if 0x80 ≤ b ∧ b < 0xC0 ∧ 0 < depth then some (.copy (b - 0x80) [0x40, 0x41], l)
        else none
      match item with
      | none => none
      | some (i, rest) =>
        match parseTree fuel depth rest with
        | none => none
        | some (items, tail) =>
          if items.any (fun j => decide (j.port? = i.port?)) then none else some (i :: items, tail)

/-- Leaves of a subtree: each LEAF and each TIP. -/
def leavesOf (sub : List Nat) : Nat := (sub.filter (fun b => decide (b = 0x40) || decide (0x80 ≤ b))).length

/-- The items of the tree of the `k`-th panel of a path: zeros after its END, at most 64 leaves, and at most 16 panels deep
from the first panel on (R230). -/
def treeItems (k : Nat) (tree : List Nat) : Option (List TItem) :=
  match parseTree 400 (16 - k) tree with
  | none => none
  | some (items, rest) =>
    if rest.all (· = 0) ∧ leavesOf (tree.take (tree.length - rest.length)) ≤ 64 then some items else none

/-- Leaves of a packet's tree. -/
def FPkt.leaves (p : FPkt) : Nat := leavesOf p.tree

/-! ## The digest (R246, R247) -/

/-- One bit of the CRC-32C (Castagnoli) of reflected input. -/
def crcBit (c : Nat) : Nat := if c % 2 = 1 then c / 2 ^^^ 0x82F63B78 else c / 2
/-- One byte of it. -/
def crcByte (c b : Nat) : Nat := crcBit (crcBit (crcBit (crcBit (crcBit (crcBit (crcBit (crcBit (c ^^^ b))))))))
/-- CRC-32C of bytes in address order. -/
def crc32c (l : List Nat) : Nat := l.foldl crcByte 0xFFFFFFFF ^^^ 0xFFFFFFFF
/-- HASH of a payload. -/
def payloadHash (v : Vec) : Nat := crc32c (natToBytes v.toNat 0 256)

/-- An FP32 value in units of 2^−149, where it is finite. -/
def f32Exact (w : Nat) : Option Int :=
  let e := bitsOf w 23 8
  let m := bitsOf w 0 23
  if e = 255 then none
  else
    let v : Int := if e = 0 then m else ((2 ^ 23 + m) * 2 ^ (e - 1) : Nat)
    some (if Nat.testBit w 31 then -v else v)

/-- The mass check: nothing when it passes, 1 outside tolerance, 2 a non-finite element. TOLABS 0 means none. -/
def massFault (v : Vec) (tolRel tolAbs : Nat) : Option Nat :=
  let ys := (List.range 64).map (fun i => f32Exact (v.lane i).toNat)
  if ys.any Option.isNone then some 2
  else
    let y (i : Nat) : Int := ((ys.getD i none).getD 0)
    let sum : Int := ((List.range 63).map y).sum
    let mag : Nat := ((List.range 63).map (fun i => (y i).natAbs)).sum + (y 63).natAbs
    let tol : Nat := if tolAbs = 0 then 0 else 2 ^ (tolRel + tolAbs + 22)
    if (sum - y 63).natAbs * 2 ^ tolRel ≤ mag + tol then none else some 1

end Sys2Proof.Machine
end

