-- ==== Sys2Proof/Machine/Understory.lean ====
section
/-! DEFINITION. The understory (R187 to R190): shortest ways over working positions, the next-hop tables and the routes
they make, the classes and words of messages, and the delay of SYNC messages that need one link. -/

namespace Sys2Proof.Machine

/-! ## Shortest ways -/

/-- One step of a search from the frontier: positions newly reached, with the moves made, newest first, and every position
reached so far. -/
def spread (up : Nat → Bool) (front : List (Nat × List Nat)) (seen : SMap (List Nat)) :
    List (Nat × List Nat) × SMap (List Nat) :=
  front.foldl (fun (acc : List (Nat × List Nat) × SMap (List Nat)) x =>
    (List.range 4).foldl (fun (acc : List (Nat × List Nat) × SMap (List Nat)) d =>
      match stepPos x.1 d with
      | none => acc
      | some q =>
        if up q && (acc.2.find? (fun e => e.1 = q)).isNone then
          (acc.1 ++ [(q, d :: x.2)], acc.2.insert q (d :: x.2))
        else acc) acc) ([], seen)

/-- Repeated until nothing new is reached. -/
def spreadAll (up : Nat → Bool) : Nat → List (Nat × List Nat) → SMap (List Nat) → SMap (List Nat)
  | 0, _, seen => seen
  | n + 1, front, seen =>
    let r := spread up front seen
    if r.1.isEmpty then seen else spreadAll up n r.1 r.2

/-- A shortest way from a position to every position that working routers reach: moves, newest first (log entry 31). -/
def waysFrom (up : Nat → Bool) (pos : Nat) : SMap (List Nat) :=
  if up pos then spreadAll up 576 [(pos, [])] [(pos, [])] else []

/-- The way to a position, oldest move first. -/
def wayTo (ways : SMap (List Nat)) (pos : Nat) : Option (List Nat) :=
  ((ways.find? (fun e => e.1 = pos)).map (fun e => e.2.reverse))

/-! ## Next-hop tables (R189) -/

/-- Moves from one position to another, X first and then Y. -/
def xyMoves (a b : Nat) : List Nat :=
  List.replicate (posX b - posX a) 1 ++ List.replicate (posX a - posX b) 3
    ++ List.replicate (posY b - posY a) 0 ++ List.replicate (posY a - posY b) 2

/-- The positions that moves reach, one after the other. -/
def walked (pos : Nat) : List Nat → List Nat
  | [] => []
  | d :: l =>
    match stepPos pos d with
    | none => []
    | some q => q :: walked q l

/-- Moves from a node to another over the nodes that `up` holds: X-then-Y where all of them work, else a shortest way. -/
def movesOver (up : Nat → Bool) (a b : Nat) : Option (List Nat) :=
  if (walked a (xyMoves a b)).all up then some (xyMoves a b) else wayTo (waysFrom up a) b

/-- The moves that the tables give between two nodes: inside their grove where a way inside it joins them; else, and between
groves, over the whole panel (log entry 101). -/
def State.cnetMoves (s : State) (a b : Nat) : Option (List Nat) :=
  let inside := if groveOf a = groveOf b then movesOver (fun q => s.nodesUp.has q && decide (groveOf q = groveOf a)) a b else none
  match inside with
  | some l => some l
  | none => movesOver s.nodesUp.has a b

/-- The node of the panel that the management die reaches the understory by: (0, 0), or (0, 1) where that does not
work. -/
def State.rootNode (s : State) : Nat := if s.routerUp 0 then 0 else 24

/-- The number of the management die in a next-hop table. -/
def mgmtDie : Nat := 0x3FF

/-- An entry of a node's next-hop table: the direction in which a message for position `dest` leaves it; none at its
destination, or where there is no way. -/
def State.nextHop (s : State) (node dest : Nat) : Option Nat :=
  (s.cnetMoves node (if dest = mgmtDie then s.rootNode else dest)).bind List.head?

/-- A node's parent in the spanning tree of BCAST messages, rooted at the management die; the root node has none. -/
def State.bcastParent (s : State) (node : Nat) : Option Nat := (s.nextHop node mgmtDie).bind (stepPos node)

/-- The links a message takes from a node to a position, as the tables lead it: each node with the direction it leaves in. -/
def State.cnetRoute (s : State) (dest : Nat) : Nat → Nat → List (Nat × Nat)
  | 0, _ => []
  | n + 1, node =>
    match s.nextHop node dest with
    | none => []
    | some d =>
      match stepPos node d with
      | none => []
      | some q => (node, d) :: s.cnetRoute dest n q

/-! ## Messages (R187, R188) -/

/-- Classes in their order at an output, the first ahead of all others. -/
inductive CnetClass where
  | sync | fault | ctrl | bcast
  deriving DecidableEq, Repr

/-- Rank of a class at an output: a flit of a lower rank takes the link first. -/
def CnetClass.rank : CnetClass → Nat
  | .sync => 0
  | .fault => 1
  | .ctrl => 2
  | .bcast => 3

/-- A message of the understory. -/
inductive CnetMsg where
  /-- SYNC_ADD or SYNC_SET: HOME, ENTRY, SOURCE, SRCKIND and the value -/
  | sync (set : Bool) (home entry source kind : Nat) (value : W32)
  /-- SYNC_NACK of such a message -/
  | syncNack (set : Bool) (home entry source kind : Nat) (value : W32)
  /-- FAULT: the words of a record -/
  | fault (words : List W64)
  | ctrlWrite (addr : Nat) (data : W64)
  | ctrlRead (addr : Nat)
  | ctrlAnswer (addr : Nat) (data : W64)
  /-- BCAST (R326): END, the wave addressed, the position where UNI is 1, image kind, BLOCK, and the words after it -/
  | bcast (fin : Bool) (wave : Nat) (uni : Option Nat) (image block : Nat) (words : List W32)
  deriving DecidableEq, Repr

/-- Class of a message. -/
def CnetMsg.cls : CnetMsg → CnetClass
  | .sync .. | .syncNack .. => .sync
  | .fault _ => .fault
  | .ctrlWrite .. | .ctrlRead _ | .ctrlAnswer .. => .ctrl
  | .bcast .. => .bcast

/-- Word 0 of a SYNC message of a type code; SOURCE is a partition in its low four bits for kinds 2 and 3. -/
def syncWord0 (code : BitVec 4) (home entry source kind : Nat) : W32 :=
  BitVec.ofNat 32 (packFields [(0, 4, code.toNat), (4, 9, home), (13, 8, entry)
    , (21, 9, if kind < 2 then source else source % 16), (30, 2, kind)])

/-- The two 32-bit words of a 64-bit word, low half first. -/
def halves (w : W64) : List W32 := [w.setWidth 32, (w >>> 32).setWidth 32]

/-- The 32-bit words of a message. The type codes of SYNC messages are free (`Config.cnetCode`), and so is the place of an
address in CTRL words but for the model's choice: low word first, data after (log entry 101). -/
def CnetMsg.words : CnetMsg → List W32
  | .sync set home entry source kind value => [syncWord0 (Config.cnetCode set.toNat) home entry source kind, value]
  | .syncNack _ home entry source kind value => [syncWord0 (Config.cnetCode 2) home entry source kind, value]
  | .fault words => words.flatMap halves
  | .ctrlWrite addr data => halves (BitVec.ofNat 64 addr) ++ halves data
  | .ctrlRead addr => halves (BitVec.ofNat 64 addr)
  | .ctrlAnswer addr data => halves (BitVec.ofNat 64 addr) ++ halves data
  | .bcast fin wave uni image block words =>
    BitVec.ofNat 32 (packFields [(0, 4, 0xC), (4, 1, fin.toNat), (5, 3, wave), (8, 1, uni.isSome.toNat), (10, 10, uni.getD 0)
      , (20, 4, image)]) :: BitVec.ofNat 32 block :: words.take 64

/-- Flits of a message on a link: two a word. -/
def CnetMsg.flits (m : CnetMsg) : Nat := 2 * m.words.length

/-- Local cycle in which a message that left in cycle `c` takes effect `h` hops away (R187). -/
def CnetMsg.effectAt (m : CnetMsg) (c h : Nat) : Nat := c + 2 * h + m.flits - 1

/-- A message of the sync store as it travels. -/
def SyncMsg.travelling (m : SyncMsg) : CnetMsg :=
  match m.phase with
  | .flying => .sync m.set (m.obj / 256) (m.obj % 256) (if m.kind < 2 then m.source else m.part) m.kind m.value
  | .held _ _ => .syncNack m.set (m.obj / 256) (m.obj % 256) (if m.kind < 2 then m.source else m.part) m.kind m.value

/-! ## SYNC messages that need one link in one cycle (R190) -/

/-- Local cycle in which a message left its source node: it was sent, or the order it waited for was met. -/
def State.leftAt (s : State) (m : SyncMsg) : Nat :=
  match m.guard_ with
  | none => m.at_
  | some (key, id) => (((s.core key).posted.find? (fun q => q.id = id)).bind (·.met)).getD m.at_

/-- The links of a message inside its grove, with the first cycle of its flits on each and the input it comes to that node
by (0 local, 1 north … 4 west); none for a way between groves, which no rule times. -/
def State.linkTimes (s : State) (m : SyncMsg) (home : Nat) : List (Nat × Nat × Nat × Nat) :=
  let l := s.cnetRoute home 16 m.pos
  if (l.all (fun x => decide (groveOf x.1 = groveOf m.pos))) && decide (groveOf home = groveOf m.pos) then
    (List.range l.length).map (fun i =>
      let x := l.getD i (0, 0)
      (x.1, x.2, s.leftAt m + 2 * i, if i = 0 then 0 else ((l.getD (i - 1) (0, 0)).2 + 2) % 4 + 1))
  else []

/-- The node at which one message waits for another: the first link they share in a cycle, which the other held before, or
comes to in the same cycle by an earlier input. -/
def waitsAt (a b : List (Nat × Nat × Nat × Nat)) : Option Nat :=
  a.findSome? (fun x => b.findSome? (fun y =>
    if x.1 = y.1 ∧ x.2.1 = y.2.1 ∧ x.2.2.1 < y.2.2.1 + 4 ∧ y.2.2.1 < x.2.2.1 + 4
      ∧ (y.2.2.1 < x.2.2.1 ∨ (y.2.2.1 = x.2.2.1 ∧ y.2.2.2 < x.2.2.2)) then some x.1 else none))

end Sys2Proof.Machine
end

