-- ==== Sys2Proof/Machine/Sync.lean ====
section
/-! DEFINITION. Sync objects, watches and sequence slots (R136 to R163): adds and sets at their home, sync errors,
flags, watches, the releases of waits, the slot commands, and the decision of a gather or scatter. -/

namespace Sys2Proof.Machine

/-- The answer of a command of the sync stores and the sequence unit: only objects, slots, their registers, messages,
core stalls, queues, records and interrupts may change. -/
def answerSync (s t : State) : Out :=
  .next { s with
    csr := t.csr, faults := t.faults, free := t.free, cores := t.cores, sync := t.sync, msgs := t.msgs, ops := t.ops
    releasing := t.releasing, tiles := t.tiles, bridge := t.bridge }

/-- Such an answer to a control-space write (R3, R29, R392). -/
def allowedSync (a : Agent) (addr : Nat) (s : State) (f : State → State) : Out :=
  if s.mute a addr then idle s
  else if s.mayWrite a .tile then answerSync s (f s) else answerSync s (s.decodeFault true addr)

/-! ## Objects (R136 to R144) -/

/-- Control-space address of an object's entry (R136). -/
def syncAddr (o : Nat) : Nat := 0x400000000 + 8 * o

/-- The partition that owns a present object (R137, R138). -/
def State.syncOwner (s : State) (o : Nat) : Option Nat :=
  if o / 256 < 504 then (s.posOf (o / 256)).bind s.partOf
  else if s.partExists ((o - 129024) / 128) then some ((o - 129024) / 128) else none

/-- An object. -/
def State.obj (s : State) (o : Nat) : SyncObj := SMap.get SyncObj.init s.sync o
/-- An object replaced. -/
def State.setObj (s : State) (o : Nat) (x : SyncObj) : State := { s with sync := SMap.put SyncObj.init s.sync o x }

/-- A counter of the SEQ block and the device source of its events (R163, R436). -/
def seqCounter (r : Reg) (source : Nat) : Counter := ⟨r, source, r.addr - 0x500000000⟩

/-- A sync error counted and captured (R144): device source 7. -/
def State.syncError (s : State) (m : SyncMsg) (cause : Nat) : State :=
  (s.count (seqCounter SEQ_SYNCERR_CNT (srcDev 7)) 1).capture SEQ_SYNCERR_CAP
    (packFields [(0, 17, m.obj), (17, 2, cause), (19, 2, m.kind), (21, 9, if m.kind ≤ 1 then m.source else 0)])
    (srcDev 7) (0x10 + cause)

/-- Why the home discards an add or set, if it does (R144, R150). -/
def State.syncFault (s : State) (m : SyncMsg) : Option Nat :=
  match s.syncOwner m.obj with
  | none => some 0
  | some p =>
    if m.part ≠ p then some 1
    else if !m.set && decide (2 ^ 31 ≤ m.value.toNat) then some 2
    else if s.underReset p then some 3 else none

/-- Where a message goes, by the map copy of its source node (R144, R189): no home, the sequence unit, a home whose
node is absent, or a working home. -/
inductive Home where
  | none | unit | fenced | node (pos : Nat)
  deriving DecidableEq, Repr

/-- The home of a message. -/
def State.homeOf (s : State) (m : SyncMsg) : Home :=
  if 504 ≤ m.obj / 256 then .unit
  else match s.copyPos m.pos (m.obj / 256) with
    | none => .none
    | some q => if s.routerUp q then .node q else .fenced

/-- Whether two messages are of one source: a core, a host core or the management subsystem; the order of R143 holds
between them. -/
def sameSource (m n : SyncMsg) : Bool :=
  decide (m.pos = n.pos ∧ m.kind = n.kind ∧ m.guard_.map Prod.fst = n.guard_.map Prod.fst
    ∧ m.host.map Prod.fst = n.host.map Prod.fst)

/-- Whether the writes through the bridge that a host core's message waits for are over (R143). -/
def State.hostMet (s : State) : Option (Nat × Nat) → Bool
  | none => true
  | some (hcore, order) => !s.earlierWrites hcore order

/-- Whether message `i` may take effect now: out of the ordering of R66, not held, no earlier message of its source to
its object before it (R143), and not bound for a fenced home. -/
def State.syncReady (s : State) (i : Nat) (m : SyncMsg) : Bool :=
  decide (m.phase = .flying) && s.guardMet m.guard_ && s.hostMet m.host && decide (s.homeOf m ≠ .fenced)
    && (s.msgs.take i).all (fun n => !(decide (n.obj = m.obj) && sameSource m n))

/-- The first message to an object, a set or an add, that may take effect. -/
def State.firstReady (s : State) (o : Nat) (set : Bool) : Option (Nat × SyncMsg) :=
  (s.msgs.zip (List.range s.msgs.length)).findSome? (fun x =>
    if x.1.obj = o ∧ x.1.set = set ∧ s.syncReady x.2 x.1 = true then some (x.2, x.1) else none)

/-! ## What a changed count releases (R147, R151) -/

/-- A watch fires when its count has reached its threshold: FIRED set, ARM cleared, an interrupt (R151). -/
def State.fireWatch (s : State) (w : Nat) : State :=
  let o := s.fld (SEQ_WATCHw_OBJ w)
  if s.flag (SEQ_WATCHw_ARM w) && (s.syncOwner o).isSome
      && reached (s.obj o).count (BitVec.ofNat 32 (s.fld (SEQ_WATCHw_THRESH w))) then
    ((s.setFld (SEQ_WATCHw_FIRED w) 1).setFld (SEQ_WATCHw_ARM w) 0).irq w
  else s

/-- A core whose wait on an object has been reached may issue two cycles later (R145, R147); a later set does not take
that back. -/
def State.releaseCore (s : State) (o pos core : Nat) : State :=
  s.modCore (coreKey pos core) (fun c =>
    match c.stall with
    | .wait x thr none =>
      if x = o && reached (s.obj o).count thr then { c with stall := .wait x thr (some (s.hereNow pos + 2)) } else c
    | _ => c)

/-- What follows a change of an object's count: waits of its home tile and watches. -/
def State.countChanged (s : State) (o : Nat) : State :=
  let s := match s.posOf (o / 256) with
    | some pos => if o / 256 < 504 then (List.range 8).foldl (fun s c => s.releaseCore o pos c) s else s
    | none => s
  (List.range 64).foldl (fun s w => if s.fld (SEQ_WATCHw_OBJ w) = o then s.fireWatch w else s) s

/-- The record that setting a flag raises names the object: device source 7 (R149, log entry 25). -/
def State.flagRecord (s : State) (o : Nat) (short : Bool) : State :=
  s.raise (srcDev 7) 1 (packFields [(0, 17, o), (17, 1, short.toNat), (18, 1, (!short).toNat)])

/-- The links of a message with the cycles it takes them in (R190). -/
def State.msgLinks (s : State) (m : SyncMsg) : List (Nat × Nat × Nat × Nat) :=
  if m.phase ≠ .flying ∨ s.guardMet m.guard_ = false then []
  else match s.homeOf m with
    | .node q => s.linkTimes m q
    | .unit => s.linkTimes m s.rootNode
    | .none | .fenced => []

/-- The node at which a message has to wait for another of a list, if it does. -/
def State.delayNode (s : State) (m : SyncMsg) (others : List SyncMsg) : Option Nat :=
  others.findSome? (fun k => waitsAt (s.msgLinks m) (s.msgLinks k))

/-- The nodes at which delays of R190 are certain as message `i` goes: its own behind one still on its way, and that of each
message for which it was the last one to wait for. -/
def State.delayNodes (s : State) (i : Nat) (m : SyncMsg) : List Nat :=
  let rest := removeAt s.msgs i
  (s.delayNode m rest).toList ++ (rest.zip (List.range rest.length)).filterMap (fun x =>
    if (s.delayNode x.1 (removeAt rest x.2)).isSome then none else waitsAt (s.msgLinks x.1) (s.msgLinks m))

/-- A message delayed at a node by another on its link, counted there (R190). -/
def State.delayedAt (s : State) (q : Nat) : State :=
  s.count ⟨GRV_CNET_SYNCDLY_CNT (groveOf q), srcGrove (groveOf q) 19, 0xE0080⟩ 1

/-- A message taken out, with the delays of R190 that this settles, and the posted operation it ends performed. -/
def State.msgDone (s : State) (i : Nat) (m : SyncMsg) : State :=
  let s := { (s.delayNodes i m).foldl State.delayedAt s with msgs := removeAt s.msgs i }
  match m.ends with
  | none => s
  | some (key, id) => s.posted key id

/-- Message `i` at its home, or at its source node where it has none: discarded with a sync error, or applied
(R140, R142, R144, R149, R150). -/
def State.applyMsg (s : State) (i : Nat) (m : SyncMsg) : State :=
  let fault := if s.homeOf m = .none then some 0 else s.syncFault m
  match fault with
  | some c => (s.syncError m c).msgDone i m
  | none =>
    let x := s.obj m.obj
    let x := if m.set then { x with count := m.value } else { x with count := x.count + m.value, void := x.void || m.void }
    let s := (s.setObj m.obj x).msgDone i m
    if m.void then s.flagRecord m.obj false else s

/-- The first ready adds of an object, `n` of them at most, applied (R142). -/
def State.applyAdds (s : State) (o : Nat) : Nat → State
  | 0 => s
  | n + 1 =>
    match s.firstReady o false with
    | none => s
    | some (i, m) => (s.applyMsg i m).applyAdds o n

/-- The input of a node at `here` on which a message from the node at `from_` arrives, its route X first and then Y (R189):
0 local, 1 north, 2 east, 3 south, 4 west. -/
def inputFrom (from_ here : Nat) : Nat :=
  if posY here < posY from_ then 1
  else if posY from_ < posY here then 3
  else if posX here < posX from_ then 2
  else if posX from_ < posX here then 4
  else 0

/-- The place of a set among those of its cycle at its home (R142): the input it arrives on; at the sequence unit one
straight from the host bridge comes last. -/
def State.setRank (s : State) (m : SyncMsg) : Nat :=
  match s.homeOf m with
  | .unit => if m.kind = 3 then 5 else inputFrom m.pos (if s.routerUp 0 then 0 else 24)
  | .node q => inputFrom m.pos q
  | .none | .fenced => 0

/-- A message put into a list ordered by rank, after those of its rank. -/
def State.insertSet (s : State) (m : SyncMsg) : List SyncMsg → List SyncMsg
  | [] => [m]
  | n :: l => if s.setRank m < s.setRank n then m :: n :: l else n :: s.insertSet m l

/-- The oldest `n` sets of an object that may take effect, in the order of R142. -/
def State.cycleSets (s : State) (o n : Nat) : List SyncMsg :=
  (((s.msgs.zip (List.range s.msgs.length)).filter
    (fun x => decide (x.1.obj = o) && x.1.set && s.syncReady x.2 x.1)).take n).foldl (fun l x => s.insertSet x.1 l) []

/-- The sets that reach an object in one cycle, applied in the order of R142. -/
def State.applySets (s : State) (o n : Nat) : State :=
  (s.cycleSets o n).foldl (fun (s : State) m => s.applyMsg (s.msgs.idxOf m) m) s

/-- SYNC_ADD_APPLY (R142): `count` adds that reach an object in one cycle, checked and applied together. -/
def execSyncAddApply (obj count : Nat) (s : State) : Out :=
  if 131072 ≤ obj then noUnit
  else if count = 0 ∨ (s.firstReady obj false).isNone then idle s
  else answerSync s ((s.applyAdds obj count).countChanged obj)

/-- SYNC_SET_APPLY (R142, R150): `sets` sets and `adds` adds that reach an object in one cycle: the sets in the order of
their inputs, the adds on top; waits and watches see the count they leave. -/
def execSyncSetApply (i : CycleInputs) (s : State) : Out :=
  if 131072 ≤ i.obj then noUnit
  else if i.sets = 0 ∨ (s.firstReady i.obj true).isNone then idle s
  else answerSync s (((s.applySets i.obj i.sets).applyAdds i.obj i.adds).countChanged i.obj)

/-- SYNC_NACK (R144): the last working node before a fenced home answers message `n`, which its source node holds. -/
def execSyncNack (n : Nat) (s : State) : Out :=
  match s.msgs[n]? with
  | none => idle s
  | some m =>
    if m.phase = .flying ∧ s.guardMet m.guard_ = true ∧ s.homeOf m = .fenced then
      let held : SyncMsg := { m with phase := .held (s.hereNow m.pos) (s.copyEntry m.pos (m.obj / 256)) }
      answerSync s { s with msgs := replaceAt s.msgs n held }
    else idle s

/-- SYNC_ADD_RESEND (R144): message `n`, held, leaves again: at once when its source's map copy of HOME has changed,
else 1,024 cycles after the SYNC_NACK. -/
def execSyncAddResend (n : Nat) (s : State) : Out :=
  match s.msgs[n]? with
  | none => idle s
  | some m =>
    match m.phase with
    | .flying => idle s
    | .held since entry =>
      let s' := if s.copyEntry m.pos (m.obj / 256) ≠ entry then s else s.atCycle (groveOf m.pos) (since + 1024)
      let sent : SyncMsg := { m with phase := .flying }
      answerSync s' { s' with msgs := replaceAt s'.msgs n sent }

/-! ## Control-space commands on objects (R150, R393) -/

/-- A host or management add or set on its way: it carries the partition that owns the object (R393); a host core's waits
for the core's earlier writes through the bridge (R143). -/
def State.syncCmd (s : State) (a : Agent) (set : Bool) (obj : Nat) (value : W32) : State :=
  s.sendSync { set := set, obj := obj, value := value, kind := 3, source := 0, part := (s.syncOwner obj).getD 0
               pos := if s.routerUp 0 then 0 else 24
               void := false, guard_ := none, ends := none
               host := match a with
                 | .host h => some (h.val, s.bridge.nextTag)
                 | .mgmt | .admin | .read => none
               at_ := 0
               phase := .flying }

/-- SYNC_CMD_ADD (R150): OP 0. -/
def execSyncCmdAdd (a : Agent) (obj : Nat) (value : W32) (s : State) : Out :=
  if 131072 ≤ obj then noUnit else allowedSync a (syncAddr obj) s (fun s => s.syncCmd a false obj value)

/-- SYNC_CMD_SET (R150): OP 1. -/
def execSyncCmdSet (a : Agent) (obj : Nat) (value : W32) (s : State) : Out :=
  if 131072 ≤ obj then noUnit else allowedSync a (syncAddr obj) s (fun s => s.syncCmd a true obj value)

/-- SYNC_CMD_CLEAR_FLAGS (R150): OP 2; a nonzero VALUE is a decode fault. -/
def execSyncCmdClearFlags (a : Agent) (obj : Nat) (value : W32) (s : State) : Out :=
  if 131072 ≤ obj then noUnit
  else allowedSync a (syncAddr obj) s (fun s =>
    if value ≠ 0 then s.decodeFault true (syncAddr obj)
    else s.setObj obj { s.obj obj with short := false, void := false, shortBy := 0 })

/-! ## Watches (R151, R163) -/

/-- A watch word written: OBJ and THRESH change only while ARM is 0 and are kept without a record otherwise (log entry 56);
FIRED clears on 1, ARM takes `arm`. -/
def State.writeWatch (s : State) (w : Nat) (value : W64) (arm : Bool) : State :=
  let s := if s.flag (SEQ_WATCHw_ARM w) then s
    else (s.setFld (SEQ_WATCHw_OBJ w) (bitsOf value.toNat 0 17)).setFld (SEQ_WATCHw_THRESH w) (bitsOf value.toNat 32 32)
  let s := if Nat.testBit value.toNat 18 then s.setFld (SEQ_WATCHw_FIRED w) 0 else s
  s.setFld (SEQ_WATCHw_ARM w) arm.toNat

/-- SEQ_WATCH_ARM (R151): ARM written 1; a threshold already reached fires at once. -/
def execSeqWatchArm (a : Agent) (w : Nat) (value : W64) (s : State) : Out :=
  if 64 ≤ w then noUnit else allowedSync a (SEQ_WATCHw w).addr s (fun s => (s.writeWatch w value true).fireWatch w)

/-- SEQ_WATCH_DISARM (R163): ARM written 0. -/
def execSeqWatchDisarm (a : Agent) (w : Nat) (value : W64) (s : State) : Out :=
  if 64 ≤ w then noUnit else allowedSync a (SEQ_WATCHw w).addr s (fun s => s.writeWatch w value false)

/-! ## Sequence slots (R154 to R156) -/

/-- STATE of a slot: 0 FREE, 1 ACTIVE, 2 HELD, 3 FAILED. -/
def State.slotState (s : State) (k : Nat) : Nat := s.fld (SEQ_SLOTs_STATE_STATE k)
/-- STATE of a slot set. -/
def State.setSlotState (s : State) (k v : Nat) : State := s.setFld (SEQ_SLOTs_STATE_STATE k) v

/-- A command or an operation of a slot rejected: counted and captured, ERR its cause (R154, R156, R159). -/
def State.seqReject (s : State) (slot cause source : Nat) (scatter : Bool) : State :=
  let s := s.setFld (SEQ_SLOTs_STATE_ERR slot) cause
  (s.count (seqCounter SEQ_ERR_CNT (srcDev 8)) 1).capture SEQ_ERR_CAP
    (packFields [(0, 8, slot), (8, 3, cause), (11, 9, source), (20, 1, scatter.toNat)]) (srcDev 8) (0x10 + cause)

/-- A slot command: its effect when the slot's STATE is one of `from_`, else rejected with cause 5 (R156). -/
def slotCommand (a : Agent) (slot : Nat) (s : State) (from_ : List Nat) (f : State → State) : Out :=
  if 256 ≤ slot then noUnit
  else allowedSync a (SEQ_CMDs slot).addr s (fun s =>
    if from_.contains (s.slotState slot) then f s else s.seqReject slot 5 0 false)

/-- Whether a slot's descriptor is valid for ACTIVATE (R156). -/
def State.slotValid (s : State) (k : Nat) : Bool :=
  let units := s.fld (SEQ_SLOTs_KV_ROW_UNITS k)
  let extent := s.fld (SEQ_SLOTs_LEN_EXTENT k)
  let owner := s.fld (SEQ_SLOTs_STATE_OWNER k)
  decide (1 ≤ units) && decide (1 ≤ extent) && decide (s.fld (SEQ_SLOTs_LEN_LENGTH k) ≤ extent)
    && decide (s.fld (SEQ_SLOTs_KV_KV_BASE k) + extent * units * 256 ≤ s.hbmCapacity)
    && s.partExists owner && decide (s.syncOwner (s.fld (SEQ_SLOTs_SYNC_SYNC_BASE k)) = some owner)

/-- ACTIVATE (R156). -/
def execActivate (a : Agent) (slot : Nat) (s : State) : Out :=
  slotCommand a slot s [0] (fun s => if s.slotValid slot then s.setSlotState slot 1 else s.seqReject slot 6 0 false)

/-- HOLD (R156). -/
def execHold (a : Agent) (slot : Nat) (s : State) : Out := slotCommand a slot s [1] (fun s => s.setSlotState slot 2)

/-- RESUME (R156). -/
def execResume (a : Agent) (slot : Nat) (s : State) : Out := slotCommand a slot s [2] (fun s => s.setSlotState slot 1)

/-- A slot FREE, with no RELEASE pending. -/
def State.slotFree (s : State) (slot : Nat) : State :=
  { s.setSlotState slot 0 with releasing := s.releasing.del slot }

/-- RELEASE (R156): FREE at once when nothing is in flight, else when INFLIGHT reaches 0. -/
def execRelease (a : Agent) (slot : Nat) (s : State) : Out :=
  slotCommand a slot s [1, 2, 3] (fun s =>
    if s.fld (SEQ_SLOTs_STATE_INFLIGHT slot) = 0 then s.slotFree slot else { s with releasing := s.releasing.add slot })

/-- RELEASE_COMPLETE (R156): a pending RELEASE takes effect when INFLIGHT is 0. -/
def execReleaseComplete (slot : Nat) (s : State) : Out :=
  if 256 ≤ slot then noUnit
  else if s.releasing.has slot && decide (s.fld (SEQ_SLOTs_STATE_INFLIGHT slot) = 0) then answerSync s (s.slotFree slot)
  else idle s

/-- SETLEN (R156): LENGTH := v where v is not above EXTENT, else rejected with cause 5 (log entry 26). -/
def execSetlen (a : Agent) (slot value : Nat) (s : State) : Out :=
  slotCommand a slot s [1, 2] (fun s =>
    if value ≤ s.fld (SEQ_SLOTs_LEN_EXTENT slot) then s.setFld (SEQ_SLOTs_LEN_LENGTH slot) value
    else s.seqReject slot 5 0 false)

/-- MARK (R156): MARK := LENGTH. -/
def execMark (a : Agent) (slot : Nat) (s : State) : Out :=
  slotCommand a slot s [1, 2] (fun s => s.setFld (SEQ_SLOTs_STATE_MARK slot) (s.fld (SEQ_SLOTs_LEN_LENGTH slot)))

/-- REWIND (R156): LENGTH := MARK. -/
def execRewind (a : Agent) (slot : Nat) (s : State) : Out :=
  slotCommand a slot s [1, 2, 3] (fun s => s.setFld (SEQ_SLOTs_LEN_LENGTH slot) (s.fld (SEQ_SLOTs_STATE_MARK slot)))

/-! ## The decision of a gather or scatter (R157, R159) -/

/-- FIRST of an operation. -/
def SeqOp.first (o : SeqOp) : Nat := bitsOf o.sb.toNat 0 24
/-- NROWS of an operation. -/
def SeqOp.rows (o : SeqOp) : Nat := bitsOf o.sb.toNat 24 12
/-- UNITS of an operation. -/
def SeqOp.units (o : SeqOp) : Nat := bitsOf o.sb.toNat 36 8
/-- HDR or ADV of an operation. -/
def SeqOp.flag (o : SeqOp) : Bool := Nat.testBit o.sb.toNat 62

/-- Why an operation is rejected, if it is (R156, R159). -/
def State.opFault (s : State) (o : SeqOp) : Option Nat :=
  if s.slotState o.slot ≠ 1 ∨ s.releasing.has o.slot = true then some 0
  else if o.units ≠ s.fld (SEQ_SLOTs_KV_ROW_UNITS o.slot) then some 1
  else if s.fld (SEQ_SLOTs_LEN_EXTENT o.slot) < o.first + o.rows then some 2
  else if o.part ≠ s.fld (SEQ_SLOTs_STATE_OWNER o.slot) then some 3
  else none

/-- An operation of the list changed. -/
def State.modOp (s : State) (id : Nat) (f : SeqOp → SeqOp) : State :=
  { s with ops := s.ops.map (fun o => if o.id = id then f o else o) }

/-- An operation over: its queue entry frees, its posted operation is performed, its attachment applies: add 1 to OBJ
when EN (R157, R159, R162). -/
def State.opDone (s : State) (o : SeqOp) (void : Bool) : State :=
  let s := { s with ops := s.ops.filter (fun x => x.id ≠ o.id) }
  let s := (s.freeEntry o.pos o.entry).posted (coreKey o.pos o.core) o.posted
  s.attach (Nat.testBit o.sb.toNat 63) (bitsOf o.sb.toNat 44 17) 1 o.logical o.part o.pos void none none

/-- An operation decided in one step: rejected with VOID on its object, or accepted with its descriptor as it stands
and INFLIGHT one up (R159). -/
def State.decideOp (s : State) (o : SeqOp) : State :=
  match s.opFault o with
  | some c => (s.seqReject o.slot c o.logical o.scatter).opDone o true
  | none =>
    let words := [s.rd (SEQ_SLOTs_KV o.slot), s.rd (SEQ_SLOTs_LEN o.slot), s.rd (SEQ_SLOTs_SYNC o.slot)
      , s.rd (SEQ_SLOTs_STATE o.slot)].map (BitVec.ofNat 64)
    let len := s.fld (SEQ_SLOTs_LEN_LENGTH o.slot)
    (s.setFld (SEQ_SLOTs_STATE_INFLIGHT o.slot) (s.fld (SEQ_SLOTs_STATE_INFLIGHT o.slot) + 1)).modOp o.id
      (fun o => { o with phase := .accepted len words })

/-- Ticket of an operation that waits at the sequence unit on a slot. -/
def SeqOp.ticket (o : SeqOp) (slot : Nat) : Option Nat :=
  match o.phase with
  | .waiting t => if o.slot = slot then some t else none
  | .arriving | .accepted _ _ => none

/-- The operation that has waited longest on a slot (R159). -/
def firstWaiting (slot : Nat) : List SeqOp → Option SeqOp
  | [] => none
  | o :: l =>
    match o.ticket slot, firstWaiting slot l with
    | none, r => r
    | some _, none => some o
    | some t, some p => if (p.ticket slot).getD 0 < t then some p else some o

/-- The ticket of the next operation to wait. -/
def nextTicket (l : List SeqOp) : Nat :=
  l.foldl (fun m o => match o.phase with
    | .waiting t => max m (t + 1)
    | .arriving | .accepted _ _ => m) 0

/-- SEQ_OP_DECIDE (R159): operation `n` reaches the sequence unit; with 511 in flight on its slot, or others waiting there
before it, it waits. -/
def execSeqOpDecide (n : Nat) (s : State) : Out :=
  match s.ops[n]? with
  | none => idle s
  | some o =>
    if o.phase ≠ .arriving then idle s
    else if s.fld (SEQ_SLOTs_STATE_INFLIGHT o.slot) = 511 ∨ (firstWaiting o.slot s.ops).isSome then
      answerSync s (s.modOp o.id (fun o => { o with phase := .waiting (nextTicket s.ops) }))
    else answerSync s (s.decideOp o)

/-- SEQ_OP_WAIT_DECIDE (R159): of the operations waiting on a slot the first that arrived is decided once INFLIGHT is
below 511. -/
def execSeqOpWaitDecide (slot : Nat) (s : State) : Out :=
  if 256 ≤ slot then noUnit
  else match firstWaiting slot s.ops with
    | none => idle s
    | some o => if s.fld (SEQ_SLOTs_STATE_INFLIGHT slot) < 511 then answerSync s (s.decideOp o) else idle s

end Sys2Proof.Machine
end

