-- ==== Sys2Proof/Machine/Fabric.lean ====
section
/-! DEFINITION. Fabric packets at L-rim dies (R223 to R247): sending under credits, origin and arrival, transit,
the rim ring (R226), multicast merges and collectives. A packet leaves the buffer it is in when the next one, or the credits
of its egress port, have room for it, so that a full link stops the buffers before it (R224). -/

namespace Sys2Proof.Machine

/-- The answer of an event of the fabric: ports, dies, packets, credits, messages, objects, registers and records. -/
def answerFab (s t : State) : Out :=
  .next { s with
    csr := t.csr, faults := t.faults, net := t.net, creditUsed := t.creditUsed, creditBack := t.creditBack
    ports := t.ports, fabric := t.fabric, dies := t.dies, msgs := t.msgs, sync := t.sync }

/-! ## Sending on a port (R219, R223) -/

/-- Credits a port holds on a virtual channel (R223). -/
def Port.credits (x : Port) (vc : Nat) : Nat := vcBuffer vc - (vcGet x.sent vc + 65536 - vcGet x.freed vc) % 65536

/-- The first packet of the queue whose channel has credits for all of its units and no earlier packet waiting. -/
def Port.sendable (x : Port) : List FPkt → List Nat → Nat → Option (Nat × FPkt)
  | [], _, _ => none
  | p :: l, blocked, i =>
    if !blocked.contains p.vc && decide (unitsOf p.type ≤ x.credits p.vc) then some (i, p)
    else x.sendable l (p.vc :: blocked) (i + 1)

/-- A packet sent in a codeword of its own, padded with IDLE units, kept for replay (R218, R219). -/
def Port.sendOne (x : Port) (i : Nat) (p : FPkt) : Port :=
  { x with
    seqNext := (x.seqNext + 1) % 512
    replay := x.replay ++ [(x.seqNext, padUnits p.units)]
    sent := vcSet x.sent p.vc ((vcGet x.sent p.vc + unitsOf p.type) % 65536)
    queue := removeAt x.queue i }

/-- Every packet sent that may be, while fewer than 255 codewords are outstanding. -/
def Port.pump : Nat → Port → Port
  | 0, x => x
  | n + 1, x =>
    if 255 ≤ x.replay.length then x
    else match x.sendable x.queue [] 0 with
      | none => x
      | some (i, p) => Port.pump n (x.sendOne i p)

/-- What a port may send, put on its lanes. -/
def Port.pumped (x : Port) : Port :=
  let y := x.pump x.queue.length
  let new := y.replay.drop x.replay.length
  if new = [] then y else y.put (new.map y.dataWord)

/-- Whether the egress queue of a port takes a packet: there are credits for it and for the packets before it (R223, R224). -/
def Port.room (x : Port) (p : FPkt) : Bool :=
  let vc := vcOf p.type
  decide (((x.queue.filter (fun q => vcOf q.type = vc)).map (fun q => unitsOf q.type)).sum + unitsOf p.type ≤ x.credits vc)

/-- PANEL_ID of a die. -/
def State.panelId (s : State) (m : Nat) : Nat := s.fld (FAB_DIE_CFG_PANEL_ID m)

/-- A port sends what it may: in UP, not fenced, and with a PANEL_ID (R217, R250). -/
def State.pump (s : State) (p : Nat) : State :=
  if (s.port p).state = 3 ∧ s.fld (FAB_CTRL_FENCE p) = 0 ∧ s.panelId (p / 4) ≠ 0 then
    s.modPort p Port.pumped
  else s

/-- Whether packets may leave on a port: enabled, UP, not fenced, in fabric mode (R217, R239). -/
def State.usable (s : State) (p : Nat) : Bool :=
  decide (p < 64) && decide ((s.port p).state = 3) && s.flag (FAB_CTRL_EN p) && !s.flag (FAB_CTRL_FENCE p)
    && !s.flag (FAB_CTRL_MODE p)

/-! ## Drops and responses (R236, R239) -/

/-- A counter of a port: its events come from port source 1 (R436). -/
def fabCounter (p : Nat) (r : Reg) : Counter := ⟨r, srcPort p 1, r.addr - fabBase p⟩

/-- A failure counted in FAB_DROP_CNT and captured in FAB_DROP_CAP of a port: source 2 (R236, R437). -/
def State.fabDrop (s : State) (port cause : Nat) (p : FPkt) : State :=
  (s.count (fabCounter port (FAB_DROP_CNT port)) 1).capture (FAB_DROP_CAP port)
    (packFields [(0, 4, cause), (4, 4, p.type), (8, 16, p.srcId), (24, 9, p.srcTile), (33, 4, p.dpart), (37, 5, p.ptr)
      , (42, 6, port)]) (srcPort port 2) (0x10 + cause)

/-- A packet queued on a port, PTR up by one. -/
def State.queueOn (s : State) (port : Nat) (p : FPkt) : State :=
  (s.modPort port (fun x => { x with queue := x.queue ++ [{ p with ptr := p.ptr + 1 }] })).pump port

/-- A response or RED sent on, or dropped and recorded at an unusable egress (R239). -/
def State.sendOrLose (s : State) (port : Nat) (p : FPkt) : State :=
  if s.usable port then s.queueOn port p else s.fabDrop port 8 p

/-- A response that the die of `port` builds: it goes on its way as a packet in transit does (R229, FABRIC_TRANSIT), or is
home where its request had made no hop. -/
def State.sendBack (s : State) (port : Nat) (r : FPkt) : State :=
  { s with fabric := s.fabric ++ [⟨r, port, 0, true, none⟩] }

/-- Whether the last response built at the die of a port has left it: a die that cannot send its responses takes no further
packet that asks for one (R224). -/
def State.ownRoom (s : State) (port : Nat) : Bool :=
  s.fabric.all (fun x => !(x.own && decide (x.port = port) && decide (x.ring = none)))

/-- A WRITE at an unusable egress: dropped and answered with DEAD (R239). -/
def State.deadHop (s : State) (port : Nat) (p : FPkt) : State :=
  (s.fabDrop port 7 p).sendBack port (p.respond p.ptr fDEAD 0)

/-! ## Receive buffers -/

/-- Whether two packets stand in one buffer. -/
def FItem.together (a b : FItem) : Bool :=
  match a.ring, b.ring with
  | some r, some t => decide (r.pos = t.pos) && r.up == t.up && decide (r.cls = t.cls)
  | none, none => decide (a.port = b.port) && a.own == b.own
  | _, _ => false

/-- Whether item `n` is the first of its buffer and channel: the fabric keeps that order (R238). -/
def State.fabHead (s : State) (n : Nat) (it : FItem) : Bool :=
  (s.fabric.take n).all (fun x => !x.together it || decide (vcOf x.pkt.type ≠ vcOf it.pkt.type))

/-- An item out of the list, its receive-buffer units freed (R223). -/
def State.takeFab (s : State) (n : Nat) (it : FItem) : State :=
  let vc := vcOf it.pkt.type
  let s := { s with fabric := removeAt s.fabric n }
  if it.units = 0 then s
  else s.modPort it.port (fun x => { x with
    held := vcSet x.held vc (vcGet x.held vc - it.units)
    gone := vcSet x.gone vc ((vcGet x.gone vc + it.units) % 65536) })

/-- A packet that has reached the panel it is for (R229). -/
def FPkt.home (p : FPkt) : Bool := decide (p.len ≤ p.ptr)

/-! ## The rim ring (R226) -/

/-- Ring position of an L-rim die. -/
def ringPos (m : Nat) : Nat := if m < 8 then m else if m < 12 then 19 - m else 27 - m
/-- Ring position a packet is at. -/
def FItem.where_ (it : FItem) : Nat := match it.ring with
  | some r => r.pos
  | none => ringPos (it.port / 4)
/-- Port a packet in transit is to leave on: that of its copy for an MWRITE, else SRT[PTR] (R239, R242). -/
def FItem.exit (it : FItem) : Nat := match it.ring with
  | some r => r.exit
  | none => it.pkt.srt.getD it.pkt.ptr 0

/-- The segment a packet takes next: the shorter way round, that of rising positions on a tie; its class changes where it
crosses between positions 15 and 0. -/
def ringNext (pos : Nat) (ring : Option Ring) (exit : Nat) : Ring :=
  let up := match ring with
    | some r => r.up
    | none => decide ((ringPos (exit / 4) + 16 - pos) % 16 ≤ 8)
  let next := if up then (pos + 1) % 16 else (pos + 15) % 16
  let crossed := if up then decide (next = 0) else decide (next = 15)
  { pos := next, up := up, exit := exit, cls := if crossed then 1 else match ring with
      | some r => r.cls
      | none => 0 }

/-- Whether a segment's buffer of the packet's channel, direction and class, of 64 units, has room for it. -/
def State.ringRoom (s : State) (r : Ring) (p : FPkt) : Bool :=
  let used := (s.fabric.filter (fun x => match x.ring with
    | some t => decide (t.pos = r.pos) && t.up == r.up && decide (t.cls = r.cls) && decide (vcOf x.pkt.type = vcOf p.type)
    | none => false)).map (fun x => unitsOf x.pkt.type)
  decide (used.sum + unitsOf p.type ≤ 64)

/-- A packet on the ring. -/
def State.onRing (s : State) (r : Ring) (port : Nat) (own : Bool) (p : FPkt) : State :=
  { s with fabric := s.fabric ++ [⟨p, port, 0, own, some r⟩] }

/-- A fabric packet with every field zero. -/
def FPkt.blank : FPkt where
  type := 0
  size := true
  epoch := false
  vc := 0
  ptr := 0
  len := 0
  srcId := 0
  srcPart := 0
  srcTile := 0
  tag := 0
  dstId := 0
  dpart := 0
  reason := 0
  daddr := 0
  obj := 0
  add := 0
  en := false
  cid := 0
  delivered := 0
  pruned := 0
  refused := 0
  ppoison := 0
  srt := List.replicate 16 0
  ret := List.replicate 16 0
  tree := []
  payload := 0

/-! ## The panel side of a die -/

/-- Side code of an L-rim die. -/
def dieSide (m : Nat) : Nat := m / 4

/-- Whether a die holds credits toward a router for a packet. -/
def State.dieCredits (s : State) (m pos cls flits : Nat) : Bool := decide (flits ≤ s.credits (linkKey pos (20 + dieSide m)) cls)

/-- A packet sent by a die into an attachment router. -/
def State.dieSend (s : State) (m pos : Nat) (p : Pkt) : State :=
  (s.takeCredits (linkKey pos (20 + dieSide m)) (classOf p.type) p.flits).place p (.router pos (12 + dieSide m))

/-- An item of the mesh taken by a die, its rim-channel slots freed. -/
def State.takeRim (s : State) (n m pos : Nat) (p : Pkt) : State :=
  (s.leaveNet n).freeSlots (some (linkKey pos (8 + dirOfSide (dieSide m)))) (classOf p.type) p.flits

/-- A fabric request whose words the die cannot use: a header word, or the INLINE word that is the request, uncorrectable or
poisoned (R178, R228, log entry 109). -/
def Pkt.unfit (q : Pkt) : Bool := q.badHeader.isSome || (decide (q.type = tWRITE) && decide (q.inlinePoison ≠ 0))

/-- A packet on the fabric's side of a die, for the drop capture. -/
def Pkt.asFabric (q : Pkt) (srcId : Nat) : FPkt :=
  { FPkt.blank with type := if q.type = tRED then fRED else fWRITE, srcId := srcId, srcTile := q.src, tag := q.tag }

/-- A packet that came to a die unfit: dropped, counted and captured with cause 0, answered with nothing (R178, R250). -/
def State.rimDrop (s : State) (n m pos : Nat) (p : Pkt) : State :=
  (s.takeRim n m pos p).fabDrop ((p.port.filter (fun q => q / 4 = m)).getD (4 * m)) 0 (p.asFabric (s.panelId m))

/-- The attachment router a die sends deliveries through: its lowest working one (log entry 29). -/
def State.diePos (s : State) (m : Nat) : Option Nat := (lrimPos m).find? s.routerUp

/-- Trail index of a delivery (R237): its logical ID, or 512 plus its stack under FAB_DIE_HBM_MAP of DPART. -/
def State.dieDest (s : State) (m : Nat) (p : FPkt) : Option Nat :=
  match s.dlayout p.daddr.toNat 256 with
  | some (.spad l _) => some l
  | some (.hbm off) =>
    (hbmMap (s.fld (FAB_DIE_HBM_MAPq_SET m p.dpart)) (s.fld (FAB_DIE_HBM_MAPq_GRAN m p.dpart)) off).map (fun r => 512 + r.1)
  | _ => none

/-- An entry of the die trail table as one number. -/
def State.dieEntry (s : State) (m d : Nat) : Nat :=
  s.rd (FAB_DIE_SRT_NIB0 m d) + 2 ^ 64 * s.rd (FAB_DIE_SRT_NIB1 m d) + 2 ^ 128 * s.rd (FAB_DIE_SRT_NIB2 m d)
    + 2 ^ 192 * s.rd (FAB_DIE_SRT_CTL m d)

/-- The trail of an entry, if VALID. -/
def State.dieTrail (s : State) (m d : Nat) : Option (List Nat) :=
  let e := s.dieEntry m d
  if bitsOf e 198 1 = 1 then some ((List.range (bitsOf e 192 6)).map (fun i => bitsOf e (4 * i) 4)) else none

/-! ## Origin (R234, R235) -/

/-- Word `w` of route record `r` of a port, of version A or B (R234). -/
def State.recWord (s : State) (p : Nat) (e : Bool) (r w : Nat) : Nat :=
  s.rd ⟨fabBase p + (if e then 0x4000 else 0x1000) + r * 256 + 8 * w, 0⟩

/-- Trail bytes of a record. -/
def State.recTrail (s : State) (p : Nat) (e : Bool) (r : Nat) : List Nat :=
  natToBytes (s.recWord p e r 2 + 2 ^ 64 * s.recWord p e r 3) 0 16
/-- Tree bytes of a record. -/
def State.recTree (s : State) (p : Nat) (e : Bool) (r : Nat) : List Nat :=
  natToBytes (packDigits 64 (fun i => s.recWord p e r (8 + i)) 24) 0 192

/-- Why an origin die refuses a packet bound for port `p`: NACK cause 4 or 1, or an unusable port (7). -/
def State.originFault (s : State) (p : Nat) (q : Pkt) : Option Nat :=
  let r := bitsOf q.inlineW.toNat 0 6
  let kind := bitsOf q.inlineW.toNat 6 2
  let w0 := s.recWord p q.epoch r 0
  let trail := s.recTrail p q.epoch r
  let len := bitsOf w0 40 5
  if 48 ≤ r ∨ bitsOf w0 0 1 = 0 ∨ bitsOf w0 8 4 ≠ q.part then some 4
  else
    let good : Bool :=
      if kind = 3 then Nat.testBit w0 1 && (treeItems 1 (s.recTree p q.epoch r)).isSome
      else decide (kind = 2) && !Nat.testBit w0 1 && decide (1 ≤ len) && decide (len ≤ 16)
        && (trail.take len).all (fun b => decide (b < 64)) && decide (trail.headD 0 = p)
    if !good then some 1 else if !s.usable p then some 7 else none

/-- The fabric packet an accepted request becomes (R228, R235). -/
def State.originPkt (s : State) (p : Nat) (q : Pkt) : FPkt :=
  let r := bitsOf q.inlineW.toNat 0 6
  let w0 := s.recWord p q.epoch r 0
  let mcast := Nat.testBit w0 1
  { FPkt.blank with
    type := if mcast then fMWRITE else fWRITE
    epoch := q.epoch, len := if mcast then 16 else bitsOf w0 40 5
    srcId := s.panelId (p / 4), srcPart := q.part, srcTile := q.src, tag := q.tag
    dstId := bitsOf w0 16 16, dpart := bitsOf w0 32 4, daddr := q.addr, obj := q.obj, add := q.add, en := q.en
    ppoison := q.poison, payload := q.payload
    srt := if mcast then List.replicate 16 0 else s.recTrail p q.epoch r
    tree := if mcast then s.recTree p q.epoch r else [] }

/-- The origin entry a request takes (R235, R243). -/
def State.originEntry (s : State) (p pos : Nat) (q : Pkt) : OTrack :=
  let r := bitsOf q.inlineW.toNat 0 6
  let obj := bitsOf (s.recWord p q.epoch r 0) 48 16 + 2 ^ 16 * bitsOf (s.recWord p q.epoch r 1) 0 1
  { pkt := q, pos := pos, port := p
    cpl := if bitsOf (s.recWord p q.epoch r 1) 1 1 = 1 then some obj else none, cplObj := obj }

/-- The lowest key below `n` that a map does not list. -/
def freeKey {α : Type} (m : SMap α) (n : Nat) : Option Nat := (List.range n).find? (fun i => (m.find? (fun e => e.1 = i)).isNone)

/-- FABRIC_ORIGIN (R235): item `n`, a packet whole at its origin die: refused with NACK 3, answered with DEAD where its
port is unusable, or sent on the fabric with an origin tracking entry once its port has credits. -/
def execFabricOrigin (n : Nat) (s : State) : Out :=
  match s.net[n]? with
  | none => idle s
  | some it =>
    match it.place with
    | .lrim m pos =>
      let q := it.pkt
      if 1 < q.type then idle s
      else if q.unfit then answerFab s (s.rimDrop n m pos q)
      else
        let port := (q.port.filter (fun p => p / 4 = m)).getD (4 * m)
        let fault := if q.type = tREAD ∨ q.port ≠ some port then some 1 else s.originFault port q
        match fault with
        | some c =>
          if !s.dieCredits m pos 1 1 then idle s
          else
            let a := if c = 7 then q.answer tDEAD 0 else q.answer tNACK 3
            answerFab s (((s.takeRim n m pos q).fabDrop port c (q.asFabric (s.panelId m))).dieSend m pos a)
        | none =>
          match (if (s.port port).room (s.originPkt port q) then freeKey (s.die m).origin 256 else none) with
          | none => idle s
          | some i =>
            let s' := (s.takeRim n m pos q).modDie m (fun d => { d with origin := d.origin.insert i (s.originEntry port pos q) })
            answerFab s (s'.queueOn port (s.originPkt port q))
    | _ => idle s

/-- The origin entry of a response that has come back to its source panel. -/
def State.originOf (s : State) (m : Nat) (p : FPkt) : Option (Nat × OTrack) :=
  (s.die m).origin.find? (fun e => decide (e.2.pkt.src = p.srcTile ∧ e.2.pkt.tag = p.tag))

/-- An origin entry freed. -/
def State.freeOrigin (s : State) (m i : Nat) : State := s.modDie m (fun d => { d with origin := d.origin.erase i })

/-- FABRIC_ORIGIN_ANSWER (R235): item `n`, an ACK, NACK or DEAD back at its origin die, becomes the on-panel answer; one
without an entry is discarded. -/
def execFabricOriginAnswer (n : Nat) (s : State) : Out :=
  match s.fabric[n]? with
  | none => idle s
  | some it =>
    let p := it.pkt
    let m := it.port / 4
    if !(decide (p.type = fACK) || decide (p.type = fNACK) || decide (p.type = fDEAD)) || !p.home || !s.fabHead n it then idle s
    else match s.originOf m p with
      | none => answerFab s (s.takeFab n it)
      | some (i, o) =>
        if !s.dieCredits m o.pos 1 1 then idle s
        else
          let a := if p.type = fACK then o.pkt.answer tACK 0
            else if p.type = fNACK then o.pkt.answer tNACK p.reason else o.pkt.answer tDEAD 0
          answerFab s (((s.takeFab n it).freeOrigin m i).dieSend m o.pos a)

/-- The core whose send a tracked packet is. -/
def State.sender (s : State) (q : Pkt) : Option Nat :=
  match s.trackAt q.home q.tag with
  | some t => match t.holder with
    | .posted key _ => some key
    | _ => none
  | none => none

/-- SHORT set on a completion object, SHORT_BY up by the pruned leaves, and the record that names it (R149, R243). -/
def State.markShort (s : State) (o n : Nat) : State :=
  let x := s.obj o
  (s.setObj o { x with short := true, shortBy := BitVec.ofNat 16 (min (x.shortBy.toNat + n) 0xFFFF) }).flagRecord o true

/-- MACK (R243): item `n`, the merged MACK back at the origin die: the completion, SHORT for pruned leaves, PERF3 and a
record for refused ones, and the on-panel ACK. -/
def execMack (n : Nat) (s : State) : Out :=
  match s.fabric[n]? with
  | none => idle s
  | some it =>
    let p := it.pkt
    let m := it.port / 4
    if p.type ≠ fMACK ∨ !p.home ∨ !s.fabHead n it then idle s
    else match s.originOf m p with
      | none => answerFab s (s.takeFab n it)
      | some (i, o) =>
        if !s.dieCredits m o.pos 1 1 then idle s
        else
          let s' := (s.takeFab n it).freeOrigin m i
          let s' := match o.cpl with
            | some obj => s'.sendSync { set := false, obj := obj, value := BitVec.ofNat 32 p.delivered, kind := 2, source := 0
                                        part := o.pkt.part, pos := o.pos, void := false, guard_ := none, ends := none
                                        host := none, at_ := 0, phase := .flying }
            | none => s'
          let s' := if 0 < p.pruned then s'.markShort o.cplObj p.pruned else s'
          let s' := if 0 < p.refused then
              (match s'.sender o.pkt with
                | some key => s'.perfNack key
                | none => s').raise (srcPort o.port 4) 1 0
            else s'
          answerFab s (s'.dieSend m o.pos (o.pkt.answer tACK 0))

/-! ## Merges (R242) -/

/-- The merge entry of a multicast at a die. -/
def State.mergeOf (s : State) (m : Nat) (p : FPkt) : Option (Nat × Merge) :=
  (s.die m).merge.find? (fun e => decide (e.2.pkt.srcId = p.srcId ∧ e.2.pkt.srcTile = p.srcTile ∧ e.2.pkt.tag = p.tag))

/-- A merge entry as an answer leaves it; with every answer in it sends its MACK on the arrival port and is free. -/
def State.mergeInto (s : State) (m i : Nat) (g : Merge) : State :=
  if g.awaited = 0 then
    let r : FPkt := { g.pkt.respond g.pkt.ptr fMACK 0 with delivered := g.delivered, pruned := g.pruned, refused := g.refused }
    (s.modDie m (fun d => { d with merge := d.merge.erase i })).sendBack g.port r
  else s.modDie m (fun d => { d with merge := d.merge.insert i g })

/-- One awaited answer in. -/
def State.mergeAnswer (s : State) (m i delivered pruned refused : Nat) : State :=
  match (s.die m).merge.find? (fun e => e.1 = i) with
  | none => s
  | some (_, g) => s.mergeInto m i { g with
      awaited := g.awaited - 1, delivered := g.delivered + delivered, pruned := g.pruned + pruned
      refused := g.refused + refused }

/-- A branch copy pruned at its port (R216, R242): at the source panel the whole multicast, else a branch of the merge
entry on the die it arrived at. -/
def State.pruneBranch (s : State) (port : Nat) (p : FPkt) : State :=
  let s := s.fabDrop port 9 p
  if p.ptr = 0 then s.sendBack port { p.respond 0 fMACK 0 with pruned := p.leaves }
  else
    let m := p.ret.getD (p.ptr - 1) 0 / 4
    match s.mergeOf m p with
    | none => s
    | some (i, _) => s.mergeAnswer m i 0 p.leaves 0

/-- A packet that meets an unusable port: a WRITE answered with DEAD, a branch pruned, a response or RED dropped and recorded
(R216, R239). -/
def State.lostAt (s : State) (port : Nat) (p : FPkt) : State :=
  if p.type = fWRITE then s.deadHop port p
  else if p.type = fMWRITE then s.pruneBranch port p
  else s.fabDrop port 8 p

/-- Packets that wait for a port that is DOWN or fenced (R216, R217), with the PTR they arrived with. -/
def State.flushQueue (s : State) (port : Nat) : State :=
  (s.port port).queue.foldl (fun s p => s.lostAt port { p with ptr := p.ptr - 1 })
    (s.modPort port (fun x => { x with queue := [] }))

/-! ## Arrival (R236, R237) -/

/-- Word `w` of collective entry `c` of a die, of version A or B (R245). -/
def State.collWord (s : State) (m : Nat) (e : Bool) (c w : Nat) : Nat :=
  s.rd ⟨dieBase m + (if e then 0xE000 else 0xD000) + c * 64 + 8 * w, 0⟩

/-- The version that FAB_DIE_EPOCH selects for a partition. -/
def State.dieEpoch (s : State) (m p : Nat) : Bool := Nat.testBit (s.fld (FAB_DIE_EPOCH_EPOCH m)) p

/-- The cause for which an arriving packet is refused, in the order of R236. -/
def State.arrivalFault (s : State) (port : Nat) (p : FPkt) : Option Nat :=
  let m := port / 4
  let w0 := s.collWord m (s.dieEpoch m p.dpart) p.cid 0
  if p.type ≠ fMWRITE ∧ p.dstId ≠ s.panelId m then some 2
  else if !Nat.testBit (s.fld (FAB_ADMIT_ADMIT port)) p.dpart || !s.partExists p.dpart then some 3
  else if p.type = fRED then
    (if bitsOf w0 0 1 = 1 ∧ bitsOf w0 1 1 = 1 ∧ bitsOf w0 4 4 = p.dpart then none else some 5)
  else if (match s.dlayout p.daddr.toNat 256 with
      | some (.sync _) | none => true
      | _ => false) then some 6
  else none

/-- Destination and merge entries a die has free. -/
def State.destRoom (s : State) (m : Nat) : Nat := 256 - (s.die m).dest.length - (s.die m).merge.length

/-- The on-panel WRITE of a delivery (R237). -/
def State.deliveryPkt (s : State) (m tag : Nat) (p : FPkt) (nibs : List Nat) : Pkt :=
  { Pkt.blank with
    type := tWRITE, size := 2, epoch := s.dieEpoch m p.dpart, nibs := nibs, part := p.dpart, srckind := 2, tag := tag
    addr := p.daddr, obj := p.obj, add := p.add, en := p.en, payload := p.payload, poison := p.ppoison, home := 576
    back := some (8 + dirOfSide (dieSide m)) }

/-- How a delivery can leave its die now. -/
inductive Leave where
  /-- no trail entry: reason 4 -/
  | noTrail
  /-- no router, entry or credits yet -/
  | wait
  | now (pos : Nat) (nibs : List Nat)
  deriving DecidableEq, Repr

/-- The way of a delivery into the panel. -/
def State.leave (s : State) (m : Nat) (p : FPkt) : Leave :=
  match (s.dieDest m p).bind (s.dieTrail m) with
  | none => .noTrail
  | some nibs =>
    match s.diePos m with
    | none => .wait
    | some pos => if s.dieCredits m pos 0 4 then .now pos nibs else .wait

/-- How often the die trail entry of a delivery has been written. -/
def State.trailGen (s : State) (m : Nat) (p : FPkt) : Nat := SMap.get 0 s.srtGen (1024 * m + (s.dieDest m p).getD 624)

/-- A delivery sent with destination entry `i`. -/
def State.deliver (s : State) (m i pos port : Nat) (p : FPkt) (nibs : List Nat) (merge : Option Nat) : State :=
  (s.modDie m (fun d => { d with dest := d.dest.insert i ⟨p, port, merge, none, 0, s.trailGen m p⟩ })).dieSend m pos
    (s.deliveryPkt m i p nibs)

/-- FABRIC_ARRIVAL (R236, R237): item `n`, a WRITE at its destination panel: refused with NACK 3, or with 4 where it has
no trail, or delivered. -/
def execFabricArrival (n : Nat) (s : State) : Out :=
  match s.fabric[n]? with
  | none => idle s
  | some it =>
    let p := it.pkt
    let m := it.port / 4
    if p.type ≠ fWRITE ∨ !p.home ∨ !s.fabHead n it then idle s
    else match s.arrivalFault it.port p with
      | some c =>
        if !s.ownRoom it.port then idle s
        else answerFab s (((s.takeFab n it).fabDrop it.port c p).sendBack it.port (p.respond p.ptr fNACK 3))
      | none =>
        match s.leave m p with
        | .noTrail =>
          if !s.ownRoom it.port then idle s
          else answerFab s ((s.takeFab n it).sendBack it.port (p.respond p.ptr fNACK 4))
        | .wait => idle s
        | .now pos nibs =>
          match (if s.destRoom m = 0 then none else freeKey (s.die m).dest 256) with
          | none => idle s
          | some i => answerFab s ((s.takeFab n it).deliver m i pos it.port p nibs none)

/-- A destination entry of a die. -/
def State.destAt (s : State) (m i : Nat) : Option DTrack := ((s.die m).dest.find? (fun e => e.1 = i)).map (·.2)

/-- A delivery over: a fabric ACK or NACK to its origin, or an answer of its merge entry (R237, R242). -/
def State.delivered (s : State) (m i : Nat) (d : DTrack) (refused : Option Nat) : State :=
  let s := s.modDie m (fun x => { x with dest := x.dest.erase i })
  match d.merge with
  | some g => s.mergeAnswer m g (if refused.isNone then 1 else 0) 0 (if refused.isNone then 0 else 1)
  | none => s.sendBack d.port (match refused with
    | none => d.pkt.respond d.pkt.ptr fACK 0
    | some r => d.pkt.respond d.pkt.ptr fNACK r)

/-- A delivery held from now on. -/
def DTrack.hold (d : DTrack) (now : Nat) : DTrack := { d with heldFrom := some (d.heldFrom.getD now) }
/-- A held delivery sent again: the time of the hold counts towards HOLD_LIM, the time outstanding does not. -/
def DTrack.again (d : DTrack) (now gen : Nat) : DTrack :=
  { d with heldFrom := none, heldFor := d.heldFor + (now - d.heldFrom.getD now), gen := gen }

/-- FABRIC_ARRIVAL_ANSWER (R237): item `n`, an on-panel answer back at the arrival die: ACK and final NACKs end the
delivery; NACK 1 and DEAD hold it. -/
def execFabricArrivalAnswer (n : Nat) (s : State) : Out :=
  match s.net[n]? with
  | none => idle s
  | some it =>
    match it.place with
    | .lrim m pos =>
      let q := it.pkt
      if classOf q.type ≠ 1 ∨ q.srckind ≠ 2 then idle s
      else if q.unfit then answerFab s (s.rimDrop n m pos q)
      else match s.destAt m q.tag with
        | none => answerFab s (s.takeRim n m pos q)
        | some d =>
          let s' := s.takeRim n m pos q
          if q.type = tDEAD ∨ (q.type = tNACK ∧ q.reason = 1) then
            answerFab s (s'.modDie m (fun x => { x with dest := x.dest.insert q.tag (d.hold s.now) }))
          else if !s.ownRoom d.port then idle s
          else if q.type = tACK then answerFab s (s'.delivered m q.tag d none)
          else answerFab s (s'.delivered m q.tag d (some q.reason))
    | _ => idle s

/-- FABRIC_ARRIVAL_RESEND (R237): a held delivery leaves again once the die trail entry of its destination has been written
since it was last sent. -/
def execFabricArrivalResend (die tag : Nat) (s : State) : Out :=
  if 16 ≤ die then noUnit
  else match s.destAt die tag with
    | none => idle s
    | some d =>
      if d.heldFrom.isNone || decide (s.trailGen die d.pkt = d.gen) then idle s
      else match s.leave die d.pkt with
        | .noTrail => answerFab s (s.delivered die tag d (some 4))
        | .wait => idle s
        | .now pos nibs =>
          let s' := s.modDie die (fun x => { x with dest := x.dest.insert tag (d.again s.now (s.trailGen die d.pkt)) })
          answerFab s (s'.dieSend die pos (s'.deliveryPkt die tag d.pkt nibs))

/-- FABRIC_ARRIVAL_HOLD_LIMIT (R237): a delivery held longer than HOLD_LIM is answered with NACK 7 and recorded. -/
def execFabricArrivalHoldLimit (die tag : Nat) (s : State) : Out :=
  if 16 ≤ die then noUnit
  else match s.destAt die tag with
    | none => idle s
    | some d =>
      match d.heldFrom with
      | none => idle s
      | some from_ =>
        let s' := s.atRef (from_ + (s.fld (FAB_DIE_CFG_HOLD_LIM die) * msCounts - d.heldFor) + 1)
        answerFab s' ((s'.fabDrop d.port 10 d.pkt).delivered die tag d (some 7))

/-! ## Transit (R229, R239) -/

/-- FABRIC_TRANSIT (R226, R239): item `n`, on its way to a port of the panel, moves on: over the next segment of the rim
ring, or, at the die of that port, into its egress queue; at an unusable port it is lost there. It waits where the next
buffer has no room (R224). A child's MACK at its die belongs to a merge entry (MERGE_ANSWER). -/
def execFabricTransit (n : Nat) (s : State) : Out :=
  match s.fabric[n]? with
  | none => idle s
  | some it =>
    let p := it.pkt
    let q := it.exit
    if (it.ring = none ∧ (p.home ∨ p.type = fMWRITE)) ∨ !s.fabHead n it then idle s
    else if q < 64 ∧ it.where_ ≠ ringPos (q / 4) then
      let r := ringNext it.where_ it.ring q
      if s.ringRoom r p then answerFab s ((s.takeFab n it).onRing r it.port it.own p) else idle s
    else if p.type = fMACK ∧ it.own = false then idle s
    else if s.usable q then
      if (s.port q).room p then answerFab s ((s.takeFab n it).queueOn q p) else idle s
    else if p.type = fWRITE ∧ !s.ownRoom q then idle s
    else answerFab s ((s.takeFab n it).lostAt q p)

/-! ## Multicast (R242) -/

/-- One item of a tree worked through: a copy queued, put on the ring or pruned, or a leaf delivered or refused; the merge
entry so far. -/
def State.treeItem (s : State) (m i port : Nat) (p : FPkt) (g : Merge) (it : TItem) : State × Merge :=
  match it with
  | .copy q sub =>
    let c := { p with tree := sub ++ List.replicate (192 - sub.length) 0 }
    if q / 4 ≠ m then (s.onRing (ringNext (ringPos m) none q) port false c, { g with awaited := g.awaited + 1 })
    else if s.usable q then (s.queueOn q c, { g with awaited := g.awaited + 1 })
    else (s.fabDrop q 9 p, { g with pruned := g.pruned + leavesOf sub })
  | .leaf =>
    match s.arrivalFault port p with
    | some c => (s.fabDrop port c p, { g with refused := g.refused + 1 })
    | none =>
      match s.leave m p, freeKey (s.die m).dest 256 with
      | .now pos nibs, some k => (s.deliver m k pos port p nibs (some i), { g with awaited := g.awaited + 1 })
      | _, _ => (s, { g with refused := g.refused + 1 })

/-- Whether an item of a tree can be worked through now: a leaf that can leave its die or will be refused; a copy whose port
or ring segment has room, or whose port is unusable. -/
def State.itemReady (s : State) (m port : Nat) (p : FPkt) : TItem → Bool
  | .leaf => (s.arrivalFault port p).isSome || decide (s.leave m p ≠ .wait)
  | .copy q _ =>
    if q / 4 ≠ m then s.ringRoom (ringNext (ringPos m) none q) p else !s.usable q || (s.port q).room p

/-- MWRITE (R230, R242): item `n`, a multicast at a die: a merge entry, a copy for each branch or its leaves pruned, the
leaf delivered. A malformed tree is dropped. -/
def execMwrite (n : Nat) (s : State) : Out :=
  match s.fabric[n]? with
  | none => idle s
  | some it =>
    let p := it.pkt
    let m := it.port / 4
    if p.type ≠ fMWRITE ∨ it.ring ≠ none ∨ !s.fabHead n it then idle s
    else match treeItems p.ptr p.tree with
      | none => answerFab s ((s.takeFab n it).fabDrop it.port 1 p)
      | some items =>
        match freeKey (s.die m).merge 256 with
        | none => idle s
        | some i =>
          if s.destRoom m < 2 ∨ !items.all (s.itemReady m it.port p) ∨ !s.ownRoom it.port then idle s
          else
            let g : Merge := ⟨p, it.port, 0, 0, 0, 0, s.now⟩
            let s' := (s.takeFab n it).modDie m (fun d => { d with merge := d.merge.insert i g })
            let r := items.foldl (fun (r : State × Merge) x => r.1.treeItem m i it.port p r.2 x) (s', g)
            answerFab s (r.1.mergeInto m i r.2)

/-- MERGE_ANSWER (R242): item `n`, a child's MACK at the die of its next trail port, which holds the merge entry of the
parent copy; without an entry it is discarded. -/
def execMergeAnswer (n : Nat) (s : State) : Out :=
  match s.fabric[n]? with
  | none => idle s
  | some it =>
    let p := it.pkt
    let m := it.exit / 4
    if p.type ≠ fMACK ∨ it.own = true ∨ p.home ∨ it.where_ ≠ ringPos m ∨ !s.fabHead n it then idle s
    else
      match s.mergeOf m p with
      | none => answerFab s (s.takeFab n it)
      | some (i, _) => answerFab s ((s.takeFab n it).mergeAnswer m i p.delivered p.pruned p.refused)

/-- MERGE_TIMEOUT (R242): merge entry `n` of a die waiting past MERGE_TO is freed and recorded, and sends nothing. -/
def execMergeTimeout (die n : Nat) (s : State) : Out :=
  if 16 ≤ die then noUnit
  else match (s.die die).merge.find? (fun e => e.1 = n) with
    | none => idle s
    | some (_, g) =>
      let s' := s.atRef (g.since + s.fld (FAB_DIE_CFG_MERGE_TO die) * msCounts)
      answerFab s' (((s'.modDie die (fun d => { d with merge := d.merge.erase n })).fabDrop g.port 11 g.pkt).raise
        (srcPort g.port 4) 1 0)

/-! ## Collectives (R245 to R247) -/

/-- The egress entry of a version that a RED matches by (PART, REDID) (R246). -/
def State.egressOf (s : State) (m : Nat) (q : Pkt) : Option Nat :=
  (List.range 64).find? (fun c =>
    let w := s.collWord m q.epoch c 0
    decide (bitsOf w 0 1 = 1 ∧ bitsOf w 1 1 = 0 ∧ bitsOf w 4 4 = q.part ∧ bitsOf w 8 10 = q.redid))

/-- The fabric RED of an egress entry (R246). -/
def State.egressPkt (s : State) (m c : Nat) (q : Pkt) : FPkt :=
  let w := s.collWord m q.epoch c 0
  { FPkt.blank with
    type := fRED, epoch := q.epoch, vc := 2, len := bitsOf w 56 5, srcId := s.panelId m, srcPart := q.part
    srcTile := q.src, dstId := bitsOf w 36 16, dpart := bitsOf w 52 4, daddr := BitVec.ofNat 48 (payloadHash q.payload)
    add := q.add, cid := bitsOf w 28 6, ppoison := q.poison, payload := q.payload
    srt := natToBytes (s.collWord m q.epoch c 3 + 2 ^ 64 * s.collWord m q.epoch c 4) 0 16 }

/-- COLLECTIVE_EGRESS (R246): item `n`, an on-panel RED whole at a die: sent as a fabric RED with its hash, or dropped:
no entry, or an unusable port. -/
def execCollectiveEgress (n : Nat) (s : State) : Out :=
  match s.net[n]? with
  | none => idle s
  | some it =>
    match it.place with
    | .lrim m pos =>
      let q := it.pkt
      if q.type ≠ tRED then idle s
      else if q.unfit then answerFab s (s.rimDrop n m pos q)
      else
        let s' := s.takeRim n m pos q
        match s.egressOf m q with
        | none => answerFab s (s'.fabDrop (4 * m) 5 (q.asFabric (s.panelId m)))
        | some c =>
          let port := bitsOf (s.collWord m q.epoch c 0) 20 6
          if s.usable port && !(s.port port).room (s.egressPkt m c q) then idle s
          else answerFab s (s'.sendOrLose port (s.egressPkt m c q))
    | _ => idle s

/-- KIND of the digest failure of a RED at its ingress entry, if it fails (R247). -/
def State.digestFault (s : State) (m : Nat) (p : FPkt) : Option Nat :=
  let e := s.dieEpoch m p.dpart
  if payloadHash p.payload ≠ bitsOf p.daddr.toNat 0 32 then some 0
  else if bitsOf (s.collWord m e p.cid 0) 2 1 = 1 ∧ p.ppoison = 0 then
    (massFault p.payload (bitsOf (s.collWord m e p.cid 1) 0 5) (bitsOf (s.collWord m e p.cid 1) 8 8)).map
      (fun k => if k = 2 then 2 else 1)
  else none

/-- The on-panel RED of an ingress entry (R247). -/
def State.ingressPkt (s : State) (m : Nat) (p : FPkt) (poison : Lanes) : Pkt :=
  let e := s.dieEpoch m p.dpart
  let w (i : Nat) : Nat := s.collWord m e p.cid i
  { Pkt.blank with
    type := tRED, size := 2, epoch := e, part := p.dpart, srckind := 2, redid := bitsOf (w 0) 8 10
    nibs := nibsOf (w 3) (w 4) (w 5) (bitsOf (w 6) 0 6), addr := BitVec.ofNat 48 (bitsOf (w 1) 16 48)
    obj := BitVec.ofNat 17 (bitsOf (w 2) 0 17), en := Nat.testBit (w 2) 32, add := p.add, payload := p.payload
    poison := poison, home := 576 }

/-- A digest failure counted, captured and recorded: port source 3 (R247, R437). -/
def State.digestFailed (s : State) (port kind : Nat) (p : FPkt) : State :=
  (s.count (fabCounter port (FAB_DIGEST_CNT port)) 1).capture (FAB_DIGEST_CAP port)
    (packFields [(0, 2, kind), (2, 6, p.cid), (8, 16, p.srcId), (24, 4, p.srcPart)]) (srcPort port 3) (0x10 + kind)

/-- COLLECTIVE_INGRESS (R236, R247): item `n`, a RED at its destination panel: refused and dropped, or sent into the
local reduction, poisoned throughout when its digest fails. -/
def execCollectiveIngress (n : Nat) (s : State) : Out :=
  match s.fabric[n]? with
  | none => idle s
  | some it =>
    let p := it.pkt
    let m := it.port / 4
    if p.type ≠ fRED ∨ !p.home ∨ !s.fabHead n it then idle s
    else match s.arrivalFault it.port p with
      | some c => answerFab s ((s.takeFab n it).fabDrop it.port c p)
      | none =>
        match s.diePos m with
        | none => idle s
        | some pos =>
          if !s.dieCredits m pos 2 4 then idle s
          else match s.digestFault m p with
            | none => answerFab s ((s.takeFab n it).dieSend m pos (s.ingressPkt m p p.ppoison))
            | some k =>
              answerFab s (((s.takeFab n it).digestFailed it.port k p).dieSend m pos (s.ingressPkt m p (BitVec.allOnes 64)))

end Sys2Proof.Machine
end

