-- ==== Sys2Proof/Machine/Trails.lean ====
section
/-! DEFINITION. Trails as the management subsystem handles them: walking one (R271), finding one over working routers
(R255, R411), the table entries of an image (R255), epoch flips (R182, R240), the understory's hop counts (R189), and
the groves' features and logical numbers (R23, R34). -/

namespace Sys2Proof.Machine

/-! ## The enabled groves (R23, R34) -/

/-- Physical groves by logical number. -/
def State.logicalGroves (s : State) : List Nat := (List.range 36).filter (fun g => s.fuses.groves.getLsbD g)
/-- Logical number of a grove. -/
def State.logicalGrove (s : State) (g : Nat) : Option Nat := (List.range 36).find? (fun n => decide (s.logicalGroves[n]? = some g))
/-- Logical groves of a partition as a mask (R256). -/
def State.partLogical (s : State) (p : Nat) : List Nat := (s.partGroves p).filterMap s.logicalGrove
/-- CAPS of a die of a kind (R309). -/
def State.dieCaps (s : State) (kind i : Nat) : BitVec 6 := SMap.get s.fuses.capsAll s.fuses.caps (1000 * kind + i)
/-- STEPPING of a die of a kind (R309). -/
def State.steppingOf (s : State) (kind i : Nat) : Nat := (SMap.get 0 s.fuses.stepping (1000 * kind + i)).toNat
/-- The capability of a position: the CAPS of its C-die and its M-die (R310). -/
def State.capsOf (s : State) (pos : Nat) : BitVec 6 := s.dieCaps 1 pos &&& s.dieCaps 2 pos
/-- POSFUSE of a position (R309): 0 off, 1 active, 2 spare. -/
def State.posFuse (s : State) (pos : Nat) : Nat :=
  if s.fusedOff pos then 0
  else if (SMap.get s.fuses.spareAll s.fuses.spare (groveOf pos)).getLsbD (localIdx pos) then 2 else 1
/-- The identity word of a die (R309): KIND, STEPPING, CAPS, and POSFUSE of a C-die. -/
def State.dieIdentity (s : State) (kind i : Nat) : Nat :=
  packFields [(0, 4, kind), (4, 8, s.steppingOf kind i), (12, 6, (s.dieCaps kind i).toNat)
    , (18, 2, if kind = 1 then s.posFuse i else 0)]
/-- DESC_FEATURES (R34, R311). -/
def State.features (s : State) : BitVec 6 := BitVec.ofNat 6 (s.rd DESC_FEATURES)

/-! ## Walking a trail (R271 check 8) -/

/-- Where a trail ends. -/
inductive TrailEnd where
  | tile (pos : Nat)
  | hrim (k : Nat)
  | lrim (m : Nat)
  | host
  deriving DecidableEq, Repr

/-- The walk of a trail from a position over routers that work, if it can be made. -/
def walk (up : Nat → Bool) (pos : Nat) : List Nat → Option TrailEnd
  | [] => some (.tile pos)
  | n :: rest =>
    if n < 4 then
      match stepPos pos n with
      | some q => if up q then walk up q rest else none
      | none => none
    else if rest ≠ [] then none
    else if n < 8 then (if onSide pos (n - 4) then some (.hrim (hrimOf pos (n - 4))) else none)
    else if n < 12 then (if onSide pos (n - 8) then some (.lrim (lrimOf pos (n - 8))) else none)
    else if n = 12 ∧ (pos = 0 ∨ pos = 24) then some .host
    else none

/-- Whether a trail of table index `d` ends where the index requires, logical IDs having the positions `home`. -/
def trailOk (up : Nat → Bool) (home : Nat → Option Nat) (pos d : Nat) (nibs : List Nat) : Bool :=
  match walk up pos nibs with
  | none => false
  | some (.tile q) => decide (d < 512) && decide (home d = some q)
  | some (.hrim k) => decide (d = 512 + k)
  | some (.lrim m) => decide (560 ≤ d) && decide (d < 624) && decide ((d - 560) / 4 = m)
  | some .host => decide (d = 624)

/-! ## Trails over working routers -/

/-- The shorter of two optional trails, the first on a tie. -/
def shorter (a b : Option (List Nat)) : Option (List Nat) :=
  match a, b with
  | none, b => b
  | a, none => a
  | some x, some y => some (if x.length ≤ y.length then x else y)

/-- A trail to a stack: to the nearer attachment router, the lower on a tie, and out. -/
def stackTrail (ways : SMap (List Nat)) (k : Nat) : Option (List Nat) :=
  ((attachPos k).map (fun a => (wayTo ways a).map (· ++ [4 + dirOfSide (k / 12)]))).foldl shorter none

/-- A trail to an L-rim die: to its nearest attachment router, and out. -/
def portTrail (ways : SMap (List Nat)) (m : Nat) : Option (List Nat) :=
  ((lrimPos m).map (fun a => (wayTo ways a).map (· ++ [8 + dirOfSide (m / 4)]))).foldl shorter none

/-- A trail to the host bridge. -/
def hostTrail (ways : SMap (List Nat)) : Option (List Nat) :=
  ([0, 24].map (fun a => (wayTo ways a).map (· ++ [12]))).foldl shorter none

/-- A trail that a table entry can hold. -/
def fits (t : Option (List Nat)) : Option (List Nat) := t.bind (fun l => if l.length ≤ 48 then some l else none)

/-- A write of a die trail entry counted (R237). -/
def State.dieTrailWritten (s : State) (m d : Nat) : State :=
  { s with srtGen := SMap.put 0 s.srtGen (1024 * m + d) (SMap.get 0 s.srtGen (1024 * m + d) + 1) }

/-- A die trail entry written: its nibbles, or not VALID (R250). -/
def State.setDieTrail (s : State) (m d : Nat) (t : Option (List Nat)) : State :=
  let s := s.dieTrailWritten m d
  let l := t.getD []
  let n := packDigits 4 (fun i => l.getD i 0) 48
  (((s.wr (FAB_DIE_SRT_NIB0 m d) n).wr (FAB_DIE_SRT_NIB1 m d) (n / 2 ^ 64)).wr (FAB_DIE_SRT_NIB2 m d) (n / 2 ^ 128)).wr
    (FAB_DIE_SRT_CTL m d) (if t.isSome then l.length + 64 else 0)

/-- The trail table of the host bridge over working routers: to every logical ID with a position, and every stack, from
(0, 0), or from (0, 1) where the way is shorter (R411). -/
def State.bridgeTrails (s : State) : SMap (List Nat) :=
  let a := waysFrom s.routerUp 0
  let b := waysFrom s.routerUp 24
  (List.range 560).foldl (fun (t : SMap (List Nat)) d =>
    let way (w : SMap (List Nat)) (start : Nat) : Option (List Nat) :=
      (fits (if d < 512 then (s.posOf d).bind (wayTo w) else stackTrail w (d - 512))).map (start :: ·)
    match shorter (way a 0) (way b 24) with
    | some l => t.insert d l
    | none => t) []

/-- The trail index of a data-space address under a partition's interleave (R195, R410). -/
def State.bridgeDest (s : State) (part : Nat) (a : BitVec 48) : Option Nat :=
  match s.dspace a.toNat with
  | some (.spad l _) => some l
  | some (.hbm off) => (hbmMap (s.fld (MGMT_PARTp_HBMSET_SET part)) (s.fld (MGMT_PARTp_CFG_GRAN part)) off).map (fun r => 512 + r.1)
  | _ => none

/-- The bridge's trail to the destination of a packet: its attachment position and the nibbles. -/
def State.bridgeTrail (s : State) (p : Pkt) : Option (List Nat) :=
  (s.bridgeDest p.part p.addr).bind (fun d => (s.bridge.trails.find? (fun e => e.1 = d)).map (·.2))

/-- A packet put into the mesh at the bridge on a trail (R411), behind those of its class that wait for credits. -/
def State.bridgePut (s : State) (p : Pkt) (l : List Nat) : State := s.bridgeOut (s.bridge.out ++ [(p, l)]) []

/-- A held packet of the bridge sent again, if the table now gives its destination a trail: the time of the hold counts
towards HOLD_LIM, the time outstanding does not. -/
def State.bridgeAgain (s : State) (tag : Nat) (t : BTrack) : State :=
  match s.bridgeTrail t.pkt with
  | none => s
  | some l =>
    let t : BTrack := { t with
      held := false, gen := s.bridge.gen, sent := s.now, heldFor := t.heldFor + (s.now - t.heldFrom.getD s.now), heldFrom := none }
    { s with bridge := { s.bridge with track := s.bridge.track.insert tag t } }.bridgePut t.pkt l

/-- The packets that the bridge holds sent again once the trail table has been written (R411). -/
def State.bridgeResend (s : State) : State :=
  s.bridge.track.foldl (fun (s : State) e => if e.2.held then s.bridgeAgain e.1 e.2 else s) s

/-- The trails that the management subsystem computes itself, rewritten over working routers after every fence: from each
L-rim die to the stacks and the host bridge (R255), and the host bridge's table (R411). -/
def State.rewriteTrails (s : State) : State :=
  let s := (List.range 16).foldl (fun (s : State) m =>
    let ways := match s.diePos m with
      | some pos => waysFrom s.routerUp pos
      | none => []
    let s := (List.range 48).foldl (fun (s : State) k => s.setDieTrail m (512 + k) (fits (stackTrail ways k))) s
    s.setDieTrail m 624 (fits (hostTrail ways))) s
  ({ s with bridge := { s.bridge with trails := s.bridgeTrails, gen := s.bridge.gen + 1 } }).bridgeResend

/-! ## The understory (R189) -/

/-- Hop count between two local indices of a grove over its working nodes, 0xF where no way inside the grove joins
them. -/
def State.hops (s : State) (g u t : Nat) : Nat :=
  let up (pos : Nat) : Bool := decide (groveOf pos = g) && s.routerUp pos
  match (waysFrom up (posOfGrove g u)).find? (fun e => e.1 = posOfGrove g t) with
  | some e => min e.2.length 0xF
  | none => 0xF

/-- The next-hop tables written over the nodes that now work, and GRV_CNET_HOPSu of a grove, which every table change
updates (R189). -/
def State.setHops (s : State) (g : Nat) : State :=
  let s := { s with nodesUp := (List.range 576).filter s.routerUp }
  (List.range 16).foldl (fun (s : State) u => s.wr (GRV_CNET_HOPSu g u) (packDigits 4 (s.hops g u) 16)) s

/-! ## Table entries of an image (R255) -/

/-- The words of a register range made unlisted: each reads its reset value, zero in every table. -/
def State.wipe (s : State) (lo hi : Nat) : State := { s with csr := SMap.clear s.csr lo hi }

/-- A register range copied over another of its length, both with reset values of zero. -/
def State.copyWords (s : State) (lo len base : Nat) : State :=
  let l := s.csr.filter (fun e => decide (lo ≤ e.1 ∧ e.1 < lo + len))
  { s.wipe base (base + len) with
    csr := l.foldl (fun (m : SMap W64) e => m.insert (base + (e.1 - lo)) e.2) (SMap.clear s.csr base (base + len)) }

/-- Base of trail table A or B of a router. -/
def srtBase (pos : Nat) (e : Bool) : Nat := (if e then TILE_NET_SRTB_NIB pos 0 else TILE_NET_SRTA_NIB pos 0).addr
/-- Base of reduction table A or B of a router. -/
def redBase (pos : Nat) (e : Bool) : Nat := (if e then TILE_NET_REDB_NIB pos 0 else TILE_NET_REDA_NIB pos 0).addr
/-- Base of route table A or B of a grove. -/
def routeBase (g : Nat) (e : Bool) : Nat := (if e then GRV_ROUTEB_W0 g 0 else GRV_ROUTEA_W0 g 0).addr
/-- Base of record table A or B of a port. -/
def recBase (p : Nat) (e : Bool) : Nat := fabBase p + (if e then 0x4000 else 0x1000)
/-- Base of collective table A or B of a die. -/
def collBase (m : Nat) (e : Bool) : Nat := dieBase m + (if e then 0xE000 else 0xD000)

/-- Every trail and reduction table entry of a router made invalid, in the versions named. -/
def State.clearTables (s : State) (pos : Nat) (versions : List Bool) : State :=
  versions.foldl (fun (s : State) e =>
    (s.wipe (srtBase pos e) (srtBase pos e + 640 * 32)).wipe (redBase pos e) (redBase pos e + 1024 * 32)) s

/-- Every route table entry of a grove made invalid, in both versions (R231). -/
def State.clearRoutes (s : State) (g : Nat) : State :=
  [false, true].foldl (fun (s : State) e => s.wipe (routeBase g e) (routeBase g e + 1024 * 32)) s

/-- Four consecutive words written. -/
def State.putWords (s : State) (addr : Nat) (w : List W64) : State :=
  (List.range 4).foldl (fun (s : State) i => s.wr ⟨addr + 8 * i, 0⟩ (w.getD i 0).toNat) s

/-- KIND of a table record. -/
def recKind (w : List W64) : Nat := bitsOf (w.headD 0).toNat 0 4
/-- TARGET of a table record. -/
def recTarget (w : List W64) : Nat := bitsOf (w.headD 0).toNat 16 10
/-- INDEX of a table record. -/
def recIndex (w : List W64) : Nat := bitsOf (w.headD 0).toNat 32 16
/-- Entry of a table record as one number. -/
def recEntry (w : List W64) : Nat := packDigits 64 (fun i => (w.getD (i + 1) 0).toNat) 4

/-- Whether a collective slot of a die holds an ingress entry of a partition (R245). -/
def State.ingressEntry (s : State) (m : Nat) (e : Bool) (c p : Nat) : Bool :=
  let w := s.collWord m e c 0
  decide (bitsOf w 0 2 = 3) && decide (bitsOf w 4 4 = p)

/-- A table record of a partition written into the version `e` of its table: KIND 3 into an existing ingress entry alone,
KIND 4 into every grove of the partition (R255). -/
def State.putRecord (s : State) (p : Nat) (e : Bool) (w : List W64) : State :=
  let i := recIndex w
  let entry := w.drop 1
  match recKind w with
  | 0 => s.putWords (srtBase (recTarget w) e + 32 * i) entry
  | 1 => s.putWords (redBase (recTarget w) e + 32 * i) entry
  | 2 => (s.dieTrailWritten (recTarget w) i).putWords (FAB_DIE_SRT_NIB0 (recTarget w) i).addr entry
  | 3 =>
    let a := collBase (recTarget w) e + 64 * i
    if s.ingressEntry (recTarget w) e i p then
      (List.range 4).foldl (fun (s : State) j => s.wr ⟨a + 24 + 8 * j, 0⟩ (entry.getD j 0).toNat) s
    else s
  | 4 => (s.partGroves p).foldl (fun (s : State) g => s.putWords (routeBase g e + 32 * i) entry) s
  | _ => s

/-! ## Epoch flips (R182, R240) -/

/-- The version a partition's routers send under. -/
def State.partEpoch (s : State) (p : Nat) : Bool := (s.partPositions p).any (fun pos => s.routerUp pos && s.epoch pos)

/-- TILE_NET_STATUS.OLDOUT: tracking entries of a router whose packet carries the other epoch. -/
def State.oldOut (s : State) (pos : Nat) : Nat := ((s.tracks pos).filter (fun t => t.2.pkt.epoch ≠ s.epoch pos)).length
/-- FAB_DIE_OLDOUTq: origin entries of a partition whose packet carries the other epoch. -/
def State.dieOldOut (s : State) (m p : Nat) : Nat :=
  ((s.die m).origin.filter (fun o => decide (o.2.pkt.part = p) && (o.2.pkt.epoch != s.dieEpoch m p))).length
/-- Whether a partition's last flip is complete. -/
def State.flipped (s : State) (p : Nat) : Bool :=
  (s.partPositions p).all (fun pos => decide (s.oldOut pos = 0)) && (List.range 16).all (fun m => decide (s.dieOldOut m p = 0))

/-- A slot of the fabric's tables copied from the version `e` to the other, where it is a VALID one of the partition and the
idle slot has not been written since the last flip (R240 step 1): what the fleet software wrote there stands (log entry 104). -/
def State.copySlot (s : State) (p w from_ to_ len : Nat) : State :=
  if bitsOf w 0 1 = 1 ∧ bitsOf w (if len = 64 then 4 else 8) 4 = p ∧ s.idleSlots.has to_ = false then s.copyWords from_ len to_
  else s

/-- The route tables, records and collective entries of a partition carried to the idle version (R240). -/
def State.copyFabric (s : State) (p : Nat) (e : Bool) : State :=
  let s := (s.partGroves p).foldl (fun (s : State) g => s.copyWords (routeBase g e) (1024 * 32) (routeBase g !e)) s
  let s := (List.range 64).foldl (fun (s : State) q => (List.range 48).foldl (fun (s : State) r =>
    s.copySlot p (s.recWord q e r 0) (recBase q e + 256 * r) (recBase q (!e) + 256 * r) 256) s) s
  (List.range 16).foldl (fun (s : State) m =>
    if s.dieEpoch m p ≠ e then s
    else (List.range 64).foldl (fun (s : State) c =>
      s.copySlot p (s.collWord m e c 0) (collBase m e + 64 * c) (collBase m (!e) + 64 * c) 64) s) s

/-- The writes of a partition's slots forgotten once a flip has made them current. -/
def State.slotsCurrent (s : State) (p : Nat) : State :=
  { s with idleSlots := s.idleSlots.filter (fun a =>
    !decide (bitsOf (s.rd ⟨a, 0⟩) (if a % 0x10000 / 0x1000 < 0xD then 8 else 4) 4 = p)) }

/-- A flip (R182, R240): the version in use carried to the idle one, the records written there, EPOCH changed router by
router, and FAB_DIE_EPOCH. Route tables and records go by the same EPOCH as the trail tables, so every flip carries them
(log entry 104). -/
def State.flip (s : State) (p : Nat) (records : List (List W64)) : State :=
  let e := s.partEpoch p
  let s := (s.partPositions p).foldl (fun (s : State) pos =>
    (s.copyWords (srtBase pos e) (640 * 32) (srtBase pos !e)).copyWords (redBase pos e) (1024 * 32) (redBase pos !e)) s
  let s := s.copyFabric p e
  let s := records.foldl (fun (s : State) w => s.putRecord p (!e) w) s
  let s := (s.partPositions p).foldl (fun (s : State) pos => s.setFld (TILE_NET_CFG_EPOCH pos) (!e).toNat) s
  ((List.range 16).foldl (fun (s : State) m =>
    s.setFld (FAB_DIE_EPOCH_EPOCH m) (setBitsOf (s.fld (FAB_DIE_EPOCH_EPOCH m)) p 1 (!e).toNat)) s).slotsCurrent p

end Sys2Proof.Machine
end

