-- ==== Sys2Proof/Machine/GrovePower.lean ====
section
/-! DEFINITION. What a position and a grove lose with power (R129, R345, R351, R353), and the request for a grove's
header stages (R355). -/

namespace Sys2Proof.Machine

/-- GRV_PWR_STATUS.STATE and the clock state of a grove set together: 0 OFF, 1 RETENTION or KEEP, 2 RUN. -/
def State.setGrove (s : State) (g v : Nat) : State :=
  (s.setFld (GRV_CLK_STATUS_STATE g) v).setFld (GRV_PWR_STATUS_STATE g) v

/-- Accesses of a tile that its power or reset takes away: the packets among them are answered with NACK reason 2. -/
def State.dropAccesses (s : State) (pos : Nat) : State :=
  let gone := s.access.filter (fun a => decide (a.pos = pos))
  let s := { s with access := s.access.filter (fun a => decide (a.pos ≠ pos)) }
  gone.foldl (fun (s : State) a =>
    let s := match a.pkt with
      | some p => s.freeSlots a.inlink (classOf p.type) p.flits
      | none => s.freeSlots a.inlink 3 1
    match a.pkt with
    | some p => if p.type ≤ tREAD then s.place (p.answer tNACK 2) (.router pos 0) else s
    | none => s) s

/-- Registers of a position's cores. -/
def coreRegsLo (pos : Nat) : Nat := (TILE_CORE_ID pos 0).addr

/-- The reach entries of a tile invalid (R118, R129). -/
def State.reachNone (s : State) (pos : Nat) : State :=
  (List.range 4).foldl (fun (s : State) d => s.wr (TILE_SPAD_REACH_d pos d) (packFields [(16, 2, 3)])) s

/-- What a position loses in retention (R129, R285): its cores with their registers and instruction stores, its
non-resident regions, its windows and reach entries, and its queues (log entry 32). -/
def State.positionKeep (s : State) (pos : Nat) : State :=
  let s := s.dropAccesses pos
  let s := (((s.clearNonResident pos).winsClosed pos).wipe (coreRegsLo pos) (coreRegsLo pos + 0x8000)).reachNone pos
  { s with
    imem := Mem.clear s.imem (imemKey pos 0) (imemKey (pos + 1) 0)
    imemEcc := SMap.clear s.imemEcc (imemKey pos 0 / 4) (imemKey (pos + 1) 0 / 4)
    cores := SMap.clear s.cores (coreKey pos 0) (coreKey (pos + 1) 0)
    tiles := s.tiles.erase pos }

/-- What a position loses with its grove switched off: all of the above, resident regions and attributes, the router's
tables and copies, its packets, entries and buffers, and the service controller's firmware. Its health score, which the
management controller keeps (R301), stays. -/
def State.positionDark (s : State) (pos : Nat) : State :=
  let health := s.rd (TILE_FLT_HEALTH pos)
  let s := ((s.positionKeep pos).wipe (tileBase pos) (tileBase pos + 0xC0000)).wr (TILE_FLT_HEALTH pos) health
  let link (l : Nat) : Bool := decide (l / 4 / 32 = pos) || (List.range 4).any (fun d => match stepPos pos d with
    | some q => decide (l / 4 = linkKey q ((d + 2) % 4))
    | none => false)
  { s with
    spad := Mem.clear s.spad (spadKey pos 0) (spadKey (pos + 1) 0)
    spadPoison := NSet.clear s.spadPoison (spadKey pos 0 / 4) (spadKey (pos + 1) 0 / 4)
    spadEcc := SMap.clear s.spadEcc (spadKey pos 0 / 4) (spadKey (pos + 1) 0 / 4)
    spadLine := NSet.clear s.spadLine (spadKey pos 0 / 128) (spadKey (pos + 1) 0 / 128)
    spadLineCe := NSet.clear s.spadLineCe (spadKey pos 0 / 128) (spadKey (pos + 1) 0 / 128)
    marks := s.marks.filter (fun m => decide (m.pos ≠ pos))
    fwBytes := Mem.clear s.fwBytes (pos * 2 ^ 18) ((pos + 1) * 2 ^ 18)
    boot := { s.boot with fw := s.boot.fw.erase pos }
    net := s.net.filter (fun x => decide (x.place.pos ≠ pos))
    track := SMap.clear s.track (pos * 64) (pos * 64 + 64)
    combine := SMap.clear s.combine (pos * 1024) (pos * 1024 + 1024)
    creditUsed := s.creditUsed.filter (fun e => !link e.1)
    creditBack := s.creditBack.filter (fun e => !link e.1)
    rimTurn := SMap.clear s.rimTurn (pos * 8) (pos * 8 + 8) }

/-- A grove taken to RETENTION. -/
def State.groveKeep (s : State) (g : Nat) : State :=
  let s := (List.range 16).foldl (fun (s : State) t => s.positionKeep (posOfGrove g t)) s
  { s.setGrove g 1 with power := { s.power with stages := s.power.stages.erase g } }

/-- The crossings of a grove no longer aligned, at either end (R341). -/
def State.unalign (s : State) (g : Nat) : State :=
  let s := { s with power := { s.power with aligned := NSet.clear s.power.aligned (16 * g) (16 * g + 16) } }
  (List.range 4).foldl (fun (s : State) d =>
    match groveStep g d with
    | none => s
    | some n =>
      let o := (d + 2) % 4
      let s := s.setFld (GRV_CLK_STATUS_ALIGNED n) (setBitsOf (s.fld (GRV_CLK_STATUS_ALIGNED n)) o 1 0)
      { s with power := { s.power with aligned := NSet.clear s.power.aligned (16 * n + 4 * o) (16 * n + 4 * o + 4) } })
    ((s.setFld (GRV_CLK_STATUS_LOCK g) 0).setFld (GRV_CLK_STATUS_ALIGNED g) 0)

/-- A grove taken to OFF. -/
def State.groveDark (s : State) (g : Nat) : State :=
  let s := (List.range 16).foldl (fun (s : State) t => s.positionDark (posOfGrove g t)) s
  let s := [false, true].foldl (fun (s : State) e => s.wipe (routeBase g e) (routeBase g e + 1024 * 32)) s
  let s := ((s.unalign g).setFld (GRV_PWR_STATUS_VCORE g) 0).setFld (GRV_PWR_STATUS_STAGE g) 0
  { s.setGrove g 0 with power := { s.power with stages := s.power.stages.erase g } }

/-- A grove asked to run: 4 position header stages from RETENTION, 8 of the grove first from OFF (R354, R355). -/
def State.groveWake (s : State) (g : Nat) : State :=
  if s.clkState g = 2 then s
  else if s.clkState g = 1 then { s with power := { s.power with stages := s.power.stages.insert g 4 } }
  else
    let s := (s.setFld (GRV_PWR_STATUS_STATE g) 3).setFld (GRV_PWR_STATUS_STAGE g) 0
    { s with power := { s.power with stages := s.power.stages.insert g 8 } }

end Sys2Proof.Machine
end

