-- ==== Sys2Proof/Machine/Hbm.lean ====
section
/-! DEFINITION. HBM ports (R193 to R198, R204 to R211): the checks of an H-rim die, performing reads and writes,
scrubbing, temperature, failure, clears and grants. -/

namespace Sys2Proof.Machine

/-- The answer of a controller's event: its registers and memory, packets and credits, records, readiness. -/
def answerHbm (s t : State) : Out :=
  .next { s with
    csr := t.csr, faults := t.faults, mgmt := t.mgmt, net := t.net, creditUsed := t.creditUsed, creditBack := t.creditBack
    hbmReqs := t.hbmReqs, hbm := t.hbm, hbmPoison := t.hbmPoison, hbmEcc := t.hbmEcc }

/-! ## Checks (R197) -/

/-- End of a stack's addresses (R193). -/
def stackLimit : Nat := 0x600000000

/-- The NACK reason and the CAUSE of a request that an H-rim die refuses, if it does, in the order of R197; `size` is
SIZE, `a` the data-space address, `p` PART. -/
def State.hbmRefusal (s : State) (k p : Nat) (a : Nat) (size : Nat) (type : Nat) : Option (Nat × Nat) :=
  let n := if size = 1 then 8 else 256
  match (if 1 < type ∨ (size ≠ 1 ∧ size ≠ 2) then none else s.dspace a) with
  | some (.hbm off) =>
    if s.fld (HBM_STATUS_STATE k) ≠ 1 ∧ s.fld (HBM_STATUS_STATE k) ≠ 2 then some (5, 3)
    else if a % n ≠ 0 then some (5, 4)
    else match hbmMap (s.fld (HBM_MAPp_SET k p)) (s.fld (HBM_MAPp_GRAN k p)) off with
      | none => some (5, 0)
      | some (k', b) =>
        if k' ≠ k then some (5, 0)
        else if stackLimit ≤ b then some (5, 1)
        else if s.fld (HBM_GRANTp_GBASE k p) * 0x100000 ≤ b ∧ b + n ≤ s.fld (HBM_GRANTp_GLIMIT k p) * 0x100000 then none
        else some (5, 2)
  | _ => some (3, 5)

/-- The stack address of an accepted request. -/
def State.stackAddr (s : State) (k p : Nat) (a : Nat) : Nat :=
  ((hbmMap (s.fld (HBM_MAPp_SET k p)) (s.fld (HBM_MAPp_GRAN k p)) (bitsOf a 0 41)).map (·.2)).getD 0

/-- A counter of a controller: its events come from HBM source 4 (R436). -/
def hbmCounter (k : Nat) (r : Reg) : Counter := ⟨r, srcHbm k 4, r.addr - hbmBase k⟩

/-- A refusal counted and captured: HBM source 3 (R197, R437). -/
def State.hbmNack (s : State) (k cause part srckind src a : Nat) : State :=
  (s.count (hbmCounter k (HBM_NACK_CNT k)) 1).capture (HBM_NACK_CAP k)
    (packFields [(0, 3, cause), (3, 4, part), (7, 2, srckind), (9, 9, src), (18, 41, a)]) (srcHbm k 3) (0x10 + cause)

/-! ## Performing requests (R198, R204) -/

/-- A write of whole words with their poison and fresh check bits. -/
def State.hbmWrite (s : State) (k a len data poison : Nat) : State :=
  let lo := hbmKey k a
  { s with
    hbm := Mem.write s.hbm lo len data
    hbmPoison := NSet.setBits s.hbmPoison (lo / 4) (len / 4) poison
    hbmEcc := SMap.clear s.hbmEcc (lo / 4) ((lo + len) / 4) }

/-- Errors among the words of `[a, a + len)` of a stack. -/
def State.hbmErrors (s : State) (k a len : Nat) : SMap Nat :=
  s.hbmEcc.filter (fun e => decide (hbmKey k a / 4 ≤ e.1 ∧ e.1 < hbmKey k (a + len) / 4))

/-- One word with an error (R204, R205): corrected, and rewritten where a scrub found it; or uncorrectable: counted,
captured (HBM source 1) and rewritten poisoned with fresh check bits. `part` is the record's partition, `capPart` the
capture's PART. -/
def State.hbmError (s : State) (k : Nat) (scrub : Bool) (part : Option Nat) (capPart : Nat) (e : Nat × Nat) : State :=
  if e.2 = 1 then
    let s := s.count (hbmCounter k (HBM_CE_CNT k)) 1
    if scrub then { s with hbmEcc := s.hbmEcc.erase e.1 } else s
  else
    let s := { s with hbmPoison := s.hbmPoison.add e.1, hbmEcc := s.hbmEcc.erase e.1 }
    let cause := if scrub then 2 else 1
    (s.count (hbmCounter k (HBM_UE_CNT k)) 1).captureWith (HBM_UE_CAP k)
      (packFields [(0, 35, 4 * e.1 - hbmKey k 0), (35, 4, capPart), (39, 1, scrub.toNat)])
      (fun s w => { s.record (srcHbm k 1) cause w with part := part })

/-- A read of whole words: data, poison bits (an uncorrectable word reads poisoned), the state after the checks. -/
def State.hbmRead (s : State) (k a len part : Nat) : Nat × Nat × State :=
  let s := (s.hbmErrors k a len).foldl (fun s e => s.hbmError k false (some part) part e) s
  (Mem.read s.hbm (hbmKey k a) len, NSet.bits s.hbmPoison (hbmKey k a / 4) (len / 4), s)

/-- The requests to a 256-byte block of a stack that came before a direct access to it performed first, in their order; the
answers leave later (R198). -/
def State.hbmDrain (s : State) (k a : Nat) : State :=
  (List.range s.hbmReqs.length).foldl (fun (s : State) i => match s.hbmReqs[i]? with
    | none => s
    | some r =>
      let b := s.stackAddr k r.pkt.part r.pkt.addr.toNat
      if r.k ≠ k ∨ r.done.isSome = true ∨ b / 256 ≠ a / 256 then s
      else if r.pkt.type = tWRITE then
        let s := s.hbmWrite k b r.pkt.bytes r.pkt.data r.pkt.dataPoison
        { s with hbmReqs := replaceAt s.hbmReqs i { r with done := some (0, 0) } }
      else
        let d := s.hbmRead k b r.pkt.bytes r.pkt.part
        { d.2.2 with hbmReqs := replaceAt d.2.2.hbmReqs i { r with done := some (d.1, d.2.1) } }) s

/-! ## Requests at an H-rim die -/

/-- Input of an attachment router that H-rim die `k` sends into. -/
def rimInput (k : Nat) : Nat := 8 + k / 12

/-- Whether an H-rim die holds RSP credits toward an attachment router for an answer. -/
def State.rimCredits (s : State) (k pos flits : Nat) : Bool := decide (flits ≤ s.credits (linkKey pos (16 + k / 12)) 1)

/-- An answer sent by an H-rim die through the port its request came by (R170). -/
def State.rimSend (s : State) (k pos : Nat) (p : Pkt) : State :=
  (s.takeCredits (linkKey pos (16 + k / 12)) 1 p.flits).place p (.router pos (rimInput k))

/-- HBM_REQUEST (R197, R198, R206): item `n`, a request whole at an H-rim die, is refused with a NACK or accepted, behind
those of its 256-byte block that came before it; in self-refresh a well-formed one waits; one with a bad header is dropped
(R178). -/
def execHbmRequest (n : Nat) (s : State) : Out :=
  match s.net[n]? with
  | none => idle s
  | some it =>
    match it.place with
    | .hrim k pos =>
      let p := it.pkt
      let dir := dirOfSide (k / 12)
      let s' : State := (s.leaveNet n).freeSlots (some (linkKey pos (4 + dir))) 0 p.flits
      if p.badHeader.isSome then answerHbm s (s'.dropped pos (p.badHeader.getD 0) 8 p)
      else if (s.net.take n).any (fun x => match x.place with
          | .hrim k' _ => decide (k' = k) && decide (x.pkt.addr.toNat / 256 = p.addr.toNat / 256)
          | _ => false) then idle s
      else
      match s.hbmRefusal k p.part p.addr.toNat p.size p.type with
      | some (reason, cause) =>
        if cause ≠ 5 ∧ s.fld (HBM_STATUS_STATE k) = 2 then idle s
        else if !s.rimCredits k pos 1 then idle s
        else answerHbm s ((s'.hbmNack k cause p.part p.srckind p.src p.addr.toNat).rimSend k pos (p.answer tNACK reason))
      | none =>
        if s.fld (HBM_STATUS_STATE k) = 2 then idle s
        else answerHbm s { s' with hbmReqs := s'.hbmReqs ++ [⟨k, p, pos, none⟩] }
    | _ => idle s

/-- The `n`-th request that controller `k` holds, with its place among all, if no earlier one of its 256-byte block is
still to be performed (R198). -/
def State.nextReq (s : State) (k n : Nat) : Option (Nat × HReq) :=
  let own := (s.hbmReqs.zip (List.range s.hbmReqs.length)).filter (fun x => x.1.k = k)
  match own[n]? with
  | none => none
  | some x =>
    if (own.take n).all (fun y => decide (y.1.pkt.addr.toNat / 256 ≠ x.1.pkt.addr.toNat / 256)) then some (x.2, x.1) else none

/-- A request taken out of the controller and answered. -/
def State.reqDone (s : State) (i : Nat) (r : HReq) (p : Pkt) : State :=
  ({ s with hbmReqs := removeAt s.hbmReqs i }).rimSend r.k r.pos p

/-- A request of a failed stack answered with NACK 5, cause 3 (R207). -/
def State.reqFailed (s : State) (i : Nat) (r : HReq) : State :=
  (s.hbmNack r.k 3 r.pkt.part r.pkt.srckind r.pkt.src r.pkt.addr.toNat).reqDone i r (r.pkt.answer tNACK 5)

/-- An accepted request of a type performed by `f` once its answer has credits; with the stack failed it is refused. -/
def performReq (k n type flits : Nat) (s : State) (f : Nat → HReq → State → State) : Out :=
  if 50 ≤ k then noUnit
  else match s.nextReq k n with
    | none => idle s
    | some (i, r) =>
      if r.pkt.type ≠ type then idle s
      else if s.fld (HBM_STATUS_STATE k) = 3 then
        (if s.rimCredits k r.pos 1 then answerHbm s (s.reqFailed i r) else idle s)
      else if s.fld (HBM_STATUS_STATE k) ≠ 1 ∨ !s.rimCredits k r.pos flits then idle s
      else answerHbm s (f i r s)

/-- HBM_WRITE_ACK (R198): the controller's `n`-th request, a WRITE, is in the stack's write path and its ACK leaves. -/
def execHbmWriteAck (k n : Nat) (s : State) : Out :=
  performReq k n tWRITE 1 s (fun i r s =>
    (if r.done.isSome then s
      else s.hbmWrite k (s.stackAddr k r.pkt.part r.pkt.addr.toNat) r.pkt.bytes r.pkt.data r.pkt.dataPoison).reqDone i r
      (r.pkt.answer tACK 0))

/-- HBM_READ_DATA (R198, R204): the controller's `n`-th request, a READ, is performed and its RDATA leaves. -/
def execHbmReadData (k n : Nat) (s : State) : Out :=
  let flits := match s.nextReq k n with
    | some (_, r) => if r.pkt.size = 1 then 1 else 4
    | none => 4
  performReq k n tREAD flits s (fun i r s =>
    let d := match r.done with
      | some x => (x.1, x.2, s)
      | none => s.hbmRead k (s.stackAddr k r.pkt.part r.pkt.addr.toNat) r.pkt.bytes r.pkt.part
    d.2.2.reqDone i r (r.pkt.rdata d.1 d.2.1))

/-! ## Scrub, temperature, failure (R205 to R207) -/

/-- The partition whose grant on a stack holds an address. -/
def State.grantOwner (s : State) (k a : Nat) : Option Nat :=
  (List.range 16).find? (fun p => decide (s.fld (HBM_GRANTp_GBASE k p) * 0x100000 ≤ a
    ∧ a < s.fld (HBM_GRANTp_GLIMIT k p) * 0x100000))

/-- HBM_SCRUB_PASS (R204, R205): with SCRUB_EN, every word of a ready stack is read once; single-bit errors are
rewritten, uncorrectable ones marked and captured with SCRUB 1. -/
def execHbmScrubPass (k : Nat) (s : State) : Out :=
  if 50 ≤ k then noUnit
  else if s.flag (HBM_CFG_SCRUB_EN k) && decide (s.fld (HBM_STATUS_STATE k) = 1) then
    answerHbm s ((s.hbmErrors k 0 stackLimit).foldl
      (fun s e => s.hbmError k true (s.grantOwner k (4 * e.1 - hbmKey k 0)) 0 e) s)
  else idle s

/-- Band of a stack's temperature, given the band it is in: 0 normal, 1 refresh doubled, 2 half rate, 3 self-refresh;
downward thresholds lie 2 K lower, and self-refresh lasts until below 100 °C (R206). -/
def tempBand (band temp : Nat) : Nat :=
  if 105 ≤ temp ∨ (band = 3 ∧ 100 ≤ temp) then 3
  else if 95 ≤ temp ∨ (2 ≤ band ∧ 93 ≤ temp) then 2
  else if 85 ≤ temp ∨ (1 ≤ band ∧ 83 ≤ temp) then 1
  else 0

/-- The band a controller is in. -/
def State.hbmBand (s : State) (k : Nat) : Nat :=
  if s.fld (HBM_STATUS_STATE k) = 2 then 3
  else if s.flag (HBM_STATUS_HALF k) then 2
  else if s.flag (HBM_STATUS_REF2X k) then 1
  else 0

/-- HBM_TEMP_POLL (R206, R329): the stack's temperature read, in °C. -/
def execHbmTempPoll (k temp : Nat) (s : State) : Out :=
  if 50 ≤ k then noUnit
  else
    let st := s.fld (HBM_STATUS_STATE k)
    if st ≠ 1 ∧ st ≠ 2 then answerHbm s (s.setFld (HBM_STATUS_TEMP k) temp)
    else
      let old := s.hbmBand k
      let new := tempBand old temp
      let s' := s.wr (HBM_STATUS k)
        (packFields [(0, 2, if new = 3 then 2 else 1), (2, 8, temp), (10, 1, if 1 ≤ new then 1 else 0)
          , (11, 1, if new = 2 then 1 else 0)])
      let s' := if new ≠ old ∧ 2 ≤ new then s'.raise (srcHbm k 2) (new - 1) (s'.rd (HBM_STATUS k)) else s'
      answerHbm s (s'.setReady 1 k (s'.stackUsable k))

/-- Records of a failed stack: one for each partition whose set holds it, or one without a partition (R278). -/
def State.stackRecords (s : State) (k cause : Nat) : State :=
  let ps := (List.range 16).filter (fun p => s.partExists p && Nat.testBit (s.fld (HBM_MAPp_SET k p)) k)
  if ps.isEmpty then s.raise (srcHbm k 0) cause 0
  else ps.foldl (fun s p => s.send { s.record (srcHbm k 0) cause 0 with part := some p, domain := 4 }) s

/-- A controller fails (R207): STATE 3, its contents lost, its records sent, not ready; with a host stack the host complex
fails (R413). -/
def State.stackFailed (s : State) (k cause : Nat) : State :=
  let s := s.setFld (HBM_STATUS_STATE k) 3
  let s := { s with
    hbm := Mem.clear s.hbm (hbmKey k 0) (hbmKey (k + 1) 0)
    hbmPoison := NSet.clear s.hbmPoison (hbmKey k 0 / 4) (hbmKey (k + 1) 0 / 4)
    hbmEcc := SMap.clear s.hbmEcc (hbmKey k 0 / 4) (hbmKey (k + 1) 0 / 4) }
  let s := ((s.stackRecords k cause).setReady 1 k false).healthEvent 13
  if 48 ≤ k then ((s.setFld MGMT_HOST_CTRL_STATE 4).setReady 3 3 false).raise (srcDev 6) 1 0 else s

/-- HBM_STACK_FAIL (R207, R210): a working stack has stopped answering for 1 ms. The requests it had accepted are
answered with NACK 5 by HBM_WRITE_ACK and HBM_READ_DATA, later ones by HBM_REQUEST. -/
def execHbmStackFail (k : Nat) (s : State) : Out :=
  if 50 ≤ k then noUnit
  else if s.fld (HBM_STATUS_STATE k) = 1 ∨ s.fld (HBM_STATUS_STATE k) = 2 then answerHbm s (s.stackFailed k 2)
  else idle s

/-! ## Clears and grants (R196, R211) -/

/-- Such an answer to a control-space write (R3, R29, R392). -/
def allowedHbm (a : Agent) (addr : Nat) (s : State) (f : State → State) : Out :=
  if s.mute a addr then idle s
  else if s.mayWrite a .mgmt then answerHbm s (f s) else answerHbm s (s.decodeFault true addr)

/-- Whether two ranges of whole MiB share one. -/
def overlapping (lo hi lo' hi' : Nat) : Bool := decide (max lo lo' < min hi hi')

/-- Whether a range overlaps a grant on a stack of a partition other than `p`. -/
def State.grantOverlap (s : State) (k : Nat) (p : Option Nat) (lo hi : Nat) : Bool :=
  (List.range 16).any (fun q => decide (some q ≠ p)
    && overlapping lo hi (s.fld (HBM_GRANTp_GBASE k q)) (s.fld (HBM_GRANTp_GLIMIT k q)))

/-- A range of whole MiB of a stack zero, with poison clear and fresh check bits. -/
def State.hbmZero (s : State) (k lo hi : Nat) : State :=
  let lo := hbmKey k (lo * 0x100000)
  let hi := hbmKey k (hi * 0x100000)
  { s with
    hbm := Mem.clear s.hbm lo hi, hbmPoison := NSet.clear s.hbmPoison (lo / 4) (hi / 4)
    hbmEcc := SMap.clear s.hbmEcc (lo / 4) (hi / 4) }

/-- HBM_CLEAR_START (R211, R433): START written with BASE and LIMIT: the clear runs, unless LIMIT is beyond the stack or
a grant overlaps the range. The range that START names reads zero from here on, which nobody can see before it ends: no
grant overlaps it (R196, log entry 106). -/
def execHbmClearStart (a : Agent) (k : Nat) (value : W64) (s : State) : Out :=
  if 50 ≤ k then noUnit
  else allowedHbm a (HBM_CLEAR k).addr s (fun s =>
    let lo := bitsOf value.toNat 0 15
    let hi := bitsOf value.toNat 16 15
    if 24576 < hi ∨ s.grantOverlap k none lo hi = true ∨ s.flag (HBM_CLEAR_BUSY k) = true then s.decodeFault true (HBM_CLEAR k).addr
    else (s.hbmZero k lo hi).wr (HBM_CLEAR k) (packFields [(0, 15, lo), (16, 15, hi), (33, 1, 1)]))

/-- HBM_CLEAR_DONE (R211): the clear that START began ends, and BUSY reads 0. -/
def execHbmClearDone (k : Nat) (s : State) : Out :=
  if 50 ≤ k then noUnit
  else if s.flag (HBM_CLEAR_BUSY k) then answerHbm s (s.setFld (HBM_CLEAR_BUSY k) 0)
  else idle s

/-- HBM_GRANT_WRITE (R196, R433): a grant of a partition on a stack, unless LIMIT is beyond the stack or it would overlap
another partition's. -/
def execHbmGrantWrite (a : Agent) (k p : Nat) (value : W64) (s : State) : Out :=
  if 50 ≤ k ∨ 16 ≤ p then noUnit
  else allowedHbm a (HBM_GRANTp k p).addr s (fun s =>
    let lo := bitsOf value.toNat 0 15
    let hi := bitsOf value.toNat 16 15
    if 24576 < hi ∨ s.grantOverlap k (some p) lo hi = true then s.decodeFault true (HBM_GRANTp k p).addr
    else s.wr (HBM_GRANTp k p) (packFields [(0, 15, lo), (16, 15, hi)]))

end Sys2Proof.Machine
end

