-- ==== Sys2Proof/Machine/Link.lean ====
section
/-! DEFINITION. Fabric ports: training and HELLO (R213 to R217), codewords, replay and retraining (R218 to R221),
credits (R223), Ethernet mode (R248, R249), and the writes of FAB_CTRL (R217, R248, R250). -/

namespace Sys2Proof.Machine

/-! ## Changes of STATE (R214 to R216) -/

/-- A port takes a STATE: a change raises a record of port source 0, and FAB_PARTNER.VALID reads 1 while UP. -/
def State.portTo (s : State) (p new : Nat) : State :=
  let old := (s.port p).state
  if old = new then s
  else
    let s := s.modPort p (fun x => { x with state := new, since := s.now, helloAt := s.now })
    (s.setFld (FAB_PARTNER_VALID p) (if new = 3 then 1 else 0)).raise (srcPort p 0) (0x10 + new) old

/-- A port leaves the link: replay buffer, credits and unfinished packets gone, buffered packets no longer counted, and
the packets that wait for it handled by kind (R216). -/
def State.portDown (s : State) (p new : Nat) : State :=
  let s := s.portTo p new
  let s := s.modPort p (fun x => { x with
    echoValid := false, seqNext := 0, replay := [], expected := 0, accepted := false, discarding := false, failed := 0
    marked := 0, pausedTo := [], xoff := false, sent := (0, 0, 0), freed := (0, 0, 0), held := (0, 0, 0), gone := (0, 0, 0), told := (0, 0, 0), partial_ := [] })
  let s := { s with fabric := s.fabric.map (fun (it : FItem) => if it.port = p then { it with units := 0 } else it) }
  s.flushQueue p

/-- The width that a set of good lanes gives a port: width 4, half; nothing below four lanes, and only width 8 in
Ethernet mode (R213, R248). -/
def widthOf (ethernet : Bool) (good : Nat → Bool) : Option (Bool × Bool) :=
  let lower := (List.range 4).all good
  let upper := (List.range 4).all (fun i => good (4 + i))
  if lower && upper then some (false, false)
  else if ethernet then none
  else if lower then some (true, false)
  else if upper then some (true, true)
  else none

/-- An enabled, ready port that is DISABLED or DOWN starts training (R214, R250). -/
def State.portTrain (s : State) (p : Nat) : State :=
  if s.flag (FAB_CTRL_EN p) && s.ready 2 p && (decide ((s.port p).state = 0) || decide ((s.port p).state = 5)) then
    s.portTo p 1
  else s

/-- The readiness bits brought up to date, and the enabled ports that have become ready training (R329, R330). -/
def State.refresh (s : State) : State :=
  let old := s.rd MGMT_READY_PORT
  let s := s.refreshReady
  (List.range 64).foldl (fun (s : State) p => if s.ready 2 p && !Nat.testBit old p then s.portTrain p else s) s

/-- PORT_SIGNAL_DETECT (R213): a TRAINING port that detects signal trains at width 8, or at width 4 on the half whose
lanes are all usable; without four lanes it goes DOWN. -/
def execPortSignalDetect (p : Nat) (s : State) : Out :=
  if 64 ≤ p then noUnit
  else if (s.port p).state ≠ 1 then idle s
  else match widthOf (s.flag (FAB_CTRL_MODE p)) (fun i => s.laneGood (8 * p + i)) with
    | none => answerFab s (s.portDown p 5)
    | some (w, h) => answerFab s (s.modPort p (fun x => { x with width4 := w, half := h }))

/-- TRAINING_COMPLETE (R213, R214): training ends with the lanes of `lanesOk` good: DISCOVERY (or ETHERNET), at the
width they give, or DOWN. -/
def execTrainingComplete (p : Nat) (lanesOk : BitVec 8) (s : State) : Out :=
  if 64 ≤ p then noUnit
  else if (s.port p).state ≠ 1 then idle s
  else
    let eth := s.flag (FAB_CTRL_MODE p)
    match widthOf eth (fun i => lanesOk.getLsbD i && s.laneGood (8 * p + i)) with
    | none => answerFab s (s.portDown p 5)
    | some (w, h) =>
      answerFab s ((s.modPort p (fun x => { x with width4 := w, half := h })).portTo p (if eth then 6 else 2))

/-! ## HELLO (R215) -/

/-- The HELLO a port sends. -/
def State.hello (s : State) (p : Nat) : Unit64B :=
  let x := s.port p
  helloUnit (s.panelId (p / 4)) s.fuses.serial.toNat p x.width4.toNat s.fuses.build.toNat x.echoSerial.toNat x.echoPort
    x.echoValid

/-- Reference counts between the HELLOs of a port: 1 ms in DISCOVERY, 10 ms in UP. -/
def helloInterval (state : Nat) : Nat := if state = 2 then msCounts else 10 * msCounts

/-- HELLO_SEND (R215): the next HELLO of a port in DISCOVERY or UP. -/
def execHelloSend (p : Nat) (s : State) : Out :=
  if 64 ≤ p then noUnit
  else
    let x := s.port p
    if x.state ≠ 2 ∧ x.state ≠ 3 then idle s
    else
      let s' := s.atRef (x.helloAt + helloInterval x.state)
      answerFab s' (s'.modPort p (fun x => { x with helloAt := s'.now }.put [x.idleWord [s.hello p]]))

/-- A received HELLO (R215): it is echoed from then on; in DISCOVERY an echo of this panel's serial and this port brings
the port UP; in UP another partner takes it DOWN. -/
def State.helloIn (s : State) (p : Nat) (u : Unit64B) : State :=
  let x := s.port p
  let f (lo n : Nat) : Nat := bitsOf u.toNat lo n
  let serial : W64 := BitVec.ofNat 64 (f 20 64)
  if unitType u ≠ 8 then s
  else if x.state = 2 then
    let s := s.modPort p (fun x => { x with
      echoSerial := serial, echoPort := f 84 6, echoValid := true, lastHello := s.now })
    if f 169 1 = 1 ∧ f 99 64 = s.fuses.serial.toNat ∧ f 163 6 = p then
      let s := s.modPort p (fun x => { x with partner := (f 4 16, f 84 6, decide (f 90 1 = 1), f 91 8, serial) })
      let s := s.wr (FAB_PARTNER p) (packFields [(0, 16, f 4 16), (16, 6, f 84 6), (22, 1, f 90 1), (23, 8, f 91 8)])
      ((s.wr (FAB_PARTNER_SERIAL p) (f 20 64)).portTo p 3).pump p
    else s
  else if x.state = 3 then
    if x.partner.2.1 = f 84 6 ∧ x.partner.2.2.2.2 = serial then
      s.modPort p (fun x => { x with echoSerial := serial, echoPort := f 84 6, echoValid := true, lastHello := s.now })
    else s.portDown p 5
  else s

/-- HELLO (R215): a HELLO unit arrives at a port. -/
def execHello (p : Nat) (u : Unit64B) (s : State) : Out :=
  if 64 ≤ p then noUnit else answerFab s (s.helloIn p u)

/-- HELLO_TIMEOUT (R215, R216): three intervals of 10 ms without a valid HELLO take an UP port DOWN. -/
def execHelloTimeout (p : Nat) (s : State) : Out :=
  if 64 ≤ p then noUnit
  else if (s.port p).state ≠ 3 then idle s
  else
    let s' := s.atRef ((s.port p).lastHello + 30 * msCounts)
    answerFab s' (s'.portDown p 5)

/-- DOWN_RETRAIN_TIMER (R214): 1 s after it went DOWN a port trains again. -/
def execDownRetrainTimer (p : Nat) (s : State) : Out :=
  if 64 ≤ p then noUnit
  else if (s.port p).state ≠ 5 then idle s
  else
    let s' := s.atRef ((s.port p).since + 1000 * msCounts)
    answerFab s' (s'.portTrain p)

/-! ## Credits (R223) -/

/-- Three 16-bit counts of a unit, from a bit. -/
def freedAt (u : Unit64B) (lo : Nat) : Nat × Nat × Nat :=
  (bitsOf u.toNat lo 16, bitsOf u.toNat (lo + 16) 16, bitsOf u.toNat (lo + 32) 16)

/-- A received CREDIT: the partner's freed counts, and what they let the port send. -/
def State.creditIn (s : State) (p : Nat) (u : Unit64B) : State :=
  if unitType u = 9 ∧ (s.port p).state = 3 then (s.modPort p (fun x => { x with freed := freedAt u 4 })).pump p else s

/-- CREDIT (R223): a CREDIT unit arrives at a port. -/
def execCredit (p : Nat) (u : Unit64B) (s : State) : Out :=
  if 64 ≤ p then noUnit else answerFab s (s.creditIn p u)

/-- CREDIT_SEND (R223): a receiver whose freed counts have changed reports them. -/
def execCreditSend (p : Nat) (s : State) : Out :=
  if 64 ≤ p then noUnit
  else
    let x := s.port p
    if x.state ≠ 3 ∨ x.gone = x.told then idle s
    else answerFab s (s.modPort p (fun x => { x with told := x.gone }.put [x.idleWord [creditUnit x.gone]]))

/-! ## Replay and retraining (R219 to R221) -/

/-- The part of a replay buffer from a SEQ on; all of it is older where the buffer does not hold the SEQ. -/
def replayFrom (seq : Nat) : List (Nat × List Unit64B) → List (Nat × List Unit64B)
  | [] => []
  | e :: l => if e.1 = seq then e :: l else replayFrom seq l

/-- Replay buffer after an acknowledgement of `seq`: every entry up to it freed (R219). -/
def ackReplay (seq : Nat) (l : List (Nat × List Unit64B)) : List (Nat × List Unit64B) :=
  if l.any (fun e => decide (e.1 = seq)) then (replayFrom seq l).drop 1 else l

/-- A received REPLAY: the sender resends from the SEQ named, in order (R220). -/
def State.replayIn (s : State) (p : Nat) (u : Unit64B) : State :=
  if unitType u = 10 ∧ (s.port p).state = 3 then
    s.modPort p (fun x => x.put ((replayFrom (bitsOf u.toNat 4 9) x.replay).map x.dataWord))
  else s

/-- REPLAY (R220): a REPLAY unit arrives at a port. -/
def execReplay (p : Nat) (u : Unit64B) (s : State) : Out :=
  if 64 ≤ p then noUnit else answerFab s (s.replayIn p u)

/-- A received RESYNC: the codewords before the partner's expected SEQ are acknowledged, the rest sent again, and the
credits follow from the freed counts (R221). -/
def State.resyncIn (s : State) (p : Nat) (u : Unit64B) : State :=
  let x := s.port p
  if unitType u = 11 ∧ (x.state = 3 ∨ x.state = 4) then
    let rest := replayFrom (bitsOf u.toNat 4 9) x.replay
    (s.modPort p (fun x => { x with replay := rest, freed := freedAt u 13 }.put (rest.map x.dataWord))).pump p
  else s

/-- RESYNC (R221): a RESYNC unit arrives at a port. -/
def execResync (p : Nat) (u : Unit64B) (s : State) : Out :=
  if 64 ≤ p then noUnit else answerFab s (s.resyncIn p u)

/-- A REPLAY unit sent for the expected SEQ, and counted. -/
def State.sendReplay (s : State) (p : Nat) : State :=
  (s.modPort p (fun x => { x with discarding := true, replayAt := s.now }.put
      [x.idleWord [replayUnit x.expected]])).count
    (fabCounter p (FAB_REPLAY_CNT p)) 1

/-- A failed replay: REPLAY again, or after the eighth for one SEQ RETRAINING (R220). -/
def State.replayFailed (s : State) (p : Nat) : State :=
  let n := (s.port p).failed + 1
  let s := s.modPort p (fun x => { x with failed := n })
  if n < 8 then s.sendReplay p
  else (s.portTo p 4).count (fabCounter p (FAB_RETRAIN_CNT p)) 1

/-- REPLAY_TIMEOUT (R220): 1 µs after a REPLAY the requested codeword has not arrived. -/
def execReplayTimeout (p : Nat) (s : State) : Out :=
  if 64 ≤ p then noUnit
  else
    let x := s.port p
    if x.state ≠ 3 ∨ !x.discarding then idle s
    else
      let s' := s.atRef (x.replayAt + usCounts)
      answerFab s' (s'.replayFailed p)

/-- RETRAIN_TIMEOUT (R221): a retrain that has not finished within 20 ms ends in DOWN. -/
def execRetrainTimeout (p : Nat) (s : State) : Out :=
  if 64 ≤ p then noUnit
  else if (s.port p).state ≠ 4 then idle s
  else
    let s' := s.atRef ((s.port p).since + 20 * msCounts)
    answerFab s' (s'.portDown p 5)

/-- RETRAIN_COMPLETE (R221): the lanes are trained; the port is UP again and sends RESYNC. -/
def execRetrainComplete (p : Nat) (s : State) : Out :=
  if 64 ≤ p then noUnit
  else if (s.port p).state ≠ 4 then idle s
  else
    let s' := s.modPort p (fun x => { x with
      discarding := false, failed := 0, told := x.gone }.put [x.idleWord [resyncUnit x.expected x.gone]])
    answerFab s (s'.portTo p 3)

/-! ## Codewords (R218, R220) -/

/-- A whole packet received: into the receive buffer with the port in RET, or dropped where it uses a reserved
encoding (R227 to R229). -/
def State.packetIn (s : State) (p : Nat) (units : List Unit64B) : State :=
  let q := FPkt.ofUnits units
  if q.reserved (units.headD 0).toNat then
    let vc := vcOf q.type
    (s.modPort p (fun x => { x with gone := vcSet x.gone vc ((vcGet x.gone vc + units.length) % 65536) })).fabDrop p 1 q
  else
    let vc := vcOf q.type
    let s := s.modPort p (fun x => { x with held := vcSet x.held vc (vcGet x.held vc + units.length) })
    { s with fabric := s.fabric ++ [⟨q.received p, p, units.length, false, none⟩] }

/-- A control unit received (R227); an IDLE unit and a reserved type do nothing. -/
def State.ctlIn (s : State) (p : Nat) (u : Unit64B) : State :=
  match unitType u with
  | 8 => s.helloIn p u
  | 9 => s.creditIn p u
  | 10 => s.replayIn p u
  | 11 => s.resyncIn p u
  | _ => s

/-- One unit of an accepted codeword: part of a packet, or a control unit. -/
def State.unitIn (s : State) (p : Nat) (u : Unit64B) : State :=
  let x := s.port p
  let got := x.partial_ ++ [u]
  let type := unitType (got.headD 0)
  if x.partial_ = [] ∧ 7 ≤ type then s.ctlIn p u
  else if got.length < unitsOf type then s.modPort p (fun x => { x with partial_ := got })
  else (s.modPort p (fun x => { x with partial_ := [] })).packetIn p got

/-- A corrected symbol counted on its lane: FAB_LANE_SYMl counts units of 2^20 (R218, R306). -/
def State.symbol (s : State) (p i : Nat) : State :=
  let x := s.port p
  let l := x.laneOf i
  let n := SMap.get 0 x.syms l + 1
  let s := s.modPort p (fun x => { x with syms := SMap.put 0 x.syms l (n % 2 ^ 20) })
  if n = 2 ^ 20 then s.count (fabCounter p (FAB_LANE_SYMl p l)) 1 else s

/-- CODEWORD_RECEIVE (R218 to R220): a codeword with its header, the symbols the decoder corrected and its units. It is
correctable with at most 15 symbol errors. An accepted one is acknowledged in the headers of what the port sends next, at
once in an IDLE codeword. -/
def execCodewordReceive (p : Nat) (header : BitVec 20) (correctable : Bool) (symbols : List Nat)
    (units : List Unit64B) (s : State) : Out :=
  if 64 ≤ p then noUnit
  else
    let x := s.port p
    let h := header.toNat
    let seq := bitsOf h 0 9
    let good := correctable && decide (symbols.length ≤ 15)
    if x.state ≠ 2 ∧ x.state ≠ 3 ∧ x.state ≠ 4 then idle s
    else if good then
      let s' := if symbols.isEmpty then s
        else symbols.foldl (fun s i => s.symbol p i) (s.count (fabCounter p (FAB_CE_CNT p)) 1)
      let s' := if bitsOf h 19 1 = 1 then
          (s'.modPort p (fun x => { x with replay := ackReplay (bitsOf h 10 9) x.replay })).pump p
        else s'
      if bitsOf h 9 1 = 1 then answerFab s (units.foldl (fun s u => s.ctlIn p u) s')
      else if x.state ≠ 3 then answerFab s s'
      else if seq = x.expected then
        let s' := s'.modPort p (fun x =>
          let y := { x with expected := (x.expected + 1) % 512, accepted := true, discarding := false, failed := 0 }
          y.put [y.idleWord []])
        answerFab s (units.foldl (fun s u => s.unitIn p u) s')
      else if x.discarding then answerFab s s'
      else answerFab s (s'.sendReplay p)
    else
      let s' := s.count (fabCounter p (FAB_UE_CNT p)) 1
      if x.state ≠ 3 then answerFab s s'
      else if !x.discarding then answerFab s (s'.sendReplay p)
      else if bitsOf h 9 1 = 0 ∧ seq = x.expected then answerFab s (s'.replayFailed p)
      else answerFab s s'

/-! ## Ethernet mode (R248, R249) -/

/-- The answer of an Ethernet transfer. -/
def answerEth (s t : State) : Out :=
  .next { s with
    csr := t.csr, faults := t.faults, ports := t.ports, hbm := t.hbm, hbmPoison := t.hbmPoison, hbmEcc := t.hbmEcc
    bridge := t.bridge }

/-- Whether a range is host memory (R409). -/
def inHostMem (a len : Nat) : Bool := decide (a + len ≤ 0xBE0000000)
/-- Controller and stack address of a host-memory address (R409). -/
def hostStack (a : Nat) : Nat × Nat := (48 + a / 4096 % 2, a / 8192 * 4096 + a % 4096)
/-- Memory key of a host-memory byte. -/
def hostKey (a : Nat) : Nat := hbmKey (hostStack a).1 (hostStack a).2

/-- Bytes written to host memory, each with its word's poison and check bits made good. -/
def State.hostWrite (s : State) (a : Nat) : List Byte → State
  | [] => s
  | b :: l =>
    let k := hostKey a
    ({ s with hbm := s.hbm.setByte k b, hbmPoison := s.hbmPoison.del (k / 4), hbmEcc := s.hbmEcc.erase (k / 4) }).hostWrite
      (a + 1) l
/-- A 64-bit word of host memory, at a multiple of 8. -/
def State.hostWord (s : State) (a : Nat) : Nat := Mem.read s.hbm (hostKey a) 8
/-- A 64-bit word written to host memory. -/
def State.hostSetWord (s : State) (a v : Nat) : State := s.hostWrite a ((natToBytes v 0 8).map (BitVec.ofNat 8))
/-- Bytes of host memory. -/
def State.hostRead (s : State) (a n : Nat) : List Byte := (List.range n).map (fun i => s.hbm.byte (hostKey (a + i)))

/-- Whether a word of a host stack, by its key, lies in a range of host memory. -/
def hostHolds (a n key : Nat) : Bool :=
  let b := 4 * key - hbmKey 48 0
  let k := b / 2 ^ 35
  let addr := (b % 2 ^ 35 / 4096 * 2 + k) * 4096 + b % 4096
  decide (hbmKey 48 0 ≤ 4 * key) && decide (a < addr + 4) && decide (addr < a + n)

/-- What a read of a range of host memory finds: its words with errors corrected, or counted, captured and poisoned (R204,
R210). -/
def State.hostSeen (s : State) (a n : Nat) : State :=
  (s.hbmEcc.filter (fun e => hostHolds a n e.1)).foldl (fun (s : State) e =>
    s.hbmError (4 * e.1 / 2 ^ 35) false none 0 e) s

/-- Whether a range of host memory can be read: both host stacks serve requests, and no word of it is poisoned (R207,
R210, log entry 105). -/
def State.hostReads (s : State) (a n : Nat) : Bool :=
  decide (s.fld (HBM_STATUS_STATE 48) = 1) && decide (s.fld (HBM_STATUS_STATE 49) = 1)
    && !s.hbmPoison.any (fun k => hostHolds a n k)

/-- Entries of a port's rings. -/
def State.ringSize (s : State) (p : Nat) : Nat := 2 ^ (s.fld (FAB_ETH_CFG_RINGSZ p) + 6)
/-- Index of a port among the ports of DESC_ETH_CAP (R412). -/
def State.ethIndex (s : State) (p : Nat) : Nat := ((List.range p).filter (fun q => s.fuses.ethernet.getLsbD q)).length

/-- Whether a port can reach host memory: Ethernet mode, ETHERNET state, a legal ring size, host stacks that serve requests,
and a trail in entry 624 of its die that leads to the host bridge over working routers (R207, R249). -/
def State.ethReady (s : State) (p : Nat) : Bool :=
  decide ((s.port p).state = 6) && decide (s.fld (FAB_ETH_CFG_RINGSZ p) ≤ 6)
    && decide (s.fld (HBM_STATUS_STATE 48) = 1) && decide (s.fld (HBM_STATUS_STATE 49) = 1)
    && (match s.diePos (p / 4), s.dieTrail (p / 4) 624 with
      | some pos, some nibs => decide (walk s.routerUp pos nibs = some .host)
      | _, _ => false)

/-- One bit, and one byte, of the CRC-32 of an Ethernet FCS. -/
def fcsBit (c : Nat) : Nat := if c % 2 = 1 then c / 2 ^^^ 0xEDB88320 else c / 2
/-- One byte of it. -/
def fcsByte (c : Nat) (b : Byte) : Nat := fcsBit (fcsBit (fcsBit (fcsBit (fcsBit (fcsBit (fcsBit (fcsBit (c ^^^ b.toNat))))))))
/-- The FCS of a frame, as it follows the frame. -/
def fcsOf (l : List Byte) : List Byte :=
  (natToBytes (l.foldl fcsByte 0xFFFFFFFF ^^^ 0xFFFFFFFF) 0 4).map (BitVec.ofNat 8)

/-- Two bytes of a frame, the first most significant. -/
def frameWord (l : List Byte) (i : Nat) : Nat := (l.getD i 0).toNat * 256 + (l.getD (i + 1) 0).toNat
/-- Whether a received frame is whole: 64 to 9,216 B with its FCS, and that right (R248). -/
def frameGood (l : List Byte) : Bool :=
  decide (64 ≤ l.length) && decide (l.length ≤ 9216) && decide (fcsOf (l.take (l.length - 4)) = l.drop (l.length - 4))
/-- Opcode of a MAC control frame: 1 PAUSE, 0x101 priority flow control. -/
def controlOp (l : List Byte) : Option Nat := if frameWord l 12 = 0x8808 then some (frameWord l 14) else none
/-- Priority of a frame: that of its VLAN tag, 0 when untagged (R249). -/
def framePrio (l : List Byte) : Nat := if frameWord l 12 = 0x8100 then bitsOf (frameWord l 14) 13 3 else 0

/-- Reference counts of a pause: quanta of 512 bit times at 800 Gbit/s (log entry 74). -/
def pauseCounts (quanta : Nat) : Nat := (quanta * 512 * usCounts + 799999) / 800000
/-- What a received frame of priority flow control pauses, and ends the pause of, among the priorities of PFC_EN. -/
def pausesOf (en now : Nat) (l : List Byte) (old : SMap Nat) : SMap Nat :=
  (List.range 8).foldl (fun m i =>
    if Nat.testBit en i && Nat.testBit (frameWord l 16) i then
      SMap.put 0 m i (if frameWord l (18 + 2 * i) = 0 then 0 else now + pauseCounts (frameWord l (18 + 2 * i)))
    else m) old
/-- A frame of priority flow control that a port sends: every priority of PFC_EN with the given quanta. -/
def pauseFrame (mac en quanta : Nat) : List Byte :=
  let b (l : List Nat) : List Byte := l.map (BitVec.ofNat 8)
  let head := b [0x01, 0x80, 0xC2, 0, 0, 1] ++ b (natToBytes mac 0 6).reverse ++ b [0x88, 0x08, 1, 1, 0, en]
    ++ (List.range 8).flatMap (fun i => if Nat.testBit en i then b [quanta / 256, quanta % 256] else b [0, 0])
    ++ List.replicate 26 0
  head ++ fcsOf head

/-- The pause a port owes its partner: sent while its receive ring has no entry left, and ended once it has (R248, log entry
74). -/
def State.sendPause (s : State) (p : Nat) : State :=
  let en := s.fld (FAB_ETH_CFG_PFC_EN p)
  let full := decide (s.fld (FAB_ETH_PTR_RX_HEAD p) = s.fld (FAB_ETH_PTR_RX_TAIL p))
  if (s.port p).state = 6 ∧ en ≠ 0 ∧ (s.port p).xoff ≠ full then
    s.modPort p (fun x => { x with
      xoff := full, frame := pauseFrame (s.fld (FAB_ETH_CFG_MAC p)) en (if full then 0xFFFF else 0) })
  else s

/-- A frame dropped at a port, counted in FAB_ETH_RXDROP_CNT. -/
def State.ethDrop (s : State) (p : Nat) : State := s.count (fabCounter p (FAB_ETH_RXDROP_CNT p)) 1

/-- ETH_FRAME_RECEIVE (R248, R249): a received frame (its two addresses, its type behind any VLAN tag, its payload and its
FCS) goes into the buffer of the entry at
RX_HEAD; a frame with a bad FCS or length, a PAUSE frame, and a frame without an entry are counted and discarded; one of
priority flow control pauses its priorities. -/
def execEthFrameReceive (p : Nat) (addresses type payload fcs : List Byte) (s : State) : Out :=
  let bytes := addresses ++ type ++ payload ++ fcs
  if 64 ≤ p then noUnit
  else if (s.port p).state ≠ 6 then idle s
  else if !frameGood bytes || decide (controlOp bytes = some 1) then answerEth s (s.ethDrop p)
  else if controlOp bytes = some 0x101 then
    answerEth s (s.modPort p (fun x => { x with
      pausedTo := pausesOf (s.fld (FAB_ETH_CFG_PFC_EN p)) s.now bytes x.pausedTo }))
  else
    let head := s.fld (FAB_ETH_PTR_RX_HEAD p)
    let entry := 4096 * (s.fld (FAB_ETH_RXRING_BASE p) / 4096) + 16 * (head % s.ringSize p)
    let buf := bitsOf (s.hostWord entry) 0 48
    if !s.ethReady p || decide (head = s.fld (FAB_ETH_PTR_RX_TAIL p)) || !inHostMem entry 16 || !s.hostReads entry 16
        || !inHostMem buf 9216 then
      answerEth s (s.ethDrop p)
    else
      let s' := (s.hostSeen entry 16).hostWrite buf bytes
      let s' := s'.hostSetWord entry (buf + bytes.length * 2 ^ 48)
      let s' := s'.hostSetWord (entry + 8) (framePrio bytes + 2 ^ 63)
      let s' := s'.setFld (FAB_ETH_PTR_RX_HEAD p) ((head + 1) % s.ringSize p)
      answerEth s ((s'.sendPause p).irq (65 + 2 * s.ethIndex p))

/-- ETH_FRAME_TRANSMIT (R248, R249): the frame of the entry at TX_HEAD is sent with its FCS, at the end of any pause of its
priority, and DONE written. An entry whose frame is outside 64 to 9,216 B with FCS is passed over (log entry 74); a frame read
with poison goes out with a wrong FCS (log entry 105). -/
def execEthFrameTransmit (p : Nat) (s : State) : Out :=
  if 64 ≤ p then noUnit
  else
    let head := s.fld (FAB_ETH_PTR_TX_HEAD p)
    let entry := 4096 * (s.fld (FAB_ETH_TXRING_BASE p) / 4096) + 16 * (head % s.ringSize p)
    let w0 := s.hostWord entry
    let at_ := bitsOf w0 0 48
    let len := bitsOf w0 48 14
    if !s.ethReady p || decide (head = s.fld (FAB_ETH_PTR_TX_TAIL p)) || !inHostMem entry 16 || !inHostMem at_ len then idle s
    else
      let s0 := s.atRef (SMap.get 0 (s.port p).pausedTo (bitsOf (s.hostWord (entry + 8)) 0 3))
      let bytes := s0.hostRead at_ len
      let fcs := if s0.hostReads entry 16 && s0.hostReads at_ len then fcsOf bytes else (fcsOf bytes).map (~~~ ·)
      let s' := (s0.hostSeen entry 16).hostSeen at_ len
      let s' := if 60 ≤ len ∧ len ≤ 9212 then s'.modPort p (fun x => { x with frame := bytes ++ fcs }) else s'
      let s' := s'.hostSetWord (entry + 8) (setBitsOf (s.hostWord (entry + 8)) 63 1 1)
      let s' := s'.setFld (FAB_ETH_PTR_TX_HEAD p) ((head + 1) % s.ringSize p)
      answerEth s0 (s'.irq (64 + 2 * s.ethIndex p))

/-! ## Writes of a port block (R217, R248 to R250) -/

/-- The answer of a write to a port block by an agent. -/
def allowedFab (a : Agent) (addr : Nat) (s : State) (f : State → State) : Out :=
  if s.mute a addr then idle s
  else answerFab s (if s.mayWrite a .mgmt then f s else s.decodeFault true addr)

/-- ETH_RING_TAIL_WRITE (R249): FAB_ETH_PTR.TX_TAIL and RX_TAIL take the values written; a pause sent for want of receive
entries ends. -/
def execEthRingTailWrite (a : Agent) (p : Nat) (value : W64) (s : State) : Out :=
  if 64 ≤ p then noUnit
  else allowedFab a (FAB_ETH_PTR p).addr s (fun s =>
    ((s.setFld (FAB_ETH_PTR_TX_TAIL p) (bitsOf value.toNat 0 12)).setFld (FAB_ETH_PTR_RX_TAIL p)
      (bitsOf value.toNat 32 12)).sendPause p)

/-- PORT_ENABLE (R250): EN 1; a ready port trains. -/
def execPortEnable (a : Agent) (p : Nat) (s : State) : Out :=
  if 64 ≤ p then noUnit
  else allowedFab a (FAB_CTRL p).addr s (fun s => (s.setFld (FAB_CTRL_EN p) 1).portTrain p)

/-- PORT_DISABLE (R216, R250): EN 0 takes the port to DISABLED. -/
def execPortDisable (a : Agent) (p : Nat) (s : State) : Out :=
  if 64 ≤ p then noUnit
  else allowedFab a (FAB_CTRL p).addr s (fun s => (s.setFld (FAB_CTRL_EN p) 0).portDown p 0)

/-- PORT_MODE_SELECT (R248, R250): MODE, while EN is 0 and, for Ethernet, where DESC_ETH_CAP allows; else a decode
fault. -/
def execPortModeSelect (a : Agent) (p : Nat) (ethernet : Bool) (s : State) : Out :=
  if 64 ≤ p then noUnit
  else allowedFab a (FAB_CTRL p).addr s (fun s =>
    if s.flag (FAB_CTRL_EN p) || (ethernet && !s.fuses.ethernet.getLsbD p) then s.decodeFault true (FAB_CTRL p).addr
    else s.setFld (FAB_CTRL_MODE p) ethernet.toNat)

/-- PORT_FENCE (R217): a fenced port keeps its link and behaves as DOWN for egress; unfenced, it sends again. -/
def execPortFence (a : Agent) (p : Nat) (fence : Bool) (s : State) : Out :=
  if 64 ≤ p then noUnit
  else allowedFab a (FAB_CTRL p).addr s (fun s =>
    let s := s.setFld (FAB_CTRL_FENCE p) fence.toNat
    if fence then s.flushQueue p else s.pump p)

end Sys2Proof.Machine
end

