-- ==== Sys2Proof/Machine/Image.lean ====
section
/-! DEFINITION. The manifest of an image (R251 to R258): reading it, the checks of LOAD (R271), and coverage (R273). -/

namespace Sys2Proof.Machine

/-! ## Reading a manifest from host memory (R252, R253) -/

/-- `n` bytes of host memory as a number. -/
def State.hostNat (s : State) (a n : Nat) : Nat := packDigits 8 (fun i => (s.hbm.byte (hostKey (a + i))).toNat) n

/-- An entry of the section table, with its place in it. -/
structure Section where
  at_ : Nat
  type : Nat
  zero : Nat
  count : Nat
  off : Nat
  deriving DecidableEq, Repr

/-- Bytes of a record of a section type. -/
def recordSize (type : Nat) : Nat :=
  match type with
  | 1 => 48
  | 2 => 32
  | 3 => 384
  | 4 => 32
  | 5 => 8
  | 6 => 40
  | 7 => 16
  | _ => 40

/-- The section table of a manifest at host address `a`. -/
def State.sections (s : State) (a : Nat) : List Section :=
  (List.range (min (s.hostNat (a + 0x20) 4) 8)).map (fun i =>
    let b := a + 0x80 + 16 * i
    ⟨i, s.hostNat b 2, s.hostNat (b + 2) 2, s.hostNat (b + 4) 4, s.hostNat (b + 8) 8⟩)

/-- The section of a type. -/
def sectionOf (l : List Section) (type : Nat) : Option Section := l.find? (fun x => x.type = type)

/-- The records of a section type, each as its 64-bit words. -/
def State.records (s : State) (a : Nat) (l : List Section) (type : Nat) : List (List W64) :=
  match sectionOf l type with
  | none => []
  | some x => (List.range x.count).map (fun r => (List.range (recordSize type / 8)).map (fun w =>
      BitVec.ofNat 64 (s.hostNat (a + x.off + recordSize type * r + 8 * w) 8)))

/-- The manifest at host address `a`, stored at `start` of the management store. -/
def State.manifest (s : State) (a start : Nat) : Manifest :=
  let l := s.sections a
  { start := start, len := s.hostNat (a + 0x18) 8, lgrvs := s.hostNat (a + 8) 8
    features := BitVec.ofNat 64 (s.hostNat (a + 0x10) 8), duty := s.hostNat (a + 0x24) 4, kernel := s.hostNat (a + 0x28) 2
    kbase := s.hostNat (a + 0x2A) 2, tsoff := s.hostNat (a + 0x2C) 4, shadow := s.hostNat (a + 0x30) 1
    floor := s.hostNat (a + 0x31) 1, layout := s.records a l 1, core := s.records a l 2, tile := s.records a l 3
    seg := s.records a l 4, sync := s.records a l 5, table := s.records a l 6, detourIndex := s.records a l 7
    detourOvr := s.records a l 8 }

/-- Bits set in the low `n` bits of a number. -/
def popcount (n v : Nat) : Nat := ((List.range n).filter (Nat.testBit v)).length

/-- Check 1 (R252, R253): header and section table. -/
def State.headerOk (s : State) (a : Nat) : Bool :=
  let f (off n : Nat) : Nat := s.hostNat (a + off) n
  let len := f 0x18 8
  let n := f 0x20 4
  let l := s.sections a
  decide (f 0 4 = 0x49395041) && decide (f 4 2 = 1) && decide (len % 8 = 0) && decide (len ≤ 2 ^ 26) && decide (1 ≤ n) && decide (n ≤ 8) && decide (0x80 + 16 * n ≤ len)
    && inHostMem a len
    && l.all (fun x => decide (1 ≤ x.type) && decide (x.type ≤ 8)
      && decide (x.off + x.count * recordSize x.type ≤ len)
      && l.all (fun y => decide (x.at_ = y.at_) || (decide (x.type ≠ y.type)
        && (decide (x.count = 0) || decide (y.count = 0) || decide (x.off + x.count * recordSize x.type ≤ y.off)
          || decide (y.off + y.count * recordSize y.type ≤ x.off)))))

/-- Reserved bits of the header and the section table, of check 6 (R252, R253). -/
def State.headerZero (s : State) (a : Nat) : Bool :=
  let f (off n : Nat) : Nat := s.hostNat (a + off) n
  decide (f 6 2 = 0) && decide (f 8 8 < 2 ^ 36) && decide (f 0x2A 2 < 2 ^ 11) && decide (f 0x30 1 ≤ 2) && decide (f 0x32 14 = 0)
    && decide (f 0x70 16 = 0) && (s.sections a).all (fun x => decide (x.zero = 0))

/-- Whether no two of a list are equal. -/
def allDistinct : List Nat → Bool
  | [] => true
  | a :: l => !l.contains a && allDistinct l

/-- Record counts of a whole image: one LAYOUT record per logical grove, one TILE record per logical tile, one CORE record
per core (R253). -/
def Manifest.countsOk (i : Manifest) : Bool :=
  let low (w : List W64) (n : Nat) : Nat := bitsOf (w.headD 0).toNat 0 n
  decide (i.layout.length = popcount 36 i.lgrvs) && decide (i.tile.length = 14 * popcount 36 i.lgrvs)
    && allDistinct (i.layout.map (low · 8)) && allDistinct (i.tile.map (low · 9)) && allDistinct (i.core.map (low · 12))

/-- Check 2: DIGEST over the manifest with its field read as zero, the digest's first byte most significant. -/
def State.digestOk (s : State) (a : Nat) : Bool :=
  let len := s.hostNat (a + 0x18) 8
  let bytes := (List.range len).map (fun i => if 0x40 ≤ i ∧ i < 0x70 then (0 : Byte) else s.hbm.byte (hostKey (a + i)))
  let field := (s.hostRead (a + 0x40) 48).foldl (fun (d : BitVec 384) b => (d <<< 8) ||| b.setWidth 384) 0
  decide (sha384 bytes = field)

/-! ## Checks 3 to 7 (R256, R254, R195) -/

/-- Word `i` of a record. -/
def recWordOf (w : List W64) (i : Nat) : Nat := (w.getD i 0).toNat
/-- Byte `i` of a record. -/
def recByteOf (w : List W64) (i : Nat) : Nat := bitsOf (recWordOf w (i / 8)) (8 * (i % 8)) 8

/-- Check 3: LGRVS names exactly the partition's logical groves. -/
def State.lgrvsOk (s : State) (p : Nat) (i : Manifest) : Bool :=
  (List.range 36).all (fun n => decide (Nat.testBit i.lgrvs n = (s.partLogical p).contains n))

/-- A status byte as R256 compares it. -/
def statusClass (v : Nat) : Nat := if v = 3 ∨ v = 4 then 0 else v

/-- Check 4 of one LAYOUT record (R256). -/
def State.layoutOk (s : State) (p : Nat) (w : List W64) : Bool :=
  let n := recByteOf w 0
  match s.logicalGroves[n]? with
  | none => false
  | some g =>
    decide (recByteOf w 1 = g) && (s.partGroves p).contains g && (List.range 16).all (fun t =>
      let pos := posOfGrove g t
      decide (statusClass (recByteOf w (16 + t)) = statusClass (s.status pos))
        && (match s.logical pos with
          | some l => decide (recByteOf w (32 + t) ≠ 0xFF) && decide (l = 14 * n + recByteOf w (32 + t))
          | none => decide (recByteOf w (32 + t) = 0xFF)))

/-- Reserved bytes of a LAYOUT record, of check 6. -/
def layoutZero (w : List W64) : Bool := (List.range 14).all (fun i => decide (recByteOf w (2 + i) = 0))

/-- Whether a logical ID belongs to a partition. -/
def State.ownsLogical (s : State) (p l : Nat) : Bool := decide (l < 504) && (s.partLogical p).contains (l / 14)
/-- Whether a position lies in a grove of a partition. -/
def State.ownsPos (s : State) (p pos : Nat) : Bool := decide (pos < 576) && (s.partGroves p).contains (groveOf pos)
/-- Whether a sync object belongs to a partition (R137). -/
def State.ownsObj (s : State) (p o : Nat) : Bool :=
  if o / 256 < 504 then s.ownsLogical p (o / 256) else decide ((o - 129024) / 128 = p)

/-- A multiple of 256 in the low 41 bits. -/
def hbmOffOk (v : Nat) : Bool := decide (v < 2 ^ 41) && decide (v % 256 = 0)

/-- A CORE record (R254). -/
def State.coreOk (s : State) (p : Nat) (w : List W64) : Bool :=
  let b := recWordOf w 2
  decide (recWordOf w 0 < 2 ^ 12) && s.ownsLogical p (bitsOf (recWordOf w 0) 0 9) && hbmOffOk (recWordOf w 1)
    && decide (8 ≤ bitsOf b 0 12) && decide (bitsOf b 0 12 ≤ 2048) && decide (bitsOf b 0 12 % 8 = 0)
    && decide (bitsOf b 12 4 = 0) && decide (bitsOf b 27 5 = 0) && decide (bitsOf b 43 20 = 0)

/-- A TILE record (R254, R118, R121). -/
def State.tileOk (s : State) (p : Nat) (w : List W64) : Bool :=
  let l := recWordOf w 0
  s.ownsLogical p l && decide (recWordOf w 2 < 2 ^ 32)
    && (List.range 4).all (fun d =>
      let r := recWordOf w (3 + d)
      decide (r < 2 ^ 16) && decide (bitsOf r 9 6 = 0)
        && (!Nat.testBit r 15 || (s.ownsLogical p (bitsOf r 0 9)
          && decide (((s.posOf l).bind (stepPos · d)) = s.posOf (bitsOf r 0 9) ∧ (s.posOf l).isSome))))
    && hbmOffOk (recWordOf w 7) && hbmOffOk (recWordOf w 8) && (List.range 7).all (fun i => decide (recWordOf w (9 + i) = 0))
    && (List.range 16).all (fun n =>
      let lo := recWordOf w (16 + 2 * n)
      let hi := recWordOf w (17 + 2 * n)
      if Nat.testBit hi 63 then winValid lo (setBitsOf hi 63 1 0)
      else decide (bitsOf lo 27 5 = 0) && decide (bitsOf lo 59 5 = 0) && decide (bitsOf hi 9 7 = 0)
        && decide (bitsOf hi 25 7 = 0) && decide (bitsOf hi 36 28 = 0))

/-- Whether scratchpad region `r` is resident under the words of a TILE record. -/
def residentIn (w : List W64) (r : Nat) : Bool := Nat.testBit (recWordOf w (1 + r / 64)) (r % 64)
/-- The TILE record of a logical ID. -/
def Manifest.tileOf (i : Manifest) (l : Nat) : List W64 := (i.tile.find? (fun w => recWordOf w 0 = l)).getD []

/-- A SEG record: multiples of 256, in non-resident regions below 0x0600_0000 (R254). -/
def State.segOk (s : State) (p : Nat) (i : Manifest) (w : List W64) : Bool :=
  let l := recWordOf w 0
  let off := recWordOf w 1
  let len := recWordOf w 3
  s.ownsLogical p l && decide (off % 256 = 0) && hbmOffOk (recWordOf w 2) && decide (len % 256 = 0)
    && decide (off + len ≤ spadLimit)
    && (List.range 96).all (fun r => !(residentIn (i.tileOf l) r) || decide (off + len ≤ r * 0x100000) || decide ((r + 1) * 0x100000 ≤ off)
      || decide (len = 0))

/-- A SYNC record. -/
def State.syncOk (s : State) (p : Nat) (w : List W64) : Bool :=
  decide (bitsOf (recWordOf w 0) 17 15 = 0) && s.ownsObj p (bitsOf (recWordOf w 0) 0 17)

/-- A TABLE or DETOUR_OVR record (R254, R255): its TARGET and INDEX, its reserved bits, a reduction format the panel has
(R312), an ingress entry that exists, a route record that a port has. -/
def State.tableOk (s : State) (p : Nat) (detour : Bool) (w : List W64) : Bool :=
  let w0 := recWordOf w 0
  let t := recTarget w
  let i := recIndex w
  let e (j : Nat) : Nat := recWordOf w (1 + j)
  decide (bitsOf w0 4 12 = 0) && decide (bitsOf w0 26 6 = 0) && decide (bitsOf w0 48 16 = 0)
    && (match recKind w with
      | 0 => s.ownsPos p t && decide (i < 640) && decide (e 3 < 2 ^ 7) && decide (bitsOf (e 3) 0 6 ≤ 48)
      | 1 => s.ownsPos p t && decide (i < 1024) && decide (e 3 < 2 ^ 18) && decide (bitsOf (e 3) 0 6 ≤ 48)
        && (decide (bitsOf (e 3) 14 4 = 0) || (decide (bitsOf (e 3) 14 4 = 1) && s.features.getLsbD 4))
      | 2 => decide (t < 16) && s.ownsLogical p i && decide (e 3 < 2 ^ 7) && decide (bitsOf (e 3) 0 6 ≤ 48)
      | 3 => detour && decide (t < 16) && decide (i < 64) && decide (e 3 < 2 ^ 6) && decide (e 3 ≤ 48)
        && s.ingressEntry t (s.dieEpoch t p) i p
      | 4 => decide (t = 0) && decide (i < 1024) && decide (e 2 = 0) && decide (e 3 = 0) && decide (bitsOf (e 0) 2 6 = 0)
        && decide (bitsOf (e 0) 14 2 = 0) && decide (bitsOf (e 0) 22 26 = 0) && decide (bitsOf (e 0) 16 6 < 48)
      | _ => false)

/-- A DETOUR_INDEX record. -/
def State.indexOk (s : State) (p : Nat) (i : Manifest) (w : List W64) : Bool :=
  let w0 := recWordOf w 0
  let spare := bitsOf w0 16 10
  decide (bitsOf w0 0 10 < 576) && decide (bitsOf w0 10 6 = 0) && decide (bitsOf w0 26 38 = 0)
    && (decide (spare = 0x3FF) || s.ownsPos p spare)
    && decide (bitsOf (recWordOf w 1) 0 32 + bitsOf (recWordOf w 1) 32 32 ≤ i.detourOvr.length)

/-- Whether a range of HBM offsets maps under the partition's interleave into its grant on every stack (R195, R196). -/
def State.inGrant (s : State) (p off len : Nat) : Bool :=
  let set := s.fld (MGMT_PARTp_HBMSET_SET p)
  let n := popcount 48 set
  let g := granule (s.fld (MGMT_PARTp_CFG_GRAN p))
  let q0 := off / g
  let last := off + len - 1
  let q1 := last / g
  let lo := if q0 < q1 then min (q0 / n * g + off % g) ((q0 + 1) / n * g) else q0 / n * g + off % g
  let top := q1 / n * g + last % g + 1
  let hi := if q0 < q1 then max top ((q1 - 1) / n * g + g) else top
  decide (len = 0) || (decide (0 < n) && decide (s.fld (MGMT_PARTp_GRANT_GBASE p) * 2 ^ 20 ≤ lo)
    && decide (hi ≤ s.fld (MGMT_PARTp_GRANT_GLIMIT p) * 2 ^ 20) && decide (hi ≤ stackLimit))

/-- Regions resident under a TILE record. -/
def residentCount (w : List W64) : Nat := ((List.range 96).filter (residentIn w)).length

/-! ## Check 8: trails (R271, R273) -/

/-- Whether a table record's trail, if VALID, ends where it must. -/
def State.recordWalks (s : State) (p : Nat) (up : Nat → Bool) (home : Nat → Option Nat) (w : List W64) : Bool :=
  let e := recEntry w
  let nibs := (List.range (bitsOf e 192 6)).map (fun i => bitsOf e (4 * i) 4)
  let inside (r : Option TrailEnd) : Bool := match r with
    | some (.tile q) => s.ownsPos p q
    | _ => false
  match recKind w with
  | 0 => !Nat.testBit e 198 || (up (recTarget w) && trailOk up home (recTarget w) (recIndex w) nibs)
  | 1 => !Nat.testBit e 198 || (up (recTarget w) && inside (walk up (recTarget w) nibs))
  | 2 => !Nat.testBit e 198 || (match (lrimPos (recTarget w)).find? up with
    | some pos => trailOk up home pos (recIndex w) nibs
    | none => false)
  | 3 => match (lrimPos (recTarget w)).find? up with
    | some pos => inside (walk up pos nibs)
    | none => false
  | _ => true

/-- A table range as records of a kind: the VALID entries of it. -/
def State.tableRecords (s : State) (kind target base n : Nat) : List (List W64) :=
  (List.range n).filterMap (fun i =>
    let e := (List.range 4).map (fun j => BitVec.ofNat 64 (s.rd ⟨base + 32 * i + 8 * j, 0⟩))
    if Nat.testBit (e.getD 3 0).toNat 6 then
      some (BitVec.ofNat 64 (packFields [(0, 4, kind), (16, 10, target), (32, 16, i)]) :: e)
    else none)

/-- The current entries of a partition (R274): trail and reduction tables of its routers, die trails to its logical IDs,
and ingress trails of its collective entries, in the versions in use. -/
def State.currentRecords (s : State) (p : Nat) : List (List W64) :=
  (s.partPositions p).flatMap (fun pos =>
    s.tableRecords 0 pos (srtBase pos (s.epoch pos)) 640 ++ s.tableRecords 1 pos (redBase pos (s.epoch pos)) 1024)
  ++ (List.range 16).flatMap (fun m =>
    (s.tableRecords 2 m (FAB_DIE_SRT_NIB0 m 0).addr 512).filter (fun w => s.ownsLogical p (recIndex w))
    ++ (List.range 64).filterMap (fun c =>
      let w0 := s.collWord m (s.dieEpoch m p) c 0
      if bitsOf w0 0 2 = 3 ∧ bitsOf w0 4 4 = p then
        some (BitVec.ofNat 64 (packFields [(0, 4, 3), (16, 10, m), (32, 16, c)])
          :: (List.range 4).map (fun j => BitVec.ofNat 64 (s.collWord m (s.dieEpoch m p) c (3 + j))))
      else none))

/-- Entries with a set's records over them (R272). -/
def overlay (cur set : List (List W64)) : List (List W64) :=
  cur.filter (fun w => !(set.any (fun v => decide (v.headD 0 = w.headD 0)))) ++ set

/-- Whether a table record belongs to a router that works; a lost router's own tables are not walked. -/
def recordLives (up : Nat → Bool) (w : List W64) : Bool := decide (2 ≤ recKind w) || up (recTarget w)

/-- Whether every trail of a partition walks over the routers that work now (R296). -/
def State.trailsWalk (s : State) (p : Nat) : Bool :=
  ((s.currentRecords p).filter (recordLives s.routerUp)).all (s.recordWalks p s.routerUp s.posOf)

/-! ## Coverage (R257, R273) -/

/-- Whether a position's grove runtime firmware runs (R327). -/
def State.firmwareRuns (s : State) (pos : Nat) : Bool := (SMap.get (⟨[], false, 0⟩ : FwStore) s.boot.fw pos).running

/-- The sapling that takes over in a grove: its lowest local index (R257), of those whose firmware runs (R15, R327). -/
def State.saplingOf (s : State) (g : Nat) : Option Nat :=
  ((List.range 16).map (posOfGrove g)).find? (fun pos => decide (s.status pos = 2) && s.firmwareRuns pos)

/-- The DETOUR_INDEX record for a lost position. -/
def Manifest.setOf (i : Manifest) (x : Nat) : Option (List W64) := i.detourIndex.find? (fun w => bitsOf (recWordOf w 0) 0 10 = x)
/-- SPARE of a DETOUR_INDEX record. -/
def setSpare (w : List W64) : Nat := bitsOf (recWordOf w 0) 16 10
/-- The DETOUR_OVR records of a set. -/
def Manifest.setRecords (i : Manifest) (w : List W64) : List (List W64) :=
  (i.detourOvr.drop (bitsOf (recWordOf w 1) 0 32)).take (bitsOf (recWordOf w 1) 32 32)

/-- Whether position `x` is covered for a partition (R273): `cur` its current entries. -/
def State.covered (s : State) (p : Nat) (i : Manifest) (cur : List (List W64)) (x : Nat) : Bool :=
  let set := i.setOf x
  let own := decide (s.status x = 1) && s.ownsPos p x
  let up (q : Nat) : Bool := decide (q ≠ x) && s.routerUp q
  let spare := s.saplingOf (groveOf x)
  let home (l : Nat) : Option Nat := if own && decide (s.posOf l = some x) then spare else s.posOf l
  decide (s.status x = 1 ∨ s.status x = 2)
    && (match set with
      | some w => if own then decide (some (setSpare w) = spare) else decide (setSpare w = 0x3FF)
      | none => !own)
    && (overlay (cur.filter (recordLives up)) ((set.map i.setRecords).getD [])).all (s.recordWalks p up home)

/-- MGMT_PARTp_COVER brought up to date (R273, R274). -/
def State.setCover (s : State) (p : Nat) : State :=
  match (s.part p).image with
  | none => s.setFld (MGMT_PARTp_STATUS_COVERING p) 0
  | some i =>
    let cur := s.currentRecords p
    let s' := (List.range 9).foldl (fun (t : State) w =>
      t.wr (MGMT_PARTp_COVERw p w) (packDigits 1 (fun b => (s.covered p i cur (64 * w + b)).toNat) 64)) s
    s'.setFld (MGMT_PARTp_STATUS_COVERING p) 0

/-! ## LOAD's checks in order (R271) -/

/-- The first record of a section that fails, as (cause, section, record). -/
def firstBad (cause : Nat) (l : List Section) (type : Nat) (ok : List W64 → Bool) (records : List (List W64)) :
    Option (Nat × Nat × Nat) :=
  (records.findIdx? (fun w => !ok w)).map (fun r => (cause, ((sectionOf l type).map Section.at_).getD 0, r))

/-- The first of a list of optional failures. -/
def firstOf (l : List (Option (Nat × Nat × Nat))) : Option (Nat × Nat × Nat) := (l.find? Option.isSome).join

/-- Where a manifest of `len` bytes fits first in the 512 MiB management store beside those held (R409). -/
def State.storeFit (s : State) (p len : Nat) : Option Nat :=
  let held := (List.range 16).filterMap (fun q => if q = p then none else (s.part q).image.map (fun i => (i.start, i.start + i.len)))
  (0 :: held.map (·.2)).foldl (fun (best : Option Nat) a =>
    if a + len ≤ 2 ^ 29 ∧ held.all (fun h => decide (h.2 ≤ a) || decide (a + len ≤ h.1)) then
      (match best with
        | some b => some (min a b)
        | none => some a)
    else best) none

/-- The checks of TABLE, DETOUR_INDEX and DETOUR_OVR records: 6, and 8 for the trails of TABLE. -/
def State.tableChecks (s : State) (p : Nat) (l : List Section) (i : Manifest) : Option (Nat × Nat × Nat) :=
  firstOf [firstBad 6 l 6 (s.tableOk p false) i.table, firstBad 6 l 7 (s.indexOk p i) i.detourIndex
    , firstBad 6 l 8 (s.tableOk p true) i.detourOvr]

/-- Check 7: every range of the image in the grant. -/
def State.grantChecks (s : State) (p : Nat) (l : List Section) (i : Manifest) : Option (Nat × Nat × Nat) :=
  firstOf [firstBad 7 l 4 (fun w => s.inGrant p (recWordOf w 2) (recWordOf w 3)) i.seg
    , firstBad 7 l 2 (fun w => s.inGrant p (recWordOf w 1) (32 * bitsOf (recWordOf w 2) 0 12)) i.core
    , firstBad 7 l 3 (fun w =>
        let n := residentCount w * 2 ^ 20
        decide (i.shadow = 0) || (s.inGrant p (recWordOf w 7) n && (decide (i.shadow = 1) || s.inGrant p (recWordOf w 8) n)))
        i.tile]

/-- Why LOAD refuses the image at host address `a` for partition `p`, if it does: cause, section and record of the first
check that fails. -/
def State.loadFault (s : State) (p a : Nat) : Option (Nat × Nat × Nat) :=
  let l := s.sections a
  let i := s.manifest a 0
  if !s.headerOk a then some (1, 0, 0)
  else if !i.countsOk then some (1, 0, 0)
  else if !s.hostReads a i.len || !s.digestOk a then some (2, 0, 0)
  else if !s.lgrvsOk p i then some (3, 0, 0)
  else firstOf
    [ firstBad 4 l 1 (s.layoutOk p) i.layout
    , if i.features.toNat ||| s.features.toNat = s.features.toNat then none else some (5, 0, 0)
    , if s.headerZero a then none else some (6, 0, 0)
    , firstBad 6 l 1 layoutZero i.layout
    , if i.kbase % 8 = 0 ∧ i.kbase ≤ 1792 ∧ i.tsoff % 0x10000 = 0 ∧ i.tsoff ≤ 0x5F0000 then none else some (6, 0, 0)
    , firstBad 6 l 2 (s.coreOk p) i.core
    , firstBad 6 l 3 (s.tileOk p) i.tile
    , firstBad 6 l 4 (s.segOk p i) i.seg
    , firstBad 6 l 5 (s.syncOk p) i.sync
    , s.tableChecks p l i
    , s.grantChecks p l i
    , firstBad 8 l 6 (s.recordWalks p s.routerUp s.posOf) i.table
    , firstBad 9 l 2 (fun w => match s.posOf (bitsOf (recWordOf w 0) 0 9) with
        | some pos => (s.core (coreKey pos (bitsOf (recWordOf w 0) 9 3))).stopped
        | none => true) i.core
    , if i.kernel = 1 then none else some (12, 0, 0)
    , if 10 * s.fld (MGMT_PARTp_CFG_MIN_DUTY p) ≤ i.duty then none else some (13, 0, 0)
    , if (s.storeFit p i.len).isSome then none else some (14, 0, 0) ]

/-- Why UPDATE refuses the manifest at host address `a` (R269): only TABLE and detour sections, LGRVS as the image's. -/
def State.updateFault (s : State) (p a : Nat) (old : Manifest) : Bool :=
  let l := s.sections a
  let i := s.manifest a 0
  let i' : Manifest := { i with detourOvr := if (sectionOf l 8).isSome then i.detourOvr else old.detourOvr }
  !s.headerOk a || !s.hostReads a i.len || !s.digestOk a || !s.headerZero a || decide (i.lgrvs ≠ old.lgrvs) || l.any (fun x => decide (x.type < 6))
    || (s.tableChecks p l i').isSome || !(i.table.all (s.recordWalks p s.routerUp s.posOf))

end Sys2Proof.Machine
end

