-- ==== Sys2Proof/Machine/Mover.lean ====
section
/-! DEFINITION. Movers (R199 to R203, R209, R211), sync checkpoint records (R148), and the data of gathers and scatters
(R160 to R162). -/

namespace Sys2Proof.Machine

/-- The answer of a tile's movers: tiles and cores, memories, packets, messages, slots, records. -/
def answerMover (s t : State) : Out :=
  .next { s with
    csr := t.csr, faults := t.faults, cores := t.cores, tiles := t.tiles, access := t.access, net := t.net
    track := t.track, creditUsed := t.creditUsed, creditBack := t.creditBack, msgs := t.msgs, ops := t.ops
    releasing := t.releasing, spad := t.spad, spadPoison := t.spadPoison, spadEcc := t.spadEcc
    spadLine := t.spadLine, spadLineCe := t.spadLineCe, marks := t.marks, hbm := t.hbm, hbmPoison := t.hbmPoison, hbmEcc := t.hbmEcc
    hbmReqs := t.hbmReqs }

/-! ## Descriptor checks (R201) -/

/-- The permitted pairs of R201. -/
inductive Pair where
  | spadToHbm | hbmToSpad | spadToTile | spadToImem | hbmToImem
  deriving DecidableEq, Repr

/-- Whether the reserved bits of a descriptor's words 0 to 5 are zero (R200). -/
def descReserved (w : List W64) : Bool :=
  let x (i : Nat) : Nat := (w.getD i 0).toNat
  decide (bitsOf (x 0) 48 16 = 0) && decide (bitsOf (x 1) 48 16 = 0) && decide (bitsOf (x 2) 40 24 = 0)
    && decide (bitsOf (x 4) 17 15 = 0) && decide (bitsOf (x 4) 48 15 = 0) && decide (bitsOf (x 5) 2 62 = 0)

/-- Whether addresses, row size and strides are aligned and the counts in range (R200). -/
def MDesc.aligned (d : MDesc) : Bool :=
  decide (d.src % 256 = 0) && decide (d.dst % 256 = 0) && decide (d.rowBytes % 256 = 0) && decide (256 ≤ d.rowBytes)
    && decide (1 ≤ d.rows) && decide (d.sstride % 256 = 0) && decide (d.dstride % 256 = 0)

/-- Space of one row of a descriptor, or nothing where it lies outside R30. -/
def State.rowSpace (s : State) (a : Int) (n : Nat) : Option DSpace := if a < 0 then none else s.dspan a.toNat n

/-- Whether a row of an instruction store lies in the TILE window and touches stopped cores only (R76, R201). -/
def State.imemRow (s : State) (pos : Nat) (a : Int) (n : Nat) : Bool :=
  decide (0 ≤ a) && decide (a.toNat + n ≤ 0x80000)
    && (List.range 8).all (fun c => decide (a.toNat + n ≤ c * 0x10000) || decide ((c + 1) * 0x10000 ≤ a.toNat)
      || (s.core (coreKey pos c)).stopped)

/-- The pair that row `r` of a descriptor names at a tile, if it is permitted (R201). -/
def State.rowPair (s : State) (pos : Nat) (d : MDesc) (r : Nat) : Option Pair :=
  let sa : Int := d.src + d.sstride * r
  let da : Int := d.dst + d.dstride * r
  let own (l : Nat) : Bool := decide (s.logical pos = some l)
  if d.imem then
    if !s.imemRow pos da d.rowBytes then none
    else match s.rowSpace sa d.rowBytes with
      | some (.spad l _) => if own l then some .spadToImem else none
      | some (.hbm _) => some .hbmToImem
      | _ => none
  else match s.rowSpace sa d.rowBytes, s.rowSpace da d.rowBytes with
    | some (.spad l _), some (.hbm _) => if own l then some .spadToHbm else none
    | some (.hbm _), some (.spad l _) => if own l then some .hbmToSpad else none
    | some (.spad l _), some (.spad m _) => if own l && !own m then some .spadToTile else none
    | _, _ => none

/-- The pair a whole descriptor names: every row the pair of row 0 (R201). -/
def State.descPair (s : State) (pos : Nat) (e : QEntry) : Option Pair :=
  let d := mdescOf e.desc
  if !descReserved e.desc || !d.aligned || (d.imem && (decide (e.kind ≠ .mgmt) || decide (2 ^ 19 ≤ d.dst))) then none
  else match s.rowPair pos d 0 with
    | none => none
    | some p => if (List.range d.rows).all (fun r => decide (s.rowPair pos d r = some p)) then some p else none

/-! ## Running entries (R199, R202) -/

/-- Whether an entry has issued its last packet, or issues no more (R202, R203). -/
def QEntry.spent (e : QEntry) : Bool := e.started && (e.bad || decide (e.total ≤ e.issued) || e.refused.isSome)

/-- The entries of an engine in queue order. -/
def State.engineQueue (s : State) (pos engine : Nat) : List QEntry := (s.tile pos).queue.filter (fun e => e.engine = engine)

/-- The first entry of an engine that has not issued its last packet: an engine starts one only after the entry before
has (R199). -/
def State.running (s : State) (pos engine : Nat) : Option QEntry := (s.engineQueue pos engine).find? (fun e => !e.spent)

/-- Whether an entry is a mover descriptor. -/
def QEntry.isDesc (e : QEntry) : Bool := decide (e.kind = .mov) || decide (e.kind = .mgmt)

/-- MOVER_START (R199, R201): a mover's next entry, its descriptor read, is checked whole and starts, or fails with an
address error and moves nothing. -/
def execMoverStart (pos engine : Nat) (s : State) : Out :=
  if 576 ≤ pos ∨ 3 ≤ engine then noUnit
  else match s.running pos engine with
    | none => idle s
    | some e =>
      if !e.isDesc || !e.ready || e.started then idle s
      else
        let d := mdescOf e.desc
        answerMover s (s.modEntry pos e.id (fun e => match s.descPair pos e with
          | none => { e with started := true, bad := true }
          | some _ => { e with started := true, total := d.rows * (d.rowBytes / 256) }))

/-- Packets of a mover's entries that hold tracking entries (R202). -/
def State.moverOut (s : State) (pos engine : Nat) : Nat :=
  let ids := (s.engineQueue pos engine).map (fun e => e.id)
  ((s.tracks pos).filter (fun t => match t.2.holder with
    | .mover _ id _ => ids.contains id
    | _ => false)).length

/-- Local cycle at which a paced entry may issue its next packet (R200, R209). -/
def State.paceFrom (s : State) (pos : Nat) (e : QEntry) : Nat :=
  if (mdescOf e.desc).paced ∧ e.issued ≠ 0 then e.lastAt + s.fld (TILE_MOV_CFG_PACE pos) else 0

/-- An entry that has issued one more packet. -/
def State.issuedOne (s : State) (pos id : Nat) : State :=
  let t := s.hereNow pos
  s.modEntry pos id (fun e => { e with issued := e.issued + 1, outstanding := e.outstanding + 1, lastAt := t })

/-- The next packet of an entry issued (R202): a payload of the own scratchpad is read at the mover's turn once the
tracking entry is taken, a READ leaves at once, and a write into the own instruction store takes no tracking entry. -/
def State.issuePacket (s : State) (pos engine : Nat) (e : QEntry) (pair : Pair) : State :=
  let i := e.issued
  let a := (mdescOf e.desc).packet i
  let off := bitsOf a.1 0 27
  let agent := 8 + engine
  let due := turnFrom agent (groupOf off) (s.hereNow pos)
  let s := s.issuedOne pos e.id
  match pair with
  | .spadToImem => s.addAccess (accessOf pos agent off 256 due (.store e.id i))
  | .hbmToSpad | .hbmToImem =>
    s.sendTo pos a.1 { Pkt.blank with type := tREAD, size := 2 } (.mover pos e.id i)
  | .spadToHbm | .spadToTile =>
    match s.freeTag pos with
    | none => s
    | some tag =>
      let p := { Pkt.blank with type := tWRITE, size := 2, addr := BitVec.ofNat 48 a.2 }
      let t : Track := ⟨p, (s.destOf pos (BitVec.ofNat 48 a.2)).getD noDest, .reading, .mover pos e.id i, s.now, none, 0, none⟩
      (s.setTrack pos tag t).addAccess (accessOf pos agent off 256 due (.payload tag))

/-- MOVER_PACKET_ISSUE (R202, R209): a mover's running entry issues its next packet, within MAXOUT and the router's
tracking entries, and PACE after the one before where it is paced. -/
def execMoverPacketIssue (pos engine : Nat) (s : State) : Out :=
  if 576 ≤ pos ∨ 3 ≤ engine then noUnit
  else match s.running pos engine with
    | none => idle s
    | some e =>
      match s.rowPair pos (mdescOf e.desc) 0 with
      | none => idle s
      | some pair =>
        if !e.isDesc || !e.started then idle s
        else if pair ≠ .spadToImem ∧ (s.fld (TILE_MOV_CFG_MAXOUT pos) ≤ s.moverOut pos engine ∨ (s.freeTag pos).isNone) then idle s
        else
          let s' := s.atCycle (groveOf pos) (s.paceFrom pos e)
          answerMover s' (s'.issuePacket pos engine e pair)

/-! ## Completion (R203) -/

/-- Leading rows whose packets were all acknowledged. -/
def QEntry.rowsDone (e : QEntry) : Nat :=
  let d := mdescOf e.desc
  let per := d.rowBytes / 256
  if per = 0 then 0
  else ((List.range d.rows).takeWhile (fun r => (List.range per).all (fun c => e.acked.has (r * per + c)))).length

/-- CODE of an entry's status. -/
def QEntry.code (e : QEntry) : Nat := if e.bad then 2 else if e.refused.isSome then 3 else 1

/-- The status word of an entry. -/
def QEntry.status (e : QEntry) : Nat :=
  packFields [(0, 4, e.code), (4, 4, e.refused.getD 0), (8, 1, e.poison.toNat)
    , (32, 16, if e.bad then 0 else e.rowsDone)]

/-- A mover error counted and captured: source 19 CAUSE 3 (R203, R277). -/
def State.movError (s : State) (pos engine code reason addr : Nat) : State :=
  (s.count (tileCounter pos (TILE_MOV_ERR_CNT pos)) 1).capture (TILE_MOV_ERR_CAP pos)
    (packFields [(0, 4, code), (4, 4, reason), (8, 2, engine), (10, 48, addr)]) (srcPos pos 19) 3

/-- A descriptor completed (R203): status, errors, then the attachment of a complete one; the entry frees. -/
def State.complete (s : State) (pos : Nat) (e : QEntry) : State :=
  let d := mdescOf e.desc
  let s := if e.kind = .mgmt then
      (s.wr (TILE_MOV_MGMTDw pos 6) e.status).setFld (TILE_MOV_MGMTQ_BUSY pos) 0
    else s.spadWrite pos (e.off + 48) 8 e.status 0
  let s := if e.code = 1 then s
    else s.movError pos (if e.kind = .mgmt then 2 else e.engine) e.code (e.refused.getD 0)
      (if e.bad then 0 else e.refusedAddr.toNat)
  let s := if e.kind = .mov then s.posted (coreKey pos e.core) e.posted else s
  let s := s.attach (d.en && decide (e.code = 1)) d.obj d.add ((s.logical pos).getD 0) ((s.partOf pos).getD 0) pos false none none
  s.freeEntry pos e.id

/-- MOVER_COMPLETE (R203): a mover's first entry, every packet it issued answered. -/
def execMoverComplete (pos engine : Nat) (s : State) : Out :=
  if 576 ≤ pos ∨ 3 ≤ engine then noUnit
  else match s.engineHead pos engine with
    | none => idle s
    | some e => if e.isDesc && e.spent && decide (e.outstanding = 0) then answerMover s (s.complete pos e) else idle s

/-! ## Management entries and waiting entries (R199, R211) -/

/-- A management entry put into the queue of its mover. -/
def State.queueMgmt (s : State) (pos : Nat) (m : Nat × List W64) : State :=
  (s.enqueue pos .mgmt m.1 0 0 m.2 0 true).modTile pos (fun t => { t with mgmt := none })

/-- MGMTQ_GO (R211, R433): GO written 1: descriptor words 0 to 5 copied and queued, or waiting for the next entry to
free; discarded while BUSY is 1, with a decode fault. -/
def execMgmtqGo (a : Agent) (pos : Nat) (s : State) : Out :=
  if 576 ≤ pos then noUnit
  else if s.mute a (TILE_MOV_MGMTQ pos).addr then idle s
  else if !s.mayWrite a .mgmt then answerMover s (s.decodeFault true (TILE_MOV_MGMTQ pos).addr)
  else if s.flag (TILE_MOV_MGMTQ_BUSY pos) then answerMover s (s.decodeFault true (TILE_MOV_MGMTQ pos).addr)
  else
    let m := (s.fld (TILE_MOV_MGMTQ_MOVER pos), (List.range 6).map (fun w => BitVec.ofNat 64 (s.rd (TILE_MOV_MGMTDw pos w))))
    let s' := s.setFld (TILE_MOV_MGMTQ_BUSY pos) 1
    answerMover s (if s.queueRoom pos then s'.queueMgmt pos m else s'.modTile pos (fun t => { t with mgmt := some m }))

/-- MOVER_QUEUE_ENTRY_GRANT (R148, R199): a freed entry goes to a waiting checkpoint record first, then to a waiting
management entry. -/
def execMoverQueueEntryGrant (pos : Nat) (s : State) : Out :=
  if 576 ≤ pos then noUnit
  else if 16 ≤ s.queueLen pos then idle s
  else if (s.tile pos).ckpts ≠ [] then answerMover s (s.grantCkpt pos)
  else match (s.tile pos).mgmt with
    | some m => answerMover s (s.queueMgmt pos m)
    | none => idle s

/-! ## Direct HBM transfers of mover-queue entries (R148, R160, R161)

A gather, a scatter or a checkpoint record moves its data in the command that completes it. Each 256-byte (or 8-byte)
piece takes the checks its packet would meet: a trail at the source router (R173), then the H-rim die's (R197), behind the
requests to its block that came before it (R198). A piece whose stack is in self-refresh waits (R206): the command does not
come yet. -/

/-- The stack of an HBM offset at a tile, or the NACK reason that its packet would end with, and the state that has
counted the refusal; 6 where its stack is in self-refresh, which a packet outlasts only within ACK_TO (R206). -/
def State.hbmReach (s : State) (pos off size type : Nat) : (Nat × Nat) ⊕ (Nat × State) :=
  let a := 2 ^ 44 + off
  let part := (s.partOf pos).getD 0
  match s.destOf pos (BitVec.ofNat 48 a) with
  | none => .inr (4, s)
  | some d =>
    if (s.trailTo pos d).isNone then .inr (4, s)
    else match s.hbmRefusal (d - 512) part a size type with
      | some (reason, cause) => .inr (reason, s.hbmNack (d - 512) cause part 0 ((s.logical pos).getD 0) a)
      | none => if s.fld (HBM_STATUS_STATE (d - 512)) = 2 then .inr (6, s) else .inl (d - 512, s.stackAddr (d - 512) part a)

/-- A run of pieces: the state, and the refusal that ended it, if one did. -/
structure Run where
  state : State
  refused : Option (Nat × Nat)

/-- One piece written to HBM. -/
def Run.store (r : Run) (pos off size data poison : Nat) : Run :=
  if r.refused.isSome then r
  else match r.state.hbmReach pos off size tWRITE with
    | .inr (reason, s) => ⟨s, some (reason, 2 ^ 44 + off)⟩
    | .inl (k, a) => ⟨(r.state.hbmDrain k a).hbmWrite k a (if size = 1 then 8 else 256) data poison, none⟩

/-- One 256-byte piece read from HBM into the own scratchpad. -/
def Run.fetch (r : Run) (pos off dst : Nat) : Run :=
  if r.refused.isSome then r
  else match r.state.hbmReach pos off 2 tREAD with
    | .inr (reason, s) => ⟨s, some (reason, 2 ^ 44 + off)⟩
    | .inl (k, a) =>
      let d := (r.state.hbmDrain k a).hbmRead k a 256 ((r.state.partOf pos).getD 0)
      ⟨d.2.2.spadWrite pos dst 256 d.1 d.2.1, none⟩

/-- Whether a run met a stack in self-refresh. -/
def Run.waits (r : Run) : Bool := match r.refused with
  | some (6, _) => true
  | _ => false

/-- SYNC_CHECKPOINT_WRITE (R148): mover 1 writes the record that its first entry holds: the counts and INVCOUNT, the
commit word last. A refused record ends as a mover error. -/
def execSyncCheckpointWrite (pos : Nat) (s : State) : Out :=
  if 576 ≤ pos then noUnit
  else match s.engineHead pos 1 with
    | none => idle s
    | some e =>
      if e.kind ≠ .checkpoint then idle s
      else
        let r := (List.range 130).foldl (fun (r : Run) i => r.store pos (e.off + 8 * i) 1 (e.desc.getD i 0).toNat 0) ⟨s, none⟩
        let s' := match r.refused with
          | some (reason, a) => r.state.movError pos 1 3 reason a
          | none => r.state
        if r.waits then idle s else answerMover s (s'.freeEntry pos e.id)

/-! ## Management entries whole (R208, R264)

The management subsystem loads code, segments and shadows with management entries of mover 0, each run whole. -/

/-- The words of a descriptor: source, destination, bytes per row and rows, strides, no attachment, PACED. -/
def mgmtDesc (src dst rowBytes rows stride : Nat) (imem : Bool) : List W64 :=
  [src, dst, rowBytes + rows * 2 ^ 24, stride + stride * 2 ^ 32, 0, 1 + imem.toNat * 2].map (BitVec.ofNat 64)

/-- One packet of a management entry from HBM: into the scratchpad, or into an instruction store; the NACK reason of one
refused, or whether a word came poisoned. -/
def State.mgmtPacket (s : State) (pos : Nat) (imem : Bool) (src dst : Nat) : (Nat ⊕ Bool) × State :=
  match s.hbmReach pos (src % 2 ^ 41) 2 tREAD with
  | .inr (reason, t) => (.inl reason, t)
  | .inl (k, a) =>
    let d := (s.hbmDrain k a).hbmRead k a 256 ((s.partOf pos).getD 0)
    (.inr (decide (d.2.1 ≠ 0)),
      if imem then d.2.2.imemWrite pos (dst % 2 ^ 19) 256 d.1 d.2.1 else d.2.2.spadWrite pos (dst % 2 ^ 27) 256 d.1 d.2.1)

/-- A management entry of a tile's mover 0 run whole (R201 to R203, R211): its words and MOVER in the registers, its packets
in order up to the first refused, its status in MGMTD6, and its error counted. A run that has failed goes no further. -/
def Run.entry (r : Run) (pos : Nat) (words : List W64) : Run :=
  if r.refused.isSome then r
  else
    let s := (List.range 6).foldl (fun (s : State) w => s.wr (TILE_MOV_MGMTDw pos w) (words.getD w 0).toNat) r.state
    let s := s.setFld (TILE_MOV_MGMTQ_MOVER pos) 0
    let d := mdescOf words
    let e : QEntry :=
      { id := 0, kind := .mgmt, engine := 0, core := 0, posted := 0, desc := words, off := 0, ready := true, started := true
        bad := (s.descPair pos { id := 0, kind := .mgmt, engine := 0, core := 0, posted := 0, desc := words, off := 0, ready := true
                                 started := false, bad := false, issued := 0, total := 0, outstanding := 0, acked := []
                                 refused := none, refusedAddr := 0, poison := false, lastAt := 0, piece := none }).isNone
        issued := 0, total := d.rows * (d.rowBytes / 256), outstanding := 0, acked := [], refused := none, refusedAddr := 0
        poison := false, lastAt := 0, piece := none }
    let x := if e.bad then (e, s) else (List.range e.total).foldl (fun (x : QEntry × State) i =>
        if x.1.refused.isSome then x
        else
          let a := d.packet i
          match x.2.mgmtPacket pos d.imem a.1 a.2 with
          | (.inl reason, t) => (x.1.answered i (some reason) (BitVec.ofNat 48 a.2) false, t)
          | (.inr poison, t) => (x.1.answered i none 0 poison, t)) (e, s)
    let e := x.1
    let s := x.2.wr (TILE_MOV_MGMTDw pos 6) e.status
    if e.code = 1 then ⟨s, none⟩
    else ⟨s.movError pos 2 e.code (e.refused.getD 0) (if e.bad then 0 else e.refusedAddr.toNat), some (e.refused.getD 0, e.refusedAddr.toNat)⟩

/-! ## Gathers and scatters (R160 to R162) -/

/-- Descriptor word `i` of an accepted operation as it stood. -/
def slotWord (w : List W64) (i : Nat) : Nat := (w.getD i 0).toNat

/-- Scratchpad offset of stream element `i` of an operation. -/
def SeqOp.element (o : SeqOp) (i : Nat) : Nat := ((o.base : Int) + o.stride * (o.start + i)).toNat

/-- HBM offset of element `j` of row `r` of a slot. -/
def slotOffset (w : List W64) (units r j : Nat) : Nat := bitsOf (slotWord w 0) 0 41 + (r * units + j) * 256

/-- The rows of a gather from row `r` on: read below the LENGTH snapshot, PAD at and beyond it (R160). -/
def gatherRows (o : SeqOp) (len : Nat) (w : List W64) (r : Run) : Run :=
  let hdr := o.flag.toNat
  (List.range (o.rows * o.units)).foldl (fun (r : Run) i =>
    let row := o.first + i / o.units
    let dst := o.element (hdr + i)
    if r.refused.isSome then r
    else if row < len then r.fetch o.pos (slotOffset w o.units row (i % o.units)) dst
    else ⟨r.state.spadWrite o.pos dst 256 (repeatWord (bitsOf (slotWord w 2) 32 32) 64) 0, none⟩) r

/-- The header element of a gather: the four descriptor words, then zeros (R160). -/
def gatherHeader (o : SeqOp) (w : List W64) (s : State) : State :=
  if o.flag then s.spadWrite o.pos (o.element 0) 256 (packDigits 64 (slotWord w) 4) 0 else s

/-- The elements of a scatter written as its rows, with their poison (R161). -/
def scatterRows (o : SeqOp) (w : List W64) (s : State) : Run :=
  (List.range (o.rows * o.units)).foldl (fun (r : Run) i =>
    if r.refused.isSome then r
    else
      let d := r.state.spadRead o.pos (o.element i) 256 8 false
      ({ r with state := d.2.2 } : Run).store o.pos (slotOffset w o.units (o.first + i / o.units) (i % o.units)) 2 d.1 d.2.1) ⟨s, none⟩

/-- The end of an accepted operation: its attachment, then INFLIGHT one down (R162). One that HBM refused ends as a
mover error without its attachment (R203, log entry 27). -/
def State.opEnd (s : State) (o : SeqOp) (refused : Option (Nat × Nat)) : State :=
  let s := match refused with
    | none => s.opDone o false
    | some (reason, a) => (s.movError o.pos 0 3 reason a).opDone { o with sb := o.sb &&& 0x7FFFFFFFFFFFFFFF#64 } false
  s.setFld (SEQ_SLOTs_STATE_INFLIGHT o.slot) (s.fld (SEQ_SLOTs_STATE_INFLIGHT o.slot) - 1)

/-- An accepted operation of a direction that is its tile's mover 0's first entry. -/
def State.readyOp (s : State) (n : Nat) (scatter : Bool) : Option (SeqOp × Nat × List W64) :=
  match s.ops[n]? with
  | none => none
  | some o =>
    match o.phase with
    | .accepted len w =>
      if o.scatter = scatter ∧ (s.engineHead o.pos 0).map (fun e => e.id) = some o.entry then some (o, len, w) else none
    | _ => none

/-- GATHER_COMPLETE (R160, R162): operation `n`, an accepted gather, has every element in the scratchpad. -/
def execGatherComplete (n : Nat) (s : State) : Out :=
  match s.readyOp n false with
  | none => idle s
  | some (o, len, w) =>
    let r := gatherRows o len w ⟨gatherHeader o w s, none⟩
    if r.waits then idle s else answerMover s (r.state.opEnd o r.refused)

/-- LENGTH advanced by a scatter with ADV whose FIRST still equals it; else the mismatch is recorded (R161). -/
def State.advanceLength (s : State) (o : SeqOp) : State :=
  if !o.flag then s
  else if s.fld (SEQ_SLOTs_LEN_LENGTH o.slot) = o.first then s.setFld (SEQ_SLOTs_LEN_LENGTH o.slot) (o.first + o.rows)
  else s.seqReject o.slot 4 o.logical true

/-- SCATTER_COMPLETE (R161, R162): operation `n`, an accepted scatter, has every row performed in HBM. -/
def execScatterComplete (n : Nat) (s : State) : Out :=
  match s.readyOp n true with
  | none => idle s
  | some (o, _, w) =>
    let r := scatterRows o w s
    let s' := if r.refused.isSome then r.state else r.state.advanceLength o
    if r.waits then idle s else answerMover s (s'.opEnd o r.refused)

end Sys2Proof.Machine
end

