-- ==== Sys2Proof/Machine/Partition.lean ====
section
/-! DEFINITION. Partitions (R262 to R275): partition reset, the steps of LOAD, and the commands of MGMT_PARTp_CMD. A
command takes effect whole: the states it passes through on the way are not seen (log entry 34). -/

namespace Sys2Proof.Machine

/-- STATE of a partition set; a change raises interrupt 98 + p (R412). -/
def State.setPart (s : State) (p v : Nat) : State :=
  let t := s.setFld (MGMT_PARTp_STATUS_STATE p) v
  if s.partState p = v then t else t.irq (98 + p)

/-- A generation bracket closed round a change of the descriptor (R32): every loaded partition's coverage is to be
recomputed (R274). -/
def State.bracket (s : State) : State :=
  let s := s.wr DESC_GEN ((s.rd DESC_GEN + 2) % 2 ^ 64)
  (List.range 16).foldl (fun (s : State) p =>
    if (s.part p).image.isSome then s.setFld (MGMT_PARTp_STATUS_COVERING p) 1 else s) s

/-! ## Partition reset (R129, R152, R156, R186) -/

/-- A core stopped where it stands: RUN 0, any stall and unfinished bundle abandoned, nothing of it outstanding. -/
def State.stopCore (s : State) (pos core : Nat) : State :=
  (s.setFld (TILE_CORE_CTRL_RUN pos core) 0).modCore (coreKey pos core) (fun c =>
    let c : Core := { c with posted := [], feedA := [], feedW := [] }
    if c.stopped then c
    else { c with
      state := 7, handler := false, stall := .none, cleared := false, overrun := false, issued := 0, target := none
      ending := none })

/-- Every core of a partition halted. -/
def State.haltPart (s : State) (p : Nat) : State :=
  (s.partPositions p).foldl (fun (s : State) pos => (List.range 8).foldl (fun (s : State) c => s.stopCore pos c) s) s

/-- A packet whose tracking entry has been cleared. -/
def Pkt.homeless (gone : Nat → Bool) (p : Pkt) : Pkt := if gone p.home then { p with home := 576 } else p

/-- The tracking entries and combine buffers of routers cleared, and the packets those entries sent disowned (R186). -/
def State.clearEntries (s : State) (gone : Nat → Bool) : State :=
  { s with
    track := s.track.filter (fun t => !gone (t.1 / 64))
    combine := s.combine.filter (fun c => !gone (c.1 / 1024))
    net := s.net.map (fun (x : NetItem) => { x with pkt := x.pkt.homeless gone })
    access := s.access.map (fun (x : Access) => { x with pkt := x.pkt.map (Pkt.homeless gone) })
    hbmReqs := s.hbmReqs.map (fun (x : HReq) => { x with pkt := x.pkt.homeless gone })
    dies := s.dies.map (fun (d : Nat × LDie) =>
      (d.1, { d.2 with origin := d.2.origin.map (fun (o : Nat × OTrack) => (o.1, { o.2 with pkt := o.2.pkt.homeless gone })) })) }

/-- Adds and sets on their way to a partition's objects discarded under R144. -/
def State.discardMsgs (s : State) (p : Nat) : State :=
  let gone := s.msgs.filter (fun m => decide (s.syncOwner m.obj = some p))
  let s := { s with msgs := s.msgs.filter (fun m => !decide (s.syncOwner m.obj = some p)) }
  gone.foldl (fun (s : State) m =>
    let s := s.syncError m ((s.syncFault m).getD 3)
    match m.ends with
    | some (key, id) => s.posted key id
    | none => s) s

/-- Objects of a partition cleared and the watches on them disarmed (R152). -/
def State.clearObjects (s : State) (p : Nat) : State :=
  let s := (List.range 64).foldl (fun (s : State) w =>
    if s.syncOwner (s.fld (SEQ_WATCHw_OBJ w)) = some p then s.setFld (SEQ_WATCHw_ARM w) 0 else s) s
  { s with sync := s.sync.filter (fun o => !decide (s.syncOwner o.1 = some p)) }

/-- Slots of a partition: nothing in flight; at reset ACTIVE becomes HELD, at teardown every slot FREE (R156). -/
def State.resetSlots (s : State) (p : Nat) (free : Bool) : State :=
  let s := { s with ops := s.ops.filter (fun o => o.part ≠ p) }
  (List.range 256).foldl (fun (s : State) k =>
    if s.fld (SEQ_SLOTs_STATE_OWNER k) ≠ p ∨ s.slotState k = 0 then s
    else
      let s := s.setFld (SEQ_SLOTs_STATE_INFLIGHT k) 0
      if free then s.slotFree k else if s.slotState k = 1 then s.setSlotState k 2 else s) s

/-- The add that a sequence operation still owes its object (R162). -/
def SeqOp.owes (o : SeqOp) : Option SyncMsg :=
  if Nat.testBit o.sb.toNat 63 then
    some { set := false, obj := bitsOf o.sb.toNat 44 17, value := 1, kind := 1, source := o.logical, part := o.part, pos := o.pos
           void := false, guard_ := none, ends := none, host := none, at_ := 0, phase := .flying }
  else none

/-- The adds that a partition's sequence operations owe, discarded with a record: its reset closes the books (R153). -/
def State.discardOwed (s : State) (p : Nat) : State :=
  ((s.ops.filter (fun o => decide (o.part = p))).filterMap SeqOp.owes).foldl (fun (s : State) m => s.syncError m 3) s

/-- A partition reset or the like part of a teardown: cores halted, messages, packets, queues and operations gone,
windows closed, objects cleared. -/
def State.quiet (s : State) (p : Nat) (teardown : Bool) : State :=
  let own (pos : Nat) : Bool := s.ownsPos p pos
  let s := ((s.haltPart p).discardMsgs p).discardOwed p
  let s := (s.partPositions p).foldl (fun (s : State) pos =>
    ((((s.dropAccesses pos).winsClosed pos).modTile pos (fun t => { t with queue := [], ckpts := [], mgmt := none, clearing := false })).setFld
      (TILE_SPAD_CLEAR_BUSY pos) 0).setFld (TILE_MOV_MGMTQ_BUSY pos) 0) s
  ((s.clearEntries own).clearObjects p).resetSlots p teardown

/-- What a partition reset clears (R129, R152, R156, R186). -/
def State.partClear (s : State) (p : Nat) : State :=
  let s := s.quiet p false
  (s.partPositions p).foldl (fun (s : State) pos => s.clearNonResident pos) s

/-- A partition reset; STATE reads RESETTING while it runs. -/
def State.partReset (s : State) (p : Nat) : State := (s.setPart p 5).partClear p

/-! ## The steps of LOAD (R264) -/

/-- Position of a record's logical tile. -/
def State.recordPos (s : State) (w : List W64) : Option Nat := s.posOf (bitsOf (recWordOf w 0) 0 9)

/-- The test kernel written at KBASE of a core's store by grove runtime firmware (R259). -/
def State.writeKernel (s : State) (pos core kbase : Nat) : State :=
  let base := imemKey pos (core * 0x10000 + kbase * 32)
  { s with
    imem := (List.range 8192).foldl (fun (m : Mem) n => m.setByte (base + n) (Config.kernelByte n)) s.imem
    imemEcc := SMap.clear s.imemEcc (base / 4) (base / 4 + 2048) }

/-- The test kernel in every core's store of a tile (R259, R264 step 6). -/
def State.writeKernels (s : State) (pos kbase : Nat) : State :=
  (List.range 8).foldl (fun (s : State) c => s.writeKernel pos c kbase) s

/-- A CORE record loaded: its instruction image, ENTRY, TRAPVEC and SRSEED (step 6). -/
def Run.loadCore (r : Run) (w : List W64) : Run :=
  match r.state.recordPos w with
  | none => r
  | some pos =>
    let core := bitsOf (recWordOf w 0) 9 3
    let b := recWordOf w 2
    let r := r.entry pos (mgmtDesc (2 ^ 44 + recWordOf w 1) (core * 0x10000) (32 * bitsOf b 0 12) 1 0 true)
    if r.refused.isSome then r
    else
      let s := r.state.setFld (TILE_CORE_ENTRY_ENTRY pos core) (bitsOf b 16 11)
      let s := s.wr (TILE_CORE_TRAPVEC pos core) (packFields [(0, 11, bitsOf b 32 11), (63, 1, bitsOf b 63 1)])
      ⟨s.wr (TILE_CORE_SRSEED pos core) (recWordOf w 3), none⟩

/-- TILE_FLT_KAT of a position for an image (R305). -/
def State.setKat (s : State) (i : Manifest) (pos : Nat) : State :=
  (s.setFld (TILE_FLT_KAT_KBASE pos) i.kbase).setFld (TILE_FLT_KAT_VALID pos) 1

/-- The contiguous runs of resident regions of a TILE record: first region, regions, and blocks of the shadow before it. -/
def residentRuns (w : List W64) : List (Nat × Nat × Nat) :=
  (((List.range 96).filter (residentIn w)).zipIdx.foldl (fun (l : List (Nat × Nat × Nat)) x => match l with
    | (a, n, b) :: t => if a + n = x.1 then (a, n + 1, b) :: t else (x.1, 1, x.2) :: l
    | [] => [(x.1, 1, x.2)]) []).reverse

/-- The resident regions of a tile loaded from the shadow at an HBM offset, one descriptor of whole regions per contiguous
run (R208). -/
def Run.loadShadow (r : Run) (pos base : Nat) (w : List W64) : Run :=
  (residentRuns w).foldl (fun (r : Run) x => r.entry pos
    (mgmtDesc (2 ^ 44 + base + x.2.2 * 2 ^ 20) (((r.state.logical pos).getD 0) * 2 ^ 27 + x.1 * 2 ^ 20) (2 ^ 20) x.2.1 (2 ^ 20) false)) r

/-- A SEG record loaded: rows of 1 MiB, then what is left (log entry 107). -/
def Run.loadSeg (r : Run) (w : List W64) : Run :=
  match r.state.recordPos w with
  | none => r
  | some pos =>
    let src := 2 ^ 44 + recWordOf w 2
    let dst := ((r.state.logical pos).getD 0) * 2 ^ 27 + recWordOf w 1
    let rows := recWordOf w 3 / 2 ^ 20
    let rest := recWordOf w 3 % 2 ^ 20
    let r := if rows = 0 then r else r.entry pos (mgmtDesc src dst (2 ^ 20) rows (2 ^ 20) false)
    if rest = 0 then r else r.entry pos (mgmtDesc (src + rows * 2 ^ 20) (dst + rows * 2 ^ 20) rest 1 0 false)

/-- The records of a section loaded in order, with the type of the section and the place of the first that fails. -/
def Run.section (x : Run × Option (Nat × Nat)) (type : Nat) (l : List (List W64)) (f : Run → List W64 → Run) :
    Run × Option (Nat × Nat) :=
  l.zipIdx.foldl (fun (x : Run × Option (Nat × Nat)) e =>
    if x.1.refused.isSome then x
    else
      let r := f x.1 e.1
      (r, if r.refused.isSome then some (type, e.2) else none)) x

/-- SYNC records set (step 8). -/
def State.loadSync (s : State) (i : Manifest) : State :=
  i.sync.foldl (fun (s : State) w =>
    let o := bitsOf (recWordOf w 0) 0 17
    (s.setObj o { s.obj o with count := BitVec.ofNat 32 (bitsOf (recWordOf w 0) 32 32) }).countChanged o) s

/-- Windows of the TILE records opened, LO and then HI (step 9). -/
def State.openWindows (s : State) (i : Manifest) : State :=
  i.tile.foldl (fun (s : State) w =>
    match s.recordPos w with
    | none => s
    | some pos => (List.range 16).foldl (fun (s : State) n =>
        let lo := recWordOf w (16 + 2 * n)
        let hi := recWordOf w (17 + 2 * n)
        if Nat.testBit hi 63 then s.winSet pos n lo (setBitsOf hi 63 1 0) 0 3 n
        else (s.wr (TILE_SPAD_WINn_LO pos n) lo).wr (TILE_SPAD_WINn_HI pos n) hi) s) s

/-- A tile's resident attributes and reach entries from its TILE record (step 4); an entry that names no logical ID of the
partition with a position is discarded with a decode fault (R118). -/
def State.loadTile (s : State) (pos : Nat) (w : List W64) : State :=
  let s := (s.wr (TILE_SPAD_RESIDENT0 pos) (recWordOf w 1)).wr (TILE_SPAD_RESIDENT1 pos) (recWordOf w 2)
  (List.range 4).foldl (fun (s : State) d =>
    let r := recWordOf w (3 + d)
    if !Nat.testBit r 15 || s.reachOk pos (bitsOf r 0 9) then s.setReach pos d (bitsOf r 0 9) (Nat.testBit r 15)
    else s.decodeFault true (TILE_SPAD_REACH_d pos d).addr) s

/-- A tile cleared whole: every region, with no region resident (R130, step 3). -/
def State.clearTile (s : State) (pos : Nat) : State :=
  (((s.wr (TILE_SPAD_RESIDENT0 pos) 0).wr (TILE_SPAD_RESIDENT1 pos) 0).clearNonResident pos).winsClosed pos

/-- A LOAD that fails: IDLE, with the cause (R265). -/
def State.loadFailed (s : State) (p : Nat) (e : Nat × Nat × Nat) : State :=
  ((s.wr (MGMT_PARTp_LOADERR p) (packFields [(0, 4, e.1), (4, 4, e.2.1), (32, 32, e.2.2)])).setPart p 1).modPart p
    (fun x => { x with image := none, owed := [] })

/-- Steps 3 to 5: tiles cleared, attributes and reach entries, tables and EPOCH. -/
def State.loadTables (s : State) (p : Nat) (i : Manifest) : State :=
  let active := (s.partPositions p).filter (fun pos => decide (s.status pos = 1))
  let s := active.foldl (fun (s : State) pos => s.clearTile pos) s
  let s := i.tile.foldl (fun (s : State) w => match s.recordPos w with
    | some pos => s.loadTile pos w
    | none => s) s
  let s := (s.partPositions p).foldl (fun (s : State) pos =>
    (s.clearTables pos [false, true]).setFld (TILE_NET_CFG_EPOCH pos) 0) s
  let s := (s.partGroves p).foldl (fun (s : State) g => s.clearRoutes g) s
  i.table.foldl (fun (s : State) w => (s.putRecord p false w).putRecord p true w) s

/-- Steps 6 and 7: code, the test kernel in every core's store, shadows and SEG records; and the record that failed. -/
def State.loadData (s : State) (p : Nat) (i : Manifest) : Run × Option (Nat × Nat) :=
  let x := Run.section (⟨s, none⟩, none) 2 i.core Run.loadCore
  let s := i.tile.foldl (fun (s : State) w => match s.recordPos w with
    | some pos => (s.writeKernels pos i.kbase).setKat i pos
    | none => s) x.1.state
  let others := (List.range 16).any (fun q => decide (q ≠ p) && decide (s.partState q = 4))
  let s := if others then s else (s.partPositions p).foldl (fun (s : State) pos => s.setFld (TILE_MOV_CFG_PACE pos) 4) s
  let x : Run × Option (Nat × Nat) := (⟨s, x.1.refused⟩, x.2)
  let x := if i.shadow = 0 then x else Run.section x 3 i.tile (fun r w => match r.state.recordPos w with
    | some pos => r.loadShadow pos (recWordOf w 7) w
    | none => r)
  Run.section x 4 i.seg Run.loadSeg

/-- LOAD (R264, R265). -/
def State.loadImage (s : State) (p : Nat) : State :=
  let a := s.fld (MGMT_PARTp_IMAGE_ADDR p)
  let s := s.hostSeen a (s.hostNat (a + 0x18) 8)
  match s.loadFault p a with
  | some e => s.loadFailed p e
  | none =>
    let i := s.manifest a ((s.storeFit p (s.hostNat (a + 0x18) 8)).getD 0)
    let x := ((s.setPart p 2).loadTables p i).loadData p i
    match x.1.refused with
    | some _ =>
      let at_ := x.2.getD (0, 0)
      x.1.state.loadFailed p (11, ((sectionOf (s.sections a) at_.1).map Section.at_).getD 0, at_.2)
    | none =>
      let s := (x.1.state.loadSync i).openWindows i
      let s := s.modPart p (fun x => { x with image := some i, owed := [] })
      let s := (s.setCover p).wr (MGMT_PARTp_LOADERR p) 0
      let s := s.setFld (MGMT_PARTp_STATUS_FLOOR_LOW p) (if i.floor < s.fld PWR_CFG_FLOOR then 1 else 0)
      let s := (s.setFld (MGMT_PARTp_FSTAT_STALE p) 0).setFld (MGMT_PARTp_FSTAT_JOBDEAD p) 0
      (s.setFld (MGMT_PARTp_FSTAT_NOBOUNDARY p) 0).setPart p 3

/-! ## The other commands -/

/-- A command of a partition: refused with ERR where the state does not list it or another runs (R262, R270). -/
def partCommand (a : Agent) (p : Nat) (s : State) (from_ : List Nat) (f : State → State) : Out :=
  if 16 ≤ p then noUnit
  else allowed a .part (MGMT_PARTp_CMD p).addr s (fun s =>
    if s.flag (MGMT_PARTp_STATUS_BUSY p) || !from_.contains (s.partState p) then s.setFld (MGMT_PARTp_STATUS_ERR p) 1
    else f s)

/-- Groves that CREATE may take: enabled, ready, and in no partition, made or being made (R263). -/
def State.grovesFree (s : State) (p : Nat) : Bool :=
  decide (0 < popcount 36 (s.fld (MGMT_PARTp_CFG_GRVS p)))
    && (s.partGroves p).all (fun g => s.fuses.groves.getLsbD g && s.ready 0 g
      && (List.range 16).all (fun q => decide (q = p) || (decide (s.partState q = 0) && !s.flag (MGMT_PARTp_STATUS_BUSY q))
        || !Nat.testBit (s.fld (MGMT_PARTp_CFG_GRVS q)) g))

/-- The stacks of a partition's set. -/
def State.partStacks (s : State) (p : Nat) : List Nat := (List.range 48).filter (Nat.testBit (s.fld (MGMT_PARTp_HBMSET_SET p)))

/-- Whether CREATE's checks pass (R263), and nothing forbids a partition: the input voltage (R361), the coolant (R383),
the external test port (R333). -/
def State.createOk (s : State) (p : Nat) : Bool :=
  let lo := s.fld (MGMT_PARTp_GRANT_GBASE p)
  let hi := s.fld (MGMT_PARTp_GRANT_GLIMIT p)
  !s.power.badInput && !s.flag THM_STATUS_FLOW_LOST && !s.flag MGMT_TAP_CFG_EXT && s.grovesFree p && !(s.partStacks p).isEmpty
    && (s.partStacks p).all (fun k => s.fuses.stackMask.getLsbD k && !s.grantOverlap k (some p) lo hi)

/-- A CREATE ends once every grove of the partition runs: STATE IDLE. -/
def State.createDone (s : State) (p : Nat) : State :=
  if s.flag (MGMT_PARTp_STATUS_BUSY p) && decide (s.partState p = 0) && (s.partGroves p).all (fun g => decide (s.clkState g = 2)) then
    (s.setFld (MGMT_PARTp_STATUS_BUSY p) 0).setPart p 1
  else s

/-- What CREATE writes (R263). -/
def State.createPart (s : State) (p : Nat) : State :=
  let set := s.fld (MGMT_PARTp_HBMSET_SET p)
  let map := packFields [(0, 48, set), (48, 2, s.fld (MGMT_PARTp_CFG_GRAN p))]
  let s := (List.range 48).foldl (fun (s : State) k => if s.fuses.stackMask.getLsbD k then s.wr (HBM_MAPp k p) map else s) s
  let s := (s.partGroves p).foldl (fun (s : State) g => s.wr (GRV_HBM_MAP g) map) s
  let s := (List.range 16).foldl (fun (s : State) m => s.wr (FAB_DIE_HBM_MAPq m p) map) s
  let s := (s.partStacks p).foldl (fun (s : State) k =>
    (s.setFld (HBM_GRANTp_GBASE k p) (s.fld (MGMT_PARTp_GRANT_GBASE p))).setFld (HBM_GRANTp_GLIMIT k p) (s.fld (MGMT_PARTp_GRANT_GLIMIT p))) s
  let s := s.wr (SEQ_CKPT_BASEp p) (s.rd (MGMT_PARTp_CKPT p))
  let s := (s.partGroves p).foldl (fun (s : State) g => s.clearRoutes g) s
  let s := (s.partPositions p).foldl (fun (s : State) pos =>
    (s.clearTables pos [false, true]).setFld (TILE_NET_CFG_EPOCH pos) 0) s
  let s := s.setFld (MGMT_PARTp_FPOL_MEMPOL p) (bitsOf (s.stdWord 4) 0 1)
  let s := { s with sync := s.sync.filter (fun o =>
    !(decide (129024 + 128 * p ≤ o.1 ∧ o.1 < 129024 + 128 * (p + 1))
      || (match s.posOf (o.1 / 256) with
        | some pos => s.ownsPos p pos
        | none => false))) }
  (s.partGroves p).foldl (fun (s : State) g => s.groveWake g) (s.wr (MGMT_PARTp_FSTAT p) 0)

/-- CREATE (R263): with its checks passed, the partition's registers are written and its groves woken; STATE is IDLE
once they run. -/
def execCreate (a : Agent) (p : Nat) (s : State) : Out :=
  partCommand a p s [0] (fun s =>
    if s.createOk p then ((s.createPart p).setFld (MGMT_PARTp_STATUS_BUSY p) 1).createDone p
    else s.setFld (MGMT_PARTp_STATUS_ERR p) 1)

/-- LOAD (R264, R265). -/
def execLoad (a : Agent) (p : Nat) (s : State) : Out := partCommand a p s [1, 3] (fun s => s.loadImage p)

/-- A start announced for 60 µs ahead (R266; log entry 35). -/
def State.announce (s : State) (p tries : Nat) (recovery lost : Option Nat) : State :=
  s.modPart p (fun x => { x with announce := some ⟨s.now + 60 * usCounts, [], tries, recovery, lost⟩ })

/-- START (R266, R296, R383): announces a reference count; refused while STALE, STACK_LOST or FLOW_LOST is set. -/
def execStart (a : Agent) (p : Nat) (s : State) : Out :=
  partCommand a p s [3] (fun s =>
    if s.flag (MGMT_PARTp_FSTAT_STALE p) || s.flag (MGMT_PARTp_FSTAT_STACK_LOST p) || s.flag THM_STATUS_FLOW_LOST then
      s.setFld (MGMT_PARTp_STATUS_ERR p) 1
    else (s.setFld (MGMT_PARTp_STATUS_BUSY p) 1).announce p 0 none none)

/-- What a partition reset is followed by in RESET (R267): SYNC records, SEG records and windows. -/
def State.reapply (s : State) (p : Nat) : State :=
  match (s.part p).image with
  | none => s
  | some i =>
    (i.seg.foldl Run.loadSeg (⟨s.loadSync i, none⟩ : Run)).state.openWindows i

/-- A partition reset as by RESET, left LOADED (R267, R285). -/
def State.resetToLoaded (s : State) (p : Nat) : State :=
  ((s.partReset p).reapply p).setPart p 3

/-- RESET (R267). -/
def execReset (a : Agent) (p : Nat) (s : State) : Out := partCommand a p s [3, 4] (fun s => s.resetToLoaded p)

/-- What TEARDOWN removes (R268). -/
def State.tearDown (s : State) (p : Nat) : State :=
  let s := (s.setPart p 7).quiet p true
  let s := (s.partPositions p).foldl (fun (s : State) pos =>
    (List.range 4).foldl (fun (s : State) d => s.setReach pos d 0 false) (s.clearTables pos [false, true])) s
  let s := (List.range 50).foldl (fun (s : State) k => s.wr (HBM_GRANTp k p) 0) s
  let s := (List.range 64).foldl (fun (s : State) q =>
    s.setFld (FAB_ADMIT_ADMIT q) (setBitsOf (s.fld (FAB_ADMIT_ADMIT q)) p 1 0)) s
  let s := s.setFld (SEQ_CKPT_BASEp_VALID p) 0
  let gs := s.partGroves p
  let s := gs.foldl (fun (s : State) g => if s.fld (GRV_PWR_CFG_IDLE g) = 1 then s.groveDark g else s.groveKeep g) s
  (s.modPart p (fun _ => Part.init)).setPart p 0

/-- TEARDOWN (R268, R353). -/
def execTeardown (a : Agent) (p : Nat) (s : State) : Out := partCommand a p s [1, 3, 4, 6] (fun s => s.tearDown p)

/-- A manifest with the sections an UPDATE holds in place of its own (R269). -/
def Manifest.updated (i u : Manifest) (l : List Section) : Manifest :=
  { i with
    table := if (sectionOf l 6).isSome then u.table else i.table
    detourIndex := if (sectionOf l 7).isSome then u.detourIndex else i.detourIndex
    detourOvr := if (sectionOf l 8).isSome then u.detourOvr else i.detourOvr }

/-- A logical tile's code and resident regions loaded from its CORE records and a shadow (R293 step 6). -/
def Run.reloadTile (r : Run) (i : Manifest) (l : Nat) (shadow1 : Bool) : Run :=
  let r := (i.core.filter (fun w => bitsOf (recWordOf w 0) 0 9 = l)).foldl Run.loadCore r
  match r.state.posOf l with
  | none => r
  | some pos => (⟨(r.state.writeKernels pos i.kbase).setKat i pos, r.refused⟩ : Run).loadShadow pos (recWordOf (i.tileOf l) (if shadow1 then 8 else 7)) (i.tileOf l)

/-- STALE cleared by an UPDATE after which every trail walks; tiles still owed their contents are loaded first
(R296). -/
def State.unstale (s : State) (p : Nat) (i : Manifest) : State :=
  if !s.flag (MGMT_PARTp_FSTAT_STALE p) || !s.trailsWalk p then s
  else
    let r := if i.shadow = 0 then (⟨s, none⟩ : Run)
      else (s.part p).owed.foldl (fun (r : Run) l => r.reloadTile i l false) ⟨s, none⟩
    match r.refused with
    | some _ => r.state
    | none => (r.state.modPart p (fun x => { x with owed := [] })).setFld (MGMT_PARTp_FSTAT_STALE p) 0

/-- What UPDATE does once the last flip of the partition is complete (R269, R296): its TABLE records flipped in, its detour
sets in place of the stored ones. -/
def State.update (s : State) (p : Nat) : State :=
  match (s.part p).image with
  | none => s.setFld (MGMT_PARTp_STATUS_ERR p) 1
  | some i =>
    let at_ := s.fld (MGMT_PARTp_IMAGE_ADDR p)
    let s := s.hostSeen at_ (s.hostNat (at_ + 0x18) 8)
    if s.updateFault p at_ i then s.setFld (MGMT_PARTp_STATUS_ERR p) 1
    else
      let u := s.manifest at_ 0
      let i' := i.updated u (s.sections at_)
      let s := if u.table.isEmpty then s else s.flip p u.table
      let s := (s.modPart p (fun x => { x with image := some i' })).setFld (MGMT_PARTp_STATUS_COVERING p) 1
      s.unstale p i'

/-- UPDATE (R262, R269): while the last flip is not complete (R182) it waits, BUSY and COVERING, for the recomputation that
follows it (log entry 75). -/
def execUpdate (a : Agent) (p : Nat) (s : State) : Out :=
  partCommand a p s [3, 4] (fun s =>
    if s.flipped p then s.update p
    else ((s.modPart p (fun x => { x with updating := true })).setFld (MGMT_PARTp_STATUS_BUSY p) 1).setFld
      (MGMT_PARTp_STATUS_COVERING p) 1)

/-- COVERAGE_RECOMPUTE (R269, R274): an UPDATE that waited goes first, once its flip may begin. -/
def execCoverageRecompute (p : Nat) (s : State) : Out :=
  if 16 ≤ p then noUnit
  else when (s.flag (MGMT_PARTp_STATUS_COVERING p) && (!(s.part p).updating || s.flipped p)) s (fun s =>
    let s := if (s.part p).updating then
        ((s.modPart p (fun x => { x with updating := false })).setFld (MGMT_PARTp_STATUS_BUSY p) 0).update p
      else s
    s.setCover p)

/-! ## Scheduled starts (R266, R338) -/

/-- GROVE_ANNOUNCE_ACK (R266, R338, R340): a grove acknowledges the announcements made to it, until 10 µs before their
counts. -/
def execGroveAnnounceAck (g : Nat) (s : State) : Out :=
  if 36 ≤ g then noUnit
  else if s.clkState g = 0 then idle s
  else
    let s' := match s.partOfGrove g with
      | none => s
      | some p => match (s.part p).announce with
        | some x => if s.now + 10 * usCounts ≤ x.count then
            s.modPart p (fun y => { y with announce := some { x with acked := x.acked.add g } }) else s
        | none => s
    let s' := match s.clk.change with
      | some c => match c.at_ with
        | some t => if s.now + 10 * usCounts ≤ t then
            { s' with clk := { s'.clk with change := some { c with acked := c.acked.add g } } } else s'
        | none => s'
      | none => s'
    .next { s with parts := s'.parts, clk := s'.clk }

/-- A recovery or rewind counted as completed; the end of a rewind is noted for R288. -/
def State.recoveryDone (s : State) (p : Nat) (rewind : Bool) : State :=
  let s := s.setFld (MGMT_PARTp_FSTAT_RECOVERIES p) ((s.fld (MGMT_PARTp_FSTAT_RECOVERIES p) + 1) % 2 ^ 16)
  if rewind then s.modPart p (fun x => { x with rewound := some s.now }) else s

/-- The start itself (R266, R293 step 9): RUN in every core that has a CORE record. -/
def State.runPart (s : State) (p : Nat) (recovery : Option Nat) : State :=
  let rewind := decide (s.partState p = 3)
  let s := match (s.part p).image with
    | none => s
    | some i => i.core.foldl (fun (s : State) w => match s.recordPos w with
      | none => s
      | some pos =>
        let c := bitsOf (recWordOf w 0) 9 3
        if s.flag (TILE_CORE_CTRL_RUN pos c) then s else s.startCore pos c) s
  let s := (s.setPart p 4).setFld (MGMT_PARTp_STATUS_BUSY p) 0
  let s := s.modPart p (fun x => { x with announce := none })
  match recovery with
  | none => s.setFld (MGMT_PARTp_FSTAT_JOBDEAD p) 0
  | some r =>
    let s := s.wr (MGMT_PARTp_RTIME p) ((s.now - r) / usCounts % 2 ^ 32)
    let s := s.recoveryDone p rewind
    if (s.part p).image.isSome then s.setFld (MGMT_PARTp_STATUS_COVERING p) 1 else s

/-- SCHEDULED_RUN (R266, R338): at the announced count RUN takes effect. Where a grove has not acknowledged 10 µs
before, the announcement is cancelled and repeated, up to 3 times; then the start is refused. -/
def execScheduledRun (p : Nat) (s : State) : Out :=
  if 16 ≤ p then noUnit
  else match (s.part p).announce with
    | none => idle s
    | some x =>
      if (s.partGroves p).all (fun g => x.acked.has g) then answerRef x.count s (fun s => s.runPart p x.recovery)
      else answerRef (x.count - 10 * usCounts) s (fun s =>
        if x.tries < 3 then s.announce p (x.tries + 1) x.recovery x.lost
        else (((s.modPart p (fun y => { y with announce := none })).setFld (MGMT_PARTp_STATUS_BUSY p) 0).setFld
          (MGMT_PARTp_STATUS_ERR p) 1).setPart p 3)

end Sys2Proof.Machine
end

