-- ==== Sys2Proof/Machine/Collector.lean ====
section
/-! DEFINITION. The fault collector (R276 to R284, R436, R437): records as words, their arrival, acknowledgement and
ALIVE; the commands of the FLT block that software writes; understory messages. -/

namespace Sys2Proof.Machine

/-! ## A record as it is stored (R281) -/

/-- A partition or logical ID as a number, 0 where there is none. -/
def orZero (o : Option Nat) : Nat := o.getD 0

/-- The four 64-bit words of a record: 32-bit words 0 and 1, 2 and 3, 4 and 5, 6 and 7. -/
def FaultRec.words (r : FaultRec) : List W64 :=
  [ BitVec.ofNat 64 (packFields [(0, 14, r.source), (14, 3, r.domain), (17, 1, r.forced.toNat), (18, 4, orZero r.part)
      , (22, 1, r.part.isSome.toNat), (23, 9, orZero r.logical), (32, 10, r.pos), (42, 1, r.logical.isSome.toNat)
      , (48, 16, r.cause)])
  , BitVec.ofNat 64 r.refcount
  , BitVec.ofNat 64 (packFields [(0, 8, orZero r.slot), (8, 1, r.slot.isSome.toNat), (9, 3, orZero r.core)
      , (12, 1, r.core.isSome.toNat), (13, 11, r.tpc), (24, 1, r.halted.toNat), (32, 32, r.seqNo)])
  , BitVec.ofNat 64 r.detail ]

/-! ## ALIVE (R284, R427, R429) -/

/-- ACK_DL in reference counts. -/
def State.ackDeadline (s : State) : Nat := s.fld FLT_CFG_ACK_DL * msCounts

/-- Whether a record has been unacknowledged for longer than ACK_DL. -/
def State.overdue (s : State) : Bool := s.faults.unacked.any (fun r => decide (r.2 + s.ackDeadline < s.now))

/-- SMB_ALERT_N follows OVERDUE, SHUTDOWN, FLOW_LOST and ROMREC (R429). -/
def State.setAlert (s : State) : State :=
  { s with pins := { s.pins with alert := s.flag FLT_STATUS_OVERDUE || s.flag THM_STATUS_SHUTDOWN || s.flag THM_STATUS_FLOW_LOST
                                    || s.flag MGMT_STATUS_ROMREC } }

/-- ALIVE toggles while no record is overdue, the watchdog is refreshed, the controller runs and the panel is out of
reset. -/
def State.setAlive (s : State) : State :=
  let on := s.flag MGMT_READY_MISC_MGMT && !s.flag FLT_STATUS_OVERDUE && !s.mgmt.down && !s.mgmt.late && !s.pins.inReset
  let s := s.setFld FLT_STATUS_TOGGLING on.toNat
  ({ s with pins := { s.pins with alive := on } }).setAlert

/-- Whether the management controller runs: out of reset, not restarting, with its input. -/
def State.controllerUp (s : State) : Bool := s.boot.started && !s.pins.inReset && !s.mgmt.down

/-- The hardware watchdog at the end of a millisecond in which the controller refreshed it or did not: 10 ms without a
refresh hold ALIVE low (R284, R386, log entry 112). -/
def State.watchRefresh (s : State) (r : Bool) : State :=
  if s.controllerUp then
    let t := if r then s.now else s.mgmt.refreshed
    ({ s with mgmt := { s.mgmt with refreshed := t, late := decide (t + 10 * msCounts < s.now) } }).setAlive
  else s

/-! ## Arrival (R282, R283) -/

/-- FLT_LOST_CNT. -/
def faultsLost : Counter := ⟨FLT_LOST_CNT, srcDev 11, 0x20⟩

/-- The domain whose action a record brings (R285, R286): a POLICY record is decided by MEMPOL of its partition, and is
POLICY still where that policy resets. A forced record brings none unless FORCE_ACT is 1 (R280). -/
def State.actionOf (s : State) (r : FaultRec) : Nat :=
  if r.forced && !s.flag FLT_CFG_FORCE_ACT then 0
  else if r.domain ≠ 6 then (if r.domain = 7 then 0 else r.domain)
  else match r.part with
    | none => 0
    | some p =>
      if s.flag (MGMT_PARTp_FPOL_MEMPOL p) then 6
      else if r.source < 0x2D00 ∧ r.source % 20 < 8 then 1 else 0

/-- A record arrives: SEQ, STATUS and COUNT of its source, the event log, the ring or FLT_LOST_CNT, and its action
queued in SEQ order. -/
def State.arrive (s : State) (r : FaultRec) : State :=
  let n := s.fld FLT_HEAD_SEQ
  let r : FaultRec := { r with seqNo := n, arrived := s.now }
  let s := s.setFld FLT_HEAD_SEQ ((n + 1) % 2 ^ 32)
  let s := (s.setFld (FLT_SRCn_STATUS r.source) 1).setFld (FLT_SRCn_COUNT r.source)
    (min (s.fld (FLT_SRCn_COUNT r.source) + 1) 0xFFFFFFFF)
  let s := s.log 1 32 r.words
  let s := { s with faults := { s.faults with unacked := s.faults.unacked ++ [(n, s.now)] } }
  let d := s.actionOf r
  let s := if d = 0 then s else
    let r' : FaultRec := { r with domain := d }
    { s with faults := { s.faults with actions := s.faults.actions ++ [r'] } }
  if (n + 2 ^ 32 - s.fld FLT_ACK_SEQ) % 2 ^ 32 ≤ 4096 then
    let s := { s with faults := { s.faults with ring := s.faults.ring.insert (n % 4096) r, losing := false } }
    s.irq 96
  else
    let s := s.count faultsLost 1
    if s.faults.losing then s
    else
      let s := { s with faults := { s.faults with losing := true } }
      s.raise (srcDev 11) 1 (s.fld FLT_LOST_CNT_COUNT)

/-- The answer of the collector's commands: registers, records, the log, interrupts and pins. -/
def answerFlt (s t : State) : Out :=
  answer s { s with csr := t.csr, faults := t.faults, mgmt := t.mgmt, bridge := t.bridge, pins := t.pins }

/-- The record `n` of those on their way, if it is the first of its source. -/
def State.nextRecord (s : State) (n : Nat) : Option FaultRec :=
  match s.faults.flying[n]? with
  | none => none
  | some r => if (s.faults.flying.take n).any (fun q => decide (q.source = r.source)) then none else some r

/-- A record taken off its way and given to the collector. -/
def State.received (s : State) (n : Nat) (r : FaultRec) : State :=
  let s := { s with faults := { s.faults with flying := removeAt s.faults.flying n } }
  s.arrive r

/-- FAULT_RECORD_ARRIVAL (R282, R283): record `n` of those on their way arrives; the records of one source arrive in
order. -/
def execFaultRecordArrival (n : Nat) (s : State) : Out :=
  match s.nextRecord n with
  | none => idle s
  | some r => answerFlt s (s.received n r)

/-- The node at which a sync message ends its way over links, if it takes one (R189). -/
def State.farNode (s : State) (m : SyncMsg) : Option Nat :=
  match s.homeOf m with
  | .node q => if q = m.pos then none else some q
  | .unit => some s.rootNode
  | _ => none

/-- Whether a message has a word that cannot be put right, or that carries poison (R178, R187). -/
def messageBroken (e : LinkErrors) : Bool := !e.words.isEmpty || e.poisoned

/-- A message dropped at a node for a word error: counted, and recorded as a network drop (R187). -/
def State.messageLost (s : State) (q : Nat) : State :=
  (s.count (tileCounter q (TILE_NET_DROP_CNT q)) 1).raise (srcPos q 19) 4 0

/-- A message delayed at the node that its command names. -/
def State.delayedBy (s : State) : Option Nat → State
  | none => s
  | some q => s.delayedAt q

/-- CNET_MESSAGE (R187, R188, R190): the tail of an understory message arrives and it takes effect, or is dropped for an
error in its words: sync message `n`, or, past those, a fault record, or, past these, the CTRL message of another
command, whose effect is that command's and which is lost where its words are broken. `node` is where a SYNC message from
another grove, whose time no rule gives, delayed this one; or where the CTRL message goes. -/
def execCnetMessage (n : Nat) (e : LinkErrors) (node : Option Nat) (s : State) : Out :=
  if node.any (fun q => decide (576 ≤ q)) then noUnit
  else match s.msgs[n]? with
  | some m =>
    if !s.syncReady n m then idle s
    else match s.farNode m with
      | none => answerSync s ((s.applyMsg n m).countChanged m.obj)
      | some q =>
        let t := (s.corrected q e.single).delayedBy node
        if messageBroken e then answerSync s ((t.msgDone n m).messageLost q) else answerSync s ((t.applyMsg n m).countChanged m.obj)
  | none =>
    let i := n - s.msgs.length
    match s.nextRecord i with
    | some r =>
      let t := s.corrected s.rootNode e.single
      if messageBroken e then
        answerFlt s (({ t with faults := { t.faults with flying := removeAt t.faults.flying i } }).messageLost s.rootNode)
      else answerFlt s (t.received i r)
    | none =>
      match node with
      | some q =>
        if i < s.faults.flying.length ∨ s.routerUp q = false then idle s
        else
          let t := s.corrected q e.single
          answerFlt s (if messageBroken e then t.messageLost q else t)
      | none => idle s

/-! ## What software writes (R280, R283, R289, R303) -/

/-- FORCE (R280): one record of the source with CAUSE 0 and DETAIL 0, as if it had arrived. -/
def execForce (a : Agent) (source : Nat) (s : State) : Out :=
  if 14000 ≤ source then noUnit
  else allowed a .flt (FLT_SRCn source).addr s (fun s =>
    let r : FaultRec := { s.record source 0 0 with forced := true }
    s.arrive r)

/-- Whether FLT_ACK may take a SEQ: neither behind it nor past the last SEQ assigned (R283). -/
def State.ackOk (s : State) (v : Nat) : Bool :=
  let a := s.fld FLT_ACK_SEQ
  decide ((v % 2 ^ 32 + 2 ^ 32 - a) % 2 ^ 32 ≤ (s.fld FLT_HEAD_SEQ + 2 ^ 32 - 1 - a) % 2 ^ 32)

/-- Records acknowledged up to a SEQ (R139, R283), and OVERDUE and ALIVE as that leaves them. -/
def State.acknowledge (s : State) (v : Nat) : State :=
  let s := s.setFld FLT_ACK_SEQ (v % 2 ^ 32)
  let s := { s with faults := { s.faults with
    unacked := s.faults.unacked.filter (fun r => decide (2 ^ 31 ≤ (v % 2 ^ 32 + 2 ^ 32 - r.1) % 2 ^ 32)) } }
  (s.setFld FLT_STATUS_OVERDUE (if s.flag FLT_STATUS_OVERDUE && s.overdue then 1 else 0)).setAlive

/-- FLT_ACK_WRITE (R283): acknowledgement is cumulative; a write that moves backward or too far is a decode fault. -/
def execFltAckWrite (a : Agent) (value : W64) (s : State) : Out :=
  allowed a .flt FLT_ACK.addr s (fun s =>
    let v := bitsOf value.toNat 0 32
    if s.ackOk v then s.acknowledge v else s.decodeFault true FLT_ACK.addr)

/-- DECLARE (R289, R303): source 16 with CAUSE 2 for an active or sapling position; any other is a decode fault. -/
def execDeclare (a : Agent) (pos : Nat) (s : State) : Out :=
  if 1024 ≤ pos then noUnit
  else allowed a .flt FLT_CMD.addr s (fun s =>
    if pos < 576 ∧ (s.status pos = 1 ∨ s.status pos = 2) then s.raise (srcPos pos 16) 2 0 else s.decodeFault true FLT_CMD.addr)

/-- The oldest unacknowledged record's arrival. -/
def State.oldestUnacked (s : State) : Option Nat := s.faults.unacked.head?.map (·.2)

/-- ACK_DEADLINE_EXPIRY (R284): a record stands unacknowledged past ACK_DL: OVERDUE, ALIVE held low, interrupt 97. -/
def execAckDeadlineExpiry (s : State) : Out :=
  match s.oldestUnacked with
  | none => idle s
  | some t =>
    if s.flag FLT_STATUS_OVERDUE then idle s
    else answerRef (t + s.ackDeadline + 1) s (fun s => ((s.setFld FLT_STATUS_OVERDUE 1).setAlive).irq 97)

end Sys2Proof.Machine
end

