-- ==== Sys2Proof/Machine/Recovery.lean ====
section
/-! DEFINITION. What the domain actions do (R285 to R297): the death of a job, the loss of a tile and its recovery,
rewinds, and the loss of a grove or of the whole device. An action takes effect whole (log entry 34). -/

namespace Sys2Proof.Machine

/-! ## A job (R287) -/

/-- A slot bound to a dead job: ACTIVE or HELD becomes FAILED (R156). -/
def State.failSlot (s : State) (k : Nat) : State :=
  if s.slotState k = 1 ∨ s.slotState k = 2 then s.setSlotState k 3 else s

/-- The job a record names dies: the slot, for a core in its handler; else the partition invocation. A feeder collision
always kills the invocation. -/
def State.jobDies (s : State) (r : FaultRec) : State :=
  match r.part with
  | none => s
  | some p =>
    let slot (s : State) : State := match r.slot with
      | some k => s.failSlot k
      | none => s
    if r.slot.isSome ∧ r.halted = false ∧ r.source % 20 ≠ 18 then slot s
    else
      let s := (s.partPositions p).foldl (fun (s : State) pos => (List.range 8).foldl (fun (s : State) c => s.haltCore pos c) s) s
      slot (s.setFld (MGMT_PARTp_FSTAT_JOBDEAD p) 1)

/-! ## The fence and the takeover (R257, R293 steps 2 and 4) -/

/-- A router and node taken out of service: what stands in the router is gone. Its adds stay in flight until the reset that
follows discards them (R144, R153); those of the host, which it only passed on, start at the other root node. -/
def State.routerGone (s : State) (x : Nat) : State :=
  let s := ((List.range 8).foldl (fun (s : State) c => s.stopCore x c) s).dropAccesses x
  { s with
    net := s.net.filter (fun (i : NetItem) => decide (i.place.pos ≠ x))
    track := SMap.clear s.track (x * 64) (x * 64 + 64)
    combine := SMap.clear s.combine (x * 1024) (x * 1024 + 1024)
    msgs := s.msgs.map (fun (m : SyncMsg) => if m.pos = x ∧ m.kind = 3 then { m with pos := if x = 0 then 24 else 0 } else m)
    tiles := s.tiles.erase x }

/-- Positions of a grove with status 1 or 2. -/
def State.working (s : State) (g : Nat) : List Nat :=
  ((List.range 16).map (posOfGrove g)).filter (fun q => decide (s.status q = 1) || decide (s.status q = 2))

/-- The tables round a grove rewritten and the readiness bits brought up to date; a grove with fewer than 14 working
positions is not ready (R189, R296, R329). -/
def State.reroute (s : State) (g : Nat) : State :=
  let s := (s.setHops g).rewriteTrails
  let s := if (s.working g).length < 14 then s.setReady 0 g false else s
  s.refreshReady

/-- A position made deadfall (R289, R293 step 2). -/
def State.fencePos (s : State) (x : Nat) : State :=
  let s := ((s.routerGone x).setStatus x 4).bracket
  ((s.addFence 1 x 2).healthEvent 10).reroute (groveOf x)

/-- The sapling of a lost position's grove takes its logical ID, or the ID is left without a position (R257, R293 step 4,
R296). -/
def State.takeover (s : State) (p : Option Nat) (x l : Nat) : State :=
  let s := s.setElem DESC_REV_MAP 16 x 0
  match s.saplingOf (groveOf x) with
  | none => (s.mapAll l 0).bracket
  | some y =>
    let s := (s.setStatus y 1).setElem DESC_REV_MAP 16 y (0x8000 + l)
    let s := ((s.mapAll l (posEntry y)).bracket).clearTile y
    let s := match p.bind (fun q => (s.part q).image) with
      | some i => s.loadTile y (i.tileOf l)
      | none => s
    let s := if (s.saplingOf (groveOf x)).isNone then s.healthEvent 12 else s
    s.rewriteTrails

/-! ## The restart boundary (R292) -/

/-- `n` pieces of 256 bytes of a partition's HBM read by the management subsystem from offset `off`, as one number; none
where a piece is refused. -/
def State.readParts (s : State) (pos off : Nat) : Nat → Option Nat × State
  | 0 => (some 0, s)
  | n + 1 =>
    match s.readParts pos off n with
    | (none, t) => (none, t)
    | (some v, t) =>
      let a := 2 ^ 44 + off + 256 * n
      match t.destOf pos (BitVec.ofNat 48 a) with
      | none => (none, t)
      | some d =>
        let part := (t.partOf pos).getD 0
        if (t.hbmRefusal (d - 512) part a 2 tREAD).isSome ∨ t.fld (HBM_STATUS_STATE (d - 512)) = 2 then (none, t)
        else
          let r := (t.hbmDrain (d - 512) (t.stackAddr (d - 512) part a)).hbmRead (d - 512) (t.stackAddr (d - 512) part a) 256 part
          (some (v + r.1 * 2 ^ (2048 * n)), r.2.2)

/-- A sync checkpoint record of a logical tile: its INVCOUNT and its 1,024 bytes of counts, where its commit word is good
(R148). -/
structure CkptRec where
  logical : Nat
  inv : Nat
  counts : Nat
  deriving DecidableEq, Repr

/-- The checkpoint records of a partition's tiles. -/
def State.ckptRecords (s : State) (p : Nat) (i : Manifest) : List CkptRec × State :=
  let pos := (s.partPositions p).headD 0
  i.tile.foldl (fun (acc : List CkptRec × State) w => [0, 1].foldl (fun (acc : List CkptRec × State) inv =>
    let l := recWordOf w 0
    match acc.2.readParts pos (ckptOffset (acc.2.fld (SEQ_CKPT_BASEp_BASE p)) l inv) 5 with
    | (none, t) => (acc.1, t)
    | (some v, t) =>
      if bitsOf v 8256 64 = 2 ^ 64 - 1 - bitsOf v 8192 64 then
        let c : CkptRec := ⟨l, bitsOf v 8192 64, bitsOf v 0 8192⟩
        (acc.1 ++ [c], t)
      else (acc.1, t)) acc) ([], s)

/-- The least of a list. -/
def leastOf : List Nat → Option Nat
  | [] => none
  | a :: l => match leastOf l with
    | none => some a
    | some b => some (min a b)

/-- The restart boundary N and the records for it: N is the least, over the tiles, of their latest INVCOUNT, and every
tile must hold a record for N. FSTAT.NOBOUNDARY or RESTART_N is set. -/
def State.boundaryOf (s : State) (p : Nat) (i : Manifest) : Option (Nat × List CkptRec) × State :=
  if !s.flag (SEQ_CKPT_BASEp_VALID p) then (none, s.setFld (MGMT_PARTp_FSTAT_NOBOUNDARY p) 1)
  else
    let r := s.ckptRecords p i
    let latest (w : List W64) : Nat := ((r.1.filter (fun c => decide (c.logical = recWordOf w 0))).map CkptRec.inv).foldl max 0
    match leastOf (i.tile.map latest) with
    | none => (none, r.2.setFld (MGMT_PARTp_FSTAT_NOBOUNDARY p) 1)
    | some n =>
      let l := i.tile.filterMap (fun w => r.1.find? (fun c => decide (c.logical = recWordOf w 0 ∧ c.inv = n)))
      if l.length = i.tile.length then (some (n, l), r.2.setFld (MGMT_PARTp_FSTAT_RESTART_N p) (n % 2 ^ 32))
      else (none, r.2.setFld (MGMT_PARTp_FSTAT_NOBOUNDARY p) 1)

/-! ## Restoring a boundary (R293 steps 6 to 8) -/

/-- What step 1 keeps: the host objects of a partition, and its ACTIVE slots. -/
structure Kept where
  objects : List (Nat × SyncObj)
  slots : List Nat

/-- The slots that a partition owns and that are not FREE. -/
def State.slotsOf (s : State) (p : Nat) : List Nat :=
  (List.range 256).filter (fun k => decide (s.slotState k ≠ 0) && decide (s.fld (SEQ_SLOTs_STATE_OWNER k) = p))

/-- The snapshot of step 1. -/
def State.keep (s : State) (p : Nat) : Kept where
  objects := (List.range 128).map (fun e => (129024 + 128 * p + e, s.obj (129024 + 128 * p + e)))
  slots := (s.slotsOf p).filter (fun k => decide (s.slotState k = 1))

/-- Step 6: code and resident regions of the lost tile, if one is named, resident regions of every tile where the shadow
mode or a rewind asks, and every SEG record. -/
def State.reload (s : State) (i : Manifest) (lost : Option Nat) (n : Nat) : Run :=
  let r : Run := ⟨s, none⟩
  let alt := decide (i.shadow = 2 ∧ n % 2 = 1)
  let r := match lost with
    | some l => r.reloadTile i l alt
    | none => r
  let all := decide (i.shadow = 2) || (decide (i.shadow = 1) && lost.isNone)
  let r := if all then i.tile.foldl (fun (r : Run) w =>
      if lost = some (recWordOf w 0) then r
      else match r.state.recordPos w with
        | some pos => r.loadShadow pos (recWordOf w (if alt then 8 else 7)) w
        | none => r) r
    else r
  i.seg.foldl (fun (r : Run) w => r.loadSeg w) r

/-- Steps 7 and 8: counts, host objects, INVCOUNT, slots and windows. -/
def State.restore (s : State) (p : Nat) (i : Manifest) (n : Nat) (records : List CkptRec) (k : Kept) : State :=
  let s := records.foldl (fun (s : State) c => (List.range 256).foldl (fun (s : State) e =>
    let o := c.logical * 256 + e
    (s.setObj o { s.obj o with count := BitVec.ofNat 32 (bitsOf c.counts (32 * e) 32) }).countChanged o) s) s
  let s := k.objects.foldl (fun (s : State) o => (s.setObj o.1 o.2).countChanged o.1) s
  let s := i.core.foldl (fun (s : State) w => match s.recordPos w with
    | some pos => s.wr (TILE_CORE_INVCOUNT pos (bitsOf (recWordOf w 0) 9 3)) n
    | none => s) s
  let s := (s.slotsOf p).foldl (fun (s : State) q =>
    if s.slotState q = 3 then s else s.setFld (SEQ_SLOTs_LEN_LENGTH q) (s.fld (SEQ_SLOTs_STATE_MARK q))) s
  let s := k.slots.foldl (fun (s : State) q => if s.slotState q = 2 then s.setSlotState q 1 else s) s
  s.openWindows i

/-- A partition's waiting start given up. -/
def State.unannounce (s : State) (p : Nat) : State :=
  (s.modPart p (fun x => { x with announce := none, updating := false })).setFld (MGMT_PARTp_STATUS_BUSY p) 0

/-- A loss that leaves a partition LOADED with STALE set (R296). -/
def State.goStale (s : State) (p : Nat) : State := ((s.unannounce p).setFld (MGMT_PARTp_FSTAT_STALE p) 1).setPart p 3

/-! ## The loss of a tile (R293, R296, R297) -/

/-- The detour sets of every partition other than `own` that holds one for `x`, applied by flip while it runs. -/
def State.detourOthers (s : State) (own : Option Nat) (x : Nat) : State :=
  (List.range 16).foldl (fun (s : State) q =>
    if own = some q then s
    else match (s.part q).image with
      | none => s
      | some i => match i.setOf x with
        | some w => s.flip q (i.setRecords w)
        | none => s) s

/-- Whether the loss of an active position is recovered with no operator (R296), but for the boundary. -/
def State.recoverable (s : State) (p x : Nat) : Bool :=
  decide (s.partState p = 4) && Nat.testBit (s.rd (MGMT_PARTp_COVERw p (x / 64))) (x % 64)
    && !s.flag (MGMT_PARTp_STATUS_COVERING p) && s.flag (MGMT_PARTp_FPOL_AUTO p)
    && (match (s.part p).image with
      | some i => decide (i.shadow ≠ 0)
      | none => false)

/-- Steps 6 to 9 after a takeover with a restart boundary. -/
def State.finishRecovery (s : State) (p l : Nat) (i : Manifest) (n : Nat) (records : List CkptRec) (k : Kept)
    (since : Nat) : State :=
  let r := s.reload i (some l) n
  match r.refused with
  | some _ => r.state.goStale p
  | none => (r.state.restore p i n records k).announce p 0 (some since) (some l)

/-- Step 5: the detour set of a lost position flipped in. -/
def State.detour (s : State) (p x : Nat) (i : Manifest) : State :=
  match i.setOf x with
  | some w => s.flip p (i.setRecords w)
  | none => s

/-- A recovery that waits for its restart when the management controller comes back: it goes again from step 3; its fence,
takeover and detour stand (R297). -/
def State.redoRecovery (s : State) (p : Nat) : State :=
  match (s.part p).announce, (s.part p).image with
  | some ⟨_, _, _, some since, some l⟩, some i =>
    if s.partState p ≠ 6 then s
    else
      let k := s.keep p
      let b := ((s.unannounce p).partClear p).boundaryOf p i
      match b.1 with
      | some (n, records) => b.2.finishRecovery p l i n records k since
      | none => b.2.goStale p
  | _, _ => s

/-- An active position of a loaded partition is lost: steps 1 to 4, and, for a covered loss, the rest. -/
def State.loseActive (s : State) (p x l : Nat) (i : Manifest) (since : Nat) : State :=
  let covered := s.recoverable p x
  let k := s.keep p
  let s := (((s.unannounce p).haltPart p).setPart p 6).fencePos x
  let b := (s.partClear p).boundaryOf p i
  let spare := (b.2.saplingOf (groveOf x)).isSome
  let s := b.2.takeover (some p) x l
  match b.1 with
  | some (n, records) =>
    if covered then (s.detour p x i).finishRecovery p l i n records k since
    else (s.goStale p).modPart p (fun y => { y with owed := if spare then y.owed.add l else y.owed })
  | none => (s.goStale p).modPart p (fun y => { y with owed := if spare then y.owed.add l else y.owed })

/-- An active position of a partition without an image is lost: halt, fence, partition reset, takeover; the partition is
left as it was (R144, R152, R296). -/
def State.loseBare (s : State) (p x l : Nat) : State :=
  let st := s.partState p
  ((((((s.unannounce p).haltPart p).setPart p 6).fencePos x).partClear p).takeover none x l).setPart p st

/-- A TILE action at a position: nothing where it is deadfall already (R285); else the fence, and what the loss brings. -/
def State.loseTile (s : State) (x since : Nat) : State :=
  if s.status x ≠ 1 ∧ s.status x ≠ 2 then s
  else
    let p := s.partOf x
    match s.logical x, p, p.bind (fun q => (s.part q).image) with
    | some l, some q, some i => (s.loseActive q x l i since).detourOthers (some q) x
    | some l, some q, none => (s.loseBare q x l).detourOthers none x
    | some l, none, _ => ((s.fencePos x).takeover none x l).detourOthers none x
    | none, _, _ => (s.fencePos x).detourOthers none x

/-! ## Rewinds and resets (R288, R295) -/

/-- A partition reset as by RESET and left LOADED; one with no image is left IDLE. -/
def State.resetPart (s : State) (p : Nat) : State :=
  let s := s.unannounce p
  if (s.part p).image.isSome then s.resetToLoaded p else (s.partReset p).setPart p 1

/-- A rewind of a loaded partition: steps 1, 3 and 6 to 9 of R293. -/
def State.rewindPart (s : State) (p since : Nat) : State :=
  match (s.part p).image with
  | none => s
  | some i =>
    let running := decide (s.partState p = 4 ∨ s.partState p = 6)
    let k := s.keep p
    let s := (s.haltPart p).modPart p (fun x => { x with rewindFrom := some s.now })
    let b := (s.partReset p).boundaryOf p i
    match b.1 with
    | none => (b.2.modPart p (fun x => { x with rewound := some s.now })).setPart p 3
    | some (n, records) =>
      let r := b.2.reload i none n
      match r.refused with
      | some _ => r.state.goStale p
      | none =>
        let s := (r.state.restore p i n records k).setPart p 3
        if running then (s.setFld (MGMT_PARTp_STATUS_BUSY p) 1).announce p 0 (some since) none
        else s.recoveryDone p true

/-- Whether a rewind of a partition waits for its restart. -/
def State.rewinding (s : State) (p : Nat) : Bool :=
  match (s.part p).announce with
  | some a => a.recovery.isSome && a.lost.isNone
  | none => false

/-- Whether a record came while the last rewind of a partition ran, or within 10 s of its end (R288). -/
def State.afterRewind (s : State) (p : Nat) (r : FaultRec) : Bool :=
  let since := match (s.part p).rewindFrom with
    | some t => decide (t ≤ r.arrived)
    | none => false
  let recent := match (s.part p).rewound with
    | some t => decide (r.arrived < t + 10000 * msCounts)
    | none => true
  since && (recent || s.rewinding p)

/-- A POLICY record under the reset policy: a rewind where R288's conditions hold, else a reset; one that came before the
rewind that now runs finds its action in progress (R285, R288). -/
def State.policyRewind (s : State) (p : Nat) (r : FaultRec) : State :=
  match (s.part p).image with
  | none => s.resetPart p
  | some i =>
    let ready := s.flag (MGMT_PARTp_FPOL_AUTO p) && decide (i.shadow ≠ 0) && s.flag (SEQ_CKPT_BASEp_VALID p)
      && (decide (s.partState p = 3) || decide (s.partState p = 4) || decide (s.partState p = 6))
    if s.afterRewind p r || !ready then s.resetPart p
    else if s.rewinding p then s
    else (s.unannounce p).rewindPart p r.refcount

/-! ## A grove and the device (R285, R353, R381) -/

/-- A GROVE action (R285): the supply off and every working position deadfall in one bracket; the partition, halted, is
reset, its restart boundary chosen where it has an image, and its IDs of the grove left without positions; it is LOADED and
STALE, or as it was without an image (R296). No fence record is written for the positions (log entry 36). -/
def State.loseGrove (s : State) (g : Nat) : State :=
  let p := s.partOfGrove g
  let st := match p with
    | some q => s.partState q
    | none => 0
  let s := match p with
    | some q => ((s.unannounce q).haltPart q).setPart q 6
    | none => s
  let lost := s.working g
  let s := (lost.foldl (fun (s : State) x => (s.setStatus x 4).healthEvent 10) (s.groveDark g)).bracket
  let s := match p with
    | some q =>
      let s := s.partClear q
      (match (s.part q).image with
        | some i => (s.boundaryOf q i).2
        | none => s)
    | none => s
  let s := lost.foldl (fun (s : State) x => match s.logical x with
    | some l => (s.setElem DESC_REV_MAP 16 x 0).mapAll l 0
    | none => s) s
  let s := ((s.bracket).setReady 0 g false).reroute g
  match p with
  | none => s
  | some q => if (s.part q).image.isSome then s.goStale q else s.setPart q st

/-- Buffered entries written to flash (R389): the oldest 256 KiB block erased first where the log is full; an entry of
TYPE 10 follows where entries were lost. -/
def State.flushLog (s : State) : State :=
  let missed := s.mgmt.logMissed
  let flash := s.mgmt.logFlash ++ s.mgmt.logBuffer
  let flash := if 1048576 < flash.length then flash.drop (4096 * ((flash.length - 1048576 + 4095) / 4096)) else flash
  let s := { s with mgmt := { s.mgmt with logFlash := flash, logBuffer := [], logMissed := 0 } }
  if missed = 0 then s else s.log 10 4 [BitVec.ofNat 64 missed]

/-- A stack switched off: what it held is lost; a failed one stays in state 3 (R207). -/
def State.stackOff (s : State) (k : Nat) : State :=
  { s.setFld (HBM_STATUS_STATE k) (if s.fld (HBM_STATUS_STATE k) = 3 then 3 else 0) with
    hbm := Mem.clear s.hbm (hbmKey k 0) (hbmKey (k + 1) 0)
    hbmPoison := NSet.clear s.hbmPoison (hbmKey k 0 / 4) (hbmKey (k + 1) 0 / 4)
    hbmEcc := SMap.clear s.hbmEcc (hbmKey k 0 / 4) (hbmKey (k + 1) 0 / 4) }

/-- Every grove, rim die and the host complex switched off; none is usable any more (R329). -/
def State.allOff (s : State) : State :=
  let s := (List.range 36).foldl (fun (s : State) g =>
    (if s.clkState g = 0 ∧ s.fld (GRV_PWR_STATUS_STATE g) = 0 then s else s.groveDark g).setReady 0 g false) s
  let s := (List.range 64).foldl (fun (s : State) q => if (s.port q).state = 0 then s else s.portDown q 0) s
  let s := (List.range 50).foldl (fun (s : State) k => s.stackOff k) s
  let s := s.setFld MGMT_HOST_CTRL_STATE 0
  ({ s with
    boot := { s.boot with dieOk := [], rimOn := [], tapOpen := s.boot.tapOpen.filter (fun k => decide (k = 0)), hostUp := false }
    bridge := { s.bridge with buffers := [], out := [], track := [], syncs := [] }
    power := { s.power with stages := [] } }).refreshReady

/-- Thermal shutdown (R381). -/
def State.thermalShutdown (s : State) : State :=
  let s := s.flushLog.allOff
  ((s.setFld THM_STATUS_SHUTDOWN 1).setAlive).setAlert

/-- Whether a source is a grove's hard-limit source, 17 (R278). -/
def hardLimit (source : Nat) : Bool := decide (0x2D00 ≤ source) && decide (source < 0x3180) && decide ((source - 0x2D00) % 32 = 17)

/-- A partition that a DEVICE action leaves IDLE, its image gone; a CREATE that is waiting for groves ends with ERR. -/
def State.devicePart (s : State) (p : Nat) : State :=
  if s.partExists p then
    (((s.unannounce p).partReset p).modPart p (fun x => { x with image := none, owed := [] })).setPart p 1
  else if s.flag (MGMT_PARTp_STATUS_BUSY p) then (s.setFld (MGMT_PARTp_STATUS_BUSY p) 0).setFld (MGMT_PARTp_STATUS_ERR p) 1
  else s

/-- A grove that a DEVICE action takes to retention. -/
def State.deviceGrove (s : State) (g : Nat) : State :=
  if s.clkState g = 2 then s.groveKeep g else s.setFld (GRV_PWR_STATUS_STATE g) (s.clkState g)

/-- Bring-up stopped by a DEVICE-domain record (R331). -/
def State.stopBringUp (s : State) : State :=
  if s.boot.started && decide (s.fld MGMT_BOOT_STATUS_PHASE < 4) then s.setFld MGMT_BOOT_STATUS_PHASE 6 else s

/-- A DEVICE action (R285): every partition halted, reset and left IDLE, every RUN grove in retention, bring-up stopped
(R331); thermal shutdown after the hard limit (R380). -/
def State.deviceAction (s : State) (source : Nat) : State :=
  let s := (List.range 16).foldl State.devicePart s
  let s := (List.range 36).foldl State.deviceGrove s
  let s := { s with power := { s.power with stages := [] } }
  let s := s.stopBringUp
  if hardLimit source then s.thermalShutdown else s

/-! ## The commands -/

/-- The record whose action comes next, if it is of a domain and the controller is not restarting (R285, R386). -/
def State.nextAction (s : State) (domain : Nat) : Option FaultRec :=
  match s.faults.actions with
  | [] => none
  | r :: _ => if r.domain = domain ∧ s.mgmt.down = false then some r else none

/-- A domain action: the oldest record's, in SEQ order. -/
def domainAction (domain : Nat) (s : State) (f : FaultRec → State → State) : Out :=
  match s.nextAction domain with
  | none => idle s
  | some r =>
    let s' := { s with faults := { s.faults with actions := s.faults.actions.drop 1 } }
    answer s (f r s')

/-- DOMAIN_ACTION_JOB (R287). -/
def execDomainActionJob (s : State) : Out := domainAction 1 s (fun r s => s.jobDies r)

/-- TILE_RECOVERY (R293, R296, R297). -/
def execTileRecovery (s : State) : Out := domainAction 2 s (fun r s => s.loseTile r.pos r.refcount)

/-- DOMAIN_ACTION_GROVE (R285). -/
def execDomainActionGrove (s : State) : Out := domainAction 3 s (fun r s => s.loseGrove ((r.source - 0x2D00) / 32 % 36))

/-- DOMAIN_ACTION_PARTITION (R285): for a failed stack, STACK_LOST too (R207, R297). -/
def execDomainActionPartition (s : State) : Out := domainAction 4 s (fun r s => match r.part with
  | none => s
  | some p =>
    if !s.partExists p then s
    else
      let s := s.resetPart p
      if 0x3180 ≤ r.source ∧ r.source < 0x3310 ∧ (r.source - 0x3180) % 8 = 0 then s.setFld (MGMT_PARTp_FSTAT_STACK_LOST p) 1 else s)

/-- DOMAIN_ACTION_DEVICE (R285, R381). -/
def execDomainActionDevice (s : State) : Out := domainAction 5 s (fun r s => s.deviceAction r.source)

/-- POLICY_REWIND (R286, R288). -/
def execPolicyRewind (s : State) : Out := domainAction 6 s (fun r s => match r.part with
  | none => s
  | some p => if s.partExists p then s.policyRewind p r else s)

/-- FLT_REWIND (R295, R303): OP REWIND of FLT_CMD, while STATE is RUNNING or LOADED and BUSY is 0. -/
def execFltRewind (a : Agent) (p : Nat) (s : State) : Out :=
  if 16 ≤ p then noUnit
  else allowed a .flt FLT_CMD.addr s (fun s =>
    if (s.partState p = 3 ∨ s.partState p = 4) ∧ s.flag (MGMT_PARTp_STATUS_BUSY p) = false then s.rewindPart p s.now else s)

end Sys2Proof.Machine
end

