-- ==== Sys2Proof/Machine/Faults.lean ====
section
/-! DEFINITION. Heartbeats and the wait limit (R289, R290), health scores and test duty (R299 to R302), and the faults
of rim dies and keep-alive domains (R278). -/

namespace Sys2Proof.Machine

/-! ## Heartbeats (R289, R305) -/

/-- Positions that the heartbeat poll reads: active and sapling ones of groves whose position clocks have run for 1 ms. -/
def State.polled (s : State) : List Nat :=
  (List.range 576).filter (fun pos => (decide (s.status pos = 1) || decide (s.status pos = 2))
    && decide (s.clkState (groveOf pos) = 2) && decide (SMap.get 0 s.clk.runFrom (groveOf pos) + msCounts ≤ s.now))

/-- One position polled: a read unanswered or unchanged is a miss; HB_MISS of them in a row raise source 16 with CAUSE 1,
once for a run of misses. -/
def State.pollOne (s : State) (missing : Bool) (pos : Nat) : State :=
  let hb := s.fld (TILE_FLT_HB_HB pos)
  let old := s.faults.beat.find? (fun e => e.1 = pos)
  let miss := missing || (match old with
    | some e => decide (e.2.1 = hb)
    | none => false)
  let n : Nat := if miss then (match old with
    | some e => e.2.2 + 1
    | none => 1) else 0
  let last : Nat := if missing then (match old with
    | some e => e.2.1
    | none => hb + 2 ^ 32) else hb
  let due := decide (0 < n ∧ s.fld FLT_CFG_HB_MISS ≤ n)
  let raised := s.faults.beatLost.has pos
  let s := { s with faults := { s.faults with
    beat := s.faults.beat.insert pos (last, n)
    beatLost := if due then s.faults.beatLost.add pos else if n = 0 then s.faults.beatLost.del pos else s.faults.beatLost } }
  if due && !raised then s.raise (srcPos pos 16) 1 0 else s

/-- HEARTBEAT_POLL (R289): every HB_MS ms; `unanswered` lists the positions that did not answer the read. -/
def execHeartbeatPoll (unanswered : List Nat) (s : State) : Out :=
  answerEvery 1 (s.fld FLT_CFG_HB_MS * msCounts) s (fun s =>
    s.polled.foldl (fun (s : State) pos => s.pollOne (unanswered.contains pos) pos) s)

/-- HEARTBEAT_INCREMENT (R305): every 2^16 cycles that a position is clocked, its service controller counts. -/
def execHeartbeatIncrement (pos : Nat) (s : State) : Out :=
  if 576 ≤ pos then noUnit
  else if s.clkState (groveOf pos) = 2 ∧ (s.status pos = 1 ∨ s.status pos = 2) ∧
      (SMap.get (⟨[], false, 0⟩ : FwStore) s.boot.fw pos).running = true then
    answerAt (groveOf pos) (SMap.get 0 s.faults.hbAt pos + 65536) s (fun s =>
      let s := s.setFld (TILE_FLT_HB_HB pos) ((s.fld (TILE_FLT_HB_HB pos) + 1) % 2 ^ 32)
      { s with faults := { s.faults with hbAt := s.faults.hbAt.insert pos (s.cycle (groveOf pos)) } })
  else idle s

/-- WAIT_LIMIT (R290): a core stalled in t.wait or t.fence for 2^WAIT_LIM cycles raises one source 19 record with CAUSE 6
per wait. -/
def execWaitLimit (c : CoreId) (s : State) : Out :=
  if !c.wf then noUnit
  else
    let k := s.core c.key
    let stalled := match k.stall with
      | .wait _ _ none => true
      | .fence => true
      | _ => false
    if !stalled || k.limitSent then idle s
    else answerAt (groveOf c.pos) (k.stallFrom + 2 ^ s.fld FLT_CFG_WAIT_LIM) s (fun s =>
      let r : FaultRec := { s.record (srcPos c.pos 19) 6 0 with
        core := some c.core
        slot := if s.flag (TILE_CORE_JOB_SLOT_VALID c.pos c.core) then some (s.fld (TILE_CORE_JOB_SLOT c.pos c.core)) else none }
      (s.modCore c.key (fun k => { k with limitSent := true })).send r)

/-! ## Health (R299, R301, R302) -/

/-- Weight of score input `k`. -/
def State.weight (s : State) (k : Nat) : Nat := bitsOf (s.rd ⟨FLT_HW0.addr + 8 * k, match k with
  | 2 => 0x400
  | 3 => 0x400
  | 5 => 0x400
  | 7 => 4
  | 8 => 0x100
  | 9 => 0x10
  | 10 => 0x4000
  | 11 => 0x1000
  | 12 => 0x4000
  | 13 => 0x10000
  | 14 => 0
  | 15 => 0
  | _ => 1⟩) 0 (if k = 13 then 17 else 16)

/-- Growth of a counter since the last update; one found lower was cleared (R301). -/
def grown (old new : Nat) : Nat := if new < old then new else new - old

/-- Growth of the COUNT of a counter register. -/
def State.growth (s : State) (r : Reg) : Nat := grown (SMap.get 0 s.faults.seen r.addr) (bitsOf (s.rd r) 0 32)

/-- The COUNT of counters remembered for the next update. -/
def State.see (s : State) (l : List Reg) : State :=
  { s with faults := { s.faults with
    seen := l.foldl (fun (m : SMap Nat) r => m.insert r.addr (bitsOf (s.rd r) 0 32)) s.faults.seen } }

/-- A score register updated by what its inputs add; CANDIDATE by a threshold in units of 16. The state, and whether the
part is newly a candidate. -/
def State.rescore (s : State) (r : Reg) (add threshold : Nat) : State × Bool :=
  let old := bitsOf (s.rd r) 0 32
  let was := Nat.testBit (s.rd r) 32
  let new := min (old - old / 2 ^ s.fld FLT_HCFG_DECAY + add) 0xFFFFFFFF
  let cand := decide (16 * threshold ≤ new) || (was && decide (16 * threshold ≤ 2 * new))
  (s.wr r (packFields [(0, 32, new), (32, 1, cand.toNat)]), cand && !was)

/-- One part's score; a part newly a candidate is an event of kind 11. -/
def State.scorePart (s : State) (r : Reg) (add threshold : Nat) : State :=
  let t := s.rescore r add threshold
  if t.2 then t.1.healthEvent 11 else t.1

/-- Whether a lane of a port is active: not masked, and in the half that a port at width 4 uses. -/
def State.laneActive (s : State) (p l : Nat) : Bool :=
  s.laneGood (8 * p + l) && (!(s.port p).width4 || decide ((s.port p).half = decide (4 ≤ l)))

/-- TILE_FLT_DUTY of a position measured (R299), and the record of a running partition's tile below MIN_DUTY. -/
def State.measureDuty (s : State) (pos : Nat) : State :=
  let calls := ((List.range 8).map (fun c => s.fld (TILE_FLT_KCALLc_CALLS pos c))).sum
  let cyc := s.cycle (groveOf pos)
  let old := SMap.get (0, 0) s.faults.duty pos
  let dc := grown old.2 cyc
  let s := { s with faults := { s.faults with duty := s.faults.duty.insert pos (calls, cyc) } }
  if dc = 0 then s
  else
    let ppm := min (grown old.1 calls * 32768 * 1000000 / dc) 0xFFFFF
    let s := s.setFld (TILE_FLT_DUTY_PPM pos) ppm
    match s.partOf pos with
    | some p =>
      if s.partState p = 4 ∧ s.status pos = 1 ∧ ppm < 10 * s.fld (MGMT_PARTp_CFG_MIN_DUTY p) then
        s.raise (srcPos pos 19) 10 (counterDetail ((TILE_FLT_DUTY pos).addr - tileBase pos) ppm)
      else s
    | none => s

/-- The scores of tiles. -/
def State.scoreTile (s : State) (pos : Nat) : State :=
  if s.fusedOff pos then s
  else
    let l := [TILE_SPAD_CE_CNT pos, TILE_NET_CE_CNT pos, TILE_SPAD_UE_CNT pos, TILE_NET_UE_CNT pos]
    let add := (l.zipIdx.map (fun x => s.growth x.1 * s.weight x.2)).sum
    ((s.see l).scorePart (TILE_FLT_HEALTH pos) add (s.fld FLT_HTHRESH_TILE)).measureDuty pos

/-- The scores of a port's lanes. -/
def State.scorePort (s : State) (p : Nat) : State :=
  if !s.fuses.ports.getLsbD p then s
  else
    let l := [FAB_REPLAY_CNT p, FAB_RETRAIN_CNT p, FAB_UE_CNT p]
    let shared := (l.zipIdx.map (fun x => s.growth x.1 * s.weight (7 + x.2))).sum
    let t := (List.range 8).foldl (fun (t : State) i =>
      let add := s.growth (FAB_LANE_SYMl p i) * s.weight 6 + (if s.laneActive p i then shared else 0)
      (t.see [FAB_LANE_SYMl p i]).scorePart (FAB_LANE_HEALTHl p i) add (s.fld FLT_HTHRESH_LANE)) s
    t.see l

/-- The scores of stacks. -/
def State.scoreStack (s : State) (k : Nat) : State :=
  if !s.fuses.stackMask.getLsbD k then s
  else
    let add := s.growth (HBM_CE_CNT k) * s.weight 4 + s.growth (HBM_UE_CNT k) * s.weight 5
    (s.see [HBM_CE_CNT k, HBM_UE_CNT k]).scorePart (HBM_HEALTH k) add (s.fld FLT_HTHRESH_STACK)

/-- The panel's score. -/
def State.scorePanel (s : State) : State :=
  let add := ([10, 11, 12, 13].map (fun k => SMap.get 0 s.faults.events k * s.weight k)).sum
  let s := { s with faults := { s.faults with events := [] } }
  s.scorePart FLT_PANEL_HEALTH add (s.fld FLT_HTHRESH_PANEL)

/-- HEALTH_UPDATE (R299, R301, R302): every PERIOD seconds. -/
def execHealthUpdate (s : State) : Out :=
  answerEvery 2 (s.fld FLT_HCFG_PERIOD * 1000 * msCounts) s (fun s =>
    let s := (List.range 576).foldl State.scoreTile s
    let s := (List.range 64).foldl State.scorePort s
    ((List.range 50).foldl State.scoreStack s).scorePanel)

/-! ## Faults of rim dies and keep-alive domains (R278) -/

/-- L_RIM_DIE_FAULT (R278): L-rim source 0; the die's ports go DOWN and are not ready. -/
def execLRimDieFault (die : Nat) (s : State) : Out :=
  if 16 ≤ die then noUnit
  else when (s.boot.dieOk.has (64 + die)) s (fun s =>
    let s := s.raise (srcLrim die 0) 1 0
    let s := (List.range 4).foldl (fun (s : State) j =>
      if (s.port (4 * die + j)).state = 0 then s else s.portDown (4 * die + j) 5) s
    ({ s with boot := { s.boot with dieOk := s.boot.dieOk.del (64 + die) } }).refreshReady)

/-- RIM_RING_SEGMENT_FAULT (R278): L-rim source 1. -/
def execRimRingSegmentFault (die : Nat) (s : State) : Out :=
  if 16 ≤ die then noUnit
  else when (s.boot.dieOk.has (64 + die)) s (fun s => s.raise (srcLrim die 1) 1 0)

/-- KEEP_ALIVE_DOMAIN_FAULT (R278): grove source 18, whose domain is GROVE. -/
def execKeepAliveDomainFault (g : Nat) (s : State) : Out :=
  if 36 ≤ g then noUnit
  else when (decide (s.clkState g ≠ 0)) s (fun s => s.raise (srcGrove g 18) 1 0)

end Sys2Proof.Machine
end

