-- ==== Sys2Proof/Machine/Clocks.lean ====
section
/-! DEFINITION. Clocks (R335 to R349): changes of the operating point, crossings, stretching, grove clock states, and
the loss of the reference. -/

namespace Sys2Proof.Machine

/-- The answer of a command that changes what the clock system holds: no fuse, no queue. -/
def answerClk (s t : State) : Out := .next { t with pending := s.pending, fuses := s.fuses }

/-- Groves whose clock state is KEEP or RUN. -/
def State.clockedGroves (s : State) : List Nat := (List.range 36).filter (fun g => decide (s.clkState g ≠ 0))

/-! ## VDD_CORE setpoints (R352) -/

/-- Base level of an operating point in mV. -/
def baseLevel (opp : Nat) : Nat :=
  match opp with
  | 0 => 600
  | 1 => 670
  | 2 => 750
  | _ => 820

/-- The setpoint of a grove at an operating point: base level, fuse trim and droop trim, within 600 to 850 mV. -/
def State.setpoint (s : State) (g opp : Nat) : Nat :=
  max 600 (min 850 (baseLevel opp + SMap.get 0 s.fuses.trim g + 10 * s.fld (GRV_PWR_STATUS_TRIM g)))

/-- The point whose level VDD_CORE stands at: the faster of the present one and that of a pending change (R340). -/
def State.levelOpp (s : State) : Nat :=
  match s.clk.change with
  | some c => max s.opp c.target
  | none => s.opp

/-- The setpoint of a grove written for an operating point. -/
def State.setVcore (s : State) (opp g : Nat) : State := s.setFld (GRV_PWR_STATUS_VCORE g) (s.setpoint g opp)

/-- The setpoints of every clocked grove written. -/
def State.setLevels (s : State) (opp : Nat) : State := s.clockedGroves.foldl (State.setVcore · opp) s

/-! ## A change of operating point (R340) -/

/-- A request refused or ended, with its cause. -/
def State.refuseOpp (s : State) (cause : Nat) : State := (s.setFld CLK_OPP_STATUS_ERR 1).setFld CLK_OPP_STATUS_CAUSE cause

/-- The operating points the panel supports (R312, R338). -/
def State.oppSupported (s : State) (o : Nat) : Bool := decide (o < 3) || (decide (o = 3) && s.features.getLsbD 5)

/-- Why a request is refused, if it is: not supported; the class; for the host, the governor's or the throttle's hold
(R364, R366, R377). -/
def State.oppFault (s : State) (target : Nat) (asker : Asker) : Option Nat :=
  if !s.oppSupported target then some 1
  else if target = 3 ∧ s.fld PWR_CFG_CLASS < 2 then some 4
  else if asker = .host ∧ (s.fld THM_STATUS_TOPP < target ∨ (s.flag PWR_STATUS_OPP_HELD = true ∧ s.opp < target)) then some 4
  else none

/-- The pending change replaced. -/
def State.setChange (s : State) (c : Option OppChange) : State := { s with clk := { s.clk with change := c } }

/-- Step 4: a count at least LEAD_US ahead announced. -/
def State.announceOpp (s : State) (c : OppChange) (tries : Nat) : State :=
  let t := s.now + s.fld CLK_CFG_LEAD_US * usCounts
  (s.wr CLK_OPP_T t).setChange (some { c with at_ := some t, acked := [], tries := tries })

/-- Steps 1 to 4: checked; for a faster point VDD_CORE raised first and every grove's report awaited; else announced at
once. -/
def State.beginOpp (s : State) (target : Nat) (asker : Asker) : State :=
  match s.oppFault target asker with
  | some cause => s.refuseOpp cause
  | none =>
    let s := ((s.setFld CLK_OPP_STATUS_BUSY 1).setFld CLK_OPP_STATUS_TARGET target).setFld CLK_OPP_STATUS_CAUSE 0
    let c : OppChange := ⟨target, asker, [], none, [], 0⟩
    if s.opp < target ∧ s.clockedGroves ≠ [] then (s.setLevels target).setChange (some c) else s.announceOpp c 0

/-- A change asked for (R340): the host's while one is pending is refused; the governor's or the cooling's replaces a
host request not yet announced; else the governor's runs after it and the cooling's is made again at its next update
(R368, R384). -/
def State.requestOpp (s : State) (target : Nat) (asker : Asker) : State :=
  match s.clk.change with
  | none => s.beginOpp target asker
  | some c =>
    match asker with
    | .host => s.refuseOpp 2
    | .governor =>
      if c.asker = .host ∧ c.at_ = none then (((s.setLevels s.opp).setChange none).beginOpp target asker).refuseOpp 5
      else { s with clk := { s.clk with queued := some (target, asker) } }
    | .cooling =>
      if c.asker = .host ∧ c.at_ = none then (((s.setLevels s.opp).setChange none).beginOpp target asker).refuseOpp 5
      else s

/-- A change over: BUSY cleared with interrupt 115, and the request that waited begun. -/
def State.endOpp (s : State) : State :=
  let s := ((s.setFld CLK_OPP_STATUS_BUSY 0).setChange none).irq 115
  match s.clk.queued with
  | none => s
  | some q => ({ s with clk := { s.clk with queued := none } }).beginOpp q.1 q.2

/-- Whether every clocked grove has acknowledged a change. -/
def State.oppAcked (s : State) (c : OppChange) : Bool := s.clockedGroves.all c.acked.has

/-- CLK_OPP_CMD (R340): a request of the host or of a client. -/
def execClkOppCmd (a : Agent) (target : Nat) (s : State) : Out :=
  if s.mute a CLK_OPP_CMD.addr then idle s
  else if s.mayWrite a .clkpwr then answerClk s (s.requestOpp (target % 4) .host)
  else answer s (s.decodeFault true CLK_OPP_CMD.addr)

/-- VDD_CORE_LEVEL_REPORT (R352, R340 step 2): a grove reports a level; within 5 mV of its setpoint it counts for the
pending change, which is announced once every clocked grove has reported. -/
def execVddCoreLevelReport (g mv : Nat) (s : State) : Out :=
  if 36 ≤ g then noUnit
  else
    let v := s.fld (GRV_PWR_STATUS_VCORE g)
    let s' : State := { s with power := { s.power with level := s.power.level.insert g mv } }
    match s.clk.change with
    | none => answerClk s s'
    | some c =>
      if c.at_ = none ∧ v ≤ mv + 5 ∧ mv ≤ v + 5 then
        let c' : OppChange := { c with levels := c.levels.add g }
        answerClk s (if s.clockedGroves.all c'.levels.has then s'.announceOpp c' 0 else s'.setChange (some c'))
      else answerClk s s'

/-- The switch itself (R340 steps 5 to 7): every clocked grove on the target through its other PLL; a slower point lowers
VDD_CORE. -/
def State.switchOpp (s : State) (c : OppChange) : State :=
  let slower := decide (c.target < s.opp)
  let s := s.clockedGroves.foldl (fun (s : State) g =>
    (s.setFld (GRV_CLK_STATUS_OPP g) c.target).setFld (GRV_CLK_STATUS_PLLSEL g) (1 - s.fld (GRV_CLK_STATUS_PLLSEL g))) s
  let s := s.setFld CLK_STATUS_OPP c.target
  let s : State := { s with clk := { s.clk with frac := 0 } }
  let s := if slower then s.setLevels c.target else s
  let s := if c.asker = .host then s.setFld PWR_STATUS_HOST_OPP c.target else s
  s.endOpp

/-- OPP_SWITCH (R340): at the announced count, with every grove's acknowledgement. -/
def execOppSwitch (s : State) : Out :=
  match s.clk.change with
  | none => idle s
  | some c => match c.at_ with
    | none => idle s
    | some t => if s.oppAcked c then answerClk s ((s.atRef t).switchOpp c) else idle s

/-- OPP_ACK_MISSING (R340 step 5): 10 µs before the count a grove has not acknowledged: cancelled and announced again, up
to 3 times; then ended with cause 3. -/
def execOppAckMissing (s : State) : Out :=
  match s.clk.change with
  | none => idle s
  | some c => match c.at_ with
    | none => idle s
    | some t =>
      if s.oppAcked c then idle s
      else
        let s' := s.atRef (t - 10 * usCounts)
        answerClk s (if c.tries < 3 then s'.announceOpp c (c.tries + 1) else ((s'.setLevels s'.opp).refuseOpp 3).endOpp)

/-! ## Crossings (R341) -/

/-- A sampling code stored for a point of the crossing from a neighbour; ALIGNED once every supported point has one. -/
def State.alignPoint (s : State) (g dir point code : Nat) : State :=
  let r := GRV_CLK_XPHASE g
  let s := s.wr r (setBitsOf (s.rd r) (12 * dir + 3 * point) 3 code)
  let s := { s with power := { s.power with aligned := s.power.aligned.add (16 * g + 4 * dir + point) } }
  if (List.range 4).all (fun o => !s.oppSupported o || s.power.aligned.has (16 * g + 4 * dir + o)) then
    s.setFld (GRV_CLK_STATUS_ALIGNED g) (setBitsOf (s.fld (GRV_CLK_STATUS_ALIGNED g)) dir 1 1)
  else s

/-- CROSSING_ALIGNMENT (R341): the phase of the crossing into a grove from a direction, measured for a supported point. -/
def execCrossingAlignment (g dir point code : Nat) (s : State) : Out :=
  if 36 ≤ g ∨ 4 ≤ dir then noUnit
  else match groveStep g dir with
    | none => idle s
    | some _ => if s.oppSupported point then answerClk s (s.alignPoint g dir point (code % 8)) else idle s

/-- Every crossing between a grove and its clocked neighbours aligned both ways, at codes the specification leaves to
the measurement (log entry 13). -/
def State.alignAll (s : State) (g : Nat) : State :=
  (List.range 4).foldl (fun (s : State) d =>
    match groveStep g d with
    | none => s
    | some n =>
      if s.clkState n = 0 then s
      else (List.range 4).foldl (fun (s : State) o =>
        if s.oppSupported o then
          let a := s.freeValue
          let b := a.2.freeValue
          (b.2.alignPoint g d o (a.1.toNat % 8)).alignPoint n ((d + 2) % 4) o (b.1.toNat % 8)
        else s) s) s

/-! ## Stretching (R343, R344) -/

/-- Counters of a grove's clock: their events come from grove source 13 (R436). -/
def grvCounter (g : Nat) (r : Reg) (t : Nat) : Counter := ⟨r, srcGrove g t, r.addr % 0x100000⟩

/-- A droop noticed: one that goes on from the last stretch is the same; it counts once it has lasted 1 µs. -/
def State.noteDroop (s : State) (g : Nat) (goesOn : Bool) : State :=
  let old := SMap.get (s.now, false) s.clk.droop g
  let d := if goesOn then old else (s.now, false)
  if d.2 = false ∧ d.1 + usCounts ≤ s.now then
    let s := s.count (grvCounter g (GRV_CLK_DROOP_CNT g) 13) 1
    { s with
      clk := { s.clk with droop := s.clk.droop.insert g (d.1, true) }
      power := { s.power with droops := s.power.droops.insert g ((s.now :: SMap.get [] s.power.droops g).take 8) } }
  else { s with clk := { s.clk with droop := s.clk.droop.insert g d } }

/-- DROOP_STRETCH (R343, R344): the grove's next edge is withheld, so every other grove gains a cycle on it; not again
within 16 of its periods. -/
def execDroopStretch (g : Nat) (s : State) : Out :=
  if 36 ≤ g then noUnit
  else
    let last := s.clk.stretched.find? (fun e => e.1 = g)
    let open_ := match last with
      | some e => decide (e.2 + 16 ≤ s.cycle g)
      | none => true
    if s.flag (GRV_CLK_CFG_STRETCH_EN g) && decide (s.clkState g ≠ 0) && open_ then
      let here := s.cycle g
      let goesOn := match last with
        | some e => decide (e.2 + 16 = here)
        | none => false
      let s' : State := { s with clk := s.clk.forward s.opp (s.clk.cyc + 1) }
      let s' : State := { s' with clk := { s'.clk with
        lag := s'.clk.lag.insert g (SMap.get 0 s'.clk.lag g + 1), stretched := s'.clk.stretched.insert g here } }
      answerClk s ((s'.count (grvCounter g (GRV_CLK_STRETCH_CNT g) 13) 1).noteDroop g goesOn)
    else idle s

/-! ## Grove clocks (R345, R346) -/

/-- A router's own map copy written whole from the descriptor (R26, R328). -/
def State.loadCopy (s : State) (pos : Nat) : State :=
  (List.range 128).foldl (fun (s : State) i => s.wr (TILE_NET_MAP pos i) (s.rd (DESC_POS_MAP i))) s

/-- A grove in KEEP: PLL locked at the panel's point, map copies, hop tables and crossings set. -/
def State.clockKeep (s : State) (g : Nat) : State :=
  let s := (s.setGrove g 1).setFld (GRV_CLK_STATUS_LOCK g) 1
  let s := (s.setFld (GRV_CLK_STATUS_OPP g) s.opp).setVcore s.levelOpp g
  let s := (s.working g).foldl State.loadCopy s
  ((s.setHops g).alignAll g).rewriteTrails

/-- GROVE_CLOCK_START (R345, R354): a grove whose last header stage has switched goes from OFF to KEEP; once a change of
point has been announced, after it (R340, R348). At bring-up a grove goes to KEEP by GROVE_READY instead. -/
def execGroveClockStart (g : Nat) (s : State) : Out :=
  if 36 ≤ g then noUnit
  else if (s.clk.change.bind (·.at_)).isSome then idle s
  else if s.clkState g = 0 ∧ s.fld (GRV_PWR_STATUS_STATE g) = 3 ∧ SMap.get 0 s.power.stages g = 0 ∧ s.boot.ended.has (200 + g) then
    let s' := s.clockKeep g
    let wanted := (List.range 16).any (fun p => s.flag (MGMT_PARTp_STATUS_BUSY p) && Nat.testBit (s.fld (MGMT_PARTp_CFG_GRVS p)) g
      && decide (s.partState p = 0))
    answerClk s ((if wanted then s'.groveWake g else s').refresh)
  else idle s

/-- PLL_LOSS_OF_LOCK (R346): the clock is gated and grove source 12 raised. -/
def execPllLossOfLock (g : Nat) (s : State) : Out :=
  if 36 ≤ g then noUnit
  else when (decide (s.clkState g ≠ 0) && s.flag (GRV_CLK_STATUS_LOCK g)) s (fun s =>
    (s.setFld (GRV_CLK_STATUS_LOCK g) 0).raise (srcGrove g 12) 1 0)

/-! ## The reference (R347) -/

/-- SOURCE of CLK_STATUS. -/
def State.source (s : State) : Nat := s.fld CLK_STATUS_SOURCE

/-- REFERENCE_LOSS (R347 step 1): the input is cut, HOLDOVER, device source 0. -/
def execReferenceLoss (s : State) : Out :=
  if s.source = 1 then
    let s' := ((s.setFld CLK_STATUS_SOURCE 2).setFld CLK_STATUS_REF_OK 0).raise (srcDev 0) 1 0
    answerClk s { s' with clk := { s'.clk with lostAt := some s.now } }
  else idle s

/-- BACKUP_IN_PLACE (R347 step 2): BACKUP, and CLK_HOLD_CNT counts. -/
def execBackupInPlace (s : State) : Out :=
  when (decide (s.source = 2) && s.flag CLK_STATUS_BACKUP_OK) s (fun s =>
    (s.setFld CLK_STATUS_SOURCE 3).count ⟨CLK_HOLD_CNT, srcDev 0, 0x30⟩ 1)

/-- HOLDOVER_EXPIRY (R347 step 3, R348): 10 ms after detection with no backup, device source 1; a pending change of point
is cancelled. -/
def execHoldoverExpiry (s : State) : Out :=
  match s.clk.lostAt with
  | none => idle s
  | some t =>
    if s.source = 2 then
      let s' := (s.atRef (t + 10 * msCounts)).raise (srcDev 1) 1 0
      let s' : State := { s' with clk := { s'.clk with lostAt := none, queued := none } }
      answerClk s (match s'.clk.change with
        | none => s'
        | some _ => (s'.setLevels s'.opp).endOpp)
    else idle s

/-- REFERENCE_RETURN (R347 step 4): with AUTO_RETURN 1, an input that has been valid for RETURN_S seconds is injected
again. -/
def execReferenceReturn (s : State) : Out :=
  if s.flag CLK_CFG_AUTO_RETURN && (decide (s.source = 2) || decide (s.source = 3)) then
    let s' := s.atRef (s.clk.lostAt.getD 0 + s.fld CLK_CFG_RETURN_S * 1000 * msCounts)
    let s' := (s'.setFld CLK_STATUS_SOURCE 1).setFld CLK_STATUS_REF_OK 1
    answerClk s { s' with clk := { s'.clk with lostAt := none } }
  else idle s

end Sys2Proof.Machine
end

