-- ==== Sys2Proof/Machine/Power.lean ====
section
/-! DEFINITION. Power (R350 to R369): the arbiter of header stages, droop trim, failures in the delivery path, the
envelope governor with its ballast, caps, and the 52 V input. -/

namespace Sys2Proof.Machine

/-- The answer of a periodic command that changes what the clock system holds. -/
def everyClk (k period : Nat) (s : State) (f : State → State) : Out :=
  let s' := s.atRef (SMap.get 0 s.clk.last k + period)
  let s'' : State := { s' with clk := { s'.clk with last := s'.clk.last.insert k s'.clk.ref } }
  answerClk s (f s'')

/-! ## The arbiter (R355, R356) -/

/-- Tokens held by a grove for a measured feed current in mA: 1.1 times the current in units of 0.5 A, rounded up, at
least 4; none while OFF. -/
def State.holding (s : State) (g milli : Nat) : Nat :=
  if s.clkState g = 0 then 0 else max 4 ((milli * 11 + 4999) / 5000)

/-- Groves of a bus segment. -/
def segGroves (r : Nat) : List Nat := (List.range 6).map (6 * r + ·)

/-- Free tokens of a segment: what holdings and stage tokens not yet returned leave of 520 (R356). -/
def State.freeTokens (s : State) (r : Nat) : Int :=
  520 - ((segGroves r).map (fun g => (s.fld (GRV_PWR_STATUS_TOK g) : Int))).sum
    - ((s.power.tokens.filter (fun t => decide (t.1 / 6 = r))).map (fun t => (t.2.1 : Int))).sum

/-- Groves of a segment with a stage waiting. -/
def State.stageWaiting (s : State) (r : Nat) : List Nat := (segGroves r).filter (fun g => decide (0 < SMap.get 0 s.power.stages g))

/-- PWR_SEGr as it stands. -/
def State.showSegment (s : State) (r : Nat) : State :=
  (s.setFld (PWR_SEGr_FREE r) ((s.freeTokens r) % 65536).toNat).setFld (PWR_SEGr_WAITING r) (s.stageWaiting r).length

/-- Whether the last stage of a grove switched 12.5 µs ago or more. -/
def State.stageSpaced (s : State) (g : Nat) : Bool :=
  s.power.tokens.all (fun t => decide (t.1 ≠ g) || decide (t.2.2 ≤ s.now + 1250))

/-- A grove's position clocks started: non-resident regions cleared, cycle counts restarted together (R109, R129). -/
def State.groveRun (s : State) (g : Nat) : State :=
  let s := s.setGrove g 2
  let s := (s.working g).foldl State.clearNonResident s
  let s := (s.working g).foldl (fun (s : State) pos =>
    { s with faults := { s.faults with hbAt := s.faults.hbAt.insert pos 0, beat := s.faults.beat.erase pos } }) s
  { s with clk := { s.clk with
    lag := s.clk.lag.insert g s.clk.cyc, stretched := s.clk.stretched.erase g, runFrom := s.clk.runFrom.insert g s.clk.ref } }

/-- A stage of a grove at bring-up: with the first of its wave the wave's rim dies have power; after the last the grove's
PLL locks (R318). -/
def State.bringUpStage (s : State) (g left : Nat) : State :=
  if !s.boot.waves.has (g / 6) || s.boot.ended.has (200 + g) then s
  else
    let s := { s with boot := { s.boot with rimOn := s.boot.rimOn.add (g / 6) } }
    if left = 0 then s.setFld (GRV_CLK_STATUS_LOCK g) 1 else s

/-- One header stage of a grove switched; the last of the four from RETENTION starts its position clocks, and a CREATE
that waited for it may end. -/
def State.grantStage (s : State) (g : Nat) : State :=
  let left := SMap.get 0 s.power.stages g - 1
  let tok := s.fld (GRV_PWR_CFG_STAGE_TOK g)
  let s : State := { s with power := { s.power with
    tokens := s.power.tokens ++ [(g, tok, s.now + 2500)]
    stages := if left = 0 then s.power.stages.erase g else s.power.stages.insert g left } }
  if s.clkState g = 0 then (s.setFld (GRV_PWR_STATUS_STAGE g) (s.fld (GRV_PWR_STATUS_STAGE g) + 1)).bringUpStage g left
  else if left = 0 then (List.range 16).foldl (fun (s : State) p => s.createDone p) (s.groveRun g)
  else s

/-- Stages of a segment granted in ascending grove index while the free tokens suffice. -/
def State.grantSegment (s : State) : List Nat → State
  | [] => s
  | g :: rest =>
    if !s.stageSpaced g then s.grantSegment rest
    else if (s.fld (GRV_PWR_CFG_STAGE_TOK g) : Int) ≤ s.freeTokens (g / 6) then (s.grantStage g).grantSegment rest
    else s

/-- Whether a feed current exceeds a grove's VDD_CORE limit: the feed power at 12 V over the setpoint (log entry 37). -/
def State.overIlim (s : State) (g milli : Nat) : Bool :=
  decide (0 < s.fld (GRV_PWR_STATUS_VCORE g)) && decide (s.fld (GRV_PWR_STATUS_ILIM g) * s.fld (GRV_PWR_STATUS_VCORE g) < 12 * milli)

/-- Input below 46 V: header stages stop (R361, R368). -/
def State.lowInput (s : State) : Bool := s.power.badInput && decide (s.fld PWR_STATUS_VIN < 46000)

/-- ARBITER_UPDATE (R355, R356, R358, R368): every 10 µs; `currents` lists the feed current of a grove over the last 100 µs, in
mA. -/
def execArbiterUpdate (currents : List (Nat × Nat)) (s : State) : Out :=
  everyClk 3 1000 s (fun s =>
    let milli (g : Nat) : Nat := ((currents.find? (fun c => c.1 = g)).map (·.2)).getD 0
    let s := (List.range 36).foldl (fun (s : State) g => s.setFld (GRV_PWR_STATUS_TOK g) (s.holding g (milli g))) s
    let s := { s with power := { s.power with overLimit := (List.range 36).filter (fun g => s.overIlim g (milli g)) } }
    let s := if s.lowInput then s else (List.range 6).foldl (fun (s : State) r => s.grantSegment (s.stageWaiting r)) s
    (List.range 6).foldl State.showSegment s)

/-- STAGE_TOKEN_RETURN (R355): the tokens of a grove's oldest stage return 25 µs after its grant. -/
def execStageTokenReturn (g : Nat) (s : State) : Out :=
  if 36 ≤ g then noUnit
  else match s.power.tokens.find? (fun t => t.1 = g) with
    | none => idle s
    | some t => answerRef t.2.2 s (fun s =>
        ({ s with power := { s.power with tokens := s.power.tokens.erase t } }).showSegment (g / 6))

/-! ## Droop trim (R357) -/

/-- DROOP_TRIM_RAISE (R357): eight droops counted within 1 ms raise the trim by 10 mV, up to 30 mV; nothing more once the
setpoint stands at 0.85 V. -/
def execDroopTrimRaise (g : Nat) (s : State) : Out :=
  if 36 ≤ g then noUnit
  else
    let l := SMap.get [] s.power.droops g
    let rapid := decide (8 ≤ l.length) && decide (l.headD 0 ≤ l.getD 7 0 + msCounts)
    when (rapid && decide (s.fld (GRV_PWR_STATUS_TRIM g) < 3) && decide (s.setpoint g s.levelOpp < 850)) s (fun s =>
      let s := s.setFld (GRV_PWR_STATUS_TRIM g) (s.fld (GRV_PWR_STATUS_TRIM g) + 1)
      let s := s.setVcore s.levelOpp g
      { s with power := { s.power with droops := s.power.droops.erase g, trimmed := s.power.trimmed.insert g s.now } })

/-- DROOP_TRIM_DECAY (R357): 10 s without a rise lower the trim by 10 mV. -/
def execDroopTrimDecay (g : Nat) (s : State) : Out :=
  if 36 ≤ g then noUnit
  else if s.fld (GRV_PWR_STATUS_TRIM g) = 0 then idle s
  else answerRef (SMap.get 0 s.power.trimmed g + 10000 * msCounts) s (fun s =>
    let s := s.setFld (GRV_PWR_STATUS_TRIM g) (s.fld (GRV_PWR_STATUS_TRIM g) - 1)
    let s := s.setVcore s.levelOpp g
    { s with power := { s.power with trimmed := s.power.trimmed.insert g s.now } })

/-! ## The delivery path (R359) -/

/-- RESISTANCE_TREND (R359): a phase's current in A and the 60 s average of its path resistance in µΩ, which takes no
sample at 10 A or less; above its baseline by TREND_PCT for
10 min, grove source 11 once. The first average is the baseline where none is recorded (log entry 38). -/
def execResistanceTrend (g phase : Nat) (r : PhaseReading) (s : State) : Out :=
  if 36 ≤ g ∨ 10 ≤ phase then noUnit
  else when (s.fuses.groves.getLsbD g) s (fun s =>
    let s := s.setFld (GRV_PWR_PHn_CURRENT g phase) (min r.amps 255)
    if r.amps ≤ 10 then s
    else
    let base := s.fld (GRV_PWR_PHn_BASE g phase)
    let s := s.setFld (GRV_PWR_PHn_RES g phase) (min r.micro 0xFFFF)
    let key := 16 * g + phase
    if base = 0 then s.setFld (GRV_PWR_PHn_BASE g phase) (min r.micro 0xFFFF)
    else if base * (100 + s.fld (GRV_PWR_CFG_TREND_PCT g)) ≤ 100 * r.micro then
      let since := SMap.get s.now s.power.trend key
      let s := { s with power := { s.power with trend := s.power.trend.insert key since } }
      if since + 600000 * msCounts ≤ s.now ∧ s.flag (GRV_PWR_PHn_TREND g phase) = false then
        (s.setFld (GRV_PWR_PHn_TREND g phase) 1).raise (srcGrove g 11) 1 0
      else s
    else ({ s with power := { s.power with trend := s.power.trend.erase key } }).setFld (GRV_PWR_PHn_TREND g phase) 0)

/-! ## Caps (R350, R365, R366) -/

/-- Class cap in W. -/
def classCap (c : Nat) : Nat :=
  match c with
  | 0 => 10000
  | 1 => 12000
  | _ => 14000

/-- The front end's input limit: 15 kW, or 1,875 W for each converter that works. -/
def State.frontEnd (s : State) : Nat := 1875 * popcount 8 (s.fld PWR_STATUS_FE_OK)

/-- EFF_CAP brought up to date (R365). -/
def State.setCap (s : State) : State :=
  s.setFld PWR_CAP_EFF_CAP (min (min (classCap (s.fld PWR_CFG_CLASS)) (s.fld PWR_CAP_CAP_W))
    (min (s.fld PWR_CAP_THERM_CAP) s.frontEnd))

/-- FE_CONVERTER_FAIL (R350, R365): shown in FE_OK and logged; the input limit and EFF_CAP follow. -/
def execFeConverterFail (converter : Nat) (s : State) : Out :=
  if 8 ≤ converter then noUnit
  else when (Nat.testBit (s.fld PWR_STATUS_FE_OK) converter) s (fun s =>
    let s := s.setFld PWR_STATUS_FE_OK (setBitsOf (s.fld PWR_STATUS_FE_OK) converter 1 0)
    (s.log 4 8 [BitVec.ofNat 64 (s.rd PWR_STATUS)]).setCap)

/-! ## The governor (R362 to R367) -/

/-- An envelope event counted and captured: device source 3 (R367, R437). -/
def State.envelope (s : State) (cause pin : Nat) : State :=
  (s.count ⟨PWR_ENV_CNT, srcDev 3, 0x20⟩ 1).capture PWR_ENV_CAP (packFields [(0, 3, cause), (3, 16, pin)]) (srcDev 3) (0x10 + cause)

/-- OPP_HELD set or cleared; a change raises interrupt 116 (R412). -/
def State.setHeld (s : State) (v : Bool) : State :=
  if s.flag PWR_STATUS_OPP_HELD = v then s else (s.setFld PWR_STATUS_OPP_HELD v.toNat).irq 116

/-- The trailing average in µW after a PIN in W: one step of AVG_TAU (log entry 39). -/
def State.nextAverage (s : State) (pin : Nat) : Nat :=
  let tau : Int := 100 * max 1 (s.fld PWR_CFG_AVG_TAU)
  ((s.power.avg : Int) + ((pin : Int) * 1000000 - s.power.avg) / tau).toNat

/-- The target of the next 1 ms (R362): demand clamped to [low, high], high winning, approached by SLEW/10. -/
def State.nextTarget (s : State) (pin10 demand : Nat) : Nat :=
  let slew := 10 * s.fld PWR_CFG_SLEW
  let floor := s.fld PWR_CFG_FLOOR * (s.power.avg / 1000000) / 256
  let low := max floor (pin10 - slew)
  let high := min (s.fld PWR_CAP_EFF_CAP) (pin10 + slew)
  let want := min high (max low demand)
  let step := slew / 10
  if s.power.empty then min demand s.frontEnd
  else if s.power.target ≤ want then min want (s.power.target + step) else max want (s.power.target - step)

/-- The governor's request for the next lower point, every 2 ms at most (R364, R365). -/
def State.governLower (s : State) : State :=
  let s := s.setHeld true
  if s.opp = 0 ∨ s.now < s.power.lowered + 2 * msCounts then s
  else ({ s with power := { s.power with lowered := s.now } }).requestOpp (s.opp - 1) .governor

/-- The governor's request for the next higher point, every 20 ms at most, up to HOST_OPP and TOPP; OPP_HELD ends at
HOST_OPP (R364, R377). -/
def State.governRestore (s : State) : State :=
  if !s.flag PWR_STATUS_OPP_HELD then s
  else if s.fld PWR_STATUS_HOST_OPP ≤ s.opp then s.setHeld false
  else if s.now < s.power.restored + 20 * msCounts ∨ min (s.fld PWR_STATUS_HOST_OPP) (s.fld THM_STATUS_TOPP) ≤ s.opp then s
  else ({ s with power := { s.power with restored := s.now } }).requestOpp (s.opp + 1) .governor

/-- The conditions of R367 at an update. -/
def State.envelopeChecks (s : State) (pin pin10 : Nat) : State :=
  let cap := s.fld PWR_CAP_EFF_CAP
  let slew := 10 * s.fld PWR_CFG_SLEW
  let above := if cap < pin then s.power.overs + 1 else 0
  let under := if pin < s.fld PWR_POWER_FLOOR_W then s.power.under + 1 else 0
  let s := { s with power := { s.power with overs := above, under := under } }
  let s := if above = 10 then s.envelope 0 pin else s
  let s := if slew < max pin pin10 - min pin pin10 then s.envelope 1 pin else s
  let s := if under = 10 then s.envelope 2 pin else s
  if s.frontEnd ≤ pin then s.envelope 3 pin else s

/-- What the governor publishes. -/
def State.publishPower (s : State) (r : MsReading) (demand soc : Nat) : State :=
  let s := (s.setFld PWR_STATUS_VIN (min r.vin 0xFFFF)).setFld PWR_STATUS_VBUS (min r.vbus 0x3FFF)
  let slew := 10 * s.fld PWR_CFG_SLEW
  let floor := s.fld PWR_CFG_FLOOR * (s.power.avg / 1000000) / 256
  let t := s.power.target
  let s := ((s.setFld PWR_POWER_PIN r.pin).setFld PWR_POWER_AVG (s.power.avg / 1000000)).setFld PWR_POWER_FLOOR_W floor
  let capped := decide (t < demand) && decide (t = s.fld PWR_CAP_EFF_CAP)
  let floored := decide (demand < t) && decide (t = floor) && decide (floor ≤ s.fld PWR_CAP_EFF_CAP)
  let slewed := decide (t ≠ demand) && !capped && !floored && decide (0 < slew)
  (((s.setFld PWR_STATUS_SOC soc).setFld PWR_STATUS_CAPPED capped.toNat).setFld PWR_STATUS_FLOOR_ACT floored.toNat).setFld
    PWR_STATUS_SLEW_LIM slewed.toNat

/-- PIN of 10 ms earlier; of the oldest update where there is none yet. -/
def State.pin10 (s : State) (pin : Nat) : Nat := s.power.pins.getD 9 (s.power.pins.getLastD pin)

/-- PIN taken into the average, and whether a full reservoir is being drained (R362, R363). -/
def State.takePin (s : State) (pin soc : Nat) : State :=
  { s with power := { s.power with
    avg := s.nextAverage pin, pins := (pin :: s.power.pins).take 10
    draining := decide (80 < soc) || (s.power.draining && decide (50 < soc)) } }

/-- The next target set. -/
def State.setTarget (s : State) (pin10 demand : Nat) : State :=
  { s with power := { s.power with target := s.nextTarget pin10 demand, demand := demand } }

/-- Step 3 of R364: below 10 % at point 0, device source 3 once, and the input let beyond its caps. -/
def State.reservoirLow (s : State) (pin soc : Nat) : State :=
  if 10 ≤ soc then { s with power := { s.power with empty := false } }
  else if s.opp ≠ 0 ∨ s.power.empty = true then s
  else ({ s with power := { s.power with empty := true } }).envelope 4 pin

/-- Steps 1 and 2 of R364. -/
def State.governPoint (s : State) (demand soc : Nat) : State :=
  if (s.power.target < demand ∧ soc < 30) ∨ s.power.overLimit ≠ [] then s.governLower
  else if 50 < soc ∧ demand ≤ s.power.target then s.governRestore else s

/-- GOVERNOR_UPDATE (R362 to R367): every 1 ms; PIN and demand in W, the reservoir in percent, the input and the intermediate
bus in mV. -/
def execGovernorUpdate (r : MsReading) (demand soc : Nat) (s : State) : Out :=
  everyClk 4 msCounts s (fun s =>
    let p := s.pin10 r.pin
    let s := (((s.takePin r.pin soc).setTarget p demand).publishPower r demand soc).envelopeChecks r.pin p
    ((s.reservoirLow r.pin soc).governPoint demand soc).watchRefresh r.refreshed)

/-- Positions that carry ballast (R363, R378): powered, in RUN groves, with status 1 or 2, not in HOT groves while
THROTTLED. -/
def State.ballasted (s : State) : Nat :=
  (((List.range 36).filter (fun g => decide (s.clkState g = 2) && !(s.flag THM_STATUS_THROTTLED && s.flag (GRV_THM_STATUS_HOT g)))).map
    (fun g => (s.working g).length)).sum

/-- BALLAST_STEP (R363, R378): every 10 µs the ballast moves by 0.25 W per position toward what the target exceeds demand
by, or to its full 8 W while a full reservoir drains. -/
def execBallastStep (s : State) : Out :=
  answerEvery 5 1000 s (fun s =>
    let n := s.ballasted
    let need := s.power.target - s.power.demand
    let want := if s.power.draining then 32 else if n = 0 then 0 else min 32 ((4 * need + n - 1) / n)
    let b := if s.power.ballast < want then s.power.ballast + 1 else if want < s.power.ballast then s.power.ballast - 1 else want
    ({ s with power := { s.power with ballast := b } }).setFld PWR_POWER_BALLAST (n * b / 4))

/-! ## The 52 V input (R361) -/

/-- INPUT_VOLTAGE_FAULT (R361): above 58 V or below 46 V for 1 ms: device source 2, and no CREATE while it lasts. -/
def execInputVoltageFault (mv : Nat) (s : State) : Out :=
  when (decide (58000 < mv) || decide (mv < 46000)) s (fun s =>
    let s := s.setFld PWR_STATUS_VIN (min mv 0xFFFF)
    if s.power.badInput then s else ({ s with power := { s.power with badInput := true } }).raise (srcDev 2) 1 0)

/-- INPUT_VOLTAGE_RESTORED (R361): within 46 to 58 V again. -/
def execInputVoltageRestored (mv : Nat) (s : State) : Out :=
  when (decide (46000 ≤ mv) && decide (mv ≤ 58000)) s (fun s =>
    ({ s with power := { s.power with badInput := false } }).setFld PWR_STATUS_VIN mv)

end Sys2Proof.Machine
end

