-- ==== Sys2Proof/Machine/Thermal.lean ====
section
/-! DEFINITION. Thermal control (R370 to R385): sensors and hot spots, the model's predictions and the native throttle,
thermal resistances, the compatibility cap, limits, and the coolant flow. Temperatures are 12-bit signed values in
1/8 °C. The parameters of the thermal model have no stated values: its predictions are an operand, its present estimate
a free value (log entry 40). -/

namespace Sys2Proof.Machine

/-- A temperature in 1/8 °C as an integer. -/
def degrees (v : Nat) : Int := (BitVec.ofNat 12 v).toInt

/-- Whether a reading is plausible: −20 to 150 °C (R372). -/
def plausible (v : Nat) : Bool := decide (-160 ≤ degrees v) && decide (degrees v ≤ 1200)

/-- The higher of two temperatures. -/
def hotter (a b : Nat) : Nat := if degrees a < degrees b then b else a

/-! ## Hot spots (R371 to R373) -/

/-- Diodes of a hot spot. -/
def spotDiodes (h : Nat) : List Nat :=
  match h with
  | 0 => [0, 1]
  | 1 => [2, 3]
  | _ => [4]

/-- The hot spot that a diode covers. -/
def spotOf (d : Nat) : Nat := min 2 (d / 2)

/-- STATE of a sensor: 0 working, 1 implausible, 2 failed, 3 not read. -/
def State.senseState (s : State) (pos d : Nat) : Nat := s.fld (TILE_THM_SENSd_STATE pos d)
/-- VALUE of a sensor. -/
def State.senseValue (s : State) (pos d : Nat) : Nat := s.fld (TILE_THM_SENSd_VALUE pos d)
/-- Value of a hot spot. -/
def State.spot (s : State) (pos h : Nat) : Nat := bitsOf (s.rd (TILE_THM_HS pos)) (16 * h) 12

/-- Positions that are read: headers on, status 1 or 2 (R371); while FLOW_LOST is set, those of a grove in retention too
(R382, log entry 110). -/
def State.sensed (s : State) (pos : Nat) : Bool :=
  (decide (s.clkState (groveOf pos) = 2) || (s.flag THM_STATUS_FLOW_LOST && decide (s.clkState (groveOf pos) = 1))) && (decide (s.status pos = 1) || decide (s.status pos = 2))

/-- A hot spot formed from its sensors; a failed one brings in the model's present estimate, and none at work the estimate
plus 5 K. -/
def State.formSpot (s : State) (pos h : Nat) : State :=
  let d := spotDiodes h
  let good := (d.filter (fun i => decide (s.senseState pos i = 0))).map (s.senseValue pos)
  let failed := d.any (fun i => decide (s.senseState pos i = 2))
  let put (s : State) (v basis : Nat) : State :=
    s.wr (TILE_THM_HS pos) (setBitsOf (setBitsOf (s.rd (TILE_THM_HS pos)) (16 * h) 12 v) (16 * h + 12) 2 basis)
  match good with
  | [] =>
    let f := s.freeValue
    put f.2 ((f.1.toNat + 40) % 4096) 3
  | a :: rest =>
    let v := rest.foldl hotter a
    if failed then
      let f := s.freeValue
      put f.2 (hotter v (f.1.toNat % 4096)) 2
    else put s v (if rest.isEmpty then 1 else 0)

/-- The largest hot spot value of the positions that are read (THM_PANEL.HS_MAX). -/
def State.showMax (s : State) : State :=
  let l := ((List.range 576).filter s.sensed).flatMap (fun pos => (List.range 3).map (s.spot pos))
  match l with
  | [] => s
  | a :: rest => s.setFld THM_PANEL_HS_MAX (rest.foldl hotter a)

/-! ## The throttle (R377) -/

/-- THROTTLED set or cleared; a change raises interrupt 116 (R412). -/
def State.setThrottled (s : State) (v : Bool) : State :=
  if s.flag THM_STATUS_THROTTLED = v then s else (s.setFld THM_STATUS_THROTTLED v.toNat).irq 116

/-- The throttle threshold in 1/8 °C. -/
def State.threshold (s : State) : Int := 8 * s.fld THM_CFG_T_THROT

/-- Largest prediction of a grove's positions. -/
def State.grovePred (s : State) (g : Nat) : Option Nat :=
  match ((s.working g).filter s.sensed).map (fun pos => s.fld (TILE_THM_HS_PRED pos)) with
  | [] => none
  | a :: rest => some (rest.foldl hotter a)

/-- Groves whose prediction is at least the threshold marked HOT. -/
def State.markHot (s : State) : State :=
  (List.range 36).foldl (fun (s : State) g => match s.grovePred g with
    | some v => if s.threshold ≤ degrees v then s.setFld (GRV_THM_STATUS_HOT g) 1 else s
    | none => s) s

/-- The position with the largest prediction. -/
def State.hottest (s : State) : Nat :=
  ((List.range 576).filter s.sensed).foldl (fun (b : Nat) pos =>
    if degrees (s.fld (TILE_THM_HS_PRED b)) < degrees (s.fld (TILE_THM_HS_PRED pos)) ∨ s.sensed b = false then pos else b) 0

/-- A step down: TOPP one below the current point, that point requested, THROTTLED, HOT marks, and source 16 with CAUSE 1
when THROTTLED is set by it (R377 step 1). -/
def State.stepDown (s : State) : State :=
  let first := !s.flag THM_STATUS_THROTTLED
  let s := (s.setFld THM_STATUS_TOPP (s.opp - 1)).setThrottled true
  let s := s.markHot
  let s := if first then
      s.raise (srcGrove (groveOf s.hottest) 16) 1 (packFields [(0, 10, s.hottest), (16, 12, s.fld (TILE_THM_HS_PRED s.hottest))])
    else s
  let s := { s with thermal := { s.thermal with steppedDown := some s.now, coolFrom := none } }
  s.requestOpp (s.fld THM_STATUS_TOPP) .cooling

/-- Whether a step down may be made now: TOPP above 0, none in the last 4 ms. -/
def State.mayStepDown (s : State) : Bool :=
  decide (0 < s.fld THM_STATUS_TOPP) && decide (0 < s.opp) && (match s.thermal.steppedDown with
    | some t => decide (t + 4 * msCounts ≤ s.now)
    | none => true)

/-- HOT marks cleared. -/
def State.clearHot (s : State) : State := (List.range 36).foldl (fun (s : State) g => s.setFld (GRV_THM_STATUS_HOT g) 0) s

/-- A step up: TOPP and the point one higher; at HOST_OPP the throttle ends (R377 step 3). -/
def State.stepUp (s : State) : State :=
  let n := s.fld THM_STATUS_TOPP + 1
  if s.fld PWR_STATUS_HOST_OPP ≤ n then
    (((s.setFld THM_STATUS_TOPP 3).setThrottled false).clearHot).requestOpp (s.fld PWR_STATUS_HOST_OPP) .cooling
  else (s.setFld THM_STATUS_TOPP n).requestOpp n .cooling

/-- Since when every prediction has been low enough to step up. -/
def State.noteCool (s : State) : State :=
  let cool := decide (degrees (s.fld THM_PANEL_PRED) + 8 * s.fld THM_CFG_HYST ≤ s.threshold)
  { s with thermal := { s.thermal with
    coolFrom := if cool then (match s.thermal.coolFrom with
      | some t => some t
      | none => some s.now) else none } }

/-- Whether that has lasted 200 ms. -/
def State.coolLong (s : State) : Bool :=
  match s.thermal.coolFrom with
  | some t => decide (t + 200 * msCounts ≤ s.now)
  | none => false

/-- The native throttle at a model update (R377); a request refused or cancelled is made again. -/
def State.throttle (s : State) : State :=
  let s := s.noteCool
  if s.threshold ≤ degrees (s.fld THM_PANEL_PRED) ∧ s.mayStepDown = true then s.stepDown
  else if s.fld THM_STATUS_TOPP < s.opp then s.requestOpp (s.fld THM_STATUS_TOPP) .cooling
  else if s.flag THM_STATUS_THROTTLED && s.coolLong && decide (s.opp = s.fld THM_STATUS_TOPP) then s.stepUp else s

/-- What the model publishes of its predictions: per position, the largest, and the grove it lies in. -/
def State.showPreds (s : State) (preds : List (Nat × BitVec 12)) : State :=
  let s := preds.foldl (fun (s : State) x =>
    if x.1 < 576 ∧ s.sensed x.1 = true then s.setFld (TILE_THM_HS_PRED x.1) x.2.toNat else s) s
  (s.setFld THM_PANEL_PRED (s.fld (TILE_THM_HS_PRED s.hottest))).setFld THM_STATUS_HOT_GRV (groveOf s.hottest)

/-- THERMAL_MODEL_UPDATE (R374, R377): every 1 ms; `preds` are the model's predictions by position. -/
def execThermalModelUpdate (preds : List (Nat × BitVec 12)) (s : State) : Out :=
  everyClk 6 msCounts s (fun s =>
    let s := s.showPreds preds
    if s.flag THM_CFG_MODE then s else s.throttle)

/-! ## Limits (R380) -/

/-- A value at or above 105 °C and 115 °C: sources 16 and 17 of a grove, once per episode; in native mode 105 °C forces a
step down. -/
def State.limits (s : State) (g key pos v : Nat) (cause17 : Nat) : State :=
  let d := packFields [(0, 10, pos), (16, 12, v)]
  let hot := decide (840 ≤ degrees v)
  let limit := decide (920 ≤ degrees v)
  let new105 := hot && !s.thermal.hot105.has key
  let new115 := limit && !s.thermal.hot115.has key
  let s := { s with thermal := { s.thermal with
    hot105 := if hot then s.thermal.hot105.add key else s.thermal.hot105.del key
    hot115 := if limit then s.thermal.hot115.add key else s.thermal.hot115.del key } }
  let s := if new105 then s.raise (srcGrove g 16) 2 d else s
  let s := if new115 then s.raise (srcGrove g 17) cause17 d else s
  if new105 && !s.flag THM_CFG_MODE && decide (0 < s.fld THM_STATUS_TOPP) && decide (0 < s.opp) then s.stepDown else s

/-! ## Readings (R371, R372) -/

/-- A disagreement of the two sensors of HS0 or HS1 followed over their reads: source 14 and GRV_THM_DISAGREE_CNT at the
tenth in a row. -/
def State.compare (s : State) (pos h : Nat) : State :=
  match spotDiodes h with
  | [a, b] =>
    let x := s.senseValue pos a
    let y := s.senseValue pos b
    let key := 4 * pos + h
    if s.senseState pos a = 0 ∧ s.senseState pos b = 0 ∧ (32 < degrees x - degrees y ∨ 32 < degrees y - degrees x) then
      let old := SMap.get (0, s.now) s.thermal.apart key
      let s := { s with thermal := { s.thermal with apart := s.thermal.apart.insert key (old.1 + 1, old.2) } }
      if old.1 + 1 = 10 then
        let g := groveOf pos
        (s.raise (srcGrove g 14) (h + 1) (packFields [(0, 10, pos), (16, 12, x), (32, 12, y)])).count
          (grvCounter g (GRV_THM_DISAGREE_CNT g) 14) 1
      else s
    else { s with thermal := { s.thermal with apart := s.thermal.apart.erase key } }
  | _ => s

/-- A diode's reading taken: VALUE and STATE; a failed sensor stays failed. -/
def State.takeReading (s : State) (pos d : Nat) (reading : Option (BitVec 16)) : State :=
  let key := 8 * pos + d
  let v := (reading.map (fun r => r.toNat % 4096)).getD (s.senseValue pos d)
  let good := reading.isSome && plausible v
  let s := s.setFld (TILE_THM_SENSd_VALUE pos d) v
  let s : State := { s with thermal := { s.thermal with
    absent := if good then s.thermal.absent.erase key else s.thermal.absent.insert key (SMap.get s.now s.thermal.absent key) } }
  if s.senseState pos d = 2 then s else s.setFld (TILE_THM_SENSd_STATE pos d) (!good).toNat

/-- A tile diode read. -/
def State.readDiode (s : State) (pos d : Nat) (reading : Option (BitVec 16)) : State :=
  let s := s.takeReading pos d reading
  let s := if d % 2 = 1 then s.compare pos (spotOf d) else s
  let s := (s.formSpot pos (spotOf d)).showMax
  let v := (List.range 3).foldl (fun (b : Nat) h => hotter b (s.spot pos h)) (s.spot pos 0)
  s.limits (groveOf pos) pos pos v 1

/-- The grove through which a rim die or the host die raises its records: that of the wave it joins, grove 0 for the host
die (R316, R373). -/
def State.dieGrove (s : State) (k : Die) : Nat :=
  match k with
  | .cdie pos => groveOf pos
  | .hrim k => groveOf ((attachPos k).headD 0)
  | .lrim m => (((lrimPos m).map groveOf).filter (fun g => s.fuses.groves.getLsbD g)).foldl min 35
  | .host => 0

/-- The key of a die among the hot parts. -/
def Die.key : Die → Nat
  | .cdie pos => pos
  | .hrim k => 600 + k
  | .lrim m => 700 + m
  | .host => 800

/-- A sensor's reading published and acted on (R371, R387). -/
def State.sense (s : State) (x : Sensor) (reading : Option (BitVec 16)) : State :=
  match x, reading with
  | .diode pos d, r => if s.sensed pos then s.readDiode pos d r else s
  | _, none => s
  | .die k, some r => s.limits (s.dieGrove k) (Die.key k) 0x3FF (r.toNat % 4096) 2
  | .inlet, some r => (s.setFld THM_COOLANT_T_IN (r.toNat % 4096)).setFld THM_STATUS_INLET_HIGH
      (decide (320 < degrees r.toNat)).toNat
  | .outlet, some r => s.setFld THM_COOLANT_T_OUT (r.toNat % 4096)
  | .pressure, some r => s.setFld THM_COOLANT_DP r.toNat
  | .flow, some r => s.setFld THM_COOLANT_FLOW r.toNat

/-- SENSOR_READ (R371, R372, R380): `none` is a missing reading. -/
def execSensorRead (sensor : Sensor) (reading : Option (BitVec 16)) (s : State) : Out :=
  if !sensor.wf then noUnit else answerClk s (s.sense sensor reading)

/-- A sensor marked failed (R373): STATE 2, grove source 15, its hot spot formed anew. -/
def State.failSensor (s : State) (pos d cause : Nat) : State :=
  let s := s.setFld (TILE_THM_SENSd_STATE pos d) 2
  let s := { s with thermal := { s.thermal with apart := s.thermal.apart.erase (4 * pos + spotOf d) } }
  ((s.raise (srcGrove (groveOf pos) 15) cause (packFields [(0, 10, pos), (10, 3, d)])).formSpot pos (spotOf d)).showMax

/-- SENSOR_FAIL (R373): implausible for 10 s, or in a disagreement for 10 s; which of two disagreeing sensors lies farther
from the model's estimate is the command's to say (log entry 40). -/
def execSensorFail (pos diode : Nat) (s : State) : Out :=
  if 576 ≤ pos ∨ 5 ≤ diode then noUnit
  else if s.senseState pos diode = 2 then idle s
  else match s.thermal.absent.find? (fun e => e.1 = 8 * pos + diode) with
    | some e => answerRef (e.2 + 10000 * msCounts) s (fun s => s.failSensor pos diode 1)
    | none => match s.thermal.apart.find? (fun e => e.1 = 4 * pos + spotOf diode) with
      | some e => answerRef (e.2.2 + 10000 * msCounts) s (fun s => s.failSensor pos diode 2)
      | none => idle s

/-! ## Thermal resistance (R375, R379) -/

/-- Average of a list, 0 of none. -/
def mean (l : List Nat) : Nat := if l.isEmpty then 0 else l.sum / l.length

/-- Degrees of a mean hot spot above the inlet, in 1/8 K; 0 where below. -/
def State.aboveInlet (s : State) (v : Int) : Nat := (v - degrees (s.fld THM_COOLANT_T_IN)).toNat

/-- Mean hot spot of a grove's positions in 1/8 °C. -/
def State.meanSpot (s : State) (g : Nat) : Int :=
  let l := ((s.working g).filter s.sensed).flatMap (fun pos => (List.range 3).map (fun h => degrees (s.spot pos h)))
  if l.isEmpty then 0 else l.sum / l.length

/-- A grove's R_g with a new sample, in 0.1 mK/W, and its trend: above the baseline by TREND_PCT for 10 min (R375). -/
def State.groveRth (s : State) (g watts : Nat) : State :=
  let old := SMap.get [] s.thermal.rg g
  let l := if 100 ≤ watts then ((s.aboveInlet (s.meanSpot g) * 1250 / watts) :: old).take 100 else old
  let r := min (mean l) 0xFFFF
  let s := ({ s with thermal := { s.thermal with rg := s.thermal.rg.insert g l } }).setFld (GRV_THM_STATUS_RTH g) r
  let base := s.fld (GRV_THM_STATUS_RTH_BASE g)
  if base = 0 then s.setFld (GRV_THM_STATUS_RTH_BASE g) r
  else if base * (100 + s.fld THM_CFG_TREND_PCT) ≤ 100 * r then
    let since := SMap.get s.now s.thermal.rth g
    let s := { s with thermal := { s.thermal with rth := s.thermal.rth.insert g since } }
    if since + 600000 * msCounts ≤ s.now ∧ s.flag (GRV_THM_STATUS_TREND g) = false then
      (s.setFld (GRV_THM_STATUS_TREND g) 1).log 4 8 [BitVec.ofNat 64 (s.rd (GRV_THM_STATUS g))]
    else s
  else ({ s with thermal := { s.thermal with rth := s.thermal.rth.erase g } }).setFld (GRV_THM_STATUS_TREND g) 0

/-- The panel's R_p with a new sample, in 0.01 mK/W. -/
def State.panelRth (s : State) : State :=
  let pin := s.fld PWR_POWER_PIN
  let l := if 100 ≤ pin then
      ((s.aboveInlet (degrees (s.fld THM_PANEL_HS_MAX)) * 12500 / pin) :: s.thermal.rp).take 100 else s.thermal.rp
  ({ s with thermal := { s.thermal with rp := l } }).setFld THM_PANEL_RTH (min (mean l) 0xFFFF)

/-- RTH_UPDATE (R375): every 100 ms; `powers` lists the power of a grove in W. -/
def execRthUpdate (powers : List (Nat × Nat)) (s : State) : Out :=
  answerEvery 7 (100 * msCounts) s (fun s =>
    let s := powers.foldl (fun (s : State) x => if x.1 < 36 then s.groveRth x.1 x.2 else s) s
    let s := s.setFld THM_STATUS_RTH_TREND ((List.range 36).any (fun g => s.flag (GRV_THM_STATUS_TREND g))).toNat
    s.panelRth)

/-- COMPAT_CAP_UPDATE (R379): in compatibility mode, every 100 ms, THERM_CAP from the margin above the inlet and R_p. -/
def execCompatCapUpdate (s : State) : Out :=
  if s.flag THM_CFG_MODE then
    answerEvery 8 (100 * msCounts) s (fun s =>
      let r := s.fld THM_PANEL_RTH
      let d := s.aboveInlet (840 - 8 * s.fld THM_CFG_COMP_MARGIN)
      let cap := if r = 0 then 15000 else max 3000 (min 15000 (d * 12500 / r))
      (s.setFld PWR_CAP_THERM_CAP cap).setCap)
  else idle s

/-! ## The coolant (R382, R383) -/

/-- Whether the coolant is as R383 asks: pressure at DP_MIN or above, inlet at most 40 °C. -/
def State.coolantGood (s : State) : Bool :=
  decide (s.fld THM_CFG_DP_MIN ≤ s.fld THM_COOLANT_DP) && decide (degrees (s.fld THM_COOLANT_T_IN) ≤ 320)

/-- FLOW_STOP (R382): a detected stop raises device source 4 and sets FLOW_LOST, with interrupt 116. -/
def execFlowStop (s : State) : Out :=
  when (!s.flag THM_STATUS_FLOW_LOST) s (fun s =>
    (((s.setFld THM_STATUS_FLOW_LOST 1).raise (srcDev 4) 1 0).irq 116).setAlert)

/-- FLOW_RESTORED (R383): the coolant has been good for 10 s: FLOW_LOST clears. -/
def execFlowRestored (s : State) : Out :=
  when (s.flag THM_STATUS_FLOW_LOST && s.coolantGood) s (fun s => ((s.setFld THM_STATUS_FLOW_LOST 0).irq 116).setAlert)

end Sys2Proof.Machine
end

