-- ==== Sys2Proof/Machine/Firmware.lean ====
section
/-! DEFINITION. Firmware images: the file, its verification (R401, R402), the compatibility check (R313 to R315) and the
selection of slots at a panel reset (R403). -/

namespace Sys2Proof.Machine

/-! ## The image file (R401) -/

/-- `n` bytes of a file from an offset, as a number. -/
def FwSlot.nat (f : FwSlot) (off n : Nat) : Nat := Mem.read f.file off n
/-- `n` bytes of a file from an offset. -/
def FwSlot.bytes (f : FwSlot) (off n : Nat) : List Byte := (List.range n).map (fun i => Mem.byte f.file (off + i))

/-- Slot size of a kind. -/
def slotSize (k : Nat) : Nat :=
  match k with
  | 1 => 8 * 2 ^ 20
  | 5 => 32 * 2 ^ 20
  | _ => 2 ^ 20

/-- VERSION of an image. -/
def FwSlot.version (f : FwSlot) : Nat := f.nat 0xA 2
/-- SVN of an image. -/
def FwSlot.svn (f : FwSlot) : Nat := f.nat 0xC 4
/-- Bytes of the body. -/
def FwSlot.bodyLen (f : FwSlot) : Nat := f.nat 0x10 4
/-- Compatibility entries. -/
def FwSlot.ncompat (f : FwSlot) : Nat := f.nat 0x14 4
/-- KEYIDX of an image. -/
def FwSlot.keyIdx (f : FwSlot) : Nat := f.nat 0x18 1
/-- Compatibility entry `i`. -/
def FwSlot.compat (f : FwSlot) (i : Nat) : Nat := f.nat (0x4160 + 8 * i) 8
/-- The signed statement. -/
def FwSlot.statement (f : FwSlot) : List Byte := f.bytes 0 0x80
/-- The compatibility table followed by the body. -/
def FwSlot.content (f : FwSlot) : List Byte := f.bytes 0x4160 (8 * f.ncompat + f.bodyLen)

/-- A digest from 48 bytes, the first most significant. -/
def digestOf (l : List Byte) : BitVec 384 := l.foldl (fun (a : BitVec 384) b => (a <<< 8) ||| b.setWidth 384) 0

/-- Whether the format of an image of kind `k` is right but for its size (R402 step 1). -/
def FwSlot.formatOk (f : FwSlot) (k : Nat) : Bool :=
  decide (f.nat 0 8 = 0x4639_5041 + 2 ^ 32) && decide (f.nat 8 2 = k) && decide (f.nat 0x19 7 = 0) && decide (f.nat 0x50 48 = 0)
    && decide (f.keyIdx < 8)

/-- Whether an image of kind `k` fits its slot. -/
def FwSlot.sizeOk (f : FwSlot) (k : Nat) : Bool :=
  decide (0x4160 + 8 * f.ncompat + f.bodyLen ≤ slotSize k) && (decide (k ≠ 2) || decide (f.bodyLen ≤ 0x40000))

/-- STD_MINSVN of a kind (R396). -/
def State.minSvn (s : State) (k : Nat) : Nat := s.stdWord (24 + (k - 1))

/-- Steps 1 to 6 of R402 for an image of kind `k`: the cause of the first failure. -/
def State.verify (s : State) (k : Nat) (f : FwSlot) : Option Nat :=
  if !f.formatOk k then some 1
  else if !f.sizeOk k then some 8
  else if s.fuses.revoked.getLsbD f.keyIdx then some 2
  else if !Config.rsaValid f.keyIdx f.statement (f.bytes 0x80 384) then some 3
  else if !Config.slhValid f.keyIdx f.statement (f.bytes 0x200 16224) then some 4
  else if digestOf (f.bytes 0x20 48) ≠ sha384 f.content then some 5
  else if f.svn < s.minSvn k then some 6
  else none

/-! ## Slots (R403) -/

/-- Slot 0 (A) or 1 (B) of kind `k`. -/
def State.fwSlot (s : State) (k x : Nat) : FwSlot := SMap.get FwSlot.init s.mgmt.slots (2 * (k - 1) + x)
/-- A slot replaced. -/
def State.setSlot (s : State) (k x : Nat) (f : FwSlot) : State :=
  { s with mgmt := { s.mgmt with slots := SMap.put FwSlot.init s.mgmt.slots (2 * (k - 1) + x) f } }
/-- The slot of a kind that runs. -/
def State.runningSlot (s : State) (k : Nat) : Option Nat := (s.mgmt.running.find? (fun e => e.1 = k)).map (·.2)
/-- The image of a kind that runs. -/
def State.runningImage (s : State) (k : Nat) : Option FwSlot := (s.runningSlot k).map (s.fwSlot k)

/-- STD_BOOTSEL of a kind: its word, PREF, TRIAL and TRIES (R396). -/
def bootWord (k : Nat) : Nat := 16 + (k - 1)
/-- PREF. -/
def State.pref (s : State) (k : Nat) : Nat := bitsOf (s.stdWord (bootWord k)) 0 1
/-- TRIAL. -/
def State.trial (s : State) (k : Nat) : Bool := Nat.testBit (s.stdWord (bootWord k)) 1
/-- TRIES. -/
def State.tries (s : State) (k : Nat) : Nat := bitsOf (s.stdWord (bootWord k)) 2 2

/-- Whether a slot can be used: its header exists and its image passes steps 1 to 6. -/
def State.slotUsable (s : State) (k x : Nat) : Bool :=
  decide ((s.fwSlot k x).state ≠ .invalid) && (s.verify k (s.fwSlot k x)).isNone
/-- Whether a slot can be fallen back to. -/
def State.fallback (s : State) (k x : Nat) : Bool := decide ((s.fwSlot k x).state = .committed) && s.slotUsable k x

/-- What a panel reset selects for a kind: the BOOTSEL word as it will be, the slot, whether on trial, and whether it is
the fallback (log entry 41). -/
structure Pick where
  word : Nat
  slot : Option Nat
  trial : Bool
  fell : Bool
  deriving DecidableEq, Repr

/-- The selection of a kind (R403). -/
def State.pick (s : State) (k : Nat) : Pick :=
  let spent := s.trial k && decide (s.tries k = 3)
  let pref := if spent then 1 - s.pref k else s.pref k
  let trial := s.trial k && !spent
  let word := if spent then pref else if trial then packFields [(0, 1, pref), (1, 1, 1), (2, 2, s.tries k + 1)] else s.stdWord (bootWord k)
  if s.slotUsable k pref then ⟨word, some pref, trial, false⟩
  else if s.fallback k (1 - pref) then ⟨word, some (1 - pref), false, true⟩
  else ⟨word, none, false, true⟩

/-! ## Compatibility (R313, R314) -/

/-- Whether a compatibility entry of a class covers a kind's stepping or version. -/
def FwSlot.covers (f : FwSlot) (cls kind v : Nat) : Bool :=
  (List.range f.ncompat).any (fun i =>
    let e := f.compat i
    decide (bitsOf e 0 2 = cls) && decide (bitsOf e 4 4 = kind) && decide (bitsOf e 8 16 ≤ v) && decide (v ≤ bitsOf e 24 16))

/-- Whether the pairing of a position's steppings is on the not-permitted list of a management image (R310). -/
def State.pairBad (s : State) (m : FwSlot) (pos : Nat) : Bool :=
  (List.range m.ncompat).any (fun i =>
    let e := m.compat i
    decide (bitsOf e 0 2 = 3) && decide (bitsOf e 8 16 = s.steppingOf 1 pos) && decide (bitsOf e 24 16 = s.steppingOf 2 pos))

/-- Whether a position is fenced for its pairing, under the management firmware that runs (R310). -/
def State.pairFenced (s : State) (pos : Nat) : Bool :=
  match s.runningImage 1 with
  | some m => s.pairBad m pos
  | none => false

/-- Steppings of the present dies of a kind that an image serves (R314): not fused off, not in the fence map, and no
position fenced for pairing. -/
def State.present (s : State) (m : FwSlot) (image kind : Nat) : List Nat :=
  let positions := (List.range 576).filter (fun q => decide (s.posFuse q ≠ 0) && !s.inFenceMap 1 q && !s.pairBad m q)
  let hbms := (List.range 48).filter (fun k => s.fuses.stackMask.getLsbD k && !s.inFenceMap 2 k)
  match kind with
  | 1 => positions.map (s.steppingOf 1)
  | 2 => positions.map (s.steppingOf 2)
  | 3 => hbms.map (s.steppingOf 3)
  | 4 => ((List.range 16).filter (fun d => (List.range 4).any (fun j => s.fuses.ports.getLsbD (4 * d + j)) && !s.inFenceMap 3 d)).map
      (s.steppingOf 4)
  | 5 => if s.inFenceMap 6 0 then [] else [s.steppingOf 5 0]
  | 6 => [s.steppingOf 6 0]
  | 7 => if image = 5 then (([0, 1].filter (fun i => !s.inFenceMap 7 i)).map (fun i => s.steppingOf 7 (48 + i)))
      else hbms.map (s.steppingOf 7)
  | _ => []

/-- Die kinds that an image serves. -/
def servesOf (k : Nat) : List Nat :=
  match k with
  | 1 => [6]
  | 2 => [1, 2]
  | 3 => [3, 7]
  | 4 => [4]
  | _ => [5, 7]

/-- A failing pair as MGMT_BOOT_COMPAT holds it (R334). -/
def compatWord (image version : Nat) (die : Bool) (kind other : Nat) : Nat :=
  packFields [(0, 4, image), (4, 16, version), (20, 1, die.toNat), (24, 4, kind), (28, 16, other), (63, 1, 1)]

/-- The first die stepping that an image does not cover. -/
def State.steppingFault (s : State) (m : FwSlot) (k : Nat) (f : FwSlot) : Option Nat :=
  (servesOf k).findSome? (fun d => ((s.present m k d).find? (fun v => !f.covers 1 d v)).map (fun v => compatWord k f.version true d v))

/-- The first pair of images of which neither covers the other. -/
def pairFault (set : List (Nat × FwSlot)) : Option Nat :=
  set.findSome? (fun a => (set.find? (fun b => decide (a.1 < b.1) && !(a.2.covers 2 b.1 b.2.version || b.2.covers 2 a.1 a.2.version))).map
    (fun b => compatWord a.1 a.2.version false b.1 b.2.version))

/-- The check of R314 over a set of images by kind: the first failing pair. A kind without an image fails the set. -/
def State.setFault (s : State) (set : List (Nat × Option FwSlot)) : Option Nat :=
  match set.find? (fun e => e.2.isNone) with
  | some e => some (compatWord e.1 0 false 0 0)
  | none =>
    let l := set.filterMap (fun e => e.2.map (fun f => (e.1, f)))
    match l.find? (fun e => e.1 = 1) with
    | none => some (compatWord 1 0 false 0 0)
    | some m => match l.findSome? (fun e => s.steppingFault m.2 e.1 e.2) with
      | some w => some w
      | none => pairFault l

/-- The image kinds. -/
def imageKinds : List Nat := [1, 2, 3, 4, 5]

/-- The images of a choice of slots by kind. -/
def State.imagesOf (s : State) (choice : Nat → Option Nat) : List (Nat × Option FwSlot) :=
  imageKinds.map (fun k => (k, (choice k).map (s.fwSlot k)))

/-! ## Selection at a panel reset (R403, R405, R315) -/

/-- The cause of a rejection recorded in VERIFY_ERR (R402). -/
def State.reject (s : State) (k cause : Nat) : State := s.setFld (MGMT_UPD_SLOTk_VERIFY_ERR k) cause

/-- Code of a firmware slot's state (R415). -/
def SlotState.code : SlotState → Nat
  | .invalid => 0
  | .valid => 1
  | .committed => 2

/-- MGMT_UPD_SLOTk (R415). -/
def State.updSlot (s : State) (k : Nat) : Nat :=
  let a := s.fwSlot k 0
  let b := s.fwSlot k 1
  packFields [(0, 2, a.state.code), (2, 2, b.state.code), (4, 1, (s.runningSlot k).getD 0), (5, 1, s.pref k), (6, 1, (s.trial k).toNat)
    , (7, 2, s.tries k), (9, 4, s.fld (MGMT_UPD_SLOTk_VERIFY_ERR k)), (16, 16, a.version), (32, 16, b.version)]

/-- The rejection of a kind's preferred slot recorded, and the fallback logged (R403). -/
def State.noteFall (s : State) (k : Nat) (p : Pick) : State :=
  if p.fell then
    let f := s.fwSlot k (bitsOf p.word 0 1)
    let s := if f.state = .invalid then s else match s.verify k f with
      | some c => s.reject k c
      | none => s
    s.log 5 8 [BitVec.ofNat 64 (packFields [(0, 8, k), (8, 1, (p.slot.getD 0)), (9, 1, p.slot.isSome.toNat)])]
  else s

/-- The slots of a set taken as running. -/
def State.setRunning (s : State) (l : List (Nat × Nat)) : State :=
  { s with mgmt := { s.mgmt with running := l.foldl (fun (m : SMap Nat) e => m.insert e.1 e.2) [] } }

/-- The recovery state of R315: the management firmware alone runs. -/
def State.recovery (s : State) (word slot : Nat) : State :=
  ((s.setRunning [(1, slot)]).setFld MGMT_BOOT_STATUS_PHASE 5).wr MGMT_BOOT_COMPAT word

/-- ROM recovery (R405). -/
def State.romRecovery (s : State) : State :=
  ((s.setRunning []).setFld MGMT_BOOT_STATUS_PHASE 5).setFld MGMT_STATUS_ROMREC 1

/-- The firmware of a panel reset selected (R403): BOOTSEL written, the set checked, kinds on trial reverted once; else the
recovery state, or ROM recovery with no management firmware. -/
def State.selectFirmware (s : State) : State :=
  let picks := imageKinds.map (fun k => (k, s.pick k))
  let s' := picks.foldl (fun (t : State) p =>
    let t := if p.2.word = t.stdWord (bootWord p.1) then t else t.stdWrite (bootWord p.1) p.2.word
    t.noteFall p.1 p.2) s
  let pickOf (k : Nat) : Option Pick := (picks.find? (fun p => p.1 = k)).map (·.2)
  let first (k : Nat) : Option Nat := (pickOf k).bind (·.slot)
  let second (k : Nat) : Option Nat := (pickOf k).bind (fun p =>
    if p.trial then (p.slot.bind (fun x => if s.fallback k (1 - x) then some (1 - x) else none)) else p.slot)
  let slots (c : Nat → Option Nat) : List (Nat × Nat) := imageKinds.filterMap (fun k => (c k).map (fun x => (k, x)))
  match first 1 with
  | none => s'.romRecovery
  | some m =>
    match s.setFault (s.imagesOf first) with
    | none => s'.setRunning (slots first)
    | some w =>
      if picks.any (fun p => p.2.trial) then
        match second 1 with
        | none => s'.romRecovery
        | some m2 => match s.setFault (s.imagesOf second) with
          | none => s'.setRunning (slots second)
          | some w2 => s'.recovery w2 m2
      else s'.recovery w m

end Sys2Proof.Machine
end

