-- ==== Sys2Proof/Machine/BringUp.lean ====
section
/-! DEFINITION. Panel reset and bring-up (R307 to R334, R361, R424 to R426): the release of reset, waves, self-test,
reconciliation with fuses and fence map, firmware broadcast, readiness, and the test access network. -/

namespace Sys2Proof.Machine

/-! ## Reset (R307, R425, R426) -/

/-- What a reset keeps of the control space: the next log sequence number, the state of the front-end converters, and the
baselines of R359 and R375 (log entry 38). -/
def State.keptWords (s : State) : SMap W64 :=
  let r : State := { State.reset with csr := [] }
  let r := (r.setFld MGMT_LOG_HEAD_LSEQ (s.fld MGMT_LOG_HEAD_LSEQ)).setFld PWR_STATUS_FE_OK (s.fld PWR_STATUS_FE_OK)
  let r := (List.range 36).foldl (fun (r : State) g =>
    (List.range 10).foldl (fun (r : State) n => r.setFld (GRV_PWR_PHn_BASE g n) (s.fld (GRV_PWR_PHn_BASE g n)))
      (r.setFld (GRV_THM_STATUS_RTH_BASE g) (s.fld (GRV_THM_STATUS_RTH_BASE g)))) r
  r.csr

/-- The panel in reset: everything at its reset value but the queue, the fuses, the standing registers, flash, what
`keptWords` keeps, the clocks, the model's counters and the telemetry last published; ALIVE low. -/
def State.inReset (s : State) : State :=
  { State.reset with
    pending := s.pending
    fuses := s.fuses
    clk := s.clk
    csr := s.keptWords
    std := s.std
    wcnt := s.wcnt
    mgmt := { Mgmt.init with logFlash := s.mgmt.logFlash, slots := s.mgmt.slots }
    power := { Power.init with badInput := s.power.badInput, inputGone := s.power.inputGone }
    pins := { Pins.init with inReset := true, telemetry := s.pins.telemetry, published := s.pins.published }
    answer := s.answer
    free := s.free }

/-- PANEL_RST_N_ASSERT (R425): cores halted and groves off, the log committed, the panel in reset. -/
def execPanelRstNAssert (s : State) : Out := if s.pins.inReset then idle s else .next s.flushLog.inReset

/-- INPUT_LOSS (R361, R389): the log committed from stored energy, and the module off. -/
def execInputLoss (s : State) : Out :=
  if s.power.inputGone then idle s
  else
    let t := s.flushLog.inReset
    .next { t with power := { t.power with inputGone := true } }

/-! ## Steps 1 to 5 (R307) -/

/-- Identity scan (R309, R310): the records of each position. -/
def State.scanPositions (s : State) : State :=
  (List.range 576).foldl (fun (s : State) q =>
    let s := (s.setFld (MGMT_BISTi_RES_POSFUSE q) (s.posFuse q)).setFld (MGMT_BISTi_RES_FENCED q) (s.inFenceMap 1 q).toNat
    let step (w : Nat) : Nat := bitsOf w 4 8
    let caps (w : Nat) : Nat := bitsOf w 12 6
    let c := s.dieIdentity 1 q
    let m := s.dieIdentity 2 q
    s.wr (MGMT_BISTi_ID q) (packFields [(0, 8, step c), (8, 6, caps c), (16, 8, step m), (24, 6, caps m)])) s

/-- The records of the rim dies and the host die. -/
def State.scanDies (s : State) : State :=
  let s := (List.range 50).foldl (fun (s : State) k =>
    (s.setFld (MGMT_BIST_HBMk_1_STEP k) (if k < 48 then s.steppingOf 3 k else s.steppingOf 5 0)).setFld
      (MGMT_BIST_HBMk_1_STACK_STEP k) (s.steppingOf 7 k)) s
  let s := (List.range 16).foldl (fun (s : State) m => s.setFld (MGMT_BIST_LRIMm_1_STEP m) (s.steppingOf 4 m)) s
  (s.setFld MGMT_BIST_HOST_1_STEP (s.steppingOf 5 0)).setFld MGMT_BIST_HOST_1_STACK_STEP (s.steppingOf 7 48)

/-- The fence map as step 2 reads it. -/
def State.scanFences (s : State) : State :=
  let l := (List.range 1024).foldl (fun (l : NSet) i =>
    if s.fenceValid i then NSet.add l (s.stdWord (fenceWord i) % 2 ^ 14) else l) []
  { s with boot := { s.boot with scanned := l } }

/-- Whether a part was in the fence map at step 2. -/
def State.fencedAt (s : State) (kind index : Nat) : Bool := NSet.has s.boot.scanned (kind + 16 * index)

/-- Failed phases of a grove in the fence map. -/
def State.fencedPhases (s : State) (g : Nat) : List Nat := (List.range 10).filter (fun n => s.fencedAt 4 (10 * g + n))

/-- Whether the fence map keeps a grove from being powered: two failed phases, or a short (R358). -/
def State.supplyFenced (s : State) (g : Nat) : Bool := s.fencedAt 5 g || decide (2 ≤ (s.fencedPhases g).length)

/-- Failed phases shown, and a grove that cannot be powered fenced and its bring-up over. -/
def State.scanSupply (s : State) (g : Nat) : State :=
  if !s.fuses.groves.getLsbD g then s
  else
    let l := s.fencedPhases g
    let s := l.foldl (fun (s : State) n => (s.setFld (GRV_PWR_PHn_FAILED g n) 1).setFld (GRV_PWR_STATUS_PH_FAIL g)
      (setBitsOf (s.fld (GRV_PWR_STATUS_PH_FAIL g)) n 1 1)) s
    let s := if l.isEmpty then s else s.setFld (GRV_PWR_STATUS_ILIM g) 396
    let s := if s.fencedAt 5 g then s.setFld (GRV_PWR_STATUS_SHORT g) 1 else s
    if !s.supplyFenced g then s
    else
      let s := ((List.range 16).map (posOfGrove g)).foldl (fun (s : State) q => if s.posFuse q = 0 then s else s.setStatus q 3) s
      { s with boot := { s.boot with ended := s.boot.ended.add (200 + g) } }

/-- Positions whose pairing is not permitted: status 0x03, result 6 (R310, R323). -/
def State.fencePairs (s : State) : State :=
  (List.range 576).foldl (fun (s : State) q =>
    if s.posFuse q ≠ 0 && s.pairFenced q then (s.setStatus q 3).setFld (MGMT_BISTi_RES_RESULT q) 6 else s) s

/-- The panel feature set F (R311). -/
def State.featureSet (s : State) : BitVec 6 :=
  ((List.range 576).filter (fun q => decide (s.posFuse q ≠ 0) && !s.fencedAt 1 q && !s.pairFenced q)).foldl
    (fun (f : BitVec 6) q => f &&& s.capsOf q) 0x3F#6

/-- First word of the valid copy of the health history whose HSEQ is later (R399, R139). -/
def State.historyCopy (s : State) : Option Nat :=
  let valid (b : Nat) : Bool := decide (s.stdWord (b + 0x475) = complement (s.stdWord b))
  match valid 0x1000, valid 0x2800 with
  | false, false => none
  | true, false => some 0x1000
  | false, true => some 0x2800
  | true, true =>
    if (s.stdWord 0x1000 + 2 ^ 32 - s.stdWord 0x2800) % 2 ^ 32 < 2 ^ 31 then some 0x1000 else some 0x2800

/-- Health scores restored from the history, or zero with an entry of TYPE 7 (R399). -/
def State.restoreHealth (s : State) : State :=
  match s.historyCopy with
  | none => s.log 7 0 []
  | some b =>
    let s := { s with mgmt := { s.mgmt with hseq := (s.stdWord b + 1) % 2 ^ 32 } }
    let s := (List.range 576).foldl (fun (s : State) q => s.setFld (TILE_FLT_HEALTH_SCORE q) (s.stdWord (b + 2 + q))) s
    let s := (List.range 512).foldl (fun (s : State) l =>
      s.setFld (FAB_LANE_HEALTHl_SCORE (l / 8) (l % 8)) (s.stdWord (b + 0x242 + l))) s
    let s := (List.range 50).foldl (fun (s : State) k => s.setFld (HBM_HEALTH_SCORE k) (s.stdWord (b + 0x442 + k))) s
    s.setFld FLT_PANEL_HEALTH_SCORE (s.stdWord (b + 0x474))

/-- What the management firmware does first (R307 steps 1 and 4, R366, R396): policy words into the registers, caps,
ALIVE and the management ports. -/
def State.startManagement (s : State) : State :=
  let w := s.stdWord 4
  let cls := bitsOf w 1 2
  let s := if 2 < cls ∨ s.fuses.powerMax.toNat < cls then s.log 8 8 [BitVec.ofNat 64 w] else s
  let c := min cls s.fuses.powerMax.toNat
  let s := ((s.setFld PWR_CFG_CLASS c).setFld PWR_CFG_FLOOR (bitsOf (s.stdWord 5) 0 8)).setFld PWR_CFG_SLEW (bitsOf (s.stdWord 5) 8 9)
  let s := ((s.setFld PWR_CAP_CAP_W (classCap c)).setFld MGMT_ACL_ACL (bitsOf (s.stdWord 6) 0 6)).setFld THM_CFG_MODE (bitsOf w 3 1)
  (((s.setReady 3 0 true).setReady 3 1 true).setReady 3 2 true).setAlive

/-- Power and reference at step 4 (R424): the converters that work, and the source of the mesh. -/
def State.startSupply (s : State) (refPresent : Bool) : State :=
  let fe := s.fld PWR_STATUS_FE_OK
  let s := (s.setFld PWR_STATUS_FE_OK (if fe = 0 then 0xFF else fe)).setFld CLK_STATUS_BACKUP_OK 1
  (s.setFld CLK_STATUS_SOURCE (if refPresent then 1 else 3)).setFld CLK_STATUS_REF_OK refPresent.toNat

/-- Steps 2 to 5 once a firmware set passed: scans, features, and the host die powered. -/
def State.startPanel (s : State) : State :=
  let s := ((s.restoreHealth.scanPositions).scanDies).fencePairs
  let s := (List.range 36).foldl State.scanSupply s
  let s := s.wr DESC_FEATURES s.featureSet.toNat
  ((s.setFld MGMT_HOST_CTRL_STATE 1).bracket).setFld MGMT_BOOT_STATUS_PHASE 3

/-- The release of panel reset (R307): the clocks and the reference count start again, firmware is selected, and the
management controller runs; the panel goes on only with a set that passed (R315, R405). -/
def State.powerUp (s : State) (refPresent : Bool) : State :=
  let s : State := { s.inReset with clk := Clocks.init }
  let s : State := { s with
    boot := { s.boot with started := true }, pins := { s.pins with inReset := false }
    mgmt := { s.mgmt with refreshed := s.now, late := false } }
  let s := ((s.startSupply refPresent).scanFences).selectFirmware
  if s.flag MGMT_STATUS_ROMREC then (s.setCap).setAlert
  else
    let s := s.startManagement.setCap
    if s.fld MGMT_BOOT_STATUS_PHASE = 5 then s else s.startPanel

/-- PANEL_RESET_RELEASE (R307, R424): while the panel is in reset, or has never been released, and has its input. -/
def execPanelResetRelease (refPresent : Bool) (s : State) : Out :=
  if (s.pins.inReset || !s.boot.started) && !s.power.inputGone then
    .next { s.powerUp refPresent with pending := s.pending, fuses := s.fuses }
  else idle s

/-- INPUT_RETURN (R361, R426): the input is back: a cold start, with or without the reference. -/
def execInputReturn (refPresent : Bool) (s : State) : Out :=
  if s.power.inputGone then
    let s' : State := { s with power := { s.power with inputGone := false, badInput := false } }
    .next { s'.powerUp refPresent with pending := s.pending, fuses := s.fuses }
  else idle s

/-! ## Functions and phases -/

/-- Whether bring-up is under way: PHASE 3, and the controller that runs it is not restarting (R331). -/
def State.bringing (s : State) : Bool := s.boot.started && decide (s.fld MGMT_BOOT_STATUS_PHASE = 3) && !s.mgmt.down

/-- A function whose bring-up has ended. -/
def State.finish (s : State) (k : Nat) : State := { s with boot := { s.boot with ended := s.boot.ended.add k } }

/-- Every enabled function, by its number in `Boot.ended`: groves, stacks of powered dies, ports of powered dies, the host
stacks and the host complex. -/
def State.functions (s : State) : List Nat :=
  ((List.range 36).filter (fun g => s.fuses.groves.getLsbD g)).map (200 + ·)
    ++ (List.range 48).filter (fun k => s.fuses.stackMask.getLsbD k && s.hrimPowered k)
    ++ ((List.range 64).filter (fun p => s.fuses.ports.getLsbD p && s.lrimPowered (p / 4))).map (64 + ·) ++ [48, 49, 128]

/-- DESC_DIST written once every enabled grove has finished its tests (R191, R330). -/
def State.writeDist (s : State) : State :=
  if s.ready 3 6 || !((List.range 36).all (fun g => !s.fuses.groves.getLsbD g || s.boot.ended.has (200 + g))) then s
  else
    let up := (List.range 576).filter s.routerUp
    let map := (List.range 512).foldl (fun (m : SMap Nat) l => if s.mapEntry l = 0 then m else m.insert l (s.mapEntry l)) []
    let s := { s with boot := { s.boot with distUp := up, distMap := map } }
    (s.setReady 3 6 true).bracket

/-- DONE once every enabled function has finished (R307 step 9). -/
def State.writeDone (s : State) : State :=
  if s.functions.all s.boot.ended.has && s.bringing then
    ((s.setReady 3 7 true).setFld MGMT_BOOT_STATUS_PHASE 4).setFld MGMT_BOOT_STATUS_DONE_MS (s.now / msCounts)
  else s

/-- What follows each step of bring-up. -/
def State.settle (s : State) : State := (s.refresh.writeDist).writeDone

/-! ## Waves (R316 to R318) -/

/-- The wave of an L-rim die: the earlier of its enabled attachment groves. -/
def State.lrimWave (s : State) (m : Nat) : Nat :=
  (((lrimPos m).map groveOf).filter (fun g => s.fuses.groves.getLsbD g)).foldl (fun n g => min n (g / 6)) 6
/-- The wave of an H-rim die: its grove's row. -/
def hrimWave (k : Nat) : Nat := groveOf ((attachPos k).headD 0) / 6

/-- The enabled groves of a wave (R316). -/
def State.waveAll (s : State) (w : Nat) : List Nat := ((List.range 6).map (6 * w + ·)).filter (fun g => s.fuses.groves.getLsbD g)
/-- Those among them that can be powered (R358). -/
def State.waveGroves (s : State) (w : Nat) : List Nat :=
  (s.waveAll w).filter (fun g => !s.supplyFenced g && !s.boot.ended.has (200 + g))

/-- Whether a position is tested: not fused off, its pairing permitted, its grove powered for the test. -/
def State.testable (s : State) (q : Nat) : Bool :=
  decide (s.posFuse q ≠ 0) && !s.pairFenced q && !s.supplyFenced (groveOf q)

/-- Whether the logic BIST of a wave has ended: every die of its groves has a result, or its grove has lost its supply. -/
def State.logicEnded (s : State) (w : Nat) : Bool :=
  (s.waveGroves w).all (fun g => s.boot.ended.has (200 + g) || (List.range 16).all (fun t =>
      let q := posOfGrove g t
      !s.testable q || s.boot.logicOk.has q || s.boot.tested.has q))
    && (List.range 48).all (fun k => decide (hrimWave k ≠ w) || !s.hrimPowered k || !s.fuses.stackMask.getLsbD k
      || s.boot.logicOk.has (600 + k) || s.boot.ended.has k)
    && (List.range 16).all (fun m => decide (s.lrimWave m ≠ w) || !s.lrimPowered m || s.boot.logicOk.has (700 + m)
      || s.boot.ended.has (64 + 4 * m))

/-- Whether a wave may begin: an enabled grove, the coolant condition before wave 0, no holdover, and every earlier wave
with a grove begun, its stages switched and its logic BIST ended (R317, R331, R383). -/
def State.waveOpen (s : State) (w : Nat) : Bool :=
  s.bringing && !s.boot.waves.has w && !(s.waveAll w).isEmpty && decide (s.source ≠ 2) && (!s.boot.waves.isEmpty || s.coolantGood)
    && (List.range w).all (fun v => (s.waveAll v).isEmpty || (s.boot.waves.has v && s.logicEnded v
      && (s.waveGroves v).all (fun g => decide (SMap.get 0 s.power.stages g = 0))))

/-- WAVE_START (R316 to R318): the groves of the wave ask for their eight header stages; where none of them can be powered,
its rim dies turn on at once. -/
def execWaveStart (w : Nat) (s : State) : Out :=
  if 6 ≤ w then noUnit
  else when (s.waveOpen w) s (fun s =>
    let l := s.waveGroves w
    let s := l.foldl State.groveWake s
    ({ s with boot := { s.boot with
      waves := s.boot.waves.add w
      rimOn := if l.isEmpty then s.boot.rimOn.add w else s.boot.rimOn } }).setFld MGMT_BOOT_STATUS_WAVE w)

/-- Whether a grove is turned on for its tests: its last header stage has switched. -/
def State.onTest (s : State) (g : Nat) : Bool :=
  s.bringing && s.boot.waves.has (g / 6) && decide (SMap.get 0 s.power.stages g = 0) && decide (s.fld (GRV_PWR_STATUS_STATE g) = 3)
    && !s.boot.ended.has (200 + g)

/-! ## Reconciliation (R322 to R325) -/

/-- Whether every position of a grove that is tested has its result. -/
def State.reconciled (s : State) (g : Nat) : Bool :=
  (List.range 16).all (fun t => !s.testable (posOfGrove g t) || s.boot.tested.has (posOfGrove g t))

/-- Whether a position has passed and may be used: the pass row of R323. -/
def State.passes (s : State) (q : Nat) : Bool :=
  s.testable q && !s.fencedAt 1 q && decide (s.fld (MGMT_BISTi_RES_RESULT q) = 1)

/-- The active set of a grove (R324). -/
def State.activeSet (s : State) (g : Nat) : List Nat :=
  let l := ((List.range 16).map (posOfGrove g)).filter s.passes
  let first := l.filter (fun q => decide (s.posFuse q = 1))
  let chosen := first ++ (l.filter (fun q => decide (s.posFuse q = 2))).take (14 - first.length)
  ((List.range 16).map (posOfGrove g)).filter (fun q => chosen.contains q)

/-- Status bytes, map and reverse map of a grove written in one bracket (R325, R23), with the copies of the routers that
work (R26): a grove with fewer than 14 has no logical IDs, and its passing positions read 0x02. Its passing positions leave
reset together (R326). -/
def State.reconcile (s : State) (g : Nat) : State :=
  let act := s.activeSet g
  let whole := decide (14 ≤ act.length)
  let n := (s.logicalGrove g).getD 0
  let s := ((List.range 16).map (posOfGrove g)).foldl (fun (s : State) q =>
    let st := if s.posFuse q = 0 then 0 else if !s.passes q then 3 else if whole && act.contains q then 1 else 2
    (s.setStatus q st).setElem DESC_REV_MAP 16 q 0) s
  let s := (List.range 14).foldl (fun (s : State) i =>
    if whole then
      let q := act.getD i 0
      (s.mapAll (14 * n + i) (posEntry q)).setElem DESC_REV_MAP 16 q (0x8000 + 14 * n + i)
    else s.mapAll (14 * n + i) 0) s
  let out := ((List.range 16).map (posOfGrove g)).filter s.passes
  ({ s with boot := { s.boot with released := out.foldl NSet.add s.boot.released } }).bracket

/-- Whether the understory has a root (R17, R330). -/
def State.rooted (s : State) : Bool := decide (s.status 0 = 1) || decide (s.status 0 = 2) || decide (s.status 24 = 1) || decide (s.status 24 = 2)

/-- A grove whose tests are over and that cannot become ready: its clocks run in KEEP and its working nodes forward (R325,
R330). -/
def State.notReady (s : State) (g : Nat) : State := (s.clockKeep g).finish (200 + g)

/-- Groves reconciled and still without clocks. -/
def State.waitingGroves (s : State) : List Nat :=
  (List.range 36).filter (fun g => s.onTest g && s.reconciled g)

/-- With no root every grove whose tests are over ends not ready (R330). -/
def State.checkRoot (s : State) : State :=
  if s.reconciled 0 && !s.rooted then s.waitingGroves.foldl State.notReady s else s

/-- Results of a grove reconciled once its last test is in. A grove with fewer than 14 active positions, and every grove
when the understory has no root, ends not ready. -/
def State.testsOver (s : State) (g : Nat) : State :=
  if !s.reconciled g then s
  else
    let s := s.reconcile g
    (if (s.activeSet g).length < 14 then s.notReady g else s).checkRoot

/-- The bring-up record of a position appended to the event log (R321). -/
def State.logBist (s : State) (pos : Nat) : State :=
  s.log 3 16 [BitVec.ofNat 64 (s.rd (MGMT_BISTi_RES pos)), BitVec.ofNat 64 (s.rd (MGMT_BISTi_ID pos))]

/-- A position's test failed: its result, the fence map, and the grove's tests perhaps over. -/
def State.posFails (s : State) (q result reason : Nat) : State :=
  let s := s.setFld (MGMT_BISTi_RES_RESULT q) result
  let s := if s.fencedAt 1 q then s else s.addFence 1 q reason
  { s with boot := { s.boot with tested := s.boot.tested.add q } }

/-! ## Logic BIST (R319, R321) -/

/-- Coverage of a complete run by die, in 0.1 %: stuck-at, transition-delay; and its patterns. -/
def bistFigures : Die → Nat × Nat × Nat
  | .cdie _ => (968, 870, 131072)
  | .hrim _ => (959, 855, 131072)
  | .lrim _ => (961, 860, 131072)
  | .host => (947, 840, 262144)

/-- The bring-up record of a die. -/
def dieRecord : Die → Reg
  | .cdie q => MGMT_BISTi_RES q
  | .hrim k => MGMT_BIST_HBMk_0 k
  | .lrim m => MGMT_BIST_LRIMm_0 m
  | .host => MGMT_BIST_HOST_0

/-- The die records appended to the event log (R321). -/
def State.logDie (s : State) : Die → State
  | .cdie q => s.logBist q
  | .hrim k => s.log 3 16 [BitVec.ofNat 64 (s.rd (MGMT_BIST_HBMk_0 k)), BitVec.ofNat 64 (s.rd (MGMT_BIST_HBMk_1 k))]
  | .lrim m => s.log 3 16 [BitVec.ofNat 64 (s.rd (MGMT_BIST_LRIMm_0 m)), BitVec.ofNat 64 (s.rd (MGMT_BIST_LRIMm_1 m))]
  | .host => s.log 3 16 [BitVec.ofNat 64 (s.rd MGMT_BIST_HOST_0), BitVec.ofNat 64 (s.rd MGMT_BIST_HOST_1)]

/-- Coverage achieved and duration written to a die's record; the coverage of an incomplete run is a point of a curve the
specification does not give (log entry 13). -/
def State.writeCoverage (s : State) (d : Die) (patterns tenths : Nat) : State :=
  let f := bistFigures d
  let r := dieRecord d
  let put (s : State) (sa td : Nat) : State :=
    s.wr r (setBitsOf (setBitsOf (setBitsOf (s.rd r) 8 10 sa) 18 10 td) 28 12 tenths)
  if f.2.2 ≤ patterns then put s f.1 f.2.1
  else
    let a := s.freeValue
    let b := a.2.freeValue
    put b.2 (a.1.toNat % 1024) (b.1.toNat % 1024)

/-- Whether a die is in logic BIST. -/
def State.inLogic (s : State) (d : Die) : Bool :=
  match d with
  | .cdie q => s.onTest (groveOf q) && s.testable q && !s.boot.logicOk.has q && !s.boot.tested.has q
  | .hrim k => s.bringing && s.boot.rimOn.has (hrimWave k) && s.hrimPowered k && s.fuses.stackMask.getLsbD k
      && !s.boot.logicOk.has (600 + k) && !s.boot.ended.has k
  | .lrim m => s.bringing && s.boot.rimOn.has (s.lrimWave m) && s.lrimPowered m && !s.boot.logicOk.has (700 + m)
      && !s.boot.ended.has (64 + 4 * m)
  | .host => s.bringing && decide (s.fld MGMT_HOST_CTRL_STATE ≠ 0) && !s.boot.logicOk.has 800 && !s.boot.ended.has 128

/-- The ports of an L-rim die ended. -/
def State.finishPorts (s : State) (m : Nat) : State := (List.range 4).foldl (fun (s : State) j => s.finish (64 + 4 * m + j)) s

/-- A failed H-rim die or compute stack: STATE 3, its result, the fence map (R323); PHY training that fails raises HBM
source 0 (R207, log entry 102). -/
def State.stackBad (s : State) (k result : Nat) : State :=
  let s := (s.setFld (HBM_STATUS_STATE k) 3).setFld (MGMT_BIST_HBMk_0_RESULT k) (if s.fencedAt 2 k then 5 else result)
  let s := if result = 3 then s.stackRecords k 1 else s
  (if s.fencedAt 2 k then s else s.addFence 2 k 1).finish k

/-- The host complex failed: STATE 4, its first result, the fence map, and the complex not ready (R323). -/
def State.hostBad (s : State) (result kind index : Nat) : State :=
  let s := s.setFld MGMT_HOST_CTRL_STATE 4
  let s := if s.fld MGMT_BIST_HOST_0_RESULT ≠ 0 then s
    else s.setFld MGMT_BIST_HOST_0_RESULT (if s.fencedAt kind index then 5 else result)
  (if s.fencedAt kind index then s else s.addFence kind index 1).finish 128

/-- A die that has passed logic BIST. -/
def State.logicPass (s : State) (key : Nat) : State := { s with boot := { s.boot with logicOk := s.boot.logicOk.add key } }
/-- A rim or host die that may be used. -/
def State.dieGood (s : State) (key : Nat) : State := { s with boot := { s.boot with dieOk := s.boot.dieOk.add key } }

/-- The outcome of a die's logic BIST (R322, R323). -/
def State.logicDone (s : State) (d : Die) (ok : Bool) : State :=
  match d with
  | .cdie q => if ok then s.logicPass q else (s.posFails q 2 1).testsOver (groveOf q)
  | .hrim k =>
    if !ok then s.stackBad k 2
    else
      let s := s.logicPass (600 + k)
      if s.fencedAt 2 k then s else s.dieGood k
  | .lrim m =>
    if !ok then
      let s := s.setFld (MGMT_BIST_LRIMm_0_RESULT m) (if s.fencedAt 3 m then 5 else 2)
      (if s.fencedAt 3 m then s else s.addFence 3 m 1).finishPorts m
    else
      let s := s.logicPass (700 + m)
      if s.fencedAt 3 m then s else s.dieGood (64 + m)
  | .host =>
    if !ok then ((s.hostBad 2 6 0).finish 48).finish 49
    else if s.fencedAt 6 0 then (s.logicPass 800).hostBad 5 6 0
    else (s.logicPass 800).dieGood 128

/-- LOGIC_BIST_DONE (R319, R321, R322): signatures compared; `patterns` applied, in `tenthsMs` tenths of a millisecond. -/
def execLogicBistDone (die : Die) (signatureOk : Bool) (patterns tenthsMs : Nat) (s : State) : Out :=
  if !die.wf then noUnit
  else when (s.inLogic die) s (fun s =>
    (((s.writeCoverage die patterns tenthsMs).logicDone die signatureOk).logDie die).settle)

/-! ## Memory BIST, stacks and lanes (R320) -/

/-- MEMORY_BIST_DONE (R320 to R325): result 1 pass, 3 memory array, 4 bond or 8 controller timeout, with the first failing
bank; a tile that passes is cleared whole, its windows closed and its reach entries invalid (R129). -/
def execMemoryBistDone (pos result bank ms : Nat) (s : State) : Out :=
  if 576 ≤ pos then noUnit
  else when (s.onTest (groveOf pos) && s.boot.logicOk.has pos && !s.boot.tested.has pos
      && [1, 3, 4, 8].contains result) s (fun s =>
    let s := s.setFld (MGMT_BISTi_RES_MB_MS pos) ms
    let s := if result = 1 then
        let s := ((s.setFld (MGMT_BISTi_RES_RESULT pos) 1).clearTile pos).reachNone pos
        { s with boot := { s.boot with tested := s.boot.tested.add pos } }
      else
        let s := s.posFails pos result 1
        if result = 8 then s else s.setFld (MGMT_BISTi_RES_FAILBANK pos) bank
    ((s.testsOver (groveOf pos)).logBist pos).settle)

/-- A stack written with zeros, fresh check bits and poison clear (R320). -/
def State.stackZero (s : State) (k : Nat) : State := (s.stackOff k).setFld (HBM_STATUS_STATE k) 1

/-- A compute stack's test over. -/
def State.stackDone (s : State) (k result tenMs : Nat) : State :=
  let s := s.setFld (MGMT_BIST_HBMk_0_TEST_10MS k) tenMs
  let s := if result ≠ 1 then s.stackBad k result
    else if s.fencedAt 2 k then s.stackBad k 5
    else ((s.setFld (MGMT_BIST_HBMk_0_RESULT k) 1).stackZero k).finish k
  s.logDie (.hrim k)

/-- A host stack's test over, in its own record and, with the longer of the two times, in the host's (log entry 102); the
second that passes completes that. -/
def State.hostStackDone (s : State) (k result tenMs : Nat) : State :=
  let fenced := s.fencedAt 7 (k - 48)
  let s := (s.setFld (MGMT_BIST_HBMk_0_TEST_10MS k) tenMs).setFld (MGMT_BIST_HBMk_0_RESULT k) (if fenced then 5 else result)
  let s := s.setFld MGMT_BIST_HOST_0_TEST_10MS (max tenMs (s.fld MGMT_BIST_HOST_0_TEST_10MS))
  let s := if result ≠ 1 || fenced then
      let s := if result = 3 then s.stackRecords k 1 else s
      ((s.setFld (HBM_STATUS_STATE k) 3).hostBad result 7 (k - 48)).finish k
    else
      let s := (s.stackZero k).finish k
      if s.boot.ended.has 48 && s.boot.ended.has 49 && decide (s.fld MGMT_BIST_HOST_0_RESULT = 0) then
        s.setFld MGMT_BIST_HOST_0_RESULT 1
      else s
  (s.logDie (.hrim k)).logDie .host

/-- STACK_TEST_DONE (R320, R323): result 1 pass, 3 PHY training, 4 stack test. -/
def execStackTestDone (k result tenMs : Nat) (s : State) : Out :=
  if 50 ≤ k then noUnit
  else when (s.bringing && s.boot.logicOk.has (if k < 48 then 600 + k else 800) && !s.boot.ended.has k
      && [1, 3, 4].contains result) s (fun s =>
    (if k < 48 then s.stackDone k result tenMs else s.hostStackDone k result tenMs).settle)

/-- A lane that fails margining: its bit in the die's record, and the lane mask (R323). -/
def State.laneFails (s : State) (lane : Nat) : State :=
  let m := lane / 32
  let s := s.setFld (MGMT_BIST_LRIMm_1_LANE_FAIL m) (setBitsOf (s.fld (MGMT_BIST_LRIMm_1_LANE_FAIL m)) (lane % 32) 1 1)
  if s.laneMasked lane then s
  else s.stdWrite (0x40 + m) (setBitsOf (s.stdWord (0x40 + m)) (lane % 32) 1 1)

/-- The last lane of a die margined: result 1, 5 in the fence map, or 6 where a port has no four lanes. -/
def State.marginOver (s : State) (m : Nat) : State :=
  let r := if s.fencedAt 3 m then 5 else if (List.range 4).all (fun j => s.portLanes (4 * m + j)) then 1 else 6
  (s.setFld (MGMT_BIST_LRIMm_0_RESULT m) r).logDie (.lrim m)

/-- LANE_MARGIN_DONE (R320, R323, R329): lanes end in lane order; a port's bring-up ends with its eighth lane. -/
def execLaneMarginDone (lane : Nat) (pass : Bool) (tenMs : Nat) (s : State) : Out :=
  if 512 ≤ lane then noUnit
  else
    let m := lane / 32
    when (s.bringing && s.boot.logicOk.has (700 + m) && !s.boot.margined.has lane
        && (List.range (lane % 32)).all (fun i => s.boot.margined.has (32 * m + i))) s (fun s =>
      let s := if pass then s else s.laneFails lane
      let s := s.setFld (MGMT_BIST_LRIMm_0_TEST_10MS m) (s.fld (MGMT_BIST_LRIMm_0_TEST_10MS m) + tenMs)
      let s := { s with boot := { s.boot with margined := s.boot.margined.add lane } }
      let s := if lane % 32 = 31 then s.marginOver m else s
      (if lane % 8 = 7 then s.finish (64 + lane / 8) else s).settle)

/-! ## Firmware broadcast (R326, R327) -/

/-- The firmware store of a position's service controller. -/
def State.fwStore (s : State) (pos : Nat) : FwStore := SMap.get (⟨[], false, 0⟩ : FwStore) s.boot.fw pos
/-- The same replaced. -/
def State.setFw (s : State) (pos : Nat) (f : FwStore) : State :=
  { s with boot := { s.boot with fw := s.boot.fw.insert pos f } }

/-- Whether a service controller takes the firmware broadcast: its grove is reconciled, its position works and has left
reset, and its firmware does not run yet. -/
def State.takesFirmware (s : State) (pos : Nat) : Bool :=
  !s.mgmt.down && s.reconciled (groveOf pos) && decide (s.fld (GRV_PWR_STATUS_STATE (groveOf pos)) ≠ 0)
    && (decide (s.status pos = 1) || decide (s.status pos = 2)) && s.boot.released.has pos && !(s.fwStore pos).running

/-- Blocks of 256 bytes that an image is broadcast in (R326): those of its body (log entry 103). -/
def FwSlot.bcastBlocks (f : FwSlot) : Nat := (f.bodyLen + 255) / 256
/-- The bytes of a block, zeros past the body. -/
def FwSlot.bcastBlock (f : FwSlot) (b : Nat) : List Byte :=
  (List.range 256).map (fun i => if 256 * b + i < f.bodyLen then Mem.byte f.file (0x4160 + 8 * f.ncompat + 256 * b + i) else 0)
/-- The digest that ends the broadcast. -/
def FwSlot.bcastDigest (f : FwSlot) : BitVec 384 := sha384 ((List.range f.bcastBlocks).flatMap f.bcastBlock)

/-- The message that carries block `b` of the grove runtime image to a wave, or with a position to that one. -/
def FwSlot.bcastMsg (f : FwSlot) (wave : Nat) (uni : Option Nat) (b : Nat) : CnetMsg :=
  .bcast false wave uni 2 b ((List.range 64).map (fun i =>
    BitVec.ofNat 32 (packDigits 8 (fun j => ((f.bcastBlock b).getD (4 * i + j) 0).toNat) 4)))

/-- BCAST (R326): a data block of the grove runtime image that runs reaches the node of a position; it is stored where the
wave, or with UNI the position, is addressed; `e` is what the understory did to its words, which is dropped at the node where
one cannot be put right (R187). -/
def execBcast (pos : Nat) (uni : Bool) (wave block : Nat) (e : LinkErrors) (s : State) : Out :=
  if 576 ≤ pos ∨ 8 ≤ wave then noUnit
  else match s.runningImage 2 with
    | none => idle s
    | some image =>
      when (s.takesFirmware pos && (uni || decide (groveOf pos / 6 = wave)) && decide (block < min 1024 image.bcastBlocks)) s (fun s =>
        let s := s.corrected pos e.single
        if messageBroken e then s.messageLost pos
        else
        let f := s.fwStore pos
        let base := pos * 2 ^ 18 + 256 * block
        let s := (image.bcastBlock block).zipIdx.foldl (fun (s : State) e =>
          { s with fwBytes := s.fwBytes.setByte (base + e.2) e.1 }) s
        s.setFw pos { f with blocks := f.blocks.add block })

/-- SHA-384 of the first blocks of a firmware store. -/
def State.fwDigest (s : State) (pos blocks : Nat) : BitVec 384 :=
  sha384 ((List.range (256 * blocks)).map (fun i => s.fwBytes.byte (pos * 2 ^ 18 + i)))

/-- A position whose firmware still fails after three resends: result 5, the fence map, its router and node gone, and its
grove's active set chosen again; where the grove's bring-up is over, a sapling takes the place of an active position. -/
def State.firmwareFails (s : State) (pos : Nat) : State :=
  let s := s.setFld (MGMT_BISTi_RES_RESULT pos) 5
  let s := (s.addFence 1 pos 5).logBist pos
  if !s.boot.ended.has (200 + groveOf pos) then s.testsOver (groveOf pos)
  else
    let id := s.logical pos
    let s := (s.routerGone pos).setStatus pos 3
    (match id with
      | some l => s.takeover none pos l
      | none => s.bracket).reroute (groveOf pos)

/-- FIRMWARE_END (R327): the END message of the broadcast or of a resend; the digest over blocks 0 to N - 1; the firmware
starts, or is resent up to three times. -/
def execFirmwareEnd (pos blocks : Nat) (digest : BitVec 384) (s : State) : Out :=
  if 576 ≤ pos then noUnit
  else when (s.takesFirmware pos && decide (blocks ≤ 1024)) s (fun s =>
    let f := s.fwStore pos
    if (List.range blocks).all f.blocks.has && decide (s.fwDigest pos blocks = digest) then s.setFw pos { f with running := true }
    else if f.resends < 3 then
      (s.setFw pos { f with resends := f.resends + 1 }).setFld (MGMT_BISTi_ID_FW_RESENDS pos) (f.resends + 1)
    else (s.firmwareFails pos).settle)

/-! ## Failures in the delivery path (R331, R358) -/

/-- The positions of a grove under test that loses its supply: result 7, status 0x03 and no logical ID, in one bracket;
the fence map does not take them (R32, R36, R331). -/
def State.testLost (s : State) (g : Nat) : State :=
  let n := (s.logicalGrove g).getD 0
  let fitted := ((List.range 16).map (posOfGrove g)).filter (fun q => decide (s.posFuse q ≠ 0))
  let s := fitted.foldl (fun (s : State) q =>
    ((s.setFld (MGMT_BISTi_RES_RESULT q) 7).setStatus q 3).setElem DESC_REV_MAP 16 q 0) s
  let s := ((List.range 14).foldl (fun (s : State) i => s.mapAll (14 * n + i) 0) s).bracket
  let s := fitted.foldl State.logBist s
  { s with boot := { s.boot with
    ended := s.boot.ended.add (200 + g)
    tested := fitted.foldl NSet.add s.boot.tested
    released := s.boot.released.filter (fun q => decide (groveOf q ≠ g)) } }

/-- A grove's supply lost: its stages off at once, and it is not ready; its GROVE action follows where it has run. -/
def State.supplyLost (s : State) (g : Nat) : State :=
  let s := { s with power := { s.power with tokens := s.power.tokens.filter (fun t => decide (t.1 ≠ g)) } }
  let s := (s.groveDark g).setReady 0 g false
  if s.bringing && s.boot.waves.has (g / 6) && !s.boot.ended.has (200 + g) then ((s.testLost g).checkRoot).settle else s.refresh

/-- PHASE_FAIL (R358): the first failed phase of a grove drops ILIM to 396 A; a second turns the grove off. -/
def execPhaseFail (g phase : Nat) (s : State) : Out :=
  if 36 ≤ g ∨ 10 ≤ phase then noUnit
  else when (!s.flag (GRV_PWR_PHn_FAILED g phase) && s.fuses.groves.getLsbD g) s (fun s =>
    let first := decide (s.fld (GRV_PWR_STATUS_PH_FAIL g) = 0)
    let s := s.setFld (GRV_PWR_PHn_FAILED g phase) 1
    let s := s.setFld (GRV_PWR_STATUS_PH_FAIL g) (setBitsOf (s.fld (GRV_PWR_STATUS_PH_FAIL g)) phase 1 1)
    let s := (s.setFld (GRV_PWR_STATUS_ILIM g) 396).addFence 4 (10 * g + phase) 3
    if first then s.raise (srcGrove g phase) 1 0 else (s.supplyLost g).raise (srcGrove g 10) 1 0)

/-- GROVE_SHORT (R358): every stage of the grove trips, its feed opens, SHORT and the fence map. -/
def execGroveShort (g : Nat) (s : State) : Out :=
  if 36 ≤ g then noUnit
  else when (!s.flag (GRV_PWR_STATUS_SHORT g) && s.fuses.groves.getLsbD g) s (fun s =>
    (((s.setFld (GRV_PWR_STATUS_SHORT g) 1).addFence 5 g 4).supplyLost g).raise (srcGrove g 10) 1 0)

/-! ## Readiness (R328, R329) -/

/-- GROVE_READY (R328): 14 active positions with verified firmware, tables and crossings set, the grove in retention. -/
def execGroveReady (g : Nat) (s : State) : Out :=
  if 36 ≤ g then noUnit
  else
    let act := ((List.range 16).map (posOfGrove g)).filter (fun q => decide (s.status q = 1))
    if s.onTest g && s.reconciled g && decide (14 ≤ act.length) && act.all (fun q => (s.fwStore q).running) && s.rooted then
      answerClk s ((((s.clockKeep g).setReady 0 g true).finish (200 + g)).settle)
    else idle s

/-- HOST_COMPLEX_READY (R329, R413): the host die and both host stacks are up and the boot firmware runs. What bring-up had
not finished when it was stopped comes only at the next panel reset (R331). -/
def execHostComplexReady (s : State) : Out :=
  when (s.boot.dieOk.has 128 && s.stackUsable 48 && s.stackUsable 49 && !s.boot.hostUp && !s.mgmt.down
      && (decide (s.fld MGMT_BOOT_STATUS_PHASE ≠ 6) || s.boot.ended.has 128)) s (fun s =>
    let s := { s with boot := { s.boot with hostUp := true } }
    ((s.setFld MGMT_HOST_CTRL_STATE 2).finish 128).settle)

/-! ## Test access (R332, R333) -/

/-- TAP_EXT_CONNECT (R333): the external port connected only after debug authorization and while no partition exists; a
refusal is a decode fault. -/
def execTapExtConnect (a : Agent) (ext : Bool) (s : State) : Out :=
  allowed a .hostg MGMT_TAP_CFG.addr s (fun s =>
    if !ext then s.setFld MGMT_TAP_CFG_EXT 0
    else if s.flag MGMT_STATUS_DEBUG && (List.range 16).all (fun p => !s.partExists p) then s.setFld MGMT_TAP_CFG_EXT 1
    else s.decodeFault true MGMT_TAP_CFG.addr)

/-- The number of a segment. -/
def tapKey : TapSegment → Nat
  | .mgmt => 0
  | .host => 1
  | .lrim m => 2 + m
  | .hrim k => 20 + k
  | .grove g => 100 + g
  | .position q => 200 + q

/-- Whether a segment lies in a position with status 0x01 or 0x02, or in a running rim die. -/
def State.tapClosed (s : State) : TapSegment → Bool
  | .position q => decide (s.status q = 1) || decide (s.status q = 2)
  | .hrim k => s.boot.dieOk.has k
  | .lrim m => s.boot.dieOk.has (64 + m)
  | _ => false

/-- Whether the die of a segment is powered, and the segment that holds it open: rim dies from the first stage of their
wave. -/
def State.tapPowered (s : State) : TapSegment → Bool
  | .mgmt => true
  | .host => decide (s.fld MGMT_HOST_CTRL_STATE ≠ 0)
  | .lrim m => s.boot.rimOn.has (s.lrimWave m) && s.lrimPowered m
  | .hrim k => s.boot.rimOn.has (hrimWave k) && s.hrimPowered k
  | .grove g => decide (s.fld (GRV_PWR_STATUS_STATE g) ≠ 0)
  | .position q => decide (s.fld (GRV_PWR_STATUS_STATE (groveOf q)) ≠ 0) && s.boot.tapOpen.has (100 + groveOf q)

/-- EXTERNAL_TAP_ACCESS (R332, R333): a segment opened or closed by the external master while EXT is 1. -/
def execExternalTapAccess (segment : TapSegment) (opens : Bool) (s : State) : Out :=
  if !segment.wf then noUnit
  else when (s.flag MGMT_TAP_CFG_EXT) s (fun s =>
    if !opens then { s with boot := { s.boot with tapOpen := s.boot.tapOpen.del (tapKey segment) } }
    else if s.tapClosed segment then s.decodeFault true MGMT_TAP_CFG.addr
    else if s.tapPowered segment then { s with boot := { s.boot with tapOpen := s.boot.tapOpen.add (tapKey segment) } }
    else s)

end Sys2Proof.Machine
end

