-- ==== Sys2Proof/Machine/HostBridge.lean ====
section
/-! DEFINITION. The host complex and its bridge (R409 to R413): data windows, combining buffers, the packets they become
and their answers, and the host's reset and watchdog. -/

namespace Sys2Proof.Machine

/-! ## Windows (R409, R410) -/

/-- Base of the data windows in the host physical map. -/
def windowBase : Nat := 0x8_0000_0000_0000

/-- The window and data-space address of a host address, if it lies in an enabled window. -/
def State.window (s : State) (ha : Nat) : Option (Nat × Nat) :=
  if windowBase ≤ ha ∧ ha < windowBase + 16 * 2 ^ 46 then
    let w := (ha - windowBase) / 2 ^ 46
    if s.flag (MGMT_HWINw_EN w) then some (w, (ha - windowBase) % 2 ^ 46) else none
  else none

/-- A right of a window: 0 SPAD_WR, 1 HBM_RD, 2 HBM_WR, 3 SYNC. -/
def State.right (s : State) (w i : Nat) : Bool := Nat.testBit (s.fld (MGMT_HWINw_RIGHTS w)) i

/-- An access fault at a host core. -/
def State.hostFault (s : State) : State := { s with bridge := { s.bridge with faulted := true }, answer := [] }
/-- An access that did not fault. -/
def State.hostFine (s : State) : State := { s with bridge := { s.bridge with faulted := false } }

/-- The next number in the order of the bridge's accesses. -/
def State.bridgeNext (s : State) : Nat × State :=
  (s.bridge.nextTag, { s with bridge := { s.bridge with nextTag := s.bridge.nextTag + 1 } })

/-! ## Errors (R411, R412, R415) -/

/-- An error captured, with interrupt 114. -/
def State.bridgeCapture (s : State) (reason window kind hcore a : Nat) : State :=
  if s.flag MGMT_HBR_ERR_CAP_VALID then s
  else (s.wr MGMT_HBR_ERR_CAP (packFields [(0, 4, reason), (4, 4, window), (8, 2, kind), (10, 5, hcore), (15, 48, a), (63, 1, 1)])).irq 114

/-- A refused or timed-out write counted and captured; a refused read faults at its core and is captured. -/
def State.bridgeError (s : State) (t : BTrack) (reason : Nat) : State :=
  match t.read with
  | none => (s.count ⟨MGMT_HBR_ERR_CNT, srcDev 6, 0x208⟩ 1).bridgeCapture reason t.window 0 t.hcore t.pkt.addr.toNat
  | some _ => (s.bridgeCapture reason t.window 1 t.hcore t.pkt.addr.toNat).hostFault

/-! ## Sending (R411) -/

/-- A packet of the bridge: PART of its window, SRCKIND 1, its order number as tag. -/
def State.bridgePkt (s : State) (w tag type size a : Nat) : Pkt :=
  { Pkt.blank with
    type := type, size := size, part := s.fld (MGMT_HWINw_PART w), srckind := 1, tag := tag, addr := BitVec.ofNat 48 a
    home := 576, back := some 12 }

/-- A packet sent with a tracking entry; with no trail it ends at once with reason 4. -/
def State.bridgeSend (s : State) (t : BTrack) : State :=
  match s.bridgeTrail t.pkt with
  | none => s.bridgeError t 4
  | some l =>
    let t' : BTrack := { t with sent := s.now, gen := s.bridge.gen }
    { s with bridge := { s.bridge with track := s.bridge.track.insert t.pkt.tag t' } }.bridgePut t.pkt l

/-- An 8-byte write of a buffer's word. -/
def State.sendWord (s : State) (b : WcBuf) (i : Nat) : State :=
  let n := s.bridgeNext
  let p := { n.2.bridgePkt b.window n.1 tWRITE 1 (b.block + 8 * i) with inlineW := BitVec.ofNat 64 (bitsOf b.data.toNat (64 * i) 64) }
  n.2.bridgeSend ⟨p, b.window, b.hcore, none, b.order, 0, none, 0, false, 0⟩

/-- A full buffer as one long WRITE. -/
def State.sendBlock (s : State) (b : WcBuf) : State :=
  let n := s.bridgeNext
  let p := { n.2.bridgePkt b.window n.1 tWRITE 2 b.block with payload := b.data }
  n.2.bridgeSend ⟨p, b.window, b.hcore, none, b.order, 0, none, 0, false, 0⟩

/-- A buffer sent as INLINE writes of its words. -/
def State.sendWords (s : State) (b : WcBuf) : State :=
  (List.range 32).foldl (fun (s : State) i => if b.words.getLsbD i then s.sendWord b i else s) s

/-! ## Order (R143, R411) -/

/-- Cores of an object's home tile that wait on it. -/
def State.waiters (s : State) (o : Nat) : Nat :=
  if 504 ≤ o / 256 then 0
  else match s.posOf (o / 256) with
    | none => 0
    | some pos => ((List.range 8).filter (fun c => match (s.core (coreKey pos c)).stall with
        | .wait x _ _ => decide (x = o)
        | _ => false)).length

/-- A read of an object's entry (R150). -/
def State.syncEntry (s : State) (o : Nat) : Nat :=
  if (s.syncOwner o).isNone then 0
  else
    let x := s.obj o
    packFields [(0, 32, x.count.toNat), (32, 1, x.short.toNat), (33, 1, x.void.toNat), (34, 4, s.waiters o), (38, 1, 1)
      , (48, 16, x.shortBy.toNat)]

/-- A sync command of a window (R150, R410): an add or set that carries the window's partition; a clear of the flags under
the same check. -/
def State.windowSync (s : State) (c : BSync) (v : W64) : State :=
  let op := bitsOf v.toNat 32 3
  let value := BitVec.ofNat 32 v.toNat
  let part := s.fld (MGMT_HWINw_PART c.window)
  let m : SyncMsg :=
    { set := decide (op = 1), obj := c.obj, value := value, kind := 3, source := 0, part := part
      pos := if s.routerUp 0 then 0 else 24
      void := false, guard_ := none, ends := none, host := some (c.hcore, c.order), at_ := 0, phase := .flying }
  if op ≤ 1 then s.sendSync m
  else if op = 2 ∧ value = 0 then
    match s.syncFault { m with set := true } with
    | some cause => s.syncError m cause
    | none => s.setObj c.obj { s.obj c.obj with short := false, void := false, shortBy := 0 }
  else s.decodeFault true (syncAddr c.obj)

/-- A waiting sync access done: a command goes out, a read returns its entry. -/
def State.syncNow (s : State) (c : BSync) : State :=
  match c.command with
  | some v => s.windowSync c v
  | none => ({ s with answer := [BitVec.ofNat 64 (s.syncEntry c.obj)] }).hostFine

/-- Sync accesses whose earlier writes are all over. -/
def State.releaseSyncs (s : State) : State :=
  let free := s.bridge.syncs.filter (fun c => !s.earlierWrites c.hcore c.order)
  let kept := s.bridge.syncs.filter (fun c => s.earlierWrites c.hcore c.order)
  free.foldl State.syncNow { s with bridge := { s.bridge with syncs := kept } }

/-! ## Accesses of host cores -/

/-- A store of one 8-byte word combined in its buffer; the oldest buffer goes out where all 16 are taken, and a block fully
written goes out at once (R411, log entry 43). -/
def State.combineStore (s : State) (w hcore a : Nat) (v : W64) : State :=
  let block := a / 256 * 256
  let i := a % 256 / 8
  let same (b : WcBuf) : Bool := decide (b.window = w) && decide (b.hcore = hcore) && decide (b.block = block)
  let s := if (s.bridge.buffers.find? same).isSome then s
    else
      let s := if s.bridge.buffers.length < 16 then s
        else match s.bridge.buffers with
          | [] => s
          | b :: rest => ({ s with bridge := { s.bridge with buffers := rest } }).sendWords b
      let n := s.bridgeNext
      let b : WcBuf := ⟨w, hcore, block, 0, 0, n.1⟩
      { n.2 with bridge := { n.2.bridge with buffers := n.2.bridge.buffers ++ [b] } }
  match s.bridge.buffers.find? same with
  | none => s
  | some b =>
    let data := BitVec.ofNat 2048 (setBitsOf b.data.toNat (64 * i) 64 v.toNat)
    let b' : WcBuf := { b with data := data, words := BitVec.ofNat 32 (setBitsOf b.words.toNat i 1 1) }
    if b'.words = BitVec.allOnes 32 then
      ({ s with bridge := { s.bridge with buffers := s.bridge.buffers.filter (fun x => !same x) } }).sendBlock b'
    else { s with bridge := { s.bridge with buffers := s.bridge.buffers.map (fun x => if same x then b' else x) } }

/-- Whether the host complex runs. -/
def State.hostRuns (s : State) : Bool := s.boot.hostUp && decide (s.fld MGMT_HOST_CTRL_STATE = 2)

/-- A sync access put in the order of its core's accesses. -/
def State.windowQueue (s : State) (hcore w o : Nat) (command : Option W64) : State :=
  let n := s.bridgeNext
  let c : BSync := ⟨hcore, w, o, command, n.1⟩
  ({ n.2 with bridge := { n.2.bridge with syncs := n.2.bridge.syncs ++ [c] } }).releaseSyncs

/-- HOST_WINDOW_WRITE (R410, R411): a store of a host core through a window; narrower than 8 bytes it faults. -/
def execHostWindowWrite (hcore ha bytes : Nat) (value : W64) (s : State) : Out :=
  if 32 ≤ hcore then noUnit
  else when (s.hostRuns) s (fun s =>
    match s.window ha with
    | none => s.hostFault
    | some (w, a) =>
      if bytes ≠ 8 ∨ a % 8 ≠ 0 then s.hostFault
      else match s.dspan a 8 with
        | some (.spad _ _) => if s.right w 0 then s.hostFine.combineStore w hcore a value else s.hostFault
        | some (.hbm _) => if s.right w 2 then s.hostFine.combineStore w hcore a value else s.hostFault
        | some (.sync o) => if s.right w 3 then s.hostFine.windowQueue hcore w o (some value) else s.hostFault
        | none => s.hostFault)

/-- HOST_WINDOW_READ (R410, R411): a load of a host core through a window: HBM by a READ packet, an object's entry; from
scratchpad it faults. -/
def execHostWindowRead (hcore ha bytes : Nat) (s : State) : Out :=
  if 32 ≤ hcore then noUnit
  else when (s.hostRuns) s (fun s =>
    match s.window ha with
    | none => s.hostFault
    | some (w, a) =>
      if !([1, 2, 4, 8].contains bytes) || decide (a % bytes ≠ 0) then s.hostFault
      else match s.dspace (a / 8 * 8) with
        | some (.hbm _) =>
          if s.right w 1 then
            let n := s.hostFine.bridgeNext
            n.2.bridgeSend ⟨n.2.bridgePkt w n.1 tREAD 1 (a / 8 * 8), w, hcore, some (a % 8, bytes), n.1, 0, none, 0, false, 0⟩
          else s.hostFault
        | some (.sync o) => if s.right w 3 && decide (bytes = 8) then s.windowQueue hcore w o none else s.hostFault
        | _ => s.hostFault)

/-- WC_FLUSH (R411): buffer `n` goes out as INLINE writes, on a host fence or 1 µs after its first store. -/
def execWcFlush (buffer : Nat) (s : State) : Out :=
  match s.bridge.buffers[buffer]? with
  | none => idle s
  | some b => answer s (({ s with bridge := { s.bridge with buffers := removeAt s.bridge.buffers buffer } }).sendWords b).releaseSyncs

/-! ## Answers and timeouts (R411) -/

/-- The entry of a tracked packet gone. -/
def State.bridgeFree (s : State) (tag : Nat) : State :=
  { s with bridge := { s.bridge with track := s.bridge.track.erase tag } }

/-- A tracked packet held until the trail table is written; at once again where it has been since the packet was sent. -/
def State.bridgeHold (s : State) (t : BTrack) : State :=
  let t' : BTrack := { t with held := true, heldFrom := some s.now }
  let s' : State := { s with bridge := { s.bridge with track := s.bridge.track.insert t.pkt.tag t' } }
  if t.gen = s.bridge.gen then s' else s'.bridgeAgain t.pkt.tag t'

/-- Read data back at its core; a poisoned word faults with reason 15. -/
def State.bridgeData (s : State) (t : BTrack) (p : Pkt) : State :=
  let s := s.bridgeFree t.pkt.tag
  if p.dataPoison ≠ 0 then s.bridgeError t 15
  else match t.read with
    | none => s
    | some (lo, n) => ({ s with answer := [BitVec.ofNat 64 (bitsOf p.data (8 * lo) (8 * n))] }).hostFine

/-- An answer met with its entry. -/
def State.bridgeAnswer (s : State) (t : BTrack) (p : Pkt) : State :=
  if p.type = tRDATA then s.bridgeData t p
  else if p.type = tACK then s.bridgeFree t.pkt.tag
  else if p.type = tDEAD ∨ p.reason = 1 then s.bridgeHold t
  else (s.bridgeFree t.pkt.tag).bridgeError t p.reason

/-- HOST_BRIDGE_ANSWER (R411, R413): item `n`, a response whole at the host bridge; one without an entry is discarded, and a
read's waits for its core's earlier writes. -/
def execHostBridgeAnswer (n : Nat) (s : State) : Out :=
  match s.net[n]? with
  | none => idle s
  | some it =>
    match it.place with
    | .host pos =>
      let p := it.pkt
      if classOf p.type ≠ 1 then idle s
      else if p.badHeader.isSome then
        answer s (((s.leaveNet n).freeSlots (some (linkKey pos 12)) 1 p.flits).dropped pos (p.badHeader.getD 0) 6 p)
      else
        let s' := (s.leaveNet n).freeSlots (some (linkKey pos 12)) 1 p.flits
        match (s.bridge.track.find? (fun e => e.1 = p.tag)).map (·.2) with
        | none => answer s s'
        | some t =>
          if t.read.isSome && s.earlierWrites t.hcore t.order then idle s
          else answer s (s'.bridgeAnswer t p).releaseSyncs
    | _ => idle s

/-- HOST_BRIDGE_TIMEOUT (R411): an access unanswered for ACK_TO ends with reason 6; held for HOLD_LIM, with reason 7. -/
def execHostBridgeTimeout (tag : Nat) (s : State) : Out :=
  match (s.bridge.track.find? (fun e => e.1 = tag)).map (·.2) with
  | none => idle s
  | some t =>
    let r := if t.held then t.heldFrom.getD t.sent + (s.fld MGMT_HOST_CTRL_HOLD_LIM * msCounts - t.heldFor)
      else t.sent + s.fld MGMT_HOST_CTRL_ACK_TO * msCounts
    answerRef r s (fun s => ((s.bridgeFree tag).bridgeError t (if t.held then 7 else 6)).releaseSyncs)

/-! ## Reset and watchdog of the host complex (R413) -/

/-- The host cores and the bridge reset: buffers, entries and waiting commands dropped; the boot firmware runs again. -/
def State.hostReset (s : State) : State :=
  let st := s.fld MGMT_HOST_CTRL_STATE
  let s := if st = 0 ∨ st = 4 then s else s.setFld MGMT_HOST_CTRL_STATE 3
  let s := { s with
    bridge := { s.bridge with buffers := [], out := [], track := [], syncs := [], faulted := false }
    boot := { s.boot with hostUp := false } }
  s.refresh

/-- HOST_CTRL_RESET (R413): RESET of MGMT_HOST_CTRL written 1. -/
def execHostCtrlReset (a : Agent) (s : State) : Out := allowed a .hostg MGMT_HOST_CTRL.addr s State.hostReset

/-- WDOG_KICK (R413): the watchdog period starts again. -/
def execWdogKick (a : Agent) (s : State) : Out :=
  allowed a .irq MGMT_HOST_CTRL.addr s (fun s => { s with bridge := { s.bridge with kicked := s.now } })

/-- HOST_WATCHDOG_EXPIRY (R413): WDOG_MS without a kick: device source 6 with CAUSE 3, and with AUTO_RESET the host is
reset. -/
def execHostWatchdogExpiry (s : State) : Out :=
  if s.flag MGMT_HOST_CTRL_WDOG_EN then
    answerRef (s.bridge.kicked + s.fld MGMT_HOST_CTRL_WDOG_MS * msCounts) s (fun s =>
      let s := ({ s with bridge := { s.bridge with kicked := s.now } }).raise (srcDev 6) 3 0
      if s.flag MGMT_HOST_CTRL_AUTO_RESET then s.hostReset else s)
  else idle s

/-- HOST_CORE_UNCORRECTABLE_READ (R413): device source 6 with CAUSE 2. -/
def execHostCoreUncorrectableRead (hcore : Nat) (s : State) : Out :=
  if 32 ≤ hcore then noUnit
  else when (s.hostRuns) s (fun s => s.raise (srcDev 6) 2 0)

end Sys2Proof.Machine
end

