-- ==== Sys2Proof/Machine/Management.lean ====
section
/-! DEFINITION. The management controller (R386 to R408): restarts, the event log, sessions and their operations, firmware
updates, attestation, the management ports, and the standing registers. -/

namespace Sys2Proof.Machine

/-! ## Restarts (R386, R405) -/

/-- Every session closed (R390, R414). -/
def State.closeSessions (s : State) : State :=
  ({ s with mgmt := { s.mgmt with sessions := [], updating := [] } }).setFld MGMT_STATUS_SESSIONS 0

/-- The controller down: sessions closed, ALIVE held low. -/
def State.controllerDown (s : State) : State :=
  (({ s with mgmt := { s.mgmt with down := true } }).closeSessions).setAlive

/-- WATCHDOG_EXPIRY (R386): 100 ms after the last refresh the watchdog restarts the controller. -/
def execWatchdogExpiry (s : State) : Out :=
  if s.controllerUp then answerRef (s.mgmt.refreshed + 100 * msCounts) s State.controllerDown else idle s

/-- Whether an image of the management firmware covers every running image and die stepping (R405). -/
def State.coversRunning (s : State) (m : FwSlot) : Bool :=
  (s.steppingFault m 1 m).isNone
    && s.mgmt.running.all (fun e => decide (e.1 = 1) || (m.covers 2 e.1 (s.fwSlot e.1 e.2).version && ((servesOf e.1).all (fun d =>
      (s.present m e.1 d).all (fun v => (s.fwSlot e.1 e.2).covers 1 d v)))))

/-- The slot that a restart runs: one on trial that covers all that runs, else the one that was running, if it still
verifies. -/
def State.restartSlot (s : State) : Option Nat :=
  let x := s.pref 1
  if s.trial 1 && s.slotUsable 1 x && s.coversRunning (s.fwSlot 1 x) then some x
  else match s.runningSlot 1 with
    | some y => if (s.verify 1 (s.fwSlot 1 y)).isNone then some y else none
    | none => none

/-- ROM recovery of a panel that runs: the management firmware no longer does (R386, R405). -/
def State.intoRom (s : State) : State :=
  let s := { s with mgmt := { s.mgmt with running := s.mgmt.running.erase 1 } }
  ((((s.setFld MGMT_BOOT_STATUS_PHASE 5).setFld MGMT_STATUS_ROMREC 1).setReady 3 0 false).setReady 3 1 false).setReady 3 2 false

/-- Lanes of a port whose margining has not ended are margined again (R331). -/
def State.testsAgain (s : State) : State :=
  { s with boot := { s.boot with margined := s.boot.margined.filter (fun l => s.boot.ended.has (64 + l / 8)) } }

/-- What a restarted controller takes up again: tests in progress, from their start (R331), and a recovery that waits for
its restart, from step 3 (R297). -/
def State.resumeWork (s : State) : State := (List.range 16).foldl State.redoRecovery s.testsAgain

/-- MANAGEMENT_RESTART (R386, R405): the controller back: counted and logged; a third restart within 10 min raises device
source 5 with CAUSE 1 and ends in ROM recovery, as does firmware that no longer verifies. -/
def execManagementRestart (s : State) : Out :=
  when (s.mgmt.down) s (fun s =>
    let slot := s.restartSlot
    let n := (s.fld MGMT_STATUS_RESTARTS + 1) % 256
    let third := match s.mgmt.restarts.getD 1 0 with
      | 0 => false
      | t => decide (s.now ≤ t + 600000 * msCounts)
    let s := (s.setFld MGMT_STATUS_RESTARTS n).log 9 1 [BitVec.ofNat 64 n]
    let s := { s with mgmt := { s.mgmt with down := false, refreshed := s.now, late := false, restarts := (s.now :: s.mgmt.restarts).take 2 } }
    let s := if third then (s.raise (srcDev 5) 1 0).intoRom
      else match slot with
        | some x => ({ s with mgmt := { s.mgmt with running := s.mgmt.running.insert 1 x } }).resumeWork
        | none => s.intoRom
    s.setAlive)

/-! ## The event log (R388, R389) -/

/-- An entry as eight 64-bit words. -/
def LogEntry.words (e : LogEntry) : List W64 :=
  let body := packDigits 64 (fun i => (e.body.getD i 0).toNat) 6 % 2 ^ (8 * min e.len 44)
  let n := e.lseq.toNat + e.type * 2 ^ 32 + e.len * 2 ^ 48 + (e.refcount % 2 ^ 64) * 2 ^ 64 + body * 2 ^ 128
    + complement e.lseq.toNat * 2 ^ 480
  (List.range 8).map (fun i => BitVec.ofNat 64 (bitsOf n (64 * i) 64))

/-- LSEQ of the oldest entry held, or of the next where none is. -/
def State.logOldest (s : State) : Nat :=
  match s.mgmt.logFlash with
  | [] => match s.mgmt.logBuffer with
    | [] => s.fld MGMT_LOG_HEAD_LSEQ
    | e :: _ => e.lseq.toNat
  | e :: _ => e.lseq.toNat

/-- LOG_FLUSH (R389): the buffered entries written to flash. -/
def execLogFlush (s : State) : Out := when (!s.mgmt.logBuffer.isEmpty) s State.flushLog

/-! ## Sessions (R391) -/

/-- The number of open sessions shown. -/
def State.showSessions (s : State) : State := s.setFld MGMT_STATUS_SESSIONS s.mgmt.sessions.length

/-- A session opened or closed, logged as TYPE 6. -/
def State.logSession (s : State) (id : Nat) (admin opened : Bool) : State :=
  s.log 6 8 [BitVec.ofNat 64 (packFields [(0, 32, id), (32, 1, admin.toNat), (33, 1, opened.toNat)])]

/-- SESSION_OPEN (R391): a certificate that chains to the first root of STD_TRUST gives ADMIN, to the second READ; at most
8 sessions, over a port whose link is up. -/
def execSessionOpen (adminChain readChain : Bool) (s : State) : Out :=
  when (s.controllerUp && (adminChain || readChain) && decide (s.mgmt.sessions.length < 8)
      && (if s.fld MGMT_MPORT_ACTIVE = 0 then s.flag MGMT_MPORT_LINK0 else s.flag MGMT_MPORT_LINK1)) s (fun s =>
    let id := s.mgmt.nextSession
    let s := { s with mgmt := { s.mgmt with sessions := s.mgmt.sessions ++ [(⟨id, adminChain⟩ : Session)], nextSession := id + 1 } }
    s.showSessions.logSession id adminChain true)

/-- The session of a number. -/
def State.session (s : State) (id : Nat) : Option Session := s.mgmt.sessions.find? (fun x => x.id = id)

/-- SESSION_CLOSE (R391): the session gone, with the updates it had open (R404, R414). -/
def execSessionClose (session : Nat) (s : State) : Out :=
  match s.session session with
  | none => idle s
  | some x =>
    let s' := { s with mgmt := { s.mgmt with
      sessions := s.mgmt.sessions.filter (fun y => y.id ≠ session)
      updating := s.mgmt.updating.filter (fun e => e.2 ≠ session) } }
    answer s (s'.showSessions.logSession session x.admin false)

/-- Recovery state: PHASE 5 (R315, R405). -/
def State.inRecovery (s : State) : Bool := decide (s.fld MGMT_BOOT_STATUS_PHASE = 5)

/-- Where an operation is available: always, not in ROM recovery, or not in recovery. -/
inductive Avail where
  | always | noRom | noRecovery
  deriving DecidableEq, Repr

/-- Whether an operation is available now. -/
def State.available (s : State) (v : Avail) : Bool :=
  match v with
  | .always => true
  | .noRom => !s.flag MGMT_STATUS_ROMREC
  | .noRecovery => !s.inRecovery

/-- STATUS and body of a response. -/
def State.respond (s : State) (status : Nat) (body : List W64) : State := { s with answer := BitVec.ofNat 64 status :: body }

/-- Whether a session may run an operation: its role, and the recovery state (R391). -/
def State.mayOperate (s : State) (x : Session) (admin : Bool) (v : Avail) : Bool := (!admin || x.admin) && s.available v

/-- An operation of a session: STATUS 1 and no change where the role is not listed or the recovery state forbids it. -/
def operation (id : Nat) (admin : Bool) (v : Avail) (s : State) (f : Session → State → State) : Out :=
  match s.session id with
  | none => idle s
  | some x => if s.mayOperate x admin v then answer s (f x s) else answer s (s.respond 1 [])

/-- LOG_READ (R391): up to 1,024 entries in flash from an LSEQ on. -/
def execLogRead (session : Nat) (lseq : W32) (s : State) : Out :=
  operation session false .always s (fun _ s =>
    let l := (s.mgmt.logFlash.filter (fun e => decide ((e.lseq - lseq).toNat < 2 ^ 31))).take 1024
    s.respond 0 (l.flatMap LogEntry.words))

/-! ## Attestation (R407) -/

/-- Bytes of a number, least significant first. -/
def leBytes (v n : Nat) : List Byte := (natToBytes v 0 n).map (BitVec.ofNat 8)
/-- Bytes of a digest, most significant first. -/
def digestBytes (d : BitVec 384) : List Byte := (leBytes d.toNat 48).reverse
/-- Bytes of standing-register words. -/
def State.stdBytes (s : State) (w n : Nat) : List Byte := (List.range n).flatMap (fun i => leBytes (s.stdWord (w + i)) 4)

/-- The 64 bytes of a running kind. -/
def State.attestKind (s : State) (k : Nat) : List Byte :=
  match s.runningSlot k with
  | none => List.replicate 64 0
  | some x =>
    let f := s.fwSlot k x
    let trial := s.trial k && decide (s.pref k = x)
    leBytes (packFields [(0, 1, x), (1, 1, trial.toNat), (16, 16, f.version), (32, 32, f.svn)]) 8 ++ List.replicate 8 0
      ++ digestBytes (sha384 f.statement)

/-- DESC_IDENT: ordering option and module build (R35). -/
def State.identWord (s : State) : Nat := packFields [(0, 8, s.fuses.option.toNat), (8, 8, s.fuses.build.toNat)]

/-- The report's first 512 bytes. -/
def State.attestReport (s : State) (nonce : BitVec 256) : List Byte :=
  let fences := (List.range 1024).filter s.fenceValid
  let status := packFields [(0, 4, s.fld MGMT_BOOT_STATUS_PHASE), (4, 1, s.fld MGMT_STATUS_DEBUG), (5, 1, s.fld MGMT_TAP_CFG_EXT)
    , (6, 1, s.fld MGMT_STATUS_ROMREC)]
  leBytes (0x4139_5041 + 2 ^ 32) 8 ++ leBytes s.fuses.serial.toNat 8 ++ leBytes s.identWord 8 ++ leBytes s.features.toNat 8
    ++ leBytes nonce.toNat 32 ++ leBytes s.now 8 ++ leBytes status 8 ++ imageKinds.flatMap s.attestKind
    ++ digestBytes (sha384 (fences.flatMap (fun i => s.stdBytes (fenceWord i) 2))) ++ leBytes fences.length 4 ++ List.replicate 12 0
    ++ digestBytes (sha384 (s.stdBytes 4 8 ++ s.stdBytes 16 5 ++ s.stdBytes 24 5 ++ s.stdBytes 32 24 ++ s.stdBytes 64 16))

/-- Bytes as 64-bit words, the first least significant. -/
def packWords (n : Nat) (l : List Byte) : List W64 :=
  (List.range n).map (fun i => BitVec.ofNat 64 (packDigits 8 (fun j => (l.getD (8 * i + j) 0).toNat) 8))

/-- ATTEST (R407): the report with both signatures. -/
def execAttest (session : Nat) (nonce : BitVec 256) (s : State) : Out :=
  operation session false .always s (fun _ s =>
    let r := s.attestReport nonce
    let a := (Config.rsaSignature s.free r).toNat
    let b := (Config.slhSignature s.free r).toNat
    ({ s with free := s.free + 1 }).respond 0 (packWords 64 r ++ (List.range 48).map (fun i => BitVec.ofNat 64 (bitsOf a (64 * i) 64))
      ++ (List.range 2028).map (fun i => BitVec.ofNat 64 (bitsOf b (64 * i) 64))))

/-- CERT_READ (R407): both certificates, each after its length in bytes. -/
def execCertRead (session : Nat) (s : State) : Out :=
  operation session false .always s (fun _ s =>
    s.respond 0 ([0, 1].flatMap (fun i =>
      let c := Config.certificate i
      BitVec.ofNat 64 c.length :: packWords ((c.length + 7) / 8) c)))

/-! ## Updates (R404) -/

/-- Whether an update operation may name a kind: one of the five, and in ROM recovery only kind 1 (R405). -/
def State.kindOk (s : State) (k : Nat) : Bool := imageKinds.contains k && (!s.flag MGMT_STATUS_ROMREC || decide (k = 1))

/-- A firmware slot event logged as TYPE 5. -/
def State.logSlot (s : State) (k : Nat) : State := s.log 5 8 [BitVec.ofNat 64 (s.updSlot k + k * 2 ^ 56)]

/-- UPD_BEGIN (R404): the slot not named by PREF becomes INVALID; refused while the kind is on trial. -/
def execUpdBegin (session kind : Nat) (s : State) : Out :=
  operation session true .always s (fun x s =>
    if !s.kindOk kind then s.respond 1 []
    else if s.trial kind then s.respond 2 []
    else
      let s := s.setSlot kind (1 - s.pref kind) { s.fwSlot kind (1 - s.pref kind) with state := .invalid }
      (({ s with mgmt := { s.mgmt with updating := s.mgmt.updating.insert kind x.id } }).logSlot kind).respond 0 [])

/-- Whether a session has begun the update of a kind. -/
def State.updates (s : State) (kind session : Nat) : Bool := s.mgmt.updating.any (fun e => decide (e.1 = kind ∧ e.2 = session))

/-- UPD_DATA (R404): up to 64 KiB of the file written at an offset of the target slot. -/
def execUpdData (session kind offset : Nat) (chunk : List Byte) (s : State) : Out :=
  operation session true .always s (fun x s =>
    if !s.kindOk kind then s.respond 1 []
    else if !s.updates kind x.id || decide (65536 < chunk.length) || decide (slotSize kind < offset + chunk.length) then s.respond 2 []
    else
      let f := s.fwSlot kind (1 - s.pref kind)
      let file := (chunk.zip (List.range chunk.length)).foldl (fun (m : Mem) e => Mem.setByte m (offset + e.2) e.1) f.file
      (s.setSlot kind (1 - s.pref kind) { f with file := file }).respond 0 [])

/-- Why UPD_END rejects an image: steps 1 to 7 of R402, the last with the images that the other kinds would select. -/
def State.imageFault (s : State) (k : Nat) (f : FwSlot) : Option Nat :=
  match s.verify k f with
  | some c => some c
  | none =>
    let set := imageKinds.map (fun j => (j, if j = k then some f else (s.pick j).slot.map (s.fwSlot j)))
    if (s.setFault set).isSome then some 7 else none

/-- UPD_END (R402, R404): the image verified, and the slot VALID; else its cause in VERIFY_ERR. -/
def execUpdEnd (session kind : Nat) (s : State) : Out :=
  operation session true .always s (fun x s =>
    if !s.kindOk kind then s.respond 1 []
    else if !s.updates kind x.id then s.respond 2 []
    else
      let f := s.fwSlot kind (1 - s.pref kind)
      let s := { s with mgmt := { s.mgmt with updating := s.mgmt.updating.erase kind } }
      match s.imageFault kind f with
      | some c => ((s.reject kind c).logSlot kind).respond 2 []
      | none => ((s.setSlot kind (1 - s.pref kind) { f with state := .valid }).logSlot kind).respond 0 [])

/-- UPD_ACTIVATE (R404, R414): BOOTSEL of each kind named at its VALID slot, on trial; refused whole where a kind is on
trial already or its other slot is not VALID. -/
def execUpdActivate (session : Nat) (kinds : List Nat) (s : State) : Out :=
  operation session true .always s (fun _ s =>
    if kinds.isEmpty || !kinds.all s.kindOk then s.respond 1 []
    else if kinds.any (fun k => s.trial k || decide ((s.fwSlot k (1 - s.pref k)).state ≠ .valid)) then s.respond 2 []
    else ((imageKinds.filter kinds.contains).foldl (fun (s : State) k =>
      (s.stdWrite (bootWord k) (packFields [(0, 1, 1 - s.pref k), (1, 1, 1)])).logSlot k) s).respond 0 [])

/-- UPD_CONFIRM (R404): the trial slot that runs is COMMITTED and its trial over; the least SVN raised where asked. -/
def execUpdConfirm (session kind : Nat) (raiseSvn : Bool) (s : State) : Out :=
  operation session true .always s (fun _ s =>
    if !s.kindOk kind then s.respond 1 []
    else if !s.trial kind || decide (s.runningSlot kind ≠ some (s.pref kind)) then s.respond 2 []
    else
      let f := s.fwSlot kind (s.pref kind)
      let s := s.setSlot kind (s.pref kind) { f with state := .committed }
      let s := s.stdWrite (bootWord kind) (s.stdWord (bootWord kind) - 2)
      let s := if raiseSvn then s.stdWrite (24 + (kind - 1)) f.svn else s
      (s.logSlot kind).respond 0 [])

/-! ## Fences, lanes, keys, debug and resets (R391, R398, R405, R406, R408) -/

/-- FENCE_CLEAR (R398): zero in the commit word of a record. -/
def execFenceClear (session record : Nat) (s : State) : Out :=
  operation session true .noRecovery s (fun _ s =>
    if 1024 ≤ record then s.respond 1 [] else (s.stdWrite (fenceWord record + 1) 0).respond 0 [])

/-- LANE_UNMASK (R391): a bit of STD_LANEMASK cleared. -/
def execLaneUnmask (session lane : Nat) (s : State) : Out :=
  operation session true .noRecovery s (fun _ s =>
    if 512 ≤ lane then s.respond 1 []
    else (s.stdWrite (0x40 + lane / 32) (setBitsOf (s.stdWord (0x40 + lane / 32)) (lane % 32) 1 0)).respond 0 [])

/-- Whether every COMMITTED slot carries a higher key index (R406). -/
def State.revocable (s : State) (key : Nat) : Bool :=
  imageKinds.all (fun k => [0, 1].all (fun x => decide ((s.fwSlot k x).state ≠ .committed) || decide (key < (s.fwSlot k x).keyIdx)))

/-- REVOKE (R406): the fuse of a key index blown; the one command that changes a fuse. In ROM recovery it is not served
(R405). -/
def execRevoke (session key : Nat) (s : State) : Out :=
  match s.session session with
  | none => idle s
  | some x =>
    if !s.mayOperate x true .noRom || decide (8 ≤ key) then answer s (s.respond 1 [])
    else if !s.revocable key then answer s (s.respond 2 [])
    else
      let t := s.respond 0 []
      .next { t with fuses := { s.fuses with revoked := s.fuses.revoked ||| BitVec.ofNat 8 (2 ^ key) } }

/-- DEBUG_AUTH (R408): DEBUG set when the policy allows it and no partition exists. -/
def execDebugAuth (session : Nat) (s : State) : Out :=
  operation session true .noRecovery s (fun _ s =>
    if Nat.testBit (s.stdWord 4) 4 && (List.range 16).all (fun p => !s.partExists p) then
      (s.setFld MGMT_STATUS_DEBUG 1).respond 0 []
    else s.respond 2 [])

/-- RESET with ARG 0 (R391): the panel reset, its log committed. Its release is PANEL_RESET_RELEASE. -/
def execMgmtOpPanelReset (session : Nat) (s : State) : Out :=
  match s.session session with
  | none => idle s
  | some x => if s.mayOperate x true .always then .next s.flushLog.inReset else answer s (s.respond 1 [])

/-- RESET with ARG 1 (R391, R413): the host complex reset. -/
def execMgmtOpHostReset (session : Nat) (s : State) : Out :=
  operation session true .always s (fun _ s => s.hostReset.respond 0 [])

/-- RESET with ARG 2 (R405): the management controller restarts. -/
def execMgmtOpManagementRestart (session : Nat) (s : State) : Out :=
  operation session true .always s (fun _ s => s.controllerDown.respond 0 [])

/-! ## Management ports (R390, R421) -/

/-- Whether a port's link is up. -/
def State.linkUp (s : State) (port : Nat) : Bool := if port = 0 then s.flag MGMT_MPORT_LINK0 else s.flag MGMT_MPORT_LINK1

/-- Since when the active port is down. -/
def State.noteLink (s : State) : State :=
  let down := !s.linkUp (s.fld MGMT_MPORT_ACTIVE)
  { s with mgmt := { s.mgmt with downFrom := if down then some (s.mgmt.downFrom.getD s.now) else none } }

/-- A port's link shown. -/
def State.setLink (s : State) (port : Nat) (up : Bool) : State :=
  (if port = 0 then s.setFld MGMT_MPORT_LINK0 up.toNat else s.setFld MGMT_MPORT_LINK1 up.toNat).noteLink

/-- MGMT_PORT_LINK_CHANGE (R390, R421): a link up or down; with its cage off a port stays down. -/
def execMgmtPortLinkChange (port : Nat) (up : Bool) (s : State) : Out :=
  if 2 ≤ port then noUnit
  else when (s.boot.started && !(up && s.pins.cageOff.has port)) s (fun s => s.setLink port up)

/-- The other port active. -/
def State.swapPorts (s : State) (active : Nat) : State :=
  let s := s.setFld MGMT_MPORT_ACTIVE active
  ({ s with mgmt := { s.mgmt with downFrom := none } }).noteLink

/-- MPORT_FAILOVER (R390): the active port down for 1 s with the standby up: they swap, and every session closes. -/
def execMportFailover (s : State) : Out :=
  match s.mgmt.downFrom with
  | none => idle s
  | some t =>
    let other := 1 - s.fld MGMT_MPORT_ACTIVE
    if s.linkUp other then
      answerRef (t + 1000 * msCounts) s (fun s =>
        ((s.swapPorts other).setFld MGMT_MPORT_FAILOVERS ((s.fld MGMT_MPORT_FAILOVERS + 1) % 65536)).closeSessions)
    else idle s

/-- MPORT_SWAP (R390): ACTIVE written. -/
def execMportSwap (a : Agent) (active : Nat) (s : State) : Out :=
  allowed a .hostg MGMT_MPORT.addr s (fun s => if active % 2 = s.fld MGMT_MPORT_ACTIVE then s else s.swapPorts (active % 2))

/-! ## Standing registers (R394 to R396) -/

/-- Whether an agent may write a standing word (R392). -/
def State.mayWriteStd (s : State) (a : Agent) (w : Nat) : Bool :=
  match a with
  | .mgmt => true
  | .read => false
  | .admin => decide (4 ≤ w ∧ w < 12) || decide (32 ≤ w ∧ w < 56)
  | .host _ => decide (4 ≤ w ∧ w < 12) && Nat.testBit (s.fld MGMT_ACL_ACL) 5

/-- Bits of a standing word that a write changes: the fields of STD_POLICY and STD_BOOTSEL and of word 0 of a fence-map
record; nothing of STD_HDR and the reserved words (R8, R396, R398). -/
def stdMask (w : Nat) : Nat :=
  if w < 4 then 0
  else if w = 4 then 0x1F
  else if w = 5 then 0x1FFFF
  else if w = 6 then 0x3F
  else if w < 16 then 0
  else if w < 21 then 0xF
  else if w < 24 then 0
  else if w < 29 then 2 ^ 32 - 1
  else if w < 32 then 0
  else if w < 56 then 2 ^ 32 - 1
  else if w < 64 then 0
  else if w < 80 then 2 ^ 32 - 1
  else if w < 0x200 then 0
  else if w < 0x400 then 2 ^ 32 - 1
  else if w < 0xC00 then (if w % 2 = 0 then 0x3FFFFF else 2 ^ 32 - 1)
  else if w < 0x1000 then 0
  else if w < 0x4000 then 2 ^ 32 - 1
  else 0

/-- Whether a word is defined: the words that take writes, STD_HDR, and all of STD_POLICY. -/
def stdDefined (w : Nat) : Bool := decide (w < 2) || (decide (4 ≤ w) && decide (w < 12)) || decide (stdMask w ≠ 0)

/-- Whether word 0 of a fence-map record names a part the panel numbers and a reason that is not reserved (R398). -/
def fenceAllows (v : Nat) : Bool :=
  let kind := bitsOf v 0 4
  let index := bitsOf v 4 10
  let fits : Bool := match kind with
    | 1 => decide (index < 576)
    | 2 => decide (index < 48)
    | 3 => decide (index < 16)
    | 4 => decide (index < 360)
    | 5 => decide (index < 36)
    | 6 => decide (index = 0)
    | 7 => decide (index < 2)
    | _ => false
  fits && decide (1 ≤ bitsOf v 14 8 ∧ bitsOf v 14 8 ≤ 5)

/-- Whether a value is one a word's fields allow (R433): SLEW 10 to 300; a fence-map record's KIND, INDEX and REASON. -/
def stdAllows (w v : Nat) : Bool :=
  if w = 5 then decide (10 ≤ bitsOf v 8 9) && decide (bitsOf v 8 9 ≤ 300)
  else if 0x400 ≤ w ∧ w < 0xC00 ∧ w % 2 = 0 then fenceAllows v
  else true

/-- What follows a policy write: logged, FLOOR and SLEW copied to PWR_CFG at once (R388, R396). -/
def State.policyWritten (s : State) (w : Nat) : State :=
  let s := s.log 8 8 [BitVec.ofNat 64 (w + s.stdWord w * 2 ^ 32)]
  if w = 5 then (s.setFld PWR_CFG_FLOOR (bitsOf (s.stdWord 5) 0 8)).setFld PWR_CFG_SLEW (bitsOf (s.stdWord 5) 8 9) else s

/-- STD_WRITE (R392, R394, R395): a 32-bit write of a standing word. -/
def execStdWrite (a : Agent) (word : Nat) (value : W32) (s : State) : Out :=
  if 16384 ≤ word then noUnit
  else
    let addr := 0x100000 + 4 * word
    if !stdDefined word || !s.mayWriteStd a word || !stdAllows word value.toNat then answer s (s.decodeFault true addr)
    else if stdMask word = 0 then idle s
    else
      let open_ := s.stdOpen word
      let s' := s.stdWrite word (value.toNat &&& stdMask word)
      answer s (if 4 ≤ word ∧ word < 12 ∧ open_ = true then s'.policyWritten word else s')

/-- The words of a health-history copy, data first and the commit word last (R397, R399). -/
def State.historyWords (s : State) : List (Nat × Nat) :=
  [(0, s.mgmt.hseq)] ++ (List.range 576).map (fun q => (2 + q, s.fld (TILE_FLT_HEALTH_SCORE q)))
    ++ (List.range 512).map (fun l => (0x242 + l, s.fld (FAB_LANE_HEALTHl_SCORE (l / 8) (l % 8))))
    ++ (List.range 50).map (fun k => (0x442 + k, s.fld (HBM_HEALTH_SCORE k))) ++ [(0x474, s.fld FLT_PANEL_HEALTH_SCORE)]
    ++ [(0x475, complement s.mgmt.hseq)]

/-- HEALTH_HISTORY_WRITE (R399): every hour, to the copy that HSEQ names. -/
def execHealthHistoryWrite (s : State) : Out :=
  answerEvery 9 (3600000 * msCounts) s (fun s =>
    let b := if s.mgmt.hseq % 2 = 0 then 0x1000 else 0x2800
    let s' := s.historyWords.foldl (fun (t : State) e => t.stdWrite (b + e.1) e.2) s
    { s' with mgmt := { s'.mgmt with hseq := (s.mgmt.hseq + 1) % 2 ^ 32 } })

end Sys2Proof.Machine
end

