-- ==== Sys2Proof/Machine/Physical.lean ====
section
/-! DEFINITION. The module's sideband (R421, R427 to R429): telemetry, the SMBus target, and the SFP28 cages. -/

namespace Sys2Proof.Machine

/-- The telemetry words by command, from the registers that hold them (R428). -/
def State.telemetryWords (s : State) : SMap (BitVec 16) :=
  let status := packFields [(0, 1, s.fld FLT_STATUS_TOGGLING), (1, 1, s.fld FLT_STATUS_OVERDUE), (2, 1, s.fld THM_STATUS_SHUTDOWN)
    , (3, 1, s.fld THM_STATUS_FLOW_LOST), (4, 1, s.fld MGMT_STATUS_ROMREC), (5, 4, s.fld MGMT_BOOT_STATUS_PHASE)]
  [(0x01, status), (0x10, s.fld PWR_STATUS_VIN), (0x11, s.fld PWR_POWER_PIN), (0x12, s.fld PWR_CAP_EFF_CAP)
    , (0x20, s.fld THM_COOLANT_T_IN % 2 ^ 12), (0x21, s.fld THM_COOLANT_T_OUT % 2 ^ 12), (0x22, s.fld THM_COOLANT_FLOW)
    , (0x23, s.fld THM_PANEL_HS_MAX % 2 ^ 12)].map (fun e => (e.1, BitVec.ofNat 16 e.2))

/-- TELEMETRY_PUBLISH (R428): every 10 ms while the controller runs. -/
def execTelemetryPublish (s : State) : Out :=
  if s.controllerUp then
    answerEvery 10 (10 * msCounts) s (fun s =>
      { s with pins := { s.pins with telemetry := s.telemetryWords, published := some s.now } })
  else idle s

/-- STALE (R428): nothing published for 100 ms, or the controller in reset or restarting. -/
def State.stale (s : State) : Bool :=
  !s.controllerUp || (match s.pins.published with
    | none => true
    | some t => decide (t + 100 * msCounts < s.now))

/-- A word that the telemetry device serves. -/
def State.telemetry (s : State) (command : Nat) : BitVec 16 := SMap.get 0 s.pins.telemetry command

/-- An SMBus read while P52 is present. -/
def smbAnswer (s : State) (l : List W64) : Out := when (!s.power.inputGone) s (fun s => { s with answer := l })

/-- SMB_STATUS_READ (R428): command 0x01, with STALE. -/
def execSmbStatusRead (s : State) : Out := smbAnswer s [((s.telemetry 0x01) ||| (if s.stale then 0x200 else 0)).setWidth 64]

/-- SMB_VIN_READ (R428): command 0x10. -/
def execSmbVinRead (s : State) : Out := smbAnswer s [(s.telemetry 0x10).setWidth 64]

/-- SMB_PIN_READ (R428): command 0x11. -/
def execSmbPinRead (s : State) : Out := smbAnswer s [(s.telemetry 0x11).setWidth 64]

/-- SMB_EFF_CAP_READ (R428): command 0x12. -/
def execSmbEffCapRead (s : State) : Out := smbAnswer s [(s.telemetry 0x12).setWidth 64]

/-- SMB_T_IN_READ (R428): command 0x20. -/
def execSmbTInRead (s : State) : Out := smbAnswer s [(s.telemetry 0x20).setWidth 64]

/-- SMB_T_OUT_READ (R428): command 0x21. -/
def execSmbTOutRead (s : State) : Out := smbAnswer s [(s.telemetry 0x21).setWidth 64]

/-- SMB_FLOW_READ (R428): command 0x22. -/
def execSmbFlowRead (s : State) : Out := smbAnswer s [(s.telemetry 0x22).setWidth 64]

/-- SMB_HS_MAX_READ (R428): command 0x23. -/
def execSmbHsMaxRead (s : State) : Out := smbAnswer s [(s.telemetry 0x23).setWidth 64]

/-- SMB_FRU_READ (R428): a byte of the 2 KiB of FRU data. -/
def execSmbFruRead (offset : Nat) (s : State) : Out :=
  smbAnswer s [(Config.fruByte s.fuses.serial s.fuses.option s.fuses.build (offset % 2048)).setWidth 64]

/-- Commands that the telemetry device answers. -/
def smbCommands : List Nat := [0x01, 0x10, 0x11, 0x12, 0x20, 0x21, 0x22, 0x23]

/-- SMB_UNSUPPORTED (R428): any other command, or a write, gets a NACK: no data, nothing changed. -/
def execSmbUnsupported (command : Nat) (s : State) : Out := if smbCommands.contains command then idle s else smbAnswer s []

/-- CAGE_OVERPOWER (R421): a cage whose module draws more than 1.5 W is switched off; its port reads link down. -/
def execCageOverpower (port : Nat) (s : State) : Out :=
  if 2 ≤ port then noUnit
  else when (!s.pins.cageOff.has port) s (fun s =>
    ({ s with pins := { s.pins with cageOff := s.pins.cageOff.add port } }).setLink port false)

end Sys2Proof.Machine
end

