-- ==== Sys2Proof/Machine/ControlSpace.lean ====
section
/-! DEFINITION. Control space as software reaches it (R8, R9, R27 to R29, R392, R433): which register an address names,
what a read returns, what a write does, and the commands CONTROL_WRITE, CAPTURE_REARM, CREAD and CWRITE. -/

namespace Sys2Proof.Machine

/-! ## Addresses (R27, R28, R250) -/

/-- The part of control space that an address lies in, with the offset in it. -/
inductive Blk where
  /-- instruction stores of a position, by TILE window offset (R80) -/
  | imem (pos off : Nat)
  | core (pos c off : Nat)
  | tile (pos off : Nat)
  | grv (g off : Nat)
  | hbm (k off : Nat)
  | fab (p off : Nat)
  | die (m off : Nat)
  | seq (off : Nat)
  | flt (off : Nat)
  | mgmt (off : Nat)
  | part (p off : Nat)
  | clk (off : Nat)
  | pwr (off : Nat)
  | thm (off : Nat)
  | desc (off : Nat)
  /-- write counter of standing word `w`, and of the next (R395) -/
  | wcnt (w : Nat)
  | std (off : Nat)
  | sync (n : Nat)
  | none
  deriving DecidableEq, Repr

/-- The place of an address in the MGMT block. -/
def mgmtBlk (addr : Nat) : Blk :=
  if 0x40000 ≤ addr ∧ addr < 0x41000 then .part ((addr - 0x40000) / 0x100) (addr % 0x100)
  else if 0x80000 ≤ addr ∧ addr < 0x90000 then .wcnt ((addr - 0x80000) / 4)
  else .mgmt addr

/-- The place of an address in a TILE window of grove `g` (R28, R73, R80). -/
def tileBlk (g addr : Nat) : Blk :=
  let pos := posOfGrove g (addr % 0x1000000 / 0x100000)
  let off := addr % 0x100000
  if 0xC0000 ≤ off then .grv g off
  else if off < 0x80000 then .imem pos off
  else if off < 0x88000 then .core pos ((off - 0x80000) / 0x1000) (off % 0x1000)
  else .tile pos off

/-- The place of a control-space address. -/
def blkOf (addr : Nat) : Blk :=
  if addr < 0x100000 then mgmtBlk addr
  else if addr < 0x110000 then .std (addr - 0x100000)
  else if 0x1000000 ≤ addr ∧ addr < 0x1100000 then .pwr (addr - 0x1000000)
  else if 0x1100000 ≤ addr ∧ addr < 0x1200000 then .thm (addr - 0x1100000)
  else if 0x1200000 ≤ addr ∧ addr < 0x1300000 then .clk (addr - 0x1200000)
  else if 0x2000000 ≤ addr ∧ addr < 0x3000000 then .flt (addr - 0x2000000)
  else if 0x100000000 ≤ addr ∧ addr < 0x100000000 + 36 * 0x1000000 then tileBlk ((addr - 0x100000000) / 0x1000000) addr
  else if 0x200000000 ≤ addr ∧ addr < 0x200000000 + 64 * 0x10000 then
    let p := (addr - 0x200000000) / 0x10000
    if addr % 0x10000 < 0x8000 then .fab p (addr % 0x10000) else .die (p / 4) (addr % 0x10000)
  else if 0x300000000 ≤ addr ∧ addr < 0x300000000 + 50 * 0x100000 then
    .hbm ((addr - 0x300000000) / 0x100000) (addr % 0x100000)
  else if 0x400000000 ≤ addr ∧ addr < 0x400000000 + 8 * 131072 then .sync ((addr - 0x400000000) / 8)
  else if 0x500000000 ≤ addr ∧ addr < 0x500010000 then .seq (addr - 0x500000000)
  else if 0x600000000 ≤ addr ∧ addr < 0x601000000 then .desc (addr - 0x600000000)
  else .none

/-- The registers of a block, the address of its first byte once aliases are folded, and the offset in it. -/
def Blk.table : Blk → List RegRow × Nat × Nat
  | .core pos c off => (rowsCore, coreBase pos c, off)
  | .tile pos off => (rowsTile, tileBase pos, off)
  | .grv g off => (rowsGrv, grvBase g, off)
  | .hbm k off => (rowsHbm, hbmBase k, off)
  | .fab p off => (rowsFab, fabBase p, off)
  | .die m off => (rowsDie, dieBase m, off)
  | .seq off => (rowsSeq, 0x500000000, off)
  | .flt off => (rowsFlt, 0x2000000, off)
  | .mgmt off => (rowsMgmt, 0, off)
  | .part p off => (rowsPart, partBase p, off)
  | .clk off => (rowsClk, 0x1200000, off)
  | .pwr off => (rowsPwr, 0x1000000, off)
  | .thm off => (rowsThm, 0x1100000, off)
  | .desc off => (rowsDesc, 0x600000000, off)
  | .imem _ _ | .wcnt _ | .std _ | .sync _ | .none => ([], 0, 0)

/-- Whether a row holds the 64-bit register that covers an offset. -/
def RegRow.holds (r : RegRow) (off : Nat) : Bool :=
  decide (r.off ≤ off) && decide ((off - r.off) / r.stride < r.count) && decide ((off - r.off) % r.stride < 8)

/-- The word of a register at reset. -/
def RegRow.rst (r : RegRow) : W64 := BitVec.ofNat 64 (packFields (r.fields.map (fun f => (f.lo, f.len, f.rst))))

/-- The register that covers an address: its row, and its canonical address. -/
def Blk.reg (b : Blk) : Option (RegRow × Nat) :=
  let t := b.table
  (t.1.find? (fun r => r.holds t.2.2)).map (fun r => (r, t.2.1 + t.2.2 / 8 * 8))

/-! ## Reads (R29, R34, R35, R73, R191, R303, R415) -/

/-- DESC_COUNTS (R35). -/
def State.countsWord (s : State) : Nat :=
  let n := popcount 36 s.fuses.groves.toNat
  let ports := popcount 64 s.fuses.ports.toNat
  packFields [(0, 6, n), (6, 9, 14 * n), (15, 7, ((List.range 576).filter (fun q => s.status q = 2)).length), (22, 6, s.computeStacks)
    , (28, 10, 8 * ports), (38, 7, ports), (45, 5, popcount 64 s.fuses.ethernet.toNat), (50, 9, popcount 256 s.fuses.slots.toNat)
    , (59, 5, 16)]

/-- Groves a trail from a position crosses into. -/
def crossings (pos : Nat) : List Nat → Nat
  | [] => 0
  | n :: l =>
    match (if n < 4 then stepPos pos n else none) with
    | some q => (if groveOf q = groveOf pos then 0 else 1) + crossings q l
    | none => 0

/-- An entry of the distance table for a trail to its exit (R191): two cycles a move, seven at the ends (R174), four for
a crossing (R175). -/
def distEntry (pos : Nat) (t : Option (List Nat)) : Nat :=
  match t with
  | none => 0
  | some l =>
    let h := l.length - 1
    let x := crossings pos l
    packFields [(0, 6, h), (6, 4, x), (10, 1, (decide (x = 0)).toNat), (11, 12, 2 * h + 7 + 4 * x), (31, 1, 1)]

/-- Entry `k` of a logical ID in the distance table, from the map and the routers of its writing (R191). -/
def State.distance (s : State) (l k : Nat) : Nat :=
  match entryPos (SMap.get 0 s.boot.distMap l) with
  | none => 0
  | some pos =>
    let ways := waysFrom s.boot.distUp.has pos
    if k < 48 then distEntry pos (stackTrail ways k)
    else if k < 112 then distEntry pos (portTrail ways ((k - 48) / 4))
    else if k = 112 then distEntry pos (hostTrail ways)
    else 0

/-- A 64-bit word of the descriptor that no stored register holds. -/
def State.descWord (s : State) (off : Nat) : Option Nat :=
  if off = 0 then some (0x44395041 + 2 ^ 32)
  else if off = 0x10 then some s.identWord
  else if off = 0x18 then some s.fuses.serial.toNat
  else if off = 0x20 then some s.countsWord
  else if off = 0x28 then some (packFields [(0, 18, 131072), (18, 11, 24 * s.computeStacks)])
  else if off = 0x40 then some s.fuses.groves.toNat
  else if off = 0x48 then some s.fuses.stackMask.toNat
  else if off = 0x50 then some s.fuses.ports.toNat
  else if off = 0x58 then some s.fuses.ethernet.toNat
  else if off = 0x68 then some (7 + 8 * (s.features.getLsbD 5).toNat)
  else if off = 0x70 then some s.fuses.powerMax.toNat
  else if 0x80 ≤ off ∧ off < 0xA0 then some (bitsOf s.fuses.slots.toNat (8 * (off - 0x80)) 64)
  else if 0xC0 ≤ off ∧ off < 0xE8 then
    some (packDigits 8 (fun i => if off + i < 0xE4 then s.logicalGroves.getD (off - 0xC0 + i) 0xFF else 0) 8)
  else if 0x10000 ≤ off ∧ off < 0x50000 then
    let n := (off - 0x10000) / 4
    some (s.distance (n / 128) (n % 128) + s.distance (n / 128) (n % 128 + 1) * 2 ^ 32)
  else none

/-- FLT_STATUS.USED (R283, R303). -/
def State.fltUsed (s : State) : Nat := min 4096 ((s.fld FLT_HEAD_SEQ + 2 ^ 33 - 1 - s.fld FLT_ACK_SEQ) % 2 ^ 32)

/-- The FLT block's computed words. -/
def State.fltWord (s : State) (off : Nat) : Option Nat :=
  if off = 8 then some (setBitsOf (s.rd FLT_STATUS) 2 13 s.fltUsed)
  else if 0x100000 ≤ off ∧ off < 0x100000 + 8 * 14000 then
    let n := (off - 0x100000) / 8
    some (setBitsOf (s.rd (FLT_SRCn n)) 34 3 (domainOf n 0))
  else if 0x200000 ≤ off ∧ off < 0x220000 then
    match s.faults.ring.find? (fun e => e.1 = (off - 0x200000) / 0x20) with
    | some e => some ((e.2.words.getD (off % 0x20 / 8) 0).toNat)
    | none => some 0
  else none

/-- The MGMT block's computed words: firmware slots, and the entry in flash that MGMT_LOG_SEL selects. -/
def State.mgmtWord (s : State) (off : Nat) : Option Nat :=
  if 0x20008 ≤ off ∧ off < 0x20030 then some (s.updSlot ((off - 0x20000) / 8))
  else if off = 0x30008 then some s.logOldest
  else if 0x30040 ≤ off ∧ off < 0x30080 then
    match s.mgmt.logFlash.find? (fun e => decide (e.lseq.toNat = s.fld MGMT_LOG_SEL_LSEQ)) with
    | some e => some ((e.words.getD ((off - 0x30040) / 8) 0).toNat)
    | none => some 0
  else none

/-- TILE_MOV_STATUS (R211): a mover runs its first entry: a descriptor that has started, a checkpoint record, a gather or
scatter that the sequence unit has accepted. -/
def State.movStatus (s : State) (pos : Nat) : Nat :=
  let taken (e : QEntry) : Bool := s.ops.any (fun o => decide (o.pos = pos) && decide (o.entry = e.id) && (match o.phase with
    | .accepted _ _ => true
    | _ => false))
  let busy (m : Nat) : Bool := match s.engineHead pos m with
    | none => false
    | some e => if e.isDesc then e.started else decide (e.kind = .checkpoint) || taken e
  packFields [(0, 5, s.queueLen pos), (5, 1, (busy 0).toNat), (6, 1, (busy 1).toNat)]

/-- TILE_FLT_KAT (R305): CORE and IN name the first core that runs in the kernel. -/
def State.katWord (s : State) (pos : Nat) : Nat :=
  let w := s.rd (TILE_FLT_KAT pos)
  match (List.range 8).find? (fun c => !(s.core (coreKey pos c)).stopped && s.inKernel pos (s.core (coreKey pos c)).pc.toNat) with
  | some c => setBitsOf (setBitsOf w 12 3 c) 15 1 1
  | none => setBitsOf w 12 4 0

/-- TILE_NET_STATUS (R192). -/
def State.netStatus (s : State) (pos : Nat) : Nat :=
  let held (t : Track) : Bool := match t.hold with
    | .moved _ | .dead => true
    | .nowhere | .out | .reading => false
  packFields [(0, 7, (s.tracks pos).length), (7, 7, ((s.tracks pos).filter (fun e => held e.2)).length), (14, 7, s.oldOut pos)
    , (21, 6, s.combineUsed pos)]

/-- The TILE registers that the panel's state gives. -/
def State.tileWord (s : State) (pos off : Nat) : Option Nat :=
  if off = 0x88008 then some (s.movStatus pos)
  else if off = 0x8C008 then some (s.katWord pos)
  else if off = 0xA0008 then some (s.netStatus pos)
  else if 0x90020 ≤ off ∧ off < 0x90040 then
    let d := (off - 0x90020) / 8
    some (setBitsOf (s.rd (TILE_SPAD_REACH_d pos d)) 16 2 (s.reachPath pos d))
  else none

/-- FAB_STATUS (R250). -/
def State.fabStatus (s : State) (p : Nat) : Nat :=
  let x := s.port p
  packFields [(0, 3, x.state), (3, 1, x.width4.toNat), (4, 1, x.half.toNat), (5, 1, s.fld (FAB_CTRL_FENCE p)), (6, 11, x.credits 0)
    , (17, 9, x.credits 1), (26, 10, x.credits 2), (36, 8, x.replay.length)]

/-- FAB_DIE_STATUS and FAB_DIE_OLDOUTq (R250). -/
def State.dieWord (s : State) (m off : Nat) : Option Nat :=
  let d := s.die m
  if off = 0xF010 then
    some (packFields [(0, 9, d.origin.length), (9, 9, d.dest.length + d.merge.length), (18, 9, (d.dest.filter (fun e => e.2.heldFrom.isSome)).length)])
  else if 0xF100 ≤ off ∧ off < 0xF180 then some (s.dieOldOut m ((off - 0xF100) / 8))
  else none

/-- The words that no stored register holds, at the 8-byte offset of an address. -/
def State.computed (s : State) : Blk → Option Nat
  | .core pos c off =>
    let i := off / 8
    if i < 4 ∨ (0xC ≤ i ∧ i < 0x14) ∨ i = 0x21 then some (s.readCr pos c i (s.cycle (groveOf pos))) else none
  | .tile pos off => s.tileWord pos (off / 8 * 8)
  | .fab p off => if off / 8 = 1 then some (s.fabStatus p) else none
  | .die m off => s.dieWord m (off / 8 * 8)
  | .flt off => s.fltWord (off / 8 * 8)
  | .mgmt off => s.mgmtWord (off / 8 * 8)
  | .clk off => if off / 8 = 2 then some (s.now % 2 ^ 64) else none
  | .desc off => s.descWord (off / 8 * 8)
  | .imem _ _ | .grv _ _ | .hbm _ _ | .seq _ | .part _ _ | .pwr _ | .thm _ | .wcnt _ | .std _ | .sync _ | .none => none

/-- The bits of a register that read: those of its fields that are not WO or W1S (R8). No W1S bit is held: the panel
takes each command in the write that sets it, so it reads 0 at once (log entry 100). -/
def RegRow.readMask (r : RegRow) : Nat :=
  packFields (r.fields.map (fun f => (f.lo, f.len, if f.acc = .wo ∨ f.acc = .w1s then 0 else 2 ^ f.len - 1)))

/-- The 64 bits at an aligned control-space address; none where no register is defined (R29). -/
def State.control (s : State) (addr : Nat) : Option Nat :=
  if addr % 8 ≠ 0 then none
  else if s.absent addr then some 0
  else match blkOf addr with
    | .imem pos off => some (Mem.read s.imem (imemKey pos off) 8)
    | .wcnt w => some (SMap.get 0 s.wcnt w + SMap.get 0 s.wcnt (w + 1) * 2 ^ 32)
    | .std off =>
      if stdDefined (off / 4) || stdDefined (off / 4 + 1) then some (s.stdWord (off / 4) + s.stdWord (off / 4 + 1) * 2 ^ 32) else none
    | .sync n => some (s.syncEntry n)
    | b => match b.reg with
      | none => none
      | some (row, a) => some ((s.computed b).getD ((s.rd ⟨a, row.rst⟩) &&& row.readMask))

/-! ## Writes of one register (R8, R9, R433) -/

/-- Whether a field allows a value. -/
def Chk.allows (capMax : Nat) (v : Nat) : Chk → Bool
  | .any => true
  | .range lo hi => decide (lo ≤ v) && decide (v ≤ hi)
  | .multiple m => decide (v % m = 0)
  | .mapEntry => decide (bitsOf v 15 1 = 0) || (decide (bitsOf v 0 5 < 24) && decide (bitsOf v 5 5 < 24))
  | .cap => decide (3000 ≤ v) && decide (v ≤ capMax)

/-- A word with the bits of `mask` taken from `v`. -/
def mergeBits (cur v mask : Nat) : Nat := (cur &&& ((2 ^ 64 - 1) ^^^ mask)) ||| (v &&& mask)

/-- A field of a word after a write of the bits of `mask`. -/
def Fld.write (f : Fld) (cur v mask : Nat) : Nat :=
  match f.acc with
  | .rw => bitsOf (mergeBits cur v mask) f.lo f.len
  | .w1c => bitsOf (cur &&& ((2 ^ 64 - 1) ^^^ (v &&& mask))) f.lo f.len
  | .ro | .wo | .w1s => bitsOf cur f.lo f.len

/-- Whether a write gives a field a value it allows, or does not touch it. -/
def Fld.ok (capMax : Nat) (f : Fld) (cur v mask : Nat) : Bool :=
  decide (bitsOf mask f.lo f.len = 0) || f.chk.allows capMax (bitsOf (mergeBits cur v mask) f.lo f.len) ||
    match f.acc with
    | .rw | .wo => false
    | .ro | .w1c | .w1s => true

/-- The word a write of the bits of `mask` leaves; none where a field does not allow its value. -/
def RegRow.write (r : RegRow) (capMax cur v mask : Nat) : Option Nat :=
  if r.fields.all (fun f => f.ok capMax cur v mask) then
    some (packFields (r.fields.map (fun f => (f.lo, f.len, f.write cur v mask))))
  else none

/-- The value a command register is given: RW fields not written keep their value, all other bits are those written. -/
def RegRow.given (r : RegRow) (cur v mask : Nat) : Nat :=
  packFields (r.fields.map (fun f => (f.lo, f.len,
    if f.acc = .rw then bitsOf (mergeBits cur v mask) f.lo f.len else bitsOf (v &&& mask) f.lo f.len)))

/-- Whether a register is a counter of R134. -/
def RegRow.isCounter (r : RegRow) : Bool := decide (r.fields = [⟨0, 32, .rw, 0, .any⟩, ⟨32, 32, .rw, 0xFFFFFFFF, .any⟩])

/-- The source of a counter's events (R436). -/
def Blk.source : Blk → Nat
  | .core pos _ _ | .tile pos _ | .imem pos _ => srcPos pos 19
  | .grv g off => if off < 0xE0100 then srcGrove g 19 else if off < 0xE0400 then srcGrove g 13 else srcGrove g 14
  | .hbm k _ => srcHbm k 4
  | .fab p _ => srcPort p 1
  | .die m _ => srcPort (4 * m) 1
  | .seq off => if off < 0x4290 then srcDev 8 else srcDev 7
  | .flt _ => srcDev 11
  | .mgmt off => if off < 0x10000 then srcDev 6 else srcDev 5
  | .clk _ => srcDev 0
  | .pwr _ => srcDev 3
  | .part _ _ | .thm _ | .desc _ | .wcnt _ | .std _ | .sync _ | .none => srcDev 5

/-- The events of a counter that a write brings to its threshold or to saturation (R134). -/
def State.counterWritten (s : State) (b : Blk) (old new : Nat) : State :=
  let off := b.table.2.2 / 8 * 8
  let reached (w : Nat) : Bool := decide (bitsOf w 32 32 ≤ bitsOf w 0 32) && decide (bitsOf w 32 32 ≠ 0xFFFFFFFF)
  let full (w : Nat) : Bool := decide (bitsOf w 0 32 = 0xFFFFFFFF)
  let s := if reached new && !reached old then s.raise b.source 7 (counterDetail off (bitsOf new 0 32)) else s
  if full new && !full old then s.raise b.source 8 (counterDetail off (bitsOf new 0 32)) else s

/-- A register written under its access codes; a value that a field does not allow discards the write (R433). -/
def State.writeReg (s : State) (b : Blk) (row : RegRow) (addr v mask : Nat) : State :=
  let r : Reg := ⟨addr, row.rst⟩
  match row.write (classCap (s.fld PWR_CFG_CLASS)) (s.rd r) v mask with
  | none => s.decodeFault true addr
  | some w =>
    let t := s.wr r w
    if row.isCounter then t.counterWritten b (s.rd r) w else t

/-! ## Writes that do more -/

/-- FAB_CTRL (R214, R216, R217, R250): MODE only while EN is 0, and 1 only where the port may; then FENCE and EN. -/
def State.fabCtrl (s : State) (p v : Nat) : State :=
  let en := Nat.testBit v 0
  let eth := Nat.testBit v 1
  let fence := Nat.testBit v 2
  if eth ≠ s.flag (FAB_CTRL_MODE p) ∧ (s.flag (FAB_CTRL_EN p) = true ∨ (eth = true ∧ s.fuses.ethernet.getLsbD p = false)) then
    s.decodeFault true (FAB_CTRL p).addr
  else
    let was := s.flag (FAB_CTRL_EN p)
    let s := s.setFld (FAB_CTRL_MODE p) eth.toNat
    let s := if fence = s.flag (FAB_CTRL_FENCE p) then s
      else
        let s := s.setFld (FAB_CTRL_FENCE p) fence.toNat
        if fence then s.flushQueue p else s.pump p
    if en then (s.setFld (FAB_CTRL_EN p) 1).portTrain p
    else if was then (s.setFld (FAB_CTRL_EN p) 0).portDown p 0
    else s

/-- MGMT_HOST_CTRL by an agent that may write all of it: the watchdog's fields, a kick, a reset of the host (R413); none
of them where a field does not allow its value (R433). -/
def State.hostCtrl (s : State) (row : RegRow) (v mask : Nat) : State :=
  let was := s.flag MGMT_HOST_CTRL_WDOG_EN
  let taken := (row.write (classCap (s.fld PWR_CFG_CLASS)) (s.rd MGMT_HOST_CTRL) v mask).isSome
  let s := s.writeReg (.mgmt 0x200) row MGMT_HOST_CTRL.addr v mask
  let mask := if taken then mask else 0
  let kick := Nat.testBit (v &&& mask) 38 || (s.flag MGMT_HOST_CTRL_WDOG_EN && !was)
  let s := if kick then { s with bridge := { s.bridge with kicked := s.now } } else s
  if Nat.testBit (v &&& mask) 0 then s.hostReset else s

/-- FLT_SRCn (R280, R303): STATUS cleared, COUNT by the management controller only, FORCE one record. -/
def State.fltSrc (s : State) (a : Agent) (n : Nat) (row : RegRow) (v mask : Nat) : State :=
  let mask := if a = .mgmt then mask else mask &&& (2 ^ 64 - 2 ^ 32)
  let s := s.writeReg (.flt (0x100000 + 8 * n)) row (FLT_SRCn n).addr v mask
  if Nat.testBit (v &&& mask) 33 then
    let r : FaultRec := { s.record n 0 0 with forced := true }
    s.arrive r
  else s

/-- An instruction-store write (R76, R80): `n` bytes, while the core is stopped. A word written whole has good check
bits. -/
def State.storeWrite (s : State) (pos off n v : Nat) : State :=
  if (s.core (coreKey pos (off / 0x10000))).stopped then
    let k := imemKey pos off
    let t := { s with imem := Mem.write s.imem k n v }
    if n < 4 then t else { t with imemEcc := s.imemEcc.clear (k / 4) (k / 4 + n / 4) }
  else s.decodeFault true (tileBase pos + off)

/-- One after another, while the first answers with a next state. -/
def andThen (o : Out) (f : State → Out) : Out :=
  match o with
  | .next s => f s
  | o => o

/-- The write that an address outside the defined registers takes: discarded and recorded (R29). -/
def undecoded (addr : Nat) (s : State) : Out := answer s (s.decodeFault true addr)

/-- SEQ_CMDs (R156): the command that OP names. -/
def seqCmd (a : Agent) (k v : Nat) (s : State) : Out :=
  match bitsOf v 0 4 with
  | 1 => execActivate a k s
  | 2 => execHold a k s
  | 3 => execResume a k s
  | 4 => execRelease a k s
  | 5 => execSetlen a k (bitsOf v 16 24) s
  | 6 => execMark a k s
  | 7 => execRewind a k s
  | _ => undecoded (SEQ_CMDs k).addr s

/-- MGMT_PARTp_CMD (R262): the command that OP names. -/
def partCmd (a : Agent) (p v : Nat) (s : State) : Out :=
  match bitsOf v 0 4 with
  | 1 => execCreate a p s
  | 2 => execLoad a p s
  | 3 => execStart a p s
  | 4 => execReset a p s
  | 5 => execTeardown a p s
  | 6 => execUpdate a p s
  | _ => undecoded (MGMT_PARTp_CMD p).addr s

/-- FLT_CMD (R303): DECLARE of a position, REWIND of a partition. -/
def fltCmd (a : Agent) (v : Nat) (s : State) : Out :=
  if bitsOf v 0 4 = 1 then execDeclare a (bitsOf v 4 10) s
  else if bitsOf v 0 4 = 2 ∧ bitsOf v 8 6 = 0 then execFltRewind a (bitsOf v 4 4) s
  else undecoded FLT_CMD.addr s

/-- A SYNC entry (R150): a 64-bit command. -/
def syncWrite (a : Agent) (n v bytes : Nat) (s : State) : Out :=
  if bytes ≠ 8 then undecoded (syncAddr n) s
  else match bitsOf v 32 3 with
    | 0 => execSyncCmdAdd a n (BitVec.ofNat 32 v) s
    | 1 => execSyncCmdSet a n (BitVec.ofNat 32 v) s
    | 2 => execSyncCmdClearFlags a n (BitVec.ofNat 32 v) s
    | _ => undecoded (syncAddr n) s

/-- A standing-register write (R394): 32 or 64 bits, the second as two words. -/
def stdBytesWrite (a : Agent) (off v bytes : Nat) (s : State) : Out :=
  if bytes = 4 then execStdWrite a (off / 4) (BitVec.ofNat 32 v) s
  else if bytes = 8 then
    andThen (execStdWrite a (off / 4) (BitVec.ofNat 32 v) s) (execStdWrite a (off / 4 + 1) (BitVec.ofNat 32 (v / 2 ^ 32)))
  else undecoded (0x100000 + off) s

/-- Words that a write in the wrong state leaves as they are, with a decode fault: TILE_CORE_ENTRY of a core that runs
(R76), the words of a slot that is not FREE (R155), CFG, HBMSET, GRANT and CKPT of a partition that exists (R275). -/
def State.locked (s : State) : Blk → Bool
  | .core pos c off => decide (off / 8 = 0x22) && !(s.core (coreKey pos c)).stopped
  | .seq off => decide (off < 0x2000) && decide (s.slotState (off / 32) ≠ 0)
  | .part p off => decide (off < 0x20) && decide (s.partState p ≠ 0)
  | _ => false

/-- What follows a plain write: the ACL logged (R388), EFF_CAP brought up to date (R369), ports of a die that has a
PANEL_ID sending (R250). -/
def State.afterWrite (s : State) : Blk → State
  | .mgmt off => if off / 8 = 2 then s.log 8 8 [BitVec.ofNat 64 (s.rd MGMT_ACL)] else s
  | .pwr off => if off / 8 < 2 then s.setCap else s
  | .flt off =>
    if off / 8 = 0 then (s.setFld FLT_STATUS_OVERDUE (s.flag FLT_STATUS_OVERDUE && s.overdue).toNat).setAlive else s
  | .die m off => if off / 8 = 0x1E00 then (List.range 4).foldl (fun (s : State) i => s.pump (4 * m + i)) s else s
  | _ => s

/-- Core control registers that a control-space write changes (R73). -/
def crWritable (i : Nat) : Bool := decide ((4 ≤ i ∧ i ≤ 6) ∨ i = 8 ∨ (0x10 ≤ i ∧ i ≤ 0x13))

/-- A write of a core's register (R76): between the slots of a bundle it waits for the issue boundary; a performance
counter that a stall is to count in counts up to now first (R75). -/
def State.coreRegWrite (s : State) (b : Blk) (row : RegRow) (addr v mask pos c i : Nat) : State :=
  let core := s.core (coreKey pos c)
  let s := if 0x10 ≤ i ∧ i ≤ 0x13 then s.stallCounted pos c (s.hereNow pos) else s
  match row.write (classCap (s.fld PWR_CFG_CLASS)) (s.rd ⟨addr, row.rst⟩) v mask with
  | some w =>
    if core.issued ≠ 0 ∧ crWritable i then
      s.modCore (coreKey pos c) (fun k => { k with
        pend := k.pend ++ [⟨k.nextIssue + 1, .ctl i, BitVec.allOnes 64, BitVec.ofNat 2048 w, 0⟩] })
    else s.writeReg b row addr v mask
  | none => s.writeReg b row addr v mask

/-- A register without an effect of its own written; a route record or collective entry is marked as written since the last
flip (R240). -/
def State.regWrite (s : State) (b : Blk) (row : RegRow) (addr v mask : Nat) : State :=
  match b with
  | .core pos c off => s.coreRegWrite b row addr v mask pos c (off / 8)
  | .fab p off =>
    let t := s.writeReg b row addr v mask
    if 0x1000 ≤ off ∧ off < 0x7000 then { t with idleSlots := t.idleSlots.add (fabBase p + off / 256 * 256) } else t
  | .die m off =>
    let t := s.writeReg b row addr v mask
    if 0xD000 ≤ off ∧ off < 0xF000 then { t with idleSlots := t.idleSlots.add (dieBase m + off / 64 * 64) }
    else if 0x8000 ≤ off ∧ off < 0xD000 then t.dieTrailWritten m ((off - 0x8000) / 32) else t
  | _ => s.writeReg b row addr v mask

/-- A write of a register that has no effect of its own. -/
def plainWrite (a : Agent) (b : Blk) (row : RegRow) (addr v mask : Nat) (s : State) : Out :=
  allowed a row.who addr s (fun s =>
    if s.locked b then s.decodeFault true addr
    else
      let t := s.regWrite b row addr v mask
      if row.write (classCap (s.fld PWR_CFG_CLASS)) (s.rd ⟨addr, row.rst⟩) v mask = none then t else t.afterWrite b)

/-- A write of a CORE or TILE register. -/
def tileWrite (a : Agent) (b : Blk) (row : RegRow) (addr v mask given : Nat) (s : State) : Out :=
  let plain := plainWrite a b row addr v mask s
  match b with
  | .core pos c off =>
    if off / 8 = 0x20 then (if Nat.testBit given 0 then execCoreRun a ⟨pos, c⟩ s else execCoreHalt a ⟨pos, c⟩ s) else plain
  | .tile pos off =>
    if off / 8 = 0x11010 then (if Nat.testBit given 0 then
        (if s.mayWrite a .mgmt && !s.flag (TILE_MOV_MGMTQ_BUSY pos) then andThen plain (execMgmtqGo a pos) else execMgmtqGo a pos s)
      else plain)
    else if off / 8 = 0x12003 then (if Nat.testBit given 0 then execSpadClearStart a pos s else plain)
    else if 0x12004 ≤ off / 8 ∧ off / 8 < 0x12008 then
      execReachEntryWrite a pos (off / 8 - 0x12004) (BitVec.ofNat 64 given) s
    else if 0x12020 ≤ off / 8 ∧ off / 8 < 0x12040 ∧ off / 8 % 2 = 1 then
      let n := (off / 8 - 0x12020) / 2
      if Nat.testBit given 63 then execControlWindowOpen a pos n (BitVec.ofNat 64 given) s
      else execControlWindowClose a pos n (BitVec.ofNat 64 given) s
    else plain
  | _ => plain

/-- A write of an HBM, FAB or SEQ register. -/
def rimWrite (a : Agent) (b : Blk) (row : RegRow) (addr v mask given : Nat) (s : State) : Out :=
  let plain := plainWrite a b row addr v mask s
  match b with
  | .hbm k off =>
    if off / 8 = 7 then (if Nat.testBit given 32 then execHbmClearStart a k (BitVec.ofNat 64 given) s else plain)
    else if 0x30 ≤ off / 8 ∧ off / 8 < 0x40 then execHbmGrantWrite a k (off / 8 - 0x30) (BitVec.ofNat 64 given) s
    else plain
  | .fab p off =>
    if off / 8 = 0 then allowed a .mgmt addr s (fun s => s.fabCtrl p given)
    else if off / 8 = 0x23 then execEthRingTailWrite a p (BitVec.ofNat 64 given) s
    else plain
  | .seq off =>
    if 0x400 ≤ off / 8 ∧ off / 8 < 0x500 then seqCmd a (off / 8 - 0x400) given s
    else if 0x800 ≤ off / 8 ∧ off / 8 < 0x840 then
      if Nat.testBit given 17 then execSeqWatchArm a (off / 8 - 0x800) (BitVec.ofNat 64 given) s
      else execSeqWatchDisarm a (off / 8 - 0x800) (BitVec.ofNat 64 given) s
    else plain
  | _ => plain

/-- A write of a register of the panel's own blocks. -/
def panelWrite (a : Agent) (b : Blk) (row : RegRow) (addr v mask given : Nat) (s : State) : Out :=
  let plain := plainWrite a b row addr v mask s
  match b with
  | .flt off =>
    if off / 8 = 3 then execFltAckWrite a (BitVec.ofNat 64 given) s
    else if off / 8 = 5 then fltCmd a given s
    else if 0x20000 ≤ off / 8 ∧ off / 8 < 0x20000 + 14000 then
      allowed a .flt addr s (fun s => s.fltSrc a (off / 8 - 0x20000) row v mask)
    else plain
  | .mgmt off =>
    if off / 8 = 3 then execMportSwap a (bitsOf given 0 1) s
    else if off / 8 = 0x40 then
      if s.mayWrite a .hostg then allowed a .hostg addr s (fun s => s.hostCtrl row v mask)
      else if Nat.testBit given 38 then execWdogKick a s
      else undecoded addr s
    else if off / 8 = 0x2008 then execTapExtConnect a (Nat.testBit given 0) s
    else plain
  | .part p off =>
    if off / 8 = 5 then partCmd a p given s
    else if off / 8 = 0x11 ∧ ¬ (s.partState p = 0 ∨ s.partState p = 1 ∨ s.partState p = 3) then
      plainWrite a b row addr v (mask / 2 * 2) s
    else plain
  | .clk off => if off / 8 = 3 then execClkOppCmd a (bitsOf given 0 2) s else plain
  | _ => plain

/-- A write of `bytes` bytes at a control-space address by an agent (R8, R29, R392, R433). -/
def controlStore (a : Agent) (addr v bytes : Nat) (s : State) : Out :=
  let mask := (2 ^ (8 * bytes) - 1) * 2 ^ (8 * (addr % 8))
  let at_ := v % 2 ^ (8 * bytes) * 2 ^ (8 * (addr % 8))
  if addr % bytes ≠ 0 then undecoded addr s
  else if s.mute a addr then idle s
  else match blkOf addr with
    | .imem pos off => allowed a .mgmt addr s (fun s => s.storeWrite pos off bytes v)
    | .std off => stdBytesWrite a off v bytes s
    | .sync n => syncWrite a n v bytes s
    | .wcnt _ => allowed a .mgmt addr s (fun s => s)
    | b => match b.reg with
      | none => undecoded addr s
      | some (row, reg) =>
        let given := row.given (s.rd ⟨reg, row.rst⟩) at_ mask
        match b with
        | .core _ _ _ | .tile _ _ => tileWrite a b row reg at_ mask given s
        | .hbm _ _ | .fab _ _ | .seq _ => rimWrite a b row reg at_ mask given s
        | .flt _ | .mgmt _ | .part _ _ | .clk _ => panelWrite a b row reg at_ mask given s
        | _ => plainWrite a b row reg at_ mask s

/-! ## The commands -/

/-- CONTROL_WRITE (R8, R29, R392, R433): a write of 1, 2, 4 or 8 bytes. -/
def execControlWrite (a : Agent) (addr : Nat) (value : W64) (bytes : Nat) (s : State) : Out :=
  if bytes = 1 ∨ bytes = 2 ∨ bytes = 4 ∨ bytes = 8 then controlStore a addr value.toNat bytes s else noUnit

/-- Whether a register is a capture: its VALID is bit 63, W1C (R134). -/
def RegRow.isCapture (r : RegRow) : Bool := r.fields.any (fun f => decide (f = ⟨63, 1, .w1c, 0, .any⟩))

/-- CAPTURE_REARM (R134): 1 written to VALID of a capture register clears it, so that it captures the next event; the
fields it holds stay. -/
def execCaptureRearm (a : Agent) (addr : Nat) (s : State) : Out :=
  match (blkOf addr).reg with
  | none => undecoded addr s
  | some (row, reg) =>
    if row.isCapture then
      allowed a row.who addr s (fun s => s.wr ⟨reg, row.rst⟩ (setBitsOf (s.rd ⟨reg, row.rst⟩) 63 1 0))
    else idle s

/-- Whether CREAD serves an address now: all of control space, or the MGMT and DESC blocks in the recovery state
(R391). -/
def State.creadServes (s : State) (addr : Nat) : Bool :=
  !s.inRecovery || decide (addr < 0x100000) || (decide (0x600000000 ≤ addr) && decide (addr < 0x601000000))

/-- The state after a read of control space: the logical ID of a core whose position has none is a free value (log
entry 23). -/
def State.readDone (s : State) (addr : Nat) : State :=
  match blkOf addr with
  | .core pos _ off => if off / 8 = 0 ∧ s.logical pos = none then { s with free := s.free + 1 } else s
  | _ => s

/-- CREAD (R29, R391): 64 bits of control space; where no register is defined, zero, and a decode fault. -/
def execCread (session addr : Nat) (s : State) : Out :=
  operation session false .noRom s (fun _ s =>
    if !s.creadServes addr then s.respond 1 []
    else match s.control addr with
      | none => (s.decodeFault false addr).respond 0 [0]
      | some v => (s.readDone addr).respond 0 [BitVec.ofNat 64 v])

/-- CWRITE (R391, R392): a 64-bit control-space write as an ADMIN client; not in the recovery state. -/
def execCwrite (session addr : Nat) (value : W64) (s : State) : Out :=
  match s.session session with
  | none => idle s
  | some x =>
    if s.mayOperate x true .noRecovery then
      andThen (controlStore .admin addr value.toNat 8 s) (fun t => answer t (t.respond 0 []))
    else answer s (s.respond 1 [])

end Sys2Proof.Machine
end

