-- ==== Sys2Proof/Machine/Dispatch.lean ====
section
/-! DEFINITION. One arm per command: the meaning it has. -/

namespace Sys2Proof.Machine

/-- The effect of a command on everything but the queue. -/
def exec (i : Instr) (s : State) : Host.Outcome State Fault Refusal :=
  match i with
  | .sNop c => Sys2Proof.Machine.execSNop c s
  | .sAdd c => Sys2Proof.Machine.execSAdd c s
  | .sSub c => Sys2Proof.Machine.execSSub c s
  | .sAnd c => Sys2Proof.Machine.execSAnd c s
  | .sOr c => Sys2Proof.Machine.execSOr c s
  | .sXor c => Sys2Proof.Machine.execSXor c s
  | .sSll c => Sys2Proof.Machine.execSSll c s
  | .sSrl c => Sys2Proof.Machine.execSSrl c s
  | .sSra c => Sys2Proof.Machine.execSSra c s
  | .sMul c => Sys2Proof.Machine.execSMul c s
  | .sMulhu c => Sys2Proof.Machine.execSMulhu c s
  | .sMin c => Sys2Proof.Machine.execSMin c s
  | .sMax c => Sys2Proof.Machine.execSMax c s
  | .sMinu c => Sys2Proof.Machine.execSMinu c s
  | .sMaxu c => Sys2Proof.Machine.execSMaxu c s
  | .sAddi c => Sys2Proof.Machine.execSAddi c s
  | .sAndi c => Sys2Proof.Machine.execSAndi c s
  | .sOri c => Sys2Proof.Machine.execSOri c s
  | .sXori c => Sys2Proof.Machine.execSXori c s
  | .sSlli c => Sys2Proof.Machine.execSSlli c s
  | .sSrli c => Sys2Proof.Machine.execSSrli c s
  | .sSrai c => Sys2Proof.Machine.execSSrai c s
  | .sLui c => Sys2Proof.Machine.execSLui c s
  | .sCmpEq c => Sys2Proof.Machine.execSCmpEq c s
  | .sCmpNe c => Sys2Proof.Machine.execSCmpNe c s
  | .sCmpLt c => Sys2Proof.Machine.execSCmpLt c s
  | .sCmpLtu c => Sys2Proof.Machine.execSCmpLtu c s
  | .sCmpiEq c => Sys2Proof.Machine.execSCmpiEq c s
  | .sCmpiLt c => Sys2Proof.Machine.execSCmpiLt c s
  | .sPand c => Sys2Proof.Machine.execSPand c s
  | .sPor c => Sys2Proof.Machine.execSPor c s
  | .sPxor c => Sys2Proof.Machine.execSPxor c s
  | .sPnot c => Sys2Proof.Machine.execSPnot c s
  | .sBr c => Sys2Proof.Machine.execSBr c s
  | .sJr c => Sys2Proof.Machine.execSJr c s
  | .sCall c => Sys2Proof.Machine.execSCall c s
  | .sLoop c => Sys2Proof.Machine.execSLoop c s
  | .sEnd c => Sys2Proof.Machine.execSEnd c s
  | .sTrap c => Sys2Proof.Machine.execSTrap c s
  | .sTret c => Sys2Proof.Machine.execSTret c s
  | .sMfcr c => Sys2Proof.Machine.execSMfcr c s
  | .sMtcr c => Sys2Proof.Machine.execSMtcr c s
  | .vNop c => Sys2Proof.Machine.execVNop c s
  | .vAdd c => Sys2Proof.Machine.execVAdd c s
  | .vSub c => Sys2Proof.Machine.execVSub c s
  | .vMul c => Sys2Proof.Machine.execVMul c s
  | .vFma c => Sys2Proof.Machine.execVFma c s
  | .vMin c => Sys2Proof.Machine.execVMin c s
  | .vMax c => Sys2Proof.Machine.execVMax c s
  | .vAbs c => Sys2Proof.Machine.execVAbs c s
  | .vNeg c => Sys2Proof.Machine.execVNeg c s
  | .vAnd c => Sys2Proof.Machine.execVAnd c s
  | .vOr c => Sys2Proof.Machine.execVOr c s
  | .vXor c => Sys2Proof.Machine.execVXor c s
  | .vShl c => Sys2Proof.Machine.execVShl c s
  | .vShr c => Sys2Proof.Machine.execVShr c s
  | .vSra c => Sys2Proof.Machine.execVSra c s
  | .vCmpEq c => Sys2Proof.Machine.execVCmpEq c s
  | .vCmpLt c => Sys2Proof.Machine.execVCmpLt c s
  | .vCmpLe c => Sys2Proof.Machine.execVCmpLe c s
  | .vExp c => Sys2Proof.Machine.execVExp c s
  | .vLog c => Sys2Proof.Machine.execVLog c s
  | .vRcp c => Sys2Proof.Machine.execVRcp c s
  | .vRsqrt c => Sys2Proof.Machine.execVRsqrt c s
  | .vTanh c => Sys2Proof.Machine.execVTanh c s
  | .vSigm c => Sys2Proof.Machine.execVSigm c s
  | .vCvt c => Sys2Proof.Machine.execVCvt c s
  | .vUnpk c => Sys2Proof.Machine.execVUnpk c s
  | .vBcast c => Sys2Proof.Machine.execVBcast c s
  | .vExt c => Sys2Proof.Machine.execVExt c s
  | .vShuf c => Sys2Proof.Machine.execVShuf c s
  | .vRsum c => Sys2Proof.Machine.execVRsum c s
  | .vRmax c => Sys2Proof.Machine.execVRmax c s
  | .vRand c => Sys2Proof.Machine.execVRand c s
  | .vMov c => Sys2Proof.Machine.execVMov c s
  | .vIota c => Sys2Proof.Machine.execVIota c s
  | .mNop c => Sys2Proof.Machine.execMNop c s
  | .mLdw c => Sys2Proof.Machine.execMLdw c s
  | .mMmul c => Sys2Proof.Machine.execMMmul c s
  | .mRd c => Sys2Proof.Machine.execMRd c s
  | .mWr c => Sys2Proof.Machine.execMWr c s
  | .mCvt c => Sys2Proof.Machine.execMCvt c s
  | .mZero c => Sys2Proof.Machine.execMZero c s
  | .tNop c => Sys2Proof.Machine.execTNop c s
  | .tSet c => Sys2Proof.Machine.execTSet c s
  | .tLds c => Sys2Proof.Machine.execTLds c s
  | .tSts c => Sys2Proof.Machine.execTSts c s
  | .tLdv c => Sys2Proof.Machine.execTLdv c s
  | .tStv c => Sys2Proof.Machine.execTStv c s
  | .tRd c => Sys2Proof.Machine.execTRd c s
  | .tWr c => Sys2Proof.Machine.execTWr c s
  | .tSend c => Sys2Proof.Machine.execTSend c s
  | .tRlu c => Sys2Proof.Machine.execTRlu c s
  | .tSendr c => Sys2Proof.Machine.execTSendr c s
  | .tAdd c => Sys2Proof.Machine.execTAdd c s
  | .tWait c => Sys2Proof.Machine.execTWait c s
  | .tFill c => Sys2Proof.Machine.execTFill c s
  | .tCopy c => Sys2Proof.Machine.execTCopy c s
  | .tMov c => Sys2Proof.Machine.execTMov c s
  | .tSgat c => Sys2Proof.Machine.execTSgat c s
  | .tSscat c => Sys2Proof.Machine.execTSscat c s
  | .tWopen c => Sys2Proof.Machine.execTWopen c s
  | .tWclose c => Sys2Proof.Machine.execTWclose c s
  | .tFence c => Sys2Proof.Machine.execTFence c s
  | .tSendred c => Sys2Proof.Machine.execTSendred c s
  | .registerWriteback c => Sys2Proof.Machine.execRegisterWriteback c s
  | .sequentialIssueOverrun c => Sys2Proof.Machine.execSequentialIssueOverrun c s
  | .stallResume c => Sys2Proof.Machine.execStallResume c s
  | .coreRun a c => Sys2Proof.Machine.execCoreRun a c s
  | .coreHalt a c => Sys2Proof.Machine.execCoreHalt a c s
  | .controlWrite a addr value bytes => Sys2Proof.Machine.execControlWrite a addr value bytes s
  | .wheelTurnAccess pos agent => Sys2Proof.Machine.execWheelTurnAccess pos agent s
  | .feederFetch c weights => Sys2Proof.Machine.execFeederFetch c weights s
  | .poisonMarking pos => Sys2Proof.Machine.execPoisonMarking pos s
  | .mseFill pos => Sys2Proof.Machine.execMseFill pos s
  | .mseCopy pos => Sys2Proof.Machine.execMseCopy pos s
  | .scrubPass pos => Sys2Proof.Machine.execScrubPass pos s
  | .windowOpenEffect pos => Sys2Proof.Machine.execWindowOpenEffect pos s
  | .windowCloseEffect pos => Sys2Proof.Machine.execWindowCloseEffect pos s
  | .controlWindowOpen a pos n hi => Sys2Proof.Machine.execControlWindowOpen a pos n hi s
  | .controlWindowClose a pos n hi => Sys2Proof.Machine.execControlWindowClose a pos n hi s
  | .spadClearStart a pos => Sys2Proof.Machine.execSpadClearStart a pos s
  | .spadClearDone pos => Sys2Proof.Machine.execSpadClearDone pos s
  | .reachEntryWrite a pos d value => Sys2Proof.Machine.execReachEntryWrite a pos d value s
  | .captureRearm a addr => Sys2Proof.Machine.execCaptureRearm a addr s
  | .directLoadReturn c => Sys2Proof.Machine.execDirectLoadReturn c s
  | .syncAddApply obj count => Sys2Proof.Machine.execSyncAddApply obj count s
  | .syncSetApply inputs => Sys2Proof.Machine.execSyncSetApply inputs s
  | .syncNack n => Sys2Proof.Machine.execSyncNack n s
  | .syncAddResend n => Sys2Proof.Machine.execSyncAddResend n s
  | .waitRelease c => Sys2Proof.Machine.execWaitRelease c s
  | .syncCheckpointWrite pos => Sys2Proof.Machine.execSyncCheckpointWrite pos s
  | .syncCmdAdd a obj value => Sys2Proof.Machine.execSyncCmdAdd a obj value s
  | .syncCmdSet a obj value => Sys2Proof.Machine.execSyncCmdSet a obj value s
  | .syncCmdClearFlags a obj value => Sys2Proof.Machine.execSyncCmdClearFlags a obj value s
  | .seqWatchArm a w value => Sys2Proof.Machine.execSeqWatchArm a w value s
  | .seqWatchDisarm a w value => Sys2Proof.Machine.execSeqWatchDisarm a w value s
  | .activate a slot => Sys2Proof.Machine.execActivate a slot s
  | .hold a slot => Sys2Proof.Machine.execHold a slot s
  | .resume a slot => Sys2Proof.Machine.execResume a slot s
  | .release a slot => Sys2Proof.Machine.execRelease a slot s
  | .releaseComplete slot => Sys2Proof.Machine.execReleaseComplete slot s
  | .setlen a slot value => Sys2Proof.Machine.execSetlen a slot value s
  | .mark a slot => Sys2Proof.Machine.execMark a slot s
  | .rewind a slot => Sys2Proof.Machine.execRewind a slot s
  | .seqOpDecide n => Sys2Proof.Machine.execSeqOpDecide n s
  | .seqOpWaitDecide slot => Sys2Proof.Machine.execSeqOpWaitDecide slot s
  | .gatherComplete n => Sys2Proof.Machine.execGatherComplete n s
  | .scatterComplete n => Sys2Proof.Machine.execScatterComplete n s
  | .packetRoute n e => Sys2Proof.Machine.execPacketRoute n e s
  | .packetDelivery n => Sys2Proof.Machine.execPacketDelivery n s
  | .sourceAnswer n => Sys2Proof.Machine.execSourceAnswer n s
  | .heldPacketResend pos tag => Sys2Proof.Machine.execHeldPacketResend pos tag s
  | .holdLimitExpiry pos tag => Sys2Proof.Machine.execHoldLimitExpiry pos tag s
  | .ackTimeout pos tag => Sys2Proof.Machine.execAckTimeout pos tag s
  | .stallReport n => Sys2Proof.Machine.execStallReport n s
  | .creditReturn link cls => Sys2Proof.Machine.execCreditReturn link cls s
  | .redAbsorb n => Sys2Proof.Machine.execRedAbsorb n s
  | .cnetMessage n e node => Sys2Proof.Machine.execCnetMessage n e node s
  | .hbmRequest n => Sys2Proof.Machine.execHbmRequest n s
  | .hbmWriteAck k n => Sys2Proof.Machine.execHbmWriteAck k n s
  | .hbmReadData k n => Sys2Proof.Machine.execHbmReadData k n s
  | .hbmScrubPass k => Sys2Proof.Machine.execHbmScrubPass k s
  | .hbmTempPoll k temp => Sys2Proof.Machine.execHbmTempPoll k temp s
  | .hbmStackFail k => Sys2Proof.Machine.execHbmStackFail k s
  | .hbmClearStart a k value => Sys2Proof.Machine.execHbmClearStart a k value s
  | .hbmClearDone k => Sys2Proof.Machine.execHbmClearDone k s
  | .hbmGrantWrite a k p value => Sys2Proof.Machine.execHbmGrantWrite a k p value s
  | .moverStart pos engine => Sys2Proof.Machine.execMoverStart pos engine s
  | .moverPacketIssue pos engine => Sys2Proof.Machine.execMoverPacketIssue pos engine s
  | .moverComplete pos engine => Sys2Proof.Machine.execMoverComplete pos engine s
  | .mgmtqGo a pos => Sys2Proof.Machine.execMgmtqGo a pos s
  | .moverQueueEntryGrant pos => Sys2Proof.Machine.execMoverQueueEntryGrant pos s
  | .portSignalDetect p => Sys2Proof.Machine.execPortSignalDetect p s
  | .trainingComplete p lanesOk => Sys2Proof.Machine.execTrainingComplete p lanesOk s
  | .helloSend p => Sys2Proof.Machine.execHelloSend p s
  | .hello p u => Sys2Proof.Machine.execHello p u s
  | .helloTimeout p => Sys2Proof.Machine.execHelloTimeout p s
  | .downRetrainTimer p => Sys2Proof.Machine.execDownRetrainTimer p s
  | .codewordReceive p header correctable symbols units => Sys2Proof.Machine.execCodewordReceive p header correctable symbols units s
  | .replay p u => Sys2Proof.Machine.execReplay p u s
  | .replayTimeout p => Sys2Proof.Machine.execReplayTimeout p s
  | .resync p u => Sys2Proof.Machine.execResync p u s
  | .retrainTimeout p => Sys2Proof.Machine.execRetrainTimeout p s
  | .credit p u => Sys2Proof.Machine.execCredit p u s
  | .creditSend p => Sys2Proof.Machine.execCreditSend p s
  | .fabricOrigin n => Sys2Proof.Machine.execFabricOrigin n s
  | .fabricOriginAnswer n => Sys2Proof.Machine.execFabricOriginAnswer n s
  | .mack n => Sys2Proof.Machine.execMack n s
  | .fabricArrival n => Sys2Proof.Machine.execFabricArrival n s
  | .fabricArrivalAnswer n => Sys2Proof.Machine.execFabricArrivalAnswer n s
  | .fabricArrivalResend die tag => Sys2Proof.Machine.execFabricArrivalResend die tag s
  | .fabricArrivalHoldLimit die tag => Sys2Proof.Machine.execFabricArrivalHoldLimit die tag s
  | .fabricTransit n => Sys2Proof.Machine.execFabricTransit n s
  | .mwrite n => Sys2Proof.Machine.execMwrite n s
  | .mergeAnswer n => Sys2Proof.Machine.execMergeAnswer n s
  | .mergeTimeout die n => Sys2Proof.Machine.execMergeTimeout die n s
  | .collectiveEgress n => Sys2Proof.Machine.execCollectiveEgress n s
  | .collectiveIngress n => Sys2Proof.Machine.execCollectiveIngress n s
  | .ethFrameReceive p addresses type payload fcs => Sys2Proof.Machine.execEthFrameReceive p addresses type payload fcs s
  | .ethFrameTransmit p => Sys2Proof.Machine.execEthFrameTransmit p s
  | .ethRingTailWrite a p value => Sys2Proof.Machine.execEthRingTailWrite a p value s
  | .portEnable a p => Sys2Proof.Machine.execPortEnable a p s
  | .portDisable a p => Sys2Proof.Machine.execPortDisable a p s
  | .portModeSelect a p ethernet => Sys2Proof.Machine.execPortModeSelect a p ethernet s
  | .portFence a p fence => Sys2Proof.Machine.execPortFence a p fence s
  | .create a p => Sys2Proof.Machine.execCreate a p s
  | .load a p => Sys2Proof.Machine.execLoad a p s
  | .start a p => Sys2Proof.Machine.execStart a p s
  | .reset a p => Sys2Proof.Machine.execReset a p s
  | .teardown a p => Sys2Proof.Machine.execTeardown a p s
  | .update a p => Sys2Proof.Machine.execUpdate a p s
  | .groveAnnounceAck g => Sys2Proof.Machine.execGroveAnnounceAck g s
  | .scheduledRun p => Sys2Proof.Machine.execScheduledRun p s
  | .coverageRecompute p => Sys2Proof.Machine.execCoverageRecompute p s
  | .faultRecordArrival n => Sys2Proof.Machine.execFaultRecordArrival n s
  | .domainActionJob => Sys2Proof.Machine.execDomainActionJob s
  | .tileRecovery => Sys2Proof.Machine.execTileRecovery s
  | .domainActionGrove => Sys2Proof.Machine.execDomainActionGrove s
  | .domainActionPartition => Sys2Proof.Machine.execDomainActionPartition s
  | .domainActionDevice => Sys2Proof.Machine.execDomainActionDevice s
  | .policyRewind => Sys2Proof.Machine.execPolicyRewind s
  | .fltRewind a p => Sys2Proof.Machine.execFltRewind a p s
  | .declare a pos => Sys2Proof.Machine.execDeclare a pos s
  | .fltAckWrite a value => Sys2Proof.Machine.execFltAckWrite a value s
  | .force a source => Sys2Proof.Machine.execForce a source s
  | .heartbeatPoll unanswered => Sys2Proof.Machine.execHeartbeatPoll unanswered s
  | .heartbeatIncrement pos => Sys2Proof.Machine.execHeartbeatIncrement pos s
  | .waitLimit c => Sys2Proof.Machine.execWaitLimit c s
  | .healthUpdate => Sys2Proof.Machine.execHealthUpdate s
  | .ackDeadlineExpiry => Sys2Proof.Machine.execAckDeadlineExpiry s
  | .watchdogExpiry => Sys2Proof.Machine.execWatchdogExpiry s
  | .managementRestart => Sys2Proof.Machine.execManagementRestart s
  | .panelResetRelease refPresent => Sys2Proof.Machine.execPanelResetRelease refPresent s
  | .waveStart w => Sys2Proof.Machine.execWaveStart w s
  | .logicBistDone die signatureOk patterns tenthsMs => Sys2Proof.Machine.execLogicBistDone die signatureOk patterns tenthsMs s
  | .memoryBistDone pos result bank ms => Sys2Proof.Machine.execMemoryBistDone pos result bank ms s
  | .stackTestDone k result tenMs => Sys2Proof.Machine.execStackTestDone k result tenMs s
  | .laneMarginDone lane pass tenMs => Sys2Proof.Machine.execLaneMarginDone lane pass tenMs s
  | .bcast pos uni wave block e => Sys2Proof.Machine.execBcast pos uni wave block e s
  | .firmwareEnd pos blocks digest => Sys2Proof.Machine.execFirmwareEnd pos blocks digest s
  | .groveReady g => Sys2Proof.Machine.execGroveReady g s
  | .tapExtConnect a ext => Sys2Proof.Machine.execTapExtConnect a ext s
  | .clkOppCmd a target => Sys2Proof.Machine.execClkOppCmd a target s
  | .oppSwitch => Sys2Proof.Machine.execOppSwitch s
  | .oppAckMissing => Sys2Proof.Machine.execOppAckMissing s
  | .crossingAlignment g dir point code => Sys2Proof.Machine.execCrossingAlignment g dir point code s
  | .droopStretch g => Sys2Proof.Machine.execDroopStretch g s
  | .pllLossOfLock g => Sys2Proof.Machine.execPllLossOfLock g s
  | .referenceLoss => Sys2Proof.Machine.execReferenceLoss s
  | .backupInPlace => Sys2Proof.Machine.execBackupInPlace s
  | .holdoverExpiry => Sys2Proof.Machine.execHoldoverExpiry s
  | .referenceReturn => Sys2Proof.Machine.execReferenceReturn s
  | .groveClockStart g => Sys2Proof.Machine.execGroveClockStart g s
  | .arbiterUpdate currents => Sys2Proof.Machine.execArbiterUpdate currents s
  | .stageTokenReturn g => Sys2Proof.Machine.execStageTokenReturn g s
  | .droopTrimRaise g => Sys2Proof.Machine.execDroopTrimRaise g s
  | .droopTrimDecay g => Sys2Proof.Machine.execDroopTrimDecay g s
  | .phaseFail g phase => Sys2Proof.Machine.execPhaseFail g phase s
  | .groveShort g => Sys2Proof.Machine.execGroveShort g s
  | .resistanceTrend g phase r => Sys2Proof.Machine.execResistanceTrend g phase r s
  | .feConverterFail converter => Sys2Proof.Machine.execFeConverterFail converter s
  | .governorUpdate r demand soc => Sys2Proof.Machine.execGovernorUpdate r demand soc s
  | .ballastStep => Sys2Proof.Machine.execBallastStep s
  | .inputVoltageFault mv => Sys2Proof.Machine.execInputVoltageFault mv s
  | .inputLoss => Sys2Proof.Machine.execInputLoss s
  | .inputReturn refPresent => Sys2Proof.Machine.execInputReturn refPresent s
  | .sensorRead sensor reading => Sys2Proof.Machine.execSensorRead sensor reading s
  | .sensorFail pos diode => Sys2Proof.Machine.execSensorFail pos diode s
  | .thermalModelUpdate preds => Sys2Proof.Machine.execThermalModelUpdate preds s
  | .rthUpdate powers => Sys2Proof.Machine.execRthUpdate powers s
  | .compatCapUpdate => Sys2Proof.Machine.execCompatCapUpdate s
  | .flowStop => Sys2Proof.Machine.execFlowStop s
  | .flowRestored => Sys2Proof.Machine.execFlowRestored s
  | .sessionOpen adminChain readChain => Sys2Proof.Machine.execSessionOpen adminChain readChain s
  | .cread session addr => Sys2Proof.Machine.execCread session addr s
  | .cwrite session addr value => Sys2Proof.Machine.execCwrite session addr value s
  | .logRead session lseq => Sys2Proof.Machine.execLogRead session lseq s
  | .attest session nonce => Sys2Proof.Machine.execAttest session nonce s
  | .certRead session => Sys2Proof.Machine.execCertRead session s
  | .updBegin session kind => Sys2Proof.Machine.execUpdBegin session kind s
  | .updData session kind offset chunk => Sys2Proof.Machine.execUpdData session kind offset chunk s
  | .updEnd session kind => Sys2Proof.Machine.execUpdEnd session kind s
  | .updActivate session kinds => Sys2Proof.Machine.execUpdActivate session kinds s
  | .updConfirm session kind raiseSvn => Sys2Proof.Machine.execUpdConfirm session kind raiseSvn s
  | .fenceClear session record => Sys2Proof.Machine.execFenceClear session record s
  | .laneUnmask session lane => Sys2Proof.Machine.execLaneUnmask session lane s
  | .revoke session key => Sys2Proof.Machine.execRevoke session key s
  | .debugAuth session => Sys2Proof.Machine.execDebugAuth session s
  | .mgmtOpPanelReset session => Sys2Proof.Machine.execMgmtOpPanelReset session s
  | .mgmtOpHostReset session => Sys2Proof.Machine.execMgmtOpHostReset session s
  | .mgmtOpManagementRestart session => Sys2Proof.Machine.execMgmtOpManagementRestart session s
  | .mportFailover => Sys2Proof.Machine.execMportFailover s
  | .mportSwap a active => Sys2Proof.Machine.execMportSwap a active s
  | .stdWrite a word value => Sys2Proof.Machine.execStdWrite a word value s
  | .healthHistoryWrite => Sys2Proof.Machine.execHealthHistoryWrite s
  | .logFlush => Sys2Proof.Machine.execLogFlush s
  | .hostWindowWrite hcore ha bytes value => Sys2Proof.Machine.execHostWindowWrite hcore ha bytes value s
  | .hostWindowRead hcore ha bytes => Sys2Proof.Machine.execHostWindowRead hcore ha bytes s
  | .wcFlush buffer => Sys2Proof.Machine.execWcFlush buffer s
  | .hostBridgeAnswer n => Sys2Proof.Machine.execHostBridgeAnswer n s
  | .hostBridgeTimeout tag => Sys2Proof.Machine.execHostBridgeTimeout tag s
  | .hostCtrlReset a => Sys2Proof.Machine.execHostCtrlReset a s
  | .wdogKick a => Sys2Proof.Machine.execWdogKick a s
  | .hostWatchdogExpiry => Sys2Proof.Machine.execHostWatchdogExpiry s
  | .panelRstNAssert => Sys2Proof.Machine.execPanelRstNAssert s
  | .smbStatusRead => Sys2Proof.Machine.execSmbStatusRead s
  | .smbVinRead => Sys2Proof.Machine.execSmbVinRead s
  | .smbPinRead => Sys2Proof.Machine.execSmbPinRead s
  | .smbEffCapRead => Sys2Proof.Machine.execSmbEffCapRead s
  | .smbTInRead => Sys2Proof.Machine.execSmbTInRead s
  | .smbTOutRead => Sys2Proof.Machine.execSmbTOutRead s
  | .smbFlowRead => Sys2Proof.Machine.execSmbFlowRead s
  | .smbHsMaxRead => Sys2Proof.Machine.execSmbHsMaxRead s
  | .smbFruRead offset => Sys2Proof.Machine.execSmbFruRead offset s
  | .smbUnsupported command => Sys2Proof.Machine.execSmbUnsupported command s
  | .telemetryPublish => Sys2Proof.Machine.execTelemetryPublish s
  | .cageOverpower port => Sys2Proof.Machine.execCageOverpower port s
  | .retrainComplete p => Sys2Proof.Machine.execRetrainComplete p s
  | .inputVoltageRestored mv => Sys2Proof.Machine.execInputVoltageRestored mv s
  | .vddCoreLevelReport g mv => Sys2Proof.Machine.execVddCoreLevelReport g mv s
  | .hostComplexReady => Sys2Proof.Machine.execHostComplexReady s
  | .mgmtPortLinkChange port up => Sys2Proof.Machine.execMgmtPortLinkChange port up s
  | .sessionClose session => Sys2Proof.Machine.execSessionClose session s
  | .lRimDieFault die => Sys2Proof.Machine.execLRimDieFault die s
  | .rimRingSegmentFault die => Sys2Proof.Machine.execRimRingSegmentFault die s
  | .keepAliveDomainFault g => Sys2Proof.Machine.execKeepAliveDomainFault g s
  | .hostCoreUncorrectableRead hcore => Sys2Proof.Machine.execHostCoreUncorrectableRead hcore s
  | .externalTapAccess segment opens => Sys2Proof.Machine.execExternalTapAccess segment opens s

end Sys2Proof.Machine
end

