-- ==== Sys2Proof/Safety.lean ====
section
/-! DEFINITION. What counts as a safe step: one that ends in a next state. -/

namespace Sys2Proof.Machine

/-- A step that neither faults nor is refused. -/
def safeStep (s : State) : Prop := ∃ t, step s = .next t

/-- A command that completes in a state. -/
def completes (c : Instr) (s : State) : Prop := ∃ t, exec c s = .next t

/-- A command completes in a state, and the next state is as said. -/
def yields (c : Instr) (s : State) (P : State → Prop) : Prop := ∃ t, exec c s = .next t ∧ P t

end Sys2Proof.Machine
end

