-- ==== Sys2Proof/Certificates/Slice0/Obligations.lean ====
section
/-! DEFINITION. The statements for the provers, each from numbered rules of the specification, over the commands of
the panel, and the terms they are written in. -/

namespace Sys2Proof.Machine

/-! ## Terms: the issue of a slot -/

/-- A core's slot `k` issues now with opcode `opc`: the named core exists, and its bundle meets neither a trap nor a
stall nor another slot's turn. -/
def State.issues (s : State) (id : CoreId) (k opc : Nat) : Prop :=
  id.wf = true ∧ s.meet id.pos id.core k opc = .run

/-- The field of slot `k` in the bundle a core is at. -/
def State.slotWord (s : State) (id : CoreId) (k : Nat) : Nat :=
  (s.bundle id.pos id.core (s.core id.key).pc.toNat).slot k

/-- Whether slot `k` of the bundle a core is at takes effect under its predicate. -/
def State.slotActive (s : State) (id : CoreId) (k : Nat) : Bool := (s.core id.key).slotOn (s.slotWord id k)

/-- The core and the slot of a slot command, with its opcode. -/
def slotOf : Instr → Option (CoreId × Nat × Nat)
  | .sNop c => some (c, 0, 0x00)
  | .sAdd c => some (c, 0, 0x01)
  | .sSub c => some (c, 0, 0x02)
  | .sAnd c => some (c, 0, 0x03)
  | .sOr c => some (c, 0, 0x04)
  | .sXor c => some (c, 0, 0x05)
  | .sSll c => some (c, 0, 0x06)
  | .sSrl c => some (c, 0, 0x07)
  | .sSra c => some (c, 0, 0x08)
  | .sMul c => some (c, 0, 0x09)
  | .sMulhu c => some (c, 0, 0x0a)
  | .sMin c => some (c, 0, 0x0b)
  | .sMax c => some (c, 0, 0x0c)
  | .sMinu c => some (c, 0, 0x0d)
  | .sMaxu c => some (c, 0, 0x0e)
  | .sAddi c => some (c, 0, 0x10)
  | .sAndi c => some (c, 0, 0x11)
  | .sOri c => some (c, 0, 0x12)
  | .sXori c => some (c, 0, 0x13)
  | .sSlli c => some (c, 0, 0x14)
  | .sSrli c => some (c, 0, 0x15)
  | .sSrai c => some (c, 0, 0x16)
  | .sLui c => some (c, 0, 0x17)
  | .sCmpEq c => some (c, 0, 0x20)
  | .sCmpNe c => some (c, 0, 0x21)
  | .sCmpLt c => some (c, 0, 0x22)
  | .sCmpLtu c => some (c, 0, 0x23)
  | .sCmpiEq c => some (c, 0, 0x24)
  | .sCmpiLt c => some (c, 0, 0x25)
  | .sPand c => some (c, 0, 0x28)
  | .sPor c => some (c, 0, 0x29)
  | .sPxor c => some (c, 0, 0x2a)
  | .sPnot c => some (c, 0, 0x2b)
  | .sBr c => some (c, 0, 0x30)
  | .sJr c => some (c, 0, 0x31)
  | .sCall c => some (c, 0, 0x32)
  | .sLoop c => some (c, 0, 0x33)
  | .sEnd c => some (c, 0, 0x34)
  | .sTrap c => some (c, 0, 0x35)
  | .sTret c => some (c, 0, 0x36)
  | .sMfcr c => some (c, 0, 0x38)
  | .sMtcr c => some (c, 0, 0x39)
  | .vNop c => some (c, 1, 0x00)
  | .vAdd c => some (c, 1, 0x01)
  | .vSub c => some (c, 1, 0x02)
  | .vMul c => some (c, 1, 0x03)
  | .vFma c => some (c, 1, 0x04)
  | .vMin c => some (c, 1, 0x05)
  | .vMax c => some (c, 1, 0x06)
  | .vAbs c => some (c, 1, 0x07)
  | .vNeg c => some (c, 1, 0x08)
  | .vAnd c => some (c, 1, 0x10)
  | .vOr c => some (c, 1, 0x11)
  | .vXor c => some (c, 1, 0x12)
  | .vShl c => some (c, 1, 0x13)
  | .vShr c => some (c, 1, 0x14)
  | .vSra c => some (c, 1, 0x15)
  | .vCmpEq c => some (c, 1, 0x18)
  | .vCmpLt c => some (c, 1, 0x19)
  | .vCmpLe c => some (c, 1, 0x1a)
  | .vExp c => some (c, 1, 0x20)
  | .vLog c => some (c, 1, 0x21)
  | .vRcp c => some (c, 1, 0x22)
  | .vRsqrt c => some (c, 1, 0x23)
  | .vTanh c => some (c, 1, 0x24)
  | .vSigm c => some (c, 1, 0x25)
  | .vCvt c => some (c, 1, 0x28)
  | .vUnpk c => some (c, 1, 0x29)
  | .vBcast c => some (c, 1, 0x30)
  | .vExt c => some (c, 1, 0x31)
  | .vShuf c => some (c, 1, 0x32)
  | .vRsum c => some (c, 1, 0x33)
  | .vRmax c => some (c, 1, 0x34)
  | .vRand c => some (c, 1, 0x35)
  | .vMov c => some (c, 1, 0x36)
  | .vIota c => some (c, 1, 0x37)
  | .mNop c => some (c, 2, 0x00)
  | .mLdw c => some (c, 2, 0x01)
  | .mMmul c => some (c, 2, 0x02)
  | .mRd c => some (c, 2, 0x03)
  | .mWr c => some (c, 2, 0x04)
  | .mCvt c => some (c, 2, 0x05)
  | .mZero c => some (c, 2, 0x06)
  | .tNop c => some (c, 3, 0x00)
  | .tSet c => some (c, 3, 0x01)
  | .tLds c => some (c, 3, 0x02)
  | .tSts c => some (c, 3, 0x03)
  | .tLdv c => some (c, 3, 0x04)
  | .tStv c => some (c, 3, 0x05)
  | .tRd c => some (c, 3, 0x06)
  | .tWr c => some (c, 3, 0x07)
  | .tSend c => some (c, 3, 0x08)
  | .tRlu c => some (c, 3, 0x09)
  | .tSendr c => some (c, 3, 0x0a)
  | .tAdd c => some (c, 3, 0x0b)
  | .tWait c => some (c, 3, 0x0c)
  | .tFill c => some (c, 3, 0x0d)
  | .tCopy c => some (c, 3, 0x0e)
  | .tMov c => some (c, 3, 0x0f)
  | .tSgat c => some (c, 3, 0x10)
  | .tSscat c => some (c, 3, 0x11)
  | .tWopen c => some (c, 3, 0x12)
  | .tWclose c => some (c, 3, 0x13)
  | .tFence c => some (c, 3, 0x14)
  | .tSendred c => some (c, 3, 0x15)
  | _ => none

/-- The results on their way once a scalar register has been sent a value, due `lat` cycles after issue; none for s0 or
for a slot that is off. -/
def Core.withScalar (c : Core) (on : Bool) (rd lat : Nat) (v : W64) (poison : BitVec 2) : List Pend :=
  if on = true ∧ rd ≠ 0 then
    c.pend ++ [⟨c.nextIssue + lat, .sreg rd, BitVec.allOnes 64, v.setWidth 2048, poison.setWidth 64⟩]
  else c.pend

/-- The same for a predicate register; p0 takes nothing. -/
def Core.withPred (c : Core) (on : Bool) (pd lat : Nat) (v : Lanes) : List Pend :=
  if on = true ∧ pd ≠ 0 then c.pend ++ [⟨c.nextIssue + lat, .preg pd, BitVec.allOnes 64, v.setWidth 2048, 0⟩] else c.pend

/-- The same for the lanes of a vector register. -/
def Core.withVector (c : Core) (vd lat : Nat) (on : Lanes) (v : Vec) (poison : Lanes) : List Pend :=
  if on = 0 then c.pend else c.pend ++ [⟨c.nextIssue + lat, .vreg vd, on, v, poison⟩]

/-- An S-slot instruction that issues completes and sends `val` of its field, ra and rb to rd, with the latency given. -/
def ScalarResult (i : CoreId → Instr) (opc lat : Nat) (val : Nat → W64 → W64 → W64) : Prop :=
  ∀ (id : CoreId) (s : State), s.issues id 0 opc → yields (i id) s (fun t =>
    (t.core id.key).pend = (s.core id.key).withScalar (s.slotActive id 0) (sRd (s.slotWord id 0)) lat
      (val (s.slotWord id 0) ((s.core id.key).sreg (sRa (s.slotWord id 0))).val
        ((s.core id.key).sreg (sRb (s.slotWord id 0))).val) 0)

/-- An S-slot compare that issues completes and sends all ones or all zeros to pd one cycle later. -/
def CompareResult (i : CoreId → Instr) (opc : Nat) (test : Nat → W64 → W64 → Bool) : Prop :=
  ∀ (id : CoreId) (s : State), s.issues id 0 opc → yields (i id) s (fun t =>
    (t.core id.key).pend = (s.core id.key).withPred (s.slotActive id 0) (bitsOf (s.slotWord id 0) 12 3) 1
      (if test (s.slotWord id 0) ((s.core id.key).sreg (sRa (s.slotWord id 0))).val
        ((s.core id.key).sreg (sRb (s.slotWord id 0))).val then BitVec.allOnes 64 else 0))

/-- An S-slot predicate operation that issues completes and sends its lanes to pd one cycle later. -/
def PredResult (i : CoreId → Instr) (opc : Nat) (val : Lanes → Lanes → Lanes) : Prop :=
  ∀ (id : CoreId) (s : State), s.issues id 0 opc → yields (i id) s (fun t =>
    (t.core id.key).pend = (s.core id.key).withPred (s.slotActive id 0) (bitsOf (s.slotWord id 0) 12 3) 1
      (val ((s.core id.key).preg (bitsOf (s.slotWord id 0) 17 3)) ((s.core id.key).preg (bitsOf (s.slotWord id 0) 22 3))))

/-- A slot command that issues completes, and what it leaves of its core is as said: `P` of the core before, of its
field, and of the core after. -/
def CoreResult (i : CoreId → Instr) (k opc : Nat) (P : Core → Nat → Core → Prop) : Prop :=
  ∀ (id : CoreId) (s : State), s.issues id k opc → yields (i id) s (fun t =>
    P (s.core id.key) (s.slotWord id k) (t.core id.key))

/-- A V-slot instruction that issues completes and sends `val` of the core and its field to the enabled lanes of vd. -/
def VectorResult (i : CoreId → Instr) (opc : Nat) (lat : Nat → Nat) (val : Core → Nat → Vec × Lanes) : Prop :=
  CoreResult i 1 opc (fun c w d =>
    d.pend = c.withVector (vVd w) (lat (vFmt w)) (c.lanesOf (predOf w)) (val c w).1 (val c w).2)

/-- A lane-wise V-slot instruction of one operand. -/
def Lanewise1 (i : CoreId → Instr) (opc lat0 lat1 : Nat) (f : Nat → W32 → W32) : Prop :=
  VectorResult i opc (fun fmt => if fmt = 0 then lat0 else lat1)
    (fun c w => (Vec.ofLanes (fun j => f (vFmt w) ((c.vreg (vVa w)).val.lane j)), 0))

/-- A lane-wise V-slot instruction of two operands. -/
def Lanewise2 (i : CoreId → Instr) (opc lat0 lat1 : Nat) (f : Nat → W32 → W32 → W32) : Prop :=
  VectorResult i opc (fun fmt => if fmt = 0 then lat0 else lat1) (fun c w =>
    (Vec.ofLanes (fun j => f (vFmt w) ((c.vreg (vVa w)).val.lane j) ((c.vreg (vVb w)).val.lane j)), 0))

/-- A V-slot compare: the lanes enabled and true, to a whole predicate register two cycles later; under PRED 0x8 nothing. -/
def VectorCompare (i : CoreId → Instr) (opc : Nat) (fp int : W32 → W32 → Bool) : Prop :=
  CoreResult i 1 opc (fun c w d =>
    d.pend = c.withPred (decide (predOf w ≠ 8)) (bitsOf w 12 3) 2 (Lanes.ofFn (fun j => (c.lanesOf (predOf w)).getLsbD j
      && (if vFmt w = 0 then fp ((c.vreg (vVa w)).val.lane j) ((c.vreg (vVb w)).val.lane j)
          else int ((c.vreg (vVa w)).val.lane j) ((c.vreg (vVb w)).val.lane j)))))

/-- The lanes of an operand, those that are off replaced. -/
def Core.lanesOr (c : Core) (w : Nat) (neutral : W32) : List W32 :=
  (List.range 64).map (fun j => if (c.lanesOf (predOf w)).getLsbD j then (c.vreg (vVa w)).val.lane j else neutral)

/-- The generator of a core, and what it is after `drawn` draws of 64 words (0 or 1). -/
def State.genAfter (s : State) (id : CoreId) (drawn : Bool) : Nat :=
  if drawn then (srNext (s.generator id.pos id.core)).toNat else s.rd (TILE_CORE_SRSEED id.pos id.core)

/-- The registers, streams, results on their way and operations of two cores agree. -/
def Core.keeps (c d : Core) : Prop :=
  d.s = c.s ∧ d.p = c.p ∧ d.v = c.v ∧ d.acc = c.acc ∧ d.wb = c.wb ∧ d.t = c.t ∧ d.posted = c.posted

/-- Between two states only cores, control-space words, fault records, the count of free values used and the time
differ. -/
def State.onlyCores (s t : State) : Prop :=
  t = { s with cores := t.cores, csr := t.csr, faults := t.faults, free := t.free, clk := t.clk }

/-- Between two states only what a T slot may touch differs: cores, control-space words, fault records, tiles' queues
and windows, accesses that wait for turns, the mesh with its tracking entries and credits, sync messages and sequence
operations, the count of free values used and the time. -/
def State.onlyTransfer (s t : State) : Prop :=
  t = { s with
    cores := t.cores, csr := t.csr, faults := t.faults, free := t.free, clk := t.clk, tiles := t.tiles
    access := t.access, net := t.net, track := t.track, creditUsed := t.creditUsed, msgs := t.msgs, ops := t.ops
    nextOp := t.nextOp }

/-- The control-space words that the fetch and the end of a bundle count in: the tile's corrected errors, PERF0, the overflow
flags, the kernel call count. -/
def bundleRegs (id : CoreId) : List Nat :=
  [(TILE_SPAD_CE_CNT id.pos).addr, (TILE_CORE_PERFn id.pos id.core 0).addr, (TILE_CORE_STATUS id.pos id.core).addr
  , (TILE_FLT_KCALLc id.pos id.core).addr]

/-- The state of a core that has trapped: TCAUSE, TPC and TINFO, the loop levels gone, the handler issuing at TRAPVEC, or
the core stopped with STATE 6 where there is none or it is running, and, of a position that is not fused off, its record. -/
def State.trapped (s t : State) (id : CoreId) (pc idle : Nat) (p : Trap) : Prop :=
  t.rd (TILE_CORE_TCAUSE id.pos id.core) = p.cause % 2 ^ 64 ∧ t.rd (TILE_CORE_TPC id.pos id.core) = pc ∧
  t.rd (TILE_CORE_TINFO id.pos id.core) = p.info % 2 ^ 64 ∧
  (t.core id.key).loops = [] ∧ (t.core id.key).stall = .none ∧ (s.core id.key).keeps (t.core id.key) ∧
  (t.core id.key).nextIssue = (s.core id.key).nextIssue + 2 + idle ∧
  (if s.flag (TILE_CORE_TRAPVEC_VALID id.pos id.core) = true ∧ (s.core id.key).handler = false then
      (t.core id.key).state = 4 ∧ (t.core id.key).handler = true ∧
      (t.core id.key).pc = BitVec.ofNat 11 (s.fld (TILE_CORE_TRAPVEC_INDEX id.pos id.core))
    else (t.core id.key).state = 6 ∧ (t.core id.key).handler = false ∧ (t.core id.key).pc = (s.core id.key).pc) ∧
  (s.fusedOff id.pos = false → ∃ k r l, t.faults.flying = s.faults.flying ++ k ++ r :: l ∧ r.detail = p.info ∧ r.tpc = pc ∧ r.core = some id.core ∧
    (r.slot = if s.flag (TILE_CORE_JOB_SLOT_VALID id.pos id.core) then some (s.fld (TILE_CORE_JOB_SLOT id.pos id.core)) else none) ∧
    r.halted = !(s.flag (TILE_CORE_TRAPVEC_VALID id.pos id.core) && !(s.core id.key).handler) ∧
    (s.inKernel id.pos pc = false → r.source = srcPos id.pos id.core ∧ r.cause = p.cause))

/-! ## Terms: fault records -/

/-- A record of a source that is not fused off, of this cause, is on its way. -/
def State.hasRecord (t : State) (source cause : Nat) : Prop :=
  t.sourceAbsent source = false → ∃ r, r ∈ t.faults.flying ∧ r.source = source ∧ r.cause = cause

/-- Exactly one record more is on its way, of this source and cause; none where the source is fused off. -/
def State.oneMore (s t : State) (source cause : Nat) : Prop :=
  ∃ r, t.faults = { s.faults with flying := s.faults.flying ++ (if s.sourceAbsent source = true then [] else [r]) } ∧
    r.source = source ∧ r.cause = cause

/-- Between two states only fault records differ: exactly one record more is on its way, of this source and cause; none
where the source is fused off. -/
def State.oneRecord (s t : State) (source cause : Nat) : Prop := t = { s with faults := t.faults } ∧ s.oneMore t source cause


/-! ## Terms: the scratchpad -/

/-- Every byte of the scratchpads outside `[lo, hi)` of one tile is as it was. -/
def State.spadKept (s t : State) (pos lo hi : Nat) : Prop :=
  ∀ a, (a < spadKey pos lo ∨ spadKey pos hi ≤ a) → Mem.byte t.spad a = Mem.byte s.spad a

/-- Nothing of the scratchpads changes: bytes, poison and check bits. -/
def State.spadSame (s t : State) : Prop :=
  t.spad = s.spad ∧ t.spadPoison = s.spadPoison ∧ t.spadEcc = s.spadEcc ∧ t.spadLine = s.spadLine ∧
  t.spadLineCe = s.spadLineCe

/-- Between two states what lies outside the tiles' cores, memories, registers, queues and networks is as it was. -/
def State.onlyTiles (s t : State) : Prop :=
  t = { s with
    clk := t.clk, cores := t.cores, csr := t.csr, faults := t.faults, free := t.free, tiles := t.tiles, access := t.access
    net := t.net, track := t.track, creditUsed := t.creditUsed, creditBack := t.creditBack, msgs := t.msgs
    spad := t.spad, spadPoison := t.spadPoison, spadEcc := t.spadEcc, spadLine := t.spadLine, spadLineCe := t.spadLineCe
    marks := t.marks, imem := t.imem, imemEcc := t.imemEcc }

/-- Two states differ only in time and in what a write of the control space that R392 refuses leaves: one decode fault
record of the management subsystem. -/
def State.refusedWrite (s t : State) : Prop :=
  ∃ r, t = { s with faults := { s.faults with flying := s.faults.flying ++ [r] } } ∧ r.source = 0x3599 ∧ r.cause = 2

/-- The bytes of a word that TILE_SPAD counters and captures hold: whether a capture's VALID is set. -/
def State.captured (s : State) (r : Reg) : Bool := Nat.testBit (s.rd r) 63

/-- The count of a saturating counter after `n` events. -/
def State.countedBy (s t : State) (r : Reg) (n : Nat) : Prop :=
  t.rd r % 2 ^ 32 = min (s.rd r % 2 ^ 32 + n) 0xFFFFFFFF


/-! ## Terms: sync objects and sequence slots -/

/-- Between two states only objects, slots, their registers, messages, core stalls, queues, records and interrupts
differ. -/
def State.onlySync (s t : State) : Prop :=
  t = { s with
    csr := t.csr, faults := t.faults, free := t.free, cores := t.cores, sync := t.sync, msgs := t.msgs, ops := t.ops
    releasing := t.releasing, tiles := t.tiles, bridge := t.bridge }

/-- A command of the sequence unit turned away: SEQ_ERR_CNT counts it and the slot's ERR is the cause; no other
register of the slot and no slot state changes. -/
def State.slotRejected (s t : State) (slot cause : Nat) : Prop :=
  s.countedBy t SEQ_ERR_CNT 1 ∧ t.fld (SEQ_SLOTs_STATE_ERR slot) = cause % 2 ^ (SEQ_SLOTs_STATE_ERR slot).len ∧
  t.slotState slot = s.slotState slot ∧ t.rd (SEQ_SLOTs_LEN slot) = s.rd (SEQ_SLOTs_LEN slot) ∧
  t.rd (SEQ_SLOTs_KV slot) = s.rd (SEQ_SLOTs_KV slot) ∧ t.releasing = s.releasing ∧ t.sync = s.sync

/-- A slot command by an agent that R392 permits: in one of the states of `from_` it yields `P`, in any other it is
rejected with cause 5. -/
def SlotCommand (i : Agent → Nat → Instr) (from_ : List Nat) (P : State → Nat → State → Prop) : Prop :=
  ∀ (a : Agent) (slot : Nat) (s : State), slot < 256 → s.mute a (SEQ_CMDs slot).addr = false → s.mayWrite a .tile = true →
    (s.slotState slot ∈ from_ → yields (i a slot) s (fun t => P s slot t ∧ s.onlySync t)) ∧
    (s.slotState slot ∉ from_ → yields (i a slot) s (fun t => s.slotRejected t slot 5 ∧ s.onlySync t))


/-! ## Terms: the routed mesh -/

/-- Between two states only the mesh, tracking entries, combine buffers, credits, waiting accesses and what an answer
completes differ, with the time: no byte of scratchpad or HBM, no sync object, nothing of the management subsystem. -/
def State.onlyMesh (s t : State) : Prop :=
  t = { s with
    clk := t.clk, csr := t.csr, faults := t.faults, cores := t.cores, tiles := t.tiles, access := t.access, net := t.net
    track := t.track, combine := t.combine, creditUsed := t.creditUsed, creditBack := t.creditBack
    rimTurn := t.rimTurn, hbmReqs := t.hbmReqs, dies := t.dies, imem := t.imem, imemEcc := t.imemEcc, bridge := t.bridge }

/-- Item `n` of the mesh is a packet with a good header, its words checked, at the head of its input buffer in a working
router. -/
def State.atHead (s : State) (n pos inport : Nat) (p : Pkt) : Prop :=
  ∃ it, s.net[n]? = some it ∧ it.pkt = p ∧ it.place = .router pos inport ∧ it.checked = true ∧ s.headItem n it = true ∧
    s.routerUp pos = true ∧ p.badHeader = none

/-- The posted operations of a core are those of another but one. -/
def Core.without (c d : Core) (id : Nat) : Prop :=
  d.posted.map (fun q => (q.id, q.kind)) = (c.posted.filter (fun q => q.id ≠ id)).map (fun q => (q.id, q.kind))

/-- The items of the mesh once item `n` has left it; the packet behind it waits as head of its buffer from now. -/
def State.left (s : State) (n : Nat) (l : List NetItem) : Prop :=
  l.map (fun x => { x with at_ := 0 }) = (removeAt s.net n).map (fun x => { x with at_ := 0 })

/-- Item `n` has left the mesh and a router has put a packet at its own local input: an answer of `type` with `reason` to
`p`. -/
def State.answersWith (s : State) (n : Nat) (m : List NetItem) (pos : Nat) (p : Pkt) (type reason : Nat) : Prop :=
  ∃ l x, s.left n l ∧ m = l ++ [x] ∧ x.place = .router pos 0 ∧ x.pkt.type = type ∧ x.pkt.reason = reason ∧ x.pkt.tag = p.tag ∧
    x.pkt.src = p.src ∧ x.pkt.part = p.part ∧ x.pkt.epoch = p.epoch ∧ x.pkt.ptr = 0 ∧
    x.pkt.nibs = reverseMoves (p.nibs.take p.ptr) ++ p.back.toList


/-! ## Terms: HBM and movers -/

/-- Every byte of HBM outside `[lo, hi)` of one stack is as it was. -/
def State.hbmKept (s t : State) (k lo hi : Nat) : Prop :=
  ∀ a, (a < hbmKey k lo ∨ hbmKey k hi ≤ a) → Mem.byte t.hbm a = Mem.byte s.hbm a

/-- Between two states only a controller's registers and memory, packets and credits, records and readiness differ. -/
def State.onlyHbm (s t : State) : Prop :=
  t = { s with
    csr := t.csr, faults := t.faults, mgmt := t.mgmt, net := t.net, creditUsed := t.creditUsed, creditBack := t.creditBack
    hbmReqs := t.hbmReqs, hbm := t.hbm, hbmPoison := t.hbmPoison, hbmEcc := t.hbmEcc }

/-- Between two states only what a tile's movers touch differs, with the time: registers, cores, queues, scratchpad and
HBM, packets, messages, slots and records. -/
def State.onlyMover (s t : State) : Prop :=
  t = { s with
    clk := t.clk, csr := t.csr, faults := t.faults, cores := t.cores, tiles := t.tiles, access := t.access, net := t.net
    track := t.track, creditUsed := t.creditUsed, creditBack := t.creditBack, msgs := t.msgs, ops := t.ops
    releasing := t.releasing, spad := t.spad, spadPoison := t.spadPoison, spadEcc := t.spadEcc
    spadLine := t.spadLine, spadLineCe := t.spadLineCe, marks := t.marks, hbm := t.hbm, hbmPoison := t.hbmPoison
    hbmEcc := t.hbmEcc, hbmReqs := t.hbmReqs }

/-- The entry of an id in a tile's mover queue, after a command has changed it by `f`. -/
def State.entryIs (s t : State) (pos : Nat) (e : QEntry) (f : QEntry → QEntry) : Prop :=
  (t.tile pos).queue = (s.tile pos).queue.map (fun x => if x.id = e.id then f x else x)


/-! ## Terms: the fabric -/

/-- Between two states only fabric ports, L-rim dies, their packets and registers, records, the mesh, messages and objects
differ, with the time: no byte of any memory, no core, nothing of the management subsystem. -/
def State.onlyFab (s t : State) : Prop :=
  t = { s with
    clk := t.clk, csr := t.csr, faults := t.faults, net := t.net, creditUsed := t.creditUsed, creditBack := t.creditBack
    ports := t.ports, fabric := t.fabric, dies := t.dies, msgs := t.msgs, sync := t.sync }

/-- Between two states only what an Ethernet transfer touches differs: registers, records, ports, the stacks and the host
bridge. -/
def State.onlyEth (s t : State) : Prop :=
  t = { s with
    clk := t.clk, csr := t.csr, faults := t.faults, ports := t.ports, hbm := t.hbm, hbmPoison := t.hbmPoison
    hbmEcc := t.hbmEcc, bridge := t.bridge }

/-- A port has taken a STATE, and its record says so: port source 0, cause 0x10 plus the state, with the state before. -/
def State.portNow (s t : State) (p new : Nat) : Prop :=
  (t.port p).state = new ∧ s.onlyFab t ∧
  (s.sourceAbsent (srcPort p 0) = false →
    ∃ r, r ∈ t.faults.flying ∧ r.source = srcPort p 0 ∧ r.cause = 0x10 + new ∧ r.detail = (s.port p).state)

/-- The lanes of a port carry one IDLE codeword with a control unit, after an alignment marker where one is due. -/
def Port.tells (x y : Port) (u : Unit64B) : Prop := y.lanes = (withMarkers x.marked [x.idleWord [u]]).1

/-- A codeword with these units has been put on a port's lanes. -/
def Port.sends (x : Port) (units : List Unit64B) : Prop := ∃ h, LineWord.codeword h (padUnits units) ∈ x.lanes

/-- A packet has been put on a usable port: where the port has a panel ID, no earlier packet waiting and the replay room and
credits, it has left in the next codeword. -/
def State.sentOn (s t : State) (p : Nat) (q : FPkt) : Prop :=
  s.panelId (p / 4) ≠ 0 → (s.port p).queue = [] → (s.port p).replay.length < 255 → unitsOf q.type ≤ (s.port p).credits q.vc →
    (t.port p).queue = [] ∧ (t.port p).sends q.units ∧
    (t.port p).replay = (s.port p).replay ++ [((s.port p).seqNext, padUnits q.units)]

/-- Item `n` of the fabric is a packet at the head of its buffer, not on the rim ring. -/
def State.fabItem (s : State) (n port : Nat) (own : Bool) (p : FPkt) : Prop :=
  ∃ it, s.fabric[n]? = some it ∧ it.pkt = p ∧ it.port = port ∧ it.own = own ∧ it.ring = none ∧ s.fabHead n it = true

/-- Item `n` has left its buffer and the die of a port has built a response to its packet, which goes on its way from that
die. -/
def State.answeredTo (s t : State) (n port : Nat) (p : FPkt) (type reason : Nat) : Prop :=
  t.fabric = removeAt s.fabric n ++ [⟨p.respond p.ptr type reason, port, 0, true, none⟩]

/-- A die has put one packet into an attachment router. -/
def dieSent (l m : List NetItem) (die pos type reason tag : Nat) : Prop :=
  ∃ x, m = l ++ [x] ∧ x.place = .router pos (12 + dieSide die) ∧ x.pkt.type = type ∧ x.pkt.reason = reason ∧ x.pkt.tag = tag


/-! ## Terms: partitions -/

/-- Every core of a partition is stopped and reads RUN 0, and no tracking entry of its routers is in use. -/
def State.quieted (s t : State) (p : Nat) : Prop :=
  ∀ pos, pos ∈ s.partPositions p → (∀ c, c < 8 → t.flag (TILE_CORE_CTRL_RUN pos c) = false ∧ (t.core (coreKey pos c)).stopped = true) ∧
    (∀ tag, tag < 64 → t.trackAt pos tag = none)

/-- A partition command by an agent that R392 permits: in one of the states of `from_`, with no command running, it yields
`P`; in any other state, or with BUSY 1, it only sets ERR; an agent without permission only raises a decode fault. -/
def PartCommand (i : Agent → Nat → Instr) (from_ : List Nat) (P : State → Nat → State → Prop) : Prop :=
  ∀ (a : Agent) (p : Nat) (s : State), p < 16 → s.mute a (MGMT_PARTp_CMD p).addr = false →
    (s.mayWrite a .part = true → s.partState p ∈ from_ → s.flag (MGMT_PARTp_STATUS_BUSY p) = false →
      yields (i a p) s (fun t => P s p t)) ∧
    (s.mayWrite a .part = true → (s.partState p ∉ from_ ∨ s.flag (MGMT_PARTp_STATUS_BUSY p) = true) →
      yields (i a p) s (fun t => t = { s with csr := t.csr } ∧ t.flag (MGMT_PARTp_STATUS_ERR p) = true ∧
        t.partState p = s.partState p)) ∧
    (s.mayWrite a .part = false → yields (i a p) s (fun t => s.refusedWrite t))


/-! ## Terms: faults and their actions -/

/-- Between two states only what the collector keeps differs: registers, records, the event log, interrupts and pins. -/
def State.onlyFaults (s t : State) : Prop :=
  t = { s with csr := t.csr, faults := t.faults, mgmt := t.mgmt, bridge := t.bridge, pins := t.pins }

/-- A record has arrived at the collector: its SEQ is the next one, its source counts it, and it waits for
acknowledgement; the ring holds it where it has room. -/
def State.arrived (s t : State) (r : FaultRec) : Prop :=
  let n := s.fld FLT_HEAD_SEQ
  t.fld FLT_HEAD_SEQ = (n + 1) % 2 ^ 32 ∧ t.flag (FLT_SRCn_STATUS r.source) = true ∧
  t.fld (FLT_SRCn_COUNT r.source) = min (s.fld (FLT_SRCn_COUNT r.source) + 1) 0xFFFFFFFF ∧
  t.faults.unacked = s.faults.unacked ++ [(n, s.now)] ∧
  ((n + 2 ^ 32 - s.fld FLT_ACK_SEQ) % 2 ^ 32 ≤ 4096 →
    t.faults.ring = s.faults.ring.insert (n % 4096) { r with seqNo := n, arrived := s.now } ∧ t.fld FLT_LOST_CNT_COUNT = s.fld FLT_LOST_CNT_COUNT) ∧
  (4096 < (n + 2 ^ 32 - s.fld FLT_ACK_SEQ) % 2 ^ 32 → t.faults.ring = s.faults.ring ∧ s.countedBy t FLT_LOST_CNT 1)

/-- The record whose domain action comes next, of a domain, with the records after it. -/
def State.acts (s : State) (domain : Nat) (r : FaultRec) (l : List FaultRec) : Prop :=
  s.faults.actions = r :: l ∧ r.domain = domain ∧ s.mgmt.down = false


/-! ## Terms: clocks, power and cooling -/

/-- Between two states only clocks, registers, records, the power and thermal systems, interrupts, pins, the log and the
count of free values used differ: no core, no memory, no packet. -/
def State.onlyClk (s t : State) : Prop :=
  t = { s with
    clk := t.clk, csr := t.csr, faults := t.faults, power := t.power, thermal := t.thermal, bridge := t.bridge
    pins := t.pins, mgmt := t.mgmt, free := t.free }

/-- A change of operating point has been announced: for a count LEAD_US ahead, no grove having acknowledged it. -/
def State.announcedOpp (s t : State) (c : OppChange) (tries : Nat) : Prop :=
  t.clk.change = some { c with at_ := some (t.now + s.fld CLK_CFG_LEAD_US * 100), acked := [], tries := tries } ∧
  t.rd CLK_OPP_T = (t.now + s.fld CLK_CFG_LEAD_US * 100) % 2 ^ 64


/-! ## Terms: the host bridge -/

/-- An access of a host core has faulted, and nothing else has happened. -/
def State.accessFault (s t : State) : Prop := t = { s with bridge := { s.bridge with faulted := true }, answer := [] }

/-- Between two states only what the host bridge touches differs, with the time: its buffers and entries, registers,
records, packets and credits, sync messages and objects, and the data a core has read. -/
def State.onlyBridge (s t : State) : Prop :=
  t = { s with
    clk := t.clk, csr := t.csr, faults := t.faults, net := t.net, creditUsed := t.creditUsed, creditBack := t.creditBack
    msgs := t.msgs, sync := t.sync, bridge := t.bridge, answer := t.answer }

/-- The trail of the bridge to a data-space address of a window's partition. -/
def State.bridgeWay (s : State) (w a : Nat) : Option (List Nat) :=
  s.bridgeTrail { Pkt.blank with part := s.fld (MGMT_HWINw_PART w), addr := BitVec.ofNat 48 a }

/-- A packet of the bridge. -/
def Pkt.fromBridge (x : Pkt) (type size part tag a : Nat) : Prop :=
  x.type = type ∧ x.size = size ∧ x.part = part ∧ x.tag = tag ∧ x.addr = BitVec.ofNat 48 a ∧ x.srckind = 1

/-- The bridge has sent such a packet: it is in the mesh, or waits for credits of the channel. -/
def State.bridgeSent (t : State) (P : Pkt → Prop) : Prop := (∃ x, x ∈ t.net ∧ P x.pkt) ∨ ∃ e, e ∈ t.bridge.out ∧ P e.1

/-- The bridge sends one packet of a class and length on a trail: where no other waits, it enters the mesh if the channel
has the credits, and waits for them if not. -/
def State.bridgeSends (s t : State) (l : List Nat) (cls flits : Nat) (P : Pkt → Prop) : Prop :=
  t.bridgeSent P ∧ (s.bridge.out = [] →
    (flits ≤ s.credits (linkKey (l.headD 0) 24) cls → t.bridge.out = [] ∧ ∃ x, t.net = s.net ++ [x] ∧ P x.pkt) ∧
    (s.credits (linkKey (l.headD 0) 24) cls < flits → t.net = s.net ∧ ∃ e, t.bridge.out = [e] ∧ e.2 = l ∧ P e.1))

/-- The entry of a tag among the bridge's tracked packets. -/
def State.bridgeEntry (s : State) (tag : Nat) : Option BTrack := (s.bridge.track.find? (fun e => e.1 = tag)).map (·.2)

/-- Right that a store through a window needs. -/
def storeRight : DSpace → Nat
  | .spad _ _ => 0
  | .hbm _ => 2
  | .sync _ => 3

/-- The words stored in a buffer have been sent as INLINE writes, each that the bridge has a trail for. -/
def State.wordsSent (s t : State) (b : WcBuf) : Prop :=
  ∀ i, i < 32 → b.words.getLsbD i = true → s.bridgeWay b.window (b.block + 8 * i) ≠ none →
    ∃ tag, t.bridgeSent (fun p => p.fromBridge tWRITE 1 (s.fld (MGMT_HWINw_PART b.window)) tag (b.block + 8 * i) ∧
      p.inlineW = BitVec.ofNat 64 (bitsOf b.data.toNat (64 * i) 64))

/-- A store through a window has been combined: in its block's buffer, in a new one, for which the oldest goes out where 16
are taken, or, with its block full, in a long WRITE on its way. -/
def State.combined (s t : State) (w hcore a : Nat) (v : W64) : Prop :=
  let i := a % 256 / 8
  let same (b : WcBuf) : Bool := decide (b.window = w) && decide (b.hcore = hcore) && decide (b.block = a / 256 * 256)
  (∀ b r, s.bridge.buffers.find? same = none → s.bridge.buffers = b :: r → 16 ≤ s.bridge.buffers.length → b.window < 16 →
    (∃ n, t.bridge.buffers = r ++ [(⟨w, hcore, a / 256 * 256, BitVec.ofNat 2048 (setBitsOf 0 (64 * i) 64 v.toNat),
      BitVec.ofNat 32 (setBitsOf 0 i 1 1), n⟩ : WcBuf)]) ∧ s.wordsSent t b) ∧
  (s.bridge.buffers.find? same = none → s.bridge.buffers.length < 16 → t.net = s.net ∧
    t.bridge.buffers = s.bridge.buffers ++ [(⟨w, hcore, a / 256 * 256, BitVec.ofNat 2048 (setBitsOf 0 (64 * i) 64 v.toNat),
      BitVec.ofNat 32 (setBitsOf 0 i 1 1), s.bridge.nextTag⟩ : WcBuf)]) ∧
  (∀ b, s.bridge.buffers.find? same = some b →
    let data := BitVec.ofNat 2048 (setBitsOf b.data.toNat (64 * i) 64 v.toNat)
    let words := BitVec.ofNat 32 (setBitsOf b.words.toNat i 1 1)
    (words ≠ BitVec.allOnes 32 → t.net = s.net ∧
      t.bridge.buffers = s.bridge.buffers.map (fun x => if same x = true then { b with data := data, words := words } else x)) ∧
    (words = BitVec.allOnes 32 → t.bridge.buffers = s.bridge.buffers.filter (fun x => !same x) ∧
      ∀ l, s.bridgeWay w b.block = some l → s.bridgeSends t l 0 4 (fun p =>
        p.fromBridge tWRITE 2 (s.fld (MGMT_HWINw_PART w)) s.bridge.nextTag b.block ∧ p.payload = data)))


/-! ## Terms: the management subsystem -/

/-- Between two states only the management subsystem's own parts differ: registers, records, the log, sessions and
slots, the standing words with their write counters, pins, and the response. -/
def State.onlyMgmt (s t : State) : Prop :=
  t = { s with csr := t.csr, faults := t.faults, mgmt := t.mgmt, std := t.std, wcnt := t.wcnt, pins := t.pins, answer := t.answer }

/-- An operation of a session that may not run it, by its role or the recovery state, answers STATUS 1 and changes
nothing; of no open session, nothing. -/
def NeedsRole (id : Nat) (admin : Bool) (v : Avail) (i : Instr) : Prop :=
  ∀ s : State, (s.session id = none → exec i s = .next s) ∧
    (∀ x, s.session id = some x → s.mayOperate x admin v = false → yields i s (fun t => t = { s with answer := [1] }))

/-- An operation that a session may run yields `P`. -/
def Serves (id : Nat) (admin : Bool) (v : Avail) (i : Instr) (P : State → Session → State → Prop) : Prop :=
  ∀ (s : State) (x : Session), s.session id = some x → s.mayOperate x admin v = true → yields i s (P s x)

/-- The response of an operation: its STATUS, and no data. -/
def State.status0 (t : State) (n : Nat) : Prop := t.answer = [BitVec.ofNat 64 n]

/-- The slot of a kind that an update writes: the one that PREF does not name. -/
def State.target (s : State) (k : Nat) : Nat := 1 - s.pref k

/-- Every slot but one is as it was. -/
def State.slotsKept (s t : State) (k x : Nat) : Prop :=
  ∀ j, j ≠ 2 * (k - 1) + x → SMap.get FwSlot.init t.mgmt.slots j = SMap.get FwSlot.init s.mgmt.slots j

/-- Every standing word but the listed ones is as it was, with its write counter. -/
def State.stdKept (s t : State) (l : List Nat) : Prop :=
  ∀ w, w ∉ l → t.stdWord w = s.stdWord w ∧ SMap.get 0 t.wcnt w = SMap.get 0 s.wcnt w


/-! ## Terms: control space -/

/-- A register whose writes have no effect of their own beside the stored word: those of a grove's and of the thermal
block and the descriptor. -/
def Blk.plain : Blk → Bool
  | .grv _ _ | .thm _ | .desc _ => true
  | .imem _ _ | .core _ _ _ | .tile _ _ | .hbm _ _ | .fab _ _ | .die _ _ | .seq _ | .flt _ | .mgmt _ | .part _ _ | .clk _
  | .pwr _ | .wcnt _ | .std _ | .sync _ | .none => false

/-- A field of a register after an 8-byte write of `v` under its access code (R8). -/
def Fld.wrote (f : Fld) (cur v : Nat) : Nat :=
  match f.acc with
  | .rw => bitsOf v f.lo f.len
  | .w1c => bitsOf cur f.lo f.len - (bitsOf cur f.lo f.len &&& bitsOf v f.lo f.len)
  | .ro | .wo | .w1s => bitsOf cur f.lo f.len


/-! ## Terms: the memories -/

/-- The form in which the model holds the panel's memories: scratchpads, instruction stores, HBM and the service
controllers' firmware. -/
def State.canonical (s : State) : Prop :=
  Mem.wf s.spad = true ∧ Mem.wf s.imem = true ∧ Mem.wf s.hbm = true ∧ Mem.wf s.fwBytes = true



end Sys2Proof.Machine

open Sys2Proof Sys2Proof.Machine

/-- A step runs the command at the front of the queue on the state with the queue's rest, and idles on an empty queue
(the model's interface, log entry 1). -/
def Obligations.StepTakesFront : Prop :=
  (∀ (c : Instr) (rest : List Instr) (s : State),
    step { s with pending := c :: rest } = exec c { s with pending := rest }) ∧
  (∀ s : State, s.pending = [] → step s = .next s)

/-- No command is refused, none changes the queue of waiting commands, a step takes exactly the front one (the model's
interface, log entry 1); and the resources that fuses remove stay removed, the revoked key indexes revoked (R3, R406). -/
def Obligations.QueueAndFuses : Prop :=
  (∀ (c : Instr) (s : State) (r : Refusal), exec c s ≠ .refused r) ∧
  (∀ (c : Instr) (s : State), c.wf = true → ∃ t, exec c s = .next t) ∧
  (∀ (c : Instr) (s t : State), exec c s = .next t → t.pending = s.pending ∧
    t.fuses = { s.fuses with revoked := t.fuses.revoked } ∧
    ((∀ id key, c ≠ .revoke id key) → t.fuses = s.fuses) ∧
    (∀ i, s.fuses.revoked.getLsbD i = true → t.fuses.revoked.getLsbD i = true)) ∧
  (∀ s t : State, step s = .next t → t.pending = s.pending.tail)

/-- R40, R41, R46, R77, R80: when the first command of a bundle runs its slot, takes the bundle's trap, or enters the T slot's stall;
an uncorrectable word traps ahead of them, and a bundle with no slot enabled issues by S_NOP. Every slot command that
issues completes. R50, R54, R56, R63: a no-operation, and a t.fence that need not wait, completes and does nothing. -/
def Obligations.SlotMeets : Prop :=
  (∀ (s : State) (pos core k opc : Nat),
    let c := s.core (coreKey pos core)
    let b := s.bundle pos core c.pc.toNat
    (s.live pos c = false → s.meet pos core k opc = .nothing) ∧
    (s.live pos c = true → c.overrun = false → c.issued = 0 → s.caughtUp (coreKey pos core) c c.nextIssue = true →
      s.fetchError pos core c.pc.toNat = true → s.meet pos core k opc = .trap ⟨7, 0, 0, 0, false, true⟩ []) ∧
    (s.live pos c = true → c.overrun = false → c.issued = 0 → s.caughtUp (coreKey pos core) c c.nextIssue = true →
      s.fetchError pos core c.pc.toNat = false →
      (b.on 3 = false → s.issueTrap pos core c b c.nextIssue = none → c.nextSlot b = none → s.meet pos core 0 0 = .run) ∧
      ((b.on 3 = false ∨ s.tStall pos c b.t = none) → s.issueTrap pos core c b c.nextIssue = none →
        c.nextSlot b = some k → opcOf (b.slot k) = opc → s.meet pos core k opc = .run) ∧
      (∀ p d, (b.on 3 = false ∨ s.tStall pos c b.t = none) → s.issueTrap pos core c b c.nextIssue = some (p, d) →
        s.meet pos core k opc = .trap p d) ∧
      (∀ w st, b.reserved = 0 → b.on 3 = true → s.tTrap pos core c b.t c.nextIssue = none →
        s.tStall pos c b.t = some (w, st) → s.meet pos core k opc = .stall w st))) ∧
  (∀ (i : Instr) (id : CoreId) (k opc : Nat) (s : State), slotOf i = some (id, k, opc) → s.issues id k opc → completes i s) ∧
  (∀ (i : Instr) (id : CoreId) (k opc : Nat) (s : State), slotOf i = some (id, k, opc) → k ≠ 1 → s.issues id k opc →
    s.slotActive id k = false →
    yields i s (fun t => s.onlyCores t ∧ (s.core id.key).keeps (t.core id.key) ∧ (t.core id.key).pend = (s.core id.key).pend)) ∧
  (let nothing (i : CoreId → Instr) (k opc : Nat) : Prop := CoreResult i k opc (fun c _ d => c.keeps d ∧ d.pend = c.pend)
   nothing .sNop 0 0x00 ∧ nothing .vNop 1 0x00 ∧ nothing .mNop 2 0x00 ∧ nothing .tNop 3 0x00 ∧ nothing .tFence 3 0x14)

/-- R50: every scalar ALU, load-immediate, compare and predicate instruction that issues completes, and its result is on its way to
its destination with the latency of its row; s0 and p0 take none. -/
def Obligations.ScalarResults : Prop :=
  (ScalarResult .sAdd 0x01 1 (fun _ a b => a + b) ∧
  ScalarResult .sSub 0x02 1 (fun _ a b => a - b) ∧
  ScalarResult .sAnd 0x03 1 (fun _ a b => a &&& b) ∧
  ScalarResult .sOr 0x04 1 (fun _ a b => a ||| b) ∧
  ScalarResult .sXor 0x05 1 (fun _ a b => a ^^^ b) ∧
  ScalarResult .sSll 0x06 1 (fun _ a b => a <<< (b.toNat % 64)) ∧
  ScalarResult .sSrl 0x07 1 (fun _ a b => a >>> (b.toNat % 64)) ∧
  ScalarResult .sSra 0x08 1 (fun _ a b => BitVec.ofInt 64 (a.toInt >>> (b.toNat % 64))) ∧
  ScalarResult .sMul 0x09 3 (fun _ a b => BitVec.ofNat 64 (a.toNat * b.toNat)) ∧
  ScalarResult .sMulhu 0x0a 3 (fun _ a b => BitVec.ofNat 64 (a.toNat * b.toNat / 2 ^ 64)) ∧
  ScalarResult .sMin 0x0b 1 (fun _ a b => BitVec.ofInt 64 (min a.toInt b.toInt)) ∧
  ScalarResult .sMax 0x0c 1 (fun _ a b => BitVec.ofInt 64 (max a.toInt b.toInt)) ∧
  ScalarResult .sMinu 0x0d 1 (fun _ a b => BitVec.ofNat 64 (min a.toNat b.toNat)) ∧
  ScalarResult .sMaxu 0x0e 1 (fun _ a b => BitVec.ofNat 64 (max a.toNat b.toNat)) ∧
  ScalarResult .sAddi 0x10 1 (fun w a _ => a + BitVec.ofInt 64 (signedOf 26 (bitsOf w 22 26))) ∧
  ScalarResult .sAndi 0x11 1 (fun w a _ => a &&& BitVec.ofNat 64 (bitsOf w 22 26)) ∧
  ScalarResult .sOri 0x12 1 (fun w a _ => a ||| BitVec.ofNat 64 (bitsOf w 22 26)) ∧
  ScalarResult .sXori 0x13 1 (fun w a _ => a ^^^ BitVec.ofNat 64 (bitsOf w 22 26)) ∧
  ScalarResult .sSlli 0x14 1 (fun w a _ => a <<< bitsOf w 22 6) ∧
  ScalarResult .sSrli 0x15 1 (fun w a _ => a >>> bitsOf w 22 6) ∧
  ScalarResult .sSrai 0x16 1 (fun w a _ => BitVec.ofInt 64 (a.toInt >>> bitsOf w 22 6)) ∧
  ScalarResult .sLui 0x17 1 (fun w _ _ => BitVec.ofInt 64 (signedOf 26 (bitsOf w 22 26) * 2 ^ 26))) ∧
  (CompareResult .sCmpEq 0x20 (fun _ a b => decide (a = b)) ∧
  CompareResult .sCmpNe 0x21 (fun _ a b => decide (a ≠ b)) ∧
  CompareResult .sCmpLt 0x22 (fun _ a b => decide (a.toInt < b.toInt)) ∧
  CompareResult .sCmpLtu 0x23 (fun _ a b => decide (a.toNat < b.toNat)) ∧
  CompareResult .sCmpiEq 0x24 (fun w a _ => decide (a = BitVec.ofInt 64 (signedOf 26 (bitsOf w 22 26)))) ∧
  CompareResult .sCmpiLt 0x25 (fun w a _ => decide (a.toInt < signedOf 26 (bitsOf w 22 26))) ∧
  PredResult .sPand 0x28 (fun a b => a &&& b) ∧
  PredResult .sPor 0x29 (fun a b => a ||| b) ∧
  PredResult .sPxor 0x2a (fun a b => a ^^^ b) ∧
  PredResult .sPnot 0x2b (fun a _ => ~~~ a))

/-- R48, R50, R70, R72, R78, R80: where branches, calls, loops and the end of issue take a core whose bundle enables
the S slot alone. -/
def Obligations.ControlFlow : Prop :=
  let branches (i : CoreId → Instr) (opc : Nat) (target : Core → Nat → BitVec 11) (P : Core → Nat → Core → Prop) : Prop :=
    ∀ (id : CoreId) (s : State), s.issues id 0 opc →
      (s.bundle id.pos id.core (s.core id.key).pc.toNat).act = 1 → s.slotActive id 0 = true →
      (s.core id.key).ending = none → (s.core id.key).issued = 0 → yields (i id) s (fun t =>
        let c := s.core id.key
        let p := target c (s.slotWord id 0)
        (t.core id.key).pc = p ∧ (t.core id.key).loops = levelsAt c.loops p.toNat ∧
        (t.core id.key).nextIssue = c.nextIssue + 2 + (s.bundle id.pos id.core c.pc.toNat).idle ∧
        (t.core id.key).issued = 0 ∧ P c (s.slotWord id 0) (t.core id.key))
  branches .sBr 0x30 (fun c w => BitVec.ofNat 11 (c.pc.toNat + signedOf 26 (bitsOf w 22 26)).toNat)
    (fun c _ d => d.state = c.state ∧ d.pend = c.pend) ∧
  branches .sJr 0x31 (fun c w => (c.sreg (sRa w)).val.setWidth 11) (fun c _ d => d.state = c.state ∧ d.pend = c.pend) ∧
  branches .sCall 0x32 (fun c w => BitVec.ofNat 11 (c.pc.toNat + signedOf 26 (bitsOf w 22 26)).toNat)
    (fun c w d => d.pend = c.withScalar true (sRd w) 1 (BitVec.ofNat 64 (c.pc.toNat + 1)) 0) ∧
  branches .sTret 0x36 (fun c w => (c.sreg (sRa w)).val.setWidth 11)
    (fun _ _ d => d.state = 1 ∧ d.handler = false) ∧
  (∀ (id : CoreId) (s : State), s.issues id 0 0x33 →
    (s.bundle id.pos id.core (s.core id.key).pc.toNat).act = 1 → s.slotActive id 0 = true →
    (s.core id.key).ending = none → (s.core id.key).issued = 0 → (s.core id.key).pc.toNat < 2047 →
    yields (.sLoop id) s (fun t =>
      let c := s.core id.key
      let w := s.slotWord id 0
      let n := if sRa w = 0 then bitsOf w 33 15 else (c.sreg (sRa w)).val.toNat % 2 ^ 32
      let stop := c.pc.toNat + bitsOf w 22 11
      (n ≠ 0 → c.target = none → 1 ≤ bitsOf w 22 11 → stop ≤ 2047 → (t.core id.key).pc.toNat = c.pc.toNat + 1 ∧
        (t.core id.key).loops = c.loops ++ [⟨BitVec.ofNat 11 (c.pc.toNat + 1), BitVec.ofNat 11 stop, BitVec.ofNat 32 n⟩] ∧
        (t.core id.key).nextIssue = c.nextIssue + 1 + (s.bundle id.pos id.core c.pc.toNat).idle) ∧
      (n = 0 → stop < 2047 → (t.core id.key).pc.toNat = stop + 1 ∧ (t.core id.key).loops = c.loops ∧
        (t.core id.key).nextIssue = c.nextIssue + 2 + (s.bundle id.pos id.core c.pc.toNat).idle))) ∧
  (∀ (id : CoreId) (s : State), s.issues id 0 0x34 →
    (s.bundle id.pos id.core (s.core id.key).pc.toNat).act = 1 → s.slotActive id 0 = true →
    (s.core id.key).ending = none → (s.core id.key).issued = 0 → yields (.sEnd id) s (fun t =>
      (t.core id.key).state = 5 ∧ (t.core id.key).handler = false ∧ (s.core id.key).keeps (t.core id.key)))

/-- R73, R76: s.mfcr sends a control register's value to rd two cycles later; s.mtcr takes effect two cycles later. -/
def Obligations.ControlRegisters : Prop :=
  (∀ (id : CoreId) (s : State), s.issues id 0 0x38 → yields (.sMfcr id) s (fun t =>
    let i := bitsOf (s.slotWord id 0) 22 8
    let sent (v : Nat) : Prop := (t.core id.key).pend =
      (s.core id.key).withScalar (s.slotActive id 0) (sRd (s.slotWord id 0)) 2 (BitVec.ofNat 64 v) 0
    (i ≠ 3 → sent (s.readCr id.pos id.core i (s.core id.key).nextIssue)) ∧ (i = 3 → ∃ n, s.clk.ref ≤ n ∧ sent (n % 2 ^ 64)))) ∧
  (∀ (s : State) (pos core t : Nat),
    s.readCr pos core 0x01 t = t % 2 ^ 64 ∧ s.readCr pos core 0x02 t = t % 16 ∧
    s.readCr pos core 0x03 t = s.clk.ref % 2 ^ 64 ∧
    s.readCr pos core 0x04 t = s.rd (TILE_CORE_INVCOUNT pos core) ∧
    s.readCr pos core 0x09 t = s.rd (TILE_CORE_TCAUSE pos core) ∧
    s.readCr pos core 0x0A t = s.rd (TILE_CORE_TPC pos core) ∧
    s.readCr pos core 0x10 t = s.rd (TILE_CORE_PERFn pos core 0) ∧
    ((s.core (coreKey pos core)).stall = .none → s.readCr pos core 0x11 t = s.rd (TILE_CORE_PERFn pos core 1)) ∧
    (∀ l, s.logical pos = some l → s.readCr pos core 0x00 t = core + 8 * l)) ∧
  (∀ (id : CoreId) (s : State), s.issues id 0 0x39 → yields (.sMtcr id) s (fun t =>
    (t.core id.key).pend = (s.core id.key).pend ++ (if s.slotActive id 0 = true then
      [⟨(s.core id.key).nextIssue + 2, .ctl (bitsOf (s.slotWord id 0) 22 8), BitVec.allOnes 64,
        ((s.core id.key).sreg (sRa (s.slotWord id 0))).val.setWidth 2048, 0⟩] else [])))

/-- R45, R78: a bundle that raises a trap takes it, whichever of its slot commands comes, and every write in flight that it
clashes with is dropped; s.trap is cause 8 with its code. -/
def Obligations.TrapsTaken : Prop :=
  (∀ (i : Instr) (id : CoreId) (k opc : Nat), slotOf i = some (id, k, opc) → ∀ (s : State) (p : Trap) (d : List (Dst × Nat)),
    id.wf = true → s.meet id.pos id.core k opc = .trap p d → yields i s (fun t =>
      s.trapped t id (s.core id.key).pc.toNat (s.bundle id.pos id.core (s.core id.key).pc.toNat).idle p ∧
      s.onlyTransfer t ∧ t.msgs = s.msgs ∧ t.net = s.net ∧ t.ops = s.ops ∧ t.tiles = s.tiles ∧
      (d = [] → t.access = s.access) ∧
      (t.core id.key).pend = (s.core id.key).pend.filter (fun q => !(d.contains (q.dst, q.due))) ∧
      (∀ j, j ≠ id.key → t.core j = s.core j))) ∧
  (∀ (s : State) (pos core : Nat), let c := s.core (coreKey pos core)
    let b := s.bundle pos core c.pc.toNat
    b.reserved = 0 → b.on 0 = true → opcOf b.s = 0x35 → hasReserved b.s [(22, 27)] = false → c.slotOn b.s = true →
    s.bundleTrap pos core c b c.nextIssue = some ⟨8, 0, bitsOf b.s 22 6, 0, false, false⟩) ∧
  (∀ (id : CoreId) (s : State), let c := s.core id.key
    let b := s.bundle id.pos id.core c.pc.toNat
    id.wf = true → s.live id.pos c = true → c.overrun = false → c.issued = 0 →
    s.caughtUp id.key c c.nextIssue = true → s.fetchError id.pos id.core c.pc.toNat = false → b.reserved = 0 →
    b.on 0 = true → b.on 3 = false → opcOf b.s = 0x35 → hasReserved b.s [(22, 27)] = false → c.slotOn b.s = true →
    yields (.sTrap id) s (fun t => s.trapped t id c.pc.toNat b.idle ⟨8, 0, bitsOf b.s 22 6, 0, false, false⟩ ∧
      t.rd (TILE_CORE_TCAUSE id.pos id.core) = 8 ∧ bitsOf (t.rd (TILE_CORE_TINFO id.pos id.core)) 2 6 = bitsOf b.s 22 6)) ∧
  (∀ (id : CoreId) (s : State), s.issues id 0 0x36 →
    (s.bundle id.pos id.core (s.core id.key).pc.toNat).act = 1 → s.slotActive id 0 = true →
    (s.core id.key).ending = none → (s.core id.key).issued = 0 → yields (.sTret id) s (fun t =>
      (t.core id.key).state = 1 ∧ (t.core id.key).handler = false ∧
      (t.core id.key).pc = ((s.core id.key).sreg (sRa (s.slotWord id 0))).val.setWidth 11))

/-- R54, R98 to R101: every lane-wise vector instruction that issues completes, and sends its enabled lanes to vd. -/
def Obligations.VectorLanewise : Prop :=
  Lanewise2 .vAdd 0x01 4 1 (fun fmt a b => if fmt = 0 then f32Add a b else a + b) ∧
  Lanewise2 .vSub 0x02 4 1 (fun fmt a b => if fmt = 0 then f32Sub a b else a - b) ∧
  Lanewise2 .vMul 0x03 4 3 (fun fmt a b => if fmt = 0 then f32Mul a b else a * b) ∧
  VectorResult .vFma 0x04 (fun _ => 4) (fun c w => (Vec.ofLanes (fun j =>
    f32Fma ((c.vreg (vVa w)).val.lane j) ((c.vreg (vVb w)).val.lane j) ((c.vreg (vVc w)).val.lane j)), 0)) ∧
  Lanewise2 .vMin 0x05 2 1 (fun fmt a b => if fmt = 0 then f32Min a b else BitVec.ofInt 32 (min a.toInt b.toInt)) ∧
  Lanewise2 .vMax 0x06 2 1 (fun fmt a b => if fmt = 0 then f32Max a b else BitVec.ofInt 32 (max a.toInt b.toInt)) ∧
  Lanewise1 .vAbs 0x07 1 1 (fun fmt a => if fmt = 0 then a &&& 0x7FFFFFFF#32 else BitVec.ofInt 32 (max a.toInt (-a.toInt))) ∧
  Lanewise1 .vNeg 0x08 1 1 (fun fmt a => if fmt = 0 then a ^^^ 0x80000000#32 else -a) ∧
  Lanewise2 .vAnd 0x10 1 1 (fun _ a b => a &&& b) ∧
  Lanewise2 .vOr 0x11 1 1 (fun _ a b => a ||| b) ∧
  Lanewise2 .vXor 0x12 1 1 (fun _ a b => a ^^^ b) ∧
  Lanewise2 .vShl 0x13 1 1 (fun _ a b => a <<< (b.toNat % 32)) ∧
  Lanewise2 .vShr 0x14 1 1 (fun _ a b => a >>> (b.toNat % 32)) ∧
  Lanewise2 .vSra 0x15 1 1 (fun _ a b => BitVec.ofInt 32 (a.toInt >>> (b.toNat % 32))) ∧
  Lanewise1 .vExp 0x20 10 10 (fun _ a => transcend 0 a) ∧
  Lanewise1 .vLog 0x21 10 10 (fun _ a => transcend 1 a) ∧
  Lanewise1 .vRcp 0x22 8 8 (fun _ a => transcend 2 a) ∧
  Lanewise1 .vRsqrt 0x23 8 8 (fun _ a => transcend 3 a) ∧
  Lanewise1 .vTanh 0x24 12 12 (fun _ a => transcend 4 a) ∧
  Lanewise1 .vSigm 0x25 12 12 (fun _ a => transcend 5 a)

/-- R53, R54, R79, R86 to R92, R102: the V-slot instructions that are not plainly lane-wise. -/
def Obligations.VectorMoves : Prop :=
  VectorCompare .vCmpEq 0x18 (f32Cmp .eq) (fun a b => decide (a = b)) ∧
  VectorCompare .vCmpLt 0x19 (f32Cmp .lt) (fun a b => decide (a.toInt < b.toInt)) ∧
  VectorCompare .vCmpLe 0x1a (f32Cmp .le) (fun a b => decide (a.toInt ≤ b.toInt)) ∧
  VectorResult .vUnpk 0x29 (fun _ => 3) (fun c w => (unpack (vFmt w) (c.vreg (vVa w)).val (vImm w), 0)) ∧
  VectorResult .vBcast 0x30 (fun _ => 1) (fun c w => (Vec.ofLanes (fun _ => (c.sreg (vSr w)).val.setWidth 32),
    if (c.sreg (vSr w)).poison.getLsbD 0 then BitVec.allOnes 64 else 0)) ∧
  CoreResult .vExt 1 0x31 (fun c w d => d.pend = c.withScalar ((c.lanesOf (predOf w)).getLsbD 0) (vVd w) 2
    (((c.vreg (vVa w)).val.lane (vImm w)).setWidth 64) (if (c.vreg (vVa w)).poison.getLsbD (vImm w) then 1 else 0)) ∧
  VectorResult .vShuf 0x32 (fun _ => 2) (fun c w =>
    (Vec.ofLanes (fun j => (c.vreg (vVa w)).val.lane (((c.vreg (vVb w)).val.lane j).toNat % 64)),
      Lanes.ofFn (fun j => (c.vreg (vVa w)).poison.getLsbD (((c.vreg (vVb w)).val.lane j).toNat % 64)))) ∧
  VectorResult .vRsum 0x33 (fun _ => 12) (fun c w => (Vec.ofLanes (fun _ => f32Sum (c.lanesOr w 0)), 0)) ∧
  VectorResult .vRmax 0x34 (fun _ => 6) (fun c w => (Vec.ofLanes (fun _ => f32MaxAll (c.lanesOr w 0xFF800000#32)), 0)) ∧
  VectorResult .vMov 0x36 (fun _ => 1) (fun c w => ((c.vreg (vVa w)).val, (c.vreg (vVa w)).poison)) ∧
  VectorResult .vIota 0x37 (fun _ => 1) (fun _ _ => (Vec.ofLanes (fun j => BitVec.ofNat 32 j), 0)) ∧
  (∀ (id : CoreId) (s : State), s.issues id 1 0x28 → yields (.vCvt id) s (fun t =>
    let c := s.core id.key
    let w := s.slotWord id 1
    (t.core id.key).pend = c.withVector (vVd w) 3 (c.lanesOf (predOf w))
      (convertPacked (vFmt w) (roundingOf (vRnd w) (s.generator id.pos id.core)) (c.vreg (vVa w)).val) 0 ∧
    t.rd (TILE_CORE_SRSEED id.pos id.core) = s.genAfter id (decide (vRnd w = 1 ∧ predOf w ≠ 8)))) ∧
  (∀ (id : CoreId) (s : State), s.issues id 1 0x35 → yields (.vRand id) s (fun t =>
    let c := s.core id.key
    let w := s.slotWord id 1
    (t.core id.key).pend = c.withVector (vVd w) 2 (c.lanesOf (predOf w)) (Vec.ofLanes (srWord (s.generator id.pos id.core))) 0 ∧
    t.rd (TILE_CORE_SRSEED id.pos id.core) = s.genAfter id (decide (predOf w ≠ 8))))

/-- R56, R58, R91, R93, R96: what each M-slot instruction that issues under its predicate leaves. -/
def Obligations.MatrixResults : Prop :=
  let on (i : CoreId → Instr) (opc : Nat) (P : State → CoreId → Core → Nat → Core → Prop) : Prop :=
    ∀ (id : CoreId) (s : State), s.issues id 2 opc → s.slotActive id 2 = true → yields (i id) s (fun t =>
      P t id (s.core id.key) (s.slotWord id 2) (t.core id.key))
  on .mRd 0x03 (fun _ _ c w d => d.pend = c.withVector (mVr w) 2 (BitVec.allOnes 64) (c.accRow (mAcc w) (mRow w)) 0) ∧
  on .mWr 0x04 (fun _ _ c w d =>
    d.pend = c.pend ++ [⟨c.nextIssue + 2, .accRow (mAcc w) (mRow w), BitVec.allOnes 64, (c.vreg (mVr w)).val, 0⟩] ∧
    mtGet d.mt.accUse (mAcc w) = c.nextIssue + 2) ∧
  on .mZero 0x06 (fun _ _ c w d =>
    d.pend = c.pend ++ [⟨c.nextIssue + 2, .accAll (mAcc w), BitVec.allOnes 64, 0, 0⟩] ∧
    mtGet d.mt.accUse (mAcc w) = c.nextIssue + 2) ∧
  on .mLdw 0x01 (fun _ _ c w d =>
    (∃ j, d.feedW.getLast? = some j ∧ j.at_ = c.nextIssue ∧ j.total = ldwCycles (mFmtW w) ∧ j.done = 0 ∧ j.wb = mWb w ∧
      j.fmt = mFmtW w ∧ j.base = (c.stream (mTs w)).elemAddr (c.stream (mTs w)).pos.toNat % 2 ^ 27) ∧
    d.stream (mTs w) = { c.stream (mTs w) with pos := (c.stream (mTs w)).pos + 1 } ∧
    d.mt.ldwFree = c.nextIssue + ldwCycles (mFmtW w) ∧
    mtGet d.mt.wbReady (mWb w) = c.nextIssue + ldwCycles (mFmtW w) + 2 ∧
    mtGet d.mt.streamBusy (mTs w) = c.nextIssue + ldwCycles (mFmtW w)) ∧
  on .mMmul 0x02 (fun _ _ c w d =>
    (∃ j, d.feedA.getLast? = some j ∧ j.at_ = c.nextIssue ∧ j.total = mCount w ∧ j.done = 0 ∧ j.wb = mWb w ∧
      j.acc = mAcc w ∧ j.clr = mClr w ∧ j.fmt = mFmtA w ∧ j.fmtW = mFmtW w ∧
      j.base = (c.stream (mTs w)).elemAddr (c.stream (mTs w)).pos.toNat % 2 ^ 27) ∧
    d.stream (mTs w) = { c.stream (mTs w) with pos := (c.stream (mTs w)).pos + BitVec.ofNat 16 (mCount w) } ∧
    d.mt.mmulFree = c.nextIssue + mmulOccupancy (mFmtA w) (mFmtW w) (mCount w) ∧
    mtGet d.mt.accRead (mAcc w) = c.nextIssue + mmulOccupancy (mFmtA w) (mFmtW w) (mCount w) + 8) ∧
  on .mCvt 0x05 (fun t id c w d => ∃ g : W64,
    d.pend = c.withVector (mVr w) 4 (BitVec.allOnes 64)
      (convertRow (mFmtA w) (mSrule w) (roundingOf (mRnd w) g) (c.accRow (mAcc w) (mRow w))) 0 ∧
    t.rd (TILE_CORE_SRSEED id.pos id.core) = if mRnd w = 1 then (srNext g).toNat else g.toNat)

/-- R37, R50, R54, R56, R63 to R65, R75: what an instruction of a slot leaves as it was. -/
def Obligations.SlotFrames : Prop :=
  (∀ (i : Instr) (id : CoreId) (k opc : Nat), slotOf i = some (id, k, opc) → k ≠ 3 → ∀ s t : State, s.issues id k opc →
    exec i s = .next t →
    s.onlyCores t ∧ (∀ j, j ≠ id.key → t.core j = s.core j) ∧
    (∀ r : Reg, r.addr ∉ bundleRegs id → r.addr ≠ (TILE_CORE_SRSEED id.pos id.core).addr → t.rd r = s.rd r) ∧
    ((k = 0 → opc ≠ 0x38) → t.free = s.free) ∧
    (∀ n, (t.core id.key).sreg n = (s.core id.key).sreg n) ∧ (∀ n, (t.core id.key).preg n = (s.core id.key).preg n) ∧
    (∀ n, (t.core id.key).vreg n = (s.core id.key).vreg n) ∧
    (∀ a r, (t.core id.key).accRow a r = (s.core id.key).accRow a r) ∧
    (∀ n, (¬(k = 2 ∧ opc = 1) ∨ n ≠ mWb (s.slotWord id 2)) → (t.core id.key).wbuf n = (s.core id.key).wbuf n) ∧
    (∀ n, (¬(k = 2 ∧ (opc = 1 ∨ opc = 2)) ∨ n ≠ mTs (s.slotWord id 2)) → (t.core id.key).stream n = (s.core id.key).stream n) ∧
    (t.core id.key).posted = (s.core id.key).posted) ∧
  (∀ (i : Instr) (id : CoreId) (opc : Nat), slotOf i = some (id, 3, opc) → ∀ s t : State, s.issues id 3 opc →
    exec i s = .next t →
    s.onlyTransfer t ∧ (∀ j, j ≠ id.key → t.core j = s.core j) ∧ (∀ q, q ≠ id.pos → t.tile q = s.tile q) ∧
    (∀ n, (t.core id.key).sreg n = (s.core id.key).sreg n) ∧ (∀ n, (t.core id.key).preg n = (s.core id.key).preg n) ∧
    (∀ n, (t.core id.key).vreg n = (s.core id.key).vreg n) ∧
    (∀ a r, (t.core id.key).accRow a r = (s.core id.key).accRow a r) ∧
    (∀ n, (t.core id.key).wbuf n = (s.core id.key).wbuf n) ∧
    (∀ n, n ≠ tTd (s.slotWord id 3) → (t.core id.key).stream n = (s.core id.key).stream n) ∧
    (∀ r : Reg, r.addr ∉ bundleRegs id → r.addr ≠ (TILE_CORE_INVCOUNT id.pos id.core).addr → t.rd r = s.rd r))


/-- R62, R124, R148, R232: t.set, t.rlu, t.wclose, t.wait. -/
def Obligations.TransferStreams : Prop :=
  (∀ (id : CoreId) (s : State), s.issues id 3 0x01 → s.slotActive id 3 = true → yields (.tSet id) s (fun t =>
    let c := s.core id.key
    let w := s.slotWord id 3
    let d := (t.core id.key).stream (tTd w)
    d.pos = 0 ∧ d.base = (c.sreg (tSa w)).val.setWidth 48 ∧ d.stride = (c.sreg (tSb w)).val.setWidth 24 ∧
    d.count = ((c.sreg (tSb w)).val >>> 24).setWidth 16 ∧ d.feeder = (c.sreg (tSc w)).val.setWidth 2 ∧
    d.fmt = ((c.sreg (tSc w)).val >>> 2).setWidth 4 ∧ d.dir = (c.sreg (tSc w)).val.getLsbD 6)) ∧
  (∀ (id : CoreId) (s : State), s.issues id 3 0x09 → s.slotActive id 3 = true → yields (.tRlu id) s (fun t =>
    let c := s.core id.key
    let w := s.slotWord id 3
    (t.core id.key).pend = c.withScalar true (tSc w) 4 (BitVec.ofNat 64 (c.tAddr w % 2 ^ 10
      + 2 ^ 10 * (s.epoch id.pos).toNat + 2 ^ 11 * (s.route id.pos (c.tAddr w)).kind)) 0)) ∧
  (∀ (id : CoreId) (s : State), s.issues id 3 0x13 → s.slotActive id 3 = true → yields (.tWclose id) s (fun t =>
    ∃ x, (t.tile id.pos).wins = (s.tile id.pos).wins ++ [x] ∧ x.n = bitsOf (s.slotWord id 3) 36 4 ∧
      x.at_ = (s.core id.key).nextIssue + 4 ∧ x.core = id.core ∧ x.record = none ∧
      (t.core id.key).posted = (s.core id.key).posted ++ [⟨x.id, .wclose, none⟩])) ∧
  (∀ (id : CoreId) (s : State), s.issues id 3 0x0C → s.slotActive id 3 = true → yields (.tWait id) s (fun t =>
    t.rd (TILE_CORE_INVCOUNT id.pos id.core) = (s.rd (TILE_CORE_INVCOUNT id.pos id.core)
      + (if Nat.testBit (s.slotWord id 3) 36 then 1 else 0)) % 2 ^ 64 ∧ t.msgs = s.msgs ∧ t.net = s.net ∧ t.access = s.access))

/-- R63, R65, R69: a direct load by each path. -/
def Obligations.DirectLoads : Prop :=
  let load (i : CoreId → Instr) (opc bytes : Nat) (stream : Bool) : Prop :=
    ∀ (id : CoreId) (s : State), s.issues id 3 opc → s.slotActive id 3 = true →
      let c := s.core id.key
      let w := s.slotWord id 3
      let dst : LoadDst := if opc = 0x02 then .sreg (tSc w) else .vreg (tVx w)
      let pos' := (c.stream (tTd w)).pos + (if stream then 1 else 0)
      match s.reach id.pos (c.tDirect w) bytes (if opc = 0x02 then 8 else 128) with
      | .inl _ => completes (i id) s
      | .inr (.own off) => yields (i id) s (fun t =>
          (∃ a, t.access = s.access ++ [a] ∧ a.pos = id.pos ∧ a.agent = id.core ∧ a.whole = (off, bytes) ∧ a.timed = true ∧
            a.core = some id.key ∧ a.task = .load id.key dst 4) ∧
          (c.ending = none → (t.core id.key).stall = c.stall) ∧ ((t.core id.key).stream (tTd w)).pos = pos')
      | .inr (.near d q off true) => yields (i id) s (fun t =>
          (∃ a, t.access = s.access ++ [a] ∧ a.pos = q ∧ a.agent = portAgent d ∧ a.whole = (off, bytes) ∧ a.timed = true ∧
            a.core = some id.key ∧ a.task = .load id.key dst 6) ∧
          (c.ending = none → (t.core id.key).stall = c.stall) ∧ ((t.core id.key).stream (tTd w)).pos = pos')
      | .inr (.near d q off false) => yields (i id) s (fun t =>
          (∃ a, t.access = s.access ++ [a] ∧ a.pos = q ∧ a.agent = portAgent d ∧ a.whole = (off, bytes) ∧ a.timed = false ∧
            a.inlink = some (linkKey id.pos (28 + d)) ∧ a.task = .load id.key dst 0) ∧
          SMap.get 0 t.creditUsed (creditKey (linkKey id.pos (28 + d)) 3)
            = SMap.get 0 s.creditUsed (creditKey (linkKey id.pos (28 + d)) 3) + 1 ∧
          (c.ending = none → (t.core id.key).stall = .load false ∧ (t.core id.key).state = 3) ∧ ((t.core id.key).stream (tTd w)).pos = pos')
      | .inr (.routed _ _) => ∀ tag, s.freeTag id.pos = some tag → yields (i id) s (fun t =>
          (∃ k, t.trackAt id.pos tag = some k ∧ k.pkt.type = tREAD ∧ k.pkt.size = (if opc = 0x02 then 1 else 2) ∧
            k.pkt.addr = BitVec.ofNat 48 (c.tDirect w) ∧ k.pkt.tag = tag ∧ k.holder = .load id.key dst) ∧
          (c.ending = none → (t.core id.key).stall = .load false ∧ (t.core id.key).state = 3) ∧ ((t.core id.key).stream (tTd w)).pos = pos')
  load .tLds 0x02 8 false ∧ load .tLdv 0x04 256 false ∧ load .tRd 0x06 256 true

/-- R63, R65, R69, R79: a direct store by each path. -/
def Obligations.DirectStores : Prop :=
  let store (i : CoreId → Instr) (opc bytes align : Nat) : Prop :=
    ∀ (id : CoreId) (s : State), s.issues id 3 opc → s.slotActive id 3 = true →
      let c := s.core id.key
      let w := s.slotWord id 3
      let data : Vec := if opc = 0x03 then (c.sreg (tSb w)).val.setWidth 2048 else (c.vreg (tVx w)).val
      let poison : Lanes := if opc = 0x03 then (c.sreg (tSb w)).poison.setWidth 64 else (c.vreg (tVx w)).poison
      let own (t : State) : Prop := ((t.core id.key).stream (tTd w)).pos = (c.stream (tTd w)).pos + (if opc = 0x07 then 1 else 0) ∧
        (t.core id.key).posted = c.posted ++ [⟨c.nextId, .store, none⟩] ∧ (c.ending = none → (t.core id.key).stall = c.stall)
      match s.reach id.pos (c.tDirect w) bytes align with
      | .inl _ => completes (i id) s
      | .inr (.own off) => yields (i id) s (fun t => own t ∧
          ∃ a, t.access = s.access ++ [a] ∧ a.pos = id.pos ∧ a.agent = id.core ∧ a.whole = (off, bytes) ∧ a.timed = true ∧
            a.task = .write .own ∧ a.data = data ∧ a.poison = poison ∧ a.holder = .posted id.key c.nextId)
      | .inr (.near d q off same) => yields (i id) s (fun t => own t ∧
          (∃ a, t.access = s.access ++ [a] ∧ a.pos = q ∧ a.agent = portAgent d ∧ a.whole = (off, bytes) ∧ a.timed = same ∧
            a.task = .write (s.tileClass id.pos) ∧ a.data = data ∧ a.poison = poison ∧ a.holder = .posted id.key c.nextId) ∧
          SMap.get 0 t.creditUsed (creditKey (linkKey id.pos (28 + d)) 3)
            = SMap.get 0 s.creditUsed (creditKey (linkKey id.pos (28 + d)) 3) + (if same then 0 else 1))
      | .inr (.routed _ _) => ∀ tag, s.freeTag id.pos = some tag → yields (i id) s (fun t => own t ∧
          ∃ k, t.trackAt id.pos tag = some k ∧ k.pkt.type = tWRITE ∧ k.pkt.addr = BitVec.ofNat 48 (c.tDirect w) ∧
            (if opc = 0x03 then k.pkt.size = 1 ∧ k.pkt.inlineW = (c.sreg (tSb w)).val
              else k.pkt.size = 2 ∧ k.pkt.payload = data ∧ k.pkt.poison = poison) ∧
            k.pkt.en = false ∧ k.holder = .posted id.key c.nextId)
  store .tSts 0x03 8 8 ∧ store .tStv 0x05 256 32 ∧ store .tWr 0x07 256 128

/-- R63, R64, R66, R173, R184, R233: packets and adds sent by a core. -/
def Obligations.Sends : Prop :=
  let payload (s : State) (id : CoreId) (p : Pkt) : Prop :=
    let c := s.core id.key
    let w := s.slotWord id 3
    let sb := (c.sreg (tSb w)).val
    p.size = 2 ∧ p.payload = (c.vreg (tVx w)).val ∧ p.poison = (c.vreg (tVx w)).poison ∧ p.obj = sb.setWidth 17 ∧
    p.add = (sb >>> 32).setWidth 16 ∧ p.en = sb.getLsbD 63 ∧ p.guard_ = some (id.key, c.nextId)
  (∀ (id : CoreId) (s : State) (tag : Nat), s.issues id 3 0x08 → s.slotActive id 3 = true → s.freeTag id.pos = some tag →
    yields (.tSend id) s (fun t =>
      (t.core id.key).posted = (s.core id.key).posted ++ [⟨(s.core id.key).nextId, .send, none⟩] ∧
      ∃ k, t.trackAt id.pos tag = some k ∧ payload s id k.pkt ∧ k.pkt.type = tWRITE ∧ k.pkt.tag = tag ∧
        k.pkt.addr = ((s.core id.key).sreg (tSa (s.slotWord id 3))).val.setWidth 48 ∧
        k.holder = .posted id.key (s.core id.key).nextId)) ∧
  (∀ (id : CoreId) (s : State) (tag : Nat), s.issues id 3 0x0A → s.slotActive id 3 = true → s.freeTag id.pos = some tag →
    let w := s.slotWord id 3
    let rt := s.route id.pos (((s.core id.key).sreg (tSa w)).val.toNat % 2 ^ 10)
    yields (.tSendr id) s (fun t =>
      (t.core id.key).posted = (s.core id.key).posted ++ [⟨(s.core id.key).nextId, .send, none⟩] ∧
      ∃ k, t.trackAt id.pos tag = some k ∧ payload s id k.pkt ∧ k.pkt.type = tWRITE ∧
        k.pkt.addr = BitVec.ofNat 48 (rt.daddr + tImmS w).toNat ∧ k.holder = .posted id.key (s.core id.key).nextId ∧
        (rt.kind = 1 ∨ (k.dest = 560 + rt.port ∧ k.pkt.port = some rt.port ∧ k.pkt.inlineW = BitVec.ofNat 64 (rt.record + 64 * rt.kind))))) ∧
  (∀ (id : CoreId) (s : State), s.issues id 3 0x15 → s.slotActive id 3 = true → yields (.tSendred id) s (fun t =>
    (t.core id.key).posted = (s.core id.key).posted ++ [⟨(s.core id.key).nextId, .send, none⟩] ∧ t.track = s.track ∧
    ∃ x, t.net = s.net ++ [x] ∧ x.place = .router id.pos 0 ∧ payload s id x.pkt ∧ x.pkt.type = tRED ∧
      x.pkt.redid = bitsOf (s.slotWord id 3) 36 10 ∧ x.pkt.epoch = s.epoch id.pos ∧
      x.pkt.addr = ((s.core id.key).sreg (tSa (s.slotWord id 3))).val.setWidth 48)) ∧
  (∀ (id : CoreId) (s : State), s.issues id 3 0x0B → s.slotActive id 3 = true → yields (.tAdd id) s (fun t =>
    let c := s.core id.key
    let w := s.slotWord id 3
    (t.core id.key).posted = c.posted ++ [⟨c.nextId, .add, none⟩] ∧
    ∃ m, t.msgs = s.msgs ++ [m] ∧ m.set = false ∧ m.obj = bitsOf (c.sreg (tSa w)).val.toNat 3 17 ∧
      m.value = (c.sreg (tSb w)).val.setWidth 32 ∧ m.kind = 0 ∧ m.guard_ = some (id.key, c.nextId) ∧ m.pos = id.pos ∧ m.void = false))

/-- R124, R126, R158, R199, R200: the queued instructions of the T slot. -/
def Obligations.QueuedTransfers : Prop :=
  let queued (i : CoreId → Instr) (opc : Nat) (post : PostKind) (engine : Nat → Nat)
      (P : State → State → CoreId → Nat → QEntry → Prop) : Prop :=
    ∀ (id : CoreId) (s : State), s.issues id 3 opc → s.slotActive id 3 = true → yields (i id) s (fun t =>
      let c := s.core id.key
      (t.core id.key).posted = c.posted ++ [⟨c.nextId, post, none⟩] ∧
      ∃ e, (t.tile id.pos).queue = (s.tile id.pos).queue ++ [e] ∧ e.engine = engine (s.slotWord id 3) ∧ e.core = id.core ∧
        e.posted = c.nextId ∧ e.started = false ∧ P s t id (s.slotWord id 3) e)
  let slotted (scatter : Bool) (s t : State) (id : CoreId) (w : Nat) (e : QEntry) : Prop :=
    let c := s.core id.key
    let sb := (c.sreg (tSb w)).val.toNat
    let n := bitsOf sb 24 12 * bitsOf sb 36 8 + (if scatter then 0 else bitsOf sb 62 1)
    ((t.core id.key).stream (tTd w)).pos = (c.stream (tTd w)).pos + BitVec.ofNat 16 n ∧
    ∃ o, t.ops = s.ops ++ [o] ∧ o.pos = id.pos ∧ o.core = id.core ∧ o.entry = e.id ∧ o.scatter = scatter ∧
      o.slot = (c.sreg (tSa w)).val.toNat % 2 ^ 8 ∧ o.sb = (c.sreg (tSb w)).val ∧ o.start = (c.stream (tTd w)).pos.toNat ∧
      o.phase = .arriving
  queued .tFill 0x0D .fill (fun _ => 2) (fun s _ id w e => e.kind = .fill ∧ e.ready = true ∧
    e.desc = [((s.core id.key).sreg (tSa w)).val, ((s.core id.key).sreg (tSb w)).val &&& 0xFFFFFFFF#64,
      ((s.core id.key).sreg (tSc w)).val, BitVec.ofNat 64 (tImm w)]) ∧
  queued .tCopy 0x0E .copy (fun _ => 2) (fun s _ id w e => e.kind = .copy ∧ e.ready = true ∧
    e.desc = [((s.core id.key).sreg (tSa w)).val, ((s.core id.key).sreg (tSb w)).val,
      ((s.core id.key).sreg (tSc w)).val, BitVec.ofNat 64 (tImm w)]) ∧
  queued .tMov 0x0F .mov (fun w => bitsOf w 36 1) (fun s t id w e => e.kind = .mov ∧ e.ready = false ∧
    ∃ a, t.access = s.access ++ [a] ∧ a.pos = id.pos ∧ a.agent = id.core ∧ a.task = .desc e.id ∧
      a.whole = ((ownOffset ((s.core id.key).sreg (tSa w)).val.toNat 64).getD 0, 64)) ∧
  queued .tSgat 0x10 .gather (fun _ => 0) (fun s t id w e => e.kind = .gather s.nextOp ∧ slotted false s t id w e) ∧
  queued .tSscat 0x11 .scatter (fun _ => 0) (fun s t id w e => e.kind = .scatter s.nextOp ∧ slotted true s t id w e) ∧
  (∀ (id : CoreId) (s : State), s.issues id 3 0x12 → s.slotActive id 3 = true → yields (.tWopen id) s (fun t =>
    let c := s.core id.key
    let w := s.slotWord id 3
    (t.core id.key).posted = c.posted ++ [⟨c.nextId, .wopen, none⟩] ∧ t.tiles = s.tiles ∧
    ∃ a, t.access = s.access ++ [a] ∧ a.pos = id.pos ∧ a.agent = id.core ∧ a.task = .wopen id.core (bitsOf w 36 4) ∧
      a.whole = ((ownOffset (c.sreg (tSa w)).val.toNat 16).getD 0, 16) ∧ a.holder = .posted id.key c.nextId))

/-- R44: the result that is due first lands in its destination, and no other register changes; while a bundle may still issue
before its first reader it waits. -/
def Obligations.ResultsLand : Prop :=
  ∀ (id : CoreId) (s : State) (p : Pend), id.wf = true → firstPend (s.core id.key).pend = some p →
    (∀ a r, p.dst = .accRow a r → r < 64) →
    ((∃ n, s.issueFrom id.pos (s.core id.key) = some n ∧ n < p.due) → exec (.registerWriteback id) s = .next s) ∧
    ((∀ n, s.issueFrom id.pos (s.core id.key) = some n → p.due ≤ n) → yields (.registerWriteback id) s (fun t =>
      let c := s.core id.key
      let d := t.core id.key
      d.pend = c.pend.erase p ∧ s.onlyCores t ∧ t.faults = s.faults ∧ (∀ j, j ≠ id.key → t.core j = s.core j) ∧
      (∀ n, 0 < n → p.dst = .sreg n → d.sreg n = ⟨p.val.setWidth 64, p.poison.setWidth 2⟩) ∧
      (∀ n, p.dst ≠ .sreg n → d.sreg n = c.sreg n) ∧
      (∀ n, 0 < n → p.dst = .preg n → d.preg n = p.val.setWidth 64) ∧ (∀ n, p.dst ≠ .preg n → d.preg n = c.preg n) ∧
      (∀ n j, j < 64 → p.dst = .vreg n → (d.vreg n).val.lane j =
        if p.mask.getLsbD j then p.val.lane j else (c.vreg n).val.lane j) ∧
      (∀ n j, p.dst = .vreg n → (d.vreg n).poison.getLsbD j =
        if p.mask.getLsbD j then p.poison.getLsbD j else (c.vreg n).poison.getLsbD j) ∧
      (∀ n, p.dst ≠ .vreg n → d.vreg n = c.vreg n) ∧
      (∀ a r, r < 64 → d.accRow a r = if p.dst = .accRow a r then p.val else if p.dst = .accAll a then 0 else c.accRow a r) ∧
      d.wb = c.wb ∧ d.t = c.t ∧ d.pc = c.pc ∧ d.state = c.state ∧
      ((∀ n, p.dst ≠ .ctl n) → t.csr = s.csr) ∧
      (p.dst = .ctl 0x08 → t.rd (TILE_CORE_TRAPVEC id.pos id.core) = (p.val.setWidth 64).toNat &&& (0x7FF + 2 ^ 63)) ∧
      (p.dst = .ctl 0x06 → t.rd (TILE_CORE_SRSEED id.pos id.core) = (p.val.setWidth 64).toNat) ∧
      (p.dst = .ctl 0x01 → t.csr = s.csr)))

/-- R46: a bundle whose T slot must wait stalls as a whole. R47, R69, R75, R147: the ends of the four stalls. R51: sequential
issue never wraps; the core traps with TPC 2,047 and TINFO 0. -/
def Obligations.StallsAndOverrun : Prop :=
  (∀ (i : Instr) (id : CoreId) (k opc : Nat), slotOf i = some (id, k, opc) → ∀ (s : State) (w : Stall) (st : BitVec 3),
    id.wf = true → s.meet id.pos id.core k opc = .stall w st → yields i s (fun t =>
      (t.core id.key).stall = w ∧ (t.core id.key).state = st ∧ (t.core id.key).stallFrom = (s.core id.key).nextIssue ∧
      (t.core id.key).perfFrom = (s.core id.key).nextIssue ∧
      (t.core id.key).pc = (s.core id.key).pc ∧ (t.core id.key).pend = (s.core id.key).pend ∧
      (s.core id.key).keeps (t.core id.key) ∧ t.csr = s.csr ∧ t.faults = s.faults ∧ s.onlyCores t)) ∧
  (let resumed (s t : State) (id : CoreId) : Prop :=
    let c := s.core id.key
    let d := t.core id.key
    d.stall = .none ∧ d.state = (if c.handler = true then 4 else 1) ∧ d.nextIssue % 16 = 0 ∧ c.stallFrom < d.nextIssue ∧
    d.pc = c.pc ∧ c.keeps d ∧ d.pend = c.pend ∧
    t.fld (TILE_CORE_PERFn_COUNT id.pos id.core (if c.state = 2 then 1 else 2)) =
      (s.fld (TILE_CORE_PERFn_COUNT id.pos id.core (if c.state = 2 then 1 else 2)) + (d.nextIssue - c.perfFrom)) % 2 ^ 48 ∧
    (∀ j, j ≠ id.key → t.core j = s.core j) ∧ s.onlyCores t
  ∀ (id : CoreId) (s : State), id.wf = true →
    let c := s.core id.key
    (c.stall = .fence → c.posted = [] → yields (.stallResume id) s (fun t => resumed s t id)) ∧
    (c.stall = .flow → s.tStall id.pos c (s.slotWord id 3) = none → yields (.stallResume id) s (fun t => resumed s t id)) ∧
    (∀ o thr r, c.stall = .wait o thr (some r) → yields (.waitRelease id) s (fun t =>
      resumed s t id ∧ r ≤ (t.core id.key).nextIssue)) ∧
    (c.stall = .load true → yields (.directLoadReturn id) s (fun t =>
      resumed s t id ∧ c.nextIssue ≤ (t.core id.key).nextIssue)) ∧
    ((c.stall = .none ∨ c.stall = .load false ∨ ∃ o thr, c.stall = .wait o thr none) →
      exec (.stallResume id) s = .next s ∧ exec (.waitRelease id) s = .next s ∧ exec (.directLoadReturn id) s = .next s)) ∧
  (∀ (id : CoreId) (s : State), id.wf = true → s.live id.pos (s.core id.key) = true → (s.core id.key).overrun = true →
    s.caughtUp id.key (s.core id.key) (s.core id.key).nextIssue = true →
    yields (.sequentialIssueOverrun id) s (fun t => s.trapped t id 2047 0 (Trap.at 7 0 0) ∧ s.onlyTransfer t ∧
      t.rd (TILE_CORE_TINFO id.pos id.core) = 0 ∧ (t.core id.key).overrun = false))

/-- R38, R74: starting and halting a core from the control space. -/
def Obligations.CoreRunHalt : Prop :=
  ∀ (a : Agent) (id : CoreId) (s : State), id.wf = true → s.mute a (TILE_CORE_CTRL id.pos id.core).addr = false →
    (s.mayWrite a .mgmt = true → s.flag (TILE_CORE_CTRL_RUN id.pos id.core) = false → s.clkState (groveOf id.pos) = 2 →
      yields (.coreRun a id) s (fun t =>
        let d := t.core id.key
        d.s = [] ∧ d.p = [] ∧ d.v = [] ∧ d.acc = [] ∧ d.wb = [] ∧ d.t = [] ∧ d.loops = [] ∧ d.state = 1 ∧ d.handler = false ∧
        d.pc = BitVec.ofNat 11 (s.fld (TILE_CORE_ENTRY_ENTRY id.pos id.core)) ∧ d.nextIssue % 16 = 0 ∧
        t.flag (TILE_CORE_CTRL_RUN id.pos id.core) = true ∧ t.spad = s.spad ∧ t.spadPoison = s.spadPoison ∧ t.imem = s.imem ∧
        (∀ j, j ≠ id.key → t.core j = s.core j))) ∧
    (s.mayWrite a .mgmt = true → (s.flag (TILE_CORE_CTRL_RUN id.pos id.core) = true ∨ s.clkState (groveOf id.pos) ≠ 2) →
      exec (.coreRun a id) s = .next s) ∧
    (s.mayWrite a .mgmt = true → (s.core id.key).stopped = false → (s.core id.key).issued ≠ 0 →
      yields (.coreHalt a id) s (fun t => (t.core id.key).ending = some 7 ∧ (t.core id.key).state = (s.core id.key).state ∧
        t.flag (TILE_CORE_CTRL_RUN id.pos id.core) = false ∧ (∀ j, j ≠ id.key → t.core j = s.core j))) ∧
    (s.mayWrite a .mgmt = true → (s.core id.key).stopped = true → yields (.coreHalt a id) s (fun t =>
      (t.core id.key).state = (s.core id.key).state ∧ t.flag (TILE_CORE_CTRL_RUN id.pos id.core) = false ∧
      (∀ j, j ≠ id.key → t.core j = s.core j))) ∧
    (s.mayWrite a .mgmt = true → (s.core id.key).stopped = false → (s.core id.key).issued = 0 →
      yields (.coreHalt a id) s (fun t =>
        (t.core id.key).state = 7 ∧ (t.core id.key).stall = .none ∧ (t.core id.key).pc = (s.core id.key).pc ∧
        (s.core id.key).keeps (t.core id.key) ∧ (t.core id.key).pend = (s.core id.key).pend ∧
        t.flag (TILE_CORE_CTRL_RUN id.pos id.core) = false ∧ (∀ j, j ≠ id.key → t.core j = s.core j))) ∧
    (s.mayWrite a .mgmt = false → ∀ i, i = Instr.coreRun a id ∨ i = Instr.coreHalt a id → yields i s (fun t =>
      t.cores = s.cores ∧ t.csr = s.csr ∧
      ∃ r, t.faults.flying = s.faults.flying ++ [r] ∧ r.source = 0x3599 ∧ r.cause = 2))

/-- R111, R116, R122, R123, R132: the access of an agent that meets its turn next. A write lands or is refused whole at its
window; a read makes its first part and keeps it, or brings all its bytes; a feeder that holds the bank puts either off. -/
def Obligations.WheelTurns : Prop :=
  ∀ (pos agent : Nat) (s : State) (i : Nat) (a : Access), pos < 576 → agent < 16 →
    nextAccess pos agent s.access 0 = some (i, a) → s.winsDue pos a.due = false → s.marksDue pos a.due = false →
    yields (.wheelTurnAccess pos agent) s (fun t => s.onlyTiles t) ∧
    (s.feederAt pos (banksOf a.off a.len) a.due = none →
      (∀ cls, a.task = .write cls → (a.off = a.whole.1 → s.windowReason a.pos a.whole.1 a.whole.2 cls = none) →
        yields (.wheelTurnAccess pos agent) s (fun t =>
          Mem.read t.spad (spadKey a.pos a.off) a.len = a.data.toNat % 256 ^ a.len ∧
          s.spadKept t a.pos a.off (a.off + a.len) ∧ t.imem = s.imem ∧ s.onlyTiles t)) ∧
      (∀ cls r, a.task = .write cls → a.off = a.whole.1 → s.windowReason a.pos a.whole.1 a.whole.2 cls = some r →
        yields (.wheelTurnAccess pos agent) s (fun t =>
          s.spadSame t ∧ s.countedBy t (TILE_SPAD_DISCARD_CNT a.pos) 1 ∧ s.onlyTiles t ∧ t.imem = s.imem)) ∧
      ((∀ cls, a.task ≠ .write cls) → yields (.wheelTurnAccess pos agent) s (fun t =>
        s.spadSame t ∧ s.onlyTiles t ∧ ((∀ id n, a.task ≠ .store id n) → t.imem = s.imem ∧ t.imemEcc = s.imemEcc) ∧
        (a.first = true → t.cores = s.cores ∧ t.net = s.net ∧ t.msgs = s.msgs ∧ t.tiles = s.tiles ∧
          t.access.length = s.access.length) ∧
        (∀ key dst lat, a.task = .load key dst lat → a.first = false → a.timed = true → dst ≠ .sreg 0 →
          let r := a.joined (Mem.read s.spad (spadKey a.pos a.off) a.len) (s.spadPoisonBits a.pos a.off a.len)
          (t.core key).pend = (s.core key).pend ++ [⟨a.due + lat, dst.dst, BitVec.allOnes 64,
            BitVec.ofNat 2048 r.1, BitVec.ofNat 64 r.2⟩])))) ∧
    (∀ b w c, s.feederAt pos (banksOf a.off a.len) a.due = some (b, w, c) →
      yields (.wheelTurnAccess pos agent) s (fun t => s.spadSame t ∧ t.imem = s.imem ∧ t.net = s.net ∧ t.msgs = s.msgs ∧
        t.access.length = s.access.length ∧
        (if a.timed = true then s.countedBy t (TILE_SPAD_CONFLICT_CNT a.pos) 1 ∧ t.captured (TILE_SPAD_CONFLICT_CAP a.pos) = true
          else s.countedBy t (TILE_SPAD_YIELD_CNT a.pos) 1)))

/-- R79, R85, R93, R115: the fetches of weights and activations; poison in a pad word is ignored. -/
def Obligations.FeederFetches : Prop :=
  (∀ (id : CoreId) (s : State) (i : Nat) (j : FeedJob), id.wf = true → nextJob (s.core id.key).feedW 0 = some (i, j) →
    ¬((s.core id.key).issued ≠ 0 ∧ (s.core id.key).nextIssue ≤ j.cycle true j.done) →
    s.marksDue id.pos (j.cycle true j.done) = false →
    1024 * j.done + 8 * (j.bytes true j.done).2 ≤ 65536 → yields (.feederFetch id true) s (fun t =>
      let p := j.bytes true j.done
      bitsOf ((t.core id.key).wbuf j.wb).bytes.toNat (1024 * j.done) (8 * p.2) = Mem.read s.spad (spadKey id.pos p.1) p.2 ∧
      bitsOf ((t.core id.key).wbuf j.wb).poison.toNat (32 * j.done) (p.2 / 4) = s.spadPoisonBits id.pos p.1 p.2 ∧
      (∀ n, n ≠ j.wb → (t.core id.key).wbuf n = (s.core id.key).wbuf n) ∧ (t.core id.key).acc = (s.core id.key).acc ∧
      t.spad = s.spad ∧ t.spadPoison = s.spadPoison ∧ s.onlyTiles t)) ∧
  (∀ (id : CoreId) (s : State) (i : Nat) (j : FeedJob), id.wf = true → nextJob (s.core id.key).feedA 0 = some (i, j) →
    ¬((s.core id.key).issued ≠ 0 ∧ (s.core id.key).nextIssue ≤ j.cycle false j.done) →
    s.marksDue id.pos (j.cycle false j.done) = false →
    let p := j.bytes false j.done
    let poison := s.spadPoisonBits id.pos p.1 p.2 % 2 ^ activationWords j.fmt
    (poison = 0 → yields (.feederFetch id false) s (fun t =>
      (j.done + 1 ≠ j.total → (t.core id.key).acc = (s.core id.key).acc) ∧
      (j.done + 1 = j.total → ∀ r x, (j.acts ++ [Mem.read s.spad (spadKey id.pos p.1) p.2])[r]? = some x →
        (t.core id.key).accRow j.acc r = mmulRow j.fmt j.fmtW x ((s.core id.key).wbuf j.wb).bytes.toNat
          (if j.clr then 0 else (s.core id.key).accRow j.acc r)) ∧
      (t.core id.key).wb = (s.core id.key).wb ∧ t.spad = s.spad ∧ s.onlyTiles t)) ∧
    (poison ≠ 0 → yields (.feederFetch id false) s (fun t =>
      (t.core id.key).acc = (s.core id.key).acc ∧ t.rd (TILE_CORE_TCAUSE id.pos id.core) = 4 ∧
      t.rd (TILE_CORE_TPC id.pos id.core) = j.pc % 2 ^ 64 ∧ t.spad = s.spad)))

/-- R111, R113, R116, R126, R127: what a queued fill or copy does when the engine makes its next access: a piece within 256 bytes
and one bank group is read or written at the engine's turn, put off where a feeder holds the bank; the last piece
frees the entry; a range that breaks a rule is an error and moves nothing. -/
def Obligations.MemorySideEngine : Prop :=
  ∀ (pos : Nat) (s : State) (e : QEntry), pos < 576 → s.engineHead pos 2 = some e →
    let sa := (e.desc.getD 0 0).toNat
    let sb := (e.desc.getD 1 0).toNat
    let n := (e.desc.getD 2 0).toNat
    let freed (t : State) : Prop := (t.tile pos).queue = (s.tile pos).queue.filter (fun x => x.id ≠ e.id) ∧ s.onlyTiles t
    let put (t : State) (off len data : Nat) : Prop :=
      Mem.read t.spad (spadKey pos off) len = data % 256 ^ len ∧ s.spadKept t pos off (off + len) ∧
      (n ≤ e.issued + len → freed t) ∧
      (e.issued + len < n → s.entryIs t pos e (fun x => { x with started := true, issued := x.issued + len, piece := none }) ∧
        s.onlyTiles t)
    let deferred (t : State) : Prop := s.spadSame t ∧ (t.tile pos).queue = (s.tile pos).queue ∧
      s.countedBy t (TILE_SPAD_YIELD_CNT pos) 1 ∧ s.onlyTiles t
    let free (off len : Nat) : Prop :=
      s.marksDue pos (s.msNext pos off len) = false ∧ s.winsDue pos (s.msNext pos off len) = false
    let feeder (off len : Nat) : Bool := (s.feederAt pos (banksOf off len) (s.msNext pos off len)).isSome
    (e.kind = .fill → n = 0 → yields (.mseFill pos) s (fun t => freed t ∧ s.spadSame t)) ∧
    (e.kind = .fill → 0 < n → ∀ c, mseCheck [sa] n = some c → yields (.mseFill pos) s (fun t => freed t ∧ s.spadSame t ∧
      s.countedBy t (TILE_SPAD_MSERR_CNT pos) 1)) ∧
    (e.kind = .fill → 0 < n → mseCheck [sa] n = none →
      let off := sa + e.issued
      let len := mseLen off n e.issued
      free off len →
      (feeder off len = true → yields (.mseFill pos) s (fun t => deferred t)) ∧
      (feeder off len = false → yields (.mseFill pos) s (fun t => put t off len (repeatWord sb (len / 4)) ∧
        (∀ k, spadKey pos off / 4 ≤ k → k < spadKey pos off / 4 + len / 4 → t.spadPoison.has k = false)))) ∧
    (e.kind = .copy → n = 0 → yields (.mseCopy pos) s (fun t => freed t ∧ s.spadSame t)) ∧
    (e.kind = .copy → 0 < n → ((mseCheck [sa, sb] n).isSome = true ∨ (sa < sb + n ∧ sb < sa + n)) →
      yields (.mseCopy pos) s (fun t => freed t ∧ s.spadSame t ∧ s.countedBy t (TILE_SPAD_MSERR_CNT pos) 1)) ∧
    (e.kind = .copy → 0 < n → mseCheck [sa, sb] n = none → (sb + n ≤ sa ∨ sa + n ≤ sb) →
      let len := min (mseLen (sa + e.issued) n e.issued) (mseLen (sb + e.issued) n e.issued)
      (e.piece = none → free (sb + e.issued) len →
        (feeder (sb + e.issued) len = true → yields (.mseCopy pos) s (fun t => deferred t)) ∧
        (feeder (sb + e.issued) len = false → yields (.mseCopy pos) s (fun t => s.spadSame t ∧ s.onlyTiles t ∧
          s.entryIs t pos e (fun x => { x with started := true
                                               piece := some (BitVec.ofNat 2048 (Mem.read s.spad (spadKey pos (sb + e.issued)) len),
                                                 BitVec.ofNat 64 (s.spadPoisonBits pos (sb + e.issued) len)) })))) ∧
      (∀ d, e.piece = some d → free (sa + e.issued) len →
        (feeder (sa + e.issued) len = true → yields (.mseCopy pos) s (fun t => deferred t)) ∧
        (feeder (sa + e.issued) len = false → yields (.mseCopy pos) s (fun t => put t (sa + e.issued) len d.1.toNat))))

/-- R129, R132, R133, R135: marking, scrubbing and clearing. -/
def Obligations.SpadRepairs : Prop :=
  ∀ (pos : Nat) (s : State), pos < 576 →
    (∀ m, nextMark pos s.marks = some m →
      let k := spadKey pos m.off
      let held := (s.feederAt pos (banksOf m.off (if m.line then 128 else 4)) m.due).isSome
      (held = true → yields (.poisonMarking pos) s (fun t => s.spadSame t ∧ s.countedBy t (TILE_SPAD_YIELD_CNT pos) 1 ∧
        t.marks = replaceAt s.marks (s.marks.idxOf m) { m with due := m.due + 16 })) ∧
      (held = false → yields (.poisonMarking pos) s (fun t => t.spad = s.spad ∧ t.marks = s.marks.erase m ∧ s.onlyTiles t ∧
        (m.line = false → SMap.get 0 s.spadEcc (k / 4) = 2 → t.spadPoison.has (k / 4) = true ∧ SMap.get 0 t.spadEcc (k / 4) = 0) ∧
        (m.line = true → s.spadLine.has (k / 128) = true → t.spadLine.has (k / 128) = false ∧
          ∀ i, i < 32 → t.spadPoison.has (k / 128 * 32 + i) = true)))) ∧
    (s.flag (TILE_SPAD_CFG_SCRUB_EN pos) = true → s.clkState (groveOf pos) = 2 → yields (.scrubPass pos) s (fun t =>
      t.spad = s.spad ∧ t.spadPoison = s.spadPoison ∧
      SMap.get 0 s.clk.last (1000 + pos) + s.fld (TILE_SPAD_CFG_SCRUB_PERIOD pos) * 100000000 ≤ t.clk.ref ∧
      (∀ l, spadKey pos 0 / 128 ≤ l → l < spadKey pos spadLimit / 128 → t.spadLineCe.has l = false) ∧
      t.fld (TILE_SPAD_SCRUB_PASS_PASSES pos) = (s.fld (TILE_SPAD_SCRUB_PASS_PASSES pos) + 1) % 2 ^ 48 ∧
      (∀ k, spadKey pos 0 / 4 ≤ k → k < spadKey pos spadLimit / 4 → SMap.get 0 s.spadEcc k = 1 → SMap.get 0 t.spadEcc k = 0))) ∧
    (∀ a, s.mute a (TILE_SPAD_CLEAR pos).addr = false → s.mayWrite a .mgmt = true →
      (s.tileStopped pos = true → yields (.spadClearStart a pos) s (fun t =>
        t.flag (TILE_SPAD_CLEAR_BUSY pos) = true ∧ (t.tile pos).clearing = true ∧ s.spadSame t)) ∧
      (s.tileStopped pos = false → yields (.spadClearStart a pos) s (fun t => s.refusedWrite t))) ∧
    ((s.tile pos).clearing = true → yields (.spadClearDone pos) s (fun t =>
      t.flag (TILE_SPAD_CLEAR_BUSY pos) = false ∧ (t.tile pos).clearing = false ∧
      (∀ r b, r < 96 → b < 0x100000 → Mem.byte t.spad (spadKey pos (r * 0x100000 + b)) =
        if s.resident pos r = true then Mem.byte s.spad (spadKey pos (r * 0x100000 + b)) else 0) ∧
      s.spadKept t pos 0 spadLimit))

/-- R118, R119, R121, R124, R125, R134: windows opened and closed by cores and from the control space, reach entries, captures. -/
def Obligations.WindowsAndReach : Prop :=
  let due (s : State) (pos : Nat) (open_ : Bool) (x : WinChange) : Prop := nextWin open_ (s.tile pos).wins = some x ∧
    winBefore (s.tile pos).wins x = false ∧ s.turnsBefore pos x.at_ = false ∧ x.n < 16
  let effect (pos : Nat) (x : WinChange) (s t : State) : Prop :=
      (t.tile pos).wins = (s.tile pos).wins.erase x ∧ s.onlyTiles t ∧ s.spadSame t ∧
      (x.control = none → (s.core (coreKey pos x.core)).without (t.core (coreKey pos x.core)) x.id) ∧
      (x.record = none → t.flag (TILE_SPAD_WINn_HI_OPEN pos x.n) = false) ∧
      (∀ hi, x.control = some hi → t.cores = s.cores ∧ bitsOf (t.rd (TILE_SPAD_WINn_HI pos x.n)) 0 36 = bitsOf hi.toNat 0 36 ∧
        t.flag (TILE_SPAD_WINn_HI_OPEN pos x.n) =
          (x.record.isSome && winValid (s.rd (TILE_SPAD_WINn_LO pos x.n)) (bitsOf hi.toNat 0 36))) ∧
      (∀ lo hi, x.control = none → x.record = some (lo, hi) → winValid lo.toNat hi.toNat = true →
        t.rd (TILE_SPAD_WINn_LO pos x.n) = lo.toNat ∧ t.flag (TILE_SPAD_WINn_HI_OPEN pos x.n) = true ∧
        bitsOf (t.rd (TILE_SPAD_WINn_HI pos x.n)) 0 36 = bitsOf hi.toNat 0 36) ∧
      (∀ lo hi, x.control = none → x.record = some (lo, hi) → winValid lo.toNat hi.toNat = false →
        t.flag (TILE_SPAD_WINn_HI_OPEN pos x.n) = false ∧ s.countedBy t (TILE_SPAD_MSERR_CNT pos) 1)
  ((∀ (pos : Nat) (s : State) (x : WinChange), pos < 576 →
    (due s pos true x → yields (.windowOpenEffect pos) s (effect pos x s)) ∧
    (due s pos false x → yields (.windowCloseEffect pos) s (effect pos x s))) ∧
  (∀ (a : Agent) (pos n : Nat) (hi : W64) (s : State), pos < 576 → n < 16 →
    s.mute a (TILE_SPAD_WINn_HI pos n).addr = false →
    let waits := s.turnsBefore pos (s.hereNow pos) = true ∨ ∃ y ∈ (s.tile pos).wins, y.n = n ∧ y.at_ ≤ s.hereNow pos
    let queued (t : State) (r : Option (W64 × W64)) : Prop := t = { s with tiles := t.tiles } ∧
      (t.tile pos).wins = (s.tile pos).wins ++ [⟨n, s.hereNow pos, 8, r, n, 0, some hi⟩]
    (s.mayWrite a .tile = true →
      (¬waits → yields (.controlWindowOpen a pos n hi) s (fun t =>
        t.flag (TILE_SPAD_WINn_HI_OPEN pos n) = winValid (s.rd (TILE_SPAD_WINn_LO pos n)) (bitsOf hi.toNat 0 36) ∧
        bitsOf (t.rd (TILE_SPAD_WINn_HI pos n)) 0 36 = bitsOf hi.toNat 0 36 ∧
        t.rd (TILE_SPAD_WINn_LO pos n) = s.rd (TILE_SPAD_WINn_LO pos n) ∧ t.spad = s.spad ∧ t.clk = s.clk)) ∧
      (waits → yields (.controlWindowOpen a pos n hi) s (fun t => queued t (some (0, hi)))) ∧
      (¬waits → yields (.controlWindowClose a pos n hi) s (fun t => t.flag (TILE_SPAD_WINn_HI_OPEN pos n) = false ∧
        bitsOf (t.rd (TILE_SPAD_WINn_HI pos n)) 0 36 = bitsOf hi.toNat 0 36 ∧ t.spad = s.spad)) ∧
      (waits → yields (.controlWindowClose a pos n hi) s (fun t => queued t none))) ∧
    (s.mayWrite a .tile = false →
      yields (.controlWindowOpen a pos n hi) s (fun t => s.refusedWrite t) ∧
      yields (.controlWindowClose a pos n hi) s (fun t => s.refusedWrite t)))) ∧
  ((∀ (a : Agent) (pos d : Nat) (v : W64) (s : State), pos < 576 → d < 4 →
    s.mute a (TILE_SPAD_REACH_d pos d).addr = false → s.mayWrite a .mgmt = true →
    ((v.getLsbD 15 = false ∨ s.reachOk pos (v.toNat % 2 ^ 9) = true) → yields (.reachEntryWrite a pos d v) s (fun t =>
      t.fld (TILE_SPAD_REACH_d_LOGICAL pos d) = v.toNat % 2 ^ 9 ∧ t.flag (TILE_SPAD_REACH_d_VALID pos d) = v.getLsbD 15 ∧
      bitsOf (t.rd (TILE_SPAD_REACH_d pos d)) 16 2 = s.pathOf pos d (v.toNat % 2 ^ 9) (v.getLsbD 15) % 4 ∧
      t.spad = s.spad ∧ t.cores = s.cores)) ∧
    (v.getLsbD 15 = true → s.reachOk pos (v.toNat % 2 ^ 9) = false →
      yields (.reachEntryWrite a pos d v) s (fun t => s.refusedWrite t))) ∧
  (∀ (a : Agent) (addr : Nat) (s : State) (row : RegRow) (reg : Nat), (blkOf addr).reg = some (row, reg) →
    row.isCapture = true → s.mute a addr = false → s.mayWrite a row.who = true →
    yields (.captureRearm a addr) s (fun t => Nat.testBit (t.rd ⟨reg, row.rst⟩) 63 = false ∧
      bitsOf (t.rd ⟨reg, row.rst⟩) 0 63 = bitsOf (s.rd ⟨reg, row.rst⟩) 0 63 ∧
      (∀ q : Reg, q.addr ≠ reg → t.rd q = s.rd q) ∧ t.faults = s.faults ∧ t.cores = s.cores)))


/-- R140, R142, R144, R145, R151: adds and sets at their home; sets of one cycle take effect in the order of their inputs. -/
def Obligations.SyncApply : Prop :=
  let applied (o i : Nat) (m : SyncMsg) (s t : State) : Prop :=
    (t.obj o).count = (if m.set = true then m.value else (s.obj o).count + m.value) ∧
    (∀ q, q ≠ o → t.obj q = s.obj q) ∧ t.msgs = removeAt s.msgs i ∧ s.onlySync t ∧
    (t.obj o).short = (s.obj o).short ∧ (t.obj o).void = ((s.obj o).void || (!m.set && m.void)) ∧
    (∀ pos core thr, s.posOf (o / 256) = some pos → o / 256 < 504 → core < 8 →
      (s.core (coreKey pos core)).stall = .wait o thr none → reached (t.obj o).count thr = true →
      (t.core (coreKey pos core)).stall = .wait o thr (some (s.hereNow pos + 2))) ∧
    (∀ w, w < 64 → s.fld (SEQ_WATCHw_OBJ w) = o → s.flag (SEQ_WATCHw_ARM w) = true → (s.syncOwner o).isSome = true →
      reached (t.obj o).count (BitVec.ofNat 32 (s.fld (SEQ_WATCHw_THRESH w))) = true →
      t.flag (SEQ_WATCHw_FIRED w) = true ∧ t.flag (SEQ_WATCHw_ARM w) = false)
  let discarded (i : Nat) (s t : State) : Prop :=
    t.sync = s.sync ∧ t.msgs = removeAt s.msgs i ∧ s.onlySync t ∧ s.countedBy t SEQ_SYNCERR_CNT 1
  (∀ (o i : Nat) (m : SyncMsg) (s : State), o < 131072 → s.firstReady o false = some (i, m) →
    (s.homeOf m ≠ .none → s.syncFault m = none → yields (.syncAddApply o 1) s (applied o i m s)) ∧
    ((s.homeOf m = .none ∨ (s.syncFault m).isSome = true) → yields (.syncAddApply o 1) s (discarded i s))) ∧
  (∀ (o i : Nat) (m : SyncMsg) (s : State), o < 131072 → s.firstReady o true = some (i, m) → m.void = false →
    (s.homeOf m ≠ .none → s.syncFault m = none → yields (.syncSetApply ⟨o, 1, 0⟩) s (applied o i m s)) ∧
    ((s.homeOf m = .none ∨ (s.syncFault m).isSome = true) → yields (.syncSetApply ⟨o, 1, 0⟩) s (discarded i s))) ∧
  (∀ (o : Nat) (m₁ m₂ : SyncMsg) (s : State), o < 131072 → s.cycleSets o 2 = [m₁, m₂] → s.homeOf m₁ ≠ .none →
    s.homeOf m₂ ≠ .none → s.syncFault m₁ = none → s.syncFault m₂ = none → s.setRank m₁ ≤ s.setRank m₂ ∧
      yields (.syncSetApply ⟨o, 2, 0⟩) s (fun t => (t.obj o).count = m₂.value ∧ s.onlySync t ∧ ∀ q, q ≠ o → t.obj q = s.obj q)) ∧
  (∀ (o n : Nat) (s t : State), exec (.syncAddApply o n) s = .next t → s.onlySync t ∧ ∀ q, q ≠ o → t.obj q = s.obj q) ∧
  (∀ (o n k : Nat) (s t : State), exec (.syncSetApply ⟨o, n, k⟩) s = .next t → s.onlySync t ∧ ∀ q, q ≠ o → t.obj q = s.obj q)

/-- R144, R150, R151, R163, R393: held messages, commands on objects, and watches. -/
def Obligations.SyncMessages : Prop :=
  (∀ (n : Nat) (s : State) (m : SyncMsg), s.msgs[n]? = some m → m.phase = .flying → s.guardMet m.guard_ = true →
    s.homeOf m = .fenced → yields (.syncNack n) s (fun t =>
      t = { s with msgs := replaceAt s.msgs n { m with phase := .held (s.hereNow m.pos) (s.copyEntry m.pos (m.obj / 256)) } })) ∧
  (∀ (n since entry : Nat) (s : State) (m : SyncMsg), s.msgs[n]? = some m → m.phase = .held since entry →
    yields (.syncAddResend n) s (fun t => t.msgs = replaceAt s.msgs n { m with phase := .flying } ∧ t.sync = s.sync ∧
      (s.copyEntry m.pos (m.obj / 256) ≠ entry → t.clk = s.clk) ∧
      (s.copyEntry m.pos (m.obj / 256) = entry → since + 1024 ≤ t.cycle (groveOf m.pos)))) ∧
  (∀ (a : Agent) (o : Nat) (v : W32) (s : State), o < 131072 → s.mute a (syncAddr o) = false →
    (s.mayWrite a .tile = true →
      (let sent (set : Bool) (t : State) : Prop := s.onlySync t ∧ t.sync = s.sync ∧
         ∃ m, t.msgs = s.msgs ++ [m] ∧ m.set = set ∧ m.obj = o ∧ m.value = v ∧ m.kind = 3 ∧ m.void = false ∧
           ∀ p, s.syncOwner o = some p → m.part = p
       yields (.syncCmdSet a o v) s (sent true) ∧ yields (.syncCmdAdd a o v) s (sent false)) ∧
      (v = 0 → yields (.syncCmdClearFlags a o v) s (fun t => (t.obj o).short = false ∧ (t.obj o).void = false ∧
        (t.obj o).shortBy = 0 ∧ (t.obj o).count = (s.obj o).count ∧ (∀ q, q ≠ o → t.obj q = s.obj q) ∧ t.msgs = s.msgs)) ∧
      (v ≠ 0 → yields (.syncCmdClearFlags a o v) s (fun t => s.refusedWrite t))) ∧
    (s.mayWrite a .tile = false → yields (.syncCmdAdd a o v) s (fun t => s.refusedWrite t) ∧
      yields (.syncCmdSet a o v) s (fun t => s.refusedWrite t) ∧
      yields (.syncCmdClearFlags a o v) s (fun t => s.refusedWrite t))) ∧
  (∀ (a : Agent) (w : Nat) (v : W64) (s : State), w < 64 → s.mute a (SEQ_WATCHw w).addr = false → s.mayWrite a .tile = true →
    (yields (.seqWatchDisarm a w v) s (fun t => t.flag (SEQ_WATCHw_ARM w) = false ∧ t.sync = s.sync ∧ s.onlySync t)) ∧
    (s.flag (SEQ_WATCHw_ARM w) = false → s.flag (SEQ_WATCHw_FIRED w) = false →
      let fires := (s.syncOwner (v.toNat % 2 ^ 17)).isSome && reached (s.obj (v.toNat % 2 ^ 17)).count ((v >>> 32).setWidth 32)
      yields (.seqWatchArm a w v) s (fun t =>
        t.fld (SEQ_WATCHw_OBJ w) = v.toNat % 2 ^ 17 ∧ t.fld (SEQ_WATCHw_THRESH w) = v.toNat / 2 ^ 32 ∧
        t.flag (SEQ_WATCHw_ARM w) = !fires ∧ t.flag (SEQ_WATCHw_FIRED w) = fires ∧ t.sync = s.sync ∧ s.onlySync t)))

/-- R154 to R156: the commands of a sequence slot, in every state of the slot. -/
def Obligations.SlotCommands : Prop :=
  SlotCommand .activate [0] (fun s k t => (s.slotValid k = true → t.slotState k = 1) ∧
    (s.slotValid k = false → s.slotRejected t k 6)) ∧
  SlotCommand .hold [1] (fun s k t => t.slotState k = 2 ∧ t.rd (SEQ_SLOTs_LEN k) = s.rd (SEQ_SLOTs_LEN k)) ∧
  SlotCommand .resume [2] (fun s k t => t.slotState k = 1 ∧ t.rd (SEQ_SLOTs_LEN k) = s.rd (SEQ_SLOTs_LEN k)) ∧
  SlotCommand .release [1, 2, 3] (fun s k t =>
    (s.fld (SEQ_SLOTs_STATE_INFLIGHT k) = 0 → t.slotState k = 0 ∧ t.releasing.has k = false) ∧
    (s.fld (SEQ_SLOTs_STATE_INFLIGHT k) ≠ 0 → t.slotState k = s.slotState k ∧ t.releasing.has k = true ∧ t.csr = s.csr)) ∧
  (∀ (k : Nat) (s : State), k < 256 → s.releasing.has k = true → s.fld (SEQ_SLOTs_STATE_INFLIGHT k) = 0 →
    yields (.releaseComplete k) s (fun t => t.slotState k = 0 ∧ t.releasing.has k = false ∧ s.onlySync t ∧
      ∀ j, j < 256 → j ≠ k → t.slotState j = s.slotState j)) ∧
  SlotCommand .mark [1, 2] (fun s k t => t.fld (SEQ_SLOTs_STATE_MARK k) = s.fld (SEQ_SLOTs_LEN_LENGTH k) ∧
    t.slotState k = s.slotState k ∧ t.rd (SEQ_SLOTs_LEN k) = s.rd (SEQ_SLOTs_LEN k)) ∧
  SlotCommand .rewind [1, 2, 3] (fun s k t => t.fld (SEQ_SLOTs_LEN_LENGTH k) = s.fld (SEQ_SLOTs_STATE_MARK k) ∧
    t.slotState k = s.slotState k ∧ t.fld (SEQ_SLOTs_LEN_EXTENT k) = s.fld (SEQ_SLOTs_LEN_EXTENT k)) ∧
  (∀ v, SlotCommand (fun a k => .setlen a k v) [1, 2] (fun s k t =>
    (v ≤ s.fld (SEQ_SLOTs_LEN_EXTENT k) → t.fld (SEQ_SLOTs_LEN_LENGTH k) = v ∧ t.slotState k = s.slotState k) ∧
    (s.fld (SEQ_SLOTs_LEN_EXTENT k) < v → s.slotRejected t k 5)))

/-- R149, R156, R159: an operation that reaches the sequence unit is accepted, rejected, or left waiting behind those that
wait on its slot; the one that has waited longest is decided once INFLIGHT is below 511. -/
def Obligations.SeqDecisions : Prop :=
  let accepted (s : State) (o : SeqOp) (t : State) : Prop :=
    t.fld (SEQ_SLOTs_STATE_INFLIGHT o.slot) = s.fld (SEQ_SLOTs_STATE_INFLIGHT o.slot) + 1 ∧ s.onlySync t ∧ t.msgs = s.msgs ∧
    t.ops = s.ops.map (fun x => if x.id = o.id then
      { x with phase := .accepted (s.fld (SEQ_SLOTs_LEN_LENGTH o.slot)) ([s.rd (SEQ_SLOTs_KV o.slot), s.rd (SEQ_SLOTs_LEN o.slot)
                                                                         , s.rd (SEQ_SLOTs_SYNC o.slot), s.rd (SEQ_SLOTs_STATE o.slot)].map (BitVec.ofNat 64)) }
      else x)
  let rejected (c : Nat) (s : State) (o : SeqOp) (t : State) : Prop :=
    t.ops = s.ops.filter (fun x => x.id ≠ o.id) ∧ s.onlySync t ∧ t.sync = s.sync ∧
    t.fld (SEQ_SLOTs_STATE_INFLIGHT o.slot) = s.fld (SEQ_SLOTs_STATE_INFLIGHT o.slot) ∧
    t.fld (SEQ_SLOTs_STATE_ERR o.slot) = c ∧ s.countedBy t SEQ_ERR_CNT 1 ∧
    (t.tile o.pos).queue = (s.tile o.pos).queue.filter (fun e => e.id ≠ o.entry) ∧
    (o.sb.getLsbD 63 = true → ∃ m, t.msgs = s.msgs ++ [m] ∧ m.void = true ∧ m.set = false ∧ m.value = 1 ∧
      m.obj = bitsOf o.sb.toNat 44 17) ∧ (o.sb.getLsbD 63 = false → t.msgs = s.msgs)
  (∀ (s : State) (n : Nat) (o : SeqOp), s.ops[n]? = some o → o.phase = .arriving →
    ((s.fld (SEQ_SLOTs_STATE_INFLIGHT o.slot) = 511 ∨ (firstWaiting o.slot s.ops).isSome = true) →
      yields (.seqOpDecide n) s (fun t => t.csr = s.csr ∧ t.msgs = s.msgs ∧ s.onlySync t ∧
        t.ops = s.ops.map (fun x => if x.id = o.id then { x with phase := .waiting (nextTicket s.ops) } else x))) ∧
    (s.fld (SEQ_SLOTs_STATE_INFLIGHT o.slot) < 511 → firstWaiting o.slot s.ops = none → s.opFault o = none →
      yields (.seqOpDecide n) s (accepted s o)) ∧
    (∀ c, s.fld (SEQ_SLOTs_STATE_INFLIGHT o.slot) < 511 → firstWaiting o.slot s.ops = none → s.opFault o = some c →
      yields (.seqOpDecide n) s (rejected c s o))) ∧
  (∀ (s : State) (slot : Nat) (o : SeqOp), slot < 256 → firstWaiting slot s.ops = some o →
    (s.fld (SEQ_SLOTs_STATE_INFLIGHT slot) < 511 → s.opFault o = none → yields (.seqOpWaitDecide slot) s (accepted s o)) ∧
    (∀ c, s.fld (SEQ_SLOTs_STATE_INFLIGHT slot) < 511 → s.opFault o = some c →
      yields (.seqOpWaitDecide slot) s (rejected c s o)) ∧
    (s.fld (SEQ_SLOTs_STATE_INFLIGHT slot) = 511 → exec (.seqOpWaitDecide slot) s = .next s))

/-- R170, R171, R176 to R179: what a router does with a packet that is not at its last router; words that the way into a
router spoils count once there, and a packet with a bad header is dropped unanswered. -/
def Obligations.PacketMoves : Prop :=
  (∀ (n pos inport : Nat) (p : Pkt) (s : State) (here : LinkErrors), s.atHead n pos inport p → p.arrived = false →
    (∀ e link next it a, s.turnOf pos p = .go link next → s.net[n]? = some it → s.askOf n it = some a → s.wins a = true →
      yields (.packetRoute ⟨n, here⟩ e) s (fun t =>
        (∃ l x, s.left n l ∧ t.net = l ++ [x] ∧ x.place = next ∧ x.checked = true ∧
          x.pkt = { p with ptr := p.ptr + 1, badHeader := x.pkt.badHeader, inlinePoison := x.pkt.inlinePoison, poison := x.pkt.poison } ∧
          x.pkt.badHeader = (if ∃ w, w ∈ e.words ∧ w < 14 then some 0 else if e.poisoned = true then some 1 else none) ∧
          (∀ k, k < 2 → x.pkt.inlinePoison.getLsbD k = (p.inlinePoison.getLsbD k || decide (14 + k ∈ e.words))) ∧
          (∀ k, k < 64 → x.pkt.poison.getLsbD k = (p.poison.getLsbD k || decide (p.flits = 4 ∧ 16 + k ∈ e.words)))) ∧
        (∀ q i, next = .router q i → s.countedBy t (TILE_NET_CE_CNT q) e.single) ∧
        ((∀ q i, next ≠ .router q i) → s.countedBy t (TILE_NET_CE_CNT pos) e.single) ∧
        a.link = link ∧ p.flits ≤ s.credits link (classOf p.type) ∧
        (inLink pos inport ≠ some link → SMap.get 0 t.creditUsed (creditKey link (classOf p.type)) =
          SMap.get 0 s.creditUsed (creditKey link (classOf p.type)) + p.flits) ∧
        (e = LinkErrors.none → t.csr = s.csr ∧ t.faults = s.faults) ∧ s.onlyMesh t)) ∧
    (∀ e link next it, s.turnOf pos p = .go link next → s.net[n]? = some it →
      (s.askOf n it = none ∨ ∃ a, s.askOf n it = some a ∧ s.wins a = false) → exec (.packetRoute ⟨n, here⟩ e) s = .next s) ∧
    (∀ e c, s.turnOf pos p = .drop c → yields (.packetRoute ⟨n, here⟩ e) s (fun t =>
      s.countedBy t (TILE_NET_DROP_CNT pos) 1 ∧ t.captured (TILE_NET_DROP_CAP pos) = true ∧ s.onlyMesh t ∧
      ((2 < p.type ∨ (p.type = 2 ∧ c ≠ 5)) → s.left n t.net) ∧
      (p.type ≤ 2 → c = 5 → s.answersWith n t.net pos p tDEAD 0) ∧
      (p.type ≤ 1 → c ≠ 5 → s.answersWith n t.net pos p tNACK 3)))) ∧
  (∀ (n pos inport c : Nat) (here e : LinkErrors) (it : NetItem) (s : State), s.net[n]? = some it →
    it.place = .router pos inport → s.headItem n it = true → s.routerUp pos = true → it.pkt.arrived = false → c ≤ 1 →
    (if it.checked then it.pkt else it.pkt.crossed here).badHeader = some c →
    yields (.packetRoute ⟨n, here⟩ e) s (fun t => s.left n t.net ∧ s.countedBy t (TILE_NET_DROP_CNT pos) 1 ∧
      t.captured (TILE_NET_DROP_CAP pos) = true ∧ t.track = s.track ∧ s.onlyMesh t)) ∧
  (∀ (n pos inport : Nat) (e : LinkErrors) (it : NetItem) (s t : State), s.net[n]? = some it → it.place = .router pos inport →
    it.checked = false →
    ∀ cmd ∈ ([.packetRoute ⟨n, .none⟩ e, .packetDelivery ⟨n, .none⟩, .sourceAnswer ⟨n, .none⟩, .redAbsorb ⟨n, .none⟩] : List Instr),
      exec cmd { s with net := replaceAt s.net n { it with checked := true } } = .next t →
      exec cmd s = .next t ∨ (exec cmd s = .next s ∧ t = { s with net := replaceAt s.net n { it with checked := true } })) ∧
  (∀ (n pos inport : Nat) (it : NetItem) (s : State), s.net[n]? = some it → it.place = .router pos inport →
    it.stallSent = false → it.pkt.arrived = false → s.headItem n it = true →
    (∃ link next, s.turnOf pos it.pkt = .go link next) →
    (∀ a, (s.atCycle (groveOf pos) (it.at_ + 2 ^ s.fld (TILE_NET_CFG_STALL_LIM pos))).askOf n it = some a →
      (s.atCycle (groveOf pos) (it.at_ + 2 ^ s.fld (TILE_NET_CFG_STALL_LIM pos))).wins a = false) →
    yields (.stallReport n) s (fun t => t.net = replaceAt s.net n { it with stallSent := true } ∧
      it.at_ + 2 ^ s.fld (TILE_NET_CFG_STALL_LIM pos) ≤ t.cycle (groveOf pos) ∧
      s.countedBy t (TILE_NET_STALL_CNT pos) 1 ∧ s.onlyMesh t ∧ t.hasRecord (srcPos pos 19) 5)) ∧
  (∀ (link cls : Nat) (s : State), link < 576 * 32 → cls < 4 → 0 < SMap.get 0 s.creditBack (creditKey link cls) →
    linkSlots link cls ≥ SMap.get 0 s.creditUsed (creditKey link cls) + SMap.get 0 s.creditBack (creditKey link cls) →
    yields (.creditReturn link cls) s (fun t =>
      t = { s with creditBack := t.creditBack, creditUsed := t.creditUsed, net := t.net, bridge := t.bridge } ∧
      SMap.get 0 t.creditBack (creditKey link cls) + 1 = SMap.get 0 s.creditBack (creditKey link cls) ∧
      ((link % 32 ≠ 24 ∨ s.bridge.out = []) → t = { s with creditBack := t.creditBack } ∧
        t.credits link cls = s.credits link cls + 1)))

/-- R120, R172: a request at its last router. -/
def Obligations.Deliveries : Prop :=
  ∀ (n pos inport : Nat) (p : Pkt) (s : State) (here : LinkErrors), s.atHead n pos inport p → p.arrived = true → p.type ≤ 1 →
    (∀ r, s.deliveryReason pos p = some r → r ≠ 3 → yields (.packetDelivery ⟨n, here⟩) s (fun t =>
      s.answersWith n t.net pos p tNACK r ∧ t.access = s.access ∧ t.csr = s.csr ∧ s.onlyMesh t)) ∧
    (s.deliveryReason pos p = some 3 → yields (.packetDelivery ⟨n, here⟩) s (fun t =>
      s.answersWith n t.net pos p tNACK 3 ∧ s.countedBy t (TILE_NET_DROP_CNT pos) 1 ∧
      t.access = s.access ∧ s.onlyMesh t)) ∧
    (s.deliveryReason pos p = none → yields (.packetDelivery ⟨n, here⟩) s (fun t => s.left n t.net ∧ t.csr = s.csr ∧
      s.onlyMesh t ∧ ∃ a, t.access = s.access ++ [a] ∧ a.pos = pos ∧ a.agent = 14 ∧ a.pkt = some p ∧
        a.whole = (p.addr.toNat % 2 ^ 27, if p.size = 1 then 8 else 256) ∧
        (p.type = tREAD → a.task = .answer) ∧ (p.type = tWRITE →
          a.data = (if p.size = 1 then p.inlineW.setWidth 2048 else p.payload) ∧
          a.task = .write (if p.sum then .red p.part else if p.srckind = 0 then
              (if s.logical pos = some p.src then .own else .tile p.src p.part)
            else if p.srckind = 1 then .host else .fabric))))

/-- R69, R75, R173, R180, R203: the answers of tracked packets. -/
def Obligations.SourceAnswers : Prop :=
  ∀ (n pos inport : Nat) (p : Pkt) (s : State) (here : LinkErrors), s.atHead n pos inport p → p.arrived = true → 3 ≤ p.type →
    p.type ≤ 6 → yields (.sourceAnswer ⟨n, here⟩) s (fun t => s.left n t.net ∧ s.onlyMesh t) ∧
    ((p.home ≠ pos ∨ s.trackAt pos p.tag = none) → yields (.sourceAnswer ⟨n, here⟩) s (fun t =>
      t.track = s.track ∧ t.cores = s.cores ∧ t.tiles = s.tiles ∧ t.access = s.access)) ∧
    (∀ k, p.home = pos → s.trackAt pos p.tag = some k →
      (∀ key id, k.holder = .posted key id → p.type = tACK → yields (.sourceAnswer ⟨n, here⟩) s (fun t =>
        t.trackAt pos p.tag = none ∧ (s.core key).without (t.core key) id ∧ t.csr = s.csr)) ∧
      (∀ key id, k.holder = .posted key id → p.type = tNACK → p.reason ≠ 1 → p.reason ≠ 6 → p.reason ≠ 7 →
        yields (.sourceAnswer ⟨n, here⟩) s (fun t => t.trackAt pos p.tag = none ∧ (s.core key).without (t.core key) id ∧
          t.fld (TILE_CORE_PERFn_COUNT (key / 8) (key % 8) 3) =
            (s.fld (TILE_CORE_PERFn_COUNT (key / 8) (key % 8) 3) + 1) % 2 ^ 48)) ∧
      (∀ key dst, k.holder = .load key dst → p.type = tRDATA → yields (.sourceAnswer ⟨n, here⟩) s (fun t =>
        t.trackAt pos p.tag = none ∧
        (∀ m, dst = .sreg m → m ≠ 0 → (t.core key).sreg m = ⟨BitVec.ofNat 64 p.data, BitVec.ofNat 2 p.dataPoison⟩) ∧
        (∀ m, dst = .vreg m → (t.core key).vreg m = ⟨BitVec.ofNat 2048 p.data, BitVec.ofNat 64 p.dataPoison⟩) ∧
        (∀ b, (s.core key).stall = .load b → (t.core key).stall = .load true))) ∧
      (∀ key dst, k.holder = .load key dst → p.type = tNACK → p.reason ≠ 1 → yields (.sourceAnswer ⟨n, here⟩) s (fun t =>
        t.trackAt pos p.tag = none ∧ (∀ m, dst = .sreg m → m ≠ 0 → (t.core key).sreg m = ⟨0, 3⟩) ∧
        (∀ m, dst = .vreg m → (t.core key).vreg m = ⟨0, BitVec.allOnes 64⟩) ∧
        (∀ b, (s.core key).stall = .load b → (t.core key).stall = .load true))) ∧
      (∀ q id i, k.holder = .mover q id i → p.type = tACK → yields (.sourceAnswer ⟨n, here⟩) s (fun t =>
        t.trackAt pos p.tag = none ∧ (t.tile q).queue = (s.tile q).queue.map (fun x =>
          if x.id = id then x.answered i none k.pkt.addr (decide (k.pkt.poison ≠ 0)) else x))) ∧
      (p.type = tDEAD → yields (.sourceAnswer ⟨n, here⟩) s (fun t => t.cores = s.cores ∧
        t.trackAt pos p.tag = some { k with hold := .dead, heldFrom := some (k.heldFrom.getD s.clk.ref) })) ∧
      (p.type = tNACK → p.reason = 1 → yields (.sourceAnswer ⟨n, here⟩) s (fun t => t.cores = s.cores ∧
        t.trackAt pos p.tag = some { k with hold := .moved (s.copyEntry pos (s.watched k))
                                            heldFrom := some (k.heldFrom.getD s.clk.ref) })))

/-- R173: the ends of a hold and of a wait for an answer; the time held adds up over a packet's holds. -/
def Obligations.HeldPackets : Prop :=
  ∀ (pos tag : Nat) (s : State) (k : Track), pos < 576 → tag < 64 → s.trackAt pos tag = some k →
    (s.released pos k = true → k.route = none → k.dest < 512 → (s.copyPos pos k.dest).isSome = true →
      ∀ nibs, s.trailTo pos k.dest = some nibs → yields (.heldPacketResend pos tag) s (fun t =>
        (∃ q, t.trackAt pos tag = some q ∧ q.hold = .out ∧ q.sent = s.clk.ref ∧ q.holder = k.holder ∧ q.pkt.epoch = s.epoch pos ∧
          q.heldFrom = none ∧ q.heldFor = k.heldFor + (s.clk.ref - k.heldFrom.getD s.clk.ref)) ∧
        ∃ x, t.net = s.net ++ [x] ∧ x.place = .router pos 0 ∧ x.pkt.nibs = nibs ∧ x.pkt.ptr = 0 ∧ x.pkt.tag = tag ∧
          x.pkt.epoch = s.epoch pos ∧ x.pkt.payload = k.pkt.payload ∧ x.pkt.addr = k.pkt.addr)) ∧
    (s.released pos k = false → exec (.heldPacketResend pos tag) s = .next s) ∧
    (let ended (t : State) (from_ : Nat) : Prop := t.trackAt pos tag = none ∧ from_ ≤ t.clk.ref ∧
        s.countedBy t (TILE_NET_TIMEOUT_CNT pos) 1 ∧ s.onlyMesh t ∧
        (∀ x ∈ t.net, ¬(x.pkt.home = pos ∧ x.pkt.tag = tag)) ∧
        (∀ key id, k.holder = .posted key id → (s.core key).without (t.core key) id)
     (∀ f, k.heldFrom = some f → k.held = true → s.released pos k = false →
        yields (.holdLimitExpiry pos tag) s (fun t =>
          ended t (f + (s.fld (TILE_NET_CFG_HOLD_LIM pos) * 100000 - k.heldFor) + 1))) ∧
     (k.hold = .out → yields (.ackTimeout pos tag) s (fun t => ended t (k.sent + s.fld (TILE_NET_CFG_ACK_TO pos) * 100000))))

/-- R107, R172, R184, R185: contributions stored, added and sent on, or refused. -/
def Obligations.Reductions : Prop :=
  (∀ (n pos inport : Nat) (p : Pkt) (s : State) (here : LinkErrors) (final bf16 : Bool) (fanin : Nat),
    s.atHead n pos inport p → p.arrived = true → p.type = tRED →
    (∀ it, s.net[n]? = some it → s.redBefore n pos inport it.at_ p = false) →
    s.redEntry pos p.redid = some (final, fanin, bf16) → s.redWaits pos p (final, fanin, bf16) = false →
    (∀ q, s.partOf pos = some q → s.underReset q = false) →
    (s.round pos p.redid = none → 1 < fanin → yields (.redAbsorb ⟨n, here⟩) s (fun t => s.left n t.net ∧ s.onlyMesh t ∧
      t.csr = s.csr ∧ t.round pos p.redid = some ⟨p.payload, p.poison, 1, p.add.toNat, p.addr, p.obj, p.en, p.part, p.src, p.epoch⟩ ∧
      (∀ key id, p.guard_ = some (key, id) → (s.core key).without (t.core key) id))) ∧
    (∀ c, s.round pos p.redid = some c → c.addr = p.addr → c.obj = p.obj → c.en = p.en → c.count + 1 < fanin →
      yields (.redAbsorb ⟨n, here⟩) s (fun t => s.left n t.net ∧ s.onlyMesh t ∧
        t.round pos p.redid = some { c with payload := payloadAdd bf16 c.payload p.payload, poison := c.poison ||| p.poison
                                            count := c.count + 1, add := c.add + p.add.toNat })) ∧
    (∀ c, s.round pos p.redid = some c → c.addr = p.addr → c.obj = p.obj → c.en = p.en → fanin ≤ c.count + 1 → final = false →
      yields (.redAbsorb ⟨n, here⟩) s (fun t => t.round pos p.redid = none ∧ s.onlyMesh t ∧ t.track = s.track ∧
        ∃ l x, s.left n l ∧ t.net = l ++ [x] ∧ x.place = .router pos 0 ∧ x.pkt.type = tRED ∧ x.pkt.redid = p.redid ∧
          x.pkt.payload = payloadAdd bf16 c.payload p.payload ∧ x.pkt.poison = c.poison ||| p.poison ∧
          x.pkt.add = BitVec.ofNat 16 (min (c.add + p.add.toNat) 0xFFFF) ∧ x.pkt.nibs = s.redNibs pos (s.epoch pos) p.redid)) ∧
    (∀ c tag, s.round pos p.redid = some c → c.addr = p.addr → c.obj = p.obj → c.en = p.en → fanin ≤ c.count + 1 → final = true →
      s.freeTag pos = some tag → yields (.redAbsorb ⟨n, here⟩) s (fun t => t.round pos p.redid = none ∧ s.onlyMesh t ∧
        ∃ k, t.trackAt pos tag = some k ∧ k.pkt.type = tWRITE ∧ k.pkt.addr = c.addr ∧ k.pkt.en = c.en ∧ k.dest = 1024 + p.redid ∧
          k.pkt.payload = payloadAdd bf16 c.payload p.payload ∧ k.pkt.add = BitVec.ofNat 16 (min (c.add + p.add.toNat) 0xFFFF))) ∧
    (∀ c, s.round pos p.redid = some c → (c.addr ≠ p.addr ∨ c.obj ≠ p.obj ∨ c.en ≠ p.en) → yields (.redAbsorb ⟨n, here⟩) s (fun t =>
      t.round pos p.redid = none ∧ s.countedBy t (TILE_NET_DROP_CNT pos) 1 ∧ s.left n t.net ∧ s.onlyMesh t))) ∧
  (∀ (n pos inport reason : Nat) (p : Pkt) (s : State) (here : LinkErrors), s.atHead n pos inport p → p.arrived = true →
    p.type = tRED →
    ((∃ q, s.partOf pos = some q ∧ s.underReset q = true ∧ reason = 2) ∨
      ((∀ q, s.partOf pos = some q → s.underReset q = false) ∧ s.redEntry pos p.redid = none ∧ reason = 8)) →
    (p.guard_ = none → yields (.redAbsorb ⟨n, here⟩) s (fun t => s.answersWith n t.net pos p tNACK reason ∧
      t.combine = s.combine ∧ s.onlyMesh t)) ∧
    (∀ key id, p.guard_ = some (key, id) → yields (.redAbsorb ⟨n, here⟩) s (fun t => s.left n t.net ∧ t.combine = s.combine ∧
      (s.core key).without (t.core key) id ∧ s.onlyMesh t ∧ t.fld (TILE_CORE_PERFn_COUNT (key / 8) (key % 8) 3) =
        (s.fld (TILE_CORE_PERFn_COUNT (key / 8) (key % 8) 3) + 1) % 2 ^ 48)))

/-- R178, R193, R195, R197, R198, R204, R206, R207: requests at an H-rim die and at its stack. -/
def Obligations.HbmRequests : Prop :=
  (∀ (n k pos : Nat) (it : NetItem) (s : State), s.net[n]? = some it → it.place = .hrim k pos →
    let p := it.pkt
    let refusal := s.hbmRefusal k p.part p.addr.toNat p.size p.type
    let first := ∀ x ∈ s.net.take n, ∀ q, x.place = .hrim k q → x.pkt.addr.toNat / 256 ≠ p.addr.toNat / 256
    (p.badHeader ≠ none → yields (.hbmRequest n) s (fun t => s.left n t.net ∧ s.countedBy t (TILE_NET_DROP_CNT pos) 1 ∧
      t.hbmReqs = s.hbmReqs ∧ t.hbm = s.hbm ∧ s.onlyHbm t)) ∧
    (p.badHeader = none → first → refusal = none → s.fld (HBM_STATUS_STATE k) = 1 →
      yields (.hbmRequest n) s (fun t => s.left n t.net ∧ t.hbmReqs = s.hbmReqs ++ [⟨k, p, pos, none⟩] ∧ t.hbm = s.hbm ∧
        t.csr = s.csr ∧ s.onlyHbm t)) ∧
    (p.badHeader = none → (¬first ∨ (refusal = none ∧ s.fld (HBM_STATUS_STATE k) = 2)) → exec (.hbmRequest n) s = .next s) ∧
    (∀ reason cause, p.badHeader = none → first → refusal = some (reason, cause) →
      (cause = 5 ∨ s.fld (HBM_STATUS_STATE k) ≠ 2) → 1 ≤ s.credits (linkKey pos (16 + k / 12)) 1 →
      yields (.hbmRequest n) s (fun t =>
        s.countedBy t (HBM_NACK_CNT k) 1 ∧ t.captured (HBM_NACK_CAP k) = true ∧ t.hbmReqs = s.hbmReqs ∧ t.hbm = s.hbm ∧
        s.onlyHbm t ∧ ∃ l x, s.left n l ∧ t.net = l ++ [x] ∧ x.place = .router pos (8 + k / 12) ∧ x.pkt.type = tNACK ∧
          x.pkt.reason = reason ∧ x.pkt.tag = p.tag))) ∧
  (∀ (k n i : Nat) (r : HReq) (s : State), k < 50 → s.nextReq k n = some (i, r) →
    let a := s.stackAddr k r.pkt.part r.pkt.addr.toNat
    let flits := if r.pkt.type = tREAD ∧ r.pkt.size ≠ 1 then 4 else 1
    let answered (t : State) (type : Nat) : Prop := t.hbmReqs = removeAt s.hbmReqs i ∧ s.onlyHbm t ∧
      ∃ x, t.net = s.net ++ [x] ∧ x.place = .router r.pos (8 + k / 12) ∧ x.pkt.type = type ∧ x.pkt.tag = r.pkt.tag
    (s.fld (HBM_STATUS_STATE k) = 1 → flits ≤ s.credits (linkKey r.pos (16 + k / 12)) 1 →
      (r.pkt.type = tWRITE → yields (.hbmWriteAck k n) s (fun t => answered t tACK ∧ t.csr = s.csr ∧
        (r.done = none → Mem.read t.hbm (hbmKey k a) r.pkt.bytes = r.pkt.data % 256 ^ r.pkt.bytes ∧
          s.hbmKept t k a (a + r.pkt.bytes)) ∧
        (r.done ≠ none → t.hbm = s.hbm))) ∧
      (r.pkt.type = tREAD → yields (.hbmReadData k n) s (fun t => answered t tRDATA ∧ t.hbm = s.hbm ∧
        ∃ l x, t.net = l ++ [x] ∧
          (r.done = none → r.pkt.size = 1 → x.pkt.inlineW = BitVec.ofNat 64 (Mem.read s.hbm (hbmKey k a) 8)) ∧
          (r.done = none → r.pkt.size ≠ 1 → x.pkt.payload = BitVec.ofNat 2048 (Mem.read s.hbm (hbmKey k a) 256)) ∧
          (∀ d, r.done = some d → r.pkt.size ≠ 1 → x.pkt.payload = BitVec.ofNat 2048 d.1)))) ∧
    (s.fld (HBM_STATUS_STATE k) = 3 → 1 ≤ s.credits (linkKey r.pos (16 + k / 12)) 1 →
      let failed (t : State) : Prop := answered t tNACK ∧ t.hbm = s.hbm ∧ s.countedBy t (HBM_NACK_CNT k) 1
      (r.pkt.type = tWRITE → yields (.hbmWriteAck k n) s failed) ∧ (r.pkt.type = tREAD → yields (.hbmReadData k n) s failed)))

/-- R196, R204 to R207, R211: what happens at a controller apart from requests. -/
def Obligations.HbmControllers : Prop :=
  ∀ (k : Nat) (s : State), k < 50 →
    (s.flag (HBM_CFG_SCRUB_EN k) = true → s.fld (HBM_STATUS_STATE k) = 1 → yields (.hbmScrubPass k) s (fun t =>
      t.hbm = s.hbm ∧ s.onlyHbm t ∧ ∀ w, hbmKey k 0 / 4 ≤ w → w < hbmKey k stackLimit / 4 → SMap.get 0 t.hbmEcc w = 0 ∧
        (SMap.get 0 s.hbmEcc w = 2 → t.hbmPoison.has w = true) ∧
        (SMap.wf (fun _ => 0) s.hbmEcc = true → SMap.get 0 s.hbmEcc w ≤ 1 → t.hbmPoison.has w = s.hbmPoison.has w))) ∧
    (∀ temp, (s.fld (HBM_STATUS_STATE k) = 1 ∨ s.fld (HBM_STATUS_STATE k) = 2) → yields (.hbmTempPoll k temp) s (fun t =>
      let b := tempBand (s.hbmBand k) temp
      t.fld (HBM_STATUS_TEMP k) = temp % 2 ^ 8 ∧ t.fld (HBM_STATUS_STATE k) = (if b = 3 then 2 else 1) ∧
      t.flag (HBM_STATUS_REF2X k) = decide (1 ≤ b) ∧ t.flag (HBM_STATUS_HALF k) = decide (b = 2) ∧ t.hbm = s.hbm ∧ s.onlyHbm t)) ∧
    ((s.fld (HBM_STATUS_STATE k) = 1 ∨ s.fld (HBM_STATUS_STATE k) = 2) → yields (.hbmStackFail k) s (fun t =>
      t.fld (HBM_STATUS_STATE k) = 3 ∧ t.ready 1 k = false ∧ s.onlyHbm t ∧ t.hbmReqs = s.hbmReqs ∧
      (∀ a, (a < hbmKey k 0 ∨ hbmKey (k + 1) 0 ≤ a) → Mem.byte t.hbm a = Mem.byte s.hbm a) ∧
      t.hasRecord (srcHbm k 0) 2)) ∧
    (∀ a v, s.mute a (HBM_CLEAR k).addr = false → s.mayWrite a .mgmt = true →
      (if 24576 < bitsOf (BitVec.toNat v) 16 15 ∨ s.grantOverlap k none (bitsOf (BitVec.toNat v) 0 15) (bitsOf (BitVec.toNat v) 16 15) = true ∨
          s.flag (HBM_CLEAR_BUSY k) = true
        then yields (.hbmClearStart a k v) s (fun t => s.refusedWrite t)
        else yields (.hbmClearStart a k v) s (fun t => t.flag (HBM_CLEAR_BUSY k) = true ∧
          t.fld (HBM_CLEAR_BASE k) = bitsOf (BitVec.toNat v) 0 15 ∧ t.fld (HBM_CLEAR_LIMIT k) = bitsOf (BitVec.toNat v) 16 15 ∧
          s.onlyHbm t ∧ ∀ b, Mem.byte t.hbm b = if hbmKey k (bitsOf (BitVec.toNat v) 0 15 * 0x100000) ≤ b ∧
            b < hbmKey k (bitsOf (BitVec.toNat v) 16 15 * 0x100000) then 0 else Mem.byte s.hbm b))) ∧
    (s.flag (HBM_CLEAR_BUSY k) = true → yields (.hbmClearDone k) s (fun t => t.flag (HBM_CLEAR_BUSY k) = false ∧ s.onlyHbm t ∧
      t.hbm = s.hbm)) ∧
    (∀ a p v, p < 16 → s.mute a (HBM_GRANTp k p).addr = false → s.mayWrite a .mgmt = true →
      (if 24576 < bitsOf (BitVec.toNat v) 16 15 ∨
          s.grantOverlap k (some p) (bitsOf (BitVec.toNat v) 0 15) (bitsOf (BitVec.toNat v) 16 15) = true
        then yields (.hbmGrantWrite a k p v) s (fun t => s.refusedWrite t)
        else yields (.hbmGrantWrite a k p v) s (fun t => t.fld (HBM_GRANTp_GBASE k p) = bitsOf (BitVec.toNat v) 0 15 ∧
          t.fld (HBM_GRANTp_GLIMIT k p) = bitsOf (BitVec.toNat v) 16 15 ∧ s.onlyHbm t ∧ t.hbm = s.hbm ∧
          (∀ q, q < 16 → q ≠ p → t.rd (HBM_GRANTp k q) = s.rd (HBM_GRANTp k q)))))

/-- R199 to R202, R209: starting an entry and issuing its next packet. -/
def Obligations.MoverSteps : Prop :=
  ∀ (pos engine : Nat) (s : State) (e : QEntry), pos < 576 → engine < 3 → s.running pos engine = some e → e.isDesc = true →
    (e.ready = true → e.started = false → yields (.moverStart pos engine) s (fun t => s.onlyMover t ∧ t.clk = s.clk ∧
      t.spad = s.spad ∧ t.hbm = s.hbm ∧ t.net = s.net ∧
      ((s.tile pos).queue.filter (fun x => x.id = e.id) = [e] → s.entryIs t pos e (fun x => match s.descPair pos e with
        | none => { x with started := true, bad := true }
        | some _ => { x with started := true, total := (mdescOf e.desc).rows * ((mdescOf e.desc).rowBytes / 256) })))) ∧
    (∀ pair, e.started = true → s.rowPair pos (mdescOf e.desc) 0 = some pair →
      let i := e.issued
      let a := (mdescOf e.desc).packet i
      (pair = .spadToImem → yields (.moverPacketIssue pos engine) s (fun t => s.onlyMover t ∧ t.spad = s.spad ∧ t.hbm = s.hbm ∧
        t.track = s.track ∧ ∃ x, t.access = s.access ++ [x] ∧ x.pos = pos ∧ x.agent = 8 + engine ∧ x.task = .store e.id i ∧
          x.whole = (a.1 % 2 ^ 27, 256))) ∧
      (∀ tag, pair ≠ .spadToImem → s.moverOut pos engine < s.fld (TILE_MOV_CFG_MAXOUT pos) → s.freeTag pos = some tag →
        yields (.moverPacketIssue pos engine) s (fun t => s.onlyMover t ∧ t.spad = s.spad ∧ t.hbm = s.hbm ∧
          ((mdescOf e.desc).paced = true → i ≠ 0 → e.lastAt + s.fld (TILE_MOV_CFG_PACE pos) ≤ t.cycle (groveOf pos)) ∧
          ∃ k, t.trackAt pos tag = some k ∧ k.holder = .mover pos e.id i ∧
            ((pair = .hbmToSpad ∨ pair = .hbmToImem) → k.pkt.type = tREAD ∧ k.pkt.size = 2 ∧ k.pkt.addr = BitVec.ofNat 48 a.1) ∧
            ((pair = .spadToHbm ∨ pair = .spadToTile) → k.pkt.type = tWRITE ∧ k.pkt.addr = BitVec.ofNat 48 a.2 ∧ k.hold = .reading ∧
              ∃ x, t.access = s.access ++ [x] ∧ x.task = .payload tag ∧ x.whole = (a.1 % 2 ^ 27, 256)))))

/-- R64, R199, R203, R211: completion, and the entries that wait for the queue. -/
def Obligations.MoverCompletes : Prop :=
  (∀ (pos engine : Nat) (s : State) (e : QEntry), pos < 576 → engine < 3 → s.engineHead pos engine = some e → e.isDesc = true →
    e.spent = true → e.outstanding = 0 → yields (.moverComplete pos engine) s (fun t =>
      (t.tile pos).queue = (s.tile pos).queue.filter (fun x => x.id ≠ e.id) ∧ s.onlyMover t ∧ t.hbm = s.hbm ∧ t.clk = s.clk ∧
      (e.kind = .mov → Mem.read t.spad (spadKey pos (e.off + 48)) 8 = e.status % 2 ^ 64 ∧
        s.spadKept t pos (e.off + 48) (e.off + 56)) ∧
      (e.kind = .mgmt → t.spad = s.spad ∧ t.rd (TILE_MOV_MGMTDw pos 6) = e.status % 2 ^ 64 ∧ t.flag (TILE_MOV_MGMTQ_BUSY pos) = false) ∧
      (e.code ≠ 1 → t.msgs = s.msgs ∧ s.countedBy t (TILE_MOV_ERR_CNT pos) 1) ∧
      (e.code = 1 → (mdescOf e.desc).en = true → ∃ m, t.msgs = s.msgs ++ [m] ∧ m.set = false ∧ m.obj = (mdescOf e.desc).obj ∧
        m.value = BitVec.ofNat 32 (mdescOf e.desc).add) ∧
      (e.code = 1 → (mdescOf e.desc).en = false → t.msgs = s.msgs))) ∧
  (∀ (a : Agent) (pos : Nat) (s : State), pos < 576 → s.mute a (TILE_MOV_MGMTQ pos).addr = false →
    (s.mayWrite a .mgmt = true → s.flag (TILE_MOV_MGMTQ_BUSY pos) = true →
      yields (.mgmtqGo a pos) s (fun t => s.refusedWrite t)) ∧
    (s.mayWrite a .mgmt = false → yields (.mgmtqGo a pos) s (fun t => s.refusedWrite t)) ∧
    (s.mayWrite a .mgmt = true → s.flag (TILE_MOV_MGMTQ_BUSY pos) = false → yields (.mgmtqGo a pos) s (fun t =>
      t.flag (TILE_MOV_MGMTQ_BUSY pos) = true ∧ s.onlyMover t ∧ t.spad = s.spad ∧
      (s.queueRoom pos = true → ∃ e, (t.tile pos).queue = (s.tile pos).queue ++ [e] ∧ e.kind = .mgmt ∧
        e.engine = s.fld (TILE_MOV_MGMTQ_MOVER pos) ∧ e.ready = true ∧
        e.desc = (List.range 6).map (fun w => BitVec.ofNat 64 (s.rd (TILE_MOV_MGMTDw pos w)))) ∧
      (s.queueRoom pos = false → (t.tile pos).queue = (s.tile pos).queue ∧ (t.tile pos).mgmt.isSome = true)))) ∧
  (∀ (pos : Nat) (s : State), pos < 576 → s.queueLen pos < 16 →
    (∀ k rest, (s.tile pos).ckpts = k :: rest → yields (.moverQueueEntryGrant pos) s (fun t => (t.tile pos).ckpts = rest ∧
      (t.tile pos).mgmt = (s.tile pos).mgmt ∧ s.onlyMover t ∧
      ∃ e, (t.tile pos).queue = (s.tile pos).queue ++ [e] ∧ e.kind = .checkpoint ∧ e.engine = 1 ∧ e.desc = k.words ∧ e.off = k.off)) ∧
    (∀ m, (s.tile pos).ckpts = [] → (s.tile pos).mgmt = some m → yields (.moverQueueEntryGrant pos) s (fun t =>
      (t.tile pos).mgmt = none ∧ s.onlyMover t ∧
      ∃ e, (t.tile pos).queue = (s.tile pos).queue ++ [e] ∧ e.kind = .mgmt ∧ e.engine = m.1 ∧ e.desc = m.2)))

/-- R148, R160 to R162, R198, R206: the data of checkpoint records, gathers and scatters, which complete wherever no stack is in
self-refresh; what each piece moves where no request waits to be performed before it. -/
def Obligations.HbmQueueEntries : Prop :=
  let open_ (s : State) : Prop := ∀ k, k < 50 → s.fld (HBM_STATUS_STATE k) ≠ 2
  let clear (s : State) : Prop := ∀ r ∈ s.hbmReqs, r.done.isSome = true
  (∀ (pos : Nat) (s : State) (e : QEntry), pos < 576 → s.engineHead pos 1 = some e → e.kind = .checkpoint → open_ s →
    yields (.syncCheckpointWrite pos) s (fun t => (t.tile pos).queue = (s.tile pos).queue.filter (fun x => x.id ≠ e.id) ∧
      t.spad = s.spad ∧ s.onlyMover t) ∧
    (∀ k a : Nat → Nat, (∀ i, i < 130 → s.hbmReach pos (e.off + 8 * i) 1 tWRITE = .inl (k i, a i)) → clear s →
      yields (.syncCheckpointWrite pos) s (fun t => t.csr = s.csr ∧
        t.hbm = (List.range 130).foldl (fun m i => Mem.write m (hbmKey (k i) (a i)) 8 (e.desc.getD i 0).toNat) s.hbm))) ∧
  (∀ (n len : Nat) (s : State) (o : SeqOp) (w : List W64), s.readyOp n false = some (o, len, w) → o.slot < 256 → open_ s →
    yields (.gatherComplete n) s (fun t => s.onlyMover t ∧ t.ops = s.ops.filter (fun x => x.id ≠ o.id) ∧
      t.fld (SEQ_SLOTs_STATE_INFLIGHT o.slot) = s.fld (SEQ_SLOTs_STATE_INFLIGHT o.slot) - 1 ∧ (clear s → t.hbm = s.hbm) ∧
      (∀ b, (∀ i, i < o.flag.toNat + o.rows * o.units → b < spadKey o.pos (o.element i) ∨ spadKey o.pos (o.element i + 256) ≤ b) →
        Mem.byte t.spad b = Mem.byte s.spad b) ∧
      (o.flag = false → o.rows * o.units = 1 → len ≤ o.first →
        Mem.read t.spad (spadKey o.pos (o.element 0)) 256 = repeatWord (bitsOf (slotWord w 2) 32 32) 64 % 256 ^ 256) ∧
      (∀ k a, o.flag = false → o.rows = 1 → o.units = 1 → o.first < len → clear s →
        s.hbmReach o.pos (slotOffset w 1 o.first 0) 2 tREAD = .inl (k, a) →
        Mem.read t.spad (spadKey o.pos (o.element 0)) 256 = Mem.read s.hbm (hbmKey k a) 256 % 256 ^ 256))) ∧
  (∀ (n len : Nat) (s : State) (o : SeqOp) (w : List W64), s.readyOp n true = some (o, len, w) → o.slot < 256 → open_ s →
    yields (.scatterComplete n) s (fun t => s.onlyMover t ∧ t.spad = s.spad ∧ t.ops = s.ops.filter (fun x => x.id ≠ o.id) ∧
      t.fld (SEQ_SLOTs_STATE_INFLIGHT o.slot) = s.fld (SEQ_SLOTs_STATE_INFLIGHT o.slot) - 1 ∧
      (∀ k a, o.rows = 1 → o.units = 1 → clear s → s.hbmReach o.pos (slotOffset w 1 o.first 0) 2 tWRITE = .inl (k, a) →
        Mem.read t.hbm (hbmKey k a) 256 = Mem.read s.spad (spadKey o.pos (o.element 0)) 256 % 256 ^ 256 ∧
        s.hbmKept t k a (a + 256) ∧
        (o.flag = true → s.fld (SEQ_SLOTs_LEN_LENGTH o.slot) = o.first → o.first + 1 < 2 ^ 24 →
          t.fld (SEQ_SLOTs_LEN_LENGTH o.slot) = o.first + 1) ∧
        (o.flag = false → t.fld (SEQ_SLOTs_LEN_LENGTH o.slot) = s.fld (SEQ_SLOTs_LEN_LENGTH o.slot)))))

/-- R213 to R217, R221: the states of a port. -/
def Obligations.FabricPorts : Prop :=
  ∀ (p : Nat) (s : State), p < 64 →
    let x := s.port p
    let eth := s.flag (FAB_CTRL_MODE p)
    (x.state = 1 →
      (∀ w h, widthOf eth (fun i => s.laneGood (8 * p + i)) = some (w, h) → yields (.portSignalDetect p) s (fun t =>
        t.port p = { x with width4 := w, half := h } ∧ s.onlyFab t ∧ t.csr = s.csr ∧ t.clk = s.clk)) ∧
      (widthOf eth (fun i => s.laneGood (8 * p + i)) = none → yields (.portSignalDetect p) s (fun t => s.portNow t p 5)) ∧
      (∀ ok w h, widthOf eth (fun i => ok.getLsbD i && s.laneGood (8 * p + i)) = some (w, h) →
        yields (.trainingComplete p ok) s (fun t => s.portNow t p (if eth = true then 6 else 2) ∧
          (t.port p).width4 = w ∧ (t.port p).half = h ∧ t.flag (FAB_PARTNER_VALID p) = false)) ∧
      (∀ ok, widthOf eth (fun i => ok.getLsbD i && s.laneGood (8 * p + i)) = none →
        yields (.trainingComplete p ok) s (fun t => s.portNow t p 5))) ∧
    ((x.state = 2 ∨ x.state = 3) → yields (.helloSend p) s (fun t => s.onlyFab t ∧ t.csr = s.csr ∧
      x.tells (t.port p) (s.hello p) ∧ (t.port p).state = x.state ∧
      x.helloAt + (if x.state = 2 then 100000 else 1000000) ≤ t.now ∧ (t.port p).helloAt = t.now)) ∧
    (∀ u, unitType u = 8 → x.state = 2 → yields (.hello p u) s (fun t =>
      let f (lo n : Nat) : Nat := bitsOf u.toNat lo n
      (t.port p).echoValid = true ∧ (t.port p).echoSerial = BitVec.ofNat 64 (f 20 64) ∧ (t.port p).echoPort = f 84 6 ∧
      s.onlyFab t ∧
      ((f 169 1 = 1 ∧ f 99 64 = s.fuses.serial.toNat ∧ f 163 6 = p) → s.portNow t p 3 ∧ t.flag (FAB_PARTNER_VALID p) = true ∧
        t.rd (FAB_PARTNER_SERIAL p) = f 20 64 ∧ t.rd (FAB_PARTNER p) % 2 ^ 16 = f 4 16) ∧
      (¬(f 169 1 = 1 ∧ f 99 64 = s.fuses.serial.toNat ∧ f 163 6 = p) → (t.port p).state = 2 ∧ t.csr = s.csr))) ∧
    (∀ u, unitType u = 8 → x.state = 3 → yields (.hello p u) s (fun t =>
      (if x.partner.2.1 = bitsOf u.toNat 84 6 ∧ x.partner.2.2.2.2 = BitVec.ofNat 64 (bitsOf u.toNat 20 64)
        then (t.port p).state = 3 ∧ (t.port p).lastHello = s.now ∧ s.onlyFab t ∧ t.csr = s.csr
        else s.portNow t p 5))) ∧
    (x.state = 3 → yields (.helloTimeout p) s (fun t => s.portNow t p 5 ∧ x.lastHello + 30 * 100000 ≤ t.now ∧
      (t.port p).replay = [] ∧ (t.port p).queue = [])) ∧
    (x.state = 5 → s.flag (FAB_CTRL_EN p) = true → s.ready 2 p = true → yields (.downRetrainTimer p) s (fun t =>
      s.portNow t p 1 ∧ x.since + 1000 * 100000 ≤ t.now)) ∧
    (x.state = 4 → yields (.retrainTimeout p) s (fun t => s.portNow t p 5 ∧ x.since + 20 * 100000 ≤ t.now)) ∧
    (x.state = 4 → yields (.retrainComplete p) s (fun t => s.portNow t p 3 ∧
      x.tells (t.port p) (resyncUnit x.expected x.gone) ∧ (t.port p).replay = x.replay ∧ (t.port p).discarding = false)) ∧
    (∀ a, s.mute a (FAB_CTRL p).addr = false → s.mayWrite a .mgmt = true →
      yields (.portEnable a p) s (fun t => t.flag (FAB_CTRL_EN p) = true ∧ s.onlyFab t ∧ t.clk = s.clk ∧
        (if (x.state = 0 ∨ x.state = 5) ∧ s.ready 2 p = true then s.portNow t p 1 else t.ports = s.ports)) ∧
      yields (.portDisable a p) s (fun t => t.flag (FAB_CTRL_EN p) = false ∧ s.onlyFab t ∧ t.clk = s.clk ∧
        (t.port p).state = 0 ∧ (t.port p).queue = [] ∧ (t.port p).replay = [] ∧ (x.state ≠ 0 → s.portNow t p 0)) ∧
      (∀ e, yields (.portModeSelect a p e) s (fun t =>
        if s.flag (FAB_CTRL_EN p) = true ∨ (e = true ∧ s.fuses.ethernet.getLsbD p = false) then s.refusedWrite t
        else t.flag (FAB_CTRL_MODE p) = e ∧ s.onlyFab t ∧ t.ports = s.ports)) ∧
      (∀ f, yields (.portFence a p f) s (fun t => t.flag (FAB_CTRL_FENCE p) = f ∧ (t.port p).state = x.state ∧ s.onlyFab t ∧
        (f = true → (t.port p).queue = [])))) ∧
    (∀ a, s.mute a (FAB_CTRL p).addr = false → s.mayWrite a .mgmt = false →
      ∀ i ∈ [Instr.portEnable a p, .portDisable a p, .portModeSelect a p false, .portFence a p true],
        yields i s (fun t => s.refusedWrite t))

/-- R218 to R223, R248, R249: what a port receives and sends. -/
def Obligations.LinkUnits : Prop :=
  ∀ (p : Nat) (s : State), p < 64 →
    let x := s.port p
    (∀ (h : BitVec 20) (u : List Unit64B) (n : Nat), x.state = 3 → bitsOf h.toNat 9 1 = 0 → bitsOf h.toNat 19 1 = 0 →
      (bitsOf h.toNat 0 9 = x.expected → x.partial_ = [] → unitType (u.headD 0) ≤ 6 → u.length = unitsOf (unitType (u.headD 0)) →
        (FPkt.ofUnits u).reserved (u.headD 0).toNat = false →
        yields (.codewordReceive p h true [] (u ++ List.replicate n idleUnit)) s (fun t => s.onlyFab t ∧ t.csr = s.csr ∧
          (t.port p).expected = (x.expected + 1) % 512 ∧ (t.port p).accepted = true ∧ (t.port p).discarding = false ∧
          (∃ c : BitVec 20, .codeword c (padUnits []) ∈ (t.port p).lanes ∧ bitsOf c.toNat 9 1 = 1 ∧
            bitsOf c.toNat 10 9 = x.expected ∧ bitsOf c.toNat 19 1 = 1) ∧
          t.fabric = s.fabric ++ [⟨(FPkt.ofUnits u).received p, p, u.length, false, none⟩])) ∧
      (bitsOf h.toNat 0 9 ≠ x.expected → x.discarding = false → yields (.codewordReceive p h true [] u) s (fun t =>
        s.onlyFab t ∧ t.fabric = s.fabric ∧ (t.port p).expected = x.expected ∧ (t.port p).discarding = true ∧
        x.tells (t.port p) (replayUnit x.expected) ∧ s.countedBy t (FAB_REPLAY_CNT p) 1)) ∧
      (x.discarding = false → yields (.codewordReceive p h false [] u) s (fun t =>
        s.onlyFab t ∧ t.fabric = s.fabric ∧ (t.port p).expected = x.expected ∧ x.tells (t.port p) (replayUnit x.expected) ∧
        s.countedBy t (FAB_UE_CNT p) 1 ∧ s.countedBy t (FAB_REPLAY_CNT p) 1))) ∧
    (∀ (h : BitVec 20) (n : Nat), x.state = 3 → x.queue = [] → bitsOf h.toNat 9 1 = 1 →
      yields (.codewordReceive p h true [] (List.replicate n idleUnit)) s (fun t => s.onlyFab t ∧ t.csr = s.csr ∧
        t.port p = (if bitsOf h.toNat 19 1 = 1 then { x with replay := ackReplay (bitsOf h.toNat 10 9) x.replay } else x))) ∧
    (x.state = 3 → ∀ u,
      (unitType u = 10 → yields (.replay p u) s (fun t => s.onlyFab t ∧ t.csr = s.csr ∧
        (t.port p).lanes = (withMarkers x.marked ((replayFrom (bitsOf u.toNat 4 9) x.replay).map x.dataWord)).1 ∧
        (t.port p).replay = x.replay)) ∧
      (unitType u = 9 → yields (.credit p u) s (fun t => s.onlyFab t ∧ t.csr = s.csr ∧ (t.port p).freed = freedAt u 4 ∧
        (x.queue = [] → (t.port p).sent = x.sent))) ∧
      (unitType u = 11 → yields (.resync p u) s (fun t => s.onlyFab t ∧ t.csr = s.csr ∧ (t.port p).freed = freedAt u 13 ∧
        ∃ l, (t.port p).replay = replayFrom (bitsOf u.toNat 4 9) x.replay ++ l))) ∧
    (x.state = 3 → x.gone ≠ x.told → yields (.creditSend p) s (fun t => s.onlyFab t ∧ t.csr = s.csr ∧
      t.port p = { x with told := x.gone }.put [x.idleWord [creditUnit x.gone]])) ∧
    (x.state = 3 → x.discarding = true → yields (.replayTimeout p) s (fun t => s.onlyFab t ∧ x.replayAt + 100 ≤ t.now ∧
      (x.failed < 7 → (t.port p).state = 3 ∧ x.tells (t.port p) (replayUnit x.expected) ∧ s.countedBy t (FAB_REPLAY_CNT p) 1) ∧
      (7 ≤ x.failed → (t.port p).state = 4 ∧ s.countedBy t (FAB_RETRAIN_CNT p) 1))) ∧
    (∀ addresses type payload fcs : List Byte, x.state = 6 →
      let bytes := addresses ++ type ++ payload ++ fcs
      let head := s.fld (FAB_ETH_PTR_RX_HEAD p)
      let entry := 4096 * (s.fld (FAB_ETH_RXRING_BASE p) / 4096) + 16 * (head % s.ringSize p)
      let buf := bitsOf (s.hostWord entry) 0 48
      let ours := frameGood bytes = true ∧ controlOp bytes ≠ some 1 ∧ controlOp bytes ≠ some 0x101
      ((frameGood bytes = false ∨ controlOp bytes = some 1 ∨ (ours ∧ (s.ethReady p = false ∨
          head = s.fld (FAB_ETH_PTR_RX_TAIL p)))) → yields (.ethFrameReceive p addresses type payload fcs) s (fun t =>
        s.countedBy t (FAB_ETH_RXDROP_CNT p) 1 ∧ t.hbm = s.hbm ∧ t.ports = s.ports ∧ t.clk = s.clk ∧ s.onlyEth t)) ∧
      (frameGood bytes = true → controlOp bytes = some 0x101 → yields (.ethFrameReceive p addresses type payload fcs) s (fun t =>
        t = { s with ports := t.ports } ∧
        t.port p = { x with pausedTo := pausesOf (s.fld (FAB_ETH_CFG_PFC_EN p)) s.now bytes x.pausedTo })) ∧
      (ours → s.ethReady p = true → head ≠ s.fld (FAB_ETH_PTR_RX_TAIL p) → inHostMem entry 16 = true →
        s.hostReads entry 16 = true → inHostMem buf 9216 = true → (buf + bytes.length ≤ entry ∨ entry + 16 ≤ buf) →
        yields (.ethFrameReceive p addresses type payload fcs) s (fun t => s.onlyEth t ∧ t.clk = s.clk ∧
          t.fld (FAB_ETH_PTR_RX_HEAD p) = (head + 1) % s.ringSize p ∧ t.hostWord entry = buf + bytes.length * 2 ^ 48 ∧
          t.hostWord (entry + 8) = framePrio bytes + 2 ^ 63 ∧
          (∀ i, i < bytes.length → Mem.byte t.hbm (hostKey (buf + i)) = bytes.getD i 0) ∧
          (∀ k, (∀ i, i < bytes.length → k ≠ hostKey (buf + i)) → (∀ i, i < 16 → k ≠ hostKey (entry + i)) →
            Mem.byte t.hbm k = Mem.byte s.hbm k)))) ∧
    (let head := s.fld (FAB_ETH_PTR_TX_HEAD p)
     let entry := 4096 * (s.fld (FAB_ETH_TXRING_BASE p) / 4096) + 16 * (head % s.ringSize p)
     let buf := bitsOf (s.hostWord entry) 0 48
     let len := bitsOf (s.hostWord entry) 48 14
     s.ethReady p = true → head ≠ s.fld (FAB_ETH_PTR_TX_TAIL p) → inHostMem entry 16 = true → inHostMem buf len = true →
      yields (.ethFrameTransmit p) s (fun t => s.onlyEth t ∧
        SMap.get 0 x.pausedTo (bitsOf (s.hostWord (entry + 8)) 0 3) ≤ t.now ∧
        (60 ≤ len → len ≤ 9212 → s.hostReads entry 16 = true → s.hostReads buf len = true →
          (t.port p).frame = s.hostRead buf len ++ fcsOf (s.hostRead buf len)) ∧
        ((len < 60 ∨ 9212 < len) → t.ports = s.ports) ∧
        t.fld (FAB_ETH_PTR_TX_HEAD p) = (head + 1) % s.ringSize p ∧ Nat.testBit (t.hostWord (entry + 8)) 63 = true ∧
        (∀ k, (∀ i, i < 8 → k ≠ hostKey (entry + 8 + i)) → Mem.byte t.hbm k = Mem.byte s.hbm k))) ∧
    (∀ a v, s.mute a (FAB_ETH_PTR p).addr = false → yields (.ethRingTailWrite a p v) s (fun t =>
      if s.mayWrite a .mgmt = true then s.onlyFab t ∧ t.fld (FAB_ETH_PTR_TX_TAIL p) = bitsOf v.toNat 0 12 ∧
        t.fld (FAB_ETH_PTR_RX_TAIL p) = bitsOf v.toNat 32 12 ∧ t.fld (FAB_ETH_PTR_TX_HEAD p) = s.fld (FAB_ETH_PTR_TX_HEAD p) ∧
        t.fld (FAB_ETH_PTR_RX_HEAD p) = s.fld (FAB_ETH_PTR_RX_HEAD p)
      else s.refusedWrite t))

/-- R178, R224, R226, R229, R235 to R239, R242, R243: a fabric payload and its answer. -/
def Obligations.FabricPackets : Prop :=
  (∀ (n m pos port : Nat) (it : NetItem) (s : State), s.net[n]? = some it → it.place = .lrim m pos → it.pkt.type ≤ 1 →
    it.pkt.port = some port → port / 4 = m →
    let q := it.pkt
    let fault := if q.type = tREAD then some 1 else s.originFault port q
    (∀ i, q.unfit = false → fault = none → (s.port port).room (s.originPkt port q) = true →
      freeKey (s.die m).origin 256 = some i → yields (.fabricOrigin n) s (fun t =>
        s.left n t.net ∧ (t.die m).origin = (s.die m).origin.insert i (s.originEntry port pos q) ∧ s.onlyFab t ∧
        t.csr = s.csr ∧ s.sentOn t port { s.originPkt port q with ptr := 1 })) ∧
    (q.unfit = false → fault = none → (s.port port).room (s.originPkt port q) = false → exec (.fabricOrigin n) s = .next s) ∧
    (∀ c, q.unfit = false → fault = some c → s.dieCredits m pos 1 1 = true → yields (.fabricOrigin n) s (fun t =>
      s.onlyFab t ∧ s.countedBy t (FAB_DROP_CNT port) 1 ∧ t.captured (FAB_DROP_CAP port) = true ∧ t.ports = s.ports ∧
      t.dies = s.dies ∧ ∃ l, s.left n l ∧
        dieSent l t.net m pos (if c = 7 then tDEAD else tNACK) (if c = 7 then 0 else 3) q.tag)) ∧
    (q.unfit = true → yields (.fabricOrigin n) s (fun t => s.onlyFab t ∧ s.left n t.net ∧ s.countedBy t (FAB_DROP_CNT port) 1 ∧
      t.captured (FAB_DROP_CAP port) = true ∧ t.ports = s.ports ∧ t.dies = s.dies))) ∧
  (∀ (n port : Nat) (own : Bool) (p : FPkt) (s : State), s.fabItem n port own p → p.home = true →
    (∀ i o, (p.type = fACK ∨ p.type = fNACK ∨ p.type = fDEAD) → s.originOf (port / 4) p = some (i, o) →
      s.dieCredits (port / 4) o.pos 1 1 = true → yields (.fabricOriginAnswer n) s (fun t => s.onlyFab t ∧ t.csr = s.csr ∧
        t.fabric = removeAt s.fabric n ∧ (t.die (port / 4)).origin = (s.die (port / 4)).origin.erase i ∧
        dieSent s.net t.net (port / 4) o.pos (if p.type = fACK then tACK else if p.type = fNACK then tNACK else tDEAD)
          (if p.type = fNACK then p.reason else 0) o.pkt.tag)) ∧
    ((p.type = fACK ∨ p.type = fNACK ∨ p.type = fDEAD) → s.originOf (port / 4) p = none → yields (.fabricOriginAnswer n) s (fun t =>
      s.onlyFab t ∧ t.csr = s.csr ∧ t.fabric = removeAt s.fabric n ∧ t.dies = s.dies ∧ t.net = s.net)) ∧
    (∀ i o, p.type = fMACK → s.originOf (port / 4) p = some (i, o) → s.dieCredits (port / 4) o.pos 1 1 = true →
      yields (.mack n) s (fun t => s.onlyFab t ∧ t.fabric = removeAt s.fabric n ∧
        (t.die (port / 4)).origin = (s.die (port / 4)).origin.erase i ∧
        dieSent s.net t.net (port / 4) o.pos tACK 0 o.pkt.tag ∧
        (∀ obj, o.cpl = some obj → ∃ x, t.msgs = s.msgs ++ [x] ∧ x.obj = obj ∧ x.set = false ∧ x.value = BitVec.ofNat 32 p.delivered) ∧
        (o.cpl = none → t.msgs = s.msgs) ∧ (p.pruned = 0 → t.sync = s.sync) ∧
        (0 < p.pruned → (t.obj o.cplObj).short = true ∧ (t.obj o.cplObj).count = (s.obj o.cplObj).count ∧
          (t.obj o.cplObj).shortBy.toNat = min ((s.obj o.cplObj).shortBy.toNat + p.pruned) 0xFFFF) ∧
        (0 < p.refused → t.hasRecord (srcPort o.port 4) 1))) ∧
    (p.type = fWRITE →
      (∀ c, s.arrivalFault port p = some c → s.ownRoom port = true → yields (.fabricArrival n) s (fun t =>
        s.onlyFab t ∧ t.dies = s.dies ∧ t.net = s.net ∧ s.countedBy t (FAB_DROP_CNT port) 1 ∧
        s.answeredTo t n port p fNACK 3)) ∧
      (s.arrivalFault port p = none → s.leave (port / 4) p = .noTrail → s.ownRoom port = true →
        yields (.fabricArrival n) s (fun t => s.onlyFab t ∧ t.dies = s.dies ∧ t.net = s.net ∧ t.csr = s.csr ∧
          s.answeredTo t n port p fNACK 4)) ∧
      (∀ pos nibs i, s.arrivalFault port p = none → s.leave (port / 4) p = .now pos nibs → s.destRoom (port / 4) ≠ 0 →
        freeKey (s.die (port / 4)).dest 256 = some i → yields (.fabricArrival n) s (fun t => s.onlyFab t ∧ t.csr = s.csr ∧
          t.fabric = removeAt s.fabric n ∧
          t.destAt (port / 4) i = some ⟨p, port, none, none, 0, s.trailGen (port / 4) p⟩ ∧
          ∃ x, t.net = s.net ++ [x] ∧ x.place = .router pos (12 + dieSide (port / 4)) ∧
            x.pkt = s.deliveryPkt (port / 4) i p nibs)))) ∧
  (∀ (n port : Nat) (own : Bool) (p : FPkt) (s : State), s.fabItem n port own p → p.home = false → p.type ≠ fMWRITE →
    let q := p.srt.getD p.ptr 0
    let here := q / 4 = port / 4 ∧ (p.type ≠ fMACK ∨ own = true)
    let r := ringNext (ringPos (port / 4)) none q
    (here → s.usable q = true → (s.port q).room p = true → yields (.fabricTransit n) s (fun t => s.onlyFab t ∧ t.csr = s.csr ∧
      t.fabric = removeAt s.fabric n ∧ t.dies = s.dies ∧ s.sentOn t q { p with ptr := p.ptr + 1 })) ∧
    (here → s.usable q = true → (s.port q).room p = false → exec (.fabricTransit n) s = .next s) ∧
    (here → s.usable q = false → p.type = fWRITE → s.ownRoom q = true → yields (.fabricTransit n) s (fun t =>
      s.onlyFab t ∧ s.countedBy t (FAB_DROP_CNT q) 1 ∧ t.dies = s.dies ∧ s.answeredTo t n q p fDEAD 0)) ∧
    (here → s.usable q = false → p.type ≠ fWRITE → yields (.fabricTransit n) s (fun t => s.onlyFab t ∧
      t.fabric = removeAt s.fabric n ∧ s.countedBy t (FAB_DROP_CNT q) 1 ∧ t.dies = s.dies)) ∧
    (q < 64 → ringPos (q / 4) ≠ ringPos (port / 4) → s.ringRoom r p = true → yields (.fabricTransit n) s (fun t => s.onlyFab t ∧
      t.csr = s.csr ∧ t.dies = s.dies ∧ t.net = s.net ∧ t.fabric = removeAt s.fabric n ++ [⟨p, port, 0, own, some r⟩])) ∧
    (q < 64 → ringPos (q / 4) ≠ ringPos (port / 4) → s.ringRoom r p = false → exec (.fabricTransit n) s = .next s)) ∧
  (∀ (n : Nat) (it : FItem) (r : Ring) (s : State), s.fabric[n]? = some it → it.ring = some r → s.fabHead n it = true →
    r.exit < 64 →
    let next := ringNext r.pos (some r) r.exit
    (ringPos (r.exit / 4) ≠ r.pos → s.ringRoom next it.pkt = true → yields (.fabricTransit n) s (fun t => s.onlyFab t ∧
      t.csr = s.csr ∧ t.dies = s.dies ∧ t.net = s.net ∧
      t.fabric = removeAt s.fabric n ++ [⟨it.pkt, it.port, 0, it.own, some next⟩])) ∧
    (ringPos (r.exit / 4) ≠ r.pos → s.ringRoom next it.pkt = false → exec (.fabricTransit n) s = .next s) ∧
    (ringPos (r.exit / 4) = r.pos → (it.pkt.type ≠ fMACK ∨ it.own = true) → s.usable r.exit = true →
      (s.port r.exit).room it.pkt = true → yields (.fabricTransit n) s (fun t => s.onlyFab t ∧ t.csr = s.csr ∧
        t.dies = s.dies ∧ t.fabric = removeAt s.fabric n ∧ s.sentOn t r.exit { it.pkt with ptr := it.pkt.ptr + 1 }))) ∧
  (∀ (n m pos : Nat) (it : NetItem) (s : State) (d : DTrack), s.net[n]? = some it → it.place = .lrim m pos →
    classOf it.pkt.type = 1 → it.pkt.srckind = 2 → it.pkt.unfit = false → s.destAt m it.pkt.tag = some d →
    let q := it.pkt
    let final := q.type = tACK ∨ (q.type = tNACK ∧ q.reason ≠ 1)
    (final → s.ownRoom d.port = true → yields (.fabricArrivalAnswer n) s (fun t => s.onlyFab t ∧ t.csr = s.csr ∧
      s.left n t.net ∧ (t.die m).dest = (s.die m).dest.erase q.tag ∧
      (d.merge = none → t.fabric = s.fabric ++ [⟨d.pkt.respond d.pkt.ptr (if q.type = tACK then fACK else fNACK)
        (if q.type = tACK then 0 else q.reason), d.port, 0, true, none⟩]) ∧
      (∀ i g, d.merge = some i → (s.die m).merge.find? (fun e => e.1 = i) = some (i, g) → 1 < g.awaited →
        t.fabric = s.fabric ∧ (t.die m).merge = (s.die m).merge.insert i { g with
          awaited := g.awaited - 1, delivered := g.delivered + (if q.type = tACK then 1 else 0)
          refused := g.refused + (if q.type = tACK then 0 else 1) }))) ∧
    (final → s.ownRoom d.port = false → exec (.fabricArrivalAnswer n) s = .next s) ∧
    ((q.type = tDEAD ∨ (q.type = tNACK ∧ q.reason = 1)) → yields (.fabricArrivalAnswer n) s (fun t => s.onlyFab t ∧
      t.csr = s.csr ∧ s.left n t.net ∧ t.ports = s.ports ∧ t.fabric = s.fabric ∧ (t.die m).dest = (s.die m).dest.insert q.tag
        { d with heldFrom := some (d.heldFrom.getD s.now) }))) ∧
  (∀ (die tag f : Nat) (s : State) (d : DTrack), die < 16 → s.destAt die tag = some d → d.heldFrom = some f →
    (∀ pos nibs, s.trailGen die d.pkt ≠ d.gen → s.leave die d.pkt = .now pos nibs →
      yields (.fabricArrivalResend die tag) s (fun t => s.onlyFab t ∧ t.csr = s.csr ∧ t.fabric = s.fabric ∧
        (t.die die).dest = (s.die die).dest.insert tag { d with
          heldFrom := none, heldFor := d.heldFor + (s.now - f), gen := s.trailGen die d.pkt } ∧
        ∃ x, t.net = s.net ++ [x] ∧ x.pkt = s.deliveryPkt die tag d.pkt nibs)) ∧
    (s.trailGen die d.pkt = d.gen → exec (.fabricArrivalResend die tag) s = .next s) ∧
    (d.merge = none → yields (.fabricArrivalHoldLimit die tag) s (fun t => s.onlyFab t ∧
        (t.die die).dest = (s.die die).dest.erase tag ∧
        f + (s.fld (FAB_DIE_CFG_HOLD_LIM die) * 100000 - d.heldFor) < t.now ∧ s.countedBy t (FAB_DROP_CNT d.port) 1 ∧
        t.fabric = s.fabric ++ [⟨d.pkt.respond d.pkt.ptr fNACK 7, d.port, 0, true, none⟩])))

/-- R178, R224, R230, R242, R244 to R247: multicasts and collectives at a die. -/
def Obligations.FabricCollectives : Prop :=
  (∀ (n port : Nat) (own : Bool) (p : FPkt) (s : State), s.fabItem n port own p → p.type = fMWRITE →
    let m := port / 4
    (treeItems p.ptr p.tree = none → yields (.mwrite n) s (fun t => s.onlyFab t ∧ t.dies = s.dies ∧
      t.fabric = removeAt s.fabric n ∧ s.countedBy t (FAB_DROP_CNT port) 1)) ∧
    (∀ i q sub, treeItems p.ptr p.tree = some [.copy q sub] → freeKey (s.die m).merge 256 = some i → 2 ≤ s.destRoom m →
      s.ownRoom port = true →
      let c := { p with tree := sub ++ List.replicate (192 - sub.length) 0 }
      let waits (t : State) : Prop := (t.die m).merge = (s.die m).merge.insert i ⟨p, port, 1, 0, 0, 0, s.now⟩
      (q / 4 = m → s.usable q = true → (s.port q).room p = true → yields (.mwrite n) s (fun t => s.onlyFab t ∧ t.csr = s.csr ∧
        t.fabric = removeAt s.fabric n ∧ waits t ∧ s.sentOn t q { c with ptr := p.ptr + 1 })) ∧
      (q / 4 ≠ m → s.ringRoom (ringNext (ringPos m) none q) p = true → yields (.mwrite n) s (fun t => s.onlyFab t ∧
        t.csr = s.csr ∧ waits t ∧
        t.fabric = removeAt s.fabric n ++ [⟨c, port, 0, false, some (ringNext (ringPos m) none q)⟩])) ∧
      (q / 4 = m → s.usable q = false → yields (.mwrite n) s (fun t => s.onlyFab t ∧
        s.countedBy t (FAB_DROP_CNT q) 1 ∧ (t.die m).merge.find? (fun e => e.1 = i) = none ∧
        t.fabric = removeAt s.fabric n ++ [⟨{ p.respond p.ptr fMACK 0 with pruned := leavesOf sub }, port, 0, true, none⟩]))) ∧
    (∀ i, treeItems p.ptr p.tree = some [.leaf] → freeKey (s.die m).merge 256 = some i → 2 ≤ s.destRoom m →
      s.ownRoom port = true →
      (∀ pos nibs k, s.arrivalFault port p = none → s.leave m p = .now pos nibs → freeKey (s.die m).dest 256 = some k →
        yields (.mwrite n) s (fun t => s.onlyFab t ∧ t.csr = s.csr ∧ t.fabric = removeAt s.fabric n ∧
          (t.die m).merge = (s.die m).merge.insert i ⟨p, port, 1, 0, 0, 0, s.now⟩ ∧
          t.destAt m k = some ⟨p, port, some i, none, 0, s.trailGen m p⟩ ∧
          ∃ x, t.net = s.net ++ [x] ∧ x.pkt = s.deliveryPkt m k p nibs)) ∧
      (∀ c, s.arrivalFault port p = some c → yields (.mwrite n) s (fun t => s.onlyFab t ∧
        s.countedBy t (FAB_DROP_CNT port) 1 ∧ t.net = s.net ∧
        t.fabric = removeAt s.fabric n ++ [⟨{ p.respond p.ptr fMACK 0 with refused := 1 }, port, 0, true, none⟩])))) ∧
  (∀ (n : Nat) (it : FItem) (s : State), s.fabric[n]? = some it → s.fabHead n it = true → it.pkt.type = fMACK →
    it.own = false → it.pkt.home = false → it.where_ = ringPos (it.exit / 4) →
    let m := it.exit / 4
    let p := it.pkt
    (s.mergeOf m p = none → yields (.mergeAnswer n) s (fun t => s.onlyFab t ∧ t.csr = s.csr ∧ t.dies = s.dies ∧
      t.fabric = removeAt s.fabric n)) ∧
    (∀ i g, s.mergeOf m p = some (i, g) → (s.die m).merge.find? (fun e => e.1 = i) = some (i, g) →
      let h : Merge := { g with awaited := g.awaited - 1, delivered := g.delivered + p.delivered
                                pruned := g.pruned + p.pruned, refused := g.refused + p.refused }
      (1 < g.awaited → yields (.mergeAnswer n) s (fun t => s.onlyFab t ∧ t.csr = s.csr ∧ t.fabric = removeAt s.fabric n ∧
        (t.die m).merge = (s.die m).merge.insert i h)) ∧
      (g.awaited = 1 → yields (.mergeAnswer n) s (fun t => s.onlyFab t ∧ t.csr = s.csr ∧
        (t.die m).merge = (s.die m).merge.erase i ∧
        t.fabric = removeAt s.fabric n ++ [⟨{ g.pkt.respond g.pkt.ptr fMACK 0 with
          delivered := h.delivered, pruned := h.pruned, refused := h.refused }, g.port, 0, true, none⟩])))) ∧
  (∀ (die n : Nat) (g : Merge) (s : State), die < 16 → (s.die die).merge.find? (fun e => e.1 = n) = some (n, g) →
    yields (.mergeTimeout die n) s (fun t => s.onlyFab t ∧ (t.die die).merge = (s.die die).merge.erase n ∧ t.ports = s.ports ∧
      t.fabric = s.fabric ∧ g.since + s.fld (FAB_DIE_CFG_MERGE_TO die) * 100000 ≤ t.now ∧
      s.countedBy t (FAB_DROP_CNT g.port) 1 ∧ t.hasRecord (srcPort g.port 4) 1)) ∧
  (∀ (n m pos : Nat) (it : NetItem) (s : State), s.net[n]? = some it → it.place = .lrim m pos → it.pkt.type = tRED →
    let q := it.pkt
    (q.unfit = true → yields (.collectiveEgress n) s (fun t => s.onlyFab t ∧ s.left n t.net ∧ t.ports = s.ports ∧
      t.dies = s.dies)) ∧
    (q.unfit = false → s.egressOf m q = none → yields (.collectiveEgress n) s (fun t => s.onlyFab t ∧ s.left n t.net ∧
      t.ports = s.ports ∧ s.countedBy t (FAB_DROP_CNT (4 * m)) 1)) ∧
    (∀ c, q.unfit = false → s.egressOf m q = some c →
      let port := bitsOf (s.collWord m q.epoch c 0) 20 6
      (s.usable port = true → (s.port port).room (s.egressPkt m c q) = true →
        yields (.collectiveEgress n) s (fun t => s.onlyFab t ∧ s.left n t.net ∧ t.csr = s.csr ∧
          s.sentOn t port { s.egressPkt m c q with ptr := 1 } ∧
          (s.egressPkt m c q).daddr = BitVec.ofNat 48 (crc32c (natToBytes q.payload.toNat 0 256)) ∧
          (s.egressPkt m c q).payload = q.payload)) ∧
      (s.usable port = true → (s.port port).room (s.egressPkt m c q) = false → exec (.collectiveEgress n) s = .next s) ∧
      (s.usable port = false → yields (.collectiveEgress n) s (fun t => s.onlyFab t ∧ s.left n t.net ∧ t.ports = s.ports ∧
        s.countedBy t (FAB_DROP_CNT port) 1)))) ∧
  (∀ (n port : Nat) (own : Bool) (p : FPkt) (s : State), s.fabItem n port own p → p.type = fRED → p.home = true →
    (∀ c, s.arrivalFault port p = some c → yields (.collectiveIngress n) s (fun t => s.onlyFab t ∧ t.net = s.net ∧
      t.fabric = removeAt s.fabric n ∧ s.countedBy t (FAB_DROP_CNT port) 1)) ∧
    (∀ pos, s.arrivalFault port p = none → s.diePos (port / 4) = some pos → s.dieCredits (port / 4) pos 2 4 = true →
      yields (.collectiveIngress n) s (fun t => s.onlyFab t ∧ t.fabric = removeAt s.fabric n ∧ ∃ x, t.net = s.net ++ [x] ∧
        x.place = .router pos (12 + dieSide (port / 4)) ∧
        (s.digestFault (port / 4) p = none → t.csr = s.csr ∧ x.pkt = s.ingressPkt (port / 4) p p.ppoison) ∧
        (s.digestFault (port / 4) p ≠ none → s.countedBy t (FAB_DIGEST_CNT port) 1 ∧
          x.pkt = s.ingressPkt (port / 4) p (BitVec.allOnes 64)))))

/-- R262 to R269, R296: CREATE, LOAD, START, RESET, TEARDOWN, UPDATE. -/
def Obligations.PartitionCommands : Prop :=
  PartCommand .create [0] (fun s p t =>
    (s.createOk p = false → t = { s with csr := t.csr } ∧ t.flag (MGMT_PARTp_STATUS_ERR p) = true ∧ t.partState p = 0) ∧
    (s.createOk p = true → t.hbm = s.hbm ∧ t.spad = s.spad ∧
      (∀ k, k ∈ s.partStacks p → t.fld (HBM_GRANTp_GBASE k p) = s.fld (MGMT_PARTp_GRANT_GBASE p) ∧
        t.fld (HBM_GRANTp_GLIMIT k p) = s.fld (MGMT_PARTp_GRANT_GLIMIT p)) ∧
      (if (s.partGroves p).all (fun g => decide (s.clkState g = 2)) = true
        then t.partState p = 1 ∧ t.flag (MGMT_PARTp_STATUS_BUSY p) = false
        else t.partState p = 0 ∧ t.flag (MGMT_PARTp_STATUS_BUSY p) = true))) ∧
  PartCommand .load [1, 3] (fun s p t =>
    (∀ q, q ≠ p → t.part q = s.part q) ∧
    let a := s.fld (MGMT_PARTp_IMAGE_ADDR p)
    let u := s.hostSeen a (s.hostNat (a + 0x18) 8)
    let i := u.manifest a ((u.storeFit p (u.hostNat (a + 0x18) 8)).getD 0)
    let x := ((u.setPart p 2).loadTables p i).loadData p i
    (∀ e, u.loadFault p a = some e → t.partState p = 1 ∧ (t.part p).image = none ∧
      t.rd (MGMT_PARTp_LOADERR p) = packFields [(0, 4, e.1), (4, 4, e.2.1), (32, 32, e.2.2)] ∧ t.spad = s.spad ∧ t.imem = s.imem ∧
      t.hbm = s.hbm) ∧
    (u.loadFault p a = none → x.1.refused = none → t.partState p = 3 ∧ (t.part p).image = some i ∧
      t.rd (MGMT_PARTp_LOADERR p) = 0 ∧ t.flag (MGMT_PARTp_FSTAT_STALE p) = false) ∧
    (u.loadFault p a = none → x.1.refused ≠ none → t.partState p = 1 ∧ (t.part p).image = none ∧
      t.rd (MGMT_PARTp_LOADERR p) % 16 = 11)) ∧
  PartCommand .start [3] (fun s p t =>
    t = { s with csr := t.csr, parts := t.parts } ∧ t.partState p = 3 ∧
    (if s.flag (MGMT_PARTp_FSTAT_STALE p) = true ∨ s.flag (MGMT_PARTp_FSTAT_STACK_LOST p) = true ∨ s.flag THM_STATUS_FLOW_LOST = true
      then t.flag (MGMT_PARTp_STATUS_ERR p) = true ∧ t.parts = s.parts
      else t.flag (MGMT_PARTp_STATUS_BUSY p) = true ∧ (t.part p).announce = some ⟨s.now + 6000, [], 0, none, none⟩)) ∧
  PartCommand .reset [3, 4] (fun s p t => t.partState p = 3 ∧ s.quieted t p ∧ t.parts = s.parts) ∧
  PartCommand .teardown [1, 3, 4, 6] (fun s p t => t.partState p = 0 ∧ t.part p = Part.init ∧ t.hbm = s.hbm ∧ s.quieted t p ∧
    (∀ k, k < 50 → t.rd (HBM_GRANTp k p) = 0) ∧ (∀ q, q < 64 → Nat.testBit (t.fld (FAB_ADMIT_ADMIT q)) p = false) ∧
    t.flag (SEQ_CKPT_BASEp_VALID p) = false) ∧
  PartCommand .update [3, 4] (fun s p t =>
    let a := s.fld (MGMT_PARTp_IMAGE_ADDR p)
    let u := s.hostSeen a (s.hostNat (a + 0x18) 8)
    t.partState p = s.partState p ∧ t.spad = s.spad ∧ t.hbm = s.hbm ∧
    (s.flipped p = false → t = { s with csr := t.csr, parts := t.parts } ∧ t.flag (MGMT_PARTp_STATUS_BUSY p) = true ∧
      t.flag (MGMT_PARTp_STATUS_COVERING p) = true ∧ (t.part p).updating = true) ∧
    (s.flipped p = true → (s.part p).image = none → t = { s with csr := t.csr } ∧ t.flag (MGMT_PARTp_STATUS_ERR p) = true) ∧
    (∀ i, s.flipped p = true → (s.part p).image = some i →
      (u.updateFault p a i = true → t = { u with csr := t.csr } ∧ t.flag (MGMT_PARTp_STATUS_ERR p) = true) ∧
      (u.updateFault p a i = false → s.flag (MGMT_PARTp_FSTAT_STALE p) = false →
        (t.part p).image = some (i.updated (u.manifest a 0) (u.sections a)) ∧ t.flag (MGMT_PARTp_STATUS_COVERING p) = true)))

/-- R266, R273, R274, R338: acknowledgements, the start itself, and coverage. -/
def Obligations.ScheduledStarts : Prop :=
  (∀ (g p : Nat) (s : State) (x : Announce), g < 36 → s.clkState g ≠ 0 → s.partOfGrove g = some p →
    (s.part p).announce = some x → yields (.groveAnnounceAck g) s (fun t => t = { s with parts := t.parts, clk := t.clk } ∧
      (s.now + 1000 ≤ x.count → (t.part p).announce = some { x with acked := x.acked.add g }) ∧
      (x.count < s.now + 1000 → t.parts = s.parts) ∧ t.now = s.now)) ∧
  (∀ (p : Nat) (s : State) (x : Announce), p < 16 → (s.part p).announce = some x →
    ((s.partGroves p).all (fun g => x.acked.has g) = true → yields (.scheduledRun p) s (fun t =>
      x.count ≤ t.now ∧ t.partState p = 4 ∧ t.flag (MGMT_PARTp_STATUS_BUSY p) = false ∧ (t.part p).announce = none ∧
      t.spad = s.spad ∧ t.hbm = s.hbm ∧ t.imem = s.imem ∧
      (∀ i w pos, (s.part p).image = some i → w ∈ i.core → s.recordPos w = some pos →
        t.flag (TILE_CORE_CTRL_RUN pos (bitsOf (recWordOf w 0) 9 3)) = true) ∧
      (x.recovery = none → t.flag (MGMT_PARTp_FSTAT_JOBDEAD p) = false ∧ t.fld (MGMT_PARTp_FSTAT_RECOVERIES p) = s.fld (MGMT_PARTp_FSTAT_RECOVERIES p)) ∧
      (∀ r, x.recovery = some r → t.fld (MGMT_PARTp_FSTAT_RECOVERIES p) = (s.fld (MGMT_PARTp_FSTAT_RECOVERIES p) + 1) % 2 ^ 16 ∧
        t.rd (MGMT_PARTp_RTIME p) = (t.now - r) / 100 % 2 ^ 32))) ∧
    ((s.partGroves p).all (fun g => x.acked.has g) = false → yields (.scheduledRun p) s (fun t => t.cores = s.cores ∧
      x.count ≤ t.now + 1000 ∧
      (x.tries < 3 → (t.part p).announce = some ⟨t.now + 6000, [], x.tries + 1, x.recovery, x.lost⟩ ∧ t.csr = s.csr) ∧
      (3 ≤ x.tries → (t.part p).announce = none ∧ t.flag (MGMT_PARTp_STATUS_ERR p) = true ∧
        t.flag (MGMT_PARTp_STATUS_BUSY p) = false ∧ t.partState p = 3)))) ∧
  (∀ (p : Nat) (s : State), p < 16 → s.flag (MGMT_PARTp_STATUS_COVERING p) = true → (s.part p).updating = true →
    (s.flipped p = false → exec (.coverageRecompute p) s = .next s) ∧
    (s.flipped p = true → yields (.coverageRecompute p) s (fun t => (t.part p).updating = false ∧
      t.flag (MGMT_PARTp_STATUS_BUSY p) = false ∧ t.flag (MGMT_PARTp_STATUS_COVERING p) = false))) ∧
  (∀ (p : Nat) (s : State), p < 16 → s.flag (MGMT_PARTp_STATUS_COVERING p) = true → (s.part p).updating = false →
    yields (.coverageRecompute p) s (fun t =>
    t = { s with csr := t.csr } ∧ t.flag (MGMT_PARTp_STATUS_COVERING p) = false ∧
    (∀ i pos, (s.part p).image = some i → pos < 576 → Nat.testBit (t.rd (MGMT_PARTp_COVERw p (pos / 64))) (pos % 64) =
      s.covered p i (s.currentRecords p) pos)))

/-- R290: one record of source 19 with CAUSE 6 per wait; nothing else happens to the core, its job or its tile. -/
def Obligations.WaitLimit : Prop :=
  ∀ (c : CoreId) (s : State), c.wf = true →
    ((s.core c.key).stall = .fence ∨ ∃ o v, (s.core c.key).stall = .wait o v none) →
    ((s.core c.key).limitSent = false → yields (.waitLimit c) s (fun t =>
      t = { s with clk := t.clk, cores := t.cores, faults := t.faults } ∧
      (s.core c.key).stallFrom + 2 ^ s.fld FLT_CFG_WAIT_LIM ≤ t.cycle (groveOf c.pos) ∧
      t.core c.key = { s.core c.key with limitSent := true } ∧ (∀ k, k ≠ c.key → t.core k = s.core k) ∧
      s.oneMore t (srcPos c.pos 19) 6 ∧
      (s.sourceAbsent (srcPos c.pos 19) = false →
        ∃ r, r ∈ t.faults.flying ∧ r.source = srcPos c.pos 19 ∧ r.cause = 6 ∧ r.core = some c.core) ∧
      exec (.waitLimit c) t = .next t)) ∧
    ((s.core c.key).limitSent = true → exec (.waitLimit c) s = .next s)

/-- R187, R280 to R284, R289, R301, R303, R305, R278: the collector and the sources that the management subsystem polls. -/
def Obligations.FaultRecords : Prop :=
  (∀ (n : Nat) (s : State) (r : FaultRec), s.nextRecord n = some r → r.source < 14000 → yields (.faultRecordArrival n) s (fun t =>
    s.arrived t r ∧ s.onlyFaults t ∧ ∃ l, t.faults.flying = removeAt s.faults.flying n ++ l)) ∧
  (∀ (n : Nat) (s : State), s.msgs.length ≤ n →
    exec (.cnetMessage n LinkErrors.none none) s = exec (.faultRecordArrival (n - s.msgs.length)) s) ∧
  (∀ (n : Nat) (m : SyncMsg) (e : LinkErrors) (q : Nat) (s : State), s.msgs[n]? = some m → s.syncReady n m = true →
    s.farNode m = some q → q < 576 → (e.words ≠ [] ∨ e.poisoned = true) → yields (.cnetMessage n e none) s (fun t =>
      t.msgs = removeAt s.msgs n ∧ t.sync = s.sync ∧ s.countedBy t (TILE_NET_DROP_CNT q) 1 ∧ s.onlySync t)) ∧
  (∀ (n : Nat) (m : SyncMsg) (p q : Nat) (s : State), s.msgs[n]? = some m → s.syncReady n m = true → s.farNode m = some q →
    p < 576 → s.msgLinks m = [] → yields (.cnetMessage n LinkErrors.none (some p)) s (fun t => t.msgs = removeAt s.msgs n ∧ s.onlySync t ∧
      s.countedBy t (GRV_CNET_SYNCDLY_CNT (groveOf p)) 1)) ∧
  (∀ (o n : Nat) (m : SyncMsg) (set : Bool) (s : State), o < 131072 → s.firstReady o set = some (n, m) → s.homeOf m ≠ .none →
    s.syncFault m = none → yields (.cnetMessage n LinkErrors.none none) s (fun t => t.msgs = removeAt s.msgs n ∧ s.onlySync t ∧
      (t.obj o).count = (if set = true then m.value else (s.obj o).count + m.value) ∧
      ∀ g, g < 36 → s.countedBy t (GRV_CNET_SYNCDLY_CNT g) ((s.delayNodes n m).filter (fun q => decide (groveOf q = g))).length)) ∧
  (∀ (n q : Nat) (e : LinkErrors) (s : State), s.msgs.length + s.faults.flying.length ≤ n → q < 576 → s.routerUp q = true →
    (e.words ≠ [] ∨ e.poisoned = true) → yields (.cnetMessage n e (some q)) s (fun t => s.onlyFaults t ∧
      s.countedBy t (TILE_NET_DROP_CNT q) 1)) ∧
  (∀ (a : Agent) (source : Nat) (s : State), source < 14000 → s.mute a (FLT_SRCn source).addr = false →
    (s.mayWrite a .flt = true → yields (.force a source) s (fun t => s.onlyFaults t ∧ ∃ r, s.arrived t r ∧ r.source = source ∧
      r.cause = 0 ∧ r.detail = 0 ∧ r.forced = true ∧ (s.flag FLT_CFG_FORCE_ACT = false → t.faults.actions = s.faults.actions))) ∧
    (s.mayWrite a .flt = false → yields (.force a source) s (fun t => s.refusedWrite t))) ∧
  (∀ (a : Agent) (v : W64) (s : State), s.mute a FLT_ACK.addr = false → yields (.fltAckWrite a v) s (fun t =>
    if s.mayWrite a .flt = true ∧ s.ackOk (bitsOf v.toNat 0 32) = true then s.onlyFaults t ∧
      t.fld FLT_ACK_SEQ = bitsOf v.toNat 0 32 ∧ t.faults.flying = s.faults.flying ∧ t.faults.ring = s.faults.ring ∧
      (∀ e, e ∈ t.faults.unacked → e ∈ s.faults.unacked)
    else s.refusedWrite t)) ∧
  (∀ (a : Agent) (pos : Nat) (s : State), pos < 1024 → s.mute a FLT_CMD.addr = false → yields (.declare a pos) s (fun t =>
    if s.mayWrite a .flt = true ∧ pos < 576 ∧ (s.status pos = 1 ∨ s.status pos = 2) then s.oneRecord t (srcPos pos 16) 2
    else s.refusedWrite t)) ∧
  (∀ (at_ : Nat) (s : State), s.oldestUnacked = some at_ → s.flag FLT_STATUS_OVERDUE = false → yields .ackDeadlineExpiry s (fun t =>
    at_ + s.fld FLT_CFG_ACK_DL * 100000 < t.now ∧ t.flag FLT_STATUS_OVERDUE = true ∧ t.flag FLT_STATUS_TOGGLING = false ∧
    t.pins.alive = false ∧ t.pins.alert = true ∧ t.faults = s.faults)) ∧
  (∀ (l : List Nat) (s : State), yields (.heartbeatPoll l) s (fun t => t = { s with clk := t.clk, faults := t.faults } ∧
    SMap.get 0 s.clk.last 1 + s.fld FLT_CFG_HB_MS * 100000 ≤ t.now ∧
    (∀ pos hb n, pos ∈ t.polled → l.contains pos = true → s.faults.beat.find? (fun e => e.1 = pos) = some (pos, (hb, n)) →
      s.fld FLT_CFG_HB_MISS ≤ n + 1 → s.faults.beatLost.has pos = false → t.hasRecord (srcPos pos 16) 1))) ∧
  (∀ (pos : Nat) (s : State), pos < 576 → s.clkState (groveOf pos) = 2 → (s.status pos = 1 ∨ s.status pos = 2) →
    (SMap.get (⟨[], false, 0⟩ : FwStore) s.boot.fw pos).running = true → yields (.heartbeatIncrement pos) s (fun t =>
      t = { s with clk := t.clk, csr := t.csr, faults := t.faults } ∧ t.fld (TILE_FLT_HB_HB pos) = (s.fld (TILE_FLT_HB_HB pos) + 1) % 2 ^ 32 ∧
      SMap.get 0 s.faults.hbAt pos + 65536 ≤ t.cycle (groveOf pos))) ∧
  (∀ (s : State), yields .healthUpdate s (fun t => t = { s with clk := t.clk, csr := t.csr, faults := t.faults } ∧
    SMap.get 0 s.clk.last 2 + s.fld FLT_HCFG_PERIOD * 100000000 ≤ t.now ∧
    (∀ k, k < 50 → s.fuses.stackMask.getLsbD k = true →
      let old := s.rd (HBM_HEALTH k) % 2 ^ 32
      t.rd (HBM_HEALTH k) % 2 ^ 32 = min (old - old / 2 ^ s.fld FLT_HCFG_DECAY +
        (s.growth (HBM_CE_CNT k) * s.weight 4 + s.growth (HBM_UE_CNT k) * s.weight 5)) 0xFFFFFFFF))) ∧
  (∀ (die g hcore : Nat) (s : State), die < 16 → g < 36 → hcore < 32 →
    (s.boot.dieOk.has (64 + die) = true → yields (.lRimDieFault die) s (fun t => t.boot.dieOk = s.boot.dieOk.del (64 + die) ∧
        (∀ j, j < 4 → t.ready 2 (4 * die + j) = false ∧ ((s.port (4 * die + j)).state ≠ 0 → (t.port (4 * die + j)).state = 5)) ∧
        t.hasRecord (srcLrim die 0) 1) ∧
      yields (.rimRingSegmentFault die) s (fun t => s.oneRecord t (srcLrim die 1) 1)) ∧
    (s.clkState g ≠ 0 → yields (.keepAliveDomainFault g) s (fun t => s.oneRecord t (srcGrove g 18) 1)) ∧
    (s.hostRuns = true → yields (.hostCoreUncorrectableRead hcore) s (fun t => s.oneRecord t (srcDev 6) 2)))

/-- R285 to R288, R293, R295 to R297, R381: the domain actions. -/
def Obligations.DomainActions : Prop :=
  (∀ (s : State) (r : FaultRec) (l : List FaultRec) (p : Nat), s.acts 1 r l → r.part = some p → yields .domainActionJob s (fun t =>
    t = { s with csr := t.csr, cores := t.cores, faults := { s.faults with actions := l } } ∧
    (∀ k, r.slot = some k → (s.slotState k = 1 ∨ s.slotState k = 2) → k < 256 → t.slotState k = 3) ∧
    (r.slot.isSome = true → r.halted = false → r.source % 20 ≠ 18 → t.cores = s.cores ∧
      t.flag (MGMT_PARTp_FSTAT_JOBDEAD p) = s.flag (MGMT_PARTp_FSTAT_JOBDEAD p)) ∧
    ((r.slot = none ∨ r.halted = true ∨ r.source % 20 = 18) → p < 16 → t.flag (MGMT_PARTp_FSTAT_JOBDEAD p) = true ∧
      ∀ pos c, pos ∈ s.partPositions p → c < 8 → t.flag (TILE_CORE_CTRL_RUN pos c) = false))) ∧
  (∀ (s : State) (r : FaultRec) (l : List FaultRec), s.acts 2 r l → r.pos < 576 →
    (s.status r.pos ≠ 1 → s.status r.pos ≠ 2 → yields .tileRecovery s (fun t =>
      t = { s with faults := { s.faults with actions := l } })) ∧
    ((s.status r.pos = 1 ∨ s.status r.pos = 2) → (∀ q, (s.part q).image = none) → yields .tileRecovery s (fun t =>
      t.status r.pos = 4 ∧
      (∀ i y, s.logical r.pos = some i → i < 504 → s.saplingOf (groveOf r.pos) = some y → y ≠ r.pos →
        t.status y = 1 ∧ t.posOf i = some y))) ∧
    (∀ p i x, s.status r.pos = 1 → s.logical r.pos = some i → s.partOf r.pos = some p → (s.part p).image = some x →
      (∀ q, q ≠ p → (s.part q).image = none) → s.recoverable p r.pos = false → yields .tileRecovery s (fun t =>
        t.partState p = 3 ∧ t.flag (MGMT_PARTp_FSTAT_STALE p) = true ∧ (t.part p).announce = none))) ∧
  (∀ (s : State) (r : FaultRec) (l : List FaultRec), s.acts 3 r l → yields .domainActionGrove s (fun t =>
    let g := (r.source - 0x2D00) / 32 % 36
    t.clkState g = 0 ∧ t.ready 0 g = false ∧ (∀ x, x ∈ s.working g → t.status x = 4) ∧
    (∀ p, s.partOfGrove g = some p → (s.part p).image.isSome = true → t.partState p = 3 ∧ t.flag (MGMT_PARTp_FSTAT_STALE p) = true))) ∧
  (∀ (s : State) (r : FaultRec) (l : List FaultRec) (p : Nat), s.acts 4 r l → r.part = some p → s.partExists p = true →
    yields .domainActionPartition s (fun t => t.partState p = (if (s.part p).image.isSome = true then 3 else 1) ∧ s.quieted t p ∧
      (t.part p).announce = none ∧ (0x3180 ≤ r.source → r.source < 0x3310 → (r.source - 0x3180) % 8 = 0 →
        t.flag (MGMT_PARTp_FSTAT_STACK_LOST p) = true))) ∧
  (∀ (s : State) (r : FaultRec) (l : List FaultRec), s.acts 5 r l → yields .domainActionDevice s (fun t =>
    (∀ p, p < 16 → s.partExists p = true → t.partState p = 1 ∧ (t.part p).image = none) ∧ (∀ g, g < 36 → t.clkState g ≠ 2) ∧
    (hardLimit r.source = true → t.flag THM_STATUS_SHUTDOWN = true ∧ ∀ g, g < 36 → t.clkState g = 0))) ∧
  (∀ (s : State) (r : FaultRec) (l : List FaultRec) (p : Nat), s.acts 6 r l → r.part = some p → p < 16 → yields .policyRewind s (fun t =>
    (s.partExists p = false → t = { s with faults := { s.faults with actions := l } }) ∧
    (s.partExists p = true → (s.part p).image = none → t.partState p = 1 ∧ s.quieted t p ∧ (t.part p).announce = none) ∧
    (s.partExists p = true → (s.part p).image.isSome = true → s.flag (MGMT_PARTp_FPOL_AUTO p) = false → t.partState p = 3 ∧ s.quieted t p ∧
      (t.part p).announce = none))) ∧
  (∀ (a : Agent) (p : Nat) (s : State), p < 16 → s.mute a FLT_CMD.addr = false →
    (s.mayWrite a .flt = true → (s.partState p = 3 ∨ s.partState p = 4) → s.flag (MGMT_PARTp_STATUS_BUSY p) = false →
      (s.part p).image.isSome = true → yields (.fltRewind a p) s (fun t => t.partState p = 3 ∧
        (s.flag (SEQ_CKPT_BASEp_VALID p) = false → t.flag (MGMT_PARTp_FSTAT_NOBOUNDARY p) = true ∧ s.quieted t p))) ∧
    (s.mayWrite a .flt = true → ¬((s.partState p = 3 ∨ s.partState p = 4) ∧ s.flag (MGMT_PARTp_STATUS_BUSY p) = false) → exec (.fltRewind a p) s = .next s) ∧
    (s.mayWrite a .flt = false → yields (.fltRewind a p) s (fun t => s.refusedWrite t)))

/-- R307, R361, R425, R426: panel reset and its release. -/
def Obligations.PanelReset : Prop :=
  let reset (input : Bool) (s t : State) : Prop := t.pending = s.pending ∧ t.fuses = s.fuses ∧ t.clk = s.clk ∧ t.std = s.std ∧
    t.wcnt = s.wcnt ∧ t.pins.inReset = true ∧ t.pins.alive = false ∧ t.boot.started = false ∧ t.mgmt.sessions = [] ∧
    t.mgmt.logBuffer = [] ∧ t.mgmt.slots = s.mgmt.slots ∧ t.power.inputGone = (s.power.inputGone || input) ∧
    (s.mgmt.logMissed = 0 → s.mgmt.logFlash.length + s.mgmt.logBuffer.length ≤ 1048576 →
      t.mgmt.logFlash = s.mgmt.logFlash ++ s.mgmt.logBuffer) ∧
    t.cores = [] ∧ t.spad = [] ∧ t.imem = [] ∧ t.hbm = [] ∧ t.net = [] ∧ t.track = [] ∧ t.msgs = [] ∧ t.sync = [] ∧
    t.fabric = [] ∧ t.parts = []
  let released (ref : Bool) (s t : State) : Prop := t.pending = s.pending ∧ t.fuses = s.fuses ∧ t.now = 0 ∧
    t.boot.started = true ∧ t.pins.inReset = false ∧ t.power.inputGone = false ∧
    t.fld CLK_STATUS_SOURCE = (if ref = true then 1 else 3) ∧ t.flag CLK_STATUS_REF_OK = ref ∧
    (t.fld MGMT_BOOT_STATUS_PHASE = 3 ∨ t.fld MGMT_BOOT_STATUS_PHASE = 5) ∧
    t.cores = [] ∧ t.spad = [] ∧ t.imem = [] ∧ t.hbm = [] ∧ t.sync = [] ∧ t.parts = []
  (∀ s : State, s.pins.inReset = false → yields .panelRstNAssert s (reset false s)) ∧
  (∀ s : State, s.power.inputGone = false → yields .inputLoss s (reset true s)) ∧
  (∀ (n : Nat) (x : Session) (s : State), s.session n = some x → x.admin = true → yields (.mgmtOpPanelReset n) s (reset false s)) ∧
  (∀ (ref : Bool) (s : State), (s.pins.inReset = true ∨ s.boot.started = false) → s.power.inputGone = false →
    yields (.panelResetRelease ref) s (released ref s)) ∧
  (∀ (ref : Bool) (s : State), s.power.inputGone = true → yields (.inputReturn ref) s (released ref s))

/-- R316 to R320, R322, R323, R326 to R329, R332, R333: the steps of bring-up, and the external test port. -/
def Obligations.BringUp : Prop :=
  (∀ (w : Nat) (s : State), w < 6 → s.waveOpen w = true → yields (.waveStart w) s (fun t =>
    t = { s with csr := t.csr, boot := t.boot, power := t.power } ∧ t.boot.waves = s.boot.waves.add w ∧
    t.boot.rimOn = (if s.waveGroves w = [] then s.boot.rimOn.add w else s.boot.rimOn) ∧
    t.fld MGMT_BOOT_STATUS_WAVE = w ∧
    (∀ g, g ∈ s.waveGroves w → s.clkState g = 0 → SMap.get 0 t.power.stages g = 8 ∧ t.fld (GRV_PWR_STATUS_STATE g) = 3))) ∧
  (∀ (d : Die) (patterns tenths : Nat) (s : State), d.wf = true → s.inLogic d = true →
    yields (.logicBistDone d true patterns tenths) s (fun t => t.spad = s.spad ∧ t.hbm = s.hbm ∧
      (∀ q, d = .cdie q → t.boot.logicOk.has q = true ∧ (131072 ≤ patterns → bitsOf (t.rd (MGMT_BISTi_RES q)) 8 10 = 968)) ∧
      (∀ k, d = .hrim k → t.boot.logicOk.has (600 + k) = true ∧ (s.fencedAt 2 k = false → t.boot.dieOk.has k = true))) ∧
    yields (.logicBistDone d false patterns tenths) s (fun t => t.spad = s.spad ∧ t.hbm = s.hbm ∧
      (∀ q, d = .cdie q → t.boot.tested.has q = true ∧ t.fld (MGMT_BISTi_RES_RESULT q) = 2) ∧
      (∀ k, d = .hrim k → t.fld (HBM_STATUS_STATE k) = 3 ∧ t.boot.ended.has k = true) ∧
      (d = .host → t.fld MGMT_HOST_CTRL_STATE = 4))) ∧
  (∀ (pos result bank ms : Nat) (s : State), pos < 576 → s.onTest (groveOf pos) = true → s.boot.logicOk.has pos = true →
    s.boot.tested.has pos = false → result ∈ [1, 3, 4, 8] → yields (.memoryBistDone pos result bank ms) s (fun t =>
      t.fld (MGMT_BISTi_RES_RESULT pos) = result ∧ t.boot.tested.has pos = true ∧ t.hbm = s.hbm ∧
      (result ≠ 1 → t.spad = s.spad))) ∧
  (∀ (k tenMs : Nat) (s : State), k < 48 → s.bringing = true → s.boot.logicOk.has (600 + k) = true → s.boot.ended.has k = false →
    s.fencedAt 2 k = false →
    yields (.stackTestDone k 1 tenMs) s (fun t => t.fld (HBM_STATUS_STATE k) = 1 ∧ t.boot.ended.has k = true ∧
      ∀ a, Mem.byte t.hbm a = if hbmKey k 0 ≤ a ∧ a < hbmKey (k + 1) 0 then 0 else Mem.byte s.hbm a) ∧
    (∀ r, (r = 3 ∨ r = 4) → yields (.stackTestDone k r tenMs) s (fun t => t.fld (HBM_STATUS_STATE k) = 3 ∧
      t.boot.ended.has k = true ∧ t.hbm = s.hbm))) ∧
  (∀ (k tenMs : Nat) (s : State), (k = 48 ∨ k = 49) → s.bringing = true → s.boot.logicOk.has 800 = true → s.boot.ended.has k = false →
    s.fencedAt 7 (k - 48) = false →
    yields (.stackTestDone k 1 tenMs) s (fun t => t.fld (HBM_STATUS_STATE k) = 1 ∧ t.boot.ended.has k = true ∧
      ∀ a, Mem.byte t.hbm a = if hbmKey k 0 ≤ a ∧ a < hbmKey (k + 1) 0 then 0 else Mem.byte s.hbm a) ∧
    (∀ r, (r = 3 ∨ r = 4) → yields (.stackTestDone k r tenMs) s (fun t => t.fld (HBM_STATUS_STATE k) = 3 ∧
      t.boot.ended.has k = true ∧ t.fld MGMT_HOST_CTRL_STATE = 4 ∧ t.hbm = s.hbm))) ∧
  (∀ (lane tenMs : Nat) (s : State), lane < 512 → s.bringing = true → s.boot.logicOk.has (700 + lane / 32) = true →
    s.boot.margined.has lane = false → (∀ i, i < lane % 32 → s.boot.margined.has (32 * (lane / 32) + i) = true) →
    yields (.laneMarginDone lane true tenMs) s (fun t => t.boot.margined.has lane = true ∧ t.std = s.std) ∧
    (s.stdOpen (0x40 + lane / 32) = true → yields (.laneMarginDone lane false tenMs) s (fun t =>
      t.boot.margined.has lane = true ∧ t.laneMasked lane = true ∧ t.laneGood lane = false))) ∧
  (∀ (pos wave block : Nat) (uni : Bool) (image : FwSlot) (s : State), pos < 576 → wave < 8 → s.runningImage 2 = some image →
    block < min 1024 image.bcastBlocks →
    s.takesFirmware pos = true → (uni = true ∨ groveOf pos / 6 = wave) →
    (∀ e : LinkErrors, (e.words ≠ [] ∨ e.poisoned = true) → yields (.bcast pos uni wave block e) s (fun t =>
      t.fwBytes = s.fwBytes ∧ t.boot = s.boot ∧ s.onlyFaults t ∧ s.countedBy t (TILE_NET_DROP_CNT pos) 1)) ∧
    yields (.bcast pos uni wave block .none) s (fun t =>
      t = { s with fwBytes := t.fwBytes, boot := t.boot } ∧ (t.fwStore pos).blocks = (s.fwStore pos).blocks.add block ∧
      ∀ a, Mem.byte t.fwBytes a = if pos * 2 ^ 18 + 256 * block ≤ a ∧ a < pos * 2 ^ 18 + 256 * block + 256
        then (image.bcastBlock block).getD (a - (pos * 2 ^ 18 + 256 * block)) 0 else Mem.byte s.fwBytes a)) ∧
  (∀ (pos blocks : Nat) (digest : BitVec 384) (s : State), pos < 576 → blocks ≤ 1024 → s.takesFirmware pos = true →
    let good := (List.range blocks).all (s.fwStore pos).blocks.has = true ∧ s.fwDigest pos blocks = digest
    (good → yields (.firmwareEnd pos blocks digest) s (fun t => t = { s with boot := t.boot } ∧ (t.fwStore pos).running = true)) ∧
    (¬good → (s.fwStore pos).resends < 3 → yields (.firmwareEnd pos blocks digest) s (fun t =>
      t = { s with csr := t.csr, boot := t.boot } ∧ (t.fwStore pos).running = false ∧
      (t.fwStore pos).resends = (s.fwStore pos).resends + 1)) ∧
    (¬good → 3 ≤ (s.fwStore pos).resends → yields (.firmwareEnd pos blocks digest) s (fun t =>
      t.fld (MGMT_BISTi_RES_RESULT pos) = 5))) ∧
  (∀ (g : Nat) (s : State), g < 36 → s.onTest g = true → s.reconciled g = true → s.rooted = true →
    (let act := ((List.range 16).map (posOfGrove g)).filter (fun q => decide (s.status q = 1))
     14 ≤ act.length ∧ act.all (fun q => (s.fwStore q).running) = true) → yields (.groveReady g) s (fun t =>
      t.clkState g = 1 ∧ t.ready 0 g = true ∧ t.boot.ended.has (200 + g) = true ∧ t.spad = s.spad ∧ t.hbm = s.hbm ∧ t.now = s.now)) ∧
  (∀ (s : State), s.boot.dieOk.has 128 = true → s.stackUsable 48 = true → s.stackUsable 49 = true → s.boot.hostUp = false →
    s.mgmt.down = false → (s.fld MGMT_BOOT_STATUS_PHASE ≠ 6 ∨ s.boot.ended.has 128 = true) → yields .hostComplexReady s (fun t => t.fld MGMT_HOST_CTRL_STATE = 2 ∧ t.ready 3 3 = true ∧ t.boot.hostUp = true ∧ t.hbm = s.hbm)) ∧
  (∀ (a : Agent) (ext : Bool) (s : State), s.mute a MGMT_TAP_CFG.addr = false → yields (.tapExtConnect a ext) s (fun t =>
    if s.mayWrite a .hostg = true ∧ (ext = false ∨ (s.flag MGMT_STATUS_DEBUG = true ∧ (List.range 16).all (fun p => !s.partExists p) = true))
      then t = { s with csr := t.csr } ∧ t.flag MGMT_TAP_CFG_EXT = ext
      else s.refusedWrite t)) ∧
  (∀ (x : TapSegment) (s : State), x.wf = true → s.flag MGMT_TAP_CFG_EXT = true →
    yields (.externalTapAccess x false) s (fun t => t = { s with boot := { s.boot with tapOpen := s.boot.tapOpen.del (tapKey x) } }) ∧
    (s.tapClosed x = true → yields (.externalTapAccess x true) s (fun t => s.refusedWrite t)) ∧
    (s.tapClosed x = false → s.tapPowered x = true → yields (.externalTapAccess x true) s (fun t =>
      t = { s with boot := { s.boot with tapOpen := s.boot.tapOpen.add (tapKey x) } })))

/-- R340, R352: changes of the operating point. -/
def Obligations.OperatingPoint : Prop :=
  (∀ (a : Agent) (target : Nat) (s : State), target < 4 → s.mute a CLK_OPP_CMD.addr = false →
    (s.mayWrite a .clkpwr = false → yields (.clkOppCmd a target) s (fun t => s.refusedWrite t)) ∧
    (s.mayWrite a .clkpwr = true →
      (∀ c, s.clk.change = some c → yields (.clkOppCmd a target) s (fun t => s.onlyClk t ∧ t.clk = s.clk ∧
        t.flag CLK_OPP_STATUS_ERR = true ∧ t.fld CLK_OPP_STATUS_CAUSE = 2)) ∧
      (s.clk.change = none →
        (∀ c, s.oppFault target .host = some c → yields (.clkOppCmd a target) s (fun t => s.onlyClk t ∧ t.clk = s.clk ∧
          t.flag CLK_OPP_STATUS_ERR = true ∧ t.fld CLK_OPP_STATUS_CAUSE = c)) ∧
        (s.oppFault target .host = none → yields (.clkOppCmd a target) s (fun t => s.onlyClk t ∧ t.now = s.now ∧
          t.opp = s.opp ∧ t.flag CLK_OPP_STATUS_BUSY = true ∧ t.fld CLK_OPP_STATUS_TARGET = target ∧
          (if s.opp < target ∧ s.clockedGroves ≠ [] then t.clk.change = some ⟨target, .host, [], none, [], 0⟩ ∧
              ∀ g, g ∈ s.clockedGroves → t.fld (GRV_PWR_STATUS_VCORE g) = s.setpoint g target
            else s.announcedOpp t ⟨target, .host, [], none, [], 0⟩ 0)))))) ∧
  (∀ (g mv : Nat) (s : State), g < 36 → yields (.vddCoreLevelReport g mv) s (fun t => s.onlyClk t ∧
    SMap.get 0 t.power.level g = mv ∧ t.now = s.now ∧
    (∀ c, s.clk.change = some c → c.at_ = none → s.fld (GRV_PWR_STATUS_VCORE g) ≤ mv + 5 → mv ≤ s.fld (GRV_PWR_STATUS_VCORE g) + 5 →
      (if s.clockedGroves.all (c.levels.add g).has = true then s.announcedOpp t { c with levels := c.levels.add g } 0
        else t.clk.change = some { c with levels := c.levels.add g })) ∧
    (s.clk.change = none → t.clk = s.clk ∧ t.csr = s.csr))) ∧
  (∀ (s : State) (c : OppChange) (n : Nat), s.clk.change = some c → c.at_ = some n → c.target < 4 → s.clk.queued = none →
    (s.oppAcked c = true → yields .oppSwitch s (fun t => s.onlyClk t ∧ n ≤ t.now ∧ t.opp = c.target ∧ t.clk.change = none ∧
      t.flag CLK_OPP_STATUS_BUSY = false ∧ (c.asker = .host → t.fld PWR_STATUS_HOST_OPP = c.target) ∧
      ∀ g, g ∈ s.clockedGroves → t.fld (GRV_CLK_STATUS_OPP g) = c.target ∧
        t.fld (GRV_CLK_STATUS_PLLSEL g) = 1 - s.fld (GRV_CLK_STATUS_PLLSEL g) ∧
        (c.target < s.opp → t.fld (GRV_PWR_STATUS_VCORE g) = s.setpoint g c.target))) ∧
    (s.oppAcked c = false → yields .oppAckMissing s (fun t => s.onlyClk t ∧ n ≤ t.now + 1000 ∧ t.opp = s.opp ∧
      (c.tries < 3 → s.announcedOpp t c (c.tries + 1)) ∧
      (3 ≤ c.tries → t.clk.change = none ∧ t.flag CLK_OPP_STATUS_ERR = true ∧ t.fld CLK_OPP_STATUS_CAUSE = 3 ∧
        t.flag CLK_OPP_STATUS_BUSY = false))) ∧
    (s.oppAcked c = false → exec .oppSwitch s = .next s))

/-- R341, R343 to R347: crossings, stretching, loss of lock and of the reference. -/
def Obligations.ClockEvents : Prop :=
  (∀ (g dir point code n : Nat) (s : State), g < 36 → dir < 4 → point < 4 → groveStep g dir = some n → s.oppSupported point = true →
    yields (.crossingAlignment g dir point code) s (fun t => t = { s with csr := t.csr, power := t.power } ∧
      bitsOf (t.rd (GRV_CLK_XPHASE g)) (12 * dir + 3 * point) 3 = code % 8 ∧
      t.power.aligned.has (16 * g + 4 * dir + point) = true)) ∧
  (∀ (g : Nat) (s : State), g < 36 → s.flag (GRV_CLK_CFG_STRETCH_EN g) = true → s.clkState g ≠ 0 →
    (∀ e, s.clk.stretched.find? (fun e => e.1 = g) = some e → e.2 + 16 ≤ s.cycle g) → yields (.droopStretch g) s (fun t =>
      s.onlyClk t ∧ t.cycle g = s.cycle g ∧ (∀ h, h ≠ g → SMap.get 0 s.clk.lag h ≤ s.clk.cyc → t.cycle h = s.cycle h + 1) ∧
      s.countedBy t (GRV_CLK_STRETCH_CNT g) 1)) ∧
  (∀ (g : Nat) (s : State), g < 36 → s.clkState g = 0 → s.fld (GRV_PWR_STATUS_STATE g) = 3 → SMap.get 0 s.power.stages g = 0 →
    s.boot.ended.has (200 + g) = true → (s.clk.change.bind (·.at_)) = none → yields (.groveClockStart g) s (fun t => t.clkState g = 1 ∧
      t.flag (GRV_CLK_STATUS_LOCK g) = true ∧ t.fld (GRV_CLK_STATUS_OPP g) = s.opp ∧ t.spad = s.spad ∧ t.hbm = s.hbm ∧ t.cores = s.cores)) ∧
  (∀ (g : Nat) (s : State), g < 36 → (s.clk.change.bind (·.at_)).isSome = true → exec (.groveClockStart g) s = .next s) ∧
  (∀ (g : Nat) (s : State), g < 36 → s.clkState g ≠ 0 → s.flag (GRV_CLK_STATUS_LOCK g) = true → yields (.pllLossOfLock g) s (fun t =>
    t.flag (GRV_CLK_STATUS_LOCK g) = false ∧ t.clkState g = s.clkState g ∧ t = { s with csr := t.csr, faults := t.faults } ∧
    s.oneMore t (srcGrove g 12) 1)) ∧
  (∀ (s : State), s.source = 1 → yields .referenceLoss s (fun t => s.onlyClk t ∧ t.source = 2 ∧ t.flag CLK_STATUS_REF_OK = false ∧
    t.clk = { s.clk with lostAt := some s.now } ∧
    s.oneMore t (srcDev 0) 1)) ∧
  (∀ (s : State), s.source = 2 → s.flag CLK_STATUS_BACKUP_OK = true → yields .backupInPlace s (fun t => s.onlyClk t ∧
    t.source = 3 ∧ t.clk = s.clk ∧ s.countedBy t CLK_HOLD_CNT 1)) ∧
  (∀ (s : State) (n : Nat), s.source = 2 → s.clk.lostAt = some n → yields .holdoverExpiry s (fun t => s.onlyClk t ∧
    n + 1000000 ≤ t.now ∧ t.clk.change = none ∧ t.clk.lostAt = none ∧ t.opp = s.opp ∧
    t.hasRecord (srcDev 1) 1)) ∧
  (∀ (s : State), s.flag CLK_CFG_AUTO_RETURN = true → (s.source = 2 ∨ s.source = 3) → yields .referenceReturn s (fun t =>
    s.onlyClk t ∧ t.source = 1 ∧ t.flag CLK_STATUS_REF_OK = true ∧ t.faults = s.faults ∧
    s.clk.lostAt.getD 0 + s.fld CLK_CFG_RETURN_S * 100000000 ≤ t.now))

/-- R350, R355 to R361, R365: the power path. -/
def Obligations.PowerDelivery : Prop :=
  (∀ (l : List (Nat × Nat)) (s : State), yields (.arbiterUpdate l) s (fun t => SMap.get 0 s.clk.last 3 + 1000 ≤ t.now ∧
    t.hbm = s.hbm ∧ t.imem = s.imem ∧
    (∀ g, g < 36 → t.fld (GRV_PWR_STATUS_TOK g) = s.holding g (((l.find? (fun c => c.1 = g)).map (·.2)).getD 0) % 2 ^ 10) ∧
    ∃ m, t.power.tokens = s.power.tokens ++ m ∧ ∀ x, x ∈ m → 0 < SMap.get 0 s.power.stages x.1 ∧ x.2.2 = t.now + 2500 ∧
      x.2.1 = s.fld (GRV_PWR_CFG_STAGE_TOK x.1) ∧ 0 ≤ t.freeTokens (x.1 / 6))) ∧
  (∀ (g : Nat) (x : Nat × Nat × Nat) (s : State), g < 36 → s.power.tokens.find? (fun t => t.1 = g) = some x →
    yields (.stageTokenReturn g) s (fun t => s.onlyClk t ∧ t.power.tokens = s.power.tokens.erase x ∧ x.2.2 ≤ t.now)) ∧
  (∀ (g : Nat) (s : State), g < 36 →
    (8 ≤ (SMap.get [] s.power.droops g).length → (SMap.get [] s.power.droops g).headD 0 ≤ (SMap.get [] s.power.droops g).getD 7 0 + 100000 →
      s.fld (GRV_PWR_STATUS_TRIM g) < 3 → s.setpoint g s.levelOpp < 850 → yields (.droopTrimRaise g) s (fun t => s.onlyClk t ∧
        t.fld (GRV_PWR_STATUS_TRIM g) = s.fld (GRV_PWR_STATUS_TRIM g) + 1 ∧ t.fld (GRV_PWR_STATUS_VCORE g) = t.setpoint g s.levelOpp)) ∧
    (s.fld (GRV_PWR_STATUS_TRIM g) ≠ 0 → yields (.droopTrimDecay g) s (fun t => s.onlyClk t ∧
      t.fld (GRV_PWR_STATUS_TRIM g) = s.fld (GRV_PWR_STATUS_TRIM g) - 1 ∧ t.fld (GRV_PWR_STATUS_VCORE g) = t.setpoint g s.levelOpp ∧
      SMap.get 0 s.power.trimmed g + 1000000000 ≤ t.now)) ∧
    (∀ ph, ph < 10 → s.flag (GRV_PWR_PHn_FAILED g ph) = false → s.fuses.groves.getLsbD g = true →
      (s.fld (GRV_PWR_STATUS_PH_FAIL g) = 0 → yields (.phaseFail g ph) s (fun t => t.flag (GRV_PWR_PHn_FAILED g ph) = true ∧
        t.fld (GRV_PWR_STATUS_ILIM g) = 396 ∧ t.clkState g = s.clkState g ∧ t.spad = s.spad ∧
        t.hasRecord (srcGrove g ph) 1)) ∧
      (s.fld (GRV_PWR_STATUS_PH_FAIL g) ≠ 0 → yields (.phaseFail g ph) s (fun t => t.flag (GRV_PWR_PHn_FAILED g ph) = true ∧
        t.clkState g = 0 ∧ t.hasRecord (srcGrove g 10) 1))) ∧
    (s.flag (GRV_PWR_STATUS_SHORT g) = false → s.fuses.groves.getLsbD g = true → yields (.groveShort g) s (fun t =>
      t.flag (GRV_PWR_STATUS_SHORT g) = true ∧ t.clkState g = 0 ∧ t.hbm = s.hbm ∧
      t.hasRecord (srcGrove g 10) 1)) ∧
    (∀ ph micro amps, ph < 10 → s.fuses.groves.getLsbD g = true → amps ≤ 10 →
      yields (.resistanceTrend g ph ⟨micro, amps⟩) s (fun t => t = { s with csr := t.csr } ∧ t.fld (GRV_PWR_PHn_CURRENT g ph) = amps ∧
        t.fld (GRV_PWR_PHn_RES g ph) = s.fld (GRV_PWR_PHn_RES g ph) ∧ t.fld (GRV_PWR_PHn_BASE g ph) = s.fld (GRV_PWR_PHn_BASE g ph))) ∧
    (∀ ph micro amps, ph < 10 → s.fuses.groves.getLsbD g = true → 10 < amps →
      yields (.resistanceTrend g ph ⟨micro, amps⟩) s (fun t => s.onlyClk t ∧
      t.fld (GRV_PWR_PHn_CURRENT g ph) = min amps 255 ∧ t.fld (GRV_PWR_PHn_RES g ph) = min micro 0xFFFF ∧
      t.fld (GRV_PWR_PHn_BASE g ph) = (if s.fld (GRV_PWR_PHn_BASE g ph) = 0 then min micro 0xFFFF else s.fld (GRV_PWR_PHn_BASE g ph)) ∧
      (∀ since, s.fld (GRV_PWR_PHn_BASE g ph) ≠ 0 → s.flag (GRV_PWR_PHn_TREND g ph) = false →
        s.fld (GRV_PWR_PHn_BASE g ph) * (100 + s.fld (GRV_PWR_CFG_TREND_PCT g)) ≤ 100 * micro →
        SMap.get s.now s.power.trend (16 * g + ph) = since → since + 60000000000 ≤ s.now →
        t.flag (GRV_PWR_PHn_TREND g ph) = true ∧ s.oneMore t (srcGrove g 11) 1)))) ∧
  (∀ (n : Nat) (s : State), n < 8 → Nat.testBit (s.fld PWR_STATUS_FE_OK) n = true → yields (.feConverterFail n) s (fun t => s.onlyClk t ∧
    Nat.testBit (t.fld PWR_STATUS_FE_OK) n = false ∧
    t.fld PWR_CAP_EFF_CAP = min (min (classCap (s.fld PWR_CFG_CLASS)) (s.fld PWR_CAP_CAP_W)) (min (s.fld PWR_CAP_THERM_CAP) t.frontEnd))) ∧
  (∀ (mv : Nat) (s : State),
    ((58000 < mv ∨ mv < 46000) → yields (.inputVoltageFault mv) s (fun t => s.onlyClk t ∧ t.power.badInput = true ∧
      t.fld PWR_STATUS_VIN = min mv 0xFFFF ∧ (s.power.badInput = true → t.faults = s.faults) ∧
      (s.power.badInput = false → s.oneMore t (srcDev 2) 1))) ∧
    (46000 ≤ mv → mv ≤ 58000 → yields (.inputVoltageRestored mv) s (fun t => s.onlyClk t ∧ t.power.badInput = false ∧
      t.fld PWR_STATUS_VIN = mv ∧ t.faults = s.faults)))

/-- R362, R363, R365, R371 to R375, R377, R379, R382, R383: the power envelope and the cooling. -/
def Obligations.EnvelopeAndCooling : Prop :=
  (∀ (r : MsReading) (demand soc : Nat) (s : State), yields (.governorUpdate r demand soc) s (fun t => s.onlyClk t ∧
    SMap.get 0 s.clk.last 4 + 100000 ≤ t.now ∧ t.fld PWR_POWER_PIN = r.pin % 2 ^ 16 ∧
    t.fld PWR_STATUS_VIN = min r.vin 0xFFFF ∧ t.fld PWR_STATUS_VBUS = min r.vbus 0x3FFF ∧ t.power.demand = demand ∧
    (s.controllerUp = false → t.mgmt.refreshed = s.mgmt.refreshed ∧ t.mgmt.late = s.mgmt.late) ∧
    (s.controllerUp = true → t.mgmt.refreshed = (if r.refreshed = true then t.now else s.mgmt.refreshed) ∧
      t.mgmt.late = decide (t.mgmt.refreshed + 1000000 < t.now) ∧
      t.pins.alive = (s.flag MGMT_READY_MISC_MGMT && !s.flag FLT_STATUS_OVERDUE && !t.mgmt.late)) ∧
    (s.power.empty = false → t.power.target ≤ s.power.target + s.fld PWR_CFG_SLEW ∧ s.power.target ≤ t.power.target + s.fld PWR_CFG_SLEW))) ∧
  (∀ (s : State), yields .ballastStep s (fun t => s.onlyClk t ∧ SMap.get 0 s.clk.last 5 + 1000 ≤ t.now ∧
    t.power.ballast ≤ s.power.ballast + 1 ∧ s.power.ballast ≤ t.power.ballast + 1 ∧
    t.fld PWR_POWER_BALLAST = s.ballasted * t.power.ballast / 4 % 2 ^ 16)) ∧
  (∀ (r : BitVec 16) (s : State),
    yields (.sensorRead .inlet (some r)) s (fun t => s.onlyClk t ∧ t.fld THM_COOLANT_T_IN = r.toNat % 2 ^ 12 ∧
      t.flag THM_STATUS_INLET_HIGH = decide (320 < degrees r.toNat)) ∧
    yields (.sensorRead .outlet (some r)) s (fun t => s.onlyClk t ∧ t.fld THM_COOLANT_T_OUT = r.toNat % 2 ^ 12) ∧
    yields (.sensorRead .pressure (some r)) s (fun t => s.onlyClk t ∧ t.fld THM_COOLANT_DP = r.toNat) ∧
    yields (.sensorRead .flow (some r)) s (fun t => s.onlyClk t ∧ t.fld THM_COOLANT_FLOW = r.toNat) ∧
    (∀ pos d, pos < 576 → d < 5 → s.sensed pos = true → s.senseState pos d ≠ 2 → yields (.sensorRead (.diode pos d) (some r)) s (fun t =>
      s.onlyClk t ∧ t.senseValue pos d = r.toNat % 2 ^ 12 ∧ t.senseState pos d = (if plausible (r.toNat % 2 ^ 12) = true then 0 else 1)))) ∧
  (∀ (pos d : Nat) (s : State) (e : Nat × Nat), pos < 576 → d < 5 → s.senseState pos d ≠ 2 →
    s.thermal.absent.find? (fun e => e.1 = 8 * pos + d) = some e → yields (.sensorFail pos d) s (fun t => s.onlyClk t ∧
      t.senseState pos d = 2 ∧ e.2 + 1000000000 ≤ t.now ∧
      t.hasRecord (srcGrove (groveOf pos) 15) 1)) ∧
  (∀ (l : List (Nat × BitVec 12)) (s : State), yields (.thermalModelUpdate l) s (fun t => s.onlyClk t ∧
    SMap.get 0 s.clk.last 6 + 100000 ≤ t.now ∧
    (∀ x, l = [x] → x.1 < 576 → s.sensed x.1 = true → t.fld (TILE_THM_HS_PRED x.1) = x.2.toNat) ∧
    (s.flag THM_CFG_MODE = true → t.fld THM_STATUS_TOPP = s.fld THM_STATUS_TOPP ∧ t.flag THM_STATUS_THROTTLED = s.flag THM_STATUS_THROTTLED) ∧
    (s.flag THM_CFG_MODE = false → s.threshold ≤ degrees (t.fld THM_PANEL_PRED) → 0 < s.fld THM_STATUS_TOPP → 0 < s.opp →
      s.thermal.steppedDown = none → t.fld THM_STATUS_TOPP = s.opp - 1 ∧ t.flag THM_STATUS_THROTTLED = true))) ∧
  (∀ (l : List (Nat × Nat)) (s : State), yields (.rthUpdate l) s (fun t => s.onlyClk t ∧ SMap.get 0 s.clk.last 7 + 10000000 ≤ t.now ∧
    t.thermal.rp = (if 100 ≤ s.fld PWR_POWER_PIN
      then ((s.aboveInlet (degrees (s.fld THM_PANEL_HS_MAX)) * 12500 / s.fld PWR_POWER_PIN) :: s.thermal.rp).take 100 else s.thermal.rp) ∧
    t.fld THM_PANEL_RTH = min (mean t.thermal.rp) 0xFFFF)) ∧
  (∀ (s : State), s.flag THM_CFG_MODE = true → yields .compatCapUpdate s (fun t => s.onlyClk t ∧
    SMap.get 0 s.clk.last 8 + 10000000 ≤ t.now ∧
    t.fld PWR_CAP_THERM_CAP = (if s.fld THM_PANEL_RTH = 0 then 15000 else max 3000 (min 15000
      (s.aboveInlet (840 - 8 * s.fld THM_CFG_COMP_MARGIN) * 12500 / s.fld THM_PANEL_RTH))) ∧
    t.fld PWR_CAP_EFF_CAP = min (min (classCap (s.fld PWR_CFG_CLASS)) (s.fld PWR_CAP_CAP_W)) (min (t.fld PWR_CAP_THERM_CAP) s.frontEnd))) ∧
  (∀ (s : State), (s.flag THM_STATUS_FLOW_LOST = false → yields .flowStop s (fun t => s.onlyClk t ∧
      t.flag THM_STATUS_FLOW_LOST = true ∧ t.pins.alert = true ∧
      s.oneMore t (srcDev 4) 1)) ∧
    (s.flag THM_STATUS_FLOW_LOST = true → s.coolantGood = true → yields .flowRestored s (fun t => s.onlyClk t ∧
      t.flag THM_STATUS_FLOW_LOST = false ∧ t.faults = s.faults)))

/-- R143, R150, R410, R411: the data windows of the host complex. -/
def Obligations.HostWindows : Prop :=
  (∀ (hcore ha bytes : Nat) (v : W64) (s : State), hcore < 32 → s.hostRuns = true →
    (s.window ha = none → yields (.hostWindowWrite hcore ha bytes v) s s.accessFault) ∧
    (∀ w a, s.window ha = some (w, a) →
      ((bytes ≠ 8 ∨ a % 8 ≠ 0 ∨ s.dspan a 8 = none) → yields (.hostWindowWrite hcore ha bytes v) s s.accessFault) ∧
      (∀ d, bytes = 8 → a % 8 = 0 → s.dspan a 8 = some d →
        (s.right w (storeRight d) = false → yields (.hostWindowWrite hcore ha bytes v) s s.accessFault) ∧
        (s.right w (storeRight d) = true → yields (.hostWindowWrite hcore ha bytes v) s (fun t =>
          s.onlyBridge t ∧ t.clk = s.clk ∧ t.bridge.faulted = false ∧
          ((∀ o, d ≠ .sync o) → s.combined t w hcore a v ∧ t.msgs = s.msgs) ∧
          (∀ o, d = .sync o → t.bridge.buffers = s.bridge.buffers ∧ t.net = s.net ∧ (s.bridge.syncs = [] →
            (s.earlierWrites hcore s.bridge.nextTag = true →
              t.bridge.syncs = [(⟨hcore, w, o, some v, s.bridge.nextTag⟩ : BSync)] ∧ t.msgs = s.msgs) ∧
            (s.earlierWrites hcore s.bridge.nextTag = false → t.bridge.syncs = [] ∧ (bitsOf v.toNat 32 3 ≤ 1 →
              ∃ m, t.msgs = s.msgs ++ [m] ∧ m.obj = o ∧ m.value = BitVec.ofNat 32 v.toNat ∧ m.kind = 3 ∧
                m.part = s.fld (MGMT_HWINw_PART w) ∧ m.set = decide (bitsOf v.toNat 32 3 = 1)))))))))) ∧
  (∀ (hcore ha bytes : Nat) (s : State), hcore < 32 → s.hostRuns = true →
    (s.window ha = none → yields (.hostWindowRead hcore ha bytes) s s.accessFault) ∧
    (∀ w a, s.window ha = some (w, a) →
      ((bytes ∉ [1, 2, 4, 8] ∨ a % bytes ≠ 0 ∨ s.dspace (a / 8 * 8) = none) →
        yields (.hostWindowRead hcore ha bytes) s s.accessFault) ∧
      (bytes ∈ [1, 2, 4, 8] → a % bytes = 0 →
        (∀ l off, s.dspace (a / 8 * 8) = some (.spad l off) → yields (.hostWindowRead hcore ha bytes) s s.accessFault) ∧
        (∀ off, s.dspace (a / 8 * 8) = some (.hbm off) →
          (s.right w 1 = false → yields (.hostWindowRead hcore ha bytes) s s.accessFault) ∧
          (s.right w 1 = true → yields (.hostWindowRead hcore ha bytes) s (fun t => s.onlyBridge t ∧ t.clk = s.clk ∧
            (∀ l, s.bridgeWay w (a / 8 * 8) = some l → t.bridge.faulted = false ∧
              s.bridgeSends t l 0 1 (fun p => p.fromBridge tREAD 1 (s.fld (MGMT_HWINw_PART w)) s.bridge.nextTag (a / 8 * 8)) ∧
              (∃ e, t.bridgeEntry s.bridge.nextTag = some e ∧ e.read = some (a % 8, bytes) ∧ e.hcore = hcore ∧ e.sent = s.now ∧
                e.held = false)) ∧
            (s.bridgeWay w (a / 8 * 8) = none → t.bridge.faulted = true ∧ t.net = s.net ∧
              (s.flag MGMT_HBR_ERR_CAP_VALID = false → bitsOf (t.rd MGMT_HBR_ERR_CAP) 0 4 = 4))))) ∧
        (∀ o, s.dspace (a / 8 * 8) = some (.sync o) →
          ((s.right w 3 = false ∨ bytes ≠ 8) → yields (.hostWindowRead hcore ha bytes) s s.accessFault) ∧
          (s.right w 3 = true → bytes = 8 → s.bridge.syncs = [] → yields (.hostWindowRead hcore ha bytes) s (fun t =>
            s.onlyBridge t ∧ t.clk = s.clk ∧ t.net = s.net ∧ t.msgs = s.msgs ∧ t.sync = s.sync ∧
            (s.earlierWrites hcore s.bridge.nextTag = true →
              t.bridge.syncs = [(⟨hcore, w, o, none, s.bridge.nextTag⟩ : BSync)] ∧ t.answer = s.answer) ∧
            (s.earlierWrites hcore s.bridge.nextTag = false → t.bridge.syncs = [] ∧
              t.answer = [BitVec.ofNat 64 (s.syncEntry o)] ∧ t.bridge.faulted = false))))))) ∧
  (∀ (n : Nat) (b : WcBuf) (s : State), s.bridge.buffers[n]? = some b → yields (.wcFlush n) s (fun t =>
    s.onlyBridge t ∧ t.clk = s.clk ∧ t.bridge.buffers = removeAt s.bridge.buffers n ∧ (b.window < 16 → s.wordsSent t b))) ∧
  (∀ (n pos : Nat) (it : NetItem) (s : State), s.net[n]? = some it → it.place = .host pos → classOf it.pkt.type = 1 →
    (∀ c, it.pkt.badHeader = some c → pos < 576 → yields (.hostBridgeAnswer n) s (fun t => s.onlyBridge t ∧ s.left n t.net ∧
      t.bridge = s.bridge ∧ t.answer = s.answer ∧ s.countedBy t (TILE_NET_DROP_CNT pos) 1)) ∧
    (it.pkt.badHeader = none → s.bridgeEntry it.pkt.tag = none → yields (.hostBridgeAnswer n) s (fun t => s.onlyBridge t ∧
      s.left n t.net ∧ t.bridge = s.bridge ∧ t.answer = s.answer)) ∧
    (∀ e, it.pkt.badHeader = none → s.bridgeEntry it.pkt.tag = some e → e.pkt.tag = it.pkt.tag →
      let again := it.pkt.type = tDEAD ∨ (it.pkt.type = tNACK ∧ it.pkt.reason = 1)
      (e.read.isSome = true → s.earlierWrites e.hcore e.order = true → exec (.hostBridgeAnswer n) s = .next s) ∧
      ((e.read = none ∨ s.earlierWrites e.hcore e.order = false) → s.bridge.syncs = [] → yields (.hostBridgeAnswer n) s (fun t =>
        s.onlyBridge t ∧ t.clk = s.clk ∧
        (it.pkt.type = tACK → t.bridge.track = s.bridge.track.erase it.pkt.tag ∧ s.left n t.net) ∧
        (∀ lo k, it.pkt.type = tRDATA → e.read = some (lo, k) → t.bridge.track = s.bridge.track.erase it.pkt.tag ∧ s.left n t.net ∧
          (if it.pkt.dataPoison = 0
            then t.bridge.faulted = false ∧ t.answer = [BitVec.ofNat 64 (bitsOf it.pkt.data (8 * lo) (8 * k))]
            else t.bridge.faulted = true ∧ t.answer = [])) ∧
        (it.pkt.type = tNACK → it.pkt.reason ≠ 1 → t.bridge.track = s.bridge.track.erase it.pkt.tag ∧ s.left n t.net ∧
          (e.read = none → s.countedBy t MGMT_HBR_ERR_CNT 1) ∧ (e.read.isSome = true → t.bridge.faulted = true)) ∧
        (again → (e.gen = s.bridge.gen ∨ s.bridgeTrail e.pkt = none) → s.left n t.net ∧
          t.bridgeEntry it.pkt.tag = some { e with held := true, heldFrom := some s.now }) ∧
        (again → e.gen ≠ s.bridge.gen → s.bridgeTrail e.pkt ≠ none →
          t.bridgeEntry it.pkt.tag = some { e with held := false, gen := s.bridge.gen, sent := s.now, heldFrom := none } ∧
          t.bridgeSent (fun p => p.tag = e.pkt.tag ∧ p.addr = e.pkt.addr ∧ p.type = e.pkt.type)))))) ∧
  (∀ (tag : Nat) (e : BTrack) (s : State), s.bridgeEntry tag = some e → s.bridge.syncs = [] →
    yields (.hostBridgeTimeout tag) s (fun t => s.onlyBridge t ∧ t.bridge.track = s.bridge.track.erase tag ∧ t.net = s.net ∧
      (if e.held = true then e.heldFrom.getD e.sent + (s.fld MGMT_HOST_CTRL_HOLD_LIM * 100000 - e.heldFor) ≤ t.now
        else e.sent + s.fld MGMT_HOST_CTRL_ACK_TO * 100000 ≤ t.now) ∧
      (e.read = none → s.countedBy t MGMT_HBR_ERR_CNT 1) ∧ (e.read.isSome = true → t.bridge.faulted = true) ∧
      (s.flag MGMT_HBR_ERR_CAP_VALID = false →
        bitsOf (t.rd MGMT_HBR_ERR_CAP) 0 4 = if e.held = true then 7 else 6)))

/-- R413, R414, R421, R427 to R429: the host's reset and watchdog, and the sideband. -/
def Obligations.HostAndSideband : Prop :=
  let reset (s t : State) : Prop :=
    t.bridge.buffers = [] ∧ t.bridge.out = [] ∧ t.bridge.track = [] ∧ t.bridge.syncs = [] ∧ t.boot.hostUp = false ∧
    t.fld MGMT_HOST_CTRL_STATE = (if s.fld MGMT_HOST_CTRL_STATE = 0 ∨ s.fld MGMT_HOST_CTRL_STATE = 4
      then s.fld MGMT_HOST_CTRL_STATE else 3) ∧
    t.cores = s.cores ∧ t.spad = s.spad ∧ t.hbm = s.hbm ∧ t.sync = s.sync
  (∀ (a : Agent) (s : State),
    (s.mayWrite a .hostg = true → yields (.hostCtrlReset a) s (fun t => reset s t ∧ t.clk = s.clk)) ∧
    (s.mayWrite a .hostg = false → yields (.hostCtrlReset a) s (fun t => s.refusedWrite t)) ∧
    (a ≠ .read → yields (.wdogKick a) s (fun t => t = { s with bridge := { s.bridge with kicked := s.now } })) ∧
    (a = .read → yields (.wdogKick a) s (fun t => s.refusedWrite t))) ∧
  (∀ (s : State),
    (s.flag MGMT_HOST_CTRL_WDOG_EN = true → yields .hostWatchdogExpiry s (fun t =>
      s.bridge.kicked + s.fld MGMT_HOST_CTRL_WDOG_MS * 100000 ≤ t.now ∧ t.bridge.kicked = t.now ∧
      t.hasRecord (srcDev 6) 3 ∧
      (s.flag MGMT_HOST_CTRL_AUTO_RESET = true → reset s t) ∧
      (s.flag MGMT_HOST_CTRL_AUTO_RESET = false → t.csr = s.csr ∧ t.bridge.buffers = s.bridge.buffers ∧ t.bridge.track = s.bridge.track))) ∧
    (s.flag MGMT_HOST_CTRL_WDOG_EN = false → exec .hostWatchdogExpiry s = .next s)) ∧
  (∀ (s : State),
    (s.controllerUp = true → yields .telemetryPublish s (fun t => t = { s with clk := t.clk, pins := t.pins } ∧
      SMap.get 0 s.clk.last 10 + 1000000 ≤ t.now ∧ t.pins.published = some t.now ∧ t.stale = false ∧
      t.telemetry 0x10 = BitVec.ofNat 16 (s.fld PWR_STATUS_VIN) ∧ t.telemetry 0x11 = BitVec.ofNat 16 (s.fld PWR_POWER_PIN) ∧
      t.telemetry 0x12 = BitVec.ofNat 16 (s.fld PWR_CAP_EFF_CAP) ∧ t.telemetry 0x20 = BitVec.ofNat 16 (s.fld THM_COOLANT_T_IN) ∧
      t.telemetry 0x21 = BitVec.ofNat 16 (s.fld THM_COOLANT_T_OUT) ∧ t.telemetry 0x22 = BitVec.ofNat 16 (s.fld THM_COOLANT_FLOW) ∧
      t.telemetry 0x23 = BitVec.ofNat 16 (s.fld THM_PANEL_HS_MAX) ∧
      (t.telemetry 0x01).getLsbD 0 = s.flag FLT_STATUS_TOGGLING ∧ (t.telemetry 0x01).getLsbD 1 = s.flag FLT_STATUS_OVERDUE ∧
      (t.telemetry 0x01).getLsbD 2 = s.flag THM_STATUS_SHUTDOWN ∧ (t.telemetry 0x01).getLsbD 3 = s.flag THM_STATUS_FLOW_LOST ∧
      (t.telemetry 0x01).getLsbD 4 = s.flag MGMT_STATUS_ROMREC)) ∧
    (s.power.inputGone = false →
      yields .smbVinRead s (fun t => t = { s with answer := [(s.telemetry 0x10).setWidth 64] }) ∧
      yields .smbPinRead s (fun t => t = { s with answer := [(s.telemetry 0x11).setWidth 64] }) ∧
      yields .smbEffCapRead s (fun t => t = { s with answer := [(s.telemetry 0x12).setWidth 64] }) ∧
      yields .smbTInRead s (fun t => t = { s with answer := [(s.telemetry 0x20).setWidth 64] }) ∧
      yields .smbTOutRead s (fun t => t = { s with answer := [(s.telemetry 0x21).setWidth 64] }) ∧
      yields .smbFlowRead s (fun t => t = { s with answer := [(s.telemetry 0x22).setWidth 64] }) ∧
      yields .smbHsMaxRead s (fun t => t = { s with answer := [(s.telemetry 0x23).setWidth 64] }) ∧
      yields .smbStatusRead s (fun t => t = { s with answer := t.answer } ∧ ∃ v, t.answer = [v] ∧
        v.getLsbD 9 = (s.stale || (s.telemetry 0x01).getLsbD 9) ∧
        ∀ i, i < 9 → v.getLsbD i = (s.telemetry 0x01).getLsbD i) ∧
      (∀ offset, yields (.smbFruRead offset) s (fun t => t = { s with answer :=
        [(Config.fruByte s.fuses.serial s.fuses.option s.fuses.build (offset % 2048)).setWidth 64] })) ∧
      (∀ command, smbCommands.contains command = false →
        yields (.smbUnsupported command) s (fun t => t = { s with answer := [] })))) ∧
  (∀ (port : Nat) (s : State), port < 2 → s.pins.cageOff.has port = false → yields (.cageOverpower port) s (fun t =>
    t = { s with csr := t.csr, mgmt := t.mgmt, pins := t.pins } ∧ t.pins.cageOff.has port = true ∧ t.linkUp port = false))

/-- R391, R398, R402, R404 to R408: the operations of management sessions. -/
def Obligations.SessionOperations : Prop :=
  (∀ (id addr kind off key : Nat) (value : W64) (lseq : W32) (nonce : BitVec 256) (chunk : List Byte) (kinds : List Nat) (b : Bool),
    NeedsRole id false .noRom (.cread id addr) ∧ NeedsRole id true .noRecovery (.cwrite id addr value) ∧
    NeedsRole id false .always (.logRead id lseq) ∧ NeedsRole id false .always (.attest id nonce) ∧
    NeedsRole id false .always (.certRead id) ∧ NeedsRole id true .always (.updBegin id kind) ∧
    NeedsRole id true .always (.updData id kind off chunk) ∧ NeedsRole id true .always (.updEnd id kind) ∧
    NeedsRole id true .always (.updActivate id kinds) ∧ NeedsRole id true .always (.updConfirm id kind b) ∧
    NeedsRole id true .noRecovery (.fenceClear id off) ∧ NeedsRole id true .noRecovery (.laneUnmask id off) ∧
    NeedsRole id true .noRom (.revoke id key) ∧ NeedsRole id true .noRecovery (.debugAuth id) ∧
    NeedsRole id true .always (.mgmtOpPanelReset id) ∧ NeedsRole id true .always (.mgmtOpHostReset id) ∧
    NeedsRole id true .always (.mgmtOpManagementRestart id)) ∧
  (∀ (id : Nat) (lseq : W32) (nonce : BitVec 256),
    Serves id false .always (.logRead id lseq) (fun s _ t => t = { s with answer := 0 ::
      ((s.mgmt.logFlash.filter (fun e => decide ((e.lseq - lseq).toNat < 2 ^ 31))).take 1024).flatMap LogEntry.words }) ∧
    Serves id false .always (.attest id nonce) (fun s _ t => t = { s with free := t.free, answer := t.answer } ∧
      t.answer.take 65 = 0 :: packWords 64 (s.attestReport nonce) ∧ t.answer.length = 2141) ∧
    Serves id false .always (.certRead id) (fun s _ t => t = { s with answer := t.answer } ∧
      t.answer.take 2 = [0, BitVec.ofNat 64 (Config.certificate 0).length])) ∧
  (∀ id kind : Nat,
    Serves id true .always (.updBegin id kind) (fun s _ t => s.onlyMgmt t ∧ t.std = s.std ∧
      (s.kindOk kind = false → t.status0 1 ∧ t.mgmt = s.mgmt) ∧
      (s.kindOk kind = true → s.trial kind = true → t.status0 2 ∧ t.mgmt = s.mgmt) ∧
      (s.kindOk kind = true → s.trial kind = false → t.status0 0 ∧ (t.fwSlot kind (s.target kind)).state = .invalid ∧
        s.slotsKept t kind (s.target kind) ∧ t.updates kind id = true)) ∧
    (∀ off chunk, Serves id true .always (.updData id kind off chunk) (fun s x t => s.onlyMgmt t ∧ t.std = s.std ∧ t.csr = s.csr ∧
      (s.kindOk kind = false → t.status0 1 ∧ t.mgmt = s.mgmt) ∧
      (s.kindOk kind = true →
        (s.updates kind x.id = false ∨ 65536 < chunk.length ∨ slotSize kind < off + chunk.length) → t.status0 2 ∧ t.mgmt = s.mgmt) ∧
      (s.kindOk kind = true → s.updates kind x.id = true → chunk.length ≤ 65536 → off + chunk.length ≤ slotSize kind →
        t.status0 0 ∧ s.slotsKept t kind (s.target kind) ∧ (t.fwSlot kind (s.target kind)).state = (s.fwSlot kind (s.target kind)).state ∧
        (∀ i b, chunk[i]? = some b → Mem.byte (t.fwSlot kind (s.target kind)).file (off + i) = b) ∧
        (∀ a, (a < off ∨ off + chunk.length ≤ a) →
          Mem.byte (t.fwSlot kind (s.target kind)).file a = Mem.byte (s.fwSlot kind (s.target kind)).file a)))) ∧
    Serves id true .always (.updEnd id kind) (fun s x t => s.onlyMgmt t ∧ t.std = s.std ∧
      (s.kindOk kind = true → s.updates kind x.id = false → t.status0 2 ∧ t.mgmt = s.mgmt) ∧
      (s.kindOk kind = true → s.updates kind x.id = true → t.updates kind x.id = false ∧
        (∀ c, s.imageFault kind (s.fwSlot kind (s.target kind)) = some c → t.status0 2 ∧ t.mgmt.slots = s.mgmt.slots ∧
          t.fld (MGMT_UPD_SLOTk_VERIFY_ERR kind) = c % 2 ^ 4) ∧
        (s.imageFault kind (s.fwSlot kind (s.target kind)) = none → t.status0 0 ∧ s.slotsKept t kind (s.target kind) ∧
          t.fwSlot kind (s.target kind) = { s.fwSlot kind (s.target kind) with state := .valid }))) ∧
    (∀ raise, Serves id true .always (.updConfirm id kind raise) (fun s _ t => s.onlyMgmt t ∧
      (s.kindOk kind = true → (s.trial kind = false ∨ s.runningSlot kind ≠ some (s.pref kind)) → t.status0 2 ∧
        t.mgmt = s.mgmt ∧ t.std = s.std) ∧
      (s.kindOk kind = true → s.trial kind = true → s.runningSlot kind = some (s.pref kind) →
        s.stdOpen (bootWord kind) = true → s.stdOpen (24 + (kind - 1)) = true → t.status0 0 ∧
        (t.fwSlot kind (s.pref kind)).state = .committed ∧ s.slotsKept t kind (s.pref kind) ∧ t.trial kind = false ∧
        t.pref kind = s.pref kind ∧
        t.stdWord (24 + (kind - 1)) = (if raise = true then (s.fwSlot kind (s.pref kind)).svn % 2 ^ 32 else s.stdWord (24 + (kind - 1))))))) ∧
  (∀ (id : Nat) (kinds : List Nat), Serves id true .always (.updActivate id kinds) (fun s _ t => s.onlyMgmt t ∧
    t.mgmt.slots = s.mgmt.slots ∧ (kinds = [] → t.status0 1) ∧
    (kinds ≠ [] → kinds.all s.kindOk = true →
      ((∃ k, k ∈ kinds ∧ (s.trial k = true ∨ (s.fwSlot k (s.target k)).state ≠ .valid)) → t.status0 2 ∧ t.std = s.std) ∧
      ((∀ k, k ∈ kinds → s.trial k = false ∧ (s.fwSlot k (s.target k)).state = .valid ∧ s.stdOpen (bootWord k) = true) →
        t.status0 0 ∧ s.stdKept t (kinds.map bootWord) ∧
        ∀ k, k ∈ kinds → t.pref k = s.target k ∧ t.trial k = true ∧ t.tries k = 0)))) ∧
  (∀ id n : Nat,
    (n < 1024 → Serves id true .noRecovery (.fenceClear id n) (fun s _ t => s.onlyMgmt t ∧ t.status0 0 ∧
      (s.stdOpen (fenceWord n + 1) = true → t.stdWord (fenceWord n + 1) = 0 ∧ s.stdKept t [fenceWord n + 1]))) ∧
    (n < 512 → Serves id true .noRecovery (.laneUnmask id n) (fun s _ t => s.onlyMgmt t ∧ t.status0 0 ∧
      (s.stdOpen (0x40 + n / 32) = true → ∀ l, l < 512 → t.laneMasked l = (decide (l ≠ n) && s.laneMasked l)))) ∧
    Serves id true .noRom (.revoke id n) (fun s _ t => t = { s with answer := t.answer, fuses := t.fuses } ∧
      (8 ≤ n → t.status0 1 ∧ t.fuses = s.fuses) ∧ (n < 8 → s.revocable n = false → t.status0 2 ∧ t.fuses = s.fuses) ∧
      (n < 8 → s.revocable n = true → t.status0 0 ∧ t.fuses = { s.fuses with revoked := t.fuses.revoked } ∧
        ∀ i, i < 8 → t.fuses.revoked.getLsbD i = (s.fuses.revoked.getLsbD i || decide (i = n)))) ∧
    Serves id true .noRecovery (.debugAuth id) (fun s _ t => t = { s with answer := t.answer, csr := t.csr } ∧
      (if Nat.testBit (s.stdWord 4) 4 = true ∧ (List.range 16).all (fun p => !s.partExists p) = true
        then t.status0 0 ∧ t.flag MGMT_STATUS_DEBUG = true else t.status0 2 ∧ t.csr = s.csr)) ∧
    Serves id true .always (.mgmtOpHostReset id) (fun s _ t => t.status0 0 ∧ t.bridge.buffers = [] ∧ t.bridge.track = [] ∧
      t.bridge.syncs = [] ∧ t.boot.hostUp = false ∧ t.cores = s.cores ∧ t.hbm = s.hbm) ∧
    Serves id true .always (.mgmtOpManagementRestart id) (fun s _ t => s.onlyMgmt t ∧ t.status0 0 ∧ t.mgmt.down = true ∧
      t.mgmt.sessions = [] ∧ t.pins.alive = false))

/-- R386, R389 to R396, R399, R405, R421: what happens to the management subsystem beside its operations. -/
def Obligations.ManagementEvents : Prop :=
  (∀ s : State, (s.controllerUp = true →
      yields .watchdogExpiry s (fun t => s.onlyClk t ∧ s.mgmt.refreshed + 10000000 ≤ t.now ∧ t.mgmt.down = true ∧
        t.mgmt.sessions = [] ∧ t.pins.alive = false)) ∧
    (s.mgmt.down = true → yields .managementRestart s (fun t => t.mgmt.down = false ∧ t.mgmt.late = false ∧ t.mgmt.refreshed = s.now ∧ t.mgmt.slots = s.mgmt.slots ∧
      t.std = s.std ∧ t.fld MGMT_STATUS_RESTARTS = (s.fld MGMT_STATUS_RESTARTS + 1) % 2 ^ 8 ∧
      (let third := s.mgmt.restarts.getD 1 0 ≠ 0 ∧ s.now ≤ s.mgmt.restarts.getD 1 0 + 60000000000;
        ((third ∨ s.restartSlot = none) → s.onlyMgmt t) ∧
        ((∀ p, p < 16 → s.partState p ≠ 6) → t = { s with
          csr := t.csr, faults := t.faults, mgmt := t.mgmt, pins := t.pins, boot := t.boot }) ∧
        (∀ l, ¬third → s.restartSlot ≠ none → t.boot.margined.has l = (s.boot.margined.has l && s.boot.ended.has (64 + l / 8))) ∧
        (third → t.flag MGMT_STATUS_ROMREC = true ∧ t.runningSlot 1 = none ∧
          t.hasRecord (srcDev 5) 1) ∧
        (¬third → s.restartSlot = none → t.flag MGMT_STATUS_ROMREC = true ∧ t.runningSlot 1 = none) ∧
        (∀ x, ¬third → s.restartSlot = some x → t.flag MGMT_STATUS_ROMREC = s.flag MGMT_STATUS_ROMREC ∧ t.runningSlot 1 = some x)))) ∧
    (s.mgmt.logBuffer ≠ [] → yields .logFlush s (fun t => s.onlyMgmt t ∧
      (s.mgmt.logFlash.length + s.mgmt.logBuffer.length ≤ 1048576 → t.mgmt.logFlash = s.mgmt.logFlash ++ s.mgmt.logBuffer) ∧
      (s.mgmt.logMissed = 0 → t.mgmt.logBuffer = []) ∧
      (s.mgmt.logMissed ≠ 0 → ∃ e, t.mgmt.logBuffer = [e] ∧ e.type = 10)))) ∧
  (∀ (admin read : Bool) (s : State), s.controllerUp = true → (admin || read) = true →
    (s.mgmt.sessions.length < 8 → s.linkUp (s.fld MGMT_MPORT_ACTIVE) = true → yields (.sessionOpen admin read) s (fun t =>
      s.onlyMgmt t ∧ t.mgmt.sessions = s.mgmt.sessions ++ [(⟨s.mgmt.nextSession, admin⟩ : Session)] ∧
      t.fld MGMT_STATUS_SESSIONS = s.mgmt.sessions.length + 1)) ∧
    (8 ≤ s.mgmt.sessions.length → exec (.sessionOpen admin read) s = .next s)) ∧
  (∀ (id : Nat) (x : Session) (s : State), s.session id = some x → yields (.sessionClose id) s (fun t => s.onlyMgmt t ∧
    t.session id = none ∧ (∀ j, j ≠ id → t.session j = s.session j) ∧ (∀ e, e ∈ t.mgmt.updating → e.2 ≠ id))) ∧
  (∀ (port : Nat) (up : Bool) (s : State), port < 2 → s.boot.started = true → (up = false ∨ s.pins.cageOff.has port = false) →
    yields (.mgmtPortLinkChange port up) s (fun t => t = { s with csr := t.csr, mgmt := t.mgmt } ∧ t.linkUp port = up ∧
      t.linkUp (1 - port) = s.linkUp (1 - port) ∧
      t.mgmt.downFrom.isSome = !t.linkUp (t.fld MGMT_MPORT_ACTIVE))) ∧
  (∀ (s : State) (n : Nat), s.mgmt.downFrom = some n →
    (s.linkUp (1 - s.fld MGMT_MPORT_ACTIVE) = true → yields .mportFailover s (fun t =>
      t = { s with clk := t.clk, csr := t.csr, mgmt := t.mgmt } ∧ n + 100000000 ≤ t.now ∧
      t.fld MGMT_MPORT_ACTIVE = 1 - s.fld MGMT_MPORT_ACTIVE ∧ t.mgmt.sessions = [] ∧
      t.fld MGMT_MPORT_FAILOVERS = (s.fld MGMT_MPORT_FAILOVERS + 1) % 2 ^ 16)) ∧
    (s.linkUp (1 - s.fld MGMT_MPORT_ACTIVE) = false → exec .mportFailover s = .next s)) ∧
  (∀ (a : Agent) (active : Nat) (s : State),
    (s.mayWrite a .hostg = true → yields (.mportSwap a active) s (fun t => t = { s with csr := t.csr, mgmt := t.mgmt } ∧
      t.fld MGMT_MPORT_ACTIVE = active % 2 ∧ t.mgmt.sessions = s.mgmt.sessions)) ∧
    (s.mayWrite a .hostg = false → yields (.mportSwap a active) s (fun t => s.refusedWrite t))) ∧
  (∀ (a : Agent) (w : Nat) (v : W32) (s : State), w < 16384 →
    ((stdDefined w = false ∨ s.mayWriteStd a w = false ∨ stdAllows w v.toNat = false) →
      yields (.stdWrite a w v) s (fun t => s.refusedWrite t)) ∧
    (stdMask w ≠ 0 → s.mayWriteStd a w = true → stdAllows w v.toNat = true → yields (.stdWrite a w v) s (fun t => s.onlyMgmt t ∧
      (s.stdOpen w = true → t.stdWord w = (v.toNat &&& stdMask w) ∧ SMap.get 0 t.wcnt w = SMap.get 0 s.wcnt w + 1 ∧
        s.stdKept t [w] ∧ (w = 5 → t.fld PWR_CFG_FLOOR = bitsOf v.toNat 0 8 ∧ t.fld PWR_CFG_SLEW = bitsOf v.toNat 8 9)) ∧
      (s.stdOpen w = false → t.std = s.std ∧ t.wcnt = s.wcnt ∧ t.hasRecord (srcDev 10) 2))) ∧
    (stdDefined w = true → stdMask w = 0 → s.mayWriteStd a w = true → stdAllows w v.toNat = true → exec (.stdWrite a w v) s = .next s)) ∧
  (∀ s : State, let b := if s.mgmt.hseq % 2 = 0 then 0x1000 else 0x2800
    yields .healthHistoryWrite s (fun t =>
      t = { s with clk := t.clk, csr := t.csr, faults := t.faults, mgmt := t.mgmt, std := t.std, wcnt := t.wcnt } ∧
      SMap.get 0 s.clk.last 9 + 360000000000 ≤ t.now ∧ t.mgmt.hseq = (s.mgmt.hseq + 1) % 2 ^ 32 ∧
      s.stdKept t ((List.range 0x476).map (b + ·)) ∧
      (s.stdOpen b = true → t.stdWord b = s.mgmt.hseq % 2 ^ 32) ∧
      (∀ q, q < 576 → s.stdOpen (b + 2 + q) = true → t.stdWord (b + 2 + q) = s.fld (TILE_FLT_HEALTH_SCORE q)) ∧
      (∀ k, k < 50 → s.stdOpen (b + 0x442 + k) = true → t.stdWord (b + 0x442 + k) = s.fld (HBM_HEALTH_SCORE k)) ∧
      (s.stdOpen (b + 0x475) = true → t.stdWord (b + 0x475) = complement s.mgmt.hseq)))

/-- R8, R9, R27 to R29, R80, R391, R392, R433: control space as software reaches it. -/
def Obligations.ControlSpace : Prop :=
  (∀ (a : Agent) (addr bytes : Nat) (v : W64) (s : State), bytes ∈ [1, 2, 4, 8] →
    (∃ t, exec (.controlWrite a addr v bytes) s = .next t) ∧
    (addr % bytes ≠ 0 → yields (.controlWrite a addr v bytes) s s.refusedWrite) ∧
    (addr % bytes = 0 → s.mute a addr = true → exec (.controlWrite a addr v bytes) s = .next s) ∧
    (addr % bytes = 0 → s.mute a addr = false → (blkOf addr).reg = none →
      (match blkOf addr with
        | .imem _ _ | .wcnt _ | .std _ | .sync _ => False
        | _ => True) → yields (.controlWrite a addr v bytes) s s.refusedWrite) ∧
    (∀ pos off, addr % bytes = 0 → s.mute a addr = false → blkOf addr = .imem pos off →
      (s.mayWrite a .mgmt = false → yields (.controlWrite a addr v bytes) s s.refusedWrite) ∧
      (s.mayWrite a .mgmt = true → (s.core (coreKey pos (off / 0x10000))).stopped = false →
        yields (.controlWrite a addr v bytes) s s.refusedWrite) ∧
      (s.mayWrite a .mgmt = true → (s.core (coreKey pos (off / 0x10000))).stopped = true →
        yields (.controlWrite a addr v bytes) s (fun t => t = { s with imem := t.imem, imemEcc := t.imemEcc } ∧
          (∀ i, i < bytes → Mem.byte t.imem (imemKey pos off + i) = BitVec.ofNat 8 (v.toNat / 2 ^ (8 * i))) ∧
          ∀ k, (k < imemKey pos off ∨ imemKey pos off + bytes ≤ k) → Mem.byte t.imem k = Mem.byte s.imem k)))) ∧
  (∀ (a : Agent) (addr reg : Nat) (v : W64) (s : State) (row : RegRow), addr % 8 = 0 → s.mute a addr = false →
    (blkOf addr).plain = true → (blkOf addr).reg = some (row, reg) →
    (s.mayWrite a row.who = false → yields (.controlWrite a addr v 8) s s.refusedWrite) ∧
    (s.mayWrite a row.who = true →
      (row.fields.all (fun f => f.ok (classCap (s.fld PWR_CFG_CLASS)) (s.rd ⟨reg, row.rst⟩) v.toNat (2 ^ 64 - 1)) = false →
        yields (.controlWrite a addr v 8) s s.refusedWrite) ∧
      (row.fields.all (fun f => f.ok (classCap (s.fld PWR_CFG_CLASS)) (s.rd ⟨reg, row.rst⟩) v.toNat (2 ^ 64 - 1)) = true →
        yields (.controlWrite a addr v 8) s (fun t => t = { s with csr := t.csr, faults := t.faults } ∧
          (∀ f, f ∈ row.fields → bitsOf (t.rd ⟨reg, row.rst⟩) f.lo f.len = f.wrote (s.rd ⟨reg, row.rst⟩) v.toNat) ∧
          ∀ r : Reg, r.addr ≠ reg → t.rd r = s.rd r)))) ∧
  (∀ (a : Agent) (k : Nat) (v : W64) (s : State), k < 256 → s.mute a (SEQ_CMDs k).addr = false →
    (bitsOf v.toNat 0 4 = 1 → exec (.controlWrite a (SEQ_CMDs k).addr v 8) s = exec (.activate a k) s) ∧
    (bitsOf v.toNat 0 4 = 2 → exec (.controlWrite a (SEQ_CMDs k).addr v 8) s = exec (.hold a k) s) ∧
    (bitsOf v.toNat 0 4 = 4 → exec (.controlWrite a (SEQ_CMDs k).addr v 8) s = exec (.release a k) s) ∧
    (bitsOf v.toNat 0 4 = 5 → exec (.controlWrite a (SEQ_CMDs k).addr v 8) s = exec (.setlen a k (bitsOf v.toNat 16 24)) s)) ∧
  (∀ (a : Agent) (p : Nat) (v : W64) (s : State), p < 16 → s.mute a (MGMT_PARTp_CMD p).addr = false →
    (bitsOf v.toNat 0 4 = 1 → exec (.controlWrite a (MGMT_PARTp_CMD p).addr v 8) s = exec (.create a p) s) ∧
    (bitsOf v.toNat 0 4 = 3 → exec (.controlWrite a (MGMT_PARTp_CMD p).addr v 8) s = exec (.start a p) s) ∧
    (bitsOf v.toNat 0 4 = 5 → exec (.controlWrite a (MGMT_PARTp_CMD p).addr v 8) s = exec (.teardown a p) s)) ∧
  (∀ (a : Agent) (v : W64) (s : State),
    exec (.controlWrite a CLK_OPP_CMD.addr v 8) s = exec (.clkOppCmd a (bitsOf v.toNat 0 2)) s) ∧
  (∀ id addr : Nat, Serves id false .noRom (.cread id addr) (fun s _ t =>
    (s.creadServes addr = false → t = { s with answer := [1] }) ∧
    (s.creadServes addr = true → (addr % 8 ≠ 0 ∨ (s.absent addr = false ∧ blkOf addr = .none)) →
      t.answer = [0, 0] ∧ ∃ r, t = { s with answer := t.answer, faults := { s.faults with flying := s.faults.flying ++ [r] } } ∧
        r.source = srcDev 9 ∧ r.cause = 1) ∧
    (s.creadServes addr = true → addr % 8 = 0 → s.absent addr = true → t.answer = [0, 0] ∧ t.faults = s.faults) ∧
    (∀ row reg, s.creadServes addr = true → addr % 8 = 0 → s.absent addr = false → (blkOf addr).plain = true →
      s.computed (blkOf addr) = none → (blkOf addr).reg = some (row, reg) → t = { s with answer := t.answer } ∧
        ∃ w : W64, t.answer = [0, w] ∧ ∀ f, f ∈ row.fields → bitsOf w.toNat f.lo f.len =
          (if f.acc = .wo ∨ f.acc = .w1s then 0 else bitsOf (s.rd ⟨reg, row.rst⟩) f.lo f.len)))) ∧
  (∀ (id addr : Nat) (value : W64), Serves id true .noRecovery (.cwrite id addr value) (fun s _ t =>
    ∃ u, exec (.controlWrite .admin addr value 8) s = .next u ∧ t = { u with answer := [0] }))

/-- The memories' canonical form, the model's own (no rule of the specification), holds after every command and step that
it held before. -/
def Obligations.MemoriesCanonical : Prop :=
  (∀ (c : Instr) (s t : State), s.canonical → exec c s = .next t → t.canonical) ∧
  (∀ s t : State, s.canonical → step s = .next t → t.canonical)

/-- R262, R338, R345, R349, R369, R385, R392, R415: reset values; and the memories' form at reset. -/
def Obligations.ResetState : Prop :=
  State.reset.canonical ∧ State.reset.pending = [] ∧ step State.reset = .next State.reset ∧
  (∀ g, g < 36 → State.reset.clkState g = 0) ∧ (∀ p, p < 16 → State.reset.partState p = 0) ∧
  (∀ key, (State.reset.core key).state = 0 ∧ (State.reset.core key).stopped = true) ∧
  State.reset.opp = 2 ∧ State.reset.fld PWR_STATUS_HOST_OPP = 2 ∧ State.reset.fld PWR_CFG_CLASS = 2 ∧
  State.reset.fld PWR_CAP_CAP_W = 14000 ∧ State.reset.fld PWR_CFG_FLOOR = 192 ∧ State.reset.fld PWR_CFG_SLEW = 150 ∧
  State.reset.fld CLK_CFG_LEAD_US = 100 ∧ State.reset.fld CLK_CFG_RETURN_S = 10 ∧ State.reset.fld THM_CFG_T_THROT = 101 ∧
  State.reset.fld THM_STATUS_TOPP = 3 ∧ State.reset.rd MGMT_ACL = 0x3F
end

