-- ==== Sys2Proof/Laws/Bits.lean ====
section
/-! SUPPORT. Bit fields of a number: what reading one gives after one has been replaced. -/

namespace Sys2Proof

theorem bitsOf_eq (x lo len : Nat) : bitsOf x lo len = x / 2 ^ lo % 2 ^ len := by
  simp [bitsOf, Nat.shiftRight_eq_div_pow]

theorem bitsOf_lt (x lo len : Nat) : bitsOf x lo len < 2 ^ len := Nat.mod_lt _ (Nat.two_pow_pos _)

/-- A field bit by bit. -/
theorem testBit_bitsOf (x lo len i : Nat) : (bitsOf x lo len).testBit i = (decide (i < len) && x.testBit (lo + i)) := by
  simp [bitsOf, Nat.testBit_mod_two_pow, Nat.testBit_shiftRight]

/-- A number as the part above a field, the field, and the part below it. -/
theorem field_split (x lo len : Nat) :
    x = (x / 2 ^ (lo + len)) * 2 ^ (lo + len) + bitsOf x lo len * 2 ^ lo + x % 2 ^ lo := by
  rw [bitsOf_eq, Nat.pow_add, ← Nat.div_div_eq_div_mul]
  have h1 := Nat.div_add_mod x (2 ^ lo)
  have h2 := Nat.div_add_mod (x / 2 ^ lo) (2 ^ len)
  calc x = 2 ^ lo * (x / 2 ^ lo) + x % 2 ^ lo := h1.symm
    _ = 2 ^ lo * (2 ^ len * (x / 2 ^ lo / 2 ^ len) + x / 2 ^ lo % 2 ^ len) + x % 2 ^ lo := by rw [h2]
    _ = _ := by ring

theorem setBitsOf_eq (x lo len v : Nat) :
    setBitsOf x lo len v = (x / 2 ^ (lo + len)) * 2 ^ (lo + len) + (v % 2 ^ len) * 2 ^ lo + x % 2 ^ lo := by
  have h := field_split x lo len
  unfold setBitsOf
  have : x - bitsOf x lo len * 2 ^ lo = (x / 2 ^ (lo + len)) * 2 ^ (lo + len) + x % 2 ^ lo := by omega
  rw [this]; omega

/-- Replacing a field bit by bit. -/
theorem testBit_setBitsOf (x lo len v i : Nat) : (setBitsOf x lo len v).testBit i =
    if lo ≤ i ∧ i < lo + len then v.testBit (i - lo) else x.testBit i := by
  have e : setBitsOf x lo len v = 2 ^ lo * (2 ^ len * (x / 2 ^ (lo + len)) + v % 2 ^ len) + x % 2 ^ lo := by
    rw [setBitsOf_eq, Nat.pow_add]; ring
  rw [e, Nat.testBit_two_pow_mul_add _ (Nat.mod_lt _ (Nat.two_pow_pos _))]
  by_cases h : i < lo
  · have hn : ¬ (lo ≤ i ∧ i < lo + len) := by omega
    rw [if_pos h, if_neg hn, Nat.testBit_mod_two_pow]; simp [h]
  · rw [if_neg h, Nat.testBit_two_pow_mul_add _ (Nat.mod_lt _ (Nat.two_pow_pos _))]
    by_cases h2 : i - lo < len
    · have hp : lo ≤ i ∧ i < lo + len := by omega
      rw [if_pos h2, if_pos hp, Nat.testBit_mod_two_pow]; simp [h2]
    · have hn : ¬ (lo ≤ i ∧ i < lo + len) := by omega
      rw [if_neg h2, if_neg hn, Nat.testBit_div_two_pow]
      congr 1; omega

@[simp] theorem bitsOf_setBitsOf_same (x lo len v : Nat) : bitsOf (setBitsOf x lo len v) lo len = v % 2 ^ len := by
  apply Nat.eq_of_testBit_eq; intro i
  rw [testBit_bitsOf, testBit_setBitsOf, Nat.testBit_mod_two_pow]
  by_cases h : i < len
  · have : lo ≤ lo + i ∧ lo + i < lo + len := by omega
    rw [if_pos this]; simp [h]
  · simp [h]

/-- A field apart from the one replaced reads as before. -/
theorem bitsOf_setBitsOf_ne (x : Nat) {lo len lo' len' : Nat} (v : Nat) (h : lo' + len' ≤ lo ∨ lo + len ≤ lo') :
    bitsOf (setBitsOf x lo len v) lo' len' = bitsOf x lo' len' := by
  apply Nat.eq_of_testBit_eq; intro i
  rw [testBit_bitsOf, testBit_bitsOf, testBit_setBitsOf]
  by_cases hi : i < len'
  · have : ¬ (lo ≤ lo' + i ∧ lo' + i < lo + len) := by omega
    rw [if_neg this]
  · simp [hi]

theorem setBitsOf_lt {x lo len v n : Nat} (hx : x < 2 ^ n) (hn : lo + len ≤ n) : setBitsOf x lo len v < 2 ^ n := by
  apply Nat.lt_pow_two_of_testBit; intro i hi
  rw [testBit_setBitsOf]
  have : ¬ (lo ≤ i ∧ i < lo + len) := by omega
  rw [if_neg this]
  exact Nat.testBit_lt_two_pow (Nat.lt_of_lt_of_le hx (Nat.pow_le_pow_right (by decide) hi))

end Sys2Proof
end

