-- ==== Sys2Proof/Laws/Sparse.lean ====
section
/-! SUPPORT. What reading a sparse map gives after a change of it, for every list, and the canonical form kept. -/

namespace Sys2Proof.Machine

@[simp] theorem SMap.get_nil {α : Type} (d : α) (k : Nat) : SMap.get d ([] : SMap α) k = d := rfl

theorem SMap.get_erase_same {α : Type} (d : α) (m : SMap α) (k : Nat) : SMap.get d (m.erase k) k = d := by
  induction m with
  | nil => rfl
  | cons e m ih =>
    obtain ⟨j, v⟩ := e
    by_cases h : k = j
    · simp only [SMap.erase, if_pos h]; exact ih
    · simp only [SMap.erase, if_neg h, SMap.get]; exact ih

theorem SMap.get_erase_ne {α : Type} (d : α) (m : SMap α) {k j : Nat} (h : j ≠ k) :
    SMap.get d (m.erase k) j = SMap.get d m j := by
  induction m with
  | nil => rfl
  | cons e m ih =>
    obtain ⟨i, v⟩ := e
    by_cases hk : k = i
    · subst hk; simp only [SMap.erase, if_true, SMap.get, if_neg h]; exact ih
    · simp only [SMap.erase, if_neg hk, SMap.get]
      split
      · rfl
      · exact ih

theorem SMap.get_insert_same {α : Type} (d : α) (m : SMap α) (k : Nat) (v : α) : SMap.get d (m.insert k v) k = v := by
  induction m with
  | nil => simp [SMap.insert, SMap.get]
  | cons e m ih =>
    obtain ⟨j, w⟩ := e
    simp only [SMap.insert]
    split
    · simp [SMap.get]
    · split
      · simp [SMap.get]
      · rename_i h _; simp only [SMap.get, if_neg h]; exact ih

theorem SMap.get_insert_ne {α : Type} (d : α) (m : SMap α) {k j : Nat} (v : α) (h : j ≠ k) :
    SMap.get d (m.insert k v) j = SMap.get d m j := by
  induction m with
  | nil => simp [SMap.insert, SMap.get, h]
  | cons e m ih =>
    obtain ⟨i, w⟩ := e
    simp only [SMap.insert]
    split
    · rename_i hk; subst hk; simp [SMap.get, h]
    · split
      · simp [SMap.get, h]
      · simp only [SMap.get]; split
        · rfl
        · exact ih

@[simp] theorem SMap.get_put_same {α : Type} [DecidableEq α] (d : α) (m : SMap α) (k : Nat) (v : α) :
    SMap.get d (SMap.put d m k v) k = v := by
  unfold SMap.put
  split
  · rename_i h; rw [SMap.get_erase_same, h]
  · exact SMap.get_insert_same d m k v

theorem SMap.get_put_ne {α : Type} [DecidableEq α] (d e : α) (m : SMap α) {k j : Nat} (v : α) (h : j ≠ k) :
    SMap.get e (SMap.put d m k v) j = SMap.get e m j := by
  unfold SMap.put
  split
  · exact SMap.get_erase_ne e m h
  · exact SMap.get_insert_ne e m v h

theorem SMap.get_filter {α : Type} (d : α) (m : SMap α) (p : Nat → Bool) (k : Nat) :
    SMap.get d (m.filter (fun e => p e.1)) k = if p k then SMap.get d m k else d := by
  induction m with
  | nil => simp
  | cons e m ih =>
    obtain ⟨j, v⟩ := e
    by_cases hj : p j
    · simp only [List.filter_cons, hj, if_true, SMap.get]
      by_cases h : k = j
      · subst h; simp [hj]
      · simp only [if_neg h]; exact ih
    · simp only [List.filter_cons, hj, SMap.get]
      by_cases h : k = j
      · subst h; simp [hj] at ih ⊢; exact ih
      · simp only [if_neg h]; exact ih

/-! ## The canonical form -/

theorem SMap.wfFrom_weaken {α : Type} [DecidableEq α] (d : Nat → α) (m : SMap α) {lo : Option Nat} {k : Nat}
    (hlo : ∀ l, lo = some l → l ≤ k) (h : SMap.wfFrom d (some k) m = true) : SMap.wfFrom d lo m = true := by
  cases m with
  | nil => rfl
  | cons e m =>
    obtain ⟨j, v⟩ := e
    simp only [SMap.wfFrom, Bool.and_eq_true, decide_eq_true_eq] at h ⊢
    refine ⟨⟨?_, h.1.2⟩, h.2⟩
    have := h.1.1
    cases lo with
    | none => rfl
    | some l => simp only [SMap.above, decide_eq_true_eq] at this ⊢; have := hlo l rfl; omega

theorem SMap.wfFrom_erase {α : Type} [DecidableEq α] (d : Nat → α) (m : SMap α) (k : Nat) :
    ∀ lo, SMap.wfFrom d lo m = true → SMap.wfFrom d lo (m.erase k) = true := by
  induction m with
  | nil => intro lo h; exact h
  | cons e m ih =>
    obtain ⟨j, v⟩ := e
    intro lo h
    simp only [SMap.wfFrom, Bool.and_eq_true, decide_eq_true_eq] at h
    simp only [SMap.erase]
    split
    · refine ih lo (SMap.wfFrom_weaken d m ?_ h.2)
      intro l hl; subst hl; simp only [SMap.above, decide_eq_true_eq] at h; omega
    · simp only [SMap.wfFrom, Bool.and_eq_true, decide_eq_true_eq]
      exact ⟨h.1, ih _ h.2⟩

theorem SMap.wfFrom_insert {α : Type} [DecidableEq α] (d : Nat → α) (m : SMap α) (k : Nat) (v : α) (hv : v ≠ d k) :
    ∀ lo, (∀ l, lo = some l → l < k) → SMap.wfFrom d lo m = true → SMap.wfFrom d lo (m.insert k v) = true := by
  have head : ∀ lo : Option Nat, (∀ l, lo = some l → l < k) →
      SMap.above lo k = true := by
    intro lo hlo; cases lo with
    | none => rfl
    | some l => simp only [SMap.above, decide_eq_true_eq]; exact hlo l rfl
  induction m with
  | nil => intro lo hlo _; simp [SMap.insert, SMap.wfFrom, hv, head lo hlo]
  | cons e m ih =>
    obtain ⟨j, w⟩ := e
    intro lo hlo h
    simp only [SMap.wfFrom, Bool.and_eq_true, decide_eq_true_eq] at h
    simp only [SMap.insert]
    split
    · rename_i hk; subst hk
      simp only [SMap.wfFrom, Bool.and_eq_true, decide_eq_true_eq]
      exact ⟨⟨head lo hlo, hv⟩, h.2⟩
    · split
      · rename_i hk
        simp only [SMap.wfFrom, Bool.and_eq_true, decide_eq_true_eq]
        exact ⟨⟨head lo hlo, hv⟩, ⟨⟨by simp [SMap.above, hk], h.1.2⟩, h.2⟩⟩
      · simp only [SMap.wfFrom, Bool.and_eq_true, decide_eq_true_eq]
        refine ⟨h.1, ih _ ?_ h.2⟩
        intro l hl; injection hl with hl; omega

theorem SMap.wf_put {α : Type} [DecidableEq α] (d : α) (m : SMap α) (k : Nat) (v : α)
    (h : SMap.wf (fun _ => d) m = true) : SMap.wf (fun _ => d) (SMap.put d m k v) = true := by
  unfold SMap.put
  split
  · exact SMap.wfFrom_erase _ _ _ _ h
  · rename_i hv; exact SMap.wfFrom_insert _ m k v hv none (by intro l hl; cases hl) h

theorem SMap.wf_filter {α : Type} [DecidableEq α] (d : Nat → α) (m : SMap α) (p : Nat × α → Bool) :
    ∀ lo, SMap.wfFrom d lo m = true → SMap.wfFrom d lo (m.filter p) = true := by
  induction m with
  | nil => intro lo h; exact h
  | cons e m ih =>
    obtain ⟨j, v⟩ := e
    intro lo h
    simp only [SMap.wfFrom, Bool.and_eq_true, decide_eq_true_eq] at h
    by_cases hp : p (j, v)
    · simp only [List.filter_cons, hp, if_true, SMap.wfFrom, Bool.and_eq_true, decide_eq_true_eq]
      exact ⟨h.1, ih _ h.2⟩
    · simp only [List.filter_cons, hp]
      refine ih lo (SMap.wfFrom_weaken d m ?_ h.2)
      intro l hl; subst hl; simp only [SMap.above, decide_eq_true_eq] at h; omega

/-! ## Sets -/

theorem NSet.has_add_same (m : NSet) (k : Nat) : (m.add k).has k = true := by
  induction m with
  | nil => simp [NSet.add, NSet.has]
  | cons j m ih =>
    simp only [NSet.add]
    split
    · rename_i h; simp [NSet.has, h]
    · split
      · simp [NSet.has]
      · rename_i h _; simp only [NSet.has, if_neg h]; exact ih

theorem NSet.has_del_same (m : NSet) (k : Nat) : (m.del k).has k = false := by
  induction m with
  | nil => rfl
  | cons j m ih =>
    simp only [NSet.del]
    split
    · exact ih
    · rename_i h; simp only [NSet.has, if_neg h]; exact ih

theorem NSet.has_add_ne (m : NSet) {k j : Nat} (h : j ≠ k) : (m.add k).has j = m.has j := by
  induction m with
  | nil => simp [NSet.add, NSet.has, h]
  | cons i m ih =>
    simp only [NSet.add]
    split
    · rfl
    · split
      · simp [NSet.has, h]
      · simp only [NSet.has]; split
        · rfl
        · exact ih

theorem NSet.has_del_ne (m : NSet) {k j : Nat} (h : j ≠ k) : (m.del k).has j = m.has j := by
  induction m with
  | nil => rfl
  | cons i m ih =>
    simp only [NSet.del]
    split
    · rename_i hk; subst hk; simp only [NSet.has, if_neg h]; exact ih
    · simp only [NSet.has]; split
      · rfl
      · exact ih

end Sys2Proof.Machine
end

