-- ==== Sys2Proof/Laws/State.lean ====
section
/-! SUPPORT. What the shared operations on the state change and what they leave: one lemma per part of the state they leave,
and what a register, a field, a core or a tile reads after a write. -/

namespace Sys2Proof.Machine

/-! ## Parts that an operation leaves -/

@[simp] theorem State.wr_pending (s : State) (r : Reg) (v : Nat) : (s.wr r v).pending = s.pending := rfl
@[simp] theorem State.wr_fuses (s : State) (r : Reg) (v : Nat) : (s.wr r v).fuses = s.fuses := rfl
@[simp] theorem State.wr_clk (s : State) (r : Reg) (v : Nat) : (s.wr r v).clk = s.clk := rfl
@[simp] theorem State.wr_std (s : State) (r : Reg) (v : Nat) : (s.wr r v).std = s.std := rfl
@[simp] theorem State.wr_wcnt (s : State) (r : Reg) (v : Nat) : (s.wr r v).wcnt = s.wcnt := rfl
@[simp] theorem State.wr_cores (s : State) (r : Reg) (v : Nat) : (s.wr r v).cores = s.cores := rfl
@[simp] theorem State.wr_tiles (s : State) (r : Reg) (v : Nat) : (s.wr r v).tiles = s.tiles := rfl
@[simp] theorem State.wr_spad (s : State) (r : Reg) (v : Nat) : (s.wr r v).spad = s.spad := rfl
@[simp] theorem State.wr_spadPoison (s : State) (r : Reg) (v : Nat) : (s.wr r v).spadPoison = s.spadPoison := rfl
@[simp] theorem State.wr_spadEcc (s : State) (r : Reg) (v : Nat) : (s.wr r v).spadEcc = s.spadEcc := rfl
@[simp] theorem State.wr_spadLine (s : State) (r : Reg) (v : Nat) : (s.wr r v).spadLine = s.spadLine := rfl
@[simp] theorem State.wr_spadLineCe (s : State) (r : Reg) (v : Nat) : (s.wr r v).spadLineCe = s.spadLineCe := rfl
@[simp] theorem State.wr_marks (s : State) (r : Reg) (v : Nat) : (s.wr r v).marks = s.marks := rfl
@[simp] theorem State.wr_imem (s : State) (r : Reg) (v : Nat) : (s.wr r v).imem = s.imem := rfl
@[simp] theorem State.wr_imemEcc (s : State) (r : Reg) (v : Nat) : (s.wr r v).imemEcc = s.imemEcc := rfl
@[simp] theorem State.wr_hbm (s : State) (r : Reg) (v : Nat) : (s.wr r v).hbm = s.hbm := rfl
@[simp] theorem State.wr_hbmPoison (s : State) (r : Reg) (v : Nat) : (s.wr r v).hbmPoison = s.hbmPoison := rfl
@[simp] theorem State.wr_hbmEcc (s : State) (r : Reg) (v : Nat) : (s.wr r v).hbmEcc = s.hbmEcc := rfl
@[simp] theorem State.wr_fwBytes (s : State) (r : Reg) (v : Nat) : (s.wr r v).fwBytes = s.fwBytes := rfl
@[simp] theorem State.wr_access (s : State) (r : Reg) (v : Nat) : (s.wr r v).access = s.access := rfl
@[simp] theorem State.wr_sync (s : State) (r : Reg) (v : Nat) : (s.wr r v).sync = s.sync := rfl
@[simp] theorem State.wr_msgs (s : State) (r : Reg) (v : Nat) : (s.wr r v).msgs = s.msgs := rfl
@[simp] theorem State.wr_ops (s : State) (r : Reg) (v : Nat) : (s.wr r v).ops = s.ops := rfl
@[simp] theorem State.wr_releasing (s : State) (r : Reg) (v : Nat) : (s.wr r v).releasing = s.releasing := rfl
@[simp] theorem State.wr_nextOp (s : State) (r : Reg) (v : Nat) : (s.wr r v).nextOp = s.nextOp := rfl
@[simp] theorem State.wr_nodesUp (s : State) (r : Reg) (v : Nat) : (s.wr r v).nodesUp = s.nodesUp := rfl
@[simp] theorem State.wr_net (s : State) (r : Reg) (v : Nat) : (s.wr r v).net = s.net := rfl
@[simp] theorem State.wr_track (s : State) (r : Reg) (v : Nat) : (s.wr r v).track = s.track := rfl
@[simp] theorem State.wr_combine (s : State) (r : Reg) (v : Nat) : (s.wr r v).combine = s.combine := rfl
@[simp] theorem State.wr_creditUsed (s : State) (r : Reg) (v : Nat) : (s.wr r v).creditUsed = s.creditUsed := rfl
@[simp] theorem State.wr_creditBack (s : State) (r : Reg) (v : Nat) : (s.wr r v).creditBack = s.creditBack := rfl
@[simp] theorem State.wr_rimTurn (s : State) (r : Reg) (v : Nat) : (s.wr r v).rimTurn = s.rimTurn := rfl
@[simp] theorem State.wr_idleSlots (s : State) (r : Reg) (v : Nat) : (s.wr r v).idleSlots = s.idleSlots := rfl
@[simp] theorem State.wr_srtGen (s : State) (r : Reg) (v : Nat) : (s.wr r v).srtGen = s.srtGen := rfl
@[simp] theorem State.wr_hbmReqs (s : State) (r : Reg) (v : Nat) : (s.wr r v).hbmReqs = s.hbmReqs := rfl
@[simp] theorem State.wr_ports (s : State) (r : Reg) (v : Nat) : (s.wr r v).ports = s.ports := rfl
@[simp] theorem State.wr_fabric (s : State) (r : Reg) (v : Nat) : (s.wr r v).fabric = s.fabric := rfl
@[simp] theorem State.wr_dies (s : State) (r : Reg) (v : Nat) : (s.wr r v).dies = s.dies := rfl
@[simp] theorem State.wr_parts (s : State) (r : Reg) (v : Nat) : (s.wr r v).parts = s.parts := rfl
@[simp] theorem State.wr_faults (s : State) (r : Reg) (v : Nat) : (s.wr r v).faults = s.faults := rfl
@[simp] theorem State.wr_boot (s : State) (r : Reg) (v : Nat) : (s.wr r v).boot = s.boot := rfl
@[simp] theorem State.wr_power (s : State) (r : Reg) (v : Nat) : (s.wr r v).power = s.power := rfl
@[simp] theorem State.wr_thermal (s : State) (r : Reg) (v : Nat) : (s.wr r v).thermal = s.thermal := rfl
@[simp] theorem State.wr_mgmt (s : State) (r : Reg) (v : Nat) : (s.wr r v).mgmt = s.mgmt := rfl
@[simp] theorem State.wr_bridge (s : State) (r : Reg) (v : Nat) : (s.wr r v).bridge = s.bridge := rfl
@[simp] theorem State.wr_pins (s : State) (r : Reg) (v : Nat) : (s.wr r v).pins = s.pins := rfl
@[simp] theorem State.wr_answer (s : State) (r : Reg) (v : Nat) : (s.wr r v).answer = s.answer := rfl
@[simp] theorem State.wr_free (s : State) (r : Reg) (v : Nat) : (s.wr r v).free = s.free := rfl

@[simp] theorem State.setFld_pending (s : State) (f : Field) (v : Nat) : (s.setFld f v).pending = s.pending := rfl
@[simp] theorem State.setFld_fuses (s : State) (f : Field) (v : Nat) : (s.setFld f v).fuses = s.fuses := rfl
@[simp] theorem State.setFld_clk (s : State) (f : Field) (v : Nat) : (s.setFld f v).clk = s.clk := rfl
@[simp] theorem State.setFld_std (s : State) (f : Field) (v : Nat) : (s.setFld f v).std = s.std := rfl
@[simp] theorem State.setFld_wcnt (s : State) (f : Field) (v : Nat) : (s.setFld f v).wcnt = s.wcnt := rfl
@[simp] theorem State.setFld_cores (s : State) (f : Field) (v : Nat) : (s.setFld f v).cores = s.cores := rfl
@[simp] theorem State.setFld_tiles (s : State) (f : Field) (v : Nat) : (s.setFld f v).tiles = s.tiles := rfl
@[simp] theorem State.setFld_spad (s : State) (f : Field) (v : Nat) : (s.setFld f v).spad = s.spad := rfl
@[simp] theorem State.setFld_spadPoison (s : State) (f : Field) (v : Nat) : (s.setFld f v).spadPoison = s.spadPoison := rfl
@[simp] theorem State.setFld_spadEcc (s : State) (f : Field) (v : Nat) : (s.setFld f v).spadEcc = s.spadEcc := rfl
@[simp] theorem State.setFld_spadLine (s : State) (f : Field) (v : Nat) : (s.setFld f v).spadLine = s.spadLine := rfl
@[simp] theorem State.setFld_spadLineCe (s : State) (f : Field) (v : Nat) : (s.setFld f v).spadLineCe = s.spadLineCe := rfl
@[simp] theorem State.setFld_marks (s : State) (f : Field) (v : Nat) : (s.setFld f v).marks = s.marks := rfl
@[simp] theorem State.setFld_imem (s : State) (f : Field) (v : Nat) : (s.setFld f v).imem = s.imem := rfl
@[simp] theorem State.setFld_imemEcc (s : State) (f : Field) (v : Nat) : (s.setFld f v).imemEcc = s.imemEcc := rfl
@[simp] theorem State.setFld_hbm (s : State) (f : Field) (v : Nat) : (s.setFld f v).hbm = s.hbm := rfl
@[simp] theorem State.setFld_hbmPoison (s : State) (f : Field) (v : Nat) : (s.setFld f v).hbmPoison = s.hbmPoison := rfl
@[simp] theorem State.setFld_hbmEcc (s : State) (f : Field) (v : Nat) : (s.setFld f v).hbmEcc = s.hbmEcc := rfl
@[simp] theorem State.setFld_fwBytes (s : State) (f : Field) (v : Nat) : (s.setFld f v).fwBytes = s.fwBytes := rfl
@[simp] theorem State.setFld_access (s : State) (f : Field) (v : Nat) : (s.setFld f v).access = s.access := rfl
@[simp] theorem State.setFld_sync (s : State) (f : Field) (v : Nat) : (s.setFld f v).sync = s.sync := rfl
@[simp] theorem State.setFld_msgs (s : State) (f : Field) (v : Nat) : (s.setFld f v).msgs = s.msgs := rfl
@[simp] theorem State.setFld_ops (s : State) (f : Field) (v : Nat) : (s.setFld f v).ops = s.ops := rfl
@[simp] theorem State.setFld_releasing (s : State) (f : Field) (v : Nat) : (s.setFld f v).releasing = s.releasing := rfl
@[simp] theorem State.setFld_nextOp (s : State) (f : Field) (v : Nat) : (s.setFld f v).nextOp = s.nextOp := rfl
@[simp] theorem State.setFld_nodesUp (s : State) (f : Field) (v : Nat) : (s.setFld f v).nodesUp = s.nodesUp := rfl
@[simp] theorem State.setFld_net (s : State) (f : Field) (v : Nat) : (s.setFld f v).net = s.net := rfl
@[simp] theorem State.setFld_track (s : State) (f : Field) (v : Nat) : (s.setFld f v).track = s.track := rfl
@[simp] theorem State.setFld_combine (s : State) (f : Field) (v : Nat) : (s.setFld f v).combine = s.combine := rfl
@[simp] theorem State.setFld_creditUsed (s : State) (f : Field) (v : Nat) : (s.setFld f v).creditUsed = s.creditUsed := rfl
@[simp] theorem State.setFld_creditBack (s : State) (f : Field) (v : Nat) : (s.setFld f v).creditBack = s.creditBack := rfl
@[simp] theorem State.setFld_rimTurn (s : State) (f : Field) (v : Nat) : (s.setFld f v).rimTurn = s.rimTurn := rfl
@[simp] theorem State.setFld_idleSlots (s : State) (f : Field) (v : Nat) : (s.setFld f v).idleSlots = s.idleSlots := rfl
@[simp] theorem State.setFld_srtGen (s : State) (f : Field) (v : Nat) : (s.setFld f v).srtGen = s.srtGen := rfl
@[simp] theorem State.setFld_hbmReqs (s : State) (f : Field) (v : Nat) : (s.setFld f v).hbmReqs = s.hbmReqs := rfl
@[simp] theorem State.setFld_ports (s : State) (f : Field) (v : Nat) : (s.setFld f v).ports = s.ports := rfl
@[simp] theorem State.setFld_fabric (s : State) (f : Field) (v : Nat) : (s.setFld f v).fabric = s.fabric := rfl
@[simp] theorem State.setFld_dies (s : State) (f : Field) (v : Nat) : (s.setFld f v).dies = s.dies := rfl
@[simp] theorem State.setFld_parts (s : State) (f : Field) (v : Nat) : (s.setFld f v).parts = s.parts := rfl
@[simp] theorem State.setFld_faults (s : State) (f : Field) (v : Nat) : (s.setFld f v).faults = s.faults := rfl
@[simp] theorem State.setFld_boot (s : State) (f : Field) (v : Nat) : (s.setFld f v).boot = s.boot := rfl
@[simp] theorem State.setFld_power (s : State) (f : Field) (v : Nat) : (s.setFld f v).power = s.power := rfl
@[simp] theorem State.setFld_thermal (s : State) (f : Field) (v : Nat) : (s.setFld f v).thermal = s.thermal := rfl
@[simp] theorem State.setFld_mgmt (s : State) (f : Field) (v : Nat) : (s.setFld f v).mgmt = s.mgmt := rfl
@[simp] theorem State.setFld_bridge (s : State) (f : Field) (v : Nat) : (s.setFld f v).bridge = s.bridge := rfl
@[simp] theorem State.setFld_pins (s : State) (f : Field) (v : Nat) : (s.setFld f v).pins = s.pins := rfl
@[simp] theorem State.setFld_answer (s : State) (f : Field) (v : Nat) : (s.setFld f v).answer = s.answer := rfl
@[simp] theorem State.setFld_free (s : State) (f : Field) (v : Nat) : (s.setFld f v).free = s.free := rfl

@[simp] theorem State.setElem_pending (s : State) (r : Nat → Reg) (w i v : Nat) : (s.setElem r w i v).pending = s.pending := rfl
@[simp] theorem State.setElem_fuses (s : State) (r : Nat → Reg) (w i v : Nat) : (s.setElem r w i v).fuses = s.fuses := rfl
@[simp] theorem State.setElem_clk (s : State) (r : Nat → Reg) (w i v : Nat) : (s.setElem r w i v).clk = s.clk := rfl
@[simp] theorem State.setElem_std (s : State) (r : Nat → Reg) (w i v : Nat) : (s.setElem r w i v).std = s.std := rfl
@[simp] theorem State.setElem_wcnt (s : State) (r : Nat → Reg) (w i v : Nat) : (s.setElem r w i v).wcnt = s.wcnt := rfl
@[simp] theorem State.setElem_cores (s : State) (r : Nat → Reg) (w i v : Nat) : (s.setElem r w i v).cores = s.cores := rfl
@[simp] theorem State.setElem_tiles (s : State) (r : Nat → Reg) (w i v : Nat) : (s.setElem r w i v).tiles = s.tiles := rfl
@[simp] theorem State.setElem_spad (s : State) (r : Nat → Reg) (w i v : Nat) : (s.setElem r w i v).spad = s.spad := rfl
@[simp] theorem State.setElem_spadPoison (s : State) (r : Nat → Reg) (w i v : Nat) : (s.setElem r w i v).spadPoison = s.spadPoison := rfl
@[simp] theorem State.setElem_spadEcc (s : State) (r : Nat → Reg) (w i v : Nat) : (s.setElem r w i v).spadEcc = s.spadEcc := rfl
@[simp] theorem State.setElem_spadLine (s : State) (r : Nat → Reg) (w i v : Nat) : (s.setElem r w i v).spadLine = s.spadLine := rfl
@[simp] theorem State.setElem_spadLineCe (s : State) (r : Nat → Reg) (w i v : Nat) : (s.setElem r w i v).spadLineCe = s.spadLineCe := rfl
@[simp] theorem State.setElem_marks (s : State) (r : Nat → Reg) (w i v : Nat) : (s.setElem r w i v).marks = s.marks := rfl
@[simp] theorem State.setElem_imem (s : State) (r : Nat → Reg) (w i v : Nat) : (s.setElem r w i v).imem = s.imem := rfl
@[simp] theorem State.setElem_imemEcc (s : State) (r : Nat → Reg) (w i v : Nat) : (s.setElem r w i v).imemEcc = s.imemEcc := rfl
@[simp] theorem State.setElem_hbm (s : State) (r : Nat → Reg) (w i v : Nat) : (s.setElem r w i v).hbm = s.hbm := rfl
@[simp] theorem State.setElem_hbmPoison (s : State) (r : Nat → Reg) (w i v : Nat) : (s.setElem r w i v).hbmPoison = s.hbmPoison := rfl
@[simp] theorem State.setElem_hbmEcc (s : State) (r : Nat → Reg) (w i v : Nat) : (s.setElem r w i v).hbmEcc = s.hbmEcc := rfl
@[simp] theorem State.setElem_fwBytes (s : State) (r : Nat → Reg) (w i v : Nat) : (s.setElem r w i v).fwBytes = s.fwBytes := rfl
@[simp] theorem State.setElem_access (s : State) (r : Nat → Reg) (w i v : Nat) : (s.setElem r w i v).access = s.access := rfl
@[simp] theorem State.setElem_sync (s : State) (r : Nat → Reg) (w i v : Nat) : (s.setElem r w i v).sync = s.sync := rfl
@[simp] theorem State.setElem_msgs (s : State) (r : Nat → Reg) (w i v : Nat) : (s.setElem r w i v).msgs = s.msgs := rfl
@[simp] theorem State.setElem_ops (s : State) (r : Nat → Reg) (w i v : Nat) : (s.setElem r w i v).ops = s.ops := rfl
@[simp] theorem State.setElem_releasing (s : State) (r : Nat → Reg) (w i v : Nat) : (s.setElem r w i v).releasing = s.releasing := rfl
@[simp] theorem State.setElem_nextOp (s : State) (r : Nat → Reg) (w i v : Nat) : (s.setElem r w i v).nextOp = s.nextOp := rfl
@[simp] theorem State.setElem_nodesUp (s : State) (r : Nat → Reg) (w i v : Nat) : (s.setElem r w i v).nodesUp = s.nodesUp := rfl
@[simp] theorem State.setElem_net (s : State) (r : Nat → Reg) (w i v : Nat) : (s.setElem r w i v).net = s.net := rfl
@[simp] theorem State.setElem_track (s : State) (r : Nat → Reg) (w i v : Nat) : (s.setElem r w i v).track = s.track := rfl
@[simp] theorem State.setElem_combine (s : State) (r : Nat → Reg) (w i v : Nat) : (s.setElem r w i v).combine = s.combine := rfl
@[simp] theorem State.setElem_creditUsed (s : State) (r : Nat → Reg) (w i v : Nat) : (s.setElem r w i v).creditUsed = s.creditUsed := rfl
@[simp] theorem State.setElem_creditBack (s : State) (r : Nat → Reg) (w i v : Nat) : (s.setElem r w i v).creditBack = s.creditBack := rfl
@[simp] theorem State.setElem_rimTurn (s : State) (r : Nat → Reg) (w i v : Nat) : (s.setElem r w i v).rimTurn = s.rimTurn := rfl
@[simp] theorem State.setElem_idleSlots (s : State) (r : Nat → Reg) (w i v : Nat) : (s.setElem r w i v).idleSlots = s.idleSlots := rfl
@[simp] theorem State.setElem_srtGen (s : State) (r : Nat → Reg) (w i v : Nat) : (s.setElem r w i v).srtGen = s.srtGen := rfl
@[simp] theorem State.setElem_hbmReqs (s : State) (r : Nat → Reg) (w i v : Nat) : (s.setElem r w i v).hbmReqs = s.hbmReqs := rfl
@[simp] theorem State.setElem_ports (s : State) (r : Nat → Reg) (w i v : Nat) : (s.setElem r w i v).ports = s.ports := rfl
@[simp] theorem State.setElem_fabric (s : State) (r : Nat → Reg) (w i v : Nat) : (s.setElem r w i v).fabric = s.fabric := rfl
@[simp] theorem State.setElem_dies (s : State) (r : Nat → Reg) (w i v : Nat) : (s.setElem r w i v).dies = s.dies := rfl
@[simp] theorem State.setElem_parts (s : State) (r : Nat → Reg) (w i v : Nat) : (s.setElem r w i v).parts = s.parts := rfl
@[simp] theorem State.setElem_faults (s : State) (r : Nat → Reg) (w i v : Nat) : (s.setElem r w i v).faults = s.faults := rfl
@[simp] theorem State.setElem_boot (s : State) (r : Nat → Reg) (w i v : Nat) : (s.setElem r w i v).boot = s.boot := rfl
@[simp] theorem State.setElem_power (s : State) (r : Nat → Reg) (w i v : Nat) : (s.setElem r w i v).power = s.power := rfl
@[simp] theorem State.setElem_thermal (s : State) (r : Nat → Reg) (w i v : Nat) : (s.setElem r w i v).thermal = s.thermal := rfl
@[simp] theorem State.setElem_mgmt (s : State) (r : Nat → Reg) (w i v : Nat) : (s.setElem r w i v).mgmt = s.mgmt := rfl
@[simp] theorem State.setElem_bridge (s : State) (r : Nat → Reg) (w i v : Nat) : (s.setElem r w i v).bridge = s.bridge := rfl
@[simp] theorem State.setElem_pins (s : State) (r : Nat → Reg) (w i v : Nat) : (s.setElem r w i v).pins = s.pins := rfl
@[simp] theorem State.setElem_answer (s : State) (r : Nat → Reg) (w i v : Nat) : (s.setElem r w i v).answer = s.answer := rfl
@[simp] theorem State.setElem_free (s : State) (r : Nat → Reg) (w i v : Nat) : (s.setElem r w i v).free = s.free := rfl

@[simp] theorem State.setStatus_pending (s : State) (pos v : Nat) : (s.setStatus pos v).pending = s.pending := rfl
@[simp] theorem State.setStatus_fuses (s : State) (pos v : Nat) : (s.setStatus pos v).fuses = s.fuses := rfl
@[simp] theorem State.setStatus_clk (s : State) (pos v : Nat) : (s.setStatus pos v).clk = s.clk := rfl
@[simp] theorem State.setStatus_std (s : State) (pos v : Nat) : (s.setStatus pos v).std = s.std := rfl
@[simp] theorem State.setStatus_wcnt (s : State) (pos v : Nat) : (s.setStatus pos v).wcnt = s.wcnt := rfl
@[simp] theorem State.setStatus_cores (s : State) (pos v : Nat) : (s.setStatus pos v).cores = s.cores := rfl
@[simp] theorem State.setStatus_tiles (s : State) (pos v : Nat) : (s.setStatus pos v).tiles = s.tiles := rfl
@[simp] theorem State.setStatus_spad (s : State) (pos v : Nat) : (s.setStatus pos v).spad = s.spad := rfl
@[simp] theorem State.setStatus_spadPoison (s : State) (pos v : Nat) : (s.setStatus pos v).spadPoison = s.spadPoison := rfl
@[simp] theorem State.setStatus_spadEcc (s : State) (pos v : Nat) : (s.setStatus pos v).spadEcc = s.spadEcc := rfl
@[simp] theorem State.setStatus_spadLine (s : State) (pos v : Nat) : (s.setStatus pos v).spadLine = s.spadLine := rfl
@[simp] theorem State.setStatus_spadLineCe (s : State) (pos v : Nat) : (s.setStatus pos v).spadLineCe = s.spadLineCe := rfl
@[simp] theorem State.setStatus_marks (s : State) (pos v : Nat) : (s.setStatus pos v).marks = s.marks := rfl
@[simp] theorem State.setStatus_imem (s : State) (pos v : Nat) : (s.setStatus pos v).imem = s.imem := rfl
@[simp] theorem State.setStatus_imemEcc (s : State) (pos v : Nat) : (s.setStatus pos v).imemEcc = s.imemEcc := rfl
@[simp] theorem State.setStatus_hbm (s : State) (pos v : Nat) : (s.setStatus pos v).hbm = s.hbm := rfl
@[simp] theorem State.setStatus_hbmPoison (s : State) (pos v : Nat) : (s.setStatus pos v).hbmPoison = s.hbmPoison := rfl
@[simp] theorem State.setStatus_hbmEcc (s : State) (pos v : Nat) : (s.setStatus pos v).hbmEcc = s.hbmEcc := rfl
@[simp] theorem State.setStatus_fwBytes (s : State) (pos v : Nat) : (s.setStatus pos v).fwBytes = s.fwBytes := rfl
@[simp] theorem State.setStatus_access (s : State) (pos v : Nat) : (s.setStatus pos v).access = s.access := rfl
@[simp] theorem State.setStatus_sync (s : State) (pos v : Nat) : (s.setStatus pos v).sync = s.sync := rfl
@[simp] theorem State.setStatus_msgs (s : State) (pos v : Nat) : (s.setStatus pos v).msgs = s.msgs := rfl
@[simp] theorem State.setStatus_ops (s : State) (pos v : Nat) : (s.setStatus pos v).ops = s.ops := rfl
@[simp] theorem State.setStatus_releasing (s : State) (pos v : Nat) : (s.setStatus pos v).releasing = s.releasing := rfl
@[simp] theorem State.setStatus_nextOp (s : State) (pos v : Nat) : (s.setStatus pos v).nextOp = s.nextOp := rfl
@[simp] theorem State.setStatus_nodesUp (s : State) (pos v : Nat) : (s.setStatus pos v).nodesUp = s.nodesUp := rfl
@[simp] theorem State.setStatus_net (s : State) (pos v : Nat) : (s.setStatus pos v).net = s.net := rfl
@[simp] theorem State.setStatus_track (s : State) (pos v : Nat) : (s.setStatus pos v).track = s.track := rfl
@[simp] theorem State.setStatus_combine (s : State) (pos v : Nat) : (s.setStatus pos v).combine = s.combine := rfl
@[simp] theorem State.setStatus_creditUsed (s : State) (pos v : Nat) : (s.setStatus pos v).creditUsed = s.creditUsed := rfl
@[simp] theorem State.setStatus_creditBack (s : State) (pos v : Nat) : (s.setStatus pos v).creditBack = s.creditBack := rfl
@[simp] theorem State.setStatus_rimTurn (s : State) (pos v : Nat) : (s.setStatus pos v).rimTurn = s.rimTurn := rfl
@[simp] theorem State.setStatus_idleSlots (s : State) (pos v : Nat) : (s.setStatus pos v).idleSlots = s.idleSlots := rfl
@[simp] theorem State.setStatus_srtGen (s : State) (pos v : Nat) : (s.setStatus pos v).srtGen = s.srtGen := rfl
@[simp] theorem State.setStatus_hbmReqs (s : State) (pos v : Nat) : (s.setStatus pos v).hbmReqs = s.hbmReqs := rfl
@[simp] theorem State.setStatus_ports (s : State) (pos v : Nat) : (s.setStatus pos v).ports = s.ports := rfl
@[simp] theorem State.setStatus_fabric (s : State) (pos v : Nat) : (s.setStatus pos v).fabric = s.fabric := rfl
@[simp] theorem State.setStatus_dies (s : State) (pos v : Nat) : (s.setStatus pos v).dies = s.dies := rfl
@[simp] theorem State.setStatus_parts (s : State) (pos v : Nat) : (s.setStatus pos v).parts = s.parts := rfl
@[simp] theorem State.setStatus_faults (s : State) (pos v : Nat) : (s.setStatus pos v).faults = s.faults := rfl
@[simp] theorem State.setStatus_boot (s : State) (pos v : Nat) : (s.setStatus pos v).boot = s.boot := rfl
@[simp] theorem State.setStatus_power (s : State) (pos v : Nat) : (s.setStatus pos v).power = s.power := rfl
@[simp] theorem State.setStatus_thermal (s : State) (pos v : Nat) : (s.setStatus pos v).thermal = s.thermal := rfl
@[simp] theorem State.setStatus_mgmt (s : State) (pos v : Nat) : (s.setStatus pos v).mgmt = s.mgmt := rfl
@[simp] theorem State.setStatus_bridge (s : State) (pos v : Nat) : (s.setStatus pos v).bridge = s.bridge := rfl
@[simp] theorem State.setStatus_pins (s : State) (pos v : Nat) : (s.setStatus pos v).pins = s.pins := rfl
@[simp] theorem State.setStatus_answer (s : State) (pos v : Nat) : (s.setStatus pos v).answer = s.answer := rfl
@[simp] theorem State.setStatus_free (s : State) (pos v : Nat) : (s.setStatus pos v).free = s.free := rfl

@[simp] theorem State.setCore_pending (s : State) (k : Nat) (c : Core) : (s.setCore k c).pending = s.pending := rfl
@[simp] theorem State.setCore_fuses (s : State) (k : Nat) (c : Core) : (s.setCore k c).fuses = s.fuses := rfl
@[simp] theorem State.setCore_clk (s : State) (k : Nat) (c : Core) : (s.setCore k c).clk = s.clk := rfl
@[simp] theorem State.setCore_csr (s : State) (k : Nat) (c : Core) : (s.setCore k c).csr = s.csr := rfl
@[simp] theorem State.setCore_std (s : State) (k : Nat) (c : Core) : (s.setCore k c).std = s.std := rfl
@[simp] theorem State.setCore_wcnt (s : State) (k : Nat) (c : Core) : (s.setCore k c).wcnt = s.wcnt := rfl
@[simp] theorem State.setCore_tiles (s : State) (k : Nat) (c : Core) : (s.setCore k c).tiles = s.tiles := rfl
@[simp] theorem State.setCore_spad (s : State) (k : Nat) (c : Core) : (s.setCore k c).spad = s.spad := rfl
@[simp] theorem State.setCore_spadPoison (s : State) (k : Nat) (c : Core) : (s.setCore k c).spadPoison = s.spadPoison := rfl
@[simp] theorem State.setCore_spadEcc (s : State) (k : Nat) (c : Core) : (s.setCore k c).spadEcc = s.spadEcc := rfl
@[simp] theorem State.setCore_spadLine (s : State) (k : Nat) (c : Core) : (s.setCore k c).spadLine = s.spadLine := rfl
@[simp] theorem State.setCore_spadLineCe (s : State) (k : Nat) (c : Core) : (s.setCore k c).spadLineCe = s.spadLineCe := rfl
@[simp] theorem State.setCore_marks (s : State) (k : Nat) (c : Core) : (s.setCore k c).marks = s.marks := rfl
@[simp] theorem State.setCore_imem (s : State) (k : Nat) (c : Core) : (s.setCore k c).imem = s.imem := rfl
@[simp] theorem State.setCore_imemEcc (s : State) (k : Nat) (c : Core) : (s.setCore k c).imemEcc = s.imemEcc := rfl
@[simp] theorem State.setCore_hbm (s : State) (k : Nat) (c : Core) : (s.setCore k c).hbm = s.hbm := rfl
@[simp] theorem State.setCore_hbmPoison (s : State) (k : Nat) (c : Core) : (s.setCore k c).hbmPoison = s.hbmPoison := rfl
@[simp] theorem State.setCore_hbmEcc (s : State) (k : Nat) (c : Core) : (s.setCore k c).hbmEcc = s.hbmEcc := rfl
@[simp] theorem State.setCore_fwBytes (s : State) (k : Nat) (c : Core) : (s.setCore k c).fwBytes = s.fwBytes := rfl
@[simp] theorem State.setCore_access (s : State) (k : Nat) (c : Core) : (s.setCore k c).access = s.access := rfl
@[simp] theorem State.setCore_sync (s : State) (k : Nat) (c : Core) : (s.setCore k c).sync = s.sync := rfl
@[simp] theorem State.setCore_msgs (s : State) (k : Nat) (c : Core) : (s.setCore k c).msgs = s.msgs := rfl
@[simp] theorem State.setCore_ops (s : State) (k : Nat) (c : Core) : (s.setCore k c).ops = s.ops := rfl
@[simp] theorem State.setCore_releasing (s : State) (k : Nat) (c : Core) : (s.setCore k c).releasing = s.releasing := rfl
@[simp] theorem State.setCore_nextOp (s : State) (k : Nat) (c : Core) : (s.setCore k c).nextOp = s.nextOp := rfl
@[simp] theorem State.setCore_nodesUp (s : State) (k : Nat) (c : Core) : (s.setCore k c).nodesUp = s.nodesUp := rfl
@[simp] theorem State.setCore_net (s : State) (k : Nat) (c : Core) : (s.setCore k c).net = s.net := rfl
@[simp] theorem State.setCore_track (s : State) (k : Nat) (c : Core) : (s.setCore k c).track = s.track := rfl
@[simp] theorem State.setCore_combine (s : State) (k : Nat) (c : Core) : (s.setCore k c).combine = s.combine := rfl
@[simp] theorem State.setCore_creditUsed (s : State) (k : Nat) (c : Core) : (s.setCore k c).creditUsed = s.creditUsed := rfl
@[simp] theorem State.setCore_creditBack (s : State) (k : Nat) (c : Core) : (s.setCore k c).creditBack = s.creditBack := rfl
@[simp] theorem State.setCore_rimTurn (s : State) (k : Nat) (c : Core) : (s.setCore k c).rimTurn = s.rimTurn := rfl
@[simp] theorem State.setCore_idleSlots (s : State) (k : Nat) (c : Core) : (s.setCore k c).idleSlots = s.idleSlots := rfl
@[simp] theorem State.setCore_srtGen (s : State) (k : Nat) (c : Core) : (s.setCore k c).srtGen = s.srtGen := rfl
@[simp] theorem State.setCore_hbmReqs (s : State) (k : Nat) (c : Core) : (s.setCore k c).hbmReqs = s.hbmReqs := rfl
@[simp] theorem State.setCore_ports (s : State) (k : Nat) (c : Core) : (s.setCore k c).ports = s.ports := rfl
@[simp] theorem State.setCore_fabric (s : State) (k : Nat) (c : Core) : (s.setCore k c).fabric = s.fabric := rfl
@[simp] theorem State.setCore_dies (s : State) (k : Nat) (c : Core) : (s.setCore k c).dies = s.dies := rfl
@[simp] theorem State.setCore_parts (s : State) (k : Nat) (c : Core) : (s.setCore k c).parts = s.parts := rfl
@[simp] theorem State.setCore_faults (s : State) (k : Nat) (c : Core) : (s.setCore k c).faults = s.faults := rfl
@[simp] theorem State.setCore_boot (s : State) (k : Nat) (c : Core) : (s.setCore k c).boot = s.boot := rfl
@[simp] theorem State.setCore_power (s : State) (k : Nat) (c : Core) : (s.setCore k c).power = s.power := rfl
@[simp] theorem State.setCore_thermal (s : State) (k : Nat) (c : Core) : (s.setCore k c).thermal = s.thermal := rfl
@[simp] theorem State.setCore_mgmt (s : State) (k : Nat) (c : Core) : (s.setCore k c).mgmt = s.mgmt := rfl
@[simp] theorem State.setCore_bridge (s : State) (k : Nat) (c : Core) : (s.setCore k c).bridge = s.bridge := rfl
@[simp] theorem State.setCore_pins (s : State) (k : Nat) (c : Core) : (s.setCore k c).pins = s.pins := rfl
@[simp] theorem State.setCore_answer (s : State) (k : Nat) (c : Core) : (s.setCore k c).answer = s.answer := rfl
@[simp] theorem State.setCore_free (s : State) (k : Nat) (c : Core) : (s.setCore k c).free = s.free := rfl

@[simp] theorem State.modCore_pending (s : State) (k : Nat) (f : Core → Core) : (s.modCore k f).pending = s.pending := rfl
@[simp] theorem State.modCore_fuses (s : State) (k : Nat) (f : Core → Core) : (s.modCore k f).fuses = s.fuses := rfl
@[simp] theorem State.modCore_clk (s : State) (k : Nat) (f : Core → Core) : (s.modCore k f).clk = s.clk := rfl
@[simp] theorem State.modCore_csr (s : State) (k : Nat) (f : Core → Core) : (s.modCore k f).csr = s.csr := rfl
@[simp] theorem State.modCore_std (s : State) (k : Nat) (f : Core → Core) : (s.modCore k f).std = s.std := rfl
@[simp] theorem State.modCore_wcnt (s : State) (k : Nat) (f : Core → Core) : (s.modCore k f).wcnt = s.wcnt := rfl
@[simp] theorem State.modCore_tiles (s : State) (k : Nat) (f : Core → Core) : (s.modCore k f).tiles = s.tiles := rfl
@[simp] theorem State.modCore_spad (s : State) (k : Nat) (f : Core → Core) : (s.modCore k f).spad = s.spad := rfl
@[simp] theorem State.modCore_spadPoison (s : State) (k : Nat) (f : Core → Core) : (s.modCore k f).spadPoison = s.spadPoison := rfl
@[simp] theorem State.modCore_spadEcc (s : State) (k : Nat) (f : Core → Core) : (s.modCore k f).spadEcc = s.spadEcc := rfl
@[simp] theorem State.modCore_spadLine (s : State) (k : Nat) (f : Core → Core) : (s.modCore k f).spadLine = s.spadLine := rfl
@[simp] theorem State.modCore_spadLineCe (s : State) (k : Nat) (f : Core → Core) : (s.modCore k f).spadLineCe = s.spadLineCe := rfl
@[simp] theorem State.modCore_marks (s : State) (k : Nat) (f : Core → Core) : (s.modCore k f).marks = s.marks := rfl
@[simp] theorem State.modCore_imem (s : State) (k : Nat) (f : Core → Core) : (s.modCore k f).imem = s.imem := rfl
@[simp] theorem State.modCore_imemEcc (s : State) (k : Nat) (f : Core → Core) : (s.modCore k f).imemEcc = s.imemEcc := rfl
@[simp] theorem State.modCore_hbm (s : State) (k : Nat) (f : Core → Core) : (s.modCore k f).hbm = s.hbm := rfl
@[simp] theorem State.modCore_hbmPoison (s : State) (k : Nat) (f : Core → Core) : (s.modCore k f).hbmPoison = s.hbmPoison := rfl
@[simp] theorem State.modCore_hbmEcc (s : State) (k : Nat) (f : Core → Core) : (s.modCore k f).hbmEcc = s.hbmEcc := rfl
@[simp] theorem State.modCore_fwBytes (s : State) (k : Nat) (f : Core → Core) : (s.modCore k f).fwBytes = s.fwBytes := rfl
@[simp] theorem State.modCore_access (s : State) (k : Nat) (f : Core → Core) : (s.modCore k f).access = s.access := rfl
@[simp] theorem State.modCore_sync (s : State) (k : Nat) (f : Core → Core) : (s.modCore k f).sync = s.sync := rfl
@[simp] theorem State.modCore_msgs (s : State) (k : Nat) (f : Core → Core) : (s.modCore k f).msgs = s.msgs := rfl
@[simp] theorem State.modCore_ops (s : State) (k : Nat) (f : Core → Core) : (s.modCore k f).ops = s.ops := rfl
@[simp] theorem State.modCore_releasing (s : State) (k : Nat) (f : Core → Core) : (s.modCore k f).releasing = s.releasing := rfl
@[simp] theorem State.modCore_nextOp (s : State) (k : Nat) (f : Core → Core) : (s.modCore k f).nextOp = s.nextOp := rfl
@[simp] theorem State.modCore_nodesUp (s : State) (k : Nat) (f : Core → Core) : (s.modCore k f).nodesUp = s.nodesUp := rfl
@[simp] theorem State.modCore_net (s : State) (k : Nat) (f : Core → Core) : (s.modCore k f).net = s.net := rfl
@[simp] theorem State.modCore_track (s : State) (k : Nat) (f : Core → Core) : (s.modCore k f).track = s.track := rfl
@[simp] theorem State.modCore_combine (s : State) (k : Nat) (f : Core → Core) : (s.modCore k f).combine = s.combine := rfl
@[simp] theorem State.modCore_creditUsed (s : State) (k : Nat) (f : Core → Core) : (s.modCore k f).creditUsed = s.creditUsed := rfl
@[simp] theorem State.modCore_creditBack (s : State) (k : Nat) (f : Core → Core) : (s.modCore k f).creditBack = s.creditBack := rfl
@[simp] theorem State.modCore_rimTurn (s : State) (k : Nat) (f : Core → Core) : (s.modCore k f).rimTurn = s.rimTurn := rfl
@[simp] theorem State.modCore_idleSlots (s : State) (k : Nat) (f : Core → Core) : (s.modCore k f).idleSlots = s.idleSlots := rfl
@[simp] theorem State.modCore_srtGen (s : State) (k : Nat) (f : Core → Core) : (s.modCore k f).srtGen = s.srtGen := rfl
@[simp] theorem State.modCore_hbmReqs (s : State) (k : Nat) (f : Core → Core) : (s.modCore k f).hbmReqs = s.hbmReqs := rfl
@[simp] theorem State.modCore_ports (s : State) (k : Nat) (f : Core → Core) : (s.modCore k f).ports = s.ports := rfl
@[simp] theorem State.modCore_fabric (s : State) (k : Nat) (f : Core → Core) : (s.modCore k f).fabric = s.fabric := rfl
@[simp] theorem State.modCore_dies (s : State) (k : Nat) (f : Core → Core) : (s.modCore k f).dies = s.dies := rfl
@[simp] theorem State.modCore_parts (s : State) (k : Nat) (f : Core → Core) : (s.modCore k f).parts = s.parts := rfl
@[simp] theorem State.modCore_faults (s : State) (k : Nat) (f : Core → Core) : (s.modCore k f).faults = s.faults := rfl
@[simp] theorem State.modCore_boot (s : State) (k : Nat) (f : Core → Core) : (s.modCore k f).boot = s.boot := rfl
@[simp] theorem State.modCore_power (s : State) (k : Nat) (f : Core → Core) : (s.modCore k f).power = s.power := rfl
@[simp] theorem State.modCore_thermal (s : State) (k : Nat) (f : Core → Core) : (s.modCore k f).thermal = s.thermal := rfl
@[simp] theorem State.modCore_mgmt (s : State) (k : Nat) (f : Core → Core) : (s.modCore k f).mgmt = s.mgmt := rfl
@[simp] theorem State.modCore_bridge (s : State) (k : Nat) (f : Core → Core) : (s.modCore k f).bridge = s.bridge := rfl
@[simp] theorem State.modCore_pins (s : State) (k : Nat) (f : Core → Core) : (s.modCore k f).pins = s.pins := rfl
@[simp] theorem State.modCore_answer (s : State) (k : Nat) (f : Core → Core) : (s.modCore k f).answer = s.answer := rfl
@[simp] theorem State.modCore_free (s : State) (k : Nat) (f : Core → Core) : (s.modCore k f).free = s.free := rfl

@[simp] theorem State.posted_pending (s : State) (k i : Nat) : (s.posted k i).pending = s.pending := rfl
@[simp] theorem State.posted_fuses (s : State) (k i : Nat) : (s.posted k i).fuses = s.fuses := rfl
@[simp] theorem State.posted_clk (s : State) (k i : Nat) : (s.posted k i).clk = s.clk := rfl
@[simp] theorem State.posted_csr (s : State) (k i : Nat) : (s.posted k i).csr = s.csr := rfl
@[simp] theorem State.posted_std (s : State) (k i : Nat) : (s.posted k i).std = s.std := rfl
@[simp] theorem State.posted_wcnt (s : State) (k i : Nat) : (s.posted k i).wcnt = s.wcnt := rfl
@[simp] theorem State.posted_tiles (s : State) (k i : Nat) : (s.posted k i).tiles = s.tiles := rfl
@[simp] theorem State.posted_spad (s : State) (k i : Nat) : (s.posted k i).spad = s.spad := rfl
@[simp] theorem State.posted_spadPoison (s : State) (k i : Nat) : (s.posted k i).spadPoison = s.spadPoison := rfl
@[simp] theorem State.posted_spadEcc (s : State) (k i : Nat) : (s.posted k i).spadEcc = s.spadEcc := rfl
@[simp] theorem State.posted_spadLine (s : State) (k i : Nat) : (s.posted k i).spadLine = s.spadLine := rfl
@[simp] theorem State.posted_spadLineCe (s : State) (k i : Nat) : (s.posted k i).spadLineCe = s.spadLineCe := rfl
@[simp] theorem State.posted_marks (s : State) (k i : Nat) : (s.posted k i).marks = s.marks := rfl
@[simp] theorem State.posted_imem (s : State) (k i : Nat) : (s.posted k i).imem = s.imem := rfl
@[simp] theorem State.posted_imemEcc (s : State) (k i : Nat) : (s.posted k i).imemEcc = s.imemEcc := rfl
@[simp] theorem State.posted_hbm (s : State) (k i : Nat) : (s.posted k i).hbm = s.hbm := rfl
@[simp] theorem State.posted_hbmPoison (s : State) (k i : Nat) : (s.posted k i).hbmPoison = s.hbmPoison := rfl
@[simp] theorem State.posted_hbmEcc (s : State) (k i : Nat) : (s.posted k i).hbmEcc = s.hbmEcc := rfl
@[simp] theorem State.posted_fwBytes (s : State) (k i : Nat) : (s.posted k i).fwBytes = s.fwBytes := rfl
@[simp] theorem State.posted_access (s : State) (k i : Nat) : (s.posted k i).access = s.access := rfl
@[simp] theorem State.posted_sync (s : State) (k i : Nat) : (s.posted k i).sync = s.sync := rfl
@[simp] theorem State.posted_msgs (s : State) (k i : Nat) : (s.posted k i).msgs = s.msgs := rfl
@[simp] theorem State.posted_ops (s : State) (k i : Nat) : (s.posted k i).ops = s.ops := rfl
@[simp] theorem State.posted_releasing (s : State) (k i : Nat) : (s.posted k i).releasing = s.releasing := rfl
@[simp] theorem State.posted_nextOp (s : State) (k i : Nat) : (s.posted k i).nextOp = s.nextOp := rfl
@[simp] theorem State.posted_nodesUp (s : State) (k i : Nat) : (s.posted k i).nodesUp = s.nodesUp := rfl
@[simp] theorem State.posted_net (s : State) (k i : Nat) : (s.posted k i).net = s.net := rfl
@[simp] theorem State.posted_track (s : State) (k i : Nat) : (s.posted k i).track = s.track := rfl
@[simp] theorem State.posted_combine (s : State) (k i : Nat) : (s.posted k i).combine = s.combine := rfl
@[simp] theorem State.posted_creditUsed (s : State) (k i : Nat) : (s.posted k i).creditUsed = s.creditUsed := rfl
@[simp] theorem State.posted_creditBack (s : State) (k i : Nat) : (s.posted k i).creditBack = s.creditBack := rfl
@[simp] theorem State.posted_rimTurn (s : State) (k i : Nat) : (s.posted k i).rimTurn = s.rimTurn := rfl
@[simp] theorem State.posted_idleSlots (s : State) (k i : Nat) : (s.posted k i).idleSlots = s.idleSlots := rfl
@[simp] theorem State.posted_srtGen (s : State) (k i : Nat) : (s.posted k i).srtGen = s.srtGen := rfl
@[simp] theorem State.posted_hbmReqs (s : State) (k i : Nat) : (s.posted k i).hbmReqs = s.hbmReqs := rfl
@[simp] theorem State.posted_ports (s : State) (k i : Nat) : (s.posted k i).ports = s.ports := rfl
@[simp] theorem State.posted_fabric (s : State) (k i : Nat) : (s.posted k i).fabric = s.fabric := rfl
@[simp] theorem State.posted_dies (s : State) (k i : Nat) : (s.posted k i).dies = s.dies := rfl
@[simp] theorem State.posted_parts (s : State) (k i : Nat) : (s.posted k i).parts = s.parts := rfl
@[simp] theorem State.posted_faults (s : State) (k i : Nat) : (s.posted k i).faults = s.faults := rfl
@[simp] theorem State.posted_boot (s : State) (k i : Nat) : (s.posted k i).boot = s.boot := rfl
@[simp] theorem State.posted_power (s : State) (k i : Nat) : (s.posted k i).power = s.power := rfl
@[simp] theorem State.posted_thermal (s : State) (k i : Nat) : (s.posted k i).thermal = s.thermal := rfl
@[simp] theorem State.posted_mgmt (s : State) (k i : Nat) : (s.posted k i).mgmt = s.mgmt := rfl
@[simp] theorem State.posted_bridge (s : State) (k i : Nat) : (s.posted k i).bridge = s.bridge := rfl
@[simp] theorem State.posted_pins (s : State) (k i : Nat) : (s.posted k i).pins = s.pins := rfl
@[simp] theorem State.posted_answer (s : State) (k i : Nat) : (s.posted k i).answer = s.answer := rfl
@[simp] theorem State.posted_free (s : State) (k i : Nat) : (s.posted k i).free = s.free := rfl

@[simp] theorem State.modTile_pending (s : State) (p : Nat) (f : Tile → Tile) : (s.modTile p f).pending = s.pending := rfl
@[simp] theorem State.modTile_fuses (s : State) (p : Nat) (f : Tile → Tile) : (s.modTile p f).fuses = s.fuses := rfl
@[simp] theorem State.modTile_clk (s : State) (p : Nat) (f : Tile → Tile) : (s.modTile p f).clk = s.clk := rfl
@[simp] theorem State.modTile_csr (s : State) (p : Nat) (f : Tile → Tile) : (s.modTile p f).csr = s.csr := rfl
@[simp] theorem State.modTile_std (s : State) (p : Nat) (f : Tile → Tile) : (s.modTile p f).std = s.std := rfl
@[simp] theorem State.modTile_wcnt (s : State) (p : Nat) (f : Tile → Tile) : (s.modTile p f).wcnt = s.wcnt := rfl
@[simp] theorem State.modTile_cores (s : State) (p : Nat) (f : Tile → Tile) : (s.modTile p f).cores = s.cores := rfl
@[simp] theorem State.modTile_spad (s : State) (p : Nat) (f : Tile → Tile) : (s.modTile p f).spad = s.spad := rfl
@[simp] theorem State.modTile_spadPoison (s : State) (p : Nat) (f : Tile → Tile) : (s.modTile p f).spadPoison = s.spadPoison := rfl
@[simp] theorem State.modTile_spadEcc (s : State) (p : Nat) (f : Tile → Tile) : (s.modTile p f).spadEcc = s.spadEcc := rfl
@[simp] theorem State.modTile_spadLine (s : State) (p : Nat) (f : Tile → Tile) : (s.modTile p f).spadLine = s.spadLine := rfl
@[simp] theorem State.modTile_spadLineCe (s : State) (p : Nat) (f : Tile → Tile) : (s.modTile p f).spadLineCe = s.spadLineCe := rfl
@[simp] theorem State.modTile_marks (s : State) (p : Nat) (f : Tile → Tile) : (s.modTile p f).marks = s.marks := rfl
@[simp] theorem State.modTile_imem (s : State) (p : Nat) (f : Tile → Tile) : (s.modTile p f).imem = s.imem := rfl
@[simp] theorem State.modTile_imemEcc (s : State) (p : Nat) (f : Tile → Tile) : (s.modTile p f).imemEcc = s.imemEcc := rfl
@[simp] theorem State.modTile_hbm (s : State) (p : Nat) (f : Tile → Tile) : (s.modTile p f).hbm = s.hbm := rfl
@[simp] theorem State.modTile_hbmPoison (s : State) (p : Nat) (f : Tile → Tile) : (s.modTile p f).hbmPoison = s.hbmPoison := rfl
@[simp] theorem State.modTile_hbmEcc (s : State) (p : Nat) (f : Tile → Tile) : (s.modTile p f).hbmEcc = s.hbmEcc := rfl
@[simp] theorem State.modTile_fwBytes (s : State) (p : Nat) (f : Tile → Tile) : (s.modTile p f).fwBytes = s.fwBytes := rfl
@[simp] theorem State.modTile_access (s : State) (p : Nat) (f : Tile → Tile) : (s.modTile p f).access = s.access := rfl
@[simp] theorem State.modTile_sync (s : State) (p : Nat) (f : Tile → Tile) : (s.modTile p f).sync = s.sync := rfl
@[simp] theorem State.modTile_msgs (s : State) (p : Nat) (f : Tile → Tile) : (s.modTile p f).msgs = s.msgs := rfl
@[simp] theorem State.modTile_ops (s : State) (p : Nat) (f : Tile → Tile) : (s.modTile p f).ops = s.ops := rfl
@[simp] theorem State.modTile_releasing (s : State) (p : Nat) (f : Tile → Tile) : (s.modTile p f).releasing = s.releasing := rfl
@[simp] theorem State.modTile_nextOp (s : State) (p : Nat) (f : Tile → Tile) : (s.modTile p f).nextOp = s.nextOp := rfl
@[simp] theorem State.modTile_nodesUp (s : State) (p : Nat) (f : Tile → Tile) : (s.modTile p f).nodesUp = s.nodesUp := rfl
@[simp] theorem State.modTile_net (s : State) (p : Nat) (f : Tile → Tile) : (s.modTile p f).net = s.net := rfl
@[simp] theorem State.modTile_track (s : State) (p : Nat) (f : Tile → Tile) : (s.modTile p f).track = s.track := rfl
@[simp] theorem State.modTile_combine (s : State) (p : Nat) (f : Tile → Tile) : (s.modTile p f).combine = s.combine := rfl
@[simp] theorem State.modTile_creditUsed (s : State) (p : Nat) (f : Tile → Tile) : (s.modTile p f).creditUsed = s.creditUsed := rfl
@[simp] theorem State.modTile_creditBack (s : State) (p : Nat) (f : Tile → Tile) : (s.modTile p f).creditBack = s.creditBack := rfl
@[simp] theorem State.modTile_rimTurn (s : State) (p : Nat) (f : Tile → Tile) : (s.modTile p f).rimTurn = s.rimTurn := rfl
@[simp] theorem State.modTile_idleSlots (s : State) (p : Nat) (f : Tile → Tile) : (s.modTile p f).idleSlots = s.idleSlots := rfl
@[simp] theorem State.modTile_srtGen (s : State) (p : Nat) (f : Tile → Tile) : (s.modTile p f).srtGen = s.srtGen := rfl
@[simp] theorem State.modTile_hbmReqs (s : State) (p : Nat) (f : Tile → Tile) : (s.modTile p f).hbmReqs = s.hbmReqs := rfl
@[simp] theorem State.modTile_ports (s : State) (p : Nat) (f : Tile → Tile) : (s.modTile p f).ports = s.ports := rfl
@[simp] theorem State.modTile_fabric (s : State) (p : Nat) (f : Tile → Tile) : (s.modTile p f).fabric = s.fabric := rfl
@[simp] theorem State.modTile_dies (s : State) (p : Nat) (f : Tile → Tile) : (s.modTile p f).dies = s.dies := rfl
@[simp] theorem State.modTile_parts (s : State) (p : Nat) (f : Tile → Tile) : (s.modTile p f).parts = s.parts := rfl
@[simp] theorem State.modTile_faults (s : State) (p : Nat) (f : Tile → Tile) : (s.modTile p f).faults = s.faults := rfl
@[simp] theorem State.modTile_boot (s : State) (p : Nat) (f : Tile → Tile) : (s.modTile p f).boot = s.boot := rfl
@[simp] theorem State.modTile_power (s : State) (p : Nat) (f : Tile → Tile) : (s.modTile p f).power = s.power := rfl
@[simp] theorem State.modTile_thermal (s : State) (p : Nat) (f : Tile → Tile) : (s.modTile p f).thermal = s.thermal := rfl
@[simp] theorem State.modTile_mgmt (s : State) (p : Nat) (f : Tile → Tile) : (s.modTile p f).mgmt = s.mgmt := rfl
@[simp] theorem State.modTile_bridge (s : State) (p : Nat) (f : Tile → Tile) : (s.modTile p f).bridge = s.bridge := rfl
@[simp] theorem State.modTile_pins (s : State) (p : Nat) (f : Tile → Tile) : (s.modTile p f).pins = s.pins := rfl
@[simp] theorem State.modTile_answer (s : State) (p : Nat) (f : Tile → Tile) : (s.modTile p f).answer = s.answer := rfl
@[simp] theorem State.modTile_free (s : State) (p : Nat) (f : Tile → Tile) : (s.modTile p f).free = s.free := rfl

@[simp] theorem State.modPort_pending (s : State) (p : Nat) (f : Port → Port) : (s.modPort p f).pending = s.pending := rfl
@[simp] theorem State.modPort_fuses (s : State) (p : Nat) (f : Port → Port) : (s.modPort p f).fuses = s.fuses := rfl
@[simp] theorem State.modPort_clk (s : State) (p : Nat) (f : Port → Port) : (s.modPort p f).clk = s.clk := rfl
@[simp] theorem State.modPort_csr (s : State) (p : Nat) (f : Port → Port) : (s.modPort p f).csr = s.csr := rfl
@[simp] theorem State.modPort_std (s : State) (p : Nat) (f : Port → Port) : (s.modPort p f).std = s.std := rfl
@[simp] theorem State.modPort_wcnt (s : State) (p : Nat) (f : Port → Port) : (s.modPort p f).wcnt = s.wcnt := rfl
@[simp] theorem State.modPort_cores (s : State) (p : Nat) (f : Port → Port) : (s.modPort p f).cores = s.cores := rfl
@[simp] theorem State.modPort_tiles (s : State) (p : Nat) (f : Port → Port) : (s.modPort p f).tiles = s.tiles := rfl
@[simp] theorem State.modPort_spad (s : State) (p : Nat) (f : Port → Port) : (s.modPort p f).spad = s.spad := rfl
@[simp] theorem State.modPort_spadPoison (s : State) (p : Nat) (f : Port → Port) : (s.modPort p f).spadPoison = s.spadPoison := rfl
@[simp] theorem State.modPort_spadEcc (s : State) (p : Nat) (f : Port → Port) : (s.modPort p f).spadEcc = s.spadEcc := rfl
@[simp] theorem State.modPort_spadLine (s : State) (p : Nat) (f : Port → Port) : (s.modPort p f).spadLine = s.spadLine := rfl
@[simp] theorem State.modPort_spadLineCe (s : State) (p : Nat) (f : Port → Port) : (s.modPort p f).spadLineCe = s.spadLineCe := rfl
@[simp] theorem State.modPort_marks (s : State) (p : Nat) (f : Port → Port) : (s.modPort p f).marks = s.marks := rfl
@[simp] theorem State.modPort_imem (s : State) (p : Nat) (f : Port → Port) : (s.modPort p f).imem = s.imem := rfl
@[simp] theorem State.modPort_imemEcc (s : State) (p : Nat) (f : Port → Port) : (s.modPort p f).imemEcc = s.imemEcc := rfl
@[simp] theorem State.modPort_hbm (s : State) (p : Nat) (f : Port → Port) : (s.modPort p f).hbm = s.hbm := rfl
@[simp] theorem State.modPort_hbmPoison (s : State) (p : Nat) (f : Port → Port) : (s.modPort p f).hbmPoison = s.hbmPoison := rfl
@[simp] theorem State.modPort_hbmEcc (s : State) (p : Nat) (f : Port → Port) : (s.modPort p f).hbmEcc = s.hbmEcc := rfl
@[simp] theorem State.modPort_fwBytes (s : State) (p : Nat) (f : Port → Port) : (s.modPort p f).fwBytes = s.fwBytes := rfl
@[simp] theorem State.modPort_access (s : State) (p : Nat) (f : Port → Port) : (s.modPort p f).access = s.access := rfl
@[simp] theorem State.modPort_sync (s : State) (p : Nat) (f : Port → Port) : (s.modPort p f).sync = s.sync := rfl
@[simp] theorem State.modPort_msgs (s : State) (p : Nat) (f : Port → Port) : (s.modPort p f).msgs = s.msgs := rfl
@[simp] theorem State.modPort_ops (s : State) (p : Nat) (f : Port → Port) : (s.modPort p f).ops = s.ops := rfl
@[simp] theorem State.modPort_releasing (s : State) (p : Nat) (f : Port → Port) : (s.modPort p f).releasing = s.releasing := rfl
@[simp] theorem State.modPort_nextOp (s : State) (p : Nat) (f : Port → Port) : (s.modPort p f).nextOp = s.nextOp := rfl
@[simp] theorem State.modPort_nodesUp (s : State) (p : Nat) (f : Port → Port) : (s.modPort p f).nodesUp = s.nodesUp := rfl
@[simp] theorem State.modPort_net (s : State) (p : Nat) (f : Port → Port) : (s.modPort p f).net = s.net := rfl
@[simp] theorem State.modPort_track (s : State) (p : Nat) (f : Port → Port) : (s.modPort p f).track = s.track := rfl
@[simp] theorem State.modPort_combine (s : State) (p : Nat) (f : Port → Port) : (s.modPort p f).combine = s.combine := rfl
@[simp] theorem State.modPort_creditUsed (s : State) (p : Nat) (f : Port → Port) : (s.modPort p f).creditUsed = s.creditUsed := rfl
@[simp] theorem State.modPort_creditBack (s : State) (p : Nat) (f : Port → Port) : (s.modPort p f).creditBack = s.creditBack := rfl
@[simp] theorem State.modPort_rimTurn (s : State) (p : Nat) (f : Port → Port) : (s.modPort p f).rimTurn = s.rimTurn := rfl
@[simp] theorem State.modPort_idleSlots (s : State) (p : Nat) (f : Port → Port) : (s.modPort p f).idleSlots = s.idleSlots := rfl
@[simp] theorem State.modPort_srtGen (s : State) (p : Nat) (f : Port → Port) : (s.modPort p f).srtGen = s.srtGen := rfl
@[simp] theorem State.modPort_hbmReqs (s : State) (p : Nat) (f : Port → Port) : (s.modPort p f).hbmReqs = s.hbmReqs := rfl
@[simp] theorem State.modPort_fabric (s : State) (p : Nat) (f : Port → Port) : (s.modPort p f).fabric = s.fabric := rfl
@[simp] theorem State.modPort_dies (s : State) (p : Nat) (f : Port → Port) : (s.modPort p f).dies = s.dies := rfl
@[simp] theorem State.modPort_parts (s : State) (p : Nat) (f : Port → Port) : (s.modPort p f).parts = s.parts := rfl
@[simp] theorem State.modPort_faults (s : State) (p : Nat) (f : Port → Port) : (s.modPort p f).faults = s.faults := rfl
@[simp] theorem State.modPort_boot (s : State) (p : Nat) (f : Port → Port) : (s.modPort p f).boot = s.boot := rfl
@[simp] theorem State.modPort_power (s : State) (p : Nat) (f : Port → Port) : (s.modPort p f).power = s.power := rfl
@[simp] theorem State.modPort_thermal (s : State) (p : Nat) (f : Port → Port) : (s.modPort p f).thermal = s.thermal := rfl
@[simp] theorem State.modPort_mgmt (s : State) (p : Nat) (f : Port → Port) : (s.modPort p f).mgmt = s.mgmt := rfl
@[simp] theorem State.modPort_bridge (s : State) (p : Nat) (f : Port → Port) : (s.modPort p f).bridge = s.bridge := rfl
@[simp] theorem State.modPort_pins (s : State) (p : Nat) (f : Port → Port) : (s.modPort p f).pins = s.pins := rfl
@[simp] theorem State.modPort_answer (s : State) (p : Nat) (f : Port → Port) : (s.modPort p f).answer = s.answer := rfl
@[simp] theorem State.modPort_free (s : State) (p : Nat) (f : Port → Port) : (s.modPort p f).free = s.free := rfl

@[simp] theorem State.modDie_pending (s : State) (p : Nat) (f : LDie → LDie) : (s.modDie p f).pending = s.pending := rfl
@[simp] theorem State.modDie_fuses (s : State) (p : Nat) (f : LDie → LDie) : (s.modDie p f).fuses = s.fuses := rfl
@[simp] theorem State.modDie_clk (s : State) (p : Nat) (f : LDie → LDie) : (s.modDie p f).clk = s.clk := rfl
@[simp] theorem State.modDie_csr (s : State) (p : Nat) (f : LDie → LDie) : (s.modDie p f).csr = s.csr := rfl
@[simp] theorem State.modDie_std (s : State) (p : Nat) (f : LDie → LDie) : (s.modDie p f).std = s.std := rfl
@[simp] theorem State.modDie_wcnt (s : State) (p : Nat) (f : LDie → LDie) : (s.modDie p f).wcnt = s.wcnt := rfl
@[simp] theorem State.modDie_cores (s : State) (p : Nat) (f : LDie → LDie) : (s.modDie p f).cores = s.cores := rfl
@[simp] theorem State.modDie_tiles (s : State) (p : Nat) (f : LDie → LDie) : (s.modDie p f).tiles = s.tiles := rfl
@[simp] theorem State.modDie_spad (s : State) (p : Nat) (f : LDie → LDie) : (s.modDie p f).spad = s.spad := rfl
@[simp] theorem State.modDie_spadPoison (s : State) (p : Nat) (f : LDie → LDie) : (s.modDie p f).spadPoison = s.spadPoison := rfl
@[simp] theorem State.modDie_spadEcc (s : State) (p : Nat) (f : LDie → LDie) : (s.modDie p f).spadEcc = s.spadEcc := rfl
@[simp] theorem State.modDie_spadLine (s : State) (p : Nat) (f : LDie → LDie) : (s.modDie p f).spadLine = s.spadLine := rfl
@[simp] theorem State.modDie_spadLineCe (s : State) (p : Nat) (f : LDie → LDie) : (s.modDie p f).spadLineCe = s.spadLineCe := rfl
@[simp] theorem State.modDie_marks (s : State) (p : Nat) (f : LDie → LDie) : (s.modDie p f).marks = s.marks := rfl
@[simp] theorem State.modDie_imem (s : State) (p : Nat) (f : LDie → LDie) : (s.modDie p f).imem = s.imem := rfl
@[simp] theorem State.modDie_imemEcc (s : State) (p : Nat) (f : LDie → LDie) : (s.modDie p f).imemEcc = s.imemEcc := rfl
@[simp] theorem State.modDie_hbm (s : State) (p : Nat) (f : LDie → LDie) : (s.modDie p f).hbm = s.hbm := rfl
@[simp] theorem State.modDie_hbmPoison (s : State) (p : Nat) (f : LDie → LDie) : (s.modDie p f).hbmPoison = s.hbmPoison := rfl
@[simp] theorem State.modDie_hbmEcc (s : State) (p : Nat) (f : LDie → LDie) : (s.modDie p f).hbmEcc = s.hbmEcc := rfl
@[simp] theorem State.modDie_fwBytes (s : State) (p : Nat) (f : LDie → LDie) : (s.modDie p f).fwBytes = s.fwBytes := rfl
@[simp] theorem State.modDie_access (s : State) (p : Nat) (f : LDie → LDie) : (s.modDie p f).access = s.access := rfl
@[simp] theorem State.modDie_sync (s : State) (p : Nat) (f : LDie → LDie) : (s.modDie p f).sync = s.sync := rfl
@[simp] theorem State.modDie_msgs (s : State) (p : Nat) (f : LDie → LDie) : (s.modDie p f).msgs = s.msgs := rfl
@[simp] theorem State.modDie_ops (s : State) (p : Nat) (f : LDie → LDie) : (s.modDie p f).ops = s.ops := rfl
@[simp] theorem State.modDie_releasing (s : State) (p : Nat) (f : LDie → LDie) : (s.modDie p f).releasing = s.releasing := rfl
@[simp] theorem State.modDie_nextOp (s : State) (p : Nat) (f : LDie → LDie) : (s.modDie p f).nextOp = s.nextOp := rfl
@[simp] theorem State.modDie_nodesUp (s : State) (p : Nat) (f : LDie → LDie) : (s.modDie p f).nodesUp = s.nodesUp := rfl
@[simp] theorem State.modDie_net (s : State) (p : Nat) (f : LDie → LDie) : (s.modDie p f).net = s.net := rfl
@[simp] theorem State.modDie_track (s : State) (p : Nat) (f : LDie → LDie) : (s.modDie p f).track = s.track := rfl
@[simp] theorem State.modDie_combine (s : State) (p : Nat) (f : LDie → LDie) : (s.modDie p f).combine = s.combine := rfl
@[simp] theorem State.modDie_creditUsed (s : State) (p : Nat) (f : LDie → LDie) : (s.modDie p f).creditUsed = s.creditUsed := rfl
@[simp] theorem State.modDie_creditBack (s : State) (p : Nat) (f : LDie → LDie) : (s.modDie p f).creditBack = s.creditBack := rfl
@[simp] theorem State.modDie_rimTurn (s : State) (p : Nat) (f : LDie → LDie) : (s.modDie p f).rimTurn = s.rimTurn := rfl
@[simp] theorem State.modDie_idleSlots (s : State) (p : Nat) (f : LDie → LDie) : (s.modDie p f).idleSlots = s.idleSlots := rfl
@[simp] theorem State.modDie_srtGen (s : State) (p : Nat) (f : LDie → LDie) : (s.modDie p f).srtGen = s.srtGen := rfl
@[simp] theorem State.modDie_hbmReqs (s : State) (p : Nat) (f : LDie → LDie) : (s.modDie p f).hbmReqs = s.hbmReqs := rfl
@[simp] theorem State.modDie_ports (s : State) (p : Nat) (f : LDie → LDie) : (s.modDie p f).ports = s.ports := rfl
@[simp] theorem State.modDie_fabric (s : State) (p : Nat) (f : LDie → LDie) : (s.modDie p f).fabric = s.fabric := rfl
@[simp] theorem State.modDie_parts (s : State) (p : Nat) (f : LDie → LDie) : (s.modDie p f).parts = s.parts := rfl
@[simp] theorem State.modDie_faults (s : State) (p : Nat) (f : LDie → LDie) : (s.modDie p f).faults = s.faults := rfl
@[simp] theorem State.modDie_boot (s : State) (p : Nat) (f : LDie → LDie) : (s.modDie p f).boot = s.boot := rfl
@[simp] theorem State.modDie_power (s : State) (p : Nat) (f : LDie → LDie) : (s.modDie p f).power = s.power := rfl
@[simp] theorem State.modDie_thermal (s : State) (p : Nat) (f : LDie → LDie) : (s.modDie p f).thermal = s.thermal := rfl
@[simp] theorem State.modDie_mgmt (s : State) (p : Nat) (f : LDie → LDie) : (s.modDie p f).mgmt = s.mgmt := rfl
@[simp] theorem State.modDie_bridge (s : State) (p : Nat) (f : LDie → LDie) : (s.modDie p f).bridge = s.bridge := rfl
@[simp] theorem State.modDie_pins (s : State) (p : Nat) (f : LDie → LDie) : (s.modDie p f).pins = s.pins := rfl
@[simp] theorem State.modDie_answer (s : State) (p : Nat) (f : LDie → LDie) : (s.modDie p f).answer = s.answer := rfl
@[simp] theorem State.modDie_free (s : State) (p : Nat) (f : LDie → LDie) : (s.modDie p f).free = s.free := rfl

@[simp] theorem State.modPart_pending (s : State) (p : Nat) (f : Part → Part) : (s.modPart p f).pending = s.pending := rfl
@[simp] theorem State.modPart_fuses (s : State) (p : Nat) (f : Part → Part) : (s.modPart p f).fuses = s.fuses := rfl
@[simp] theorem State.modPart_clk (s : State) (p : Nat) (f : Part → Part) : (s.modPart p f).clk = s.clk := rfl
@[simp] theorem State.modPart_csr (s : State) (p : Nat) (f : Part → Part) : (s.modPart p f).csr = s.csr := rfl
@[simp] theorem State.modPart_std (s : State) (p : Nat) (f : Part → Part) : (s.modPart p f).std = s.std := rfl
@[simp] theorem State.modPart_wcnt (s : State) (p : Nat) (f : Part → Part) : (s.modPart p f).wcnt = s.wcnt := rfl
@[simp] theorem State.modPart_cores (s : State) (p : Nat) (f : Part → Part) : (s.modPart p f).cores = s.cores := rfl
@[simp] theorem State.modPart_tiles (s : State) (p : Nat) (f : Part → Part) : (s.modPart p f).tiles = s.tiles := rfl
@[simp] theorem State.modPart_spad (s : State) (p : Nat) (f : Part → Part) : (s.modPart p f).spad = s.spad := rfl
@[simp] theorem State.modPart_spadPoison (s : State) (p : Nat) (f : Part → Part) : (s.modPart p f).spadPoison = s.spadPoison := rfl
@[simp] theorem State.modPart_spadEcc (s : State) (p : Nat) (f : Part → Part) : (s.modPart p f).spadEcc = s.spadEcc := rfl
@[simp] theorem State.modPart_spadLine (s : State) (p : Nat) (f : Part → Part) : (s.modPart p f).spadLine = s.spadLine := rfl
@[simp] theorem State.modPart_spadLineCe (s : State) (p : Nat) (f : Part → Part) : (s.modPart p f).spadLineCe = s.spadLineCe := rfl
@[simp] theorem State.modPart_marks (s : State) (p : Nat) (f : Part → Part) : (s.modPart p f).marks = s.marks := rfl
@[simp] theorem State.modPart_imem (s : State) (p : Nat) (f : Part → Part) : (s.modPart p f).imem = s.imem := rfl
@[simp] theorem State.modPart_imemEcc (s : State) (p : Nat) (f : Part → Part) : (s.modPart p f).imemEcc = s.imemEcc := rfl
@[simp] theorem State.modPart_hbm (s : State) (p : Nat) (f : Part → Part) : (s.modPart p f).hbm = s.hbm := rfl
@[simp] theorem State.modPart_hbmPoison (s : State) (p : Nat) (f : Part → Part) : (s.modPart p f).hbmPoison = s.hbmPoison := rfl
@[simp] theorem State.modPart_hbmEcc (s : State) (p : Nat) (f : Part → Part) : (s.modPart p f).hbmEcc = s.hbmEcc := rfl
@[simp] theorem State.modPart_fwBytes (s : State) (p : Nat) (f : Part → Part) : (s.modPart p f).fwBytes = s.fwBytes := rfl
@[simp] theorem State.modPart_access (s : State) (p : Nat) (f : Part → Part) : (s.modPart p f).access = s.access := rfl
@[simp] theorem State.modPart_sync (s : State) (p : Nat) (f : Part → Part) : (s.modPart p f).sync = s.sync := rfl
@[simp] theorem State.modPart_msgs (s : State) (p : Nat) (f : Part → Part) : (s.modPart p f).msgs = s.msgs := rfl
@[simp] theorem State.modPart_ops (s : State) (p : Nat) (f : Part → Part) : (s.modPart p f).ops = s.ops := rfl
@[simp] theorem State.modPart_releasing (s : State) (p : Nat) (f : Part → Part) : (s.modPart p f).releasing = s.releasing := rfl
@[simp] theorem State.modPart_nextOp (s : State) (p : Nat) (f : Part → Part) : (s.modPart p f).nextOp = s.nextOp := rfl
@[simp] theorem State.modPart_nodesUp (s : State) (p : Nat) (f : Part → Part) : (s.modPart p f).nodesUp = s.nodesUp := rfl
@[simp] theorem State.modPart_net (s : State) (p : Nat) (f : Part → Part) : (s.modPart p f).net = s.net := rfl
@[simp] theorem State.modPart_track (s : State) (p : Nat) (f : Part → Part) : (s.modPart p f).track = s.track := rfl
@[simp] theorem State.modPart_combine (s : State) (p : Nat) (f : Part → Part) : (s.modPart p f).combine = s.combine := rfl
@[simp] theorem State.modPart_creditUsed (s : State) (p : Nat) (f : Part → Part) : (s.modPart p f).creditUsed = s.creditUsed := rfl
@[simp] theorem State.modPart_creditBack (s : State) (p : Nat) (f : Part → Part) : (s.modPart p f).creditBack = s.creditBack := rfl
@[simp] theorem State.modPart_rimTurn (s : State) (p : Nat) (f : Part → Part) : (s.modPart p f).rimTurn = s.rimTurn := rfl
@[simp] theorem State.modPart_idleSlots (s : State) (p : Nat) (f : Part → Part) : (s.modPart p f).idleSlots = s.idleSlots := rfl
@[simp] theorem State.modPart_srtGen (s : State) (p : Nat) (f : Part → Part) : (s.modPart p f).srtGen = s.srtGen := rfl
@[simp] theorem State.modPart_hbmReqs (s : State) (p : Nat) (f : Part → Part) : (s.modPart p f).hbmReqs = s.hbmReqs := rfl
@[simp] theorem State.modPart_ports (s : State) (p : Nat) (f : Part → Part) : (s.modPart p f).ports = s.ports := rfl
@[simp] theorem State.modPart_fabric (s : State) (p : Nat) (f : Part → Part) : (s.modPart p f).fabric = s.fabric := rfl
@[simp] theorem State.modPart_dies (s : State) (p : Nat) (f : Part → Part) : (s.modPart p f).dies = s.dies := rfl
@[simp] theorem State.modPart_faults (s : State) (p : Nat) (f : Part → Part) : (s.modPart p f).faults = s.faults := rfl
@[simp] theorem State.modPart_boot (s : State) (p : Nat) (f : Part → Part) : (s.modPart p f).boot = s.boot := rfl
@[simp] theorem State.modPart_power (s : State) (p : Nat) (f : Part → Part) : (s.modPart p f).power = s.power := rfl
@[simp] theorem State.modPart_thermal (s : State) (p : Nat) (f : Part → Part) : (s.modPart p f).thermal = s.thermal := rfl
@[simp] theorem State.modPart_mgmt (s : State) (p : Nat) (f : Part → Part) : (s.modPart p f).mgmt = s.mgmt := rfl
@[simp] theorem State.modPart_bridge (s : State) (p : Nat) (f : Part → Part) : (s.modPart p f).bridge = s.bridge := rfl
@[simp] theorem State.modPart_pins (s : State) (p : Nat) (f : Part → Part) : (s.modPart p f).pins = s.pins := rfl
@[simp] theorem State.modPart_answer (s : State) (p : Nat) (f : Part → Part) : (s.modPart p f).answer = s.answer := rfl
@[simp] theorem State.modPart_free (s : State) (p : Nat) (f : Part → Part) : (s.modPart p f).free = s.free := rfl

@[simp] theorem State.sendSync_pending (s : State) (m : SyncMsg) : (s.sendSync m).pending = s.pending := rfl
@[simp] theorem State.sendSync_fuses (s : State) (m : SyncMsg) : (s.sendSync m).fuses = s.fuses := rfl
@[simp] theorem State.sendSync_clk (s : State) (m : SyncMsg) : (s.sendSync m).clk = s.clk := rfl
@[simp] theorem State.sendSync_csr (s : State) (m : SyncMsg) : (s.sendSync m).csr = s.csr := rfl
@[simp] theorem State.sendSync_std (s : State) (m : SyncMsg) : (s.sendSync m).std = s.std := rfl
@[simp] theorem State.sendSync_wcnt (s : State) (m : SyncMsg) : (s.sendSync m).wcnt = s.wcnt := rfl
@[simp] theorem State.sendSync_cores (s : State) (m : SyncMsg) : (s.sendSync m).cores = s.cores := rfl
@[simp] theorem State.sendSync_tiles (s : State) (m : SyncMsg) : (s.sendSync m).tiles = s.tiles := rfl
@[simp] theorem State.sendSync_spad (s : State) (m : SyncMsg) : (s.sendSync m).spad = s.spad := rfl
@[simp] theorem State.sendSync_spadPoison (s : State) (m : SyncMsg) : (s.sendSync m).spadPoison = s.spadPoison := rfl
@[simp] theorem State.sendSync_spadEcc (s : State) (m : SyncMsg) : (s.sendSync m).spadEcc = s.spadEcc := rfl
@[simp] theorem State.sendSync_spadLine (s : State) (m : SyncMsg) : (s.sendSync m).spadLine = s.spadLine := rfl
@[simp] theorem State.sendSync_spadLineCe (s : State) (m : SyncMsg) : (s.sendSync m).spadLineCe = s.spadLineCe := rfl
@[simp] theorem State.sendSync_marks (s : State) (m : SyncMsg) : (s.sendSync m).marks = s.marks := rfl
@[simp] theorem State.sendSync_imem (s : State) (m : SyncMsg) : (s.sendSync m).imem = s.imem := rfl
@[simp] theorem State.sendSync_imemEcc (s : State) (m : SyncMsg) : (s.sendSync m).imemEcc = s.imemEcc := rfl
@[simp] theorem State.sendSync_hbm (s : State) (m : SyncMsg) : (s.sendSync m).hbm = s.hbm := rfl
@[simp] theorem State.sendSync_hbmPoison (s : State) (m : SyncMsg) : (s.sendSync m).hbmPoison = s.hbmPoison := rfl
@[simp] theorem State.sendSync_hbmEcc (s : State) (m : SyncMsg) : (s.sendSync m).hbmEcc = s.hbmEcc := rfl
@[simp] theorem State.sendSync_fwBytes (s : State) (m : SyncMsg) : (s.sendSync m).fwBytes = s.fwBytes := rfl
@[simp] theorem State.sendSync_access (s : State) (m : SyncMsg) : (s.sendSync m).access = s.access := rfl
@[simp] theorem State.sendSync_sync (s : State) (m : SyncMsg) : (s.sendSync m).sync = s.sync := rfl
@[simp] theorem State.sendSync_ops (s : State) (m : SyncMsg) : (s.sendSync m).ops = s.ops := rfl
@[simp] theorem State.sendSync_releasing (s : State) (m : SyncMsg) : (s.sendSync m).releasing = s.releasing := rfl
@[simp] theorem State.sendSync_nextOp (s : State) (m : SyncMsg) : (s.sendSync m).nextOp = s.nextOp := rfl
@[simp] theorem State.sendSync_nodesUp (s : State) (m : SyncMsg) : (s.sendSync m).nodesUp = s.nodesUp := rfl
@[simp] theorem State.sendSync_net (s : State) (m : SyncMsg) : (s.sendSync m).net = s.net := rfl
@[simp] theorem State.sendSync_track (s : State) (m : SyncMsg) : (s.sendSync m).track = s.track := rfl
@[simp] theorem State.sendSync_combine (s : State) (m : SyncMsg) : (s.sendSync m).combine = s.combine := rfl
@[simp] theorem State.sendSync_creditUsed (s : State) (m : SyncMsg) : (s.sendSync m).creditUsed = s.creditUsed := rfl
@[simp] theorem State.sendSync_creditBack (s : State) (m : SyncMsg) : (s.sendSync m).creditBack = s.creditBack := rfl
@[simp] theorem State.sendSync_rimTurn (s : State) (m : SyncMsg) : (s.sendSync m).rimTurn = s.rimTurn := rfl
@[simp] theorem State.sendSync_idleSlots (s : State) (m : SyncMsg) : (s.sendSync m).idleSlots = s.idleSlots := rfl
@[simp] theorem State.sendSync_srtGen (s : State) (m : SyncMsg) : (s.sendSync m).srtGen = s.srtGen := rfl
@[simp] theorem State.sendSync_hbmReqs (s : State) (m : SyncMsg) : (s.sendSync m).hbmReqs = s.hbmReqs := rfl
@[simp] theorem State.sendSync_ports (s : State) (m : SyncMsg) : (s.sendSync m).ports = s.ports := rfl
@[simp] theorem State.sendSync_fabric (s : State) (m : SyncMsg) : (s.sendSync m).fabric = s.fabric := rfl
@[simp] theorem State.sendSync_dies (s : State) (m : SyncMsg) : (s.sendSync m).dies = s.dies := rfl
@[simp] theorem State.sendSync_parts (s : State) (m : SyncMsg) : (s.sendSync m).parts = s.parts := rfl
@[simp] theorem State.sendSync_faults (s : State) (m : SyncMsg) : (s.sendSync m).faults = s.faults := rfl
@[simp] theorem State.sendSync_boot (s : State) (m : SyncMsg) : (s.sendSync m).boot = s.boot := rfl
@[simp] theorem State.sendSync_power (s : State) (m : SyncMsg) : (s.sendSync m).power = s.power := rfl
@[simp] theorem State.sendSync_thermal (s : State) (m : SyncMsg) : (s.sendSync m).thermal = s.thermal := rfl
@[simp] theorem State.sendSync_mgmt (s : State) (m : SyncMsg) : (s.sendSync m).mgmt = s.mgmt := rfl
@[simp] theorem State.sendSync_bridge (s : State) (m : SyncMsg) : (s.sendSync m).bridge = s.bridge := rfl
@[simp] theorem State.sendSync_pins (s : State) (m : SyncMsg) : (s.sendSync m).pins = s.pins := rfl
@[simp] theorem State.sendSync_answer (s : State) (m : SyncMsg) : (s.sendSync m).answer = s.answer := rfl
@[simp] theorem State.sendSync_free (s : State) (m : SyncMsg) : (s.sendSync m).free = s.free := rfl

@[simp] theorem State.send_pending (s : State) (r : FaultRec) : (s.send r).pending = s.pending := rfl
@[simp] theorem State.send_fuses (s : State) (r : FaultRec) : (s.send r).fuses = s.fuses := rfl
@[simp] theorem State.send_clk (s : State) (r : FaultRec) : (s.send r).clk = s.clk := rfl
@[simp] theorem State.send_csr (s : State) (r : FaultRec) : (s.send r).csr = s.csr := rfl
@[simp] theorem State.send_std (s : State) (r : FaultRec) : (s.send r).std = s.std := rfl
@[simp] theorem State.send_wcnt (s : State) (r : FaultRec) : (s.send r).wcnt = s.wcnt := rfl
@[simp] theorem State.send_cores (s : State) (r : FaultRec) : (s.send r).cores = s.cores := rfl
@[simp] theorem State.send_tiles (s : State) (r : FaultRec) : (s.send r).tiles = s.tiles := rfl
@[simp] theorem State.send_spad (s : State) (r : FaultRec) : (s.send r).spad = s.spad := rfl
@[simp] theorem State.send_spadPoison (s : State) (r : FaultRec) : (s.send r).spadPoison = s.spadPoison := rfl
@[simp] theorem State.send_spadEcc (s : State) (r : FaultRec) : (s.send r).spadEcc = s.spadEcc := rfl
@[simp] theorem State.send_spadLine (s : State) (r : FaultRec) : (s.send r).spadLine = s.spadLine := rfl
@[simp] theorem State.send_spadLineCe (s : State) (r : FaultRec) : (s.send r).spadLineCe = s.spadLineCe := rfl
@[simp] theorem State.send_marks (s : State) (r : FaultRec) : (s.send r).marks = s.marks := rfl
@[simp] theorem State.send_imem (s : State) (r : FaultRec) : (s.send r).imem = s.imem := rfl
@[simp] theorem State.send_imemEcc (s : State) (r : FaultRec) : (s.send r).imemEcc = s.imemEcc := rfl
@[simp] theorem State.send_hbm (s : State) (r : FaultRec) : (s.send r).hbm = s.hbm := rfl
@[simp] theorem State.send_hbmPoison (s : State) (r : FaultRec) : (s.send r).hbmPoison = s.hbmPoison := rfl
@[simp] theorem State.send_hbmEcc (s : State) (r : FaultRec) : (s.send r).hbmEcc = s.hbmEcc := rfl
@[simp] theorem State.send_fwBytes (s : State) (r : FaultRec) : (s.send r).fwBytes = s.fwBytes := rfl
@[simp] theorem State.send_access (s : State) (r : FaultRec) : (s.send r).access = s.access := rfl
@[simp] theorem State.send_sync (s : State) (r : FaultRec) : (s.send r).sync = s.sync := rfl
@[simp] theorem State.send_msgs (s : State) (r : FaultRec) : (s.send r).msgs = s.msgs := rfl
@[simp] theorem State.send_ops (s : State) (r : FaultRec) : (s.send r).ops = s.ops := rfl
@[simp] theorem State.send_releasing (s : State) (r : FaultRec) : (s.send r).releasing = s.releasing := rfl
@[simp] theorem State.send_nextOp (s : State) (r : FaultRec) : (s.send r).nextOp = s.nextOp := rfl
@[simp] theorem State.send_nodesUp (s : State) (r : FaultRec) : (s.send r).nodesUp = s.nodesUp := rfl
@[simp] theorem State.send_net (s : State) (r : FaultRec) : (s.send r).net = s.net := rfl
@[simp] theorem State.send_track (s : State) (r : FaultRec) : (s.send r).track = s.track := rfl
@[simp] theorem State.send_combine (s : State) (r : FaultRec) : (s.send r).combine = s.combine := rfl
@[simp] theorem State.send_creditUsed (s : State) (r : FaultRec) : (s.send r).creditUsed = s.creditUsed := rfl
@[simp] theorem State.send_creditBack (s : State) (r : FaultRec) : (s.send r).creditBack = s.creditBack := rfl
@[simp] theorem State.send_rimTurn (s : State) (r : FaultRec) : (s.send r).rimTurn = s.rimTurn := rfl
@[simp] theorem State.send_idleSlots (s : State) (r : FaultRec) : (s.send r).idleSlots = s.idleSlots := rfl
@[simp] theorem State.send_srtGen (s : State) (r : FaultRec) : (s.send r).srtGen = s.srtGen := rfl
@[simp] theorem State.send_hbmReqs (s : State) (r : FaultRec) : (s.send r).hbmReqs = s.hbmReqs := rfl
@[simp] theorem State.send_ports (s : State) (r : FaultRec) : (s.send r).ports = s.ports := rfl
@[simp] theorem State.send_fabric (s : State) (r : FaultRec) : (s.send r).fabric = s.fabric := rfl
@[simp] theorem State.send_dies (s : State) (r : FaultRec) : (s.send r).dies = s.dies := rfl
@[simp] theorem State.send_parts (s : State) (r : FaultRec) : (s.send r).parts = s.parts := rfl
@[simp] theorem State.send_boot (s : State) (r : FaultRec) : (s.send r).boot = s.boot := rfl
@[simp] theorem State.send_power (s : State) (r : FaultRec) : (s.send r).power = s.power := rfl
@[simp] theorem State.send_thermal (s : State) (r : FaultRec) : (s.send r).thermal = s.thermal := rfl
@[simp] theorem State.send_mgmt (s : State) (r : FaultRec) : (s.send r).mgmt = s.mgmt := rfl
@[simp] theorem State.send_bridge (s : State) (r : FaultRec) : (s.send r).bridge = s.bridge := rfl
@[simp] theorem State.send_pins (s : State) (r : FaultRec) : (s.send r).pins = s.pins := rfl
@[simp] theorem State.send_answer (s : State) (r : FaultRec) : (s.send r).answer = s.answer := rfl
@[simp] theorem State.send_free (s : State) (r : FaultRec) : (s.send r).free = s.free := rfl

@[simp] theorem State.raise_pending (s : State) (a b c : Nat) : (s.raise a b c).pending = s.pending := rfl
@[simp] theorem State.raise_fuses (s : State) (a b c : Nat) : (s.raise a b c).fuses = s.fuses := rfl
@[simp] theorem State.raise_clk (s : State) (a b c : Nat) : (s.raise a b c).clk = s.clk := rfl
@[simp] theorem State.raise_csr (s : State) (a b c : Nat) : (s.raise a b c).csr = s.csr := rfl
@[simp] theorem State.raise_std (s : State) (a b c : Nat) : (s.raise a b c).std = s.std := rfl
@[simp] theorem State.raise_wcnt (s : State) (a b c : Nat) : (s.raise a b c).wcnt = s.wcnt := rfl
@[simp] theorem State.raise_cores (s : State) (a b c : Nat) : (s.raise a b c).cores = s.cores := rfl
@[simp] theorem State.raise_tiles (s : State) (a b c : Nat) : (s.raise a b c).tiles = s.tiles := rfl
@[simp] theorem State.raise_spad (s : State) (a b c : Nat) : (s.raise a b c).spad = s.spad := rfl
@[simp] theorem State.raise_spadPoison (s : State) (a b c : Nat) : (s.raise a b c).spadPoison = s.spadPoison := rfl
@[simp] theorem State.raise_spadEcc (s : State) (a b c : Nat) : (s.raise a b c).spadEcc = s.spadEcc := rfl
@[simp] theorem State.raise_spadLine (s : State) (a b c : Nat) : (s.raise a b c).spadLine = s.spadLine := rfl
@[simp] theorem State.raise_spadLineCe (s : State) (a b c : Nat) : (s.raise a b c).spadLineCe = s.spadLineCe := rfl
@[simp] theorem State.raise_marks (s : State) (a b c : Nat) : (s.raise a b c).marks = s.marks := rfl
@[simp] theorem State.raise_imem (s : State) (a b c : Nat) : (s.raise a b c).imem = s.imem := rfl
@[simp] theorem State.raise_imemEcc (s : State) (a b c : Nat) : (s.raise a b c).imemEcc = s.imemEcc := rfl
@[simp] theorem State.raise_hbm (s : State) (a b c : Nat) : (s.raise a b c).hbm = s.hbm := rfl
@[simp] theorem State.raise_hbmPoison (s : State) (a b c : Nat) : (s.raise a b c).hbmPoison = s.hbmPoison := rfl
@[simp] theorem State.raise_hbmEcc (s : State) (a b c : Nat) : (s.raise a b c).hbmEcc = s.hbmEcc := rfl
@[simp] theorem State.raise_fwBytes (s : State) (a b c : Nat) : (s.raise a b c).fwBytes = s.fwBytes := rfl
@[simp] theorem State.raise_access (s : State) (a b c : Nat) : (s.raise a b c).access = s.access := rfl
@[simp] theorem State.raise_sync (s : State) (a b c : Nat) : (s.raise a b c).sync = s.sync := rfl
@[simp] theorem State.raise_msgs (s : State) (a b c : Nat) : (s.raise a b c).msgs = s.msgs := rfl
@[simp] theorem State.raise_ops (s : State) (a b c : Nat) : (s.raise a b c).ops = s.ops := rfl
@[simp] theorem State.raise_releasing (s : State) (a b c : Nat) : (s.raise a b c).releasing = s.releasing := rfl
@[simp] theorem State.raise_nextOp (s : State) (a b c : Nat) : (s.raise a b c).nextOp = s.nextOp := rfl
@[simp] theorem State.raise_nodesUp (s : State) (a b c : Nat) : (s.raise a b c).nodesUp = s.nodesUp := rfl
@[simp] theorem State.raise_net (s : State) (a b c : Nat) : (s.raise a b c).net = s.net := rfl
@[simp] theorem State.raise_track (s : State) (a b c : Nat) : (s.raise a b c).track = s.track := rfl
@[simp] theorem State.raise_combine (s : State) (a b c : Nat) : (s.raise a b c).combine = s.combine := rfl
@[simp] theorem State.raise_creditUsed (s : State) (a b c : Nat) : (s.raise a b c).creditUsed = s.creditUsed := rfl
@[simp] theorem State.raise_creditBack (s : State) (a b c : Nat) : (s.raise a b c).creditBack = s.creditBack := rfl
@[simp] theorem State.raise_rimTurn (s : State) (a b c : Nat) : (s.raise a b c).rimTurn = s.rimTurn := rfl
@[simp] theorem State.raise_idleSlots (s : State) (a b c : Nat) : (s.raise a b c).idleSlots = s.idleSlots := rfl
@[simp] theorem State.raise_srtGen (s : State) (a b c : Nat) : (s.raise a b c).srtGen = s.srtGen := rfl
@[simp] theorem State.raise_hbmReqs (s : State) (a b c : Nat) : (s.raise a b c).hbmReqs = s.hbmReqs := rfl
@[simp] theorem State.raise_ports (s : State) (a b c : Nat) : (s.raise a b c).ports = s.ports := rfl
@[simp] theorem State.raise_fabric (s : State) (a b c : Nat) : (s.raise a b c).fabric = s.fabric := rfl
@[simp] theorem State.raise_dies (s : State) (a b c : Nat) : (s.raise a b c).dies = s.dies := rfl
@[simp] theorem State.raise_parts (s : State) (a b c : Nat) : (s.raise a b c).parts = s.parts := rfl
@[simp] theorem State.raise_boot (s : State) (a b c : Nat) : (s.raise a b c).boot = s.boot := rfl
@[simp] theorem State.raise_power (s : State) (a b c : Nat) : (s.raise a b c).power = s.power := rfl
@[simp] theorem State.raise_thermal (s : State) (a b c : Nat) : (s.raise a b c).thermal = s.thermal := rfl
@[simp] theorem State.raise_mgmt (s : State) (a b c : Nat) : (s.raise a b c).mgmt = s.mgmt := rfl
@[simp] theorem State.raise_bridge (s : State) (a b c : Nat) : (s.raise a b c).bridge = s.bridge := rfl
@[simp] theorem State.raise_pins (s : State) (a b c : Nat) : (s.raise a b c).pins = s.pins := rfl
@[simp] theorem State.raise_answer (s : State) (a b c : Nat) : (s.raise a b c).answer = s.answer := rfl
@[simp] theorem State.raise_free (s : State) (a b c : Nat) : (s.raise a b c).free = s.free := rfl

@[simp] theorem State.decodeFault_pending (s : State) (w : Bool) (a : Nat) : (s.decodeFault w a).pending = s.pending := State.raise_pending _ _ _ _
@[simp] theorem State.decodeFault_fuses (s : State) (w : Bool) (a : Nat) : (s.decodeFault w a).fuses = s.fuses := State.raise_fuses _ _ _ _
@[simp] theorem State.decodeFault_clk (s : State) (w : Bool) (a : Nat) : (s.decodeFault w a).clk = s.clk := State.raise_clk _ _ _ _
@[simp] theorem State.decodeFault_csr (s : State) (w : Bool) (a : Nat) : (s.decodeFault w a).csr = s.csr := State.raise_csr _ _ _ _
@[simp] theorem State.decodeFault_std (s : State) (w : Bool) (a : Nat) : (s.decodeFault w a).std = s.std := State.raise_std _ _ _ _
@[simp] theorem State.decodeFault_wcnt (s : State) (w : Bool) (a : Nat) : (s.decodeFault w a).wcnt = s.wcnt := State.raise_wcnt _ _ _ _
@[simp] theorem State.decodeFault_cores (s : State) (w : Bool) (a : Nat) : (s.decodeFault w a).cores = s.cores := State.raise_cores _ _ _ _
@[simp] theorem State.decodeFault_tiles (s : State) (w : Bool) (a : Nat) : (s.decodeFault w a).tiles = s.tiles := State.raise_tiles _ _ _ _
@[simp] theorem State.decodeFault_spad (s : State) (w : Bool) (a : Nat) : (s.decodeFault w a).spad = s.spad := State.raise_spad _ _ _ _
@[simp] theorem State.decodeFault_spadPoison (s : State) (w : Bool) (a : Nat) : (s.decodeFault w a).spadPoison = s.spadPoison := State.raise_spadPoison _ _ _ _
@[simp] theorem State.decodeFault_spadEcc (s : State) (w : Bool) (a : Nat) : (s.decodeFault w a).spadEcc = s.spadEcc := State.raise_spadEcc _ _ _ _
@[simp] theorem State.decodeFault_spadLine (s : State) (w : Bool) (a : Nat) : (s.decodeFault w a).spadLine = s.spadLine := State.raise_spadLine _ _ _ _
@[simp] theorem State.decodeFault_spadLineCe (s : State) (w : Bool) (a : Nat) : (s.decodeFault w a).spadLineCe = s.spadLineCe := State.raise_spadLineCe _ _ _ _
@[simp] theorem State.decodeFault_marks (s : State) (w : Bool) (a : Nat) : (s.decodeFault w a).marks = s.marks := State.raise_marks _ _ _ _
@[simp] theorem State.decodeFault_imem (s : State) (w : Bool) (a : Nat) : (s.decodeFault w a).imem = s.imem := State.raise_imem _ _ _ _
@[simp] theorem State.decodeFault_imemEcc (s : State) (w : Bool) (a : Nat) : (s.decodeFault w a).imemEcc = s.imemEcc := State.raise_imemEcc _ _ _ _
@[simp] theorem State.decodeFault_hbm (s : State) (w : Bool) (a : Nat) : (s.decodeFault w a).hbm = s.hbm := State.raise_hbm _ _ _ _
@[simp] theorem State.decodeFault_hbmPoison (s : State) (w : Bool) (a : Nat) : (s.decodeFault w a).hbmPoison = s.hbmPoison := State.raise_hbmPoison _ _ _ _
@[simp] theorem State.decodeFault_hbmEcc (s : State) (w : Bool) (a : Nat) : (s.decodeFault w a).hbmEcc = s.hbmEcc := State.raise_hbmEcc _ _ _ _
@[simp] theorem State.decodeFault_fwBytes (s : State) (w : Bool) (a : Nat) : (s.decodeFault w a).fwBytes = s.fwBytes := State.raise_fwBytes _ _ _ _
@[simp] theorem State.decodeFault_access (s : State) (w : Bool) (a : Nat) : (s.decodeFault w a).access = s.access := State.raise_access _ _ _ _
@[simp] theorem State.decodeFault_sync (s : State) (w : Bool) (a : Nat) : (s.decodeFault w a).sync = s.sync := State.raise_sync _ _ _ _
@[simp] theorem State.decodeFault_msgs (s : State) (w : Bool) (a : Nat) : (s.decodeFault w a).msgs = s.msgs := State.raise_msgs _ _ _ _
@[simp] theorem State.decodeFault_ops (s : State) (w : Bool) (a : Nat) : (s.decodeFault w a).ops = s.ops := State.raise_ops _ _ _ _
@[simp] theorem State.decodeFault_releasing (s : State) (w : Bool) (a : Nat) : (s.decodeFault w a).releasing = s.releasing := State.raise_releasing _ _ _ _
@[simp] theorem State.decodeFault_nextOp (s : State) (w : Bool) (a : Nat) : (s.decodeFault w a).nextOp = s.nextOp := State.raise_nextOp _ _ _ _
@[simp] theorem State.decodeFault_nodesUp (s : State) (w : Bool) (a : Nat) : (s.decodeFault w a).nodesUp = s.nodesUp := State.raise_nodesUp _ _ _ _
@[simp] theorem State.decodeFault_net (s : State) (w : Bool) (a : Nat) : (s.decodeFault w a).net = s.net := State.raise_net _ _ _ _
@[simp] theorem State.decodeFault_track (s : State) (w : Bool) (a : Nat) : (s.decodeFault w a).track = s.track := State.raise_track _ _ _ _
@[simp] theorem State.decodeFault_combine (s : State) (w : Bool) (a : Nat) : (s.decodeFault w a).combine = s.combine := State.raise_combine _ _ _ _
@[simp] theorem State.decodeFault_creditUsed (s : State) (w : Bool) (a : Nat) : (s.decodeFault w a).creditUsed = s.creditUsed := State.raise_creditUsed _ _ _ _
@[simp] theorem State.decodeFault_creditBack (s : State) (w : Bool) (a : Nat) : (s.decodeFault w a).creditBack = s.creditBack := State.raise_creditBack _ _ _ _
@[simp] theorem State.decodeFault_rimTurn (s : State) (w : Bool) (a : Nat) : (s.decodeFault w a).rimTurn = s.rimTurn := State.raise_rimTurn _ _ _ _
@[simp] theorem State.decodeFault_idleSlots (s : State) (w : Bool) (a : Nat) : (s.decodeFault w a).idleSlots = s.idleSlots := State.raise_idleSlots _ _ _ _
@[simp] theorem State.decodeFault_srtGen (s : State) (w : Bool) (a : Nat) : (s.decodeFault w a).srtGen = s.srtGen := State.raise_srtGen _ _ _ _
@[simp] theorem State.decodeFault_hbmReqs (s : State) (w : Bool) (a : Nat) : (s.decodeFault w a).hbmReqs = s.hbmReqs := State.raise_hbmReqs _ _ _ _
@[simp] theorem State.decodeFault_ports (s : State) (w : Bool) (a : Nat) : (s.decodeFault w a).ports = s.ports := State.raise_ports _ _ _ _
@[simp] theorem State.decodeFault_fabric (s : State) (w : Bool) (a : Nat) : (s.decodeFault w a).fabric = s.fabric := State.raise_fabric _ _ _ _
@[simp] theorem State.decodeFault_dies (s : State) (w : Bool) (a : Nat) : (s.decodeFault w a).dies = s.dies := State.raise_dies _ _ _ _
@[simp] theorem State.decodeFault_parts (s : State) (w : Bool) (a : Nat) : (s.decodeFault w a).parts = s.parts := State.raise_parts _ _ _ _
@[simp] theorem State.decodeFault_boot (s : State) (w : Bool) (a : Nat) : (s.decodeFault w a).boot = s.boot := State.raise_boot _ _ _ _
@[simp] theorem State.decodeFault_power (s : State) (w : Bool) (a : Nat) : (s.decodeFault w a).power = s.power := State.raise_power _ _ _ _
@[simp] theorem State.decodeFault_thermal (s : State) (w : Bool) (a : Nat) : (s.decodeFault w a).thermal = s.thermal := State.raise_thermal _ _ _ _
@[simp] theorem State.decodeFault_mgmt (s : State) (w : Bool) (a : Nat) : (s.decodeFault w a).mgmt = s.mgmt := State.raise_mgmt _ _ _ _
@[simp] theorem State.decodeFault_bridge (s : State) (w : Bool) (a : Nat) : (s.decodeFault w a).bridge = s.bridge := State.raise_bridge _ _ _ _
@[simp] theorem State.decodeFault_pins (s : State) (w : Bool) (a : Nat) : (s.decodeFault w a).pins = s.pins := State.raise_pins _ _ _ _
@[simp] theorem State.decodeFault_answer (s : State) (w : Bool) (a : Nat) : (s.decodeFault w a).answer = s.answer := State.raise_answer _ _ _ _
@[simp] theorem State.decodeFault_free (s : State) (w : Bool) (a : Nat) : (s.decodeFault w a).free = s.free := State.raise_free _ _ _ _

@[simp] theorem State.healthEvent_pending (s : State) (k : Nat) : (s.healthEvent k).pending = s.pending := rfl
@[simp] theorem State.healthEvent_fuses (s : State) (k : Nat) : (s.healthEvent k).fuses = s.fuses := rfl
@[simp] theorem State.healthEvent_clk (s : State) (k : Nat) : (s.healthEvent k).clk = s.clk := rfl
@[simp] theorem State.healthEvent_csr (s : State) (k : Nat) : (s.healthEvent k).csr = s.csr := rfl
@[simp] theorem State.healthEvent_std (s : State) (k : Nat) : (s.healthEvent k).std = s.std := rfl
@[simp] theorem State.healthEvent_wcnt (s : State) (k : Nat) : (s.healthEvent k).wcnt = s.wcnt := rfl
@[simp] theorem State.healthEvent_cores (s : State) (k : Nat) : (s.healthEvent k).cores = s.cores := rfl
@[simp] theorem State.healthEvent_tiles (s : State) (k : Nat) : (s.healthEvent k).tiles = s.tiles := rfl
@[simp] theorem State.healthEvent_spad (s : State) (k : Nat) : (s.healthEvent k).spad = s.spad := rfl
@[simp] theorem State.healthEvent_spadPoison (s : State) (k : Nat) : (s.healthEvent k).spadPoison = s.spadPoison := rfl
@[simp] theorem State.healthEvent_spadEcc (s : State) (k : Nat) : (s.healthEvent k).spadEcc = s.spadEcc := rfl
@[simp] theorem State.healthEvent_spadLine (s : State) (k : Nat) : (s.healthEvent k).spadLine = s.spadLine := rfl
@[simp] theorem State.healthEvent_spadLineCe (s : State) (k : Nat) : (s.healthEvent k).spadLineCe = s.spadLineCe := rfl
@[simp] theorem State.healthEvent_marks (s : State) (k : Nat) : (s.healthEvent k).marks = s.marks := rfl
@[simp] theorem State.healthEvent_imem (s : State) (k : Nat) : (s.healthEvent k).imem = s.imem := rfl
@[simp] theorem State.healthEvent_imemEcc (s : State) (k : Nat) : (s.healthEvent k).imemEcc = s.imemEcc := rfl
@[simp] theorem State.healthEvent_hbm (s : State) (k : Nat) : (s.healthEvent k).hbm = s.hbm := rfl
@[simp] theorem State.healthEvent_hbmPoison (s : State) (k : Nat) : (s.healthEvent k).hbmPoison = s.hbmPoison := rfl
@[simp] theorem State.healthEvent_hbmEcc (s : State) (k : Nat) : (s.healthEvent k).hbmEcc = s.hbmEcc := rfl
@[simp] theorem State.healthEvent_fwBytes (s : State) (k : Nat) : (s.healthEvent k).fwBytes = s.fwBytes := rfl
@[simp] theorem State.healthEvent_access (s : State) (k : Nat) : (s.healthEvent k).access = s.access := rfl
@[simp] theorem State.healthEvent_sync (s : State) (k : Nat) : (s.healthEvent k).sync = s.sync := rfl
@[simp] theorem State.healthEvent_msgs (s : State) (k : Nat) : (s.healthEvent k).msgs = s.msgs := rfl
@[simp] theorem State.healthEvent_ops (s : State) (k : Nat) : (s.healthEvent k).ops = s.ops := rfl
@[simp] theorem State.healthEvent_releasing (s : State) (k : Nat) : (s.healthEvent k).releasing = s.releasing := rfl
@[simp] theorem State.healthEvent_nextOp (s : State) (k : Nat) : (s.healthEvent k).nextOp = s.nextOp := rfl
@[simp] theorem State.healthEvent_nodesUp (s : State) (k : Nat) : (s.healthEvent k).nodesUp = s.nodesUp := rfl
@[simp] theorem State.healthEvent_net (s : State) (k : Nat) : (s.healthEvent k).net = s.net := rfl
@[simp] theorem State.healthEvent_track (s : State) (k : Nat) : (s.healthEvent k).track = s.track := rfl
@[simp] theorem State.healthEvent_combine (s : State) (k : Nat) : (s.healthEvent k).combine = s.combine := rfl
@[simp] theorem State.healthEvent_creditUsed (s : State) (k : Nat) : (s.healthEvent k).creditUsed = s.creditUsed := rfl
@[simp] theorem State.healthEvent_creditBack (s : State) (k : Nat) : (s.healthEvent k).creditBack = s.creditBack := rfl
@[simp] theorem State.healthEvent_rimTurn (s : State) (k : Nat) : (s.healthEvent k).rimTurn = s.rimTurn := rfl
@[simp] theorem State.healthEvent_idleSlots (s : State) (k : Nat) : (s.healthEvent k).idleSlots = s.idleSlots := rfl
@[simp] theorem State.healthEvent_srtGen (s : State) (k : Nat) : (s.healthEvent k).srtGen = s.srtGen := rfl
@[simp] theorem State.healthEvent_hbmReqs (s : State) (k : Nat) : (s.healthEvent k).hbmReqs = s.hbmReqs := rfl
@[simp] theorem State.healthEvent_ports (s : State) (k : Nat) : (s.healthEvent k).ports = s.ports := rfl
@[simp] theorem State.healthEvent_fabric (s : State) (k : Nat) : (s.healthEvent k).fabric = s.fabric := rfl
@[simp] theorem State.healthEvent_dies (s : State) (k : Nat) : (s.healthEvent k).dies = s.dies := rfl
@[simp] theorem State.healthEvent_parts (s : State) (k : Nat) : (s.healthEvent k).parts = s.parts := rfl
@[simp] theorem State.healthEvent_boot (s : State) (k : Nat) : (s.healthEvent k).boot = s.boot := rfl
@[simp] theorem State.healthEvent_power (s : State) (k : Nat) : (s.healthEvent k).power = s.power := rfl
@[simp] theorem State.healthEvent_thermal (s : State) (k : Nat) : (s.healthEvent k).thermal = s.thermal := rfl
@[simp] theorem State.healthEvent_mgmt (s : State) (k : Nat) : (s.healthEvent k).mgmt = s.mgmt := rfl
@[simp] theorem State.healthEvent_bridge (s : State) (k : Nat) : (s.healthEvent k).bridge = s.bridge := rfl
@[simp] theorem State.healthEvent_pins (s : State) (k : Nat) : (s.healthEvent k).pins = s.pins := rfl
@[simp] theorem State.healthEvent_answer (s : State) (k : Nat) : (s.healthEvent k).answer = s.answer := rfl
@[simp] theorem State.healthEvent_free (s : State) (k : Nat) : (s.healthEvent k).free = s.free := rfl

@[simp] theorem State.atCycle_pending (s : State) (g n : Nat) : (s.atCycle g n).pending = s.pending := rfl
@[simp] theorem State.atCycle_fuses (s : State) (g n : Nat) : (s.atCycle g n).fuses = s.fuses := rfl
@[simp] theorem State.atCycle_csr (s : State) (g n : Nat) : (s.atCycle g n).csr = s.csr := rfl
@[simp] theorem State.atCycle_std (s : State) (g n : Nat) : (s.atCycle g n).std = s.std := rfl
@[simp] theorem State.atCycle_wcnt (s : State) (g n : Nat) : (s.atCycle g n).wcnt = s.wcnt := rfl
@[simp] theorem State.atCycle_cores (s : State) (g n : Nat) : (s.atCycle g n).cores = s.cores := rfl
@[simp] theorem State.atCycle_tiles (s : State) (g n : Nat) : (s.atCycle g n).tiles = s.tiles := rfl
@[simp] theorem State.atCycle_spad (s : State) (g n : Nat) : (s.atCycle g n).spad = s.spad := rfl
@[simp] theorem State.atCycle_spadPoison (s : State) (g n : Nat) : (s.atCycle g n).spadPoison = s.spadPoison := rfl
@[simp] theorem State.atCycle_spadEcc (s : State) (g n : Nat) : (s.atCycle g n).spadEcc = s.spadEcc := rfl
@[simp] theorem State.atCycle_spadLine (s : State) (g n : Nat) : (s.atCycle g n).spadLine = s.spadLine := rfl
@[simp] theorem State.atCycle_spadLineCe (s : State) (g n : Nat) : (s.atCycle g n).spadLineCe = s.spadLineCe := rfl
@[simp] theorem State.atCycle_marks (s : State) (g n : Nat) : (s.atCycle g n).marks = s.marks := rfl
@[simp] theorem State.atCycle_imem (s : State) (g n : Nat) : (s.atCycle g n).imem = s.imem := rfl
@[simp] theorem State.atCycle_imemEcc (s : State) (g n : Nat) : (s.atCycle g n).imemEcc = s.imemEcc := rfl
@[simp] theorem State.atCycle_hbm (s : State) (g n : Nat) : (s.atCycle g n).hbm = s.hbm := rfl
@[simp] theorem State.atCycle_hbmPoison (s : State) (g n : Nat) : (s.atCycle g n).hbmPoison = s.hbmPoison := rfl
@[simp] theorem State.atCycle_hbmEcc (s : State) (g n : Nat) : (s.atCycle g n).hbmEcc = s.hbmEcc := rfl
@[simp] theorem State.atCycle_fwBytes (s : State) (g n : Nat) : (s.atCycle g n).fwBytes = s.fwBytes := rfl
@[simp] theorem State.atCycle_access (s : State) (g n : Nat) : (s.atCycle g n).access = s.access := rfl
@[simp] theorem State.atCycle_sync (s : State) (g n : Nat) : (s.atCycle g n).sync = s.sync := rfl
@[simp] theorem State.atCycle_msgs (s : State) (g n : Nat) : (s.atCycle g n).msgs = s.msgs := rfl
@[simp] theorem State.atCycle_ops (s : State) (g n : Nat) : (s.atCycle g n).ops = s.ops := rfl
@[simp] theorem State.atCycle_releasing (s : State) (g n : Nat) : (s.atCycle g n).releasing = s.releasing := rfl
@[simp] theorem State.atCycle_nextOp (s : State) (g n : Nat) : (s.atCycle g n).nextOp = s.nextOp := rfl
@[simp] theorem State.atCycle_nodesUp (s : State) (g n : Nat) : (s.atCycle g n).nodesUp = s.nodesUp := rfl
@[simp] theorem State.atCycle_net (s : State) (g n : Nat) : (s.atCycle g n).net = s.net := rfl
@[simp] theorem State.atCycle_track (s : State) (g n : Nat) : (s.atCycle g n).track = s.track := rfl
@[simp] theorem State.atCycle_combine (s : State) (g n : Nat) : (s.atCycle g n).combine = s.combine := rfl
@[simp] theorem State.atCycle_creditUsed (s : State) (g n : Nat) : (s.atCycle g n).creditUsed = s.creditUsed := rfl
@[simp] theorem State.atCycle_creditBack (s : State) (g n : Nat) : (s.atCycle g n).creditBack = s.creditBack := rfl
@[simp] theorem State.atCycle_rimTurn (s : State) (g n : Nat) : (s.atCycle g n).rimTurn = s.rimTurn := rfl
@[simp] theorem State.atCycle_idleSlots (s : State) (g n : Nat) : (s.atCycle g n).idleSlots = s.idleSlots := rfl
@[simp] theorem State.atCycle_srtGen (s : State) (g n : Nat) : (s.atCycle g n).srtGen = s.srtGen := rfl
@[simp] theorem State.atCycle_hbmReqs (s : State) (g n : Nat) : (s.atCycle g n).hbmReqs = s.hbmReqs := rfl
@[simp] theorem State.atCycle_ports (s : State) (g n : Nat) : (s.atCycle g n).ports = s.ports := rfl
@[simp] theorem State.atCycle_fabric (s : State) (g n : Nat) : (s.atCycle g n).fabric = s.fabric := rfl
@[simp] theorem State.atCycle_dies (s : State) (g n : Nat) : (s.atCycle g n).dies = s.dies := rfl
@[simp] theorem State.atCycle_parts (s : State) (g n : Nat) : (s.atCycle g n).parts = s.parts := rfl
@[simp] theorem State.atCycle_faults (s : State) (g n : Nat) : (s.atCycle g n).faults = s.faults := rfl
@[simp] theorem State.atCycle_boot (s : State) (g n : Nat) : (s.atCycle g n).boot = s.boot := rfl
@[simp] theorem State.atCycle_power (s : State) (g n : Nat) : (s.atCycle g n).power = s.power := rfl
@[simp] theorem State.atCycle_thermal (s : State) (g n : Nat) : (s.atCycle g n).thermal = s.thermal := rfl
@[simp] theorem State.atCycle_mgmt (s : State) (g n : Nat) : (s.atCycle g n).mgmt = s.mgmt := rfl
@[simp] theorem State.atCycle_bridge (s : State) (g n : Nat) : (s.atCycle g n).bridge = s.bridge := rfl
@[simp] theorem State.atCycle_pins (s : State) (g n : Nat) : (s.atCycle g n).pins = s.pins := rfl
@[simp] theorem State.atCycle_answer (s : State) (g n : Nat) : (s.atCycle g n).answer = s.answer := rfl
@[simp] theorem State.atCycle_free (s : State) (g n : Nat) : (s.atCycle g n).free = s.free := rfl

@[simp] theorem State.atRef_pending (s : State) (r : Nat) : (s.atRef r).pending = s.pending := rfl
@[simp] theorem State.atRef_fuses (s : State) (r : Nat) : (s.atRef r).fuses = s.fuses := rfl
@[simp] theorem State.atRef_csr (s : State) (r : Nat) : (s.atRef r).csr = s.csr := rfl
@[simp] theorem State.atRef_std (s : State) (r : Nat) : (s.atRef r).std = s.std := rfl
@[simp] theorem State.atRef_wcnt (s : State) (r : Nat) : (s.atRef r).wcnt = s.wcnt := rfl
@[simp] theorem State.atRef_cores (s : State) (r : Nat) : (s.atRef r).cores = s.cores := rfl
@[simp] theorem State.atRef_tiles (s : State) (r : Nat) : (s.atRef r).tiles = s.tiles := rfl
@[simp] theorem State.atRef_spad (s : State) (r : Nat) : (s.atRef r).spad = s.spad := rfl
@[simp] theorem State.atRef_spadPoison (s : State) (r : Nat) : (s.atRef r).spadPoison = s.spadPoison := rfl
@[simp] theorem State.atRef_spadEcc (s : State) (r : Nat) : (s.atRef r).spadEcc = s.spadEcc := rfl
@[simp] theorem State.atRef_spadLine (s : State) (r : Nat) : (s.atRef r).spadLine = s.spadLine := rfl
@[simp] theorem State.atRef_spadLineCe (s : State) (r : Nat) : (s.atRef r).spadLineCe = s.spadLineCe := rfl
@[simp] theorem State.atRef_marks (s : State) (r : Nat) : (s.atRef r).marks = s.marks := rfl
@[simp] theorem State.atRef_imem (s : State) (r : Nat) : (s.atRef r).imem = s.imem := rfl
@[simp] theorem State.atRef_imemEcc (s : State) (r : Nat) : (s.atRef r).imemEcc = s.imemEcc := rfl
@[simp] theorem State.atRef_hbm (s : State) (r : Nat) : (s.atRef r).hbm = s.hbm := rfl
@[simp] theorem State.atRef_hbmPoison (s : State) (r : Nat) : (s.atRef r).hbmPoison = s.hbmPoison := rfl
@[simp] theorem State.atRef_hbmEcc (s : State) (r : Nat) : (s.atRef r).hbmEcc = s.hbmEcc := rfl
@[simp] theorem State.atRef_fwBytes (s : State) (r : Nat) : (s.atRef r).fwBytes = s.fwBytes := rfl
@[simp] theorem State.atRef_access (s : State) (r : Nat) : (s.atRef r).access = s.access := rfl
@[simp] theorem State.atRef_sync (s : State) (r : Nat) : (s.atRef r).sync = s.sync := rfl
@[simp] theorem State.atRef_msgs (s : State) (r : Nat) : (s.atRef r).msgs = s.msgs := rfl
@[simp] theorem State.atRef_ops (s : State) (r : Nat) : (s.atRef r).ops = s.ops := rfl
@[simp] theorem State.atRef_releasing (s : State) (r : Nat) : (s.atRef r).releasing = s.releasing := rfl
@[simp] theorem State.atRef_nextOp (s : State) (r : Nat) : (s.atRef r).nextOp = s.nextOp := rfl
@[simp] theorem State.atRef_nodesUp (s : State) (r : Nat) : (s.atRef r).nodesUp = s.nodesUp := rfl
@[simp] theorem State.atRef_net (s : State) (r : Nat) : (s.atRef r).net = s.net := rfl
@[simp] theorem State.atRef_track (s : State) (r : Nat) : (s.atRef r).track = s.track := rfl
@[simp] theorem State.atRef_combine (s : State) (r : Nat) : (s.atRef r).combine = s.combine := rfl
@[simp] theorem State.atRef_creditUsed (s : State) (r : Nat) : (s.atRef r).creditUsed = s.creditUsed := rfl
@[simp] theorem State.atRef_creditBack (s : State) (r : Nat) : (s.atRef r).creditBack = s.creditBack := rfl
@[simp] theorem State.atRef_rimTurn (s : State) (r : Nat) : (s.atRef r).rimTurn = s.rimTurn := rfl
@[simp] theorem State.atRef_idleSlots (s : State) (r : Nat) : (s.atRef r).idleSlots = s.idleSlots := rfl
@[simp] theorem State.atRef_srtGen (s : State) (r : Nat) : (s.atRef r).srtGen = s.srtGen := rfl
@[simp] theorem State.atRef_hbmReqs (s : State) (r : Nat) : (s.atRef r).hbmReqs = s.hbmReqs := rfl
@[simp] theorem State.atRef_ports (s : State) (r : Nat) : (s.atRef r).ports = s.ports := rfl
@[simp] theorem State.atRef_fabric (s : State) (r : Nat) : (s.atRef r).fabric = s.fabric := rfl
@[simp] theorem State.atRef_dies (s : State) (r : Nat) : (s.atRef r).dies = s.dies := rfl
@[simp] theorem State.atRef_parts (s : State) (r : Nat) : (s.atRef r).parts = s.parts := rfl
@[simp] theorem State.atRef_faults (s : State) (r : Nat) : (s.atRef r).faults = s.faults := rfl
@[simp] theorem State.atRef_boot (s : State) (r : Nat) : (s.atRef r).boot = s.boot := rfl
@[simp] theorem State.atRef_power (s : State) (r : Nat) : (s.atRef r).power = s.power := rfl
@[simp] theorem State.atRef_thermal (s : State) (r : Nat) : (s.atRef r).thermal = s.thermal := rfl
@[simp] theorem State.atRef_mgmt (s : State) (r : Nat) : (s.atRef r).mgmt = s.mgmt := rfl
@[simp] theorem State.atRef_bridge (s : State) (r : Nat) : (s.atRef r).bridge = s.bridge := rfl
@[simp] theorem State.atRef_pins (s : State) (r : Nat) : (s.atRef r).pins = s.pins := rfl
@[simp] theorem State.atRef_answer (s : State) (r : Nat) : (s.atRef r).answer = s.answer := rfl
@[simp] theorem State.atRef_free (s : State) (r : Nat) : (s.atRef r).free = s.free := rfl

/-! ## Records, counters, captures, the log and interrupts -/

/-- Everything but the control-space words and the fault records is in `t` as in `s`. -/
def State.Near (s t : State) : Prop := t = { s with csr := t.csr, faults := t.faults }

theorem State.near_refl (s : State) : s.Near s := rfl
theorem State.Near.trans {s t u : State} (h : s.Near t) (k : t.Near u) : s.Near u := by
  unfold State.Near at h k ⊢; rw [k, h]
theorem State.Near.ite {s x y : State} (p : Prop) [Decidable p] (hx : s.Near x) (hy : s.Near y) :
    s.Near (if p then x else y) := by
  by_cases h : p
  · simpa only [if_pos h] using hx
  · simpa only [if_neg h] using hy
theorem State.Near.wr {s t : State} (h : s.Near t) (r : Reg) (v : Nat) : s.Near (t.wr r v) := by
  unfold State.Near at h ⊢; rw [h]; rfl
theorem State.Near.setFld {s t : State} (h : s.Near t) (f : Field) (v : Nat) : s.Near (t.setFld f v) := h.wr _ _
theorem State.Near.send {s t : State} (h : s.Near t) (r : FaultRec) : s.Near (t.send r) := by
  unfold State.Near at h ⊢; rw [h]; rfl
theorem State.Near.raise {s t : State} (h : s.Near t) (a b c : Nat) : s.Near (t.raise a b c) := h.send _
/-- All that a counter's step can change (R134). -/
theorem State.Near.count {s t : State} (h : s.Near t) (c : Counter) (n : Nat) : s.Near (t.count c n) :=
  .ite _ (.raise (.ite _ (.raise (h.wr _ _) _ _ _) (h.wr _ _)) _ _ _) (.ite _ (.raise (h.wr _ _) _ _ _) (h.wr _ _))
/-- All that a capture can change (R134). -/
theorem State.Near.capture {s t : State} (h : s.Near t) (r : Reg) (w a b : Nat) : s.Near (t.capture r w a b) :=
  .ite _ h (.raise (h.wr _ _) _ _ _)
theorem State.Near.captureWith {s t : State} (h : s.Near t) (r : Reg) (w : Nat) (f : State → Nat → FaultRec) :
    s.Near (t.captureWith r w f) :=
  .ite _ h (.send (h.wr _ _) _)
/-- All that a performance counter's step can change (R75). -/
theorem State.Near.perf {s t : State} (h : s.Near t) (p c i n : Nat) : s.Near (t.perf p c i n) :=
  .ite _ (h.wr _ _) (.raise (.wr (h.wr _ _) _ _) _ _ _)

/-- All that a log entry can change (R389). -/
theorem State.log_frame (s : State) (y l : Nat) (b : List W64) :
    s.log y l b = { s with csr := (s.log y l b).csr, faults := (s.log y l b).faults, mgmt := (s.log y l b).mgmt } := by
  unfold State.log
  by_cases h : s.mgmt.logBuffer.length < 4096
  · simp only [if_pos h]; rfl
  · simp only [if_neg h]
    have hc : s.Near (s.count logLost 1) := s.near_refl.count logLost 1
    generalize s.count logLost 1 = t at hc
    unfold State.Near at hc
    rw [hc]

/-- All that an interrupt's event can change (R412). -/
theorem State.irq_frame (s : State) (n : Nat) : s.irq n = { s with bridge := (s.irq n).bridge } := by
  unfold State.irq
  by_cases h : (s.flag (MGMT_IRQn_EN n) && decide (s.fld MGMT_HOST_CTRL_STATE ≠ 3)) = true
  · simp only [if_pos h]
  · simp only [if_neg h]


theorem State.Near.pending {s t : State} (h : s.Near t) : t.pending = s.pending := by rw [h]
theorem State.Near.fuses {s t : State} (h : s.Near t) : t.fuses = s.fuses := by rw [h]
theorem State.Near.clk {s t : State} (h : s.Near t) : t.clk = s.clk := by rw [h]
theorem State.Near.std {s t : State} (h : s.Near t) : t.std = s.std := by rw [h]
theorem State.Near.wcnt {s t : State} (h : s.Near t) : t.wcnt = s.wcnt := by rw [h]
theorem State.Near.cores {s t : State} (h : s.Near t) : t.cores = s.cores := by rw [h]
theorem State.Near.tiles {s t : State} (h : s.Near t) : t.tiles = s.tiles := by rw [h]
theorem State.Near.spad {s t : State} (h : s.Near t) : t.spad = s.spad := by rw [h]
theorem State.Near.spadPoison {s t : State} (h : s.Near t) : t.spadPoison = s.spadPoison := by rw [h]
theorem State.Near.spadEcc {s t : State} (h : s.Near t) : t.spadEcc = s.spadEcc := by rw [h]
theorem State.Near.spadLine {s t : State} (h : s.Near t) : t.spadLine = s.spadLine := by rw [h]
theorem State.Near.spadLineCe {s t : State} (h : s.Near t) : t.spadLineCe = s.spadLineCe := by rw [h]
theorem State.Near.marks {s t : State} (h : s.Near t) : t.marks = s.marks := by rw [h]
theorem State.Near.imem {s t : State} (h : s.Near t) : t.imem = s.imem := by rw [h]
theorem State.Near.imemEcc {s t : State} (h : s.Near t) : t.imemEcc = s.imemEcc := by rw [h]
theorem State.Near.hbm {s t : State} (h : s.Near t) : t.hbm = s.hbm := by rw [h]
theorem State.Near.hbmPoison {s t : State} (h : s.Near t) : t.hbmPoison = s.hbmPoison := by rw [h]
theorem State.Near.hbmEcc {s t : State} (h : s.Near t) : t.hbmEcc = s.hbmEcc := by rw [h]
theorem State.Near.fwBytes {s t : State} (h : s.Near t) : t.fwBytes = s.fwBytes := by rw [h]
theorem State.Near.access {s t : State} (h : s.Near t) : t.access = s.access := by rw [h]
theorem State.Near.sync {s t : State} (h : s.Near t) : t.sync = s.sync := by rw [h]
theorem State.Near.msgs {s t : State} (h : s.Near t) : t.msgs = s.msgs := by rw [h]
theorem State.Near.ops {s t : State} (h : s.Near t) : t.ops = s.ops := by rw [h]
theorem State.Near.releasing {s t : State} (h : s.Near t) : t.releasing = s.releasing := by rw [h]
theorem State.Near.nextOp {s t : State} (h : s.Near t) : t.nextOp = s.nextOp := by rw [h]
theorem State.Near.nodesUp {s t : State} (h : s.Near t) : t.nodesUp = s.nodesUp := by rw [h]
theorem State.Near.net {s t : State} (h : s.Near t) : t.net = s.net := by rw [h]
theorem State.Near.track {s t : State} (h : s.Near t) : t.track = s.track := by rw [h]
theorem State.Near.combine {s t : State} (h : s.Near t) : t.combine = s.combine := by rw [h]
theorem State.Near.creditUsed {s t : State} (h : s.Near t) : t.creditUsed = s.creditUsed := by rw [h]
theorem State.Near.creditBack {s t : State} (h : s.Near t) : t.creditBack = s.creditBack := by rw [h]
theorem State.Near.rimTurn {s t : State} (h : s.Near t) : t.rimTurn = s.rimTurn := by rw [h]
theorem State.Near.idleSlots {s t : State} (h : s.Near t) : t.idleSlots = s.idleSlots := by rw [h]
theorem State.Near.srtGen {s t : State} (h : s.Near t) : t.srtGen = s.srtGen := by rw [h]
theorem State.Near.hbmReqs {s t : State} (h : s.Near t) : t.hbmReqs = s.hbmReqs := by rw [h]
theorem State.Near.ports {s t : State} (h : s.Near t) : t.ports = s.ports := by rw [h]
theorem State.Near.fabric {s t : State} (h : s.Near t) : t.fabric = s.fabric := by rw [h]
theorem State.Near.dies {s t : State} (h : s.Near t) : t.dies = s.dies := by rw [h]
theorem State.Near.parts {s t : State} (h : s.Near t) : t.parts = s.parts := by rw [h]
theorem State.Near.boot {s t : State} (h : s.Near t) : t.boot = s.boot := by rw [h]
theorem State.Near.power {s t : State} (h : s.Near t) : t.power = s.power := by rw [h]
theorem State.Near.thermal {s t : State} (h : s.Near t) : t.thermal = s.thermal := by rw [h]
theorem State.Near.mgmt {s t : State} (h : s.Near t) : t.mgmt = s.mgmt := by rw [h]
theorem State.Near.bridge {s t : State} (h : s.Near t) : t.bridge = s.bridge := by rw [h]
theorem State.Near.pins {s t : State} (h : s.Near t) : t.pins = s.pins := by rw [h]
theorem State.Near.answer {s t : State} (h : s.Near t) : t.answer = s.answer := by rw [h]
theorem State.Near.free {s t : State} (h : s.Near t) : t.free = s.free := by rw [h]

@[simp] theorem State.irq_pending (s : State) (n : Nat) : (s.irq n).pending = s.pending := by rw [State.irq_frame]
@[simp] theorem State.irq_fuses (s : State) (n : Nat) : (s.irq n).fuses = s.fuses := by rw [State.irq_frame]
@[simp] theorem State.irq_clk (s : State) (n : Nat) : (s.irq n).clk = s.clk := by rw [State.irq_frame]
@[simp] theorem State.irq_csr (s : State) (n : Nat) : (s.irq n).csr = s.csr := by rw [State.irq_frame]
@[simp] theorem State.irq_std (s : State) (n : Nat) : (s.irq n).std = s.std := by rw [State.irq_frame]
@[simp] theorem State.irq_wcnt (s : State) (n : Nat) : (s.irq n).wcnt = s.wcnt := by rw [State.irq_frame]
@[simp] theorem State.irq_cores (s : State) (n : Nat) : (s.irq n).cores = s.cores := by rw [State.irq_frame]
@[simp] theorem State.irq_tiles (s : State) (n : Nat) : (s.irq n).tiles = s.tiles := by rw [State.irq_frame]
@[simp] theorem State.irq_spad (s : State) (n : Nat) : (s.irq n).spad = s.spad := by rw [State.irq_frame]
@[simp] theorem State.irq_spadPoison (s : State) (n : Nat) : (s.irq n).spadPoison = s.spadPoison := by rw [State.irq_frame]
@[simp] theorem State.irq_spadEcc (s : State) (n : Nat) : (s.irq n).spadEcc = s.spadEcc := by rw [State.irq_frame]
@[simp] theorem State.irq_spadLine (s : State) (n : Nat) : (s.irq n).spadLine = s.spadLine := by rw [State.irq_frame]
@[simp] theorem State.irq_spadLineCe (s : State) (n : Nat) : (s.irq n).spadLineCe = s.spadLineCe := by rw [State.irq_frame]
@[simp] theorem State.irq_marks (s : State) (n : Nat) : (s.irq n).marks = s.marks := by rw [State.irq_frame]
@[simp] theorem State.irq_imem (s : State) (n : Nat) : (s.irq n).imem = s.imem := by rw [State.irq_frame]
@[simp] theorem State.irq_imemEcc (s : State) (n : Nat) : (s.irq n).imemEcc = s.imemEcc := by rw [State.irq_frame]
@[simp] theorem State.irq_hbm (s : State) (n : Nat) : (s.irq n).hbm = s.hbm := by rw [State.irq_frame]
@[simp] theorem State.irq_hbmPoison (s : State) (n : Nat) : (s.irq n).hbmPoison = s.hbmPoison := by rw [State.irq_frame]
@[simp] theorem State.irq_hbmEcc (s : State) (n : Nat) : (s.irq n).hbmEcc = s.hbmEcc := by rw [State.irq_frame]
@[simp] theorem State.irq_fwBytes (s : State) (n : Nat) : (s.irq n).fwBytes = s.fwBytes := by rw [State.irq_frame]
@[simp] theorem State.irq_access (s : State) (n : Nat) : (s.irq n).access = s.access := by rw [State.irq_frame]
@[simp] theorem State.irq_sync (s : State) (n : Nat) : (s.irq n).sync = s.sync := by rw [State.irq_frame]
@[simp] theorem State.irq_msgs (s : State) (n : Nat) : (s.irq n).msgs = s.msgs := by rw [State.irq_frame]
@[simp] theorem State.irq_ops (s : State) (n : Nat) : (s.irq n).ops = s.ops := by rw [State.irq_frame]
@[simp] theorem State.irq_releasing (s : State) (n : Nat) : (s.irq n).releasing = s.releasing := by rw [State.irq_frame]
@[simp] theorem State.irq_nextOp (s : State) (n : Nat) : (s.irq n).nextOp = s.nextOp := by rw [State.irq_frame]
@[simp] theorem State.irq_nodesUp (s : State) (n : Nat) : (s.irq n).nodesUp = s.nodesUp := by rw [State.irq_frame]
@[simp] theorem State.irq_net (s : State) (n : Nat) : (s.irq n).net = s.net := by rw [State.irq_frame]
@[simp] theorem State.irq_track (s : State) (n : Nat) : (s.irq n).track = s.track := by rw [State.irq_frame]
@[simp] theorem State.irq_combine (s : State) (n : Nat) : (s.irq n).combine = s.combine := by rw [State.irq_frame]
@[simp] theorem State.irq_creditUsed (s : State) (n : Nat) : (s.irq n).creditUsed = s.creditUsed := by rw [State.irq_frame]
@[simp] theorem State.irq_creditBack (s : State) (n : Nat) : (s.irq n).creditBack = s.creditBack := by rw [State.irq_frame]
@[simp] theorem State.irq_rimTurn (s : State) (n : Nat) : (s.irq n).rimTurn = s.rimTurn := by rw [State.irq_frame]
@[simp] theorem State.irq_idleSlots (s : State) (n : Nat) : (s.irq n).idleSlots = s.idleSlots := by rw [State.irq_frame]
@[simp] theorem State.irq_srtGen (s : State) (n : Nat) : (s.irq n).srtGen = s.srtGen := by rw [State.irq_frame]
@[simp] theorem State.irq_hbmReqs (s : State) (n : Nat) : (s.irq n).hbmReqs = s.hbmReqs := by rw [State.irq_frame]
@[simp] theorem State.irq_ports (s : State) (n : Nat) : (s.irq n).ports = s.ports := by rw [State.irq_frame]
@[simp] theorem State.irq_fabric (s : State) (n : Nat) : (s.irq n).fabric = s.fabric := by rw [State.irq_frame]
@[simp] theorem State.irq_dies (s : State) (n : Nat) : (s.irq n).dies = s.dies := by rw [State.irq_frame]
@[simp] theorem State.irq_parts (s : State) (n : Nat) : (s.irq n).parts = s.parts := by rw [State.irq_frame]
@[simp] theorem State.irq_faults (s : State) (n : Nat) : (s.irq n).faults = s.faults := by rw [State.irq_frame]
@[simp] theorem State.irq_boot (s : State) (n : Nat) : (s.irq n).boot = s.boot := by rw [State.irq_frame]
@[simp] theorem State.irq_power (s : State) (n : Nat) : (s.irq n).power = s.power := by rw [State.irq_frame]
@[simp] theorem State.irq_thermal (s : State) (n : Nat) : (s.irq n).thermal = s.thermal := by rw [State.irq_frame]
@[simp] theorem State.irq_mgmt (s : State) (n : Nat) : (s.irq n).mgmt = s.mgmt := by rw [State.irq_frame]
@[simp] theorem State.irq_pins (s : State) (n : Nat) : (s.irq n).pins = s.pins := by rw [State.irq_frame]
@[simp] theorem State.irq_answer (s : State) (n : Nat) : (s.irq n).answer = s.answer := by rw [State.irq_frame]
@[simp] theorem State.irq_free (s : State) (n : Nat) : (s.irq n).free = s.free := by rw [State.irq_frame]

@[simp] theorem State.count_pending (s : State) (c : Counter) (n : Nat) : (s.count c n).pending = s.pending := (s.near_refl.count c n).pending
@[simp] theorem State.count_fuses (s : State) (c : Counter) (n : Nat) : (s.count c n).fuses = s.fuses := (s.near_refl.count c n).fuses
@[simp] theorem State.count_clk (s : State) (c : Counter) (n : Nat) : (s.count c n).clk = s.clk := (s.near_refl.count c n).clk
@[simp] theorem State.count_std (s : State) (c : Counter) (n : Nat) : (s.count c n).std = s.std := (s.near_refl.count c n).std
@[simp] theorem State.count_wcnt (s : State) (c : Counter) (n : Nat) : (s.count c n).wcnt = s.wcnt := (s.near_refl.count c n).wcnt
@[simp] theorem State.count_cores (s : State) (c : Counter) (n : Nat) : (s.count c n).cores = s.cores := (s.near_refl.count c n).cores
@[simp] theorem State.count_tiles (s : State) (c : Counter) (n : Nat) : (s.count c n).tiles = s.tiles := (s.near_refl.count c n).tiles
@[simp] theorem State.count_spad (s : State) (c : Counter) (n : Nat) : (s.count c n).spad = s.spad := (s.near_refl.count c n).spad
@[simp] theorem State.count_spadPoison (s : State) (c : Counter) (n : Nat) : (s.count c n).spadPoison = s.spadPoison := (s.near_refl.count c n).spadPoison
@[simp] theorem State.count_spadEcc (s : State) (c : Counter) (n : Nat) : (s.count c n).spadEcc = s.spadEcc := (s.near_refl.count c n).spadEcc
@[simp] theorem State.count_spadLine (s : State) (c : Counter) (n : Nat) : (s.count c n).spadLine = s.spadLine := (s.near_refl.count c n).spadLine
@[simp] theorem State.count_spadLineCe (s : State) (c : Counter) (n : Nat) : (s.count c n).spadLineCe = s.spadLineCe := (s.near_refl.count c n).spadLineCe
@[simp] theorem State.count_marks (s : State) (c : Counter) (n : Nat) : (s.count c n).marks = s.marks := (s.near_refl.count c n).marks
@[simp] theorem State.count_imem (s : State) (c : Counter) (n : Nat) : (s.count c n).imem = s.imem := (s.near_refl.count c n).imem
@[simp] theorem State.count_imemEcc (s : State) (c : Counter) (n : Nat) : (s.count c n).imemEcc = s.imemEcc := (s.near_refl.count c n).imemEcc
@[simp] theorem State.count_hbm (s : State) (c : Counter) (n : Nat) : (s.count c n).hbm = s.hbm := (s.near_refl.count c n).hbm
@[simp] theorem State.count_hbmPoison (s : State) (c : Counter) (n : Nat) : (s.count c n).hbmPoison = s.hbmPoison := (s.near_refl.count c n).hbmPoison
@[simp] theorem State.count_hbmEcc (s : State) (c : Counter) (n : Nat) : (s.count c n).hbmEcc = s.hbmEcc := (s.near_refl.count c n).hbmEcc
@[simp] theorem State.count_fwBytes (s : State) (c : Counter) (n : Nat) : (s.count c n).fwBytes = s.fwBytes := (s.near_refl.count c n).fwBytes
@[simp] theorem State.count_access (s : State) (c : Counter) (n : Nat) : (s.count c n).access = s.access := (s.near_refl.count c n).access
@[simp] theorem State.count_sync (s : State) (c : Counter) (n : Nat) : (s.count c n).sync = s.sync := (s.near_refl.count c n).sync
@[simp] theorem State.count_msgs (s : State) (c : Counter) (n : Nat) : (s.count c n).msgs = s.msgs := (s.near_refl.count c n).msgs
@[simp] theorem State.count_ops (s : State) (c : Counter) (n : Nat) : (s.count c n).ops = s.ops := (s.near_refl.count c n).ops
@[simp] theorem State.count_releasing (s : State) (c : Counter) (n : Nat) : (s.count c n).releasing = s.releasing := (s.near_refl.count c n).releasing
@[simp] theorem State.count_nextOp (s : State) (c : Counter) (n : Nat) : (s.count c n).nextOp = s.nextOp := (s.near_refl.count c n).nextOp
@[simp] theorem State.count_nodesUp (s : State) (c : Counter) (n : Nat) : (s.count c n).nodesUp = s.nodesUp := (s.near_refl.count c n).nodesUp
@[simp] theorem State.count_net (s : State) (c : Counter) (n : Nat) : (s.count c n).net = s.net := (s.near_refl.count c n).net
@[simp] theorem State.count_track (s : State) (c : Counter) (n : Nat) : (s.count c n).track = s.track := (s.near_refl.count c n).track
@[simp] theorem State.count_combine (s : State) (c : Counter) (n : Nat) : (s.count c n).combine = s.combine := (s.near_refl.count c n).combine
@[simp] theorem State.count_creditUsed (s : State) (c : Counter) (n : Nat) : (s.count c n).creditUsed = s.creditUsed := (s.near_refl.count c n).creditUsed
@[simp] theorem State.count_creditBack (s : State) (c : Counter) (n : Nat) : (s.count c n).creditBack = s.creditBack := (s.near_refl.count c n).creditBack
@[simp] theorem State.count_rimTurn (s : State) (c : Counter) (n : Nat) : (s.count c n).rimTurn = s.rimTurn := (s.near_refl.count c n).rimTurn
@[simp] theorem State.count_idleSlots (s : State) (c : Counter) (n : Nat) : (s.count c n).idleSlots = s.idleSlots := (s.near_refl.count c n).idleSlots
@[simp] theorem State.count_srtGen (s : State) (c : Counter) (n : Nat) : (s.count c n).srtGen = s.srtGen := (s.near_refl.count c n).srtGen
@[simp] theorem State.count_hbmReqs (s : State) (c : Counter) (n : Nat) : (s.count c n).hbmReqs = s.hbmReqs := (s.near_refl.count c n).hbmReqs
@[simp] theorem State.count_ports (s : State) (c : Counter) (n : Nat) : (s.count c n).ports = s.ports := (s.near_refl.count c n).ports
@[simp] theorem State.count_fabric (s : State) (c : Counter) (n : Nat) : (s.count c n).fabric = s.fabric := (s.near_refl.count c n).fabric
@[simp] theorem State.count_dies (s : State) (c : Counter) (n : Nat) : (s.count c n).dies = s.dies := (s.near_refl.count c n).dies
@[simp] theorem State.count_parts (s : State) (c : Counter) (n : Nat) : (s.count c n).parts = s.parts := (s.near_refl.count c n).parts
@[simp] theorem State.count_boot (s : State) (c : Counter) (n : Nat) : (s.count c n).boot = s.boot := (s.near_refl.count c n).boot
@[simp] theorem State.count_power (s : State) (c : Counter) (n : Nat) : (s.count c n).power = s.power := (s.near_refl.count c n).power
@[simp] theorem State.count_thermal (s : State) (c : Counter) (n : Nat) : (s.count c n).thermal = s.thermal := (s.near_refl.count c n).thermal
@[simp] theorem State.count_mgmt (s : State) (c : Counter) (n : Nat) : (s.count c n).mgmt = s.mgmt := (s.near_refl.count c n).mgmt
@[simp] theorem State.count_bridge (s : State) (c : Counter) (n : Nat) : (s.count c n).bridge = s.bridge := (s.near_refl.count c n).bridge
@[simp] theorem State.count_pins (s : State) (c : Counter) (n : Nat) : (s.count c n).pins = s.pins := (s.near_refl.count c n).pins
@[simp] theorem State.count_answer (s : State) (c : Counter) (n : Nat) : (s.count c n).answer = s.answer := (s.near_refl.count c n).answer
@[simp] theorem State.count_free (s : State) (c : Counter) (n : Nat) : (s.count c n).free = s.free := (s.near_refl.count c n).free

@[simp] theorem State.capture_pending (s : State) (r : Reg) (w a b : Nat) : (s.capture r w a b).pending = s.pending := (s.near_refl.capture r w a b).pending
@[simp] theorem State.capture_fuses (s : State) (r : Reg) (w a b : Nat) : (s.capture r w a b).fuses = s.fuses := (s.near_refl.capture r w a b).fuses
@[simp] theorem State.capture_clk (s : State) (r : Reg) (w a b : Nat) : (s.capture r w a b).clk = s.clk := (s.near_refl.capture r w a b).clk
@[simp] theorem State.capture_std (s : State) (r : Reg) (w a b : Nat) : (s.capture r w a b).std = s.std := (s.near_refl.capture r w a b).std
@[simp] theorem State.capture_wcnt (s : State) (r : Reg) (w a b : Nat) : (s.capture r w a b).wcnt = s.wcnt := (s.near_refl.capture r w a b).wcnt
@[simp] theorem State.capture_cores (s : State) (r : Reg) (w a b : Nat) : (s.capture r w a b).cores = s.cores := (s.near_refl.capture r w a b).cores
@[simp] theorem State.capture_tiles (s : State) (r : Reg) (w a b : Nat) : (s.capture r w a b).tiles = s.tiles := (s.near_refl.capture r w a b).tiles
@[simp] theorem State.capture_spad (s : State) (r : Reg) (w a b : Nat) : (s.capture r w a b).spad = s.spad := (s.near_refl.capture r w a b).spad
@[simp] theorem State.capture_spadPoison (s : State) (r : Reg) (w a b : Nat) : (s.capture r w a b).spadPoison = s.spadPoison := (s.near_refl.capture r w a b).spadPoison
@[simp] theorem State.capture_spadEcc (s : State) (r : Reg) (w a b : Nat) : (s.capture r w a b).spadEcc = s.spadEcc := (s.near_refl.capture r w a b).spadEcc
@[simp] theorem State.capture_spadLine (s : State) (r : Reg) (w a b : Nat) : (s.capture r w a b).spadLine = s.spadLine := (s.near_refl.capture r w a b).spadLine
@[simp] theorem State.capture_spadLineCe (s : State) (r : Reg) (w a b : Nat) : (s.capture r w a b).spadLineCe = s.spadLineCe := (s.near_refl.capture r w a b).spadLineCe
@[simp] theorem State.capture_marks (s : State) (r : Reg) (w a b : Nat) : (s.capture r w a b).marks = s.marks := (s.near_refl.capture r w a b).marks
@[simp] theorem State.capture_imem (s : State) (r : Reg) (w a b : Nat) : (s.capture r w a b).imem = s.imem := (s.near_refl.capture r w a b).imem
@[simp] theorem State.capture_imemEcc (s : State) (r : Reg) (w a b : Nat) : (s.capture r w a b).imemEcc = s.imemEcc := (s.near_refl.capture r w a b).imemEcc
@[simp] theorem State.capture_hbm (s : State) (r : Reg) (w a b : Nat) : (s.capture r w a b).hbm = s.hbm := (s.near_refl.capture r w a b).hbm
@[simp] theorem State.capture_hbmPoison (s : State) (r : Reg) (w a b : Nat) : (s.capture r w a b).hbmPoison = s.hbmPoison := (s.near_refl.capture r w a b).hbmPoison
@[simp] theorem State.capture_hbmEcc (s : State) (r : Reg) (w a b : Nat) : (s.capture r w a b).hbmEcc = s.hbmEcc := (s.near_refl.capture r w a b).hbmEcc
@[simp] theorem State.capture_fwBytes (s : State) (r : Reg) (w a b : Nat) : (s.capture r w a b).fwBytes = s.fwBytes := (s.near_refl.capture r w a b).fwBytes
@[simp] theorem State.capture_access (s : State) (r : Reg) (w a b : Nat) : (s.capture r w a b).access = s.access := (s.near_refl.capture r w a b).access
@[simp] theorem State.capture_sync (s : State) (r : Reg) (w a b : Nat) : (s.capture r w a b).sync = s.sync := (s.near_refl.capture r w a b).sync
@[simp] theorem State.capture_msgs (s : State) (r : Reg) (w a b : Nat) : (s.capture r w a b).msgs = s.msgs := (s.near_refl.capture r w a b).msgs
@[simp] theorem State.capture_ops (s : State) (r : Reg) (w a b : Nat) : (s.capture r w a b).ops = s.ops := (s.near_refl.capture r w a b).ops
@[simp] theorem State.capture_releasing (s : State) (r : Reg) (w a b : Nat) : (s.capture r w a b).releasing = s.releasing := (s.near_refl.capture r w a b).releasing
@[simp] theorem State.capture_nextOp (s : State) (r : Reg) (w a b : Nat) : (s.capture r w a b).nextOp = s.nextOp := (s.near_refl.capture r w a b).nextOp
@[simp] theorem State.capture_nodesUp (s : State) (r : Reg) (w a b : Nat) : (s.capture r w a b).nodesUp = s.nodesUp := (s.near_refl.capture r w a b).nodesUp
@[simp] theorem State.capture_net (s : State) (r : Reg) (w a b : Nat) : (s.capture r w a b).net = s.net := (s.near_refl.capture r w a b).net
@[simp] theorem State.capture_track (s : State) (r : Reg) (w a b : Nat) : (s.capture r w a b).track = s.track := (s.near_refl.capture r w a b).track
@[simp] theorem State.capture_combine (s : State) (r : Reg) (w a b : Nat) : (s.capture r w a b).combine = s.combine := (s.near_refl.capture r w a b).combine
@[simp] theorem State.capture_creditUsed (s : State) (r : Reg) (w a b : Nat) : (s.capture r w a b).creditUsed = s.creditUsed := (s.near_refl.capture r w a b).creditUsed
@[simp] theorem State.capture_creditBack (s : State) (r : Reg) (w a b : Nat) : (s.capture r w a b).creditBack = s.creditBack := (s.near_refl.capture r w a b).creditBack
@[simp] theorem State.capture_rimTurn (s : State) (r : Reg) (w a b : Nat) : (s.capture r w a b).rimTurn = s.rimTurn := (s.near_refl.capture r w a b).rimTurn
@[simp] theorem State.capture_idleSlots (s : State) (r : Reg) (w a b : Nat) : (s.capture r w a b).idleSlots = s.idleSlots := (s.near_refl.capture r w a b).idleSlots
@[simp] theorem State.capture_srtGen (s : State) (r : Reg) (w a b : Nat) : (s.capture r w a b).srtGen = s.srtGen := (s.near_refl.capture r w a b).srtGen
@[simp] theorem State.capture_hbmReqs (s : State) (r : Reg) (w a b : Nat) : (s.capture r w a b).hbmReqs = s.hbmReqs := (s.near_refl.capture r w a b).hbmReqs
@[simp] theorem State.capture_ports (s : State) (r : Reg) (w a b : Nat) : (s.capture r w a b).ports = s.ports := (s.near_refl.capture r w a b).ports
@[simp] theorem State.capture_fabric (s : State) (r : Reg) (w a b : Nat) : (s.capture r w a b).fabric = s.fabric := (s.near_refl.capture r w a b).fabric
@[simp] theorem State.capture_dies (s : State) (r : Reg) (w a b : Nat) : (s.capture r w a b).dies = s.dies := (s.near_refl.capture r w a b).dies
@[simp] theorem State.capture_parts (s : State) (r : Reg) (w a b : Nat) : (s.capture r w a b).parts = s.parts := (s.near_refl.capture r w a b).parts
@[simp] theorem State.capture_boot (s : State) (r : Reg) (w a b : Nat) : (s.capture r w a b).boot = s.boot := (s.near_refl.capture r w a b).boot
@[simp] theorem State.capture_power (s : State) (r : Reg) (w a b : Nat) : (s.capture r w a b).power = s.power := (s.near_refl.capture r w a b).power
@[simp] theorem State.capture_thermal (s : State) (r : Reg) (w a b : Nat) : (s.capture r w a b).thermal = s.thermal := (s.near_refl.capture r w a b).thermal
@[simp] theorem State.capture_mgmt (s : State) (r : Reg) (w a b : Nat) : (s.capture r w a b).mgmt = s.mgmt := (s.near_refl.capture r w a b).mgmt
@[simp] theorem State.capture_bridge (s : State) (r : Reg) (w a b : Nat) : (s.capture r w a b).bridge = s.bridge := (s.near_refl.capture r w a b).bridge
@[simp] theorem State.capture_pins (s : State) (r : Reg) (w a b : Nat) : (s.capture r w a b).pins = s.pins := (s.near_refl.capture r w a b).pins
@[simp] theorem State.capture_answer (s : State) (r : Reg) (w a b : Nat) : (s.capture r w a b).answer = s.answer := (s.near_refl.capture r w a b).answer
@[simp] theorem State.capture_free (s : State) (r : Reg) (w a b : Nat) : (s.capture r w a b).free = s.free := (s.near_refl.capture r w a b).free

@[simp] theorem State.captureWith_pending (s : State) (r : Reg) (w : Nat) (f : State → Nat → FaultRec) : (s.captureWith r w f).pending = s.pending := (s.near_refl.captureWith r w f).pending
@[simp] theorem State.captureWith_fuses (s : State) (r : Reg) (w : Nat) (f : State → Nat → FaultRec) : (s.captureWith r w f).fuses = s.fuses := (s.near_refl.captureWith r w f).fuses
@[simp] theorem State.captureWith_clk (s : State) (r : Reg) (w : Nat) (f : State → Nat → FaultRec) : (s.captureWith r w f).clk = s.clk := (s.near_refl.captureWith r w f).clk
@[simp] theorem State.captureWith_std (s : State) (r : Reg) (w : Nat) (f : State → Nat → FaultRec) : (s.captureWith r w f).std = s.std := (s.near_refl.captureWith r w f).std
@[simp] theorem State.captureWith_wcnt (s : State) (r : Reg) (w : Nat) (f : State → Nat → FaultRec) : (s.captureWith r w f).wcnt = s.wcnt := (s.near_refl.captureWith r w f).wcnt
@[simp] theorem State.captureWith_cores (s : State) (r : Reg) (w : Nat) (f : State → Nat → FaultRec) : (s.captureWith r w f).cores = s.cores := (s.near_refl.captureWith r w f).cores
@[simp] theorem State.captureWith_tiles (s : State) (r : Reg) (w : Nat) (f : State → Nat → FaultRec) : (s.captureWith r w f).tiles = s.tiles := (s.near_refl.captureWith r w f).tiles
@[simp] theorem State.captureWith_spad (s : State) (r : Reg) (w : Nat) (f : State → Nat → FaultRec) : (s.captureWith r w f).spad = s.spad := (s.near_refl.captureWith r w f).spad
@[simp] theorem State.captureWith_spadPoison (s : State) (r : Reg) (w : Nat) (f : State → Nat → FaultRec) : (s.captureWith r w f).spadPoison = s.spadPoison := (s.near_refl.captureWith r w f).spadPoison
@[simp] theorem State.captureWith_spadEcc (s : State) (r : Reg) (w : Nat) (f : State → Nat → FaultRec) : (s.captureWith r w f).spadEcc = s.spadEcc := (s.near_refl.captureWith r w f).spadEcc
@[simp] theorem State.captureWith_spadLine (s : State) (r : Reg) (w : Nat) (f : State → Nat → FaultRec) : (s.captureWith r w f).spadLine = s.spadLine := (s.near_refl.captureWith r w f).spadLine
@[simp] theorem State.captureWith_spadLineCe (s : State) (r : Reg) (w : Nat) (f : State → Nat → FaultRec) : (s.captureWith r w f).spadLineCe = s.spadLineCe := (s.near_refl.captureWith r w f).spadLineCe
@[simp] theorem State.captureWith_marks (s : State) (r : Reg) (w : Nat) (f : State → Nat → FaultRec) : (s.captureWith r w f).marks = s.marks := (s.near_refl.captureWith r w f).marks
@[simp] theorem State.captureWith_imem (s : State) (r : Reg) (w : Nat) (f : State → Nat → FaultRec) : (s.captureWith r w f).imem = s.imem := (s.near_refl.captureWith r w f).imem
@[simp] theorem State.captureWith_imemEcc (s : State) (r : Reg) (w : Nat) (f : State → Nat → FaultRec) : (s.captureWith r w f).imemEcc = s.imemEcc := (s.near_refl.captureWith r w f).imemEcc
@[simp] theorem State.captureWith_hbm (s : State) (r : Reg) (w : Nat) (f : State → Nat → FaultRec) : (s.captureWith r w f).hbm = s.hbm := (s.near_refl.captureWith r w f).hbm
@[simp] theorem State.captureWith_hbmPoison (s : State) (r : Reg) (w : Nat) (f : State → Nat → FaultRec) : (s.captureWith r w f).hbmPoison = s.hbmPoison := (s.near_refl.captureWith r w f).hbmPoison
@[simp] theorem State.captureWith_hbmEcc (s : State) (r : Reg) (w : Nat) (f : State → Nat → FaultRec) : (s.captureWith r w f).hbmEcc = s.hbmEcc := (s.near_refl.captureWith r w f).hbmEcc
@[simp] theorem State.captureWith_fwBytes (s : State) (r : Reg) (w : Nat) (f : State → Nat → FaultRec) : (s.captureWith r w f).fwBytes = s.fwBytes := (s.near_refl.captureWith r w f).fwBytes
@[simp] theorem State.captureWith_access (s : State) (r : Reg) (w : Nat) (f : State → Nat → FaultRec) : (s.captureWith r w f).access = s.access := (s.near_refl.captureWith r w f).access
@[simp] theorem State.captureWith_sync (s : State) (r : Reg) (w : Nat) (f : State → Nat → FaultRec) : (s.captureWith r w f).sync = s.sync := (s.near_refl.captureWith r w f).sync
@[simp] theorem State.captureWith_msgs (s : State) (r : Reg) (w : Nat) (f : State → Nat → FaultRec) : (s.captureWith r w f).msgs = s.msgs := (s.near_refl.captureWith r w f).msgs
@[simp] theorem State.captureWith_ops (s : State) (r : Reg) (w : Nat) (f : State → Nat → FaultRec) : (s.captureWith r w f).ops = s.ops := (s.near_refl.captureWith r w f).ops
@[simp] theorem State.captureWith_releasing (s : State) (r : Reg) (w : Nat) (f : State → Nat → FaultRec) : (s.captureWith r w f).releasing = s.releasing := (s.near_refl.captureWith r w f).releasing
@[simp] theorem State.captureWith_nextOp (s : State) (r : Reg) (w : Nat) (f : State → Nat → FaultRec) : (s.captureWith r w f).nextOp = s.nextOp := (s.near_refl.captureWith r w f).nextOp
@[simp] theorem State.captureWith_nodesUp (s : State) (r : Reg) (w : Nat) (f : State → Nat → FaultRec) : (s.captureWith r w f).nodesUp = s.nodesUp := (s.near_refl.captureWith r w f).nodesUp
@[simp] theorem State.captureWith_net (s : State) (r : Reg) (w : Nat) (f : State → Nat → FaultRec) : (s.captureWith r w f).net = s.net := (s.near_refl.captureWith r w f).net
@[simp] theorem State.captureWith_track (s : State) (r : Reg) (w : Nat) (f : State → Nat → FaultRec) : (s.captureWith r w f).track = s.track := (s.near_refl.captureWith r w f).track
@[simp] theorem State.captureWith_combine (s : State) (r : Reg) (w : Nat) (f : State → Nat → FaultRec) : (s.captureWith r w f).combine = s.combine := (s.near_refl.captureWith r w f).combine
@[simp] theorem State.captureWith_creditUsed (s : State) (r : Reg) (w : Nat) (f : State → Nat → FaultRec) : (s.captureWith r w f).creditUsed = s.creditUsed := (s.near_refl.captureWith r w f).creditUsed
@[simp] theorem State.captureWith_creditBack (s : State) (r : Reg) (w : Nat) (f : State → Nat → FaultRec) : (s.captureWith r w f).creditBack = s.creditBack := (s.near_refl.captureWith r w f).creditBack
@[simp] theorem State.captureWith_rimTurn (s : State) (r : Reg) (w : Nat) (f : State → Nat → FaultRec) : (s.captureWith r w f).rimTurn = s.rimTurn := (s.near_refl.captureWith r w f).rimTurn
@[simp] theorem State.captureWith_idleSlots (s : State) (r : Reg) (w : Nat) (f : State → Nat → FaultRec) : (s.captureWith r w f).idleSlots = s.idleSlots := (s.near_refl.captureWith r w f).idleSlots
@[simp] theorem State.captureWith_srtGen (s : State) (r : Reg) (w : Nat) (f : State → Nat → FaultRec) : (s.captureWith r w f).srtGen = s.srtGen := (s.near_refl.captureWith r w f).srtGen
@[simp] theorem State.captureWith_hbmReqs (s : State) (r : Reg) (w : Nat) (f : State → Nat → FaultRec) : (s.captureWith r w f).hbmReqs = s.hbmReqs := (s.near_refl.captureWith r w f).hbmReqs
@[simp] theorem State.captureWith_ports (s : State) (r : Reg) (w : Nat) (f : State → Nat → FaultRec) : (s.captureWith r w f).ports = s.ports := (s.near_refl.captureWith r w f).ports
@[simp] theorem State.captureWith_fabric (s : State) (r : Reg) (w : Nat) (f : State → Nat → FaultRec) : (s.captureWith r w f).fabric = s.fabric := (s.near_refl.captureWith r w f).fabric
@[simp] theorem State.captureWith_dies (s : State) (r : Reg) (w : Nat) (f : State → Nat → FaultRec) : (s.captureWith r w f).dies = s.dies := (s.near_refl.captureWith r w f).dies
@[simp] theorem State.captureWith_parts (s : State) (r : Reg) (w : Nat) (f : State → Nat → FaultRec) : (s.captureWith r w f).parts = s.parts := (s.near_refl.captureWith r w f).parts
@[simp] theorem State.captureWith_boot (s : State) (r : Reg) (w : Nat) (f : State → Nat → FaultRec) : (s.captureWith r w f).boot = s.boot := (s.near_refl.captureWith r w f).boot
@[simp] theorem State.captureWith_power (s : State) (r : Reg) (w : Nat) (f : State → Nat → FaultRec) : (s.captureWith r w f).power = s.power := (s.near_refl.captureWith r w f).power
@[simp] theorem State.captureWith_thermal (s : State) (r : Reg) (w : Nat) (f : State → Nat → FaultRec) : (s.captureWith r w f).thermal = s.thermal := (s.near_refl.captureWith r w f).thermal
@[simp] theorem State.captureWith_mgmt (s : State) (r : Reg) (w : Nat) (f : State → Nat → FaultRec) : (s.captureWith r w f).mgmt = s.mgmt := (s.near_refl.captureWith r w f).mgmt
@[simp] theorem State.captureWith_bridge (s : State) (r : Reg) (w : Nat) (f : State → Nat → FaultRec) : (s.captureWith r w f).bridge = s.bridge := (s.near_refl.captureWith r w f).bridge
@[simp] theorem State.captureWith_pins (s : State) (r : Reg) (w : Nat) (f : State → Nat → FaultRec) : (s.captureWith r w f).pins = s.pins := (s.near_refl.captureWith r w f).pins
@[simp] theorem State.captureWith_answer (s : State) (r : Reg) (w : Nat) (f : State → Nat → FaultRec) : (s.captureWith r w f).answer = s.answer := (s.near_refl.captureWith r w f).answer
@[simp] theorem State.captureWith_free (s : State) (r : Reg) (w : Nat) (f : State → Nat → FaultRec) : (s.captureWith r w f).free = s.free := (s.near_refl.captureWith r w f).free

@[simp] theorem State.perf_pending (s : State) (p c i n : Nat) : (s.perf p c i n).pending = s.pending := (s.near_refl.perf p c i n).pending
@[simp] theorem State.perf_fuses (s : State) (p c i n : Nat) : (s.perf p c i n).fuses = s.fuses := (s.near_refl.perf p c i n).fuses
@[simp] theorem State.perf_clk (s : State) (p c i n : Nat) : (s.perf p c i n).clk = s.clk := (s.near_refl.perf p c i n).clk
@[simp] theorem State.perf_std (s : State) (p c i n : Nat) : (s.perf p c i n).std = s.std := (s.near_refl.perf p c i n).std
@[simp] theorem State.perf_wcnt (s : State) (p c i n : Nat) : (s.perf p c i n).wcnt = s.wcnt := (s.near_refl.perf p c i n).wcnt
@[simp] theorem State.perf_cores (s : State) (p c i n : Nat) : (s.perf p c i n).cores = s.cores := (s.near_refl.perf p c i n).cores
@[simp] theorem State.perf_tiles (s : State) (p c i n : Nat) : (s.perf p c i n).tiles = s.tiles := (s.near_refl.perf p c i n).tiles
@[simp] theorem State.perf_spad (s : State) (p c i n : Nat) : (s.perf p c i n).spad = s.spad := (s.near_refl.perf p c i n).spad
@[simp] theorem State.perf_spadPoison (s : State) (p c i n : Nat) : (s.perf p c i n).spadPoison = s.spadPoison := (s.near_refl.perf p c i n).spadPoison
@[simp] theorem State.perf_spadEcc (s : State) (p c i n : Nat) : (s.perf p c i n).spadEcc = s.spadEcc := (s.near_refl.perf p c i n).spadEcc
@[simp] theorem State.perf_spadLine (s : State) (p c i n : Nat) : (s.perf p c i n).spadLine = s.spadLine := (s.near_refl.perf p c i n).spadLine
@[simp] theorem State.perf_spadLineCe (s : State) (p c i n : Nat) : (s.perf p c i n).spadLineCe = s.spadLineCe := (s.near_refl.perf p c i n).spadLineCe
@[simp] theorem State.perf_marks (s : State) (p c i n : Nat) : (s.perf p c i n).marks = s.marks := (s.near_refl.perf p c i n).marks
@[simp] theorem State.perf_imem (s : State) (p c i n : Nat) : (s.perf p c i n).imem = s.imem := (s.near_refl.perf p c i n).imem
@[simp] theorem State.perf_imemEcc (s : State) (p c i n : Nat) : (s.perf p c i n).imemEcc = s.imemEcc := (s.near_refl.perf p c i n).imemEcc
@[simp] theorem State.perf_hbm (s : State) (p c i n : Nat) : (s.perf p c i n).hbm = s.hbm := (s.near_refl.perf p c i n).hbm
@[simp] theorem State.perf_hbmPoison (s : State) (p c i n : Nat) : (s.perf p c i n).hbmPoison = s.hbmPoison := (s.near_refl.perf p c i n).hbmPoison
@[simp] theorem State.perf_hbmEcc (s : State) (p c i n : Nat) : (s.perf p c i n).hbmEcc = s.hbmEcc := (s.near_refl.perf p c i n).hbmEcc
@[simp] theorem State.perf_fwBytes (s : State) (p c i n : Nat) : (s.perf p c i n).fwBytes = s.fwBytes := (s.near_refl.perf p c i n).fwBytes
@[simp] theorem State.perf_access (s : State) (p c i n : Nat) : (s.perf p c i n).access = s.access := (s.near_refl.perf p c i n).access
@[simp] theorem State.perf_sync (s : State) (p c i n : Nat) : (s.perf p c i n).sync = s.sync := (s.near_refl.perf p c i n).sync
@[simp] theorem State.perf_msgs (s : State) (p c i n : Nat) : (s.perf p c i n).msgs = s.msgs := (s.near_refl.perf p c i n).msgs
@[simp] theorem State.perf_ops (s : State) (p c i n : Nat) : (s.perf p c i n).ops = s.ops := (s.near_refl.perf p c i n).ops
@[simp] theorem State.perf_releasing (s : State) (p c i n : Nat) : (s.perf p c i n).releasing = s.releasing := (s.near_refl.perf p c i n).releasing
@[simp] theorem State.perf_nextOp (s : State) (p c i n : Nat) : (s.perf p c i n).nextOp = s.nextOp := (s.near_refl.perf p c i n).nextOp
@[simp] theorem State.perf_nodesUp (s : State) (p c i n : Nat) : (s.perf p c i n).nodesUp = s.nodesUp := (s.near_refl.perf p c i n).nodesUp
@[simp] theorem State.perf_net (s : State) (p c i n : Nat) : (s.perf p c i n).net = s.net := (s.near_refl.perf p c i n).net
@[simp] theorem State.perf_track (s : State) (p c i n : Nat) : (s.perf p c i n).track = s.track := (s.near_refl.perf p c i n).track
@[simp] theorem State.perf_combine (s : State) (p c i n : Nat) : (s.perf p c i n).combine = s.combine := (s.near_refl.perf p c i n).combine
@[simp] theorem State.perf_creditUsed (s : State) (p c i n : Nat) : (s.perf p c i n).creditUsed = s.creditUsed := (s.near_refl.perf p c i n).creditUsed
@[simp] theorem State.perf_creditBack (s : State) (p c i n : Nat) : (s.perf p c i n).creditBack = s.creditBack := (s.near_refl.perf p c i n).creditBack
@[simp] theorem State.perf_rimTurn (s : State) (p c i n : Nat) : (s.perf p c i n).rimTurn = s.rimTurn := (s.near_refl.perf p c i n).rimTurn
@[simp] theorem State.perf_idleSlots (s : State) (p c i n : Nat) : (s.perf p c i n).idleSlots = s.idleSlots := (s.near_refl.perf p c i n).idleSlots
@[simp] theorem State.perf_srtGen (s : State) (p c i n : Nat) : (s.perf p c i n).srtGen = s.srtGen := (s.near_refl.perf p c i n).srtGen
@[simp] theorem State.perf_hbmReqs (s : State) (p c i n : Nat) : (s.perf p c i n).hbmReqs = s.hbmReqs := (s.near_refl.perf p c i n).hbmReqs
@[simp] theorem State.perf_ports (s : State) (p c i n : Nat) : (s.perf p c i n).ports = s.ports := (s.near_refl.perf p c i n).ports
@[simp] theorem State.perf_fabric (s : State) (p c i n : Nat) : (s.perf p c i n).fabric = s.fabric := (s.near_refl.perf p c i n).fabric
@[simp] theorem State.perf_dies (s : State) (p c i n : Nat) : (s.perf p c i n).dies = s.dies := (s.near_refl.perf p c i n).dies
@[simp] theorem State.perf_parts (s : State) (p c i n : Nat) : (s.perf p c i n).parts = s.parts := (s.near_refl.perf p c i n).parts
@[simp] theorem State.perf_boot (s : State) (p c i n : Nat) : (s.perf p c i n).boot = s.boot := (s.near_refl.perf p c i n).boot
@[simp] theorem State.perf_power (s : State) (p c i n : Nat) : (s.perf p c i n).power = s.power := (s.near_refl.perf p c i n).power
@[simp] theorem State.perf_thermal (s : State) (p c i n : Nat) : (s.perf p c i n).thermal = s.thermal := (s.near_refl.perf p c i n).thermal
@[simp] theorem State.perf_mgmt (s : State) (p c i n : Nat) : (s.perf p c i n).mgmt = s.mgmt := (s.near_refl.perf p c i n).mgmt
@[simp] theorem State.perf_bridge (s : State) (p c i n : Nat) : (s.perf p c i n).bridge = s.bridge := (s.near_refl.perf p c i n).bridge
@[simp] theorem State.perf_pins (s : State) (p c i n : Nat) : (s.perf p c i n).pins = s.pins := (s.near_refl.perf p c i n).pins
@[simp] theorem State.perf_answer (s : State) (p c i n : Nat) : (s.perf p c i n).answer = s.answer := (s.near_refl.perf p c i n).answer
@[simp] theorem State.perf_free (s : State) (p c i n : Nat) : (s.perf p c i n).free = s.free := (s.near_refl.perf p c i n).free

@[simp] theorem State.log_pending (s : State) (y l : Nat) (b : List W64) : (s.log y l b).pending = s.pending := by rw [State.log_frame]
@[simp] theorem State.log_fuses (s : State) (y l : Nat) (b : List W64) : (s.log y l b).fuses = s.fuses := by rw [State.log_frame]
@[simp] theorem State.log_clk (s : State) (y l : Nat) (b : List W64) : (s.log y l b).clk = s.clk := by rw [State.log_frame]
@[simp] theorem State.log_std (s : State) (y l : Nat) (b : List W64) : (s.log y l b).std = s.std := by rw [State.log_frame]
@[simp] theorem State.log_wcnt (s : State) (y l : Nat) (b : List W64) : (s.log y l b).wcnt = s.wcnt := by rw [State.log_frame]
@[simp] theorem State.log_cores (s : State) (y l : Nat) (b : List W64) : (s.log y l b).cores = s.cores := by rw [State.log_frame]
@[simp] theorem State.log_tiles (s : State) (y l : Nat) (b : List W64) : (s.log y l b).tiles = s.tiles := by rw [State.log_frame]
@[simp] theorem State.log_spad (s : State) (y l : Nat) (b : List W64) : (s.log y l b).spad = s.spad := by rw [State.log_frame]
@[simp] theorem State.log_spadPoison (s : State) (y l : Nat) (b : List W64) : (s.log y l b).spadPoison = s.spadPoison := by rw [State.log_frame]
@[simp] theorem State.log_spadEcc (s : State) (y l : Nat) (b : List W64) : (s.log y l b).spadEcc = s.spadEcc := by rw [State.log_frame]
@[simp] theorem State.log_spadLine (s : State) (y l : Nat) (b : List W64) : (s.log y l b).spadLine = s.spadLine := by rw [State.log_frame]
@[simp] theorem State.log_spadLineCe (s : State) (y l : Nat) (b : List W64) : (s.log y l b).spadLineCe = s.spadLineCe := by rw [State.log_frame]
@[simp] theorem State.log_marks (s : State) (y l : Nat) (b : List W64) : (s.log y l b).marks = s.marks := by rw [State.log_frame]
@[simp] theorem State.log_imem (s : State) (y l : Nat) (b : List W64) : (s.log y l b).imem = s.imem := by rw [State.log_frame]
@[simp] theorem State.log_imemEcc (s : State) (y l : Nat) (b : List W64) : (s.log y l b).imemEcc = s.imemEcc := by rw [State.log_frame]
@[simp] theorem State.log_hbm (s : State) (y l : Nat) (b : List W64) : (s.log y l b).hbm = s.hbm := by rw [State.log_frame]
@[simp] theorem State.log_hbmPoison (s : State) (y l : Nat) (b : List W64) : (s.log y l b).hbmPoison = s.hbmPoison := by rw [State.log_frame]
@[simp] theorem State.log_hbmEcc (s : State) (y l : Nat) (b : List W64) : (s.log y l b).hbmEcc = s.hbmEcc := by rw [State.log_frame]
@[simp] theorem State.log_fwBytes (s : State) (y l : Nat) (b : List W64) : (s.log y l b).fwBytes = s.fwBytes := by rw [State.log_frame]
@[simp] theorem State.log_access (s : State) (y l : Nat) (b : List W64) : (s.log y l b).access = s.access := by rw [State.log_frame]
@[simp] theorem State.log_sync (s : State) (y l : Nat) (b : List W64) : (s.log y l b).sync = s.sync := by rw [State.log_frame]
@[simp] theorem State.log_msgs (s : State) (y l : Nat) (b : List W64) : (s.log y l b).msgs = s.msgs := by rw [State.log_frame]
@[simp] theorem State.log_ops (s : State) (y l : Nat) (b : List W64) : (s.log y l b).ops = s.ops := by rw [State.log_frame]
@[simp] theorem State.log_releasing (s : State) (y l : Nat) (b : List W64) : (s.log y l b).releasing = s.releasing := by rw [State.log_frame]
@[simp] theorem State.log_nextOp (s : State) (y l : Nat) (b : List W64) : (s.log y l b).nextOp = s.nextOp := by rw [State.log_frame]
@[simp] theorem State.log_nodesUp (s : State) (y l : Nat) (b : List W64) : (s.log y l b).nodesUp = s.nodesUp := by rw [State.log_frame]
@[simp] theorem State.log_net (s : State) (y l : Nat) (b : List W64) : (s.log y l b).net = s.net := by rw [State.log_frame]
@[simp] theorem State.log_track (s : State) (y l : Nat) (b : List W64) : (s.log y l b).track = s.track := by rw [State.log_frame]
@[simp] theorem State.log_combine (s : State) (y l : Nat) (b : List W64) : (s.log y l b).combine = s.combine := by rw [State.log_frame]
@[simp] theorem State.log_creditUsed (s : State) (y l : Nat) (b : List W64) : (s.log y l b).creditUsed = s.creditUsed := by rw [State.log_frame]
@[simp] theorem State.log_creditBack (s : State) (y l : Nat) (b : List W64) : (s.log y l b).creditBack = s.creditBack := by rw [State.log_frame]
@[simp] theorem State.log_rimTurn (s : State) (y l : Nat) (b : List W64) : (s.log y l b).rimTurn = s.rimTurn := by rw [State.log_frame]
@[simp] theorem State.log_idleSlots (s : State) (y l : Nat) (b : List W64) : (s.log y l b).idleSlots = s.idleSlots := by rw [State.log_frame]
@[simp] theorem State.log_srtGen (s : State) (y l : Nat) (b : List W64) : (s.log y l b).srtGen = s.srtGen := by rw [State.log_frame]
@[simp] theorem State.log_hbmReqs (s : State) (y l : Nat) (b : List W64) : (s.log y l b).hbmReqs = s.hbmReqs := by rw [State.log_frame]
@[simp] theorem State.log_ports (s : State) (y l : Nat) (b : List W64) : (s.log y l b).ports = s.ports := by rw [State.log_frame]
@[simp] theorem State.log_fabric (s : State) (y l : Nat) (b : List W64) : (s.log y l b).fabric = s.fabric := by rw [State.log_frame]
@[simp] theorem State.log_dies (s : State) (y l : Nat) (b : List W64) : (s.log y l b).dies = s.dies := by rw [State.log_frame]
@[simp] theorem State.log_parts (s : State) (y l : Nat) (b : List W64) : (s.log y l b).parts = s.parts := by rw [State.log_frame]
@[simp] theorem State.log_boot (s : State) (y l : Nat) (b : List W64) : (s.log y l b).boot = s.boot := by rw [State.log_frame]
@[simp] theorem State.log_power (s : State) (y l : Nat) (b : List W64) : (s.log y l b).power = s.power := by rw [State.log_frame]
@[simp] theorem State.log_thermal (s : State) (y l : Nat) (b : List W64) : (s.log y l b).thermal = s.thermal := by rw [State.log_frame]
@[simp] theorem State.log_bridge (s : State) (y l : Nat) (b : List W64) : (s.log y l b).bridge = s.bridge := by rw [State.log_frame]
@[simp] theorem State.log_pins (s : State) (y l : Nat) (b : List W64) : (s.log y l b).pins = s.pins := by rw [State.log_frame]
@[simp] theorem State.log_answer (s : State) (y l : Nat) (b : List W64) : (s.log y l b).answer = s.answer := by rw [State.log_frame]
@[simp] theorem State.log_free (s : State) (y l : Nat) (b : List W64) : (s.log y l b).free = s.free := by rw [State.log_frame]

/-! ## Registers and fields -/

theorem State.rd_lt (s : State) (r : Reg) : s.rd r < 2 ^ 64 := (SMap.get r.rst s.csr r.addr).isLt

@[simp] theorem State.rd_wr_same (s : State) (r : Reg) (v : Nat) : (s.wr r v).rd r = v % 2 ^ 64 := by
  simp [State.rd, State.wr]

theorem State.rd_wr_ne (s : State) {r q : Reg} (v : Nat) (h : q.addr ≠ r.addr) : (s.wr r v).rd q = s.rd q := by
  simp [State.rd, State.wr, SMap.get_put_ne _ _ _ _ h]

/-- A register is a function of the control-space words alone. -/
theorem State.rd_congr {s t : State} (h : t.csr = s.csr) (r : Reg) : t.rd r = s.rd r := by simp [State.rd, h]

theorem State.fld_congr {s t : State} (h : t.csr = s.csr) (f : Field) : t.fld f = s.fld f := by
  simp [State.fld, State.rd_congr h]

theorem State.flag_congr {s t : State} (h : t.csr = s.csr) (f : Field) : t.flag f = s.flag f := by
  simp [State.flag, State.fld_congr h]

theorem State.fld_lt (s : State) (f : Field) : s.fld f < 2 ^ f.len := bitsOf_lt _ _ _

/-- A field that has been set reads what was written, cut to its width. -/
theorem State.fld_setFld_same (s : State) {f : Field} (v : Nat) (h : f.lo + f.len ≤ 64) :
    (s.setFld f v).fld f = v % 2 ^ f.len := by
  unfold State.fld State.setFld
  rw [State.rd_wr_same, Nat.mod_eq_of_lt (setBitsOf_lt (s.rd_lt _) h), bitsOf_setBitsOf_same]

/-- A field of another register reads as before. -/
theorem State.fld_setFld_other (s : State) {f g : Field} (v : Nat) (h : g.reg.addr ≠ f.reg.addr) :
    (s.setFld f v).fld g = s.fld g := by
  unfold State.fld State.setFld
  rw [State.rd_wr_ne _ _ h]

/-- A field of the same register apart from the one set reads as before. -/
theorem State.fld_setFld_apart (s : State) {f g : Field} (v : Nat) (hr : g.reg = f.reg) (hw : f.lo + f.len ≤ 64)
    (h : g.lo + g.len ≤ f.lo ∨ f.lo + f.len ≤ g.lo) : (s.setFld f v).fld g = s.fld g := by
  unfold State.fld State.setFld
  rw [hr, State.rd_wr_same, Nat.mod_eq_of_lt (setBitsOf_lt (s.rd_lt _) hw), bitsOf_setBitsOf_ne _ _ h]

/-! ## Entries of the state's maps -/

@[simp] theorem State.core_setCore_same (s : State) (k : Nat) (c : Core) : (s.setCore k c).core k = c := by
  simp [State.core, State.setCore]
theorem State.core_setCore_ne (s : State) {k j : Nat} (c : Core) (h : j ≠ k) : (s.setCore k c).core j = s.core j := by
  simp [State.core, State.setCore, SMap.get_put_ne _ _ _ _ h]
@[simp] theorem State.core_modCore_same (s : State) (k : Nat) (f : Core → Core) : (s.modCore k f).core k = f (s.core k) := by
  simp [State.modCore]
theorem State.core_modCore_ne (s : State) {k j : Nat} (f : Core → Core) (h : j ≠ k) :
    (s.modCore k f).core j = s.core j := State.core_setCore_ne s _ h
theorem State.core_congr {s t : State} (h : t.cores = s.cores) (k : Nat) : t.core k = s.core k := by simp [State.core, h]

@[simp] theorem State.tile_modTile_same (s : State) (p : Nat) (f : Tile → Tile) : (s.modTile p f).tile p = f (s.tile p) := by
  simp [State.tile, State.modTile]
theorem State.tile_modTile_ne (s : State) {p q : Nat} (f : Tile → Tile) (h : q ≠ p) :
    (s.modTile p f).tile q = s.tile q := by
  simp [State.tile, State.modTile, SMap.get_put_ne _ _ _ _ h]
theorem State.tile_congr {s t : State} (h : t.tiles = s.tiles) (p : Nat) : t.tile p = s.tile p := by simp [State.tile, h]

@[simp] theorem State.port_modPort_same (s : State) (p : Nat) (f : Port → Port) : (s.modPort p f).port p = f (s.port p) := by
  simp [State.port, State.modPort]
theorem State.port_modPort_ne (s : State) {p q : Nat} (f : Port → Port) (h : q ≠ p) :
    (s.modPort p f).port q = s.port q := by
  simp [State.port, State.modPort, SMap.get_put_ne _ _ _ _ h]
theorem State.port_congr {s t : State} (h : t.ports = s.ports) (p : Nat) : t.port p = s.port p := by simp [State.port, h]

@[simp] theorem State.die_modDie_same (s : State) (m : Nat) (f : LDie → LDie) : (s.modDie m f).die m = f (s.die m) := by
  simp [State.die, State.modDie]
@[simp] theorem State.part_modPart_same (s : State) (p : Nat) (f : Part → Part) : (s.modPart p f).part p = f (s.part p) := by
  simp [State.part, State.modPart]
theorem State.part_modPart_ne (s : State) {p q : Nat} (f : Part → Part) (h : q ≠ p) :
    (s.modPart p f).part q = s.part q := by
  simp [State.part, State.modPart, SMap.get_put_ne _ _ _ _ h]

/-! ## Time -/

theorem Clocks.forward_ref_le (opp : Nat) (c : Clocks) (n : Nat) : c.ref ≤ (c.forward opp n).ref := by
  unfold Clocks.forward; split
  · exact Nat.le_refl _
  · exact Nat.le_add_right _ _

theorem Clocks.forward_cyc (opp : Nat) (c : Clocks) (n : Nat) : (c.forward opp n).cyc = max c.cyc n := by
  unfold Clocks.forward; split
  · rename_i h; exact (Nat.max_eq_left h).symm
  · rename_i h; exact (Nat.max_eq_right (Nat.le_of_lt (Nat.lt_of_not_le h))).symm

theorem Clocks.forwardRef_ref_le (opp : Nat) (c : Clocks) (r : Nat) : c.ref ≤ (c.forwardRef opp r).ref := by
  unfold Clocks.forwardRef; split
  · exact Nat.le_refl _
  · exact Nat.le_trans (Clocks.forward_ref_le _ _ _) (Nat.le_max_left _ _)

/-- Time moved to a reference count is at least that count. -/
theorem Clocks.forwardRef_reaches (opp : Nat) (c : Clocks) (r : Nat) : r ≤ (c.forwardRef opp r).ref := by
  unfold Clocks.forwardRef; split
  · assumption
  · exact Nat.le_max_right _ _

theorem State.now_atRef (s : State) (r : Nat) : r ≤ (s.atRef r).now := Clocks.forwardRef_reaches _ _ _

/-- Time moved to a local cycle is at least that cycle. -/
theorem State.cycle_atCycle (s : State) (g n : Nat) : n ≤ (s.atCycle g n).cycle g := by
  have h : (s.atCycle g n).cycle g =
      (s.clk.forward s.opp (n + SMap.get 0 s.clk.lag g)).cyc - SMap.get 0 (s.clk.forward s.opp (n + SMap.get 0 s.clk.lag g)).lag g := rfl
  have hl : (s.clk.forward s.opp (n + SMap.get 0 s.clk.lag g)).lag = s.clk.lag := by
    unfold Clocks.forward; split <;> rfl
  rw [h, hl, Clocks.forward_cyc]; omega

/-! ## Memory -/

theorem Mem.byte_setByte_same (m : Mem) (a : Nat) (b : Byte) : Mem.byte (m.setByte a b) a = b := by
  simp [Mem.byte, Mem.setByte]
theorem Mem.byte_setByte_ne (m : Mem) {a c : Nat} (b : Byte) (h : c ≠ a) : Mem.byte (m.setByte a b) c = m.byte c := by
  simp [Mem.byte, Mem.setByte, SMap.get_put_ne _ _ _ _ h]

/-- A write leaves every byte outside it. -/
theorem Mem.byte_write_outside (n : Nat) : ∀ (m : Mem) (a v c : Nat), (c < a ∨ a + n ≤ c) → (Mem.write m a n v).byte c = m.byte c := by
  induction n with
  | zero => intro m a v c _; rfl
  | succ n ih =>
    intro m a v c h
    simp only [Mem.write]
    rw [ih _ _ _ _ (by omega), Mem.byte_setByte_ne _ _ (by omega)]

/-- A read of what a write has just stored gives its low bytes. -/
theorem Mem.read_write (n : Nat) : ∀ (m : Mem) (a v : Nat), (Mem.write m a n v).read a n = v % 256 ^ n := by
  induction n with
  | zero => intro m a v; simp [Mem.read, Nat.mod_one]
  | succ n ih =>
    intro m a v
    simp only [Mem.write, Mem.read]
    rw [ih, Mem.byte_write_outside n _ _ _ _ (Or.inl (Nat.lt_succ_self a)), Mem.byte_setByte_same]
    have h : v % 256 ^ (n + 1) = v % 256 + 256 * (v / 256 % 256 ^ n) := by
      rw [Nat.pow_succ, Nat.mul_comm, Nat.mod_mul]
    rw [h]; rfl

theorem Mem.wf_setByte (m : Mem) (a : Nat) (b : Byte) (h : m.wf = true) : (m.setByte a b).wf = true :=
  SMap.wf_put 0 m a b h
theorem Mem.wf_write (n : Nat) : ∀ (m : Mem) (a v : Nat), m.wf = true → (Mem.write m a n v).wf = true := by
  induction n with
  | zero => intro m a v h; exact h
  | succ n ih => intro m a v h; exact ih _ _ _ (Mem.wf_setByte m a _ h)
theorem Mem.wf_clear (m : Mem) (lo hi : Nat) (h : m.wf = true) : (m.clear lo hi).wf = true :=
  SMap.wf_filter _ m _ none h
theorem Mem.byte_clear (m : Mem) (lo hi a : Nat) :
    (m.clear lo hi).byte a = if lo ≤ a ∧ a < hi then 0 else m.byte a := by
  unfold Mem.byte Mem.clear
  rw [SMap.get_filter (0 : Byte) m (fun k => decide (k < lo) || decide (hi ≤ k)) a]
  by_cases h : lo ≤ a ∧ a < hi
  · have h' : ¬ (decide (a < lo) || decide (hi ≤ a)) = true := by simp; omega
    rw [if_neg h', if_pos h]
  · have h' : (decide (a < lo) || decide (hi ≤ a)) = true := by simp; omega
    rw [if_pos h', if_neg h]

end Sys2Proof.Machine
end

