-- ==== Sys2Proof/Laws/Answer.lean ====
section
/-! SUPPORT. What the functions through which meanings answer give, and how they move time. -/

namespace Sys2Proof.Machine

/-! ## Time -/

/-- Moving the clocks to a cycle changes the cycle count, the reference count and its fraction only. -/
theorem Clocks.forward_frame (opp : Nat) (c : Clocks) (n : Nat) :
    c.forward opp n = { c with cyc := (c.forward opp n).cyc, ref := (c.forward opp n).ref, frac := (c.forward opp n).frac } := by
  unfold Clocks.forward
  split <;> rfl

theorem Clocks.forwardRef_frame (opp : Nat) (c : Clocks) (r : Nat) :
    c.forwardRef opp r
      = { c with cyc := (c.forwardRef opp r).cyc, ref := (c.forwardRef opp r).ref, frac := (c.forwardRef opp r).frac } := by
  unfold Clocks.forwardRef
  split
  · rfl
  · dsimp only
    rw [Clocks.forward_frame]

/-! ## Answers -/

theorem answer_eq (s t : State) : answer s t = .next { t with pending := s.pending, clk := s.clk, fuses := s.fuses } := rfl
theorem answerClk_eq (s t : State) : answerClk s t = .next { t with pending := s.pending, fuses := s.fuses } := rfl
theorem idle_eq (s : State) : idle s = .next s := rfl

theorem when_true {b : Bool} (h : b = true) (s : State) (f : State → State) : when b s f = answer s (f s) := if_pos h
theorem when_false {b : Bool} (h : b = false) (s : State) (f : State → State) : when b s f = .next s := by
  subst h; rfl

/-- What a control-space write through `allowed` can do: nothing at an absent resource, its effect, or one decode fault. -/
theorem allowed_cases (a : Agent) (row : WrRow) (addr : Nat) (s : State) (f : State → State) :
    (s.mute a addr = true → allowed a row addr s f = .next s) ∧
    (s.mute a addr = false → s.mayWrite a row = true → allowed a row addr s f = answer s (f s)) ∧
    (s.mute a addr = false → s.mayWrite a row = false → allowed a row addr s f = answer s (s.decodeFault true addr)) := by
  refine ⟨?_, ?_, ?_⟩ <;> intro h <;> simp +contextual [allowed, h, idle]

/-- The record of a device source is always sent: no device source is fused off. -/
theorem State.raise_dev (s : State) (k c d : Nat) (h : 0x3510 ≤ srcDev k) :
    s.raise (srcDev k) c d = { s with faults := { s.faults with flying := s.faults.flying ++ [s.record (srcDev k) c d] } } := by
  have e : s.sourceAbsent (srcDev k) = false := by
    unfold State.sourceAbsent
    rw [if_neg (by omega), if_neg (by omega), if_neg (by omega), if_neg (by omega)]
  have r : (s.record (srcDev k) c d).source = srcDev k := rfl
  unfold State.raise State.send
  rw [r, e]
  rfl

/-- An answer of a decode fault is one record more, and nothing else. -/
theorem answer_decodeFault (s : State) (w : Bool) (addr : Nat) :
    answer s (s.decodeFault w addr) = .next { s with faults := { s.faults with
      flying := s.faults.flying ++ [s.record (srcDev 9) (if w then 2 else 1) (addr % 2 ^ 40)] } } := by
  unfold State.decodeFault
  rw [s.raise_dev 9 _ _ (by decide)]
  rfl

end Sys2Proof.Machine
end

