-- ==== Sys2Proof/Laws/Core.lean ====
section
/-! SUPPORT. What the issue of a slot does besides the slot's own effect: the bundle's bookkeeping of the core that
issues, and nothing else. -/

namespace Sys2Proof.Machine

/-- Registers, streams, results on their way, posted operations and feeder jobs of two cores agree. -/
structure Core.SameData (c d : Core) : Prop where
  s : d.s = c.s
  p : d.p = c.p
  v : d.v = c.v
  acc : d.acc = c.acc
  wb : d.wb = c.wb
  t : d.t = c.t
  pend : d.pend = c.pend
  posted : d.posted = c.posted
  nextId : d.nextId = c.nextId
  feedA : d.feedA = c.feedA
  feedW : d.feedW = c.feedW
  mt : d.mt = c.mt

theorem Core.SameData.refl (c : Core) : Core.SameData c c := ⟨rfl, rfl, rfl, rfl, rfl, rfl, rfl, rfl, rfl, rfl, rfl, rfl⟩

theorem Core.SameData.trans {c d e : Core} (h : c.SameData d) (k : d.SameData e) : c.SameData e :=
  ⟨k.s.trans h.s, k.p.trans h.p, k.v.trans h.v, k.acc.trans h.acc, k.wb.trans h.wb, k.t.trans h.t, k.pend.trans h.pend,
    k.posted.trans h.posted, k.nextId.trans h.nextId, k.feedA.trans h.feedA, k.feedW.trans h.feedW, k.mt.trans h.mt⟩

theorem Core.done_data (c : Core) (skip : Bool) (idle t : Nat) : Core.SameData c (c.done skip idle t) := by
  unfold Core.done
  cases c.target <;> exact ⟨rfl, rfl, rfl, rfl, rfl, rfl, rfl, rfl, rfl, rfl, rfl, rfl⟩

/-- All that the end of a bundle changes besides its core: PERF0, a kernel call's count, and their records. -/
theorem State.Near.kernelLeft {s t : State} (h : s.Near t) (pos core pc : Nat) (g : Option (BitVec 11)) :
    s.Near (t.kernelLeft pos core pc g) := by
  unfold State.kernelLeft
  cases g with
  | none => exact h
  | some p => exact .ite _ (.ite _ (h.wr _ _) (.raise (h.wr _ _) _ _ _)) h

/-- The end of a bundle: the core's bookkeeping, control-space words and fault records; nothing else. -/
theorem State.bundleDone_frame (s : State) (pos core idle t : Nat) :
    s.bundleDone pos core idle t = { s with cores := (s.bundleDone pos core idle t).cores
                                            csr := (s.bundleDone pos core idle t).csr
                                            faults := (s.bundleDone pos core idle t).faults } := by
  have h : s.Near ((s.perf pos core 0 1).kernelLeft pos core (s.core (coreKey pos core)).pc.toNat
      (if decide (opcOf (s.bundle pos core (s.core (coreKey pos core)).pc.toNat).s = 0x33) then none
        else (s.core (coreKey pos core)).target)) := .kernelLeft (s.near_refl.perf _ _ _ _) _ _ _ _
  unfold State.bundleDone
  unfold State.Near at h
  simp only [State.setCore]
  rw [h]

theorem State.bundleDone_core_ne (s : State) (pos core idle t : Nat) {j : Nat} (h : j ≠ coreKey pos core) :
    (s.bundleDone pos core idle t).core j = s.core j := by
  unfold State.bundleDone
  simp only
  rw [State.core_setCore_ne _ _ h]
  exact State.core_congr (State.Near.cores (.kernelLeft (s.near_refl.perf _ _ _ _) _ _ _ _)) j

theorem State.bundleDone_data (s : State) (pos core idle t : Nat) :
    Core.SameData (s.core (coreKey pos core)) ((s.bundleDone pos core idle t).core (coreKey pos core)) := by
  unfold State.bundleDone
  simp only [State.core_setCore_same]
  cases (s.core (coreKey pos core)).ending with
  | none => exact Core.done_data _ _ _ _
  | some st =>
    have h := Core.done_data (s.core (coreKey pos core))
      (decide (opcOf (s.bundle pos core (s.core (coreKey pos core)).pc.toNat).s = 0x33)) idle t
    exact ⟨h.s, h.p, h.v, h.acc, h.wb, h.t, h.pend, h.posted, h.nextId, h.feedA, h.feedW, h.mt⟩

/-- A slot marked performed: nothing but its core, control-space words and fault records changes. -/
theorem State.slotDone_frame (s : State) (pos core k t : Nat) :
    s.slotDone pos core k t = { s with cores := (s.slotDone pos core k t).cores
                                       csr := (s.slotDone pos core k t).csr
                                       faults := (s.slotDone pos core k t).faults } := by
  unfold State.slotDone
  simp only
  split
  · rw [State.bundleDone_frame]; rfl
  · rfl

theorem State.slotDone_core_ne (s : State) (pos core k t : Nat) {j : Nat} (h : j ≠ coreKey pos core) :
    (s.slotDone pos core k t).core j = s.core j := by
  unfold State.slotDone
  simp only
  split
  · rw [State.bundleDone_core_ne _ _ _ _ _ h, State.core_setCore_ne _ _ h]
  · rw [State.core_setCore_ne _ _ h]

/-- The core whose slot is marked performed keeps its registers, streams, results on their way and operations. -/
theorem State.slotDone_data (s : State) (pos core k t : Nat) :
    Core.SameData (s.core (coreKey pos core)) ((s.slotDone pos core k t).core (coreKey pos core)) := by
  unfold State.slotDone
  simp only
  split
  · refine Core.SameData.trans ?_ (State.bundleDone_data _ _ _ _ _)
    rw [State.core_setCore_same]
    exact ⟨rfl, rfl, rfl, rfl, rfl, rfl, rfl, rfl, rfl, rfl, rfl, rfl⟩
  · rw [State.core_setCore_same]
    exact ⟨rfl, rfl, rfl, rfl, rfl, rfl, rfl, rfl, rfl, rfl, rfl, rfl⟩

/-- Fetching a bundle changes control-space words and fault records alone. -/
theorem State.near_fetched (s : State) (pos core : Nat) : s.Near (s.fetched pos core) := by
  unfold State.fetched State.fetchCount
  exact .ite _ (.ite _ s.near_refl (s.near_refl.count _ _)) s.near_refl

@[simp] theorem State.fetched_core (s : State) (pos core j : Nat) : (s.fetched pos core).core j = s.core j :=
  State.core_congr (s.near_fetched pos core).cores j

/-- Where no instruction-store word has an error, fetching changes nothing. -/
theorem State.fetched_clean (s : State) (pos core : Nat) (h : s.imemEcc = []) : s.fetched pos core = s := by
  unfold State.fetched State.fetchCount
  rw [h]
  simp [SMap.get]

/-- A slot command that runs answers its slot's effect, marked performed. -/
theorem slotCmd_run {id : CoreId} {k opc : Nat} {s : State} (ans : Nat → Nat → State → (State → State) → Out)
    (f : Nat → Nat → State → State) (hw : id.wf = true) (h : s.meet id.pos id.core k opc = .run) :
    slotCmd id k opc ans s f = ans (groveOf id.pos) (s.core id.key).nextIssue s (fun s' =>
      (f ((s.bundle id.pos id.core (s.core id.key).pc.toNat).slot k) (s.core id.key).nextIssue
        (s'.fetched id.pos id.core)).slotDone id.pos id.core k (s.core id.key).nextIssue) := by
  unfold slotCmd
  simp only [hw, h]
  rfl

end Sys2Proof.Machine
end

