-- ==== Sys2Proof/Laws/Exec.lean ====
section
/-! SUPPORT. Each arm of `exec` as an equation. -/

namespace Sys2Proof.Machine

theorem exec_sNop (s : State) : ∀ c, exec (.sNop c) s = execSNop c s := fun _ => rfl
theorem exec_sAdd (s : State) : ∀ c, exec (.sAdd c) s = execSAdd c s := fun _ => rfl
theorem exec_sSub (s : State) : ∀ c, exec (.sSub c) s = execSSub c s := fun _ => rfl
theorem exec_sAnd (s : State) : ∀ c, exec (.sAnd c) s = execSAnd c s := fun _ => rfl
theorem exec_sOr (s : State) : ∀ c, exec (.sOr c) s = execSOr c s := fun _ => rfl
theorem exec_sXor (s : State) : ∀ c, exec (.sXor c) s = execSXor c s := fun _ => rfl
theorem exec_sSll (s : State) : ∀ c, exec (.sSll c) s = execSSll c s := fun _ => rfl
theorem exec_sSrl (s : State) : ∀ c, exec (.sSrl c) s = execSSrl c s := fun _ => rfl
theorem exec_sSra (s : State) : ∀ c, exec (.sSra c) s = execSSra c s := fun _ => rfl
theorem exec_sMul (s : State) : ∀ c, exec (.sMul c) s = execSMul c s := fun _ => rfl
theorem exec_sMulhu (s : State) : ∀ c, exec (.sMulhu c) s = execSMulhu c s := fun _ => rfl
theorem exec_sMin (s : State) : ∀ c, exec (.sMin c) s = execSMin c s := fun _ => rfl
theorem exec_sMax (s : State) : ∀ c, exec (.sMax c) s = execSMax c s := fun _ => rfl
theorem exec_sMinu (s : State) : ∀ c, exec (.sMinu c) s = execSMinu c s := fun _ => rfl
theorem exec_sMaxu (s : State) : ∀ c, exec (.sMaxu c) s = execSMaxu c s := fun _ => rfl
theorem exec_sAddi (s : State) : ∀ c, exec (.sAddi c) s = execSAddi c s := fun _ => rfl
theorem exec_sAndi (s : State) : ∀ c, exec (.sAndi c) s = execSAndi c s := fun _ => rfl
theorem exec_sOri (s : State) : ∀ c, exec (.sOri c) s = execSOri c s := fun _ => rfl
theorem exec_sXori (s : State) : ∀ c, exec (.sXori c) s = execSXori c s := fun _ => rfl
theorem exec_sSlli (s : State) : ∀ c, exec (.sSlli c) s = execSSlli c s := fun _ => rfl
theorem exec_sSrli (s : State) : ∀ c, exec (.sSrli c) s = execSSrli c s := fun _ => rfl
theorem exec_sSrai (s : State) : ∀ c, exec (.sSrai c) s = execSSrai c s := fun _ => rfl
theorem exec_sLui (s : State) : ∀ c, exec (.sLui c) s = execSLui c s := fun _ => rfl
theorem exec_sCmpEq (s : State) : ∀ c, exec (.sCmpEq c) s = execSCmpEq c s := fun _ => rfl
theorem exec_sCmpNe (s : State) : ∀ c, exec (.sCmpNe c) s = execSCmpNe c s := fun _ => rfl
theorem exec_sCmpLt (s : State) : ∀ c, exec (.sCmpLt c) s = execSCmpLt c s := fun _ => rfl
theorem exec_sCmpLtu (s : State) : ∀ c, exec (.sCmpLtu c) s = execSCmpLtu c s := fun _ => rfl
theorem exec_sCmpiEq (s : State) : ∀ c, exec (.sCmpiEq c) s = execSCmpiEq c s := fun _ => rfl
theorem exec_sCmpiLt (s : State) : ∀ c, exec (.sCmpiLt c) s = execSCmpiLt c s := fun _ => rfl
theorem exec_sPand (s : State) : ∀ c, exec (.sPand c) s = execSPand c s := fun _ => rfl
theorem exec_sPor (s : State) : ∀ c, exec (.sPor c) s = execSPor c s := fun _ => rfl
theorem exec_sPxor (s : State) : ∀ c, exec (.sPxor c) s = execSPxor c s := fun _ => rfl
theorem exec_sPnot (s : State) : ∀ c, exec (.sPnot c) s = execSPnot c s := fun _ => rfl
theorem exec_sBr (s : State) : ∀ c, exec (.sBr c) s = execSBr c s := fun _ => rfl
theorem exec_sJr (s : State) : ∀ c, exec (.sJr c) s = execSJr c s := fun _ => rfl
theorem exec_sCall (s : State) : ∀ c, exec (.sCall c) s = execSCall c s := fun _ => rfl
theorem exec_sLoop (s : State) : ∀ c, exec (.sLoop c) s = execSLoop c s := fun _ => rfl
theorem exec_sEnd (s : State) : ∀ c, exec (.sEnd c) s = execSEnd c s := fun _ => rfl
theorem exec_sTrap (s : State) : ∀ c, exec (.sTrap c) s = execSTrap c s := fun _ => rfl
theorem exec_sTret (s : State) : ∀ c, exec (.sTret c) s = execSTret c s := fun _ => rfl
theorem exec_sMfcr (s : State) : ∀ c, exec (.sMfcr c) s = execSMfcr c s := fun _ => rfl
theorem exec_sMtcr (s : State) : ∀ c, exec (.sMtcr c) s = execSMtcr c s := fun _ => rfl
theorem exec_vNop (s : State) : ∀ c, exec (.vNop c) s = execVNop c s := fun _ => rfl
theorem exec_vAdd (s : State) : ∀ c, exec (.vAdd c) s = execVAdd c s := fun _ => rfl
theorem exec_vSub (s : State) : ∀ c, exec (.vSub c) s = execVSub c s := fun _ => rfl
theorem exec_vMul (s : State) : ∀ c, exec (.vMul c) s = execVMul c s := fun _ => rfl
theorem exec_vFma (s : State) : ∀ c, exec (.vFma c) s = execVFma c s := fun _ => rfl
theorem exec_vMin (s : State) : ∀ c, exec (.vMin c) s = execVMin c s := fun _ => rfl
theorem exec_vMax (s : State) : ∀ c, exec (.vMax c) s = execVMax c s := fun _ => rfl
theorem exec_vAbs (s : State) : ∀ c, exec (.vAbs c) s = execVAbs c s := fun _ => rfl
theorem exec_vNeg (s : State) : ∀ c, exec (.vNeg c) s = execVNeg c s := fun _ => rfl
theorem exec_vAnd (s : State) : ∀ c, exec (.vAnd c) s = execVAnd c s := fun _ => rfl
theorem exec_vOr (s : State) : ∀ c, exec (.vOr c) s = execVOr c s := fun _ => rfl
theorem exec_vXor (s : State) : ∀ c, exec (.vXor c) s = execVXor c s := fun _ => rfl
theorem exec_vShl (s : State) : ∀ c, exec (.vShl c) s = execVShl c s := fun _ => rfl
theorem exec_vShr (s : State) : ∀ c, exec (.vShr c) s = execVShr c s := fun _ => rfl
theorem exec_vSra (s : State) : ∀ c, exec (.vSra c) s = execVSra c s := fun _ => rfl
theorem exec_vCmpEq (s : State) : ∀ c, exec (.vCmpEq c) s = execVCmpEq c s := fun _ => rfl
theorem exec_vCmpLt (s : State) : ∀ c, exec (.vCmpLt c) s = execVCmpLt c s := fun _ => rfl
theorem exec_vCmpLe (s : State) : ∀ c, exec (.vCmpLe c) s = execVCmpLe c s := fun _ => rfl
theorem exec_vExp (s : State) : ∀ c, exec (.vExp c) s = execVExp c s := fun _ => rfl
theorem exec_vLog (s : State) : ∀ c, exec (.vLog c) s = execVLog c s := fun _ => rfl
theorem exec_vRcp (s : State) : ∀ c, exec (.vRcp c) s = execVRcp c s := fun _ => rfl
theorem exec_vRsqrt (s : State) : ∀ c, exec (.vRsqrt c) s = execVRsqrt c s := fun _ => rfl
theorem exec_vTanh (s : State) : ∀ c, exec (.vTanh c) s = execVTanh c s := fun _ => rfl
theorem exec_vSigm (s : State) : ∀ c, exec (.vSigm c) s = execVSigm c s := fun _ => rfl
theorem exec_vCvt (s : State) : ∀ c, exec (.vCvt c) s = execVCvt c s := fun _ => rfl
theorem exec_vUnpk (s : State) : ∀ c, exec (.vUnpk c) s = execVUnpk c s := fun _ => rfl
theorem exec_vBcast (s : State) : ∀ c, exec (.vBcast c) s = execVBcast c s := fun _ => rfl
theorem exec_vExt (s : State) : ∀ c, exec (.vExt c) s = execVExt c s := fun _ => rfl
theorem exec_vShuf (s : State) : ∀ c, exec (.vShuf c) s = execVShuf c s := fun _ => rfl
theorem exec_vRsum (s : State) : ∀ c, exec (.vRsum c) s = execVRsum c s := fun _ => rfl
theorem exec_vRmax (s : State) : ∀ c, exec (.vRmax c) s = execVRmax c s := fun _ => rfl
theorem exec_vRand (s : State) : ∀ c, exec (.vRand c) s = execVRand c s := fun _ => rfl
theorem exec_vMov (s : State) : ∀ c, exec (.vMov c) s = execVMov c s := fun _ => rfl
theorem exec_vIota (s : State) : ∀ c, exec (.vIota c) s = execVIota c s := fun _ => rfl
theorem exec_mNop (s : State) : ∀ c, exec (.mNop c) s = execMNop c s := fun _ => rfl
theorem exec_mLdw (s : State) : ∀ c, exec (.mLdw c) s = execMLdw c s := fun _ => rfl
theorem exec_mMmul (s : State) : ∀ c, exec (.mMmul c) s = execMMmul c s := fun _ => rfl
theorem exec_mRd (s : State) : ∀ c, exec (.mRd c) s = execMRd c s := fun _ => rfl
theorem exec_mWr (s : State) : ∀ c, exec (.mWr c) s = execMWr c s := fun _ => rfl
theorem exec_mCvt (s : State) : ∀ c, exec (.mCvt c) s = execMCvt c s := fun _ => rfl
theorem exec_mZero (s : State) : ∀ c, exec (.mZero c) s = execMZero c s := fun _ => rfl
theorem exec_tNop (s : State) : ∀ c, exec (.tNop c) s = execTNop c s := fun _ => rfl
theorem exec_tSet (s : State) : ∀ c, exec (.tSet c) s = execTSet c s := fun _ => rfl
theorem exec_tLds (s : State) : ∀ c, exec (.tLds c) s = execTLds c s := fun _ => rfl
theorem exec_tSts (s : State) : ∀ c, exec (.tSts c) s = execTSts c s := fun _ => rfl
theorem exec_tLdv (s : State) : ∀ c, exec (.tLdv c) s = execTLdv c s := fun _ => rfl
theorem exec_tStv (s : State) : ∀ c, exec (.tStv c) s = execTStv c s := fun _ => rfl
theorem exec_tRd (s : State) : ∀ c, exec (.tRd c) s = execTRd c s := fun _ => rfl
theorem exec_tWr (s : State) : ∀ c, exec (.tWr c) s = execTWr c s := fun _ => rfl
theorem exec_tSend (s : State) : ∀ c, exec (.tSend c) s = execTSend c s := fun _ => rfl
theorem exec_tRlu (s : State) : ∀ c, exec (.tRlu c) s = execTRlu c s := fun _ => rfl
theorem exec_tSendr (s : State) : ∀ c, exec (.tSendr c) s = execTSendr c s := fun _ => rfl
theorem exec_tAdd (s : State) : ∀ c, exec (.tAdd c) s = execTAdd c s := fun _ => rfl
theorem exec_tWait (s : State) : ∀ c, exec (.tWait c) s = execTWait c s := fun _ => rfl
theorem exec_tFill (s : State) : ∀ c, exec (.tFill c) s = execTFill c s := fun _ => rfl
theorem exec_tCopy (s : State) : ∀ c, exec (.tCopy c) s = execTCopy c s := fun _ => rfl
theorem exec_tMov (s : State) : ∀ c, exec (.tMov c) s = execTMov c s := fun _ => rfl
theorem exec_tSgat (s : State) : ∀ c, exec (.tSgat c) s = execTSgat c s := fun _ => rfl
theorem exec_tSscat (s : State) : ∀ c, exec (.tSscat c) s = execTSscat c s := fun _ => rfl
theorem exec_tWopen (s : State) : ∀ c, exec (.tWopen c) s = execTWopen c s := fun _ => rfl
theorem exec_tWclose (s : State) : ∀ c, exec (.tWclose c) s = execTWclose c s := fun _ => rfl
theorem exec_tFence (s : State) : ∀ c, exec (.tFence c) s = execTFence c s := fun _ => rfl
theorem exec_tSendred (s : State) : ∀ c, exec (.tSendred c) s = execTSendred c s := fun _ => rfl
theorem exec_registerWriteback (s : State) : ∀ c, exec (.registerWriteback c) s = execRegisterWriteback c s := fun _ => rfl
theorem exec_sequentialIssueOverrun (s : State) : ∀ c, exec (.sequentialIssueOverrun c) s = execSequentialIssueOverrun c s := fun _ => rfl
theorem exec_stallResume (s : State) : ∀ c, exec (.stallResume c) s = execStallResume c s := fun _ => rfl
theorem exec_coreRun (s : State) : ∀ a c, exec (.coreRun a c) s = execCoreRun a c s := fun _ _ => rfl
theorem exec_coreHalt (s : State) : ∀ a c, exec (.coreHalt a c) s = execCoreHalt a c s := fun _ _ => rfl
theorem exec_controlWrite (s : State) : ∀ a addr value bytes, exec (.controlWrite a addr value bytes) s = execControlWrite a addr value bytes s := fun _ _ _ _ => rfl
theorem exec_wheelTurnAccess (s : State) : ∀ pos agent, exec (.wheelTurnAccess pos agent) s = execWheelTurnAccess pos agent s := fun _ _ => rfl
theorem exec_feederFetch (s : State) : ∀ c weights, exec (.feederFetch c weights) s = execFeederFetch c weights s := fun _ _ => rfl
theorem exec_poisonMarking (s : State) : ∀ pos, exec (.poisonMarking pos) s = execPoisonMarking pos s := fun _ => rfl
theorem exec_mseFill (s : State) : ∀ pos, exec (.mseFill pos) s = execMseFill pos s := fun _ => rfl
theorem exec_mseCopy (s : State) : ∀ pos, exec (.mseCopy pos) s = execMseCopy pos s := fun _ => rfl
theorem exec_scrubPass (s : State) : ∀ pos, exec (.scrubPass pos) s = execScrubPass pos s := fun _ => rfl
theorem exec_windowOpenEffect (s : State) : ∀ pos, exec (.windowOpenEffect pos) s = execWindowOpenEffect pos s := fun _ => rfl
theorem exec_windowCloseEffect (s : State) : ∀ pos, exec (.windowCloseEffect pos) s = execWindowCloseEffect pos s := fun _ => rfl
theorem exec_controlWindowOpen (s : State) : ∀ a pos n hi, exec (.controlWindowOpen a pos n hi) s = execControlWindowOpen a pos n hi s := fun _ _ _ _ => rfl
theorem exec_controlWindowClose (s : State) : ∀ a pos n hi, exec (.controlWindowClose a pos n hi) s = execControlWindowClose a pos n hi s := fun _ _ _ _ => rfl
theorem exec_spadClearStart (s : State) : ∀ a pos, exec (.spadClearStart a pos) s = execSpadClearStart a pos s := fun _ _ => rfl
theorem exec_spadClearDone (s : State) : ∀ pos, exec (.spadClearDone pos) s = execSpadClearDone pos s := fun _ => rfl
theorem exec_reachEntryWrite (s : State) : ∀ a pos d value, exec (.reachEntryWrite a pos d value) s = execReachEntryWrite a pos d value s := fun _ _ _ _ => rfl
theorem exec_captureRearm (s : State) : ∀ a addr, exec (.captureRearm a addr) s = execCaptureRearm a addr s := fun _ _ => rfl
theorem exec_directLoadReturn (s : State) : ∀ c, exec (.directLoadReturn c) s = execDirectLoadReturn c s := fun _ => rfl
theorem exec_syncAddApply (s : State) : ∀ obj count, exec (.syncAddApply obj count) s = execSyncAddApply obj count s := fun _ _ => rfl
theorem exec_syncSetApply (s : State) : ∀ inputs, exec (.syncSetApply inputs) s = execSyncSetApply inputs s := fun _ => rfl
theorem exec_syncNack (s : State) : ∀ n, exec (.syncNack n) s = execSyncNack n s := fun _ => rfl
theorem exec_syncAddResend (s : State) : ∀ n, exec (.syncAddResend n) s = execSyncAddResend n s := fun _ => rfl
theorem exec_waitRelease (s : State) : ∀ c, exec (.waitRelease c) s = execWaitRelease c s := fun _ => rfl
theorem exec_syncCheckpointWrite (s : State) : ∀ pos, exec (.syncCheckpointWrite pos) s = execSyncCheckpointWrite pos s := fun _ => rfl
theorem exec_syncCmdAdd (s : State) : ∀ a obj value, exec (.syncCmdAdd a obj value) s = execSyncCmdAdd a obj value s := fun _ _ _ => rfl
theorem exec_syncCmdSet (s : State) : ∀ a obj value, exec (.syncCmdSet a obj value) s = execSyncCmdSet a obj value s := fun _ _ _ => rfl
theorem exec_syncCmdClearFlags (s : State) : ∀ a obj value, exec (.syncCmdClearFlags a obj value) s = execSyncCmdClearFlags a obj value s := fun _ _ _ => rfl
theorem exec_seqWatchArm (s : State) : ∀ a w value, exec (.seqWatchArm a w value) s = execSeqWatchArm a w value s := fun _ _ _ => rfl
theorem exec_seqWatchDisarm (s : State) : ∀ a w value, exec (.seqWatchDisarm a w value) s = execSeqWatchDisarm a w value s := fun _ _ _ => rfl
theorem exec_activate (s : State) : ∀ a slot, exec (.activate a slot) s = execActivate a slot s := fun _ _ => rfl
theorem exec_hold (s : State) : ∀ a slot, exec (.hold a slot) s = execHold a slot s := fun _ _ => rfl
theorem exec_resume (s : State) : ∀ a slot, exec (.resume a slot) s = execResume a slot s := fun _ _ => rfl
theorem exec_release (s : State) : ∀ a slot, exec (.release a slot) s = execRelease a slot s := fun _ _ => rfl
theorem exec_releaseComplete (s : State) : ∀ slot, exec (.releaseComplete slot) s = execReleaseComplete slot s := fun _ => rfl
theorem exec_setlen (s : State) : ∀ a slot value, exec (.setlen a slot value) s = execSetlen a slot value s := fun _ _ _ => rfl
theorem exec_mark (s : State) : ∀ a slot, exec (.mark a slot) s = execMark a slot s := fun _ _ => rfl
theorem exec_rewind (s : State) : ∀ a slot, exec (.rewind a slot) s = execRewind a slot s := fun _ _ => rfl
theorem exec_seqOpDecide (s : State) : ∀ n, exec (.seqOpDecide n) s = execSeqOpDecide n s := fun _ => rfl
theorem exec_seqOpWaitDecide (s : State) : ∀ slot, exec (.seqOpWaitDecide slot) s = execSeqOpWaitDecide slot s := fun _ => rfl
theorem exec_gatherComplete (s : State) : ∀ n, exec (.gatherComplete n) s = execGatherComplete n s := fun _ => rfl
theorem exec_scatterComplete (s : State) : ∀ n, exec (.scatterComplete n) s = execScatterComplete n s := fun _ => rfl
theorem exec_packetRoute (s : State) : ∀ n e, exec (.packetRoute n e) s = execPacketRoute n e s := fun _ _ => rfl
theorem exec_packetDelivery (s : State) : ∀ n, exec (.packetDelivery n) s = execPacketDelivery n s := fun _ => rfl
theorem exec_sourceAnswer (s : State) : ∀ n, exec (.sourceAnswer n) s = execSourceAnswer n s := fun _ => rfl
theorem exec_heldPacketResend (s : State) : ∀ pos tag, exec (.heldPacketResend pos tag) s = execHeldPacketResend pos tag s := fun _ _ => rfl
theorem exec_holdLimitExpiry (s : State) : ∀ pos tag, exec (.holdLimitExpiry pos tag) s = execHoldLimitExpiry pos tag s := fun _ _ => rfl
theorem exec_ackTimeout (s : State) : ∀ pos tag, exec (.ackTimeout pos tag) s = execAckTimeout pos tag s := fun _ _ => rfl
theorem exec_stallReport (s : State) : ∀ n, exec (.stallReport n) s = execStallReport n s := fun _ => rfl
theorem exec_creditReturn (s : State) : ∀ link cls, exec (.creditReturn link cls) s = execCreditReturn link cls s := fun _ _ => rfl
theorem exec_redAbsorb (s : State) : ∀ n, exec (.redAbsorb n) s = execRedAbsorb n s := fun _ => rfl
theorem exec_cnetMessage (s : State) : ∀ n e node, exec (.cnetMessage n e node) s = execCnetMessage n e node s := fun _ _ _ => rfl
theorem exec_hbmRequest (s : State) : ∀ n, exec (.hbmRequest n) s = execHbmRequest n s := fun _ => rfl
theorem exec_hbmWriteAck (s : State) : ∀ k n, exec (.hbmWriteAck k n) s = execHbmWriteAck k n s := fun _ _ => rfl
theorem exec_hbmReadData (s : State) : ∀ k n, exec (.hbmReadData k n) s = execHbmReadData k n s := fun _ _ => rfl
theorem exec_hbmScrubPass (s : State) : ∀ k, exec (.hbmScrubPass k) s = execHbmScrubPass k s := fun _ => rfl
theorem exec_hbmTempPoll (s : State) : ∀ k temp, exec (.hbmTempPoll k temp) s = execHbmTempPoll k temp s := fun _ _ => rfl
theorem exec_hbmStackFail (s : State) : ∀ k, exec (.hbmStackFail k) s = execHbmStackFail k s := fun _ => rfl
theorem exec_hbmClearStart (s : State) : ∀ a k value, exec (.hbmClearStart a k value) s = execHbmClearStart a k value s := fun _ _ _ => rfl
theorem exec_hbmClearDone (s : State) : ∀ k, exec (.hbmClearDone k) s = execHbmClearDone k s := fun _ => rfl
theorem exec_hbmGrantWrite (s : State) : ∀ a k p value, exec (.hbmGrantWrite a k p value) s = execHbmGrantWrite a k p value s := fun _ _ _ _ => rfl
theorem exec_moverStart (s : State) : ∀ pos engine, exec (.moverStart pos engine) s = execMoverStart pos engine s := fun _ _ => rfl
theorem exec_moverPacketIssue (s : State) : ∀ pos engine, exec (.moverPacketIssue pos engine) s = execMoverPacketIssue pos engine s := fun _ _ => rfl
theorem exec_moverComplete (s : State) : ∀ pos engine, exec (.moverComplete pos engine) s = execMoverComplete pos engine s := fun _ _ => rfl
theorem exec_mgmtqGo (s : State) : ∀ a pos, exec (.mgmtqGo a pos) s = execMgmtqGo a pos s := fun _ _ => rfl
theorem exec_moverQueueEntryGrant (s : State) : ∀ pos, exec (.moverQueueEntryGrant pos) s = execMoverQueueEntryGrant pos s := fun _ => rfl
theorem exec_portSignalDetect (s : State) : ∀ p, exec (.portSignalDetect p) s = execPortSignalDetect p s := fun _ => rfl
theorem exec_trainingComplete (s : State) : ∀ p lanesOk, exec (.trainingComplete p lanesOk) s = execTrainingComplete p lanesOk s := fun _ _ => rfl
theorem exec_helloSend (s : State) : ∀ p, exec (.helloSend p) s = execHelloSend p s := fun _ => rfl
theorem exec_hello (s : State) : ∀ p u, exec (.hello p u) s = execHello p u s := fun _ _ => rfl
theorem exec_helloTimeout (s : State) : ∀ p, exec (.helloTimeout p) s = execHelloTimeout p s := fun _ => rfl
theorem exec_downRetrainTimer (s : State) : ∀ p, exec (.downRetrainTimer p) s = execDownRetrainTimer p s := fun _ => rfl
theorem exec_codewordReceive (s : State) : ∀ p header correctable symbols units, exec (.codewordReceive p header correctable symbols units) s = execCodewordReceive p header correctable symbols units s := fun _ _ _ _ _ => rfl
theorem exec_replay (s : State) : ∀ p u, exec (.replay p u) s = execReplay p u s := fun _ _ => rfl
theorem exec_replayTimeout (s : State) : ∀ p, exec (.replayTimeout p) s = execReplayTimeout p s := fun _ => rfl
theorem exec_resync (s : State) : ∀ p u, exec (.resync p u) s = execResync p u s := fun _ _ => rfl
theorem exec_retrainTimeout (s : State) : ∀ p, exec (.retrainTimeout p) s = execRetrainTimeout p s := fun _ => rfl
theorem exec_credit (s : State) : ∀ p u, exec (.credit p u) s = execCredit p u s := fun _ _ => rfl
theorem exec_creditSend (s : State) : ∀ p, exec (.creditSend p) s = execCreditSend p s := fun _ => rfl
theorem exec_fabricOrigin (s : State) : ∀ n, exec (.fabricOrigin n) s = execFabricOrigin n s := fun _ => rfl
theorem exec_fabricOriginAnswer (s : State) : ∀ n, exec (.fabricOriginAnswer n) s = execFabricOriginAnswer n s := fun _ => rfl
theorem exec_mack (s : State) : ∀ n, exec (.mack n) s = execMack n s := fun _ => rfl
theorem exec_fabricArrival (s : State) : ∀ n, exec (.fabricArrival n) s = execFabricArrival n s := fun _ => rfl
theorem exec_fabricArrivalAnswer (s : State) : ∀ n, exec (.fabricArrivalAnswer n) s = execFabricArrivalAnswer n s := fun _ => rfl
theorem exec_fabricArrivalResend (s : State) : ∀ die tag, exec (.fabricArrivalResend die tag) s = execFabricArrivalResend die tag s := fun _ _ => rfl
theorem exec_fabricArrivalHoldLimit (s : State) : ∀ die tag, exec (.fabricArrivalHoldLimit die tag) s = execFabricArrivalHoldLimit die tag s := fun _ _ => rfl
theorem exec_fabricTransit (s : State) : ∀ n, exec (.fabricTransit n) s = execFabricTransit n s := fun _ => rfl
theorem exec_mwrite (s : State) : ∀ n, exec (.mwrite n) s = execMwrite n s := fun _ => rfl
theorem exec_mergeAnswer (s : State) : ∀ n, exec (.mergeAnswer n) s = execMergeAnswer n s := fun _ => rfl
theorem exec_mergeTimeout (s : State) : ∀ die n, exec (.mergeTimeout die n) s = execMergeTimeout die n s := fun _ _ => rfl
theorem exec_collectiveEgress (s : State) : ∀ n, exec (.collectiveEgress n) s = execCollectiveEgress n s := fun _ => rfl
theorem exec_collectiveIngress (s : State) : ∀ n, exec (.collectiveIngress n) s = execCollectiveIngress n s := fun _ => rfl
theorem exec_ethFrameReceive (s : State) : ∀ p addresses type payload fcs, exec (.ethFrameReceive p addresses type payload fcs) s = execEthFrameReceive p addresses type payload fcs s := fun _ _ _ _ _ => rfl
theorem exec_ethFrameTransmit (s : State) : ∀ p, exec (.ethFrameTransmit p) s = execEthFrameTransmit p s := fun _ => rfl
theorem exec_ethRingTailWrite (s : State) : ∀ a p value, exec (.ethRingTailWrite a p value) s = execEthRingTailWrite a p value s := fun _ _ _ => rfl
theorem exec_portEnable (s : State) : ∀ a p, exec (.portEnable a p) s = execPortEnable a p s := fun _ _ => rfl
theorem exec_portDisable (s : State) : ∀ a p, exec (.portDisable a p) s = execPortDisable a p s := fun _ _ => rfl
theorem exec_portModeSelect (s : State) : ∀ a p ethernet, exec (.portModeSelect a p ethernet) s = execPortModeSelect a p ethernet s := fun _ _ _ => rfl
theorem exec_portFence (s : State) : ∀ a p fence, exec (.portFence a p fence) s = execPortFence a p fence s := fun _ _ _ => rfl
theorem exec_create (s : State) : ∀ a p, exec (.create a p) s = execCreate a p s := fun _ _ => rfl
theorem exec_load (s : State) : ∀ a p, exec (.load a p) s = execLoad a p s := fun _ _ => rfl
theorem exec_start (s : State) : ∀ a p, exec (.start a p) s = execStart a p s := fun _ _ => rfl
theorem exec_reset (s : State) : ∀ a p, exec (.reset a p) s = execReset a p s := fun _ _ => rfl
theorem exec_teardown (s : State) : ∀ a p, exec (.teardown a p) s = execTeardown a p s := fun _ _ => rfl
theorem exec_update (s : State) : ∀ a p, exec (.update a p) s = execUpdate a p s := fun _ _ => rfl
theorem exec_groveAnnounceAck (s : State) : ∀ g, exec (.groveAnnounceAck g) s = execGroveAnnounceAck g s := fun _ => rfl
theorem exec_scheduledRun (s : State) : ∀ p, exec (.scheduledRun p) s = execScheduledRun p s := fun _ => rfl
theorem exec_coverageRecompute (s : State) : ∀ p, exec (.coverageRecompute p) s = execCoverageRecompute p s := fun _ => rfl
theorem exec_faultRecordArrival (s : State) : ∀ n, exec (.faultRecordArrival n) s = execFaultRecordArrival n s := fun _ => rfl
theorem exec_domainActionJob (s : State) : exec .domainActionJob s = execDomainActionJob s := rfl
theorem exec_tileRecovery (s : State) : exec .tileRecovery s = execTileRecovery s := rfl
theorem exec_domainActionGrove (s : State) : exec .domainActionGrove s = execDomainActionGrove s := rfl
theorem exec_domainActionPartition (s : State) : exec .domainActionPartition s = execDomainActionPartition s := rfl
theorem exec_domainActionDevice (s : State) : exec .domainActionDevice s = execDomainActionDevice s := rfl
theorem exec_policyRewind (s : State) : exec .policyRewind s = execPolicyRewind s := rfl
theorem exec_fltRewind (s : State) : ∀ a p, exec (.fltRewind a p) s = execFltRewind a p s := fun _ _ => rfl
theorem exec_declare (s : State) : ∀ a pos, exec (.declare a pos) s = execDeclare a pos s := fun _ _ => rfl
theorem exec_fltAckWrite (s : State) : ∀ a value, exec (.fltAckWrite a value) s = execFltAckWrite a value s := fun _ _ => rfl
theorem exec_force (s : State) : ∀ a source, exec (.force a source) s = execForce a source s := fun _ _ => rfl
theorem exec_heartbeatPoll (s : State) : ∀ unanswered, exec (.heartbeatPoll unanswered) s = execHeartbeatPoll unanswered s := fun _ => rfl
theorem exec_heartbeatIncrement (s : State) : ∀ pos, exec (.heartbeatIncrement pos) s = execHeartbeatIncrement pos s := fun _ => rfl
theorem exec_waitLimit (s : State) : ∀ c, exec (.waitLimit c) s = execWaitLimit c s := fun _ => rfl
theorem exec_healthUpdate (s : State) : exec .healthUpdate s = execHealthUpdate s := rfl
theorem exec_ackDeadlineExpiry (s : State) : exec .ackDeadlineExpiry s = execAckDeadlineExpiry s := rfl
theorem exec_watchdogExpiry (s : State) : exec .watchdogExpiry s = execWatchdogExpiry s := rfl
theorem exec_managementRestart (s : State) : exec .managementRestart s = execManagementRestart s := rfl
theorem exec_panelResetRelease (s : State) : ∀ refPresent, exec (.panelResetRelease refPresent) s = execPanelResetRelease refPresent s := fun _ => rfl
theorem exec_waveStart (s : State) : ∀ w, exec (.waveStart w) s = execWaveStart w s := fun _ => rfl
theorem exec_logicBistDone (s : State) : ∀ die signatureOk patterns tenthsMs, exec (.logicBistDone die signatureOk patterns tenthsMs) s = execLogicBistDone die signatureOk patterns tenthsMs s := fun _ _ _ _ => rfl
theorem exec_memoryBistDone (s : State) : ∀ pos result bank ms, exec (.memoryBistDone pos result bank ms) s = execMemoryBistDone pos result bank ms s := fun _ _ _ _ => rfl
theorem exec_stackTestDone (s : State) : ∀ k result tenMs, exec (.stackTestDone k result tenMs) s = execStackTestDone k result tenMs s := fun _ _ _ => rfl
theorem exec_laneMarginDone (s : State) : ∀ lane pass tenMs, exec (.laneMarginDone lane pass tenMs) s = execLaneMarginDone lane pass tenMs s := fun _ _ _ => rfl
theorem exec_bcast (s : State) : ∀ pos uni wave block e, exec (.bcast pos uni wave block e) s = execBcast pos uni wave block e s := fun _ _ _ _ _ => rfl
theorem exec_firmwareEnd (s : State) : ∀ pos blocks digest, exec (.firmwareEnd pos blocks digest) s = execFirmwareEnd pos blocks digest s := fun _ _ _ => rfl
theorem exec_groveReady (s : State) : ∀ g, exec (.groveReady g) s = execGroveReady g s := fun _ => rfl
theorem exec_tapExtConnect (s : State) : ∀ a ext, exec (.tapExtConnect a ext) s = execTapExtConnect a ext s := fun _ _ => rfl
theorem exec_clkOppCmd (s : State) : ∀ a target, exec (.clkOppCmd a target) s = execClkOppCmd a target s := fun _ _ => rfl
theorem exec_oppSwitch (s : State) : exec .oppSwitch s = execOppSwitch s := rfl
theorem exec_oppAckMissing (s : State) : exec .oppAckMissing s = execOppAckMissing s := rfl
theorem exec_crossingAlignment (s : State) : ∀ g dir point code, exec (.crossingAlignment g dir point code) s = execCrossingAlignment g dir point code s := fun _ _ _ _ => rfl
theorem exec_droopStretch (s : State) : ∀ g, exec (.droopStretch g) s = execDroopStretch g s := fun _ => rfl
theorem exec_pllLossOfLock (s : State) : ∀ g, exec (.pllLossOfLock g) s = execPllLossOfLock g s := fun _ => rfl
theorem exec_referenceLoss (s : State) : exec .referenceLoss s = execReferenceLoss s := rfl
theorem exec_backupInPlace (s : State) : exec .backupInPlace s = execBackupInPlace s := rfl
theorem exec_holdoverExpiry (s : State) : exec .holdoverExpiry s = execHoldoverExpiry s := rfl
theorem exec_referenceReturn (s : State) : exec .referenceReturn s = execReferenceReturn s := rfl
theorem exec_groveClockStart (s : State) : ∀ g, exec (.groveClockStart g) s = execGroveClockStart g s := fun _ => rfl
theorem exec_arbiterUpdate (s : State) : ∀ currents, exec (.arbiterUpdate currents) s = execArbiterUpdate currents s := fun _ => rfl
theorem exec_stageTokenReturn (s : State) : ∀ g, exec (.stageTokenReturn g) s = execStageTokenReturn g s := fun _ => rfl
theorem exec_droopTrimRaise (s : State) : ∀ g, exec (.droopTrimRaise g) s = execDroopTrimRaise g s := fun _ => rfl
theorem exec_droopTrimDecay (s : State) : ∀ g, exec (.droopTrimDecay g) s = execDroopTrimDecay g s := fun _ => rfl
theorem exec_phaseFail (s : State) : ∀ g phase, exec (.phaseFail g phase) s = execPhaseFail g phase s := fun _ _ => rfl
theorem exec_groveShort (s : State) : ∀ g, exec (.groveShort g) s = execGroveShort g s := fun _ => rfl
theorem exec_resistanceTrend (s : State) : ∀ g phase r, exec (.resistanceTrend g phase r) s = execResistanceTrend g phase r s := fun _ _ _ => rfl
theorem exec_feConverterFail (s : State) : ∀ converter, exec (.feConverterFail converter) s = execFeConverterFail converter s := fun _ => rfl
theorem exec_governorUpdate (s : State) : ∀ r demand soc, exec (.governorUpdate r demand soc) s = execGovernorUpdate r demand soc s := fun _ _ _ => rfl
theorem exec_ballastStep (s : State) : exec .ballastStep s = execBallastStep s := rfl
theorem exec_inputVoltageFault (s : State) : ∀ mv, exec (.inputVoltageFault mv) s = execInputVoltageFault mv s := fun _ => rfl
theorem exec_inputLoss (s : State) : exec .inputLoss s = execInputLoss s := rfl
theorem exec_inputReturn (s : State) : ∀ refPresent, exec (.inputReturn refPresent) s = execInputReturn refPresent s := fun _ => rfl
theorem exec_sensorRead (s : State) : ∀ sensor reading, exec (.sensorRead sensor reading) s = execSensorRead sensor reading s := fun _ _ => rfl
theorem exec_sensorFail (s : State) : ∀ pos diode, exec (.sensorFail pos diode) s = execSensorFail pos diode s := fun _ _ => rfl
theorem exec_thermalModelUpdate (s : State) : ∀ preds, exec (.thermalModelUpdate preds) s = execThermalModelUpdate preds s := fun _ => rfl
theorem exec_rthUpdate (s : State) : ∀ powers, exec (.rthUpdate powers) s = execRthUpdate powers s := fun _ => rfl
theorem exec_compatCapUpdate (s : State) : exec .compatCapUpdate s = execCompatCapUpdate s := rfl
theorem exec_flowStop (s : State) : exec .flowStop s = execFlowStop s := rfl
theorem exec_flowRestored (s : State) : exec .flowRestored s = execFlowRestored s := rfl
theorem exec_sessionOpen (s : State) : ∀ adminChain readChain, exec (.sessionOpen adminChain readChain) s = execSessionOpen adminChain readChain s := fun _ _ => rfl
theorem exec_cread (s : State) : ∀ session addr, exec (.cread session addr) s = execCread session addr s := fun _ _ => rfl
theorem exec_cwrite (s : State) : ∀ session addr value, exec (.cwrite session addr value) s = execCwrite session addr value s := fun _ _ _ => rfl
theorem exec_logRead (s : State) : ∀ session lseq, exec (.logRead session lseq) s = execLogRead session lseq s := fun _ _ => rfl
theorem exec_attest (s : State) : ∀ session nonce, exec (.attest session nonce) s = execAttest session nonce s := fun _ _ => rfl
theorem exec_certRead (s : State) : ∀ session, exec (.certRead session) s = execCertRead session s := fun _ => rfl
theorem exec_updBegin (s : State) : ∀ session kind, exec (.updBegin session kind) s = execUpdBegin session kind s := fun _ _ => rfl
theorem exec_updData (s : State) : ∀ session kind offset chunk, exec (.updData session kind offset chunk) s = execUpdData session kind offset chunk s := fun _ _ _ _ => rfl
theorem exec_updEnd (s : State) : ∀ session kind, exec (.updEnd session kind) s = execUpdEnd session kind s := fun _ _ => rfl
theorem exec_updActivate (s : State) : ∀ session kinds, exec (.updActivate session kinds) s = execUpdActivate session kinds s := fun _ _ => rfl
theorem exec_updConfirm (s : State) : ∀ session kind raiseSvn, exec (.updConfirm session kind raiseSvn) s = execUpdConfirm session kind raiseSvn s := fun _ _ _ => rfl
theorem exec_fenceClear (s : State) : ∀ session record, exec (.fenceClear session record) s = execFenceClear session record s := fun _ _ => rfl
theorem exec_laneUnmask (s : State) : ∀ session lane, exec (.laneUnmask session lane) s = execLaneUnmask session lane s := fun _ _ => rfl
theorem exec_revoke (s : State) : ∀ session key, exec (.revoke session key) s = execRevoke session key s := fun _ _ => rfl
theorem exec_debugAuth (s : State) : ∀ session, exec (.debugAuth session) s = execDebugAuth session s := fun _ => rfl
theorem exec_mgmtOpPanelReset (s : State) : ∀ session, exec (.mgmtOpPanelReset session) s = execMgmtOpPanelReset session s := fun _ => rfl
theorem exec_mgmtOpHostReset (s : State) : ∀ session, exec (.mgmtOpHostReset session) s = execMgmtOpHostReset session s := fun _ => rfl
theorem exec_mgmtOpManagementRestart (s : State) : ∀ session, exec (.mgmtOpManagementRestart session) s = execMgmtOpManagementRestart session s := fun _ => rfl
theorem exec_mportFailover (s : State) : exec .mportFailover s = execMportFailover s := rfl
theorem exec_mportSwap (s : State) : ∀ a active, exec (.mportSwap a active) s = execMportSwap a active s := fun _ _ => rfl
theorem exec_stdWrite (s : State) : ∀ a word value, exec (.stdWrite a word value) s = execStdWrite a word value s := fun _ _ _ => rfl
theorem exec_healthHistoryWrite (s : State) : exec .healthHistoryWrite s = execHealthHistoryWrite s := rfl
theorem exec_logFlush (s : State) : exec .logFlush s = execLogFlush s := rfl
theorem exec_hostWindowWrite (s : State) : ∀ hcore ha bytes value, exec (.hostWindowWrite hcore ha bytes value) s = execHostWindowWrite hcore ha bytes value s := fun _ _ _ _ => rfl
theorem exec_hostWindowRead (s : State) : ∀ hcore ha bytes, exec (.hostWindowRead hcore ha bytes) s = execHostWindowRead hcore ha bytes s := fun _ _ _ => rfl
theorem exec_wcFlush (s : State) : ∀ buffer, exec (.wcFlush buffer) s = execWcFlush buffer s := fun _ => rfl
theorem exec_hostBridgeAnswer (s : State) : ∀ n, exec (.hostBridgeAnswer n) s = execHostBridgeAnswer n s := fun _ => rfl
theorem exec_hostBridgeTimeout (s : State) : ∀ tag, exec (.hostBridgeTimeout tag) s = execHostBridgeTimeout tag s := fun _ => rfl
theorem exec_hostCtrlReset (s : State) : ∀ a, exec (.hostCtrlReset a) s = execHostCtrlReset a s := fun _ => rfl
theorem exec_wdogKick (s : State) : ∀ a, exec (.wdogKick a) s = execWdogKick a s := fun _ => rfl
theorem exec_hostWatchdogExpiry (s : State) : exec .hostWatchdogExpiry s = execHostWatchdogExpiry s := rfl
theorem exec_panelRstNAssert (s : State) : exec .panelRstNAssert s = execPanelRstNAssert s := rfl
theorem exec_smbStatusRead (s : State) : exec .smbStatusRead s = execSmbStatusRead s := rfl
theorem exec_smbVinRead (s : State) : exec .smbVinRead s = execSmbVinRead s := rfl
theorem exec_smbPinRead (s : State) : exec .smbPinRead s = execSmbPinRead s := rfl
theorem exec_smbEffCapRead (s : State) : exec .smbEffCapRead s = execSmbEffCapRead s := rfl
theorem exec_smbTInRead (s : State) : exec .smbTInRead s = execSmbTInRead s := rfl
theorem exec_smbTOutRead (s : State) : exec .smbTOutRead s = execSmbTOutRead s := rfl
theorem exec_smbFlowRead (s : State) : exec .smbFlowRead s = execSmbFlowRead s := rfl
theorem exec_smbHsMaxRead (s : State) : exec .smbHsMaxRead s = execSmbHsMaxRead s := rfl
theorem exec_smbFruRead (s : State) : ∀ offset, exec (.smbFruRead offset) s = execSmbFruRead offset s := fun _ => rfl
theorem exec_smbUnsupported (s : State) : ∀ command, exec (.smbUnsupported command) s = execSmbUnsupported command s := fun _ => rfl
theorem exec_telemetryPublish (s : State) : exec .telemetryPublish s = execTelemetryPublish s := rfl
theorem exec_cageOverpower (s : State) : ∀ port, exec (.cageOverpower port) s = execCageOverpower port s := fun _ => rfl
theorem exec_retrainComplete (s : State) : ∀ p, exec (.retrainComplete p) s = execRetrainComplete p s := fun _ => rfl
theorem exec_inputVoltageRestored (s : State) : ∀ mv, exec (.inputVoltageRestored mv) s = execInputVoltageRestored mv s := fun _ => rfl
theorem exec_vddCoreLevelReport (s : State) : ∀ g mv, exec (.vddCoreLevelReport g mv) s = execVddCoreLevelReport g mv s := fun _ _ => rfl
theorem exec_hostComplexReady (s : State) : exec .hostComplexReady s = execHostComplexReady s := rfl
theorem exec_mgmtPortLinkChange (s : State) : ∀ port up, exec (.mgmtPortLinkChange port up) s = execMgmtPortLinkChange port up s := fun _ _ => rfl
theorem exec_sessionClose (s : State) : ∀ session, exec (.sessionClose session) s = execSessionClose session s := fun _ => rfl
theorem exec_lRimDieFault (s : State) : ∀ die, exec (.lRimDieFault die) s = execLRimDieFault die s := fun _ => rfl
theorem exec_rimRingSegmentFault (s : State) : ∀ die, exec (.rimRingSegmentFault die) s = execRimRingSegmentFault die s := fun _ => rfl
theorem exec_keepAliveDomainFault (s : State) : ∀ g, exec (.keepAliveDomainFault g) s = execKeepAliveDomainFault g s := fun _ => rfl
theorem exec_hostCoreUncorrectableRead (s : State) : ∀ hcore, exec (.hostCoreUncorrectableRead hcore) s = execHostCoreUncorrectableRead hcore s := fun _ => rfl
theorem exec_externalTapAccess (s : State) : ∀ segment opens, exec (.externalTapAccess segment opens) s = execExternalTapAccess segment opens s := fun _ _ => rfl

end Sys2Proof.Machine
end

