-- ==== Sys2Proof/Laws/PerInstr.lean ====
section
/-! SUPPORT. Of every command: a well-formed one that names a position names one of the panel's 576 (R14). -/

namespace Sys2Proof.Laws.Instances

/-- The position that a command names, itself or by its core. -/
def place : Instr → Option Nat
  | .sNop c => some c.pos
  | .sAdd c => some c.pos
  | .sSub c => some c.pos
  | .sAnd c => some c.pos
  | .sOr c => some c.pos
  | .sXor c => some c.pos
  | .sSll c => some c.pos
  | .sSrl c => some c.pos
  | .sSra c => some c.pos
  | .sMul c => some c.pos
  | .sMulhu c => some c.pos
  | .sMin c => some c.pos
  | .sMax c => some c.pos
  | .sMinu c => some c.pos
  | .sMaxu c => some c.pos
  | .sAddi c => some c.pos
  | .sAndi c => some c.pos
  | .sOri c => some c.pos
  | .sXori c => some c.pos
  | .sSlli c => some c.pos
  | .sSrli c => some c.pos
  | .sSrai c => some c.pos
  | .sLui c => some c.pos
  | .sCmpEq c => some c.pos
  | .sCmpNe c => some c.pos
  | .sCmpLt c => some c.pos
  | .sCmpLtu c => some c.pos
  | .sCmpiEq c => some c.pos
  | .sCmpiLt c => some c.pos
  | .sPand c => some c.pos
  | .sPor c => some c.pos
  | .sPxor c => some c.pos
  | .sPnot c => some c.pos
  | .sBr c => some c.pos
  | .sJr c => some c.pos
  | .sCall c => some c.pos
  | .sLoop c => some c.pos
  | .sEnd c => some c.pos
  | .sTrap c => some c.pos
  | .sTret c => some c.pos
  | .sMfcr c => some c.pos
  | .sMtcr c => some c.pos
  | .vNop c => some c.pos
  | .vAdd c => some c.pos
  | .vSub c => some c.pos
  | .vMul c => some c.pos
  | .vFma c => some c.pos
  | .vMin c => some c.pos
  | .vMax c => some c.pos
  | .vAbs c => some c.pos
  | .vNeg c => some c.pos
  | .vAnd c => some c.pos
  | .vOr c => some c.pos
  | .vXor c => some c.pos
  | .vShl c => some c.pos
  | .vShr c => some c.pos
  | .vSra c => some c.pos
  | .vCmpEq c => some c.pos
  | .vCmpLt c => some c.pos
  | .vCmpLe c => some c.pos
  | .vExp c => some c.pos
  | .vLog c => some c.pos
  | .vRcp c => some c.pos
  | .vRsqrt c => some c.pos
  | .vTanh c => some c.pos
  | .vSigm c => some c.pos
  | .vCvt c => some c.pos
  | .vUnpk c => some c.pos
  | .vBcast c => some c.pos
  | .vExt c => some c.pos
  | .vShuf c => some c.pos
  | .vRsum c => some c.pos
  | .vRmax c => some c.pos
  | .vRand c => some c.pos
  | .vMov c => some c.pos
  | .vIota c => some c.pos
  | .mNop c => some c.pos
  | .mLdw c => some c.pos
  | .mMmul c => some c.pos
  | .mRd c => some c.pos
  | .mWr c => some c.pos
  | .mCvt c => some c.pos
  | .mZero c => some c.pos
  | .tNop c => some c.pos
  | .tSet c => some c.pos
  | .tLds c => some c.pos
  | .tSts c => some c.pos
  | .tLdv c => some c.pos
  | .tStv c => some c.pos
  | .tRd c => some c.pos
  | .tWr c => some c.pos
  | .tSend c => some c.pos
  | .tRlu c => some c.pos
  | .tSendr c => some c.pos
  | .tAdd c => some c.pos
  | .tWait c => some c.pos
  | .tFill c => some c.pos
  | .tCopy c => some c.pos
  | .tMov c => some c.pos
  | .tSgat c => some c.pos
  | .tSscat c => some c.pos
  | .tWopen c => some c.pos
  | .tWclose c => some c.pos
  | .tFence c => some c.pos
  | .tSendred c => some c.pos
  | .registerWriteback c => some c.pos
  | .sequentialIssueOverrun c => some c.pos
  | .stallResume c => some c.pos
  | .coreRun _ c => some c.pos
  | .coreHalt _ c => some c.pos
  | .wheelTurnAccess pos _ => some pos
  | .feederFetch c _ => some c.pos
  | .poisonMarking pos => some pos
  | .mseFill pos => some pos
  | .mseCopy pos => some pos
  | .scrubPass pos => some pos
  | .windowOpenEffect pos => some pos
  | .windowCloseEffect pos => some pos
  | .controlWindowOpen _ pos _ _ => some pos
  | .controlWindowClose _ pos _ _ => some pos
  | .spadClearStart _ pos => some pos
  | .spadClearDone pos => some pos
  | .reachEntryWrite _ pos _ _ => some pos
  | .directLoadReturn c => some c.pos
  | .waitRelease c => some c.pos
  | .syncCheckpointWrite pos => some pos
  | .heldPacketResend pos _ => some pos
  | .holdLimitExpiry pos _ => some pos
  | .ackTimeout pos _ => some pos
  | .moverStart pos _ => some pos
  | .moverPacketIssue pos _ => some pos
  | .moverComplete pos _ => some pos
  | .mgmtqGo _ pos => some pos
  | .moverQueueEntryGrant pos => some pos
  | .heartbeatIncrement pos => some pos
  | .waitLimit c => some c.pos
  | .memoryBistDone pos _ _ _ => some pos
  | .bcast pos _ _ _ _ => some pos
  | .firmwareEnd pos _ _ => some pos
  | .sensorFail pos _ => some pos
  | _ => none

/-- The position that a well-formed command names is on the panel. -/
def Statement (i : Instr) : Prop := ∀ pos, i.wf = true → place i = some pos → pos < 576

theorem place_lt {i : Instr} {pos : Nat} (h : i.wf = true) (e : place i = some pos) : pos < 576 := by
  cases i <;> simp only [place, Option.some.injEq, reduceCtorEq] at e <;> subst e <;>
    simp only [Instr.wf, CoreId.wf, Bool.and_eq_true, decide_eq_true_eq] at h <;> omega

theorem sNop : ∀ x0, Statement (.sNop x0) := fun _ _ h e => place_lt h e
theorem sAdd : ∀ x0, Statement (.sAdd x0) := fun _ _ h e => place_lt h e
theorem sSub : ∀ x0, Statement (.sSub x0) := fun _ _ h e => place_lt h e
theorem sAnd : ∀ x0, Statement (.sAnd x0) := fun _ _ h e => place_lt h e
theorem sOr : ∀ x0, Statement (.sOr x0) := fun _ _ h e => place_lt h e
theorem sXor : ∀ x0, Statement (.sXor x0) := fun _ _ h e => place_lt h e
theorem sSll : ∀ x0, Statement (.sSll x0) := fun _ _ h e => place_lt h e
theorem sSrl : ∀ x0, Statement (.sSrl x0) := fun _ _ h e => place_lt h e
theorem sSra : ∀ x0, Statement (.sSra x0) := fun _ _ h e => place_lt h e
theorem sMul : ∀ x0, Statement (.sMul x0) := fun _ _ h e => place_lt h e
theorem sMulhu : ∀ x0, Statement (.sMulhu x0) := fun _ _ h e => place_lt h e
theorem sMin : ∀ x0, Statement (.sMin x0) := fun _ _ h e => place_lt h e
theorem sMax : ∀ x0, Statement (.sMax x0) := fun _ _ h e => place_lt h e
theorem sMinu : ∀ x0, Statement (.sMinu x0) := fun _ _ h e => place_lt h e
theorem sMaxu : ∀ x0, Statement (.sMaxu x0) := fun _ _ h e => place_lt h e
theorem sAddi : ∀ x0, Statement (.sAddi x0) := fun _ _ h e => place_lt h e
theorem sAndi : ∀ x0, Statement (.sAndi x0) := fun _ _ h e => place_lt h e
theorem sOri : ∀ x0, Statement (.sOri x0) := fun _ _ h e => place_lt h e
theorem sXori : ∀ x0, Statement (.sXori x0) := fun _ _ h e => place_lt h e
theorem sSlli : ∀ x0, Statement (.sSlli x0) := fun _ _ h e => place_lt h e
theorem sSrli : ∀ x0, Statement (.sSrli x0) := fun _ _ h e => place_lt h e
theorem sSrai : ∀ x0, Statement (.sSrai x0) := fun _ _ h e => place_lt h e
theorem sLui : ∀ x0, Statement (.sLui x0) := fun _ _ h e => place_lt h e
theorem sCmpEq : ∀ x0, Statement (.sCmpEq x0) := fun _ _ h e => place_lt h e
theorem sCmpNe : ∀ x0, Statement (.sCmpNe x0) := fun _ _ h e => place_lt h e
theorem sCmpLt : ∀ x0, Statement (.sCmpLt x0) := fun _ _ h e => place_lt h e
theorem sCmpLtu : ∀ x0, Statement (.sCmpLtu x0) := fun _ _ h e => place_lt h e
theorem sCmpiEq : ∀ x0, Statement (.sCmpiEq x0) := fun _ _ h e => place_lt h e
theorem sCmpiLt : ∀ x0, Statement (.sCmpiLt x0) := fun _ _ h e => place_lt h e
theorem sPand : ∀ x0, Statement (.sPand x0) := fun _ _ h e => place_lt h e
theorem sPor : ∀ x0, Statement (.sPor x0) := fun _ _ h e => place_lt h e
theorem sPxor : ∀ x0, Statement (.sPxor x0) := fun _ _ h e => place_lt h e
theorem sPnot : ∀ x0, Statement (.sPnot x0) := fun _ _ h e => place_lt h e
theorem sBr : ∀ x0, Statement (.sBr x0) := fun _ _ h e => place_lt h e
theorem sJr : ∀ x0, Statement (.sJr x0) := fun _ _ h e => place_lt h e
theorem sCall : ∀ x0, Statement (.sCall x0) := fun _ _ h e => place_lt h e
theorem sLoop : ∀ x0, Statement (.sLoop x0) := fun _ _ h e => place_lt h e
theorem sEnd : ∀ x0, Statement (.sEnd x0) := fun _ _ h e => place_lt h e
theorem sTrap : ∀ x0, Statement (.sTrap x0) := fun _ _ h e => place_lt h e
theorem sTret : ∀ x0, Statement (.sTret x0) := fun _ _ h e => place_lt h e
theorem sMfcr : ∀ x0, Statement (.sMfcr x0) := fun _ _ h e => place_lt h e
theorem sMtcr : ∀ x0, Statement (.sMtcr x0) := fun _ _ h e => place_lt h e
theorem vNop : ∀ x0, Statement (.vNop x0) := fun _ _ h e => place_lt h e
theorem vAdd : ∀ x0, Statement (.vAdd x0) := fun _ _ h e => place_lt h e
theorem vSub : ∀ x0, Statement (.vSub x0) := fun _ _ h e => place_lt h e
theorem vMul : ∀ x0, Statement (.vMul x0) := fun _ _ h e => place_lt h e
theorem vFma : ∀ x0, Statement (.vFma x0) := fun _ _ h e => place_lt h e
theorem vMin : ∀ x0, Statement (.vMin x0) := fun _ _ h e => place_lt h e
theorem vMax : ∀ x0, Statement (.vMax x0) := fun _ _ h e => place_lt h e
theorem vAbs : ∀ x0, Statement (.vAbs x0) := fun _ _ h e => place_lt h e
theorem vNeg : ∀ x0, Statement (.vNeg x0) := fun _ _ h e => place_lt h e
theorem vAnd : ∀ x0, Statement (.vAnd x0) := fun _ _ h e => place_lt h e
theorem vOr : ∀ x0, Statement (.vOr x0) := fun _ _ h e => place_lt h e
theorem vXor : ∀ x0, Statement (.vXor x0) := fun _ _ h e => place_lt h e
theorem vShl : ∀ x0, Statement (.vShl x0) := fun _ _ h e => place_lt h e
theorem vShr : ∀ x0, Statement (.vShr x0) := fun _ _ h e => place_lt h e
theorem vSra : ∀ x0, Statement (.vSra x0) := fun _ _ h e => place_lt h e
theorem vCmpEq : ∀ x0, Statement (.vCmpEq x0) := fun _ _ h e => place_lt h e
theorem vCmpLt : ∀ x0, Statement (.vCmpLt x0) := fun _ _ h e => place_lt h e
theorem vCmpLe : ∀ x0, Statement (.vCmpLe x0) := fun _ _ h e => place_lt h e
theorem vExp : ∀ x0, Statement (.vExp x0) := fun _ _ h e => place_lt h e
theorem vLog : ∀ x0, Statement (.vLog x0) := fun _ _ h e => place_lt h e
theorem vRcp : ∀ x0, Statement (.vRcp x0) := fun _ _ h e => place_lt h e
theorem vRsqrt : ∀ x0, Statement (.vRsqrt x0) := fun _ _ h e => place_lt h e
theorem vTanh : ∀ x0, Statement (.vTanh x0) := fun _ _ h e => place_lt h e
theorem vSigm : ∀ x0, Statement (.vSigm x0) := fun _ _ h e => place_lt h e
theorem vCvt : ∀ x0, Statement (.vCvt x0) := fun _ _ h e => place_lt h e
theorem vUnpk : ∀ x0, Statement (.vUnpk x0) := fun _ _ h e => place_lt h e
theorem vBcast : ∀ x0, Statement (.vBcast x0) := fun _ _ h e => place_lt h e
theorem vExt : ∀ x0, Statement (.vExt x0) := fun _ _ h e => place_lt h e
theorem vShuf : ∀ x0, Statement (.vShuf x0) := fun _ _ h e => place_lt h e
theorem vRsum : ∀ x0, Statement (.vRsum x0) := fun _ _ h e => place_lt h e
theorem vRmax : ∀ x0, Statement (.vRmax x0) := fun _ _ h e => place_lt h e
theorem vRand : ∀ x0, Statement (.vRand x0) := fun _ _ h e => place_lt h e
theorem vMov : ∀ x0, Statement (.vMov x0) := fun _ _ h e => place_lt h e
theorem vIota : ∀ x0, Statement (.vIota x0) := fun _ _ h e => place_lt h e
theorem mNop : ∀ x0, Statement (.mNop x0) := fun _ _ h e => place_lt h e
theorem mLdw : ∀ x0, Statement (.mLdw x0) := fun _ _ h e => place_lt h e
theorem mMmul : ∀ x0, Statement (.mMmul x0) := fun _ _ h e => place_lt h e
theorem mRd : ∀ x0, Statement (.mRd x0) := fun _ _ h e => place_lt h e
theorem mWr : ∀ x0, Statement (.mWr x0) := fun _ _ h e => place_lt h e
theorem mCvt : ∀ x0, Statement (.mCvt x0) := fun _ _ h e => place_lt h e
theorem mZero : ∀ x0, Statement (.mZero x0) := fun _ _ h e => place_lt h e
theorem tNop : ∀ x0, Statement (.tNop x0) := fun _ _ h e => place_lt h e
theorem tSet : ∀ x0, Statement (.tSet x0) := fun _ _ h e => place_lt h e
theorem tLds : ∀ x0, Statement (.tLds x0) := fun _ _ h e => place_lt h e
theorem tSts : ∀ x0, Statement (.tSts x0) := fun _ _ h e => place_lt h e
theorem tLdv : ∀ x0, Statement (.tLdv x0) := fun _ _ h e => place_lt h e
theorem tStv : ∀ x0, Statement (.tStv x0) := fun _ _ h e => place_lt h e
theorem tRd : ∀ x0, Statement (.tRd x0) := fun _ _ h e => place_lt h e
theorem tWr : ∀ x0, Statement (.tWr x0) := fun _ _ h e => place_lt h e
theorem tSend : ∀ x0, Statement (.tSend x0) := fun _ _ h e => place_lt h e
theorem tRlu : ∀ x0, Statement (.tRlu x0) := fun _ _ h e => place_lt h e
theorem tSendr : ∀ x0, Statement (.tSendr x0) := fun _ _ h e => place_lt h e
theorem tAdd : ∀ x0, Statement (.tAdd x0) := fun _ _ h e => place_lt h e
theorem tWait : ∀ x0, Statement (.tWait x0) := fun _ _ h e => place_lt h e
theorem tFill : ∀ x0, Statement (.tFill x0) := fun _ _ h e => place_lt h e
theorem tCopy : ∀ x0, Statement (.tCopy x0) := fun _ _ h e => place_lt h e
theorem tMov : ∀ x0, Statement (.tMov x0) := fun _ _ h e => place_lt h e
theorem tSgat : ∀ x0, Statement (.tSgat x0) := fun _ _ h e => place_lt h e
theorem tSscat : ∀ x0, Statement (.tSscat x0) := fun _ _ h e => place_lt h e
theorem tWopen : ∀ x0, Statement (.tWopen x0) := fun _ _ h e => place_lt h e
theorem tWclose : ∀ x0, Statement (.tWclose x0) := fun _ _ h e => place_lt h e
theorem tFence : ∀ x0, Statement (.tFence x0) := fun _ _ h e => place_lt h e
theorem tSendred : ∀ x0, Statement (.tSendred x0) := fun _ _ h e => place_lt h e
theorem registerWriteback : ∀ x0, Statement (.registerWriteback x0) := fun _ _ h e => place_lt h e
theorem sequentialIssueOverrun : ∀ x0, Statement (.sequentialIssueOverrun x0) := fun _ _ h e => place_lt h e
theorem stallResume : ∀ x0, Statement (.stallResume x0) := fun _ _ h e => place_lt h e
theorem coreRun : ∀ x0 x1, Statement (.coreRun x0 x1) := fun _ _ _ h e => place_lt h e
theorem coreHalt : ∀ x0 x1, Statement (.coreHalt x0 x1) := fun _ _ _ h e => place_lt h e
theorem controlWrite : ∀ x0 x1 x2 x3, Statement (.controlWrite x0 x1 x2 x3) := fun _ _ _ _ _ h e => place_lt h e
theorem wheelTurnAccess : ∀ x0 x1, Statement (.wheelTurnAccess x0 x1) := fun _ _ _ h e => place_lt h e
theorem feederFetch : ∀ x0 x1, Statement (.feederFetch x0 x1) := fun _ _ _ h e => place_lt h e
theorem poisonMarking : ∀ x0, Statement (.poisonMarking x0) := fun _ _ h e => place_lt h e
theorem mseFill : ∀ x0, Statement (.mseFill x0) := fun _ _ h e => place_lt h e
theorem mseCopy : ∀ x0, Statement (.mseCopy x0) := fun _ _ h e => place_lt h e
theorem scrubPass : ∀ x0, Statement (.scrubPass x0) := fun _ _ h e => place_lt h e
theorem windowOpenEffect : ∀ x0, Statement (.windowOpenEffect x0) := fun _ _ h e => place_lt h e
theorem windowCloseEffect : ∀ x0, Statement (.windowCloseEffect x0) := fun _ _ h e => place_lt h e
theorem controlWindowOpen : ∀ x0 x1 x2 x3, Statement (.controlWindowOpen x0 x1 x2 x3) := fun _ _ _ _ _ h e => place_lt h e
theorem controlWindowClose : ∀ x0 x1 x2 x3, Statement (.controlWindowClose x0 x1 x2 x3) := fun _ _ _ _ _ h e => place_lt h e
theorem spadClearStart : ∀ x0 x1, Statement (.spadClearStart x0 x1) := fun _ _ _ h e => place_lt h e
theorem spadClearDone : ∀ x0, Statement (.spadClearDone x0) := fun _ _ h e => place_lt h e
theorem reachEntryWrite : ∀ x0 x1 x2 x3, Statement (.reachEntryWrite x0 x1 x2 x3) := fun _ _ _ _ _ h e => place_lt h e
theorem captureRearm : ∀ x0 x1, Statement (.captureRearm x0 x1) := fun _ _ _ h e => place_lt h e
theorem directLoadReturn : ∀ x0, Statement (.directLoadReturn x0) := fun _ _ h e => place_lt h e
theorem syncAddApply : ∀ x0 x1, Statement (.syncAddApply x0 x1) := fun _ _ _ h e => place_lt h e
theorem syncSetApply : ∀ x0, Statement (.syncSetApply x0) := fun _ _ h e => place_lt h e
theorem syncNack : ∀ x0, Statement (.syncNack x0) := fun _ _ h e => place_lt h e
theorem syncAddResend : ∀ x0, Statement (.syncAddResend x0) := fun _ _ h e => place_lt h e
theorem waitRelease : ∀ x0, Statement (.waitRelease x0) := fun _ _ h e => place_lt h e
theorem syncCheckpointWrite : ∀ x0, Statement (.syncCheckpointWrite x0) := fun _ _ h e => place_lt h e
theorem syncCmdAdd : ∀ x0 x1 x2, Statement (.syncCmdAdd x0 x1 x2) := fun _ _ _ _ h e => place_lt h e
theorem syncCmdSet : ∀ x0 x1 x2, Statement (.syncCmdSet x0 x1 x2) := fun _ _ _ _ h e => place_lt h e
theorem syncCmdClearFlags : ∀ x0 x1 x2, Statement (.syncCmdClearFlags x0 x1 x2) := fun _ _ _ _ h e => place_lt h e
theorem seqWatchArm : ∀ x0 x1 x2, Statement (.seqWatchArm x0 x1 x2) := fun _ _ _ _ h e => place_lt h e
theorem seqWatchDisarm : ∀ x0 x1 x2, Statement (.seqWatchDisarm x0 x1 x2) := fun _ _ _ _ h e => place_lt h e
theorem activate : ∀ x0 x1, Statement (.activate x0 x1) := fun _ _ _ h e => place_lt h e
theorem hold : ∀ x0 x1, Statement (.hold x0 x1) := fun _ _ _ h e => place_lt h e
theorem resume : ∀ x0 x1, Statement (.resume x0 x1) := fun _ _ _ h e => place_lt h e
theorem release : ∀ x0 x1, Statement (.release x0 x1) := fun _ _ _ h e => place_lt h e
theorem releaseComplete : ∀ x0, Statement (.releaseComplete x0) := fun _ _ h e => place_lt h e
theorem setlen : ∀ x0 x1 x2, Statement (.setlen x0 x1 x2) := fun _ _ _ _ h e => place_lt h e
theorem mark : ∀ x0 x1, Statement (.mark x0 x1) := fun _ _ _ h e => place_lt h e
theorem rewind : ∀ x0 x1, Statement (.rewind x0 x1) := fun _ _ _ h e => place_lt h e
theorem seqOpDecide : ∀ x0, Statement (.seqOpDecide x0) := fun _ _ h e => place_lt h e
theorem seqOpWaitDecide : ∀ x0, Statement (.seqOpWaitDecide x0) := fun _ _ h e => place_lt h e
theorem gatherComplete : ∀ x0, Statement (.gatherComplete x0) := fun _ _ h e => place_lt h e
theorem scatterComplete : ∀ x0, Statement (.scatterComplete x0) := fun _ _ h e => place_lt h e
theorem packetRoute : ∀ x0 x1, Statement (.packetRoute x0 x1) := fun _ _ _ h e => place_lt h e
theorem packetDelivery : ∀ x0, Statement (.packetDelivery x0) := fun _ _ h e => place_lt h e
theorem sourceAnswer : ∀ x0, Statement (.sourceAnswer x0) := fun _ _ h e => place_lt h e
theorem heldPacketResend : ∀ x0 x1, Statement (.heldPacketResend x0 x1) := fun _ _ _ h e => place_lt h e
theorem holdLimitExpiry : ∀ x0 x1, Statement (.holdLimitExpiry x0 x1) := fun _ _ _ h e => place_lt h e
theorem ackTimeout : ∀ x0 x1, Statement (.ackTimeout x0 x1) := fun _ _ _ h e => place_lt h e
theorem stallReport : ∀ x0, Statement (.stallReport x0) := fun _ _ h e => place_lt h e
theorem creditReturn : ∀ x0 x1, Statement (.creditReturn x0 x1) := fun _ _ _ h e => place_lt h e
theorem redAbsorb : ∀ x0, Statement (.redAbsorb x0) := fun _ _ h e => place_lt h e
theorem cnetMessage : ∀ x0 x1 x2, Statement (.cnetMessage x0 x1 x2) := fun _ _ _ _ h e => place_lt h e
theorem hbmRequest : ∀ x0, Statement (.hbmRequest x0) := fun _ _ h e => place_lt h e
theorem hbmWriteAck : ∀ x0 x1, Statement (.hbmWriteAck x0 x1) := fun _ _ _ h e => place_lt h e
theorem hbmReadData : ∀ x0 x1, Statement (.hbmReadData x0 x1) := fun _ _ _ h e => place_lt h e
theorem hbmScrubPass : ∀ x0, Statement (.hbmScrubPass x0) := fun _ _ h e => place_lt h e
theorem hbmTempPoll : ∀ x0 x1, Statement (.hbmTempPoll x0 x1) := fun _ _ _ h e => place_lt h e
theorem hbmStackFail : ∀ x0, Statement (.hbmStackFail x0) := fun _ _ h e => place_lt h e
theorem hbmClearStart : ∀ x0 x1 x2, Statement (.hbmClearStart x0 x1 x2) := fun _ _ _ _ h e => place_lt h e
theorem hbmClearDone : ∀ x0, Statement (.hbmClearDone x0) := fun _ _ h e => place_lt h e
theorem hbmGrantWrite : ∀ x0 x1 x2 x3, Statement (.hbmGrantWrite x0 x1 x2 x3) := fun _ _ _ _ _ h e => place_lt h e
theorem moverStart : ∀ x0 x1, Statement (.moverStart x0 x1) := fun _ _ _ h e => place_lt h e
theorem moverPacketIssue : ∀ x0 x1, Statement (.moverPacketIssue x0 x1) := fun _ _ _ h e => place_lt h e
theorem moverComplete : ∀ x0 x1, Statement (.moverComplete x0 x1) := fun _ _ _ h e => place_lt h e
theorem mgmtqGo : ∀ x0 x1, Statement (.mgmtqGo x0 x1) := fun _ _ _ h e => place_lt h e
theorem moverQueueEntryGrant : ∀ x0, Statement (.moverQueueEntryGrant x0) := fun _ _ h e => place_lt h e
theorem portSignalDetect : ∀ x0, Statement (.portSignalDetect x0) := fun _ _ h e => place_lt h e
theorem trainingComplete : ∀ x0 x1, Statement (.trainingComplete x0 x1) := fun _ _ _ h e => place_lt h e
theorem helloSend : ∀ x0, Statement (.helloSend x0) := fun _ _ h e => place_lt h e
theorem hello : ∀ x0 x1, Statement (.hello x0 x1) := fun _ _ _ h e => place_lt h e
theorem helloTimeout : ∀ x0, Statement (.helloTimeout x0) := fun _ _ h e => place_lt h e
theorem downRetrainTimer : ∀ x0, Statement (.downRetrainTimer x0) := fun _ _ h e => place_lt h e
theorem codewordReceive : ∀ x0 x1 x2 x3 x4, Statement (.codewordReceive x0 x1 x2 x3 x4) := fun _ _ _ _ _ _ h e => place_lt h e
theorem replay : ∀ x0 x1, Statement (.replay x0 x1) := fun _ _ _ h e => place_lt h e
theorem replayTimeout : ∀ x0, Statement (.replayTimeout x0) := fun _ _ h e => place_lt h e
theorem resync : ∀ x0 x1, Statement (.resync x0 x1) := fun _ _ _ h e => place_lt h e
theorem retrainTimeout : ∀ x0, Statement (.retrainTimeout x0) := fun _ _ h e => place_lt h e
theorem credit : ∀ x0 x1, Statement (.credit x0 x1) := fun _ _ _ h e => place_lt h e
theorem creditSend : ∀ x0, Statement (.creditSend x0) := fun _ _ h e => place_lt h e
theorem fabricOrigin : ∀ x0, Statement (.fabricOrigin x0) := fun _ _ h e => place_lt h e
theorem fabricOriginAnswer : ∀ x0, Statement (.fabricOriginAnswer x0) := fun _ _ h e => place_lt h e
theorem mack : ∀ x0, Statement (.mack x0) := fun _ _ h e => place_lt h e
theorem fabricArrival : ∀ x0, Statement (.fabricArrival x0) := fun _ _ h e => place_lt h e
theorem fabricArrivalAnswer : ∀ x0, Statement (.fabricArrivalAnswer x0) := fun _ _ h e => place_lt h e
theorem fabricArrivalResend : ∀ x0 x1, Statement (.fabricArrivalResend x0 x1) := fun _ _ _ h e => place_lt h e
theorem fabricArrivalHoldLimit : ∀ x0 x1, Statement (.fabricArrivalHoldLimit x0 x1) := fun _ _ _ h e => place_lt h e
theorem fabricTransit : ∀ x0, Statement (.fabricTransit x0) := fun _ _ h e => place_lt h e
theorem mwrite : ∀ x0, Statement (.mwrite x0) := fun _ _ h e => place_lt h e
theorem mergeAnswer : ∀ x0, Statement (.mergeAnswer x0) := fun _ _ h e => place_lt h e
theorem mergeTimeout : ∀ x0 x1, Statement (.mergeTimeout x0 x1) := fun _ _ _ h e => place_lt h e
theorem collectiveEgress : ∀ x0, Statement (.collectiveEgress x0) := fun _ _ h e => place_lt h e
theorem collectiveIngress : ∀ x0, Statement (.collectiveIngress x0) := fun _ _ h e => place_lt h e
theorem ethFrameReceive : ∀ x0 x1 x2 x3 x4, Statement (.ethFrameReceive x0 x1 x2 x3 x4) := fun _ _ _ _ _ _ h e => place_lt h e
theorem ethFrameTransmit : ∀ x0, Statement (.ethFrameTransmit x0) := fun _ _ h e => place_lt h e
theorem ethRingTailWrite : ∀ x0 x1 x2, Statement (.ethRingTailWrite x0 x1 x2) := fun _ _ _ _ h e => place_lt h e
theorem portEnable : ∀ x0 x1, Statement (.portEnable x0 x1) := fun _ _ _ h e => place_lt h e
theorem portDisable : ∀ x0 x1, Statement (.portDisable x0 x1) := fun _ _ _ h e => place_lt h e
theorem portModeSelect : ∀ x0 x1 x2, Statement (.portModeSelect x0 x1 x2) := fun _ _ _ _ h e => place_lt h e
theorem portFence : ∀ x0 x1 x2, Statement (.portFence x0 x1 x2) := fun _ _ _ _ h e => place_lt h e
theorem create : ∀ x0 x1, Statement (.create x0 x1) := fun _ _ _ h e => place_lt h e
theorem load : ∀ x0 x1, Statement (.load x0 x1) := fun _ _ _ h e => place_lt h e
theorem start : ∀ x0 x1, Statement (.start x0 x1) := fun _ _ _ h e => place_lt h e
theorem reset : ∀ x0 x1, Statement (.reset x0 x1) := fun _ _ _ h e => place_lt h e
theorem teardown : ∀ x0 x1, Statement (.teardown x0 x1) := fun _ _ _ h e => place_lt h e
theorem update : ∀ x0 x1, Statement (.update x0 x1) := fun _ _ _ h e => place_lt h e
theorem groveAnnounceAck : ∀ x0, Statement (.groveAnnounceAck x0) := fun _ _ h e => place_lt h e
theorem scheduledRun : ∀ x0, Statement (.scheduledRun x0) := fun _ _ h e => place_lt h e
theorem coverageRecompute : ∀ x0, Statement (.coverageRecompute x0) := fun _ _ h e => place_lt h e
theorem faultRecordArrival : ∀ x0, Statement (.faultRecordArrival x0) := fun _ _ h e => place_lt h e
theorem domainActionJob : Statement .domainActionJob := fun _ h e => place_lt h e
theorem tileRecovery : Statement .tileRecovery := fun _ h e => place_lt h e
theorem domainActionGrove : Statement .domainActionGrove := fun _ h e => place_lt h e
theorem domainActionPartition : Statement .domainActionPartition := fun _ h e => place_lt h e
theorem domainActionDevice : Statement .domainActionDevice := fun _ h e => place_lt h e
theorem policyRewind : Statement .policyRewind := fun _ h e => place_lt h e
theorem fltRewind : ∀ x0 x1, Statement (.fltRewind x0 x1) := fun _ _ _ h e => place_lt h e
theorem declare : ∀ x0 x1, Statement (.declare x0 x1) := fun _ _ _ h e => place_lt h e
theorem fltAckWrite : ∀ x0 x1, Statement (.fltAckWrite x0 x1) := fun _ _ _ h e => place_lt h e
theorem force : ∀ x0 x1, Statement (.force x0 x1) := fun _ _ _ h e => place_lt h e
theorem heartbeatPoll : ∀ x0, Statement (.heartbeatPoll x0) := fun _ _ h e => place_lt h e
theorem heartbeatIncrement : ∀ x0, Statement (.heartbeatIncrement x0) := fun _ _ h e => place_lt h e
theorem waitLimit : ∀ x0, Statement (.waitLimit x0) := fun _ _ h e => place_lt h e
theorem healthUpdate : Statement .healthUpdate := fun _ h e => place_lt h e
theorem ackDeadlineExpiry : Statement .ackDeadlineExpiry := fun _ h e => place_lt h e
theorem watchdogExpiry : Statement .watchdogExpiry := fun _ h e => place_lt h e
theorem managementRestart : Statement .managementRestart := fun _ h e => place_lt h e
theorem panelResetRelease : ∀ x0, Statement (.panelResetRelease x0) := fun _ _ h e => place_lt h e
theorem waveStart : ∀ x0, Statement (.waveStart x0) := fun _ _ h e => place_lt h e
theorem logicBistDone : ∀ x0 x1 x2 x3, Statement (.logicBistDone x0 x1 x2 x3) := fun _ _ _ _ _ h e => place_lt h e
theorem memoryBistDone : ∀ x0 x1 x2 x3, Statement (.memoryBistDone x0 x1 x2 x3) := fun _ _ _ _ _ h e => place_lt h e
theorem stackTestDone : ∀ x0 x1 x2, Statement (.stackTestDone x0 x1 x2) := fun _ _ _ _ h e => place_lt h e
theorem laneMarginDone : ∀ x0 x1 x2, Statement (.laneMarginDone x0 x1 x2) := fun _ _ _ _ h e => place_lt h e
theorem bcast : ∀ x0 x1 x2 x3 x4, Statement (.bcast x0 x1 x2 x3 x4) := fun _ _ _ _ _ _ h e => place_lt h e
theorem firmwareEnd : ∀ x0 x1 x2, Statement (.firmwareEnd x0 x1 x2) := fun _ _ _ _ h e => place_lt h e
theorem groveReady : ∀ x0, Statement (.groveReady x0) := fun _ _ h e => place_lt h e
theorem tapExtConnect : ∀ x0 x1, Statement (.tapExtConnect x0 x1) := fun _ _ _ h e => place_lt h e
theorem clkOppCmd : ∀ x0 x1, Statement (.clkOppCmd x0 x1) := fun _ _ _ h e => place_lt h e
theorem oppSwitch : Statement .oppSwitch := fun _ h e => place_lt h e
theorem oppAckMissing : Statement .oppAckMissing := fun _ h e => place_lt h e
theorem crossingAlignment : ∀ x0 x1 x2 x3, Statement (.crossingAlignment x0 x1 x2 x3) := fun _ _ _ _ _ h e => place_lt h e
theorem droopStretch : ∀ x0, Statement (.droopStretch x0) := fun _ _ h e => place_lt h e
theorem pllLossOfLock : ∀ x0, Statement (.pllLossOfLock x0) := fun _ _ h e => place_lt h e
theorem referenceLoss : Statement .referenceLoss := fun _ h e => place_lt h e
theorem backupInPlace : Statement .backupInPlace := fun _ h e => place_lt h e
theorem holdoverExpiry : Statement .holdoverExpiry := fun _ h e => place_lt h e
theorem referenceReturn : Statement .referenceReturn := fun _ h e => place_lt h e
theorem groveClockStart : ∀ x0, Statement (.groveClockStart x0) := fun _ _ h e => place_lt h e
theorem arbiterUpdate : ∀ x0, Statement (.arbiterUpdate x0) := fun _ _ h e => place_lt h e
theorem stageTokenReturn : ∀ x0, Statement (.stageTokenReturn x0) := fun _ _ h e => place_lt h e
theorem droopTrimRaise : ∀ x0, Statement (.droopTrimRaise x0) := fun _ _ h e => place_lt h e
theorem droopTrimDecay : ∀ x0, Statement (.droopTrimDecay x0) := fun _ _ h e => place_lt h e
theorem phaseFail : ∀ x0 x1, Statement (.phaseFail x0 x1) := fun _ _ _ h e => place_lt h e
theorem groveShort : ∀ x0, Statement (.groveShort x0) := fun _ _ h e => place_lt h e
theorem resistanceTrend : ∀ x0 x1 x2, Statement (.resistanceTrend x0 x1 x2) := fun _ _ _ _ h e => place_lt h e
theorem feConverterFail : ∀ x0, Statement (.feConverterFail x0) := fun _ _ h e => place_lt h e
theorem governorUpdate : ∀ x0 x1 x2, Statement (.governorUpdate x0 x1 x2) := fun _ _ _ _ h e => place_lt h e
theorem ballastStep : Statement .ballastStep := fun _ h e => place_lt h e
theorem inputVoltageFault : ∀ x0, Statement (.inputVoltageFault x0) := fun _ _ h e => place_lt h e
theorem inputLoss : Statement .inputLoss := fun _ h e => place_lt h e
theorem inputReturn : ∀ x0, Statement (.inputReturn x0) := fun _ _ h e => place_lt h e
theorem sensorRead : ∀ x0 x1, Statement (.sensorRead x0 x1) := fun _ _ _ h e => place_lt h e
theorem sensorFail : ∀ x0 x1, Statement (.sensorFail x0 x1) := fun _ _ _ h e => place_lt h e
theorem thermalModelUpdate : ∀ x0, Statement (.thermalModelUpdate x0) := fun _ _ h e => place_lt h e
theorem rthUpdate : ∀ x0, Statement (.rthUpdate x0) := fun _ _ h e => place_lt h e
theorem compatCapUpdate : Statement .compatCapUpdate := fun _ h e => place_lt h e
theorem flowStop : Statement .flowStop := fun _ h e => place_lt h e
theorem flowRestored : Statement .flowRestored := fun _ h e => place_lt h e
theorem sessionOpen : ∀ x0 x1, Statement (.sessionOpen x0 x1) := fun _ _ _ h e => place_lt h e
theorem cread : ∀ x0 x1, Statement (.cread x0 x1) := fun _ _ _ h e => place_lt h e
theorem cwrite : ∀ x0 x1 x2, Statement (.cwrite x0 x1 x2) := fun _ _ _ _ h e => place_lt h e
theorem logRead : ∀ x0 x1, Statement (.logRead x0 x1) := fun _ _ _ h e => place_lt h e
theorem attest : ∀ x0 x1, Statement (.attest x0 x1) := fun _ _ _ h e => place_lt h e
theorem certRead : ∀ x0, Statement (.certRead x0) := fun _ _ h e => place_lt h e
theorem updBegin : ∀ x0 x1, Statement (.updBegin x0 x1) := fun _ _ _ h e => place_lt h e
theorem updData : ∀ x0 x1 x2 x3, Statement (.updData x0 x1 x2 x3) := fun _ _ _ _ _ h e => place_lt h e
theorem updEnd : ∀ x0 x1, Statement (.updEnd x0 x1) := fun _ _ _ h e => place_lt h e
theorem updActivate : ∀ x0 x1, Statement (.updActivate x0 x1) := fun _ _ _ h e => place_lt h e
theorem updConfirm : ∀ x0 x1 x2, Statement (.updConfirm x0 x1 x2) := fun _ _ _ _ h e => place_lt h e
theorem fenceClear : ∀ x0 x1, Statement (.fenceClear x0 x1) := fun _ _ _ h e => place_lt h e
theorem laneUnmask : ∀ x0 x1, Statement (.laneUnmask x0 x1) := fun _ _ _ h e => place_lt h e
theorem revoke : ∀ x0 x1, Statement (.revoke x0 x1) := fun _ _ _ h e => place_lt h e
theorem debugAuth : ∀ x0, Statement (.debugAuth x0) := fun _ _ h e => place_lt h e
theorem mgmtOpPanelReset : ∀ x0, Statement (.mgmtOpPanelReset x0) := fun _ _ h e => place_lt h e
theorem mgmtOpHostReset : ∀ x0, Statement (.mgmtOpHostReset x0) := fun _ _ h e => place_lt h e
theorem mgmtOpManagementRestart : ∀ x0, Statement (.mgmtOpManagementRestart x0) := fun _ _ h e => place_lt h e
theorem mportFailover : Statement .mportFailover := fun _ h e => place_lt h e
theorem mportSwap : ∀ x0 x1, Statement (.mportSwap x0 x1) := fun _ _ _ h e => place_lt h e
theorem stdWrite : ∀ x0 x1 x2, Statement (.stdWrite x0 x1 x2) := fun _ _ _ _ h e => place_lt h e
theorem healthHistoryWrite : Statement .healthHistoryWrite := fun _ h e => place_lt h e
theorem logFlush : Statement .logFlush := fun _ h e => place_lt h e
theorem hostWindowWrite : ∀ x0 x1 x2 x3, Statement (.hostWindowWrite x0 x1 x2 x3) := fun _ _ _ _ _ h e => place_lt h e
theorem hostWindowRead : ∀ x0 x1 x2, Statement (.hostWindowRead x0 x1 x2) := fun _ _ _ _ h e => place_lt h e
theorem wcFlush : ∀ x0, Statement (.wcFlush x0) := fun _ _ h e => place_lt h e
theorem hostBridgeAnswer : ∀ x0, Statement (.hostBridgeAnswer x0) := fun _ _ h e => place_lt h e
theorem hostBridgeTimeout : ∀ x0, Statement (.hostBridgeTimeout x0) := fun _ _ h e => place_lt h e
theorem hostCtrlReset : ∀ x0, Statement (.hostCtrlReset x0) := fun _ _ h e => place_lt h e
theorem wdogKick : ∀ x0, Statement (.wdogKick x0) := fun _ _ h e => place_lt h e
theorem hostWatchdogExpiry : Statement .hostWatchdogExpiry := fun _ h e => place_lt h e
theorem panelRstNAssert : Statement .panelRstNAssert := fun _ h e => place_lt h e
theorem smbStatusRead : Statement .smbStatusRead := fun _ h e => place_lt h e
theorem smbVinRead : Statement .smbVinRead := fun _ h e => place_lt h e
theorem smbPinRead : Statement .smbPinRead := fun _ h e => place_lt h e
theorem smbEffCapRead : Statement .smbEffCapRead := fun _ h e => place_lt h e
theorem smbTInRead : Statement .smbTInRead := fun _ h e => place_lt h e
theorem smbTOutRead : Statement .smbTOutRead := fun _ h e => place_lt h e
theorem smbFlowRead : Statement .smbFlowRead := fun _ h e => place_lt h e
theorem smbHsMaxRead : Statement .smbHsMaxRead := fun _ h e => place_lt h e
theorem smbFruRead : ∀ x0, Statement (.smbFruRead x0) := fun _ _ h e => place_lt h e
theorem smbUnsupported : ∀ x0, Statement (.smbUnsupported x0) := fun _ _ h e => place_lt h e
theorem telemetryPublish : Statement .telemetryPublish := fun _ h e => place_lt h e
theorem cageOverpower : ∀ x0, Statement (.cageOverpower x0) := fun _ _ h e => place_lt h e
theorem retrainComplete : ∀ x0, Statement (.retrainComplete x0) := fun _ _ h e => place_lt h e
theorem inputVoltageRestored : ∀ x0, Statement (.inputVoltageRestored x0) := fun _ _ h e => place_lt h e
theorem vddCoreLevelReport : ∀ x0 x1, Statement (.vddCoreLevelReport x0 x1) := fun _ _ _ h e => place_lt h e
theorem hostComplexReady : Statement .hostComplexReady := fun _ h e => place_lt h e
theorem mgmtPortLinkChange : ∀ x0 x1, Statement (.mgmtPortLinkChange x0 x1) := fun _ _ _ h e => place_lt h e
theorem sessionClose : ∀ x0, Statement (.sessionClose x0) := fun _ _ h e => place_lt h e
theorem lRimDieFault : ∀ x0, Statement (.lRimDieFault x0) := fun _ _ h e => place_lt h e
theorem rimRingSegmentFault : ∀ x0, Statement (.rimRingSegmentFault x0) := fun _ _ h e => place_lt h e
theorem keepAliveDomainFault : ∀ x0, Statement (.keepAliveDomainFault x0) := fun _ _ h e => place_lt h e
theorem hostCoreUncorrectableRead : ∀ x0, Statement (.hostCoreUncorrectableRead x0) := fun _ _ h e => place_lt h e
theorem externalTapAccess : ∀ x0 x1, Statement (.externalTapAccess x0 x1) := fun _ _ _ h e => place_lt h e

end Sys2Proof.Laws.Instances
end

