-- ==== Sys2Proof/Tests/Slice0.lean ====
section
/-! SUPPORT. Tests: for every statement with hypotheses a named witness that meets them, small steps with results worked out
by hand from the spec, and an ill-formed term for each check of WellFormed. -/

namespace Sys2Proof.Tests

set_option Elab.async false
open Sys2Proof.Machine

/-- A command has a next state with a property. -/
def ran (i : Instr) (s : State) (p : State → Bool) : Bool :=
  match exec i s with
  | .next t => p t
  | .fault _ => false
  | .refused _ => false

/-- Core 0 of position 0. -/
def c00 : CoreId := ⟨0, 0⟩

/-- A panel with grove 0 running as partition 0, its first two positions active as logical tiles 0 and 1. -/
def panel : State :=
  let s := (State.reset.setGrove 0 2).setFld (GRV_CLK_STATUS_LOCK 0) 1
  let s := ((s.setStatus 0 1).setStatus 1 1).setFld (MGMT_PARTp_STATUS_STATE 0) 4
  let s := (s.setFld (MGMT_PARTp_CFG_GRVS 0) 1).setElem DESC_POS_MAP 16 0 (posEntry 0)
  let s := (s.setElem DESC_POS_MAP 16 1 (posEntry 1)).setElem DESC_REV_MAP 16 0 0x8000
  let s := (s.setElem DESC_REV_MAP 16 1 0x8001).setElem (TILE_NET_MAP 0) 16 0 (posEntry 0)
  (s.setElem (TILE_NET_MAP 0) 16 1 (posEntry 1)).setElem (TILE_NET_MAP 1) 16 1 (posEntry 1)

/-- A running core with something in its registers. -/
def busy : Core := { Core.init with
  state := 1
  s := [(1, ⟨5, 0⟩), (2, ⟨3, 0⟩)]
  t := [(0, ⟨0, 128, 64, 0, 0, 0, false⟩)] }

/-- The panel with bundle 0 of core 0 enabling slot `k` alone, its field `w`, and the core `c`. -/
def slotState (c : Core) (k w : Nat) : State :=
  { panel.setCore 0 c with imem := Mem.write [] (bundleKey 0 0 0) 32 (2 ^ k + (if k = 0 then w * 2 ^ 16 else w * 2 ^ (64 * k))) }

/-- An S-slot field from opcode, rd, ra, rb and the bits above 27 (R41). -/
def sW (opc rd ra rb imm : Nat) : Nat := opc * 16 + rd * 2 ^ 12 + ra * 2 ^ 17 + rb * 2 ^ 22 + imm * 2 ^ 27
/-- A V-slot field from opcode, vd, va, vb, vc, FMT, RND, sr and imm (R53). -/
def vW (opc vd va vb vc fmt rnd sr imm : Nat) : Nat :=
  opc * 16 + vd * 2 ^ 12 + va * 2 ^ 17 + vb * 2 ^ 22 + vc * 2 ^ 27 + fmt * 2 ^ 32 + rnd * 2 ^ 36 + sr * 2 ^ 38 + imm * 2 ^ 43
/-- An M-slot field from opcode, ACC, FMTA, FMTW, COUNT, ROW and vr (R55). -/
def mW (opc acc fa fw count row vr : Nat) : Nat :=
  opc * 16 + acc * 2 ^ 12 + fa * 2 ^ 16 + fw * 2 ^ 20 + count * 2 ^ 28 + row * 2 ^ 35 + vr * 2 ^ 41
/-- A T-slot field from opcode, td, sa, sb, vx, sc and imm (R61). -/
def tW (opc td sa sb vx sc imm : Nat) : Nat :=
  opc * 16 + td * 2 ^ 12 + sa * 2 ^ 16 + sb * 2 ^ 21 + vx * 2 ^ 26 + sc * 2 ^ 31 + imm * 2 ^ 36

/-- Whether core 0's slot `k` runs with the field `w`. -/
def runs (c : Core) (k opc w : Nat) : Bool := decide ((slotState c k w).meet 0 0 k opc = .run)


/-! ### StepTakesFront to SlotFrames -/

/-- The slot commands of slots S, V and M on core 0 run with these fields. -/
theorem witness_ScalarResults :
    ([0x01, 0x02, 0x03, 0x04, 0x05, 0x06, 0x07, 0x08, 0x09, 0x0a, 0x0b, 0x0c, 0x0d, 0x0e, 0x10, 0x11, 0x12, 0x13, 0x14, 0x15,
      0x16, 0x20, 0x21, 0x22, 0x23, 0x24, 0x25, 0x28, 0x29, 0x2a].all (fun o => runs busy 0 o (sW o 3 1 2 0))) = true ∧
    runs busy 0 0x17 (sW 0x17 3 0 2 0) = true ∧ runs busy 0 0x2b (sW 0x2b 3 1 0 0) = true := by decide +kernel

theorem witness_VectorLanewise :
    ([0x01, 0x02, 0x03, 0x04, 0x05, 0x06].all (fun o => runs busy 1 o (vW o 3 1 2 0 0 0 0 0))) = true ∧
    ([0x01, 0x02, 0x03, 0x05, 0x06, 0x10, 0x11, 0x12, 0x13, 0x14, 0x15].all
      (fun o => runs busy 1 o (vW o 3 1 2 0 13 0 0 0))) = true ∧
    ([0x07, 0x08, 0x20, 0x21, 0x22, 0x23, 0x24, 0x25].all (fun o => runs busy 1 o (vW o 3 1 0 0 0 0 0 0))) = true := by
  decide +kernel

/-- A panel whose v.rand is present (DESC_FEATURES bit 3). -/
def randState : State := (slotState busy 1 (vW 0x35 3 0 0 0 0 0 0 0)).wr DESC_FEATURES 8

theorem witness_VectorMoves :
    ([0x18, 0x19, 0x1a].all (fun o => runs busy 1 o (vW o 3 1 2 0 13 0 0 0) && runs busy 1 o (vW o 3 1 2 0 0 0 0 0))) = true ∧
    ([0x31, 0x33, 0x34, 0x36].all (fun o => runs busy 1 o (vW o 3 1 0 0 0 0 0 0))) = true ∧
    ([0x28, 0x29].all (fun o => runs busy 1 o (vW o 3 1 0 0 1 0 0 0))) = true ∧
    runs busy 1 0x30 (vW 0x30 3 0 0 0 0 0 1 0) = true ∧ runs busy 1 0x32 (vW 0x32 3 1 2 0 0 0 0 0) = true ∧
    runs busy 1 0x37 (vW 0x37 3 0 0 0 0 0 0 0) = true ∧ randState.meet 0 0 1 0x35 = .run := by decide +kernel

/-- A core whose stream 0 is bound to a feeder, with format code 1. -/
def feeding (f : BitVec 2) : Core := { busy with t := [(0, ⟨0x400000, 128, 64, 0, f, 1, false⟩)] }

theorem witness_MatrixResults :
    ([(busy, 3, mW 3 0 0 0 0 0 0), (busy, 4, mW 4 0 0 0 0 0 0), (busy, 6, mW 6 0 0 0 0 0 0), (busy, 5, mW 5 0 1 0 0 0 0),
      (feeding 2, 1, mW 1 0 0 1 0 0 0), (feeding 1, 2, mW 2 0 1 1 4 0 0)].all (fun x =>
        runs x.1 2 x.2.1 x.2.2 && (slotState x.1 2 x.2.2).slotActive c00 2)) = true := by decide +kernel

/-- A core in its trap handler. -/
def handling : Core := { busy with state := 4, handler := true }

/-- Whether slot 0 runs alone, takes effect, and starts and ends its bundle. -/
def alone (c : Core) (opc w : Nat) : Bool :=
  let s := slotState c 0 w
  decide (s.meet 0 0 0 opc = .run) && decide ((s.bundle 0 0 c.pc.toNat).act = 1) && s.slotActive c00 0 &&
    decide ((s.core 0).ending = none) && decide ((s.core 0).issued = 0) && decide ((s.core 0).pc.toNat < 2047)

theorem witness_ControlFlow :
    ([(0x30, sW 0x30 0 0 5 0), (0x31, sW 0x31 0 1 0 0), (0x32, sW 0x32 3 0 5 0), (0x33, sW 0x33 0 0 5 (3 * 64)),
      (0x33, sW 0x33 0 0 5 0), (0x34, sW 0x34 0 0 0 0)].all (fun x => alone busy x.1 x.2)) = true ∧
    alone handling 0x36 (sW 0x36 0 1 0 0) = true ∧
    sRa (sW 0x33 0 0 5 (3 * 64)) = 0 ∧ bitsOf (sW 0x33 0 0 5 (3 * 64)) 33 15 = 3 ∧ bitsOf (sW 0x33 0 0 5 (3 * 64)) 22 11 = 5 ∧
    bitsOf (sW 0x33 0 0 5 0) 33 15 = 0 ∧ busy.target = none := by decide +kernel

theorem witness_ControlRegisters :
    runs busy 0 0x38 (sW 0x38 3 0 1 0) = true ∧ (slotState busy 0 (sW 0x38 3 0 1 0)).slotActive c00 0 = true ∧
    runs busy 0 0x39 (sW 0x39 0 1 8 0) = true ∧ (slotState busy 0 (sW 0x39 0 1 8 0)).slotActive c00 0 = true ∧
    panel.logical 0 = some 0 := by decide +kernel

/-- A bundle with s.trap 5. -/
def trapping : State := slotState busy 0 (sW 0x35 0 0 5 0)
/-- A bundle with two writers of stream state: a t.set of a stream in use by no one, with an illegal count. -/
def mustTrap : State := slotState busy 3 (tW 2 0 1 2 0 3 0)

/-- s.add to s3 while a result for s3 lands in the same cycle (R45). -/
def clashing : State :=
  slotState { busy with pend := [⟨1, .sreg 3, BitVec.allOnes 64, 7, 0⟩, ⟨2, .sreg 3, BitVec.allOnes 64, 9, 0⟩] } 0 (sW 0x01 3 1 2 0)

theorem witness_TrapsTaken :
    trapping.meet 0 0 0 0x35 = .trap ⟨8, 0, 5, 0, false, false⟩ [] ∧ (trapping.bundle 0 0 0).reserved = 0 ∧
    (trapping.bundle 0 0 0).on 0 = true ∧ (trapping.bundle 0 0 0).on 3 = false ∧ opcOf (trapping.bundle 0 0 0).s = 0x35 ∧
    hasReserved (trapping.bundle 0 0 0).s [(22, 27)] = false ∧ (trapping.core 0).slotOn (trapping.bundle 0 0 0).s = true ∧
    trapping.live 0 (trapping.core 0) = true ∧ (trapping.core 0).overrun = false ∧ (trapping.core 0).issued = 0 ∧
    trapping.caughtUp 0 (trapping.core 0) (trapping.core 0).nextIssue = true ∧ trapping.fetchError 0 0 0 = false ∧
    slotOf (.sTrap c00) = some (c00, 0, 0x35) ∧ clashing.meet 0 0 0 1 = .trap ⟨5, 0, 3, 0, false, false⟩ [(.sreg 3, 1)] ∧ mustTrap.meet 0 0 3 2 = .trap ⟨1, 3, 0, 0, false, false⟩ [] := by
  decide +kernel

/-- Whether a slot runs though its predicate turns it off. -/
def idles (k opc w : Nat) : Bool := runs busy k opc (w + 8) && !(slotState busy k (w + 8)).slotActive c00 k

/-- A core with a post that has not completed, at a t.fence. -/
def fencing : State := slotState { busy with posted := [⟨0, .store, none⟩] } 3 (tW 0x14 0 0 0 0 0 0)

theorem witness_SlotMeets :
    panel.live 0 (panel.core 0) = false ∧ trapping.meet 0 0 0 0x35 = .trap ⟨8, 0, 5, 0, false, false⟩ [] ∧
    trapping.issueTrap 0 0 (trapping.core 0) (trapping.bundle 0 0 0) 0 = some (⟨8, 0, 5, 0, false, false⟩, []) ∧
    runs busy 0 0 0 = true ∧ runs busy 1 0 0 = true ∧ runs busy 2 0 0 = true ∧ runs busy 3 0 0 = true ∧
    runs busy 3 0x14 (tW 0x14 0 0 0 0 0 0) = true ∧
    idles 0 1 (sW 0x01 3 1 2 0) = true ∧ idles 2 3 (mW 3 0 0 0 0 0 0) = true ∧ idles 3 3 (tW 3 0 1 2 0 0 0) = true ∧
    (let s := panel.setCore 0 busy
     (s.core 0).nextSlot (s.bundle 0 0 0) = none ∧ s.live 0 (s.core 0) = true ∧ s.meet 0 0 0 0 = .run) ∧
    (let s := { slotState busy 0 0 with imemEcc := [(imemKey 0 0 / 4, 2)] }
     s.fetchError 0 0 0 = true ∧ s.meet 0 0 3 0 = .trap ⟨7, 0, 0, 0, false, true⟩ []) ∧
    (let s := fencing
     let c := s.core 0
     let b := s.bundle 0 0 0
     s.live 0 c = true ∧ c.overrun = false ∧ c.issued = 0 ∧ s.caughtUp 0 c c.nextIssue = true ∧ s.fetchError 0 0 0 = false ∧
     b.reserved = 0 ∧ b.on 3 = true ∧ s.tTrap 0 0 c b.t c.nextIssue = none ∧ s.tStall 0 c b.t = some (.fence, 2)) := by
  decide +kernel

theorem witness_SlotFrames :
    (slotOf (.mLdw c00) = some (c00, 2, 1) ∧ runs (feeding 2) 2 1 (mW 1 0 0 1 0 0 0) = true ∧ c00.wf = true ∧
      ran (.mLdw c00) (slotState (feeding 2) 2 (mW 1 0 0 1 0 0 0)) (fun _ => true) = true) ∧
    (slotOf (.tNop c00) = some (c00, 3, 0) ∧ ran (.tNop c00) (slotState busy 3 0) (fun _ => true) = true) := by decide +kernel

/-- A core with scalar registers and stream 0 as given. -/
def tcore (l : List (Nat × Nat)) (st : Stream) : Core :=
  { busy with s := l.map (fun e => (e.1, ⟨BitVec.ofNat 64 e.2, 0⟩)), t := [(0, st)] }
/-- A stream over the core's own scratchpad at `base`. -/
def strm (base : Nat) (dir : Bool) : Stream := ⟨BitVec.ofNat 48 base, 128, 64, 0, 0, 0, dir⟩
/-- The panel with core 0 at a bundle of one T-slot instruction. -/
def tState (l : List (Nat × Nat)) (st : Stream) (w : Nat) : State := slotState (tcore l st) 3 w
/-- Whether the T slot of core 0 runs and is active. -/
def tRuns (s : State) (opc : Nat) : Bool := decide (s.meet 0 0 3 opc = .run) && s.slotActive c00 3
/-- The panel with logical tile 2 at position 3, logical tile 3 at position 4 of the next grove, and core 0 of position 3
at a bundle of one T-slot instruction, its reach entry 1 naming logical tile 3 and entry 0 logical tile 0. -/
def edge (l : List (Nat × Nat)) (st : Stream) (w : Nat) : State :=
  let s := (panel.setStatus 3 1).setElem DESC_POS_MAP 16 2 (posEntry 3)
  let s := (s.setElem DESC_REV_MAP 16 3 0x8002).setElem (TILE_NET_MAP 3) 16 2 (posEntry 3)
  let s := (s.setElem DESC_POS_MAP 16 3 (posEntry 4)).setElem (TILE_NET_MAP 3) 16 3 (posEntry 4)
  let s := ((s.setElem (TILE_NET_MAP 3) 16 0 (posEntry 0)).wr (TILE_NET_SRTA_CTL 3 0) 67).wr (TILE_NET_SRTA_NIB 3 0) 0x333
  let s := (s.setReach 3 1 3 true).setReach 3 0 0 true
  { s.setCore (coreKey 3 0) (tcore l st) with imem := Mem.write [] (bundleKey 3 0 0) 32 (2 ^ 3 + w * 2 ^ 192) }
/-- The panel with core 0's reach entry 1 naming logical tile 1, next to it in the same grove. -/
def beside (l : List (Nat × Nat)) (st : Stream) (w : Nat) : State := (tState l st w).setReach 0 1 1 true

/-- The targets of a direct access from core 0 of position 3, or of position 0 at a bundle of one instruction. -/
def goesTo (s : State) (pos w n al : Nat) : List Nat :=
  match s.reach pos ((s.core (coreKey pos 0)).tDirect w) n al with
  | .inl _ => []
  | .inr (.own off) => [0, off]
  | .inr (.near d q off same) => [1, d, q, off, same.toNat]
  | .inr (.routed l off) => [2, l, off]

/-- Whether a direct access at `base` runs on the core it stands at, and where it goes. -/
def direct (base opc : Nat) : Bool :=
  let w := if opc < 6 then (if opc = 2 then tW 2 0 1 0 0 3 0 else if opc = 3 then tW 3 0 1 2 0 0 0 else tW opc 0 1 0 3 0 0)
    else tW opc 0 0 0 3 0 0
  let n := if opc < 4 then 8 else 256
  let al := if opc < 4 then 8 else if opc = 5 then 32 else 128
  let l := [(1, base), (2, 9)]
  let st := strm base (opc == 7)
  let a := tState l st w
  let b := beside [(1, base + 2 ^ 27), (2, 9)] (strm (base + 2 ^ 27) (opc == 7)) w
  let e := edge [(1, base + 3 * 2 ^ 27), (2, 9)] (strm (base + 3 * 2 ^ 27) (opc == 7)) w
  let r := edge l st w
  tRuns a opc && decide (goesTo a 0 w n al = [0, base]) &&
  tRuns b opc && decide (goesTo b 0 w n al = [1, 1, 1, base, 1]) &&
  decide (e.meet 3 0 3 opc = .run) && e.slotActive ⟨3, 0⟩ 3 && decide (goesTo e 3 w n al = [1, 1, 4, base, 0]) &&
  decide (r.meet 3 0 3 opc = .run) && r.slotActive ⟨3, 0⟩ 3 && decide (goesTo r 3 w n al = [2, 0, base]) &&
  decide (r.freeTag 3 = some 0)

theorem witness_DirectLoads : (direct 0x100 2 && direct 0x100 4 && direct 0x100 6) = true := by decide +kernel
theorem witness_DirectStores : (direct 0x100 3 && direct 0x100 5 && direct 0x100 7) = true := by decide +kernel

theorem witness_TransferStreams :
    (tRuns (tState [(1, 0), (2, 64 * 2 ^ 24), (3, 0)] (strm 0 false) (tW 1 0 1 2 0 3 0)) 1 &&
     tRuns (tState [(1, 3)] (strm 0 false) (tW 9 0 1 0 0 3 0)) 9 &&
     tRuns (tState [(1, 256)] (strm 0 false) (tW 0x13 0 0 0 0 0 2)) 0x13 &&
     tRuns (tState [(1, 0x200000000000), (2, 0)] (strm 0 false) (tW 0xc 0 1 2 0 0 1)) 0xc) = true := by decide +kernel

/-- The panel with a route table entry 0 of grove 0: kind 1, to logical tile 1, 64 KB. -/
def withRoute (s : State) : State := (s.wr (GRV_ROUTEA_W0 0 0) 1).wr (GRV_ROUTEA_W1 0 0) (2 ^ 11 + 2 ^ 48)

theorem witness_Sends :
    (let w := tState [(1, 2 ^ 27), (2, 0)] (strm 0 false)
     tRuns (w (tW 8 0 1 2 3 0 0)) 8 && decide ((w (tW 8 0 1 2 3 0 0)).freeTag 0 = some 0) &&
     tRuns (withRoute (tState [(1, 0), (2, 0)] (strm 0 false) (tW 0xa 0 1 2 3 0 0))) 0xa &&
     decide ((withRoute (tState [(1, 0), (2, 0)] (strm 0 false) (tW 0xa 0 1 2 3 0 0))).freeTag 0 = some 0) &&
     tRuns (w (tW 0x15 0 1 2 3 0 5)) 0x15 &&
     tRuns (tState [(1, 0x200000000000), (2, 1)] (strm 0 false) (tW 0xb 0 1 2 0 0 0)) 0xb) = true := by decide +kernel

theorem witness_QueuedTransfers :
    (let a := [(1, 256), (2, 512), (3, 128)]
     tRuns (tState a (strm 0 false) (tW 0xd 0 1 2 0 3 0)) 0xd && tRuns (tState a (strm 0 false) (tW 0xe 0 1 2 0 3 0)) 0xe &&
     tRuns (tState a (strm 0 false) (tW 0xf 0 1 0 0 0 1)) 0xf &&
     tRuns (tState [(1, 3), (2, 2 ^ 24 + 2 ^ 36)] (strm 0 true) (tW 0x10 0 1 2 0 0 0)) 0x10 &&
     tRuns (tState [(1, 3), (2, 2 ^ 24 + 2 ^ 36)] (strm 0 false) (tW 0x11 0 1 2 0 0 0)) 0x11 &&
     tRuns (tState a (strm 0 false) (tW 0x12 0 1 0 0 0 2)) 0x12) = true := by decide +kernel

/-! ### ResultsLand to CoreRunHalt -/

/-- Core 0 with one result on its way, due in cycle `due`. -/
def landing (due : Nat) (d : Dst) : State :=
  panel.setCore 0 { busy with pend := [⟨due, d, BitVec.allOnes 64, 7, 0⟩] }

theorem witness_ResultsLand :
    ([Dst.sreg 3, .preg 2, .vreg 4, .accRow 0 1, .accAll 0, .ctl 8, .ctl 6, .ctl 1].all (fun d =>
      let s := landing 0 d
      decide (firstPend (s.core 0).pend = some ⟨0, d, BitVec.allOnes 64, 7, 0⟩) &&
      decide (s.issueFrom 0 (s.core 0) = some 0) &&
      ran (.registerWriteback c00) s (fun t => decide ((t.core 0).pend = [])))) = true ∧
    (landing 5 (.sreg 3)).issueFrom 0 ((landing 5 (.sreg 3)).core 0) = some 0 := by
  decide +kernel

/-- Core 0 stalled. -/
def stalled (w : Stall) (st : BitVec 3) : State := panel.setCore 0 { busy with stall := w, state := st }

theorem witness_StallsAndOverrun :
    fencing.meet 0 0 3 0x14 = .stall .fence 2 ∧
    ((stalled .fence 2).core 0).posted = [] ∧ ((stalled .fence 2).core 0).stall = .fence ∧
    (stalled .flow 3).tStall 0 ((stalled .flow 3).core 0) ((stalled .flow 3).slotWord c00 3) = none ∧
    ((stalled (.wait 0 1 (some 4)) 2).core 0).stall = .wait 0 1 (some 4) ∧
    ((stalled (.load true) 3).core 0).stall = .load true ∧ ((stalled .none 1).core 0).stall = .none ∧
    ((stalled (.load false) 3).core 0).stall = .load false ∧ ((stalled (.wait 0 1 none) 2).core 0).stall = .wait 0 1 none ∧
    (let s := panel.setCore 0 { busy with overrun := true, pc := 2047 }
     s.live 0 (s.core 0) = true ∧ (s.core 0).overrun = true ∧ s.caughtUp 0 (s.core 0) (s.core 0).nextIssue = true ∧
     ran (.sequentialIssueOverrun c00) s (fun t => decide (t.rd (TILE_CORE_TPC 0 0) = 2047)) = true) := by decide +kernel

theorem witness_CoreRunHalt :
    panel.mute .mgmt (TILE_CORE_CTRL 0 0).addr = false ∧ panel.mayWrite .mgmt .mgmt = true ∧
    panel.flag (TILE_CORE_CTRL_RUN 0 0) = false ∧ panel.clkState 0 = 2 ∧
    ran (.coreRun .mgmt c00) panel (fun t => t.flag (TILE_CORE_CTRL_RUN 0 0)) = true ∧
    ((panel.setCore 0 busy).core 0).stopped = false ∧ ((panel.setCore 0 busy).core 0).issued = 0 ∧
    panel.mayWrite .read .mgmt = false := by decide +kernel

/-- The next state of a command; the state itself where it has none. -/
def run (i : Instr) (s : State) : State :=
  match exec i s with
  | .next t => t
  | .fault _ => s
  | .refused _ => s

/-! ### WheelTurns to SeqDecisions -/

/-- An access of agent `agent` waiting at position 0, bytes 0x100 to 0x108. -/
def waiting (agent : Nat) (task : Task) : Access := accessOf 0 agent 0x100 8 3 task

/-- Whether an access waits at position 0 and no feeder meets it. -/
def meets (s : State) (a : Access) : Bool :=
  decide (nextAccess 0 a.agent s.access 0 = some (0, a)) && !s.winsDue 0 a.due && !s.marksDue 0 a.due && decide (s.feederAt 0 (banksOf a.off a.len) a.due = none)

/-- A write by the core itself, a remote sum's write, and a load in a timed path. -/
def ownWrite : Access := waiting 0 (.write .own)
/-- A remote sum's write. -/
def redWrite : Access := waiting 14 (.write (.red 0))
/-- A load in a timed path. -/
def timedLoad : Access := { waiting 0 (.load 0 (.sreg 3) 4) with timed := true }
/-- A load of 256 bytes that crosses from bank group 0 to bank group 1. -/
def crossing : Access := { accessOf 0 0 0x5FFF80 256 3 (.load 0 (.vreg 3) 4) with timed := true }
/-- Feeder A of core 0 on the banks of byte 0x100 in cycle 3. -/
def feederHolds : State :=
  { panel.setCore 0 { busy with feedA := [⟨3, 0x100, 64, 1, 4, 0, 0, 0, false, 1, 0, []⟩] } with access := [timedLoad] }

theorem witness_WheelTurns :
    meets { panel with access := [ownWrite] } ownWrite = true ∧ meets { panel with access := [redWrite] } redWrite = true ∧
    meets { panel with access := [timedLoad] } timedLoad = true ∧
    panel.windowReason 0 0x100 8 .own = none ∧ panel.windowReason 0 0x100 8 (.red 0) = some 0 ∧
    meets { panel with access := [crossing] } crossing = true ∧ crossing.first = true ∧ timedLoad.first = false ∧
    nextAccess 0 0 feederHolds.access 0 = some (0, timedLoad) ∧ feederHolds.winsDue 0 3 = false ∧ feederHolds.marksDue 0 3 = false ∧
    (feederHolds.feederAt 0 (banksOf 0x100 8) 3).isSome = true := by decide +kernel

/-- Core 0 with a feeder job of 4 fetches, `done` of them made. -/
def fed (weights : Bool) (done : Nat) : Core :=
  let j : FeedJob := ⟨0, 0x100, 64, 1, 4, done, 0, 0, false, 1, 0, []⟩
  if weights then { busy with feedW := [j] } else { busy with feedA := [j] }

theorem witness_FeederFetches :
    ([(true, 0), (true, 3), (false, 0), (false, 3)].all (fun x =>
      let s := panel.setCore 0 (fed x.1 x.2)
      let l := if x.1 then (s.core 0).feedW else (s.core 0).feedA
      match nextJob l 0 with
      | some (0, j) => decide (j.done = x.2) && decide ((s.core 0).issued = 0) &&
          !s.marksDue 0 (j.cycle x.1 j.done) && decide (1024 * j.done + 8 * (j.bytes true j.done).2 ≤ 65536) && decide (s.spadPoisonBits 0 (j.bytes x.1 j.done).1 (j.bytes x.1 j.done).2 = 0)
      | _ => false)) = true ∧
    (let s := { panel.setCore 0 (fed false 0) with spadPoison := [spadKey 0 0x100 / 4] }
     s.spadPoisonBits 0 0x100 32 % 2 ^ activationWords 0 ≠ 0 ∧ (s.core 0).stopped = false ∧
     ran (.feederFetch c00 false) s (fun t => decide (t.rd (TILE_CORE_TCAUSE 0 0) = 4)) = true) := by decide +kernel

/-- The panel with one fill or copy of a tile waiting for its engine. -/
def queued (kind : QKind) (w : List Nat) : State :=
  panel.enqueue 0 kind 2 0 0 (w.map (BitVec.ofNat 64)) 0 true

theorem witness_MemorySideEngine :
    ([(queued .fill [0x1000, 0x12345678, 256, 0], QKind.fill), (queued .fill [0x1001, 0, 256, 0], .fill),
      (queued .copy [0x1000, 0x2000, 256, 0], .copy), (queued .copy [0x1000, 0x1080, 256, 0], .copy)].all
        (fun x => decide ((x.1.engineHead 0 2).map (·.kind) = some x.2))) = true ∧
    (let s := queued .fill [0x1000, 0x12345678, 256, 0]
     s.marksDue 0 (s.msNext 0 0x1000 (mseLen 0x1000 256 0)) = false ∧ s.winsDue 0 (s.msNext 0 0x1000 (mseLen 0x1000 256 0)) = false ∧
     (s.feederAt 0 (banksOf 0x1000 (mseLen 0x1000 256 0)) (s.msNext 0 0x1000 (mseLen 0x1000 256 0))).isSome = false) ∧
    (let s := (queued .copy [0x1000, 0x2000, 256, 0]).modEntry 0 0 (fun e => { e with started := true, piece := some (7, 0) })
     (s.engineHead 0 2).map (·.piece) = some (some (7, 0)) ∧
     s.marksDue 0 (s.msNext 0 0x1000 (mseLen 0x1000 256 0)) = false ∧ s.winsDue 0 (s.msNext 0 0x1000 (mseLen 0x1000 256 0)) = false ∧
     (s.feederAt 0 (banksOf 0x1000 (mseLen 0x1000 256 0)) (s.msNext 0 0x1000 (mseLen 0x1000 256 0))).isSome = false) ∧
    (let s := queued .copy [0x1000, 0x2000, 256, 0]
     (s.engineHead 0 2).map (·.piece) = some none ∧ s.marksDue 0 (s.msNext 0 0x2000 (mseLen 0x2000 256 0)) = false ∧
     (s.feederAt 0 (banksOf 0x2000 (mseLen 0x2000 256 0)) (s.msNext 0 0x2000 (mseLen 0x2000 256 0))).isSome = false) ∧
    mseCheck [0x1000] 256 = none ∧ mseCheck [0x1001] 256 = some 1 ∧ mseCheck [0x1000, 0x2000] 256 = none ∧
    mseCheck [0x1000, 0x1080] 256 = none ∧
    ran (.mseFill 0) (queued .fill [0x1000, 0x12345678, 256, 0])
      (fun t => decide (Mem.read t.spad (spadKey 0 0x10fc) 4 = 0x12345678)) = true := by decide +kernel

theorem witness_SpadRepairs :
    (let s := { panel with marks := [⟨0, 0x104, false, 9⟩], spadEcc := [(spadKey 0 0x104 / 4, 2)] }
     nextMark 0 s.marks = some ⟨0, 0x104, false, 9⟩ ∧ SMap.get 0 s.spadEcc (spadKey 0 0x104 / 4) = 2 ∧
       (s.feederAt 0 (banksOf 0x104 4) 9).isSome = false) ∧
    (let s := { feederHolds with marks := [⟨0, 0x104, false, 3⟩] }
     nextMark 0 s.marks = some ⟨0, 0x104, false, 3⟩ ∧ (s.feederAt 0 (banksOf 0x104 4) 3).isSome = true) ∧
    (panel.setFld (TILE_SPAD_CFG_SCRUB_EN 0) 1).flag (TILE_SPAD_CFG_SCRUB_EN 0) = true ∧ panel.clkState 0 = 2 ∧
    panel.mute .mgmt (TILE_SPAD_CLEAR 0).addr = false ∧ panel.mayWrite .mgmt .mgmt = true ∧ panel.tileStopped 0 = true ∧
    (panel.setCore 0 busy).tileStopped 0 = false ∧ ((run (.spadClearStart .mgmt 0) panel).tile 0).clearing = true := by
  decide +kernel

/-- Position 0 with one change of window 2 waiting. -/
def changing (x : WinChange) : State := panel.modTile 0 (fun t => { t with wins := [x] })

theorem witness_WindowsAndReach :
    (let good : W64 × W64 := (BitVec.ofNat 64 (0x1000 + 0x2000 * 2 ^ 32), 1)
     let bad : W64 × W64 := (BitVec.ofNat 64 (0x1001 + 0x2000 * 2 ^ 32), 1)
     let x (r : Option (W64 × W64)) : WinChange := ⟨2, 5, 0, r, 0, 9, none⟩
     ([(true, some good), (true, some bad), (false, none)].all (fun p =>
       decide (nextWin p.1 ((changing (x p.2)).tile 0).wins = some (x p.2)) &&
         !winBefore ((changing (x p.2)).tile 0).wins (x p.2) && !(changing (x p.2)).turnsBefore 0 (x p.2).at_)) = true ∧
     (let c : WinChange := ⟨2, 5, 8, some (0, 1), 2, 0, some 1⟩
      nextWin true ((changing c).tile 0).wins = some c ∧ winBefore ((changing c).tile 0).wins c = false ∧ (changing c).turnsBefore 0 5 = false) ∧
     (panel.turnsBefore 0 (panel.hereNow 0) = false ∧ (panel.tile 0).wins = []) ∧
     (changing ⟨2, 0, 0, none, 0, 9, none⟩).hereNow 0 = 0 ∧
     winValid good.1.toNat good.2.toNat = true ∧ winValid bad.1.toNat bad.2.toNat = false ∧
     winValid ((panel.wr (TILE_SPAD_WINn_LO 0 15) good.1.toNat).rd (TILE_SPAD_WINn_LO 0 15)) (bitsOf 1 0 36) = true) ∧
    panel.mute .mgmt (TILE_SPAD_WINn_HI 0 15).addr = false ∧ panel.mayWrite .mgmt .tile = true ∧ panel.mayWrite .read .tile = false ∧
    panel.mute .mgmt (TILE_SPAD_REACH_d 0 1).addr = false ∧ panel.reachOk 0 1 = true ∧ panel.reachOk 0 7 = false ∧
    (match (blkOf (TILE_SPAD_CONFLICT_CAP 0).addr).reg with
     | some (row, reg) => row.isCapture && decide (reg = (TILE_SPAD_CONFLICT_CAP 0).addr) && panel.mayWrite .mgmt row.who
     | none => false) = true ∧ panel.mute .mgmt (TILE_SPAD_CONFLICT_CAP 0).addr = false := by decide +kernel

/-- A message of position 0 to object `o` of partition 0. -/
def msg (set : Bool) (o : Nat) (v : W32) (part : Nat) : SyncMsg := ⟨set, o, v, 0, 0, part, 0, false, none, none, none, 0, .flying⟩
/-- The panel with one message on its way. -/
def sent (m : SyncMsg) : State := { panel with msgs := [m] }

theorem witness_SyncApply :
    ([false, true].all (fun b => let m := msg b 0x105 7 0
      decide ((sent m).firstReady 0x105 b = some (0, m)) && decide ((sent m).homeOf m ≠ .none) && decide ((sent m).syncFault m = none))) = true ∧
    (let m := msg false 0x105 7 3
     (sent m).firstReady 0x105 false = some (0, m) ∧ (sent m).syncFault m = some 1) ∧
    (let m := msg false 0x705 7 0
     (sent m).firstReady 0x705 false = some (0, m) ∧ (sent m).homeOf m = .none) ∧
    (let s := (sent (msg true 0x105 7 0)).setCore (coreKey 1 2) { busy with stall := .wait 0x105 7 none, state := 2 }
     s.posOf (0x105 / 256) = some 1 ∧ (s.core (coreKey 1 2)).stall = .wait 0x105 7 none ∧ reached 7 7 = true ∧
     ran (.syncSetApply ⟨0x105, 1, 0⟩) s (fun t => decide ((t.core (coreKey 1 2)).stall = .wait 0x105 7 (some (s.hereNow 1 + 2)))) = true) ∧
    (let s := (sent (msg true 0x105 7 0)).wr (SEQ_WATCHw 63) (0x105 + 2 ^ 18 + 7 * 2 ^ 32)
     s.fld (SEQ_WATCHw_OBJ 63) = 0x105 ∧ (s.setFld (SEQ_WATCHw_ARM 63) 1).flag (SEQ_WATCHw_ARM 63) = true ∧
     (s.syncOwner 0x105).isSome = true) := by decide +kernel

/-- Two sets of one cycle on object 0x105. -/
theorem witness_SyncApply_sets :
    (let s : State := { panel with msgs := [msg true 0x105 7 0, { msg true 0x105 8 0 with pos := 1 }] }
     (s.cycleSets 0x105 2).length = 2 ∧ (s.cycleSets 0x105 2).all (fun m => decide (s.homeOf m ≠ .none) && decide (s.syncFault m = none)) = true) := by
  decide +kernel

theorem witness_SyncMessages :
    (let s := { (panel.setStatus 1 4) with msgs := [msg false 0x105 7 0] }
     s.msgs[0]? = some (msg false 0x105 7 0) ∧ s.guardMet none = true ∧ s.homeOf (msg false 0x105 7 0) = .fenced ∧
     (run (.syncNack 0) s).msgs = [{ msg false 0x105 7 0 with phase := .held (s.hereNow 0) (s.copyEntry 0 1) }]) ∧
    panel.mute .mgmt (syncAddr 0x105) = false ∧ panel.mayWrite .mgmt .tile = true ∧ panel.mayWrite .read .tile = false ∧
    panel.mute .mgmt (SEQ_WATCHw 63).addr = false ∧ panel.flag (SEQ_WATCHw_ARM 63) = false ∧ panel.flag (SEQ_WATCHw_FIRED 63) = false := by
  decide +kernel

/-- A panel with sequence slot 255 in a state, of partition 0, with one compute stack. -/
def slot (state inflight : Nat) : State :=
  let s := (panel.wr (SEQ_SLOTs_KV 255) (setBitsOf 0 (SEQ_SLOTs_KV_ROW_UNITS 255).lo 8 1)).setFld (SEQ_SLOTs_LEN_EXTENT 255) 100
  ((s.setFld (SEQ_SLOTs_STATE_STATE 255) state).setFld (SEQ_SLOTs_STATE_INFLIGHT 255) inflight).setFld (SEQ_SLOTs_SYNC_SYNC_BASE 255) 0x105

theorem witness_SlotCommands :
    ([0, 1, 2, 3].all (fun k => decide ((slot k 0).slotState 255 = k))) = true ∧ panel.mute .mgmt (SEQ_CMDs 255).addr = false ∧
    panel.mayWrite .mgmt .tile = true ∧ (slot 0 0).slotValid 255 = true ∧ panel.slotValid 255 = false ∧
    (slot 1 5).fld (SEQ_SLOTs_STATE_INFLIGHT 255) = 5 ∧
    (let s := { slot 1 0 with releasing := [255] }
     s.releasing.has 255 = true ∧ s.fld (SEQ_SLOTs_STATE_INFLIGHT 255) = 0) ∧
    ran (.setlen .mgmt 255 100) (slot 1 0) (fun t => decide (t.fld (SEQ_SLOTs_LEN_LENGTH 255) = 100)) = true ∧
    ran (.setlen .mgmt 255 101) (slot 1 0) (fun t => decide (t.fld (SEQ_SLOTs_STATE_ERR 255) = 5)) = true := by decide +kernel

/-- A gather of one row of one unit from slot 255 by core 0. -/
def op (phase : SeqPhase) (en : Bool) : SeqOp :=
  ⟨4, 0, 0, 0, 0, false, 255, BitVec.ofNat 64 (2 ^ 24 + 2 ^ 36 + (if en then 2 ^ 63 else 0)), 0, 0, 0, 64, 0, phase⟩

theorem witness_SeqDecisions :
    ([(slot 1 0, SeqPhase.arriving), (slot 1 510, .waiting 0), (slot 0 0, .arriving), (slot 1 511, .arriving)].all (fun x =>
      let s := { x.1 with ops := [op x.2 false] }
      decide (s.ops.filter (fun y => y.id = 4) = [op x.2 false]) &&
        (decide (s.ops[0]? = some (op .arriving false)) ||
          decide (firstWaiting 255 s.ops = some (op (.waiting 0) false))))) = true ∧
    firstWaiting 255 [op .arriving false] = none ∧
    (slot 1 510).opFault (op .arriving false) = none ∧ (slot 0 0).opFault (op .arriving true) = some 0 ∧
    (slot 1 511).fld (SEQ_SLOTs_STATE_INFLIGHT 255) = 511 ∧ (slot 1 510).fld (SEQ_SLOTs_STATE_INFLIGHT 255) = 510 := by
  decide +kernel

/-! ### PacketMoves to HbmQueueEntries -/

/-- A packet of logical tile 0 to an address, with its moves left. -/
def pkt (type ptr : Nat) (nibs : List Nat) (addr : Nat) : Pkt :=
  { Pkt.blank with type := type, ptr := ptr, nibs := nibs, size := 1, addr := BitVec.ofNat 48 addr, tag := 5 }

/-- The panel with one packet in the local input of a router. -/
def inNet (p : Pkt) (pos : Nat) : State := { panel with net := [⟨p, .router pos 0, 0, true, false⟩] }

/-- Whether packet 0 of the mesh stands at the head of that input of a working router. -/
def atFirst (s : State) (p : Pkt) (pos : Nat) : Bool :=
  match s.net[0]? with
  | some it => decide (it.pkt = p) && decide (it.place = .router pos 0) && it.checked && s.headItem 0 it && s.routerUp pos && decide (p.badHeader = none)
  | none => false

/-- A packet that goes from router 0 to router 1, one that leaves the mesh's edge, and one to an absent router. -/
def eastward : Pkt := pkt tWRITE 0 [1] (2 ^ 27)
/-- Off the edge. -/
def offEdge : Pkt := pkt tWRITE 0 [3] (2 ^ 27)
/-- To an absent router. -/
def absent : Pkt := pkt tREAD 0 [1, 1] (2 ^ 27)

theorem witness_PacketMoves :
    atFirst (inNet eastward 0) eastward 0 = true ∧ eastward.arrived = false ∧
    (inNet eastward 0).turnOf 0 eastward = .go (linkKey 0 1) (.router 1 4) ∧
    (((inNet eastward 0).askOf 0 ⟨eastward, .router 0 0, 0, true, false⟩).map (fun a => (inNet eastward 0).wins a)) = some true ∧
    atFirst (inNet offEdge 0) offEdge 0 = true ∧ (inNet offEdge 0).turnOf 0 offEdge = .drop 3 ∧
    atFirst (inNet absent 1) absent 1 = true ∧ (inNet absent 1).turnOf 1 absent = .drop 5 ∧
    (let s := (inNet eastward 0).takeCredits (linkKey 0 1) 0 8
     s.askOf 0 ⟨eastward, .router 0 0, 0, true, false⟩ = none ∧ eastward.flits > s.credits (linkKey 0 1) (classOf tWRITE) ∧
     s.turnOf 0 eastward = .go (linkKey 0 1) (.router 1 4) ∧ s.headItem 0 ⟨eastward, .router 0 0, 0, true, false⟩ = true) ∧
    (let s := { panel with creditBack := [(creditKey (linkKey 0 1) 0, 1)] }
     0 < SMap.get 0 s.creditBack (creditKey (linkKey 0 1) 0) ∧ 1 ≤ linkSlots (linkKey 0 1) 0) := by decide +kernel

/-- A long packet bound east from router 0. -/
def longEast : Pkt := { pkt tWRITE 0 [1, 1] (2 ^ 27) with size := 2 }
/-- The same two moves later in its trail, as router 1 receives it with a bad header. -/
def spoiled : Pkt := { longEast with ptr := 1, badHeader := some 0 }

/-- A packet whose words have not been checked, and a head that has waited 2 ^ STALL_LIM cycles for credits. -/
theorem witness_waits :
    (let s : State := { panel with net := [⟨eastward, .router 0 0, 0, false, false⟩] }
     (s.net[0]?).map (·.checked) = some false ∧ ran (.packetRoute ⟨0, LinkErrors.none⟩ LinkErrors.none) s (fun t => decide (t.net.length = 1)) = true) ∧
    (let s := (inNet eastward 0).takeCredits (linkKey 0 1) 0 8
     let it : NetItem := ⟨eastward, .router 0 0, 0, true, false⟩
     s.net[0]? = some it ∧ (s.atCycle 0 (2 ^ s.fld (TILE_NET_CFG_STALL_LIM 0))).askOf 0 it = none ∧ s.headItem 0 it = true ∧
     ran (.stallReport 0) s (fun t => decide (t.fld (TILE_NET_STALL_CNT_COUNT 0) = 1)) = true) := by decide +kernel

theorem witness_link_errors :
    ran (.packetRoute ⟨0, LinkErrors.none⟩ ⟨2, [20, 200], false⟩) (inNet longEast 0) (fun t =>
      decide (t.fld (TILE_NET_CE_CNT_COUNT 1) = 2) && decide (t.fld (TILE_NET_UE_CNT_COUNT 1) = 1) &&
      decide (t.net.map (fun x => (x.pkt.poison, x.pkt.badHeader)) = [(16, none)])) = true ∧
    ran (.packetRoute ⟨0, LinkErrors.none⟩ ⟨0, [3], true⟩) (inNet longEast 0) (fun t =>
      decide (t.net.map (fun x => (x.place, x.pkt.badHeader)) = [(.router 1 4, some 0)])) = true ∧
    ran (.packetRoute ⟨0, LinkErrors.none⟩ LinkErrors.none) (inNet spoiled 1) (fun t =>
      decide (t.net = []) && decide (t.fld (TILE_NET_DROP_CNT_COUNT 1) = 1)) = true := by decide +kernel

theorem witness_Deliveries :
    ([(pkt tWRITE 1 [1] (2 ^ 27), none), (pkt tREAD 1 [1] 0, some 1), (pkt tREAD 1 [1] (2 ^ 27 + 8), none),
      (pkt tREAD 1 [1] (2 ^ 44), some 3)].all (fun x =>
        atFirst (inNet x.1 1) x.1 1 && x.1.arrived && decide (x.1.type ≤ 1) && decide ((inNet x.1 1).deliveryReason 1 x.1 = x.2))) = true ∧
    ((panel.setFld (MGMT_PARTp_STATUS_STATE 0) 5).deliveryReason 1 (pkt tWRITE 1 [1] (2 ^ 27)) = some 2) := by decide +kernel

/-- Router 0 with one tracked packet of tag 5, and its answer at the router. -/
def answered (k : Track) (p : Pkt) : State := { inNet p 0 with track := [(5, k)] }
/-- A tracked packet to logical tile 1. -/
def tracked (h : Holder) (hold : Hold) : Track := ⟨pkt tWRITE 0 [1] (2 ^ 27), 1, hold, h, 0, none, 0, none⟩

theorem witness_SourceAnswers :
    ([(Holder.posted 0 3, tACK, 0), (.posted 0 3, tNACK, 5), (.load 0 (.sreg 4), tRDATA, 0), (.load 0 (.vreg 4), tRDATA, 0),
      (.posted 0 3, tDEAD, 0), (.posted 0 3, tNACK, 1)].all (fun x =>
        let p := { pkt x.2.1 1 [3] (2 ^ 27) with reason := x.2.2 }
        let s := answered (tracked x.1 .out) p
        atFirst s p 0 && p.arrived && decide (3 ≤ p.type ∧ p.type ≤ 6) && decide (p.home = 0) &&
          decide ((s.trackAt 0 p.tag).map (·.holder) = some x.1))) = true ∧
    (inNet (pkt tACK 1 [3] (2 ^ 27)) 0).trackAt 0 5 = none ∧
    ran (.sourceAnswer ⟨0, LinkErrors.none⟩) (answered (tracked (.posted 0 3) .out) (pkt tACK 1 [3] (2 ^ 27))) (fun t => (t.trackAt 0 5).isNone) = true := by
  decide +kernel

/-- Router 0 with a trail to logical tile 1 and one tracked packet of tag 5. -/
def heldAt (k : Track) : State :=
  { (panel.wr (TILE_NET_SRTA_CTL 0 1) 65).wr (TILE_NET_SRTA_NIB 0 1) 1 with track := [(5, k)] }

theorem witness_HeldPackets :
    (let k := tracked (.posted 0 3) (.moved 7)
     (heldAt k).trackAt 0 5 = some k ∧ (heldAt k).released 0 k = true ∧ k.route = none ∧ k.dest < 512 ∧
       ((heldAt k).copyPos 0 k.dest).isSome = true ∧ (heldAt k).trailTo 0 k.dest = some [1]) ∧
    (let k := { tracked (.posted 0 3) .dead with heldFrom := some 0 }
     (heldAt k).trackAt 0 5 = some k ∧ (heldAt k).released 0 k = false ∧ k.held = true ∧ k.heldFrom = some 0) ∧
    (tracked (.posted 0 3) .out).hold = .out := by decide +kernel

/-- Router 0 with reduction entry 9: FINAL or not, FANIN 2, and a contribution at it; a round open with one before it. -/
def reducing (final : Bool) (addr : Nat) (open_ : Bool) : State :=
  let p := { pkt tRED 0 [] (2 ^ 27) with redid := 9 }
  let s := { (inNet p 0).wr (TILE_NET_REDA_CTL 0 9) (64 + (if final then 128 else 0) + 512) with
             combine := if open_ then [(9, ⟨0, 0, 1, 0, BitVec.ofNat 48 addr, 0, false, 0, 0, false⟩)] else [] }
  s

/-- The contribution of `reducing`. -/
def contribution : Pkt := { pkt tRED 0 [] (2 ^ 27) with redid := 9 }

theorem witness_Reductions :
    ([(false, 2 ^ 27, false), (false, 2 ^ 27, true), (true, 2 ^ 27, true), (false, 256, true)].all (fun x =>
      let s := reducing x.1 x.2.1 x.2.2
      atFirst s contribution 0 && contribution.arrived && decide (s.redEntry 0 9 = some (x.1, 2, false)) &&
        !s.redBefore 0 0 0 0 contribution && !s.redWaits 0 contribution (x.1, 2, false) && decide (s.partOf 0 = some 0) && !s.underReset 0 &&
        decide ((s.round 0 9).isSome = x.2.2))) = true ∧
    (reducing true (2 ^ 27) true).freeTag 0 = some 0 ∧
    (let s := (reducing false (2 ^ 27) true).wr (TILE_NET_REDA_CTL 0 9) (64 + 768)
     s.redEntry 0 9 = some (false, 3, false) ∧ s.redWaits 0 contribution (false, 3, false) = false) ∧
    (atFirst (inNet contribution 0) contribution 0 = true ∧ (inNet contribution 0).redEntry 0 9 = none ∧ contribution.guard_ = none) ∧
    ((inNet contribution 0).setFld (MGMT_PARTp_STATUS_STATE 0) 5).underReset 0 = true := by decide +kernel

/-- The panel with stack 0 in operation, granted whole to partition 0 and mapped to it, and a packet at its die. -/
def stack (p : Pkt) (state : Nat) : State :=
  let s := ((panel.setFld (HBM_STATUS_STATE 0) state).setFld (HBM_GRANTp_GLIMIT 0 0) 24576).setFld (HBM_MAPp_SET 0 0) 1
  { s with net := [⟨p, .hrim 0 0, 0, true, false⟩] }
/-- A packet to an HBM offset. -/
def hpkt (type off : Nat) : Pkt := pkt type 0 [] (2 ^ 44 + off)

theorem witness_HbmRequests :
    (stack (hpkt tREAD 0x100) 1).hbmRefusal 0 0 (2 ^ 44 + 0x100) 1 tREAD = none ∧
    (stack (hpkt tREAD 0x100) 1).fld (HBM_STATUS_STATE 0) = 1 ∧ (stack (hpkt tREAD 0x100) 2).fld (HBM_STATUS_STATE 0) = 2 ∧
    (stack (hpkt tREAD 0x100) 2).hbmRefusal 0 0 (2 ^ 44 + 0x100) 1 tREAD = none ∧
    (stack (hpkt tREAD 0x101) 1).hbmRefusal 0 0 (2 ^ 44 + 0x101) 1 tREAD = some (5, 4) ∧
    1 ≤ (stack (hpkt tREAD 0x101) 1).credits (linkKey 0 16) 1 ∧
    ([tREAD, tWRITE].all (fun t => let r : HReq := ⟨0, hpkt t 0x100, 0, none⟩
      decide (({ stack (hpkt t 0) 1 with hbmReqs := [r] }).nextReq 0 0 = some (0, r)))) = true := by decide +kernel

/-- The same when the stack has failed, and once a later access has made the request run ahead. -/
theorem witness_HbmRequests_other :
    (let s := { stack (hpkt tREAD 0x100) 3 with hbmReqs := [⟨0, hpkt tREAD 0x100, 0, none⟩] }
     s.nextReq 0 0 = some (0, ⟨0, hpkt tREAD 0x100, 0, none⟩) ∧ s.fld (HBM_STATUS_STATE 0) = 3) ∧
    (let r : HReq := ⟨0, { hpkt tREAD 0x100 with size := 2 }, 0, some (5, 0)⟩
     let s := { stack (hpkt tREAD 0) 1 with hbmReqs := [r] }
     s.nextReq 0 0 = some (0, r) ∧ 4 ≤ s.credits (linkKey 0 16) 1) ∧
    ((stack { hpkt tREAD 0x100 with badHeader := some 0 } 1).net[0]?).map (·.pkt.badHeader) = some (some 0) ∧
    (let s := stack (hpkt tREAD 0x100) 1
     let u := { s with net := s.net ++ [⟨hpkt tREAD 0x110, .hrim 0 0, 0, true, false⟩] }
     ran (.hbmRequest 1) u (fun t => decide (t = u)) = true) := by decide +kernel

theorem witness_HbmControllers :
    (panel.setFld (HBM_CFG_SCRUB_EN 49) 1).flag (HBM_CFG_SCRUB_EN 49) = true ∧ (panel.setFld (HBM_STATUS_STATE 49) 1).fld (HBM_STATUS_STATE 49) = 1 ∧
    (panel.setFld (HBM_STATUS_STATE 49) 2).fld (HBM_STATUS_STATE 49) = 2 ∧ panel.mute .mgmt (HBM_CLEAR 49).addr = false ∧
    panel.mayWrite .mgmt .mgmt = true ∧ panel.mute .mgmt (HBM_GRANTp 49 15).addr = false ∧
    bitsOf (24576 * 2 ^ 16) 16 15 = 24576 ∧ panel.grantOverlap 0 none 0 24576 = false ∧
    (stack (hpkt 0 0) 1).grantOverlap 0 none 0 24576 = true ∧ (stack (hpkt 0 0) 1).grantOverlap 0 (some 0) 0 24576 = false ∧
    (run (.hbmClearStart .mgmt 0 (BitVec.ofNat 64 (24576 * 2 ^ 16))) panel).flag (HBM_CLEAR_BUSY 0) = true := by decide +kernel

/-- A mover entry of position 0: `rows` rows of 256 bytes. -/
def entry (kind : QKind) (src dst : Nat) (imem : Bool) : State :=
  panel.enqueue 0 kind 0 0 0 ([src, dst, 256 + 2 ^ 24, 0, 2 ^ 63 + 2 ^ 32 + 0x105, (if imem then 2 else 0)].map (BitVec.ofNat 64)) 0 true
/-- Its entry begun, or over. -/
def begun (over_ : Bool) (s : State) : State :=
  s.modEntry 0 0 (fun e => { e with started := true, total := 1, issued := if over_ then 1 else 0 })
/-- The entry at the head of mover 0. -/
def runs0 (s : State) (p : QEntry → Bool) : Bool :=
  match s.running 0 0 with
  | some e => e.isDesc && p e
  | none => false

theorem witness_MoverSteps :
    (runs0 (entry .mov 0 (2 ^ 44) false) (fun e => e.ready && !e.started) &&
     runs0 (begun false (entry .mov 0 (2 ^ 44) false)) (fun e => e.started && decide (panel.rowPair 0 (mdescOf e.desc) 0 = some .spadToHbm)) &&
     runs0 (begun false (entry .mov (2 ^ 44) 256 false)) (fun e => e.started && decide (panel.rowPair 0 (mdescOf e.desc) 0 = some .hbmToSpad)) &&
     runs0 (begun false (entry .mov 0 (2 ^ 27) false)) (fun e => e.started && decide (panel.rowPair 0 (mdescOf e.desc) 0 = some .spadToTile)) &&
     runs0 (begun false (entry .mgmt 0 0x10000 true)) (fun e => e.started && decide (panel.rowPair 0 (mdescOf e.desc) 0 = some .spadToImem)) &&
     runs0 (begun false (entry .mgmt (2 ^ 44) 0x10000 true)) (fun e => e.started && decide (panel.rowPair 0 (mdescOf e.desc) 0 = some .hbmToImem))) = true ∧
    panel.moverOut 0 0 < panel.fld (TILE_MOV_CFG_MAXOUT 0) ∧ panel.freeTag 0 = some 0 ∧
    runs0 (entry .mov 0 (2 ^ 44) false) (fun e => ((panel.descPair 0 e).isSome)) = true := by
  decide +kernel

theorem witness_MoverCompletes :
    ([QKind.mov, .mgmt].all (fun k => ((begun true (entry k 0 (2 ^ 44) false)).engineHead 0 0).any (fun e =>
      e.isDesc && e.spent && decide (e.outstanding = 0) && decide (e.code = 1) && (mdescOf e.desc).en))) = true ∧
    panel.mute .mgmt (TILE_MOV_MGMTQ 0).addr = false ∧ panel.mayWrite .mgmt .mgmt = true ∧ panel.mayWrite .admin .mgmt = false ∧
    panel.flag (TILE_MOV_MGMTQ_BUSY 0) = false ∧ panel.queueRoom 0 = true ∧ panel.queueLen 0 < 16 ∧
    ((panel.modTile 0 (fun t => { t with ckpts := [⟨0, []⟩] })).tile 0).ckpts = [⟨0, []⟩] ∧
    (panel.modTile 0 (fun t => { t with ckpts := [⟨0, []⟩] })).queueRoom 0 = false ∧
    ((panel.modTile 0 (fun t => { t with mgmt := some (0, []) })).tile 0).mgmt = some (0, []) := by decide +kernel

/-- The stack reached from position 0: its trail, and grove 0's map. -/
def reachable : State :=
  ((stack (hpkt 0 0) 1).setFld (GRV_HBM_MAP_SET 0) 1).wr (TILE_NET_SRTA_CTL 0 512) 65
/-- A gather or scatter accepted, at the head of its engine. -/
def ready (scatter : Bool) : State :=
  let w : List W64 := [BitVec.ofNat 64 (reachable.rd (SEQ_SLOTs_KV 255)), 0, 0]
  { reachable.enqueue 0 (if scatter then .scatter 4 else .gather 4) 0 0 0 [] 0 true with ops := [{ op (.accepted 100 w) false with scatter := scatter }] }

theorem witness_HbmQueueEntries :
    (List.range 50).all (fun k => decide (reachable.fld (HBM_STATUS_STATE k) ≠ 2)) = true ∧ reachable.hbmReqs = [] ∧
    (let s := reachable.enqueue 0 .checkpoint 1 0 0 [] 0x1000 true
     (s.engineHead 0 1).map (·.kind) = some .checkpoint ∧
     ([0, 129].all (fun i => match s.hbmReach 0 (0x1000 + 8 * i) 1 tWRITE with
       | .inl (k, a) => decide (k = 0 ∧ a = 0x1000 + 8 * i)
       | .inr _ => false)) = true) ∧
    ([false, true].all (fun b => ((ready b).readyOp 0 b).any (fun x =>
      decide (x.1.slot = 255 ∧ x.1.rows = 1 ∧ x.1.units = 1 ∧ x.1.flag = false ∧ x.1.first < x.2.1) &&
        (match (ready b).hbmReach 0 (slotOffset x.2.2 1 x.1.first 0) 2 (if b then tWRITE else tREAD) with
          | .inl (k, _) => decide (k = 0)
          | .inr _ => false)))) = true := by decide +kernel

/-! ### FabricPorts to WaitLimit -/

/-- The panel with a port in a state. -/
def portIn (p state : Nat) : State := panel.modPort p (fun x => { x with state := state })

/-- A HELLO of port 7 of the panel with serial 9; one that echoes this panel's serial and port `p`. -/
def helloFrom (echo : Option Nat) : Unit64B :=
  BitVec.ofNat 512 (packFields [(0, 4, 8), (4, 16, 2), (20, 64, 9), (84, 6, 7), (99, 64, panel.fuses.serial.toNat)
    , (163, 6, echo.getD 0), (169, 1, echo.isSome.toNat)])

theorem witness_FabricPorts :
    ([0, 1, 2, 3, 4, 5, 6].all (fun k => decide (((portIn 63 k).port 63).state = k))) = true ∧
    widthOf false (fun i => panel.laneGood (8 * 63 + i)) = some (false, false) ∧
    widthOf false (fun i => (BitVec.ofNat 8 0xF0).getLsbD i && panel.laneGood (8 * 63 + i)) = some (true, true) ∧
    widthOf false (fun i => (BitVec.ofNat 8 0x77).getLsbD i && panel.laneGood (8 * 63 + i)) = none ∧
    unitType (helloFrom (some 63)) = 8 ∧ bitsOf (helloFrom (some 63)).toNat 169 1 = 1 ∧
    bitsOf (helloFrom (some 63)).toNat 99 64 = panel.fuses.serial.toNat ∧ bitsOf (helloFrom (some 63)).toNat 163 6 = 63 ∧
    bitsOf (helloFrom none).toNat 169 1 = 0 ∧
    (let s := (portIn 63 5).setFld (FAB_CTRL_EN 63) 1
     s.flag (FAB_CTRL_EN 63) = true ∧ (s.setReady 2 63 true).ready 2 63 = true) ∧
    panel.mute .mgmt (FAB_CTRL 63).addr = false ∧ panel.mayWrite .mgmt .mgmt = true ∧ panel.mayWrite (.host 0) .mgmt = false ∧
    panel.flag (FAB_CTRL_EN 63) = false := by decide +kernel

/-- A fabric packet over one hop. -/
def fpkt (type ptr : Nat) : FPkt :=
  { FPkt.blank with type := type, vc := vcOf type, size := decide (type ≤ 2), ptr := ptr, len := 1, srt := [4] ++ List.replicate 15 0
                    ret := List.replicate 16 0, dstId := 3 }

/-- An Ethernet port ready: port 3, its die at router 0 with the host bridge one exit away, and a ring entry whose buffer lies
at 0x100000. -/
def ether : State :=
  let s := ((portIn 3 6).wr (FAB_DIE_SRT_CTL 0 624) 65).wr (FAB_DIE_SRT_NIB0 0 624) 12
  let s := (s.setFld (HBM_STATUS_STATE 48) 1).setFld (HBM_STATUS_STATE 49) 1
  let s := (s.setFld (FAB_ETH_PTR_RX_TAIL 3) 1).setFld (FAB_ETH_PTR_TX_TAIL 3) 1
  let s := ((s.setFld (FAB_ETH_RXRING_BASE 3) 0x4000).setFld (FAB_ETH_TXRING_BASE 3) 0x8000).hostSetWord 0x4000 0x100000
  s.hostSetWord 0x8000 (0x200000 + 64 * 2 ^ 48)

theorem witness_LinkUnits :
    (let u := (fpkt fWRITE 0).units
     unitType (u.headD 0) ≤ 6 ∧ u.length = unitsOf (unitType (u.headD 0)) ∧ (FPkt.ofUnits u).reserved (u.headD 0).toNat = false ∧
     ((portIn 3 3).port 3).state = 3 ∧ bitsOf 0 0 9 = ((portIn 3 3).port 3).expected ∧ ((portIn 3 3).port 3).partial_ = []) ∧
    bitsOf (5 : BitVec 20).toNat 0 9 ≠ ((portIn 3 3).port 3).expected ∧ ((portIn 3 3).port 3).discarding = false ∧
    unitType (replayUnit 0) = 10 ∧ unitType (creditUnit (0, 0, 0)) = 9 ∧ unitType (resyncUnit 0 (0, 0, 0)) = 11 ∧
    (let s := (portIn 3 3).modPort 3 (fun x => { x with gone := (5, 0, 0), discarding := true, failed := 7 })
     (s.port 3).gone ≠ (s.port 3).told ∧ (s.port 3).discarding = true ∧ 7 ≤ (s.port 3).failed) ∧
    ether.ethReady 3 = true ∧ ether.fld (FAB_ETH_PTR_RX_HEAD 3) ≠ ether.fld (FAB_ETH_PTR_RX_TAIL 3) ∧
    ether.fld (FAB_ETH_PTR_TX_HEAD 3) ≠ ether.fld (FAB_ETH_PTR_TX_TAIL 3) ∧
    bitsOf (ether.hostWord 0x4000) 0 48 = 0x100000 ∧ bitsOf (ether.hostWord 0x8000) 48 14 = 64 ∧
    inHostMem 0x4000 16 = true ∧ inHostMem 0x100000 9216 = true ∧ 0x4000 + 16 ≤ 0x100000 ∧
    ran (.ethFrameTransmit 3) ether (fun t => decide ((t.port 3).frame.length = 68)) = true := by decide +kernel

/-- The panel in which ports 0 and 4 are usable, panel ID 3, partition 0 admitted at port 0. -/
def fab : State :=
  let s := (panel.modPort 0 (fun x => { x with state := 3 })).modPort 4 (fun x => { x with state := 3 })
  let s := ((s.setFld (FAB_CTRL_EN 0) 1).setFld (FAB_CTRL_EN 4) 1).setFld (FAB_ADMIT_ADMIT 0) 1
  let s := (s.setFld (FAB_DIE_CFG_PANEL_ID 0) 3).setFld (FAB_DIE_CFG_PANEL_ID 1) 3
  let s := s.wr (FAB_RECA_W0 0 5) (packFields [(0, 1, 1), (16, 16, 4), (40, 5, 1)])
  (s.wr (FAB_DIE_SRT_CTL 0 0) 64).wr ⟨dieBase 0 + 0xD000, 0⟩ (packFields [(0, 1, 1), (8, 10, 9)])

/-- A packet at L-rim die 0, by record 5 or by a record that is not valid. -/
def outward (r : Nat) : Pkt := { pkt tWRITE 1 [9] 0 with size := 2, port := some 0, inlineW := BitVec.ofNat 64 (r + 2 * 64) }
/-- A fabric packet at the head of port 0. -/
def atPort (p : FPkt) : State := { fab with fabric := [⟨p, 0, 0, false, none⟩] }
/-- Whether it is there. -/
def heads (s : State) : Bool := match s.fabric[0]? with
  | some it => decide (it.port = 0) && decide (it.own = false) && decide (it.ring = none) && s.fabHead 0 it
  | none => false
/-- An origin entry for the packet with source 0 and tag 0. -/
def origin (s : State) (cpl : Option Nat) : State :=
  s.modDie 0 (fun d => { d with origin := [(0, ⟨pkt tWRITE 0 [] 0, 0, 0, cpl, 0x105⟩)] })
/-- A destination entry of tag 5. -/
def arriving (held : Bool) : DTrack := ⟨{ fpkt fWRITE 1 with len := 1 }, 0, none, if held then some 0 else none, 0, 77⟩

theorem witness_FabricPackets :
    fab.usable 0 = true ∧ fab.usable 4 = true ∧ fab.originFault 0 (outward 5) = none ∧ fab.originFault 0 (outward 6) = some 4 ∧
    fab.dieCredits 0 0 1 1 = true ∧ freeKey (fab.die 0).origin 256 = some 0 ∧ (outward 5).unfit = false ∧
    (fab.port 0).room (fab.originPkt 0 (outward 5)) = true ∧ { outward 5 with inlinePoison := 1 }.unfit = true ∧
    (let s := fab.modPort 0 (fun x => { x with sent := (60000, 60000, 60000) })
     (s.port 0).room (s.originPkt 0 (outward 5)) = false ∧ s.originFault 0 (outward 5) = none) ∧
    ([fACK, fNACK, fDEAD, fMACK].all (fun t => let p := { fpkt t 1 with tag := 5 }
      heads (atPort p) && p.home && (((origin (atPort p) (some 0x105)).originOf 0 p).isSome) && ((atPort p).originOf 0 p).isNone)) = true ∧
    (let p := fpkt fWRITE 1
     p.home = true ∧ heads (atPort p) = true ∧ (atPort p).arrivalFault 0 p = none ∧ (atPort p).arrivalFault 0 { p with dstId := 2 } = some 2 ∧
     (atPort p).ownRoom 0 = true ∧ freeKey ((atPort p).die 0).dest 256 = some 0 ∧ (atPort p).leave 0 p = .now 0 [] ∧
     (atPort p).leave 0 { p with daddr := 2 ^ 27 } = .noTrail ∧ (atPort p).destRoom 0 ≠ 0) ∧
    (let p := fpkt fWRITE 0
     p.home = false ∧ heads (atPort p) = true ∧ (atPort p).usable (p.srt.getD 0 0) = true ∧
       4 / 4 = 1 ∧ p.srt.getD 0 0 / 4 ≠ 0 / 4) ∧
    (let p := { fpkt fWRITE 0 with srt := [0] }
     let full := (atPort p).modPort 0 (fun x => { x with sent := (60000, 60000, 60000) })
     p.home = false ∧ heads (atPort p) = true ∧ (atPort p).usable 0 = true ∧ ((atPort p).port 0).room p = true ∧
       (full.port 0).room p = false ∧ full.usable 0 = true ∧
       (atPort { p with srt := [1] }).usable 1 = false ∧ (atPort { p with srt := [1] }).ownRoom 1 = true) ∧
    (let p := { fpkt fWRITE 0 with srt := [40] }
     let r := ringNext (ringPos 0) none 40
     let filled := { atPort p with fabric := (List.range 64).map (fun _ => ⟨p, 0, 0, false, some r⟩) }
     ringPos (40 / 4) ≠ ringPos (0 / 4) ∧ (atPort p).ringRoom r p = true ∧ filled.ringRoom r p = false) ∧
    (let p := { fpkt fWRITE 0 with srt := [40] }
     let on (r : Ring) : State := { fab with fabric := [⟨p, 0, 0, false, some r⟩] }
     let r : Ring := ⟨ringPos 1, true, 0, 40⟩
     let e : Ring := ⟨ringPos 1, true, 0, 4⟩
     (on r).fabHead 0 ⟨p, 0, 0, false, some r⟩ = true ∧ ringPos (r.exit / 4) ≠ r.pos ∧
       (on r).ringRoom (ringNext r.pos (some r) r.exit) p = true ∧
       (on e).fabHead 0 ⟨p, 0, 0, false, some e⟩ = true ∧ ringPos (e.exit / 4) = e.pos ∧ (on e).usable 4 = true ∧ ((on e).port 4).room p = true) ∧
    (let s := fab.modDie 0 (fun d => { d with dest := [(5, arriving false)] })
     classOf tACK = 1 ∧ s.destAt 0 5 = some (arriving false) ∧ s.ownRoom 0 = true ∧ { pkt tACK 1 [9] 0 with srckind := 2 }.unfit = false) ∧
    (let s := fab.modDie 0 (fun d => { d with dest := [(5, arriving true)] })
     s.destAt 0 5 = some (arriving true) ∧ s.trailGen 0 (arriving true).pkt ≠ 77 ∧
     s.leave 0 (arriving true).pkt = .now 0 []) := by decide +kernel

/-- A merge entry for source 0, tag 0. -/
def merge (awaited : Nat) : Merge := ⟨fpkt fMWRITE 1, 0, awaited, 0, 0, 0, 0⟩

theorem witness_FabricCollectives :
    treeItems 0 [0x3F, 0x41] = none ∧ treeItems 0 ([0x84, 0x41] ++ List.replicate 190 0) = some [.copy 4 [0x40, 0x41]] ∧
    freeKey (fab.die 0).merge 256 = some 0 ∧ 2 ≤ fab.destRoom 0 ∧ heads (atPort (fpkt fMWRITE 0)) = true ∧ fab.ownRoom 0 = true ∧
    treeItems 0 ([0x80, 0x41] ++ List.replicate 190 0) = some [.copy 0 [0x40, 0x41]] ∧ fab.usable 0 = true ∧
    (fab.port 0).room (fpkt fMWRITE 0) = true ∧ fab.ringRoom (ringNext (ringPos 0) none 4) (fpkt fMWRITE 0) = true ∧ fab.usable 1 = false ∧
    treeItems 0 ([0x40, 0x41] ++ List.replicate 190 0) = some [.leaf] ∧ freeKey (fab.die 0).dest 256 = some 0 ∧
    (let p := fpkt fMACK 0
     let it : FItem := ⟨p, 4, 0, false, none⟩
     let s := { fab with fabric := [it] }.modDie 1 (fun d => { d with merge := [(3, merge 2)] })
     let u := { fab with fabric := [it] }.modDie 1 (fun d => { d with merge := [(3, merge 1)] })
     p.home = false ∧ it.exit / 4 = 1 ∧ it.where_ = ringPos (it.exit / 4) ∧ s.fabHead 0 it = true ∧ s.mergeOf 1 p = some (3, merge 2) ∧
     u.mergeOf 1 p = some (3, merge 1) ∧ fab.mergeOf 1 p = none) ∧
    fab.egressOf 0 { pkt tRED 1 [9] 0 with redid := 9 } = some 0 ∧ fab.egressOf 0 { pkt tRED 1 [9] 0 with redid := 8 } = none ∧
    fab.usable (bitsOf (fab.collWord 0 false 0 0) 20 6) = true ∧
    (fab.port 0).room (fab.egressPkt 0 0 { pkt tRED 1 [9] 0 with redid := 9 }) = true ∧ { pkt tRED 1 [9] 0 with redid := 9 }.unfit = false ∧
    (let s := fab.wr ⟨dieBase 0 + 0xD000, 0⟩ 3
     let p := fpkt fRED 1
     s.arrivalFault 0 p = none ∧ fab.arrivalFault 0 p = some 5 ∧ s.diePos 0 = some 0 ∧ s.dieCredits 0 0 2 4 = true) := by
  decide +kernel

/-- The fold of CRC-32C that takes its value apart at every byte, which keeps its evaluation shallow. -/
def crcSteps : List Nat → Nat → Nat
  | [], c => c
  | b :: l, 0 => crcSteps l (crcByte 0 b)
  | b :: l, c + 1 => crcSteps l (crcByte (c + 1) b)

theorem crcSteps_eq (l : List Nat) (c : Nat) : crcSteps l c = l.foldl crcByte c := by
  induction l generalizing c with
  | nil => rfl
  | cons b l ih => cases c <;> simp only [crcSteps, ih, List.foldl_cons]

theorem payloadHash_eq (v : Vec) : payloadHash v = crcSteps (natToBytes v.toNat 0 256) 0xFFFFFFFF ^^^ 0xFFFFFFFF := by
  rw [crcSteps_eq]; rfl

/-- The CRC-32C of a payload of zeros, its value computed outside the model. -/
theorem crc_zeros : payloadHash 0 = 0xb872b190 := (payloadHash_eq 0).trans (by decide +kernel)

/-- An ingress packet whose HASH is its payload's CRC, and one whose is not (R247). -/
theorem witness_ingress_digest :
    let s := fab.wr ⟨dieBase 0 + 0xD000, 0⟩ 3
    s.digestFault 0 (fpkt fRED 1) = some 0 ∧ s.digestFault 0 { fpkt fRED 1 with daddr := 0xb872b190 } = none := by
  have h0 : (fpkt fRED 1).payload = 0 := rfl
  constructor
  · simp only [State.digestFault, h0, crc_zeros]
    exact if_pos (by decide +kernel)
  · simp only [State.digestFault, h0, crc_zeros]
    rw [if_neg (by decide +kernel), if_neg (by decide +kernel)]

/-! ### PartitionCommands to DomainActions -/

/-- A whole and a detour image for a partition without logical groves (it keeps the digest's evaluation small): LEN 144,
kernel 1, DUTY 10,000 and one empty TABLE section; its DIGEST computed outside the model. -/
def imageBytes : Nat :=
  0x90000000000000000600000000000000000000000000000000116f7e36d52645126e57f98d116ad4441e83d187cd8a41bbf58c8ac8e644681dcc3e3f68d68d2aa18484c2a0503f422300000000000000000000000000000000000000000000000100002710000000010000000000000090000000000000000000000000000000000000000149395041

/-- The panel with that image at host address 0x10000 and partition 0, its groves taken away, in a state. -/
def imaged (state : Nat) : State :=
  let s := panel.hostWrite 0x10000 ((List.range 144).map (fun i => BitVec.ofNat 8 (imageBytes / 256 ^ i)))
  let s := (s.setFld (HBM_STATUS_STATE 48) 1).setFld (HBM_STATUS_STATE 49) 1
  (s.setFld (MGMT_PARTp_STATUS_STATE 0) state).setFld (MGMT_PARTp_CFG_GRVS 0) 0

/-- Its IMAGE register naming a host address. -/
def asked (s : State) (a : Nat) : State := s.setFld (MGMT_PARTp_IMAGE_ADDR 0) a

/-- Partition 0 in a state with an image of no groves loaded. -/
def loaded (state : Nat) : State :=
  (panel.setFld (MGMT_PARTp_STATUS_STATE 0) state).modPart 0 (fun x => { x with image := some ((imaged 3).manifest 0x10000 0) })

/-- Partition 1 described: grove 1, ready, and one stack. -/
def described : State :=
  let s := ((panel.setReady 0 1 true).setFld (MGMT_PARTp_CFG_GRVS 1) 2).setFld (MGMT_PARTp_HBMSET_SET 1) 1
  s.setFld (MGMT_PARTp_GRANT_GLIMIT 1) 24576

theorem witness_PartitionCommands :
    panel.mute .mgmt (MGMT_PARTp_CMD 0).addr = false ∧ panel.mayWrite .mgmt .part = true ∧ panel.mayWrite .read .part = false ∧
    panel.flag (MGMT_PARTp_STATUS_BUSY 0) = false ∧ described.createOk 1 = true ∧ panel.createOk 1 = false ∧ described.partState 1 = 0 ∧
    (imaged 1).partState 0 = 1 ∧ (panel.setFld (MGMT_PARTp_STATUS_STATE 0) 1).loadFault 0 0 = some (1, 0, 0) ∧
    (loaded 3).partState 0 = 3 ∧ (loaded 3).flag (MGMT_PARTp_FSTAT_STALE 0) = false ∧ (loaded 3).flipped 0 = true ∧
    (let s := (loaded 3).modTile 0 (fun t => t)
     (s.setTrack 0 5 { tracked .none .out with pkt := { pkt tWRITE 0 [1] 0 with epoch := true } }).flipped 0 = false) := by decide +kernel

theorem witness_PartitionCommands_load : (imaged 1).partState 0 = 1 ∧
    ran (.load .mgmt 0) (asked (imaged 1) 0x10000) (fun t => decide (t.partState 0 = 3) && (t.part 0).image.isSome) = true := by decide +kernel

theorem witness_PartitionCommands_image : (asked (imaged 1) 0x10000).loadFault 0 0x10000 = none := by decide +kernel

theorem witness_PartitionCommands_update : (loaded 3).partState 0 = 3 ∧ (loaded 3).flag (MGMT_PARTp_FSTAT_STALE 0) = false ∧
    ((loaded 3).part 0).image.any (fun i => !(imaged 3).updateFault 0 0x10000 i && (imaged 3).updateFault 0 0 i) = true := by decide +kernel

/-- Partition 0 announced for reference count 5,000, its one grove's acknowledgement in or not. -/
def announced (acked : List Nat) (tries : Nat) : State := (loaded 3).modPart 0 (fun x => { x with announce := some ⟨5000, acked, tries, none, none⟩ })

theorem witness_ScheduledStarts :
    (announced [] 0).clkState 0 ≠ 0 ∧ (announced [] 0).partOfGrove 0 = some 0 ∧ ((announced [] 0).part 0).announce = some ⟨5000, [], 0, none, none⟩ ∧
    (announced [] 0).now + 1000 ≤ 5000 ∧ ((announced [0] 0).partGroves 0).all (fun g => NSet.has [0] g) = true ∧
    ((announced [] 3).partGroves 0).all (fun g => NSet.has [] g) = false ∧
    (panel.setFld (MGMT_PARTp_STATUS_COVERING 0) 1).flag (MGMT_PARTp_STATUS_COVERING 0) = true ∧
    ran (.scheduledRun 0) (announced [0] 0) (fun t => decide (t.partState 0 = 4)) = true := by decide +kernel

theorem witness_WaitLimit :
    (∀ w ∈ ([.fence, .wait 0 1 none] : List Stall), ((stalled w 2).core 0).stall = w ∧ ((stalled w 2).core 0).limitSent = false) ∧
    c00.wf = true ∧ ((panel.setCore 0 { busy with stall := .fence, limitSent := true }).core 0).limitSent = true ∧
    ran (.waitLimit c00) (stalled .fence 2) (fun t => (t.core 0).limitSent) = true := by decide +kernel

/-- The panel with one record on its way. -/
def reported : State := panel.send (panel.record (srcPos 0 16) 1 0)

theorem witness_FaultRecords :
    (reported.nextRecord 0).isSome = true ∧ reported.msgs.length ≤ 0 ∧
    (sent (msg false 0x105 7 0)).firstReady 0x105 false = some (0, msg false 0x105 7 0) ∧
    (sent (msg false 0x105 7 0)).syncReady 0 (msg false 0x105 7 0) = true ∧
    (sent (msg false 0x105 7 0)).farNode (msg false 0x105 7 0) = some 1 ∧ (sent (msg false 0x105 7 0)).msgLinks (msg false 0x105 7 0) = [] ∧
    (sent (msg false 0x105 7 0)).homeOf (msg false 0x105 7 0) ≠ .none ∧ (sent (msg false 0x105 7 0)).syncFault (msg false 0x105 7 0) = none ∧
    panel.routerUp 0 = true ∧ panel.msgs.length + panel.faults.flying.length ≤ 0 ∧
    ran (.cnetMessage 0 ⟨0, [0], false⟩ none) (sent (msg false 0x105 7 0)) (fun t =>
      decide (t.msgs = []) && decide (t.fld (TILE_NET_DROP_CNT_COUNT 1) = 1)) = true ∧
    panel.mute .mgmt (FLT_SRCn 13999).addr = false ∧ panel.mayWrite .mgmt .flt = true ∧ panel.mayWrite .read .flt = false ∧
    panel.mute .mgmt FLT_ACK.addr = false ∧ (run (.faultRecordArrival 0) reported).ackOk 0 = true ∧
    panel.mute .mgmt FLT_CMD.addr = false ∧ panel.status 0 = 1 ∧ panel.status 575 ≠ 1 ∧
    (run (.faultRecordArrival 0) reported).oldestUnacked.isSome = true ∧ panel.flag FLT_STATUS_OVERDUE = false ∧
    (let s := { panel with boot := { panel.boot with fw := [(0, ⟨[], true, 0⟩)] } }
     s.clkState (groveOf 0) = 2 ∧ (SMap.get (⟨[], false, 0⟩ : FwStore) s.boot.fw 0).running = true) ∧
    panel.fuses.stackMask.getLsbD 49 = true ∧
    (let s := { (panel.setFld MGMT_HOST_CTRL_STATE 2) with boot := { panel.boot with dieOk := [79], hostUp := true } }
     s.boot.dieOk.has (64 + 15) = true ∧ s.hostRuns = true) ∧
    (let s := { panel with faults := { panel.faults with beat := [(0, (0, 2))] } }
     s.faults.beat.find? (fun e => e.1 = 0) = some (0, (0, 2)) ∧ s.fld FLT_CFG_HB_MISS ≤ 2 + 1 ∧ s.faults.beatLost.has 0 = false ∧
     0 ∈ ({ s with clk := { s.clk with ref := 1000000 } }).polled) := by decide +kernel

/-- A state whose next domain action is a record's. -/
def acting (s : State) (r : FaultRec) : State := { s with faults := { s.faults with actions := [r] } }
/-- Whether it is so, for a domain. -/
def actsNext (s : State) (domain : Nat) (r : FaultRec) : Bool :=
  decide (s.faults.actions = [r]) && decide (r.domain = domain) && !s.mgmt.down
/-- A record of a source, of its own domain and partition. -/
def recordOf (s : State) (source cause : Nat) : FaultRec := s.record source cause 0

/-- The panel with position 1 spare in place of active, so that grove 0 has a sapling. -/
def spared : State :=
  { (panel.setStatus 1 2).setElem DESC_REV_MAP 16 1 0 with boot := { panel.boot with fw := [(1, ⟨[0], true, 0⟩)] } }

theorem witness_DomainActions :
    (let r := { recordOf panel 0 1 with slot := some 255 }
     let s := acting (slot 1 0) r
     actsNext s 1 r = true ∧ r.part = some 0 ∧ r.halted = false ∧ r.source % 20 ≠ 18 ∧ s.slotState 255 = 1) ∧
    (let r := recordOf panel 0 1
     actsNext (acting panel r) 1 r = true ∧ r.slot = none ∧ 0 ∈ panel.partPositions 0) ∧
    (let r := recordOf spared (srcPos 0 16) 1
     let s := acting spared r
     actsNext s 2 r = true ∧ r.pos = 0 ∧ s.status 0 = 1 ∧ s.logical 0 = some 0 ∧ s.saplingOf 0 = some 1 ∧ (s.part 0).image = none) ∧
    (let r := recordOf spared (srcPos 575 16) 1
     actsNext (acting spared r) 2 r = true ∧ r.pos < 576 ∧ spared.status 575 ≠ 1 ∧ spared.status 575 ≠ 2) ∧
    (let r := recordOf (loaded 4) (srcPos 0 16) 1
     let s := acting (loaded 4) r
     actsNext s 2 r = true ∧ s.partOf 0 = some 0 ∧ (s.part 0).image.isSome = true ∧ s.recoverable 0 0 = false) ∧
    (let r := recordOf (loaded 4) (srcGrove 0 17) 1
     actsNext (acting (loaded 4) { r with domain := 3 }) 3 { r with domain := 3 } = true ∧ (loaded 4).partOfGrove 0 = some 0) ∧
    (let r := { recordOf panel (srcHbm 0 0) 2 with part := some 0, domain := 4 }
     actsNext (acting panel r) 4 r = true ∧ panel.partExists 0 = true ∧ (r.source - 0x3180) % 8 = 0) ∧
    (let r := recordOf panel (srcGrove 0 17) 1
     actsNext (acting panel r) 5 r = true ∧ hardLimit r.source = true) ∧
    (let r := { recordOf (loaded 4) 0 4 with domain := 6 }
     actsNext (acting (loaded 4) r) 6 r = true ∧ r.part = some 0 ∧
     ((loaded 4).setFld (MGMT_PARTp_FPOL_AUTO 0) 0).flag (MGMT_PARTp_FPOL_AUTO 0) = false) ∧
    (let r := { recordOf panel 0 4 with domain := 6, part := some 1 }
     actsNext (acting panel r) 6 r = true ∧ panel.partExists 1 = false ∧ panel.partExists 0 = true ∧ (panel.part 0).image = none) ∧
    (loaded 3).flag (SEQ_CKPT_BASEp_VALID 0) = false ∧ (loaded 3).flag (MGMT_PARTp_STATUS_BUSY 0) = false := by decide +kernel

/-- Only partition 0 of `loaded` holds an image. -/
theorem witness_images : (∀ q, (panel.part q).image = none) ∧ (∀ q, q ≠ 0 → ((loaded 4).part q).image = none) := by
  have h : panel.parts = [] := rfl
  have alone (l : SMap Part) (hl : l.map (·.1) = [0]) (q : Nat) (hq : q ≠ 0) : (SMap.get Part.init l q).image = none := by
    match l, hl with
    | [(k, v)], hl => simp at hl; subst hl; simp [SMap.get, hq]; rfl
  exact ⟨fun q => by simp [State.part, h]; rfl, fun q hq => alone _ rfl q hq⟩

/-- An UPDATE that waits for the last flip, and one whose flip is complete. -/
theorem witness_waiting_update :
    (let s := (((loaded 3).modPart 0 (fun x => { x with updating := true })).setFld (MGMT_PARTp_STATUS_COVERING 0) 1)
     let w := s.setTrack 0 5 { tracked .none .out with pkt := { pkt tWRITE 0 [1] 0 with epoch := true } }
     s.flag (MGMT_PARTp_STATUS_COVERING 0) = true ∧ (s.part 0).updating = true ∧ s.flipped 0 = true ∧
     (w.part 0).updating = true ∧ w.flipped 0 = false ∧ (panel.part 0).updating = false) := by decide +kernel

/-! ### PanelReset to EnvelopeAndCooling -/

/-- The panel with an ADMIN session 3. -/
def admin : State := { panel with mgmt := { panel.mgmt with sessions := [⟨3, true⟩] } }

theorem witness_PanelReset :
    panel.pins.inReset = false ∧ panel.power.inputGone = false ∧ admin.session 3 = some ⟨3, true⟩ ∧
    State.reset.boot.started = false ∧ (run .inputLoss panel).power.inputGone = true := by decide +kernel

/-- Bring-up under way: PHASE 3, wave 0 begun, grove 0 powered, its positions' results `tested`. -/
def bringing (waves : List Nat) (logic tested : List Nat) : State :=
  let s := (panel.setFld MGMT_BOOT_STATUS_PHASE 3).setFld (GRV_PWR_STATUS_STATE 0) 3
  let s := ((s.setFld THM_CFG_DP_MIN 0).setFld THM_COOLANT_T_IN 0).setFld MGMT_HOST_CTRL_STATE 1
  { s with boot := { s.boot with started := true, waves := waves, rimOn := waves, logicOk := logic, tested := tested } }

/-- Fourteen positions of grove 0 active, each with its firmware. -/
def staffed : State :=
  let l := (List.range 16).map (posOfGrove 0)
  let s := l.foldl (fun (s : State) q => s.setStatus q (if q % 24 < 3 ∨ q / 24 < 2 then 1 else 2)) (bringing [0] [] l)
  { s with boot := { s.boot with fw := l.map (fun q => (q, ⟨[0], true, 0⟩)) } }

/-- A position that takes firmware, with block 0 stored. -/
def taking : State :=
  let s := bringing [0] [] ((List.range 16).map (posOfGrove 0))
  { s with boot := { s.boot with fw := [(0, ⟨[0], false, 0⟩)], released := [0] } }

/-- The same with an image of kind 2 running whose body is one block. -/
def broadcasting : State :=
  { taking with mgmt := { taking.mgmt with running := [(2, 0)], slots := [(2, ⟨.committed, Mem.write [] 0 32 (packFields [(64, 16, 2), (128, 32, 256)])⟩)] } }

theorem witness_BringUp_broadcast :
    broadcasting.takesFirmware 0 = true ∧ (broadcasting.runningImage 2).map (fun i => decide (0 < min 1024 i.bcastBlocks)) = some true ∧
    (let s := bringing [0] [800] []
     s.bringing = true ∧ s.boot.logicOk.has 800 = true ∧ s.boot.ended.has 48 = false ∧ s.fencedAt 7 0 = false) := by decide +kernel

/-- A block with a word that cannot be put right is dropped and counted (R187). -/
theorem test_bcast_lost :
    ran (.bcast 0 false 0 0 ⟨0, [3], false⟩) broadcasting (fun t => decide (t.fld (TILE_NET_DROP_CNT_COUNT 0) = 1)
      && decide ((t.fwStore 0).blocks = (broadcasting.fwStore 0).blocks)) = true := by decide +kernel

theorem witness_BringUp :
    (bringing [] [] []).waveOpen 0 = true ∧ (bringing [0] [] []).inLogic (.cdie 0) = true ∧ (bringing [0, 1, 2, 3, 4, 5] [] []).inLogic (.hrim 0) = true ∧
    (bringing [0] [] []).inLogic .host = true ∧ (bringing [0] [] []).fencedAt 2 0 = false ∧
    (bringing [0] [0] []).onTest (groveOf 0) = true ∧ (bringing [0] [0] []).boot.logicOk.has 0 = true ∧ (bringing [0] [0] []).boot.tested.has 0 = false ∧
    (let s := bringing [0] [647, 715] []
     s.bringing = true ∧ s.boot.logicOk.has (600 + 47) = true ∧ s.boot.ended.has 47 = false ∧ s.fencedAt 2 47 = false ∧
     s.boot.logicOk.has (700 + 480 / 32) = true ∧ s.boot.margined.has 480 = false ∧ s.stdOpen (0x40 + 480 / 32) = true) ∧
    taking.takesFirmware 0 = true ∧ groveOf 0 / 6 = 0 ∧ (List.range 1).all (taking.fwStore 0).blocks.has = true ∧
    (List.range 2).all (taking.fwStore 0).blocks.has = false ∧ (taking.fwStore 0).resends < 3 ∧
    staffed.onTest 0 = true ∧ staffed.reconciled 0 = true ∧ staffed.rooted = true ∧
    14 ≤ (((List.range 16).map (posOfGrove 0)).filter (fun q => decide (staffed.status q = 1))).length ∧
    ((((List.range 16).map (posOfGrove 0)).filter (fun q => decide (staffed.status q = 1))).all (fun q => (staffed.fwStore q).running)) = true ∧
    (let s := (panel.setFld (HBM_STATUS_STATE 48) 1).setFld (HBM_STATUS_STATE 49) 1
     ({ s with boot := { s.boot with dieOk := [128] } }).boot.dieOk.has 128 = true ∧ s.stackUsable 48 = true ∧ s.stackUsable 49 = true ∧
     s.boot.hostUp = false ∧ s.mgmt.down = false ∧ s.fld MGMT_BOOT_STATUS_PHASE ≠ 6) ∧
    panel.mute .mgmt MGMT_TAP_CFG.addr = false ∧ panel.mayWrite .mgmt .hostg = true ∧
    ((panel.setFld MGMT_TAP_CFG_EXT 1).flag MGMT_TAP_CFG_EXT = true ∧ panel.tapClosed (.position 0) = true ∧
     panel.tapClosed (.grove 35) = false ∧ ((panel.setFld (GRV_PWR_STATUS_STATE 35) 2).tapPowered (.grove 35)) = true) := by decide +kernel

/-- A change to operating point 1 on its way. -/
def changingOpp (at_ : Option Nat) (acked : List Nat) (tries : Nat) : State :=
  { panel with clk := { panel.clk with change := some ⟨1, .host, [], at_, acked, tries⟩ } }

theorem witness_OperatingPoint :
    panel.mute .mgmt CLK_OPP_CMD.addr = false ∧ panel.mayWrite .read .clkpwr = false ∧ panel.mayWrite .mgmt .clkpwr = true ∧
    panel.clk.change = none ∧ panel.oppFault 1 .host = none ∧ panel.oppFault 3 .host = some 1 ∧ panel.clockedGroves = [0] ∧ panel.opp = 2 ∧
    panel.opp < 3 ∧ (panel.wr DESC_FEATURES 32).oppFault 3 .host = none ∧
    (changingOpp none [] 0).clk.change = some ⟨1, .host, [], none, [], 0⟩ ∧ panel.fld (GRV_PWR_STATUS_VCORE 0) ≤ panel.fld (GRV_PWR_STATUS_VCORE 0) + 5 ∧
    (changingOpp (some 5000) [0] 0).oppAcked ⟨1, .host, [], some 5000, [0], 0⟩ = true ∧
    (changingOpp (some 5000) [] 3).oppAcked ⟨1, .host, [], some 5000, [], 3⟩ = false ∧ panel.clk.queued = none := by decide +kernel

theorem witness_ClockEvents :
    groveStep 0 1 = some 1 ∧ panel.oppSupported 2 = true ∧ panel.oppSupported 3 = false ∧
    (panel.setFld (GRV_CLK_CFG_STRETCH_EN 0) 1).flag (GRV_CLK_CFG_STRETCH_EN 0) = true ∧ panel.clkState 0 ≠ 0 ∧
    panel.clk.stretched.find? (fun e => e.1 = 0) = none ∧
    ((panel.setFld (GRV_PWR_STATUS_STATE 35) 3).clkState 35 = 0 ∧ (panel.setFld (GRV_PWR_STATUS_STATE 35) 3).fld (GRV_PWR_STATUS_STATE 35) = 3 ∧
     SMap.get 0 panel.power.stages 35 = 0 ∧ ({ panel with boot := { panel.boot with ended := [235] } }).boot.ended.has (200 + 35) = true) ∧
    panel.clk.change.bind (·.at_) = none ∧ ((changingOpp (some 5000) [] 0).clk.change.bind (·.at_)).isSome = true ∧
    panel.flag (GRV_CLK_STATUS_LOCK 0) = true ∧ (panel.setFld CLK_STATUS_SOURCE 1).source = 1 ∧
    ((panel.setFld CLK_STATUS_SOURCE 2).setFld CLK_STATUS_BACKUP_OK 1).source = 2 ∧
    (panel.setFld CLK_STATUS_BACKUP_OK 1).flag CLK_STATUS_BACKUP_OK = true ∧
    (run .referenceLoss (panel.setFld CLK_STATUS_SOURCE 1)).clk.lostAt = some 0 ∧
    (panel.setFld CLK_CFG_AUTO_RETURN 1).flag CLK_CFG_AUTO_RETURN = true := by decide +kernel

theorem witness_PowerDelivery :
    (let s := { panel with power := { panel.power with tokens := [(35, 3, 2500)] } }
     s.power.tokens.find? (fun t => t.1 = 35) = some (35, 3, 2500)) ∧
    (let s := { panel with power := { panel.power with droops := [(0, [8, 7, 6, 5, 4, 3, 2, 1])] } }
     8 ≤ (SMap.get [] s.power.droops 0).length ∧ (SMap.get [] s.power.droops 0).headD 0 ≤ (SMap.get [] s.power.droops 0).getD 7 0 + 100000 ∧
     s.fld (GRV_PWR_STATUS_TRIM 0) < 3 ∧ s.setpoint 0 s.levelOpp < 850) ∧
    (panel.setFld (GRV_PWR_STATUS_TRIM 0) 3).fld (GRV_PWR_STATUS_TRIM 0) ≠ 0 ∧ panel.flag (GRV_PWR_PHn_FAILED 0 9) = false ∧
    panel.fuses.groves.getLsbD 35 = true ∧ panel.fld (GRV_PWR_STATUS_PH_FAIL 0) = 0 ∧
    (panel.setFld (GRV_PWR_STATUS_PH_FAIL 0) 1).fld (GRV_PWR_STATUS_PH_FAIL 0) ≠ 0 ∧ panel.flag (GRV_PWR_STATUS_SHORT 0) = false ∧
    (let s := { (panel.setFld (GRV_PWR_PHn_BASE 0 9) 1000) with clk := { panel.clk with ref := 60000000000 }, power := { panel.power with trend := [(9, 0)] } }
     s.fld (GRV_PWR_PHn_BASE 0 9) ≠ 0 ∧ s.flag (GRV_PWR_PHn_TREND 0 9) = false ∧
     s.fld (GRV_PWR_PHn_BASE 0 9) * (100 + s.fld (GRV_PWR_CFG_TREND_PCT 0)) ≤ 100 * 2000 ∧ SMap.get s.now s.power.trend (16 * 0 + 9) = 0 ∧
     0 + 60000000000 ≤ s.now) ∧
    Nat.testBit ((panel.setFld PWR_STATUS_FE_OK 255).fld PWR_STATUS_FE_OK) 7 = true := by decide +kernel

theorem witness_EnvelopeAndCooling :
    panel.power.empty = false ∧ panel.sensed 0 = true ∧ panel.senseState 0 4 ≠ 2 ∧
    (let s := { panel with thermal := { panel.thermal with absent := [(4, 0)] } }
     s.thermal.absent.find? (fun e => e.1 = 8 * 0 + 4) = some (4, 0)) ∧
    panel.flag THM_CFG_MODE = false ∧ (panel.setFld THM_CFG_MODE 1).flag THM_CFG_MODE = true ∧ 0 < panel.fld THM_STATUS_TOPP ∧ 0 < panel.opp ∧
    panel.thermal.steppedDown = none ∧
    (let t := run (.thermalModelUpdate [(0, 1000)]) panel
     panel.threshold ≤ degrees (t.fld THM_PANEL_PRED)) ∧
    panel.flag THM_STATUS_FLOW_LOST = false ∧
    (let s := run .flowStop ((panel.setFld THM_CFG_DP_MIN 0).setFld THM_COOLANT_T_IN 0)
     s.flag THM_STATUS_FLOW_LOST = true ∧ s.coolantGood = true) := by decide +kernel

/-! ### HostWindows to MemoriesCanonical -/

/-- The host running, window 15 enabled for partition 0 with rights, the bridge's trail to logical tile 0. -/
def hosted (rights : Nat) : State :=
  let s := (panel.setFld MGMT_HOST_CTRL_STATE 2).setFld (MGMT_HWINw_EN 15) 1
  let s := (s.setFld (MGMT_HWINw_RIGHTS 15) rights).setFld (MGMT_HWINw_PART 15) 0
  { s with boot := { s.boot with hostUp := true }, bridge := { s.bridge with trails := [(0, [0]), (512, [0, 4])] } }
/-- A host address of the window. -/
def at15 (a : Nat) : Nat := windowBase + 15 * 2 ^ 46 + a
/-- The same with stack 0 the set of partition 0. -/
def hostedHbm : State := (hosted 15).setFld (MGMT_PARTp_HBMSET_SET 0) 1
/-- A tracked entry of the bridge. -/
def bentry (read : Option (Nat × Nat)) (held : Bool) : BTrack :=
  ⟨{ pkt tREAD 0 [] (2 ^ 44) with srckind := 1, tag := 5 }, 15, 0, read, 5, 0, none, 0, held, 0⟩
/-- The host with that entry and an answer. -/
def answering (read : Option (Nat × Nat)) (type : Nat) : State :=
  let s := hosted 15
  { s with bridge := { s.bridge with track := [(5, bentry read false)] }, net := [⟨{ pkt type 1 [] 0 with srckind := 1 }, .host 0, 0, true, false⟩] }

theorem witness_HostWindows :
    (hosted 15).hostRuns = true ∧ (hosted 15).window (windowBase - 8) = none ∧ (hosted 15).window (at15 256) = some (15, 256) ∧
    (hosted 15).window windowBase = none ∧ (hosted 15).dspan 256 8 = some (.spad 0 256) ∧ (hosted 15).right 15 (storeRight (.spad 0 256)) = true ∧
    (hosted 0).right 15 0 = false ∧ (hosted 15).dspan (2 * 2 ^ 44 + 8) 8 = some (.sync 1) ∧ (hosted 15).right 15 3 = true ∧
    (hosted 15).bridge.syncs = [] ∧ (hosted 15).earlierWrites 0 0 = false ∧
    (answering none tACK).earlierWrites 0 6 = true ∧ (hosted 15).dspace (2 ^ 44) = some (.hbm 0) ∧ (hosted 15).right 15 1 = true ∧
    hostedHbm.bridgeWay 15 (2 ^ 44) ≠ none ∧ (hosted 15).bridgeWay 15 (2 ^ 44) = none ∧ (hosted 15).flag MGMT_HBR_ERR_CAP_VALID = false ∧
    (hostedHbm.bridge.out = [] ∧ ∃ l, hostedHbm.bridgeWay 15 (2 ^ 44) = some l ∧ 1 ≤ hostedHbm.credits (linkKey (l.headD 0) 24) 0) ∧
    (let b : WcBuf := ⟨15, 0, 256, 0, 1, 0⟩
     let full := { hosted 15 with bridge := { (hosted 15).bridge with buffers := List.replicate 16 b } }
     (full.bridge.buffers.find? (fun x => decide (x.block = 512))).isSome = false ∧ 16 ≤ full.bridge.buffers.length ∧ b.window < 16) ∧
    (let b : WcBuf := ⟨15, 0, 256, 0, 1, 0⟩
     let s := { hosted 15 with bridge := { (hosted 15).bridge with buffers := [b] } }
     s.bridge.buffers[0]? = some b ∧ b.words.getLsbD 0 = true ∧ s.bridgeWay b.window (b.block + 0) ≠ none) ∧
    ([(none, tACK), (some (0, 8), tRDATA), (some (0, 8), tNACK), (none, tNACK), (none, tDEAD)].all (fun x =>
      let s := answering x.1 x.2
      decide ((s.net[0]?).map (fun it => classOf it.pkt.type) = some 1) && decide (s.bridgeEntry 5 = some (bentry x.1 false)) &&
        decide ((bentry x.1 false).pkt.tag = 5) && !s.earlierWrites 0 5 && decide (s.bridge.syncs = []))) = true ∧
    (let s := { hosted 15 with net := [⟨{ pkt tACK 1 [] 0 with srckind := 1 }, .host 0, 0, true, false⟩] }
     s.bridgeEntry 5 = none) ∧
    (let s := { hostedHbm with bridge := { hostedHbm.bridge with gen := 1 } }
     (bentry none false).gen ≠ s.bridge.gen ∧ s.bridgeTrail (bentry none false).pkt ≠ none) ∧
    (bentry none true).held = true ∧ (bentry none false).held = false := by decide +kernel

/-- The controller up. -/
def controlled : State := { admin with boot := { panel.boot with started := true } }

/-- 10 ms without a refresh of its watchdog hold ALIVE low, a refresh lets it go (R284). -/
theorem test_watchdog_late :
    (let s : State := { controlled with clk := { controlled.clk with ref := 2000000 } }
     s.controllerUp = true ∧
     ran (.governorUpdate ⟨0, 0, 0, false⟩ 0 0) s (fun t => t.mgmt.late && decide (t.mgmt.refreshed = 0) && !t.pins.alive) = true ∧
     ran (.governorUpdate ⟨0, 0, 0, true⟩ 0 0) s (fun t => !t.mgmt.late && decide (t.mgmt.refreshed = t.now)) = true) ∧
    panel.controllerUp = false := by decide +kernel

theorem witness_HostAndSideband :
    panel.mayWrite .mgmt .hostg = true ∧ panel.mayWrite (.host 0) .hostg = false ∧
    ((panel.setFld MGMT_HOST_CTRL_WDOG_EN 1).setFld MGMT_HOST_CTRL_AUTO_RESET 1).flag MGMT_HOST_CTRL_AUTO_RESET = true ∧
    (panel.setFld MGMT_HOST_CTRL_WDOG_EN 1).flag MGMT_HOST_CTRL_WDOG_EN = true ∧
    ((panel.setFld MGMT_HOST_CTRL_WDOG_EN 1).setFld MGMT_HOST_CTRL_AUTO_RESET 0).flag MGMT_HOST_CTRL_AUTO_RESET = false ∧
    controlled.controllerUp = true ∧ panel.power.inputGone = false ∧ smbCommands.contains 0x7F = false ∧
    panel.pins.cageOff.has 1 = false ∧
    ran .smbVinRead (panel.setFld PWR_STATUS_VIN 48000) (fun t => decide (t.answer.length = 1)) = true := by decide +kernel

/-- Kind 5 on trial in slot B, which runs; or being updated by session 3. -/
def trialled : State :=
  let s := controlled.setStd (bootWord 5) 3
  { s with mgmt := { s.mgmt with running := [(5, 1)] } }
/-- Kind 5's target slot open for an update by session 3. -/
def updating : State := { controlled with mgmt := { controlled.mgmt with updating := [(5, 3)] } }

theorem witness_SessionOperations :
    controlled.session 7 = none ∧ controlled.session 3 = some ⟨3, true⟩ ∧ controlled.mayOperate ⟨3, true⟩ true .noRecovery = true ∧
    controlled.mayOperate ⟨3, false⟩ true .always = false ∧ controlled.mayOperate ⟨3, true⟩ true .noRom = true ∧
    controlled.kindOk 5 = true ∧ controlled.kindOk 6 = false ∧ controlled.trial 5 = false ∧ trialled.trial 5 = true ∧
    controlled.updates 5 3 = false ∧ updating.updates 5 3 = true ∧ slotSize 5 < 32 * 2 ^ 20 - 1 + 2 ∧ 32 * 2 ^ 20 - 1 + 1 ≤ slotSize 5 ∧
    (updating.imageFault 5 (updating.fwSlot 5 (updating.target 5))).isSome = true ∧
    trialled.runningSlot 5 = some (trialled.pref 5) ∧ controlled.runningSlot 5 ≠ some (controlled.pref 5) ∧
    controlled.stdOpen (bootWord 5) = true ∧ controlled.stdOpen (24 + (5 - 1)) = true ∧
    (let s := controlled.setSlot 5 1 ⟨.valid, []⟩
     s.target 5 = 1 ∧ (s.fwSlot 5 (s.target 5)).state = .valid ∧ s.trial 5 = false) ∧
    (controlled.fwSlot 5 (controlled.target 5)).state ≠ .valid ∧ controlled.stdOpen (fenceWord 1023 + 1) = true ∧
    controlled.stdOpen (0x40 + 511 / 32) = true ∧ controlled.revocable 7 = true ∧
    (controlled.setSlot 5 0 ⟨.committed, []⟩).revocable 7 = false ∧
    (List.range 16).all (fun p => !(controlled.setFld (MGMT_PARTp_STATUS_STATE 0) 0).partExists p) = true := by decide +kernel

/-- A panel whose fuses leave one grove, one stack and one port: a set of images for it covers each die. -/
def small : State :=
  { controlled with fuses := { controlled.fuses with groves := 1, stackMask := 1, ports := 1 } }
/-- A small image of a kind: its compatibility entries, whose content has the digest. -/
def image (kind : Nat) (compat : List Nat) (digest : Nat) : FwSlot :=
  let head := packFields [(0, 64, 0x46395041 + 2 ^ 32), (64, 16, kind), (160, 32, compat.length)]
  let m := Mem.write (Mem.write [] 0 32 head) 0x20 48 digest
  ⟨.committed, (compat.zip (List.range compat.length)).foldl (fun m e => Mem.write m (0x4160 + 8 * e.2) 8 e.1) m⟩
/-- A compatibility entry: class, kind, any version or stepping. -/
def covers (cls kind : Nat) : Nat := packFields [(0, 2, cls), (4, 4, kind), (24, 16, 0xFFFF)]
/-- The images of kinds 1 to 5, each digest computed outside the model. -/
def images : List FwSlot :=
  [ image 1 [covers 1 6, covers 2 2, covers 2 3, covers 2 4, covers 2 5] 0x8440d6d82e8fe649e7f993ecefb07084b9b4a4b169a48d5646b5facd08c17af5aff8ac21c9c81469cd673f227cc220d6
  , image 2 [covers 1 1, covers 1 2, covers 2 3, covers 2 4, covers 2 5] 0xd149000e74682c848f0e984fdd346c7734d6dc6cf52e455dfcfe85ea0598b6b129dc49de9c6814f5c4fcc5c798d7b108
  , image 3 [covers 1 3, covers 1 7, covers 2 4, covers 2 5] 0xe4f12ff0fb516a271134f93ffa21dde3e59845bf6a5c50ee93117d629ec7a81a00e89d5c4d1a30dfc762dec90e9775a7
  , image 4 [covers 1 4, covers 2 5] 0x2a2f215455cbd8a939b0fd9ffd8fbe3c3f87405449fe442c49e20e2a26934e568f1761977c8e6e6537157bdc79522541
  , image 5 [covers 1 5, covers 1 7] 0x19ea28751354281383f17fcd251bcd6b29f3d4eee12bdcbb56db3a5dd959b7a8266c01f98f0a56cbb7c5e2fe7159c09a ]
/-- Kind 1 to 5 in their slots A. -/
def stocked : State :=
  { small with mgmt := { small.mgmt with slots := (images.zip (List.range 5)).map (fun e => (2 * e.2, e.1)), running := [(1, 0)], down := true } }

/-- Whether two signatures under a key are good is no part of the model (log entry 14): with them good, an update can end
well, and a restart finds a slot. -/
theorem witness_signed (h3 : ∀ k m x, Config.rsaValid k m x = true) (h4 : ∀ k m x, Config.slhValid k m x = true) :
    stocked.imageFault 5 (stocked.fwSlot 5 0) = none ∧ stocked.restartSlot = some 0 ∧ stocked.mgmt.down = true := by
  simp only [State.imageFault, State.restartSlot, State.pick, State.slotUsable, State.fallback, State.verify, h3, h4]
  decide +kernel

theorem witness_ManagementEvents :
    controlled.controllerUp = true ∧ stocked.mgmt.down = true ∧ small.restartSlot = none ∧
    (let s := { controlled with mgmt := { controlled.mgmt with restarts := [7, 6] } }
     s.mgmt.restarts.getD 1 0 ≠ 0 ∧ s.now ≤ s.mgmt.restarts.getD 1 0 + 60000000000) ∧
    ((panel.log 1 0 []).mgmt.logBuffer ≠ [] ∧ (panel.log 1 0 []).mgmt.logMissed = 0) ∧
    controlled.mgmt.sessions.length < 8 ∧ (controlled.setFld MGMT_MPORT_LINK0 1).linkUp (controlled.fld MGMT_MPORT_ACTIVE) = true ∧
    8 ≤ (List.replicate 8 (⟨3, true⟩ : Session)).length ∧ controlled.boot.started = true ∧ controlled.pins.cageOff.has 1 = false ∧
    (let s := (controlled.setLink 0 false).setLink 1 true
     s.mgmt.downFrom = some 0 ∧ s.linkUp (1 - s.fld MGMT_MPORT_ACTIVE) = true) ∧
    controlled.linkUp (1 - controlled.fld MGMT_MPORT_ACTIVE) = false ∧ panel.mayWrite .mgmt .hostg = true ∧ panel.mayWrite (.host 0) .hostg = false ∧
    stdDefined 2 = false ∧ panel.mayWriteStd .admin 3 = false ∧ stdAllows 5 0 = false ∧ stdMask 11 = 0 ∧ stdDefined 11 = true ∧ panel.mayWriteStd .admin 11 = true ∧ stdAllows 11 0 = true ∧ stdMask 5 ≠ 0 ∧
    panel.mayWriteStd .admin 5 = true ∧ stdAllows 5 (10 * 256) = true ∧ stdAllows 5 (300 * 256) = true ∧ stdAllows 5 (301 * 256) = false ∧
    panel.stdOpen 5 = true ∧ ({ panel with wcnt := [(5, stdLimit)] }).stdOpen 5 = false := by decide +kernel

/-- A register's row and address. -/
def rowIs (r : Reg) (p : RegRow → Bool) : Bool := match (blkOf r.addr).reg with
  | some (row, a) => (blkOf r.addr).plain && decide (a = r.addr) && p row
  | none => false

theorem witness_ControlSpace :
    ([1, 2, 4, 8].all (fun b => decide (b - 1 = 0 ∨ ((GRV_CLK_CFG 0).addr + b - 1) % b ≠ 0) && decide ((GRV_CLK_CFG 0).addr % b = 0))) = true ∧
    (panel.mute (.host 0) (TILE_SPAD_CFG 575).addr = false ∧ (panel.setStatus 575 3).mute (.host 0) (TILE_SPAD_CFG 575).addr = true) ∧
    (blkOf 0x7FFFFFF8).reg = none ∧ panel.mute .mgmt (GRV_CLK_CFG 0).addr = false ∧
    blkOf (imemKey 0 0 - imemKey 0 0 + 0x100000000) = .imem 0 0 ∧ (panel.core 0).stopped = true ∧ ((panel.setCore 0 busy).core 0).stopped = false ∧
    (blkOf (GRV_CLK_CFG 0).addr).plain = true ∧
    rowIs (GRV_CLK_CFG 0) (fun row => panel.mayWrite .mgmt row.who && !panel.mayWrite .read row.who &&
      row.fields.all (fun f => f.ok (classCap (panel.fld PWR_CFG_CLASS)) (panel.rd (GRV_CLK_CFG 0)) (panel.rd (GRV_CLK_CFG 0)) (2 ^ 64 - 1)) &&
      !row.fields.all (fun f => f.ok (classCap (panel.fld PWR_CFG_CLASS)) (panel.rd (GRV_CLK_CFG 0)) (2 ^ 64 - 1) (2 ^ 64 - 1))) = true ∧
    panel.mute .mgmt (SEQ_CMDs 255).addr = false ∧ panel.mute .mgmt (MGMT_PARTp_CMD 15).addr = false ∧
    controlled.creadServes PWR_CFG.addr = true ∧ ((controlled.setFld MGMT_BOOT_STATUS_PHASE 5).creadServes PWR_CFG.addr) = false ∧
    controlled.absent PWR_CFG.addr = false ∧ small.absent (TILE_SPAD_CFG 575).addr = true ∧ blkOf 0x7FFFFFF8 = .none ∧
    controlled.computed (blkOf PWR_CFG.addr) = none := by decide +kernel

theorem witness_MemoriesCanonical :
    State.reset.canonical ∧ ran (.wdogKick .mgmt) State.reset (fun _ => true) = true := by
  refine ⟨⟨rfl, rfl, rfl, rfl⟩, by decide +kernel⟩

theorem witness_QueueAndFuses :
    ran (.revoke 3 7) controlled (fun t => t.fuses.revoked.getLsbD 7) = true ∧
    ran .flowStop controlled (fun t => decide (t.pending = [])) = true := by decide +kernel

theorem test_step_takes_front :
    (match step { panel with pending := [.stageTokenReturn 0, .flowStop] } with
     | .next t => decide (t.pending = [.flowStop])
     | .fault _ => false
     | .refused _ => false) = true := by decide +kernel

theorem test_step_idles : step State.reset = .next State.reset := rfl


/-! ### Values (R50, R36) and words -/

/-- The scalar value that busy's s1 = 5 and s2 = 3 put on the way to s3, with its due cycle and
its destination. -/
def lands (i : CoreId → Instr) (opc rd rb imm : Nat) : List (Nat × Dst × Nat) :=
  match exec (i c00) (slotState busy 0 (sW opc rd 1 rb imm)) with
  | .next t => (t.core 0).pend.map (fun p => (p.due, p.dst, p.val.toNat))
  | .fault _ => []
  | .refused _ => []

/-- R50's rows by hand: 5 + 3; 3 bits of shift; 5 - 3; 5 * 3 at latency 3; high half 0; 5 + (-1); bit 5 of 3 is no shift. -/
theorem test_scalar_values :
    lands .sAdd 0x01 3 2 0 = [(1, .sreg 3, 8)] ∧ lands .sSub 0x02 3 2 0 = [(1, .sreg 3, 2)] ∧
    lands .sXor 0x05 3 2 0 = [(1, .sreg 3, 6)] ∧ lands .sSll 0x06 3 2 0 = [(1, .sreg 3, 40)] ∧
    lands .sMul 0x09 3 2 0 = [(3, .sreg 3, 15)] ∧ lands .sMulhu 0x0a 3 2 0 = [(3, .sreg 3, 0)] ∧
    lands .sAddi 0x10 3 31 (2 ^ 21 - 1) = [(1, .sreg 3, 4)] ∧ lands .sAdd 0x01 0 2 0 = [] := by decide +kernel

/-- R50: 5 < 3 is false, 5 ≠ 3 sets every lane. -/
theorem test_compare_values :
    lands .sCmpLt 0x22 2 2 0 = [(1, .preg 2, 0)] ∧ lands .sCmpNe 0x21 2 2 0 = [(1, .preg 2, 2 ^ 64 - 1)] := by decide +kernel

/-- A result lands when its time comes (R44). -/
theorem test_writeback_lands :
    ran (.registerWriteback c00)
      (panel.setCore 0 { busy with nextIssue := 4, pend := [⟨3, .sreg 3, BitVec.allOnes 64, 8, 0⟩] })
      (fun t => decide (((t.core 0).sreg 3).val = 8)) = true := by decide +kernel

/-- No word spells a command, since the table gives no bits. -/
theorem test_no_word : decodeTableWord 64 0x10 = none ∧ State.reset.withFetchWord 64 0x10 = State.reset := ⟨rfl, rfl⟩

/-! ### Well-formedness: one ill-formed term for each check -/

theorem test_wf_cores :
    Instr.wf (.sAdd ⟨576, 0⟩) = false ∧ Instr.wf (.sAdd ⟨0, 8⟩) = false ∧ Instr.wf (.sAdd ⟨575, 7⟩) = true := by decide +kernel

theorem test_wf_tiles :
    Instr.wf (.controlWrite (.host 0) 0 0 3) = false ∧ Instr.wf (.wheelTurnAccess 576 0) = false ∧
    Instr.wf (.wheelTurnAccess 0 16) = false ∧ Instr.wf (.controlWindowOpen .mgmt 0 16 0) = false ∧
    Instr.wf (.reachEntryWrite .mgmt 0 4 0) = false ∧ Instr.wf (.syncSetApply ⟨131072, 1, 0⟩) = false ∧
    Instr.wf (.seqWatchArm .mgmt 64 0) = false ∧ Instr.wf (.activate .mgmt 256) = false ∧
    Instr.wf (.heldPacketResend 0 64) = false ∧ Instr.wf (.creditReturn 0 4) = false ∧ Instr.wf (.creditReturn 18432 0) = false ∧
    Instr.wf (.cnetMessage 0 LinkErrors.none (some 576)) = false ∧ Instr.wf (.seqOpWaitDecide 256) = false ∧
    Instr.wf (.hbmScrubPass 50) = false ∧ Instr.wf (.hbmGrantWrite .mgmt 0 16 0) = false ∧
    Instr.wf (.moverStart 0 3) = false := by decide +kernel

theorem test_wf_panel :
    Instr.wf (.helloSend 64) = false ∧ Instr.wf (.lRimDieFault 16) = false ∧ Instr.wf (.create .mgmt 16) = false ∧
    Instr.wf (.declare .mgmt 1024) = false ∧ Instr.wf (.force .mgmt 14000) = false ∧ Instr.wf (.waveStart 6) = false ∧
    Instr.wf (.logicBistDone (.cdie 576) true 0 0) = false ∧ Instr.wf (.logicBistDone (.hrim 48) true 0 0) = false ∧
    Instr.wf (.logicBistDone (.lrim 16) true 0 0) = false ∧ Instr.wf (.laneMarginDone 512 true 0) = false ∧
    Instr.wf (.bcast 0 false 8 0 LinkErrors.none) = false ∧ Instr.wf (.groveReady 36) = false ∧
    Instr.wf (.crossingAlignment 0 4 0 0) = false ∧ Instr.wf (.phaseFail 0 10) = false ∧
    Instr.wf (.feConverterFail 8) = false := by decide +kernel

theorem test_wf_sensors :
    Instr.wf (.sensorFail 0 5) = false ∧ Instr.wf (.sensorRead (.diode 0 5) none) = false ∧
    Instr.wf (.sensorRead (.die (.lrim 16)) none) = false := by decide +kernel

theorem test_wf_management :
    Instr.wf (.stdWrite .mgmt 16384 0) = false ∧ Instr.wf (.hostWindowRead 32 0 8) = false ∧ Instr.wf (.hostWindowWrite 32 0 8 0) = false ∧ Instr.wf (.cageOverpower 2) = false ∧
    Instr.wf (.externalTapAccess (.grove 36) true) = false ∧ Instr.wf (.externalTapAccess (.position 576) true) = false ∧
    Instr.wf (.externalTapAccess (.hrim 48) true) = false ∧ Instr.wf (.externalTapAccess (.lrim 16) true) = false := by
  decide +kernel

/-- A command for a unit the panel does not have stops with that fault. -/
theorem test_no_such_unit : exec (.wheelTurnAccess 576 0) State.reset = .fault .noSuchUnit := rfl

end Sys2Proof.Tests
end

section
/-! PROOFS. Every command answers in order: with the queue and the fuses it was given, and only where it names a unit that
the panel does not have with a fault (O2). -/

namespace Sys2Proof.Machine

open Laws.Instances (place)

/-- A state with the queue and the fuses of another. -/
structure State.Keeps (s t : State) : Prop where
  queue : t.pending = s.pending
  fuses : t.fuses = s.fuses

theorem State.keeps_self (s : State) : s.Keeps s := ⟨rfl, rfl⟩
theorem State.keeps_atRef (s : State) (r : Nat) : s.Keeps (s.atRef r) := ⟨s.atRef_pending r, s.atRef_fuses r⟩
theorem State.keeps_atCycle (s : State) (g n : Nat) :
    s.Keeps (s.atCycle g n) := ⟨s.atCycle_pending g n, s.atCycle_fuses g n⟩
theorem State.Keeps.lastDone {s t : State} (h : s.Keeps t) (k : Nat) : s.Keeps (t.lastDone k) := ⟨h.queue, h.fuses⟩

theorem State.Keeps.power {s t : State} (h : s.Keeps t) (p : Power) :
    s.Keeps { t with power := p } := ⟨h.queue, h.fuses⟩
theorem State.keeps_restored (s t : State) : s.Keeps { t with pending := s.pending, fuses := s.fuses } := ⟨rfl, rfl⟩

/-- Flushing the log and entering reset (R425). -/
theorem State.keeps_reset (s : State) : s.Keeps s.flushLog.inReset := by
  suffices h : s.Keeps s.flushLog by
    unfold State.inReset
    exact ⟨h.queue, h.fuses⟩
  unfold State.flushLog
  dsimp only
  split
  · exact ⟨rfl, rfl⟩
  · rw [State.log_frame]
    exact ⟨rfl, rfl⟩

/-- An answer in order: a next state that keeps the queue and the fuses, or a fault where the command names a unit that
the panel does not have. -/
inductive InOrder (named : Bool) (s : State) : Out → Prop
  | next {t : State} (h : s.Keeps t) : InOrder named s (.next t)
  | fault (r : Fault) (h : named = false) : InOrder named s (.fault r)

theorem InOrder.weaken {named : Bool} {s : State} {o : Out} : InOrder true s o → InOrder named s o
  | .next h => .next h

/-- A command that checks the units it names first. -/
theorem InOrder.checked {named : Bool} {s : State} {o : Out} {p : Prop} [Decidable p] (hn : p → named = false)
    (ho : InOrder true s o) : InOrder named s (if p then noUnit else o) := by
  split
  · next h => exact .fault _ (hn h)
  · exact ho.weaken

/-! Every function through which meanings answer takes the queue and the fuses from the state it is given. -/
section
variable {s u t : State} {f : State → State}

theorem idle_inOrder : InOrder true s (idle s) := .next s.keeps_self
theorem answer_inOrder (h : s.Keeps u) : InOrder true s (answer u t) := .next ⟨h.queue, h.fuses⟩
theorem answerNet_inOrder (h : s.Keeps u) : InOrder true s (answerNet u t) := .next ⟨h.queue, h.fuses⟩
theorem answerSync_inOrder (h : s.Keeps u) : InOrder true s (answerSync u t) := .next ⟨h.queue, h.fuses⟩
theorem answerFab_inOrder (h : s.Keeps u) : InOrder true s (answerFab u t) := .next ⟨h.queue, h.fuses⟩
theorem answerHbm_inOrder (h : s.Keeps u) : InOrder true s (answerHbm u t) := .next ⟨h.queue, h.fuses⟩
theorem answerEth_inOrder (h : s.Keeps u) : InOrder true s (answerEth u t) := .next ⟨h.queue, h.fuses⟩
theorem answerMover_inOrder (h : s.Keeps u) : InOrder true s (answerMover u t) := .next ⟨h.queue, h.fuses⟩
theorem answerFlt_inOrder (h : s.Keeps u) : InOrder true s (answerFlt u t) := .next ⟨h.queue, h.fuses⟩
theorem answerClk_inOrder (h : s.Keeps u) : InOrder true s (answerClk u t) := .next ⟨h.queue, h.fuses⟩
theorem answerRef_inOrder {r : Nat} : InOrder true s (answerRef r s f) := answer_inOrder (s.keeps_atRef r)
theorem answerAt_inOrder {g n : Nat} : InOrder true s (answerAt g n s f) := answer_inOrder (s.keeps_atCycle g n)
theorem answerCore_inOrder (g n : Nat) (f : State → State) : InOrder true s (answerCore g n s f) := .next ⟨rfl, rfl⟩
theorem answerT_inOrder (g n : Nat) (f : State → State) : InOrder true s (answerT g n s f) := .next ⟨rfl, rfl⟩
theorem answerTile_inOrder {g n : Nat} (h : s.Keeps u) : InOrder true s (answerTile g n u f) := .next ⟨h.queue, h.fuses⟩
theorem answerEvery_inOrder {k p : Nat} : InOrder true s (answerEvery k p s f) :=
  answer_inOrder ((s.keeps_atRef (SMap.get 0 s.clk.last k + p)).lastDone k)
theorem everyClk_inOrder {k p : Nat} : InOrder true s (everyClk k p s f) :=
  answerClk_inOrder (u := (s.atRef (SMap.get 0 s.clk.last k + p)).lastDone k)
    ((s.keeps_atRef (SMap.get 0 s.clk.last k + p)).lastDone k)

theorem when_inOrder {b : Bool} : InOrder true s (when b s f) := by
  unfold when
  split
  · exact answer_inOrder s.keeps_self
  · exact idle_inOrder

theorem allowed_inOrder {a : Agent} {row : WrRow} {addr : Nat} : InOrder true s (allowed a row addr s f) := by
  unfold allowed
  split
  · exact idle_inOrder
  · split <;> exact answer_inOrder s.keeps_self

theorem allowedSync_inOrder {a : Agent} {addr : Nat} : InOrder true s (allowedSync a addr s f) := by
  unfold allowedSync
  split
  · exact idle_inOrder
  · split <;> exact answerSync_inOrder s.keeps_self

theorem allowedHbm_inOrder {a : Agent} {addr : Nat} : InOrder true s (allowedHbm a addr s f) := by
  unfold allowedHbm
  split
  · exact idle_inOrder
  · split <;> exact answerHbm_inOrder s.keeps_self

theorem allowedFab_inOrder {a : Agent} {addr : Nat} : InOrder true s (allowedFab a addr s f) := by
  unfold allowedFab
  split
  · exact idle_inOrder
  · exact answerFab_inOrder s.keeps_self

theorem answerChecked_inOrder {n : Nat} {e : LinkErrors} {act : State → NetItem → Option State} :
    InOrder true s (answerChecked n e s act) := by
  unfold answerChecked
  dsimp only
  split
  · exact idle_inOrder
  · split
    · exact idle_inOrder
    · exact answerNet_inOrder s.keeps_self

theorem undecoded_inOrder {addr : Nat} : InOrder true s (undecoded addr s) := answer_inOrder s.keeps_self

theorem domainAction_inOrder {d : Nat} {f : FaultRec → State → State} : InOrder true s (domainAction d s f) := by
  unfold domainAction
  split
  · exact idle_inOrder
  · exact answer_inOrder ⟨rfl, rfl⟩

theorem operation_inOrder {id : Nat} {admin : Bool} {v : Avail} {f : Session → State → State} :
    InOrder true s (operation id admin v s f) := by
  unfold operation
  split
  · exact idle_inOrder
  · split <;> exact answer_inOrder s.keeps_self

theorem partCommand_inOrder {a : Agent} {p : Nat} {l : List Nat} :
    InOrder (decide (p < 16)) s (partCommand a p s l f) :=
  .checked (by simp) allowed_inOrder

theorem slotCommand_inOrder {a : Agent} {k : Nat} {l : List Nat} :
    InOrder (decide (k < 256)) s (slotCommand a k s l f) :=
  .checked (by simp) allowedSync_inOrder

theorem smbAnswer_inOrder {l : List W64} : InOrder true s (smbAnswer s l) := when_inOrder

theorem performReq_inOrder {k n type flits : Nat} {f : Nat → HReq → State → State} :
    InOrder (decide (k < 50)) s (performReq k n type flits s f) := by
  refine .checked (by simp) ?_
  repeat' split
  all_goals simp only [idle_inOrder, answerHbm_inOrder, State.keeps_self]

theorem slotCmd_inOrder {ans : Nat → Nat → State → (State → State) → Out} (id : CoreId) (k opc : Nat)
    (ha : ∀ g n f, InOrder true s (ans g n s f)) (f : Nat → Nat → State → State) :
    InOrder id.wf s (slotCmd id k opc ans s f) := by
  refine .checked (by simp) ?_
  dsimp only
  split
  · exact idle_inOrder
  · exact answerT_inOrder _ _ _
  · exact answerCore_inOrder _ _ _
  · exact ha _ _ _

theorem coreSlot_inOrder {id : CoreId} {k opc : Nat} {f : Nat → Nat → State → State} :
    InOrder id.wf s (slotCmd id k opc answerCore s f) := slotCmd_inOrder id k opc (ans := answerCore) answerCore_inOrder f

theorem transferOp_inOrder {id : CoreId} {opc : Nat} {f : Nat → Nat → State → State} :
    InOrder id.wf s (transferOp id opc s f) := slotCmd_inOrder id 3 opc (ans := answerT) answerT_inOrder _
end

/-- The commands that run a slot. -/
theorem slot_inOrder {c : Instr} (h : (slotOf c).isSome) (s : State) : InOrder c.wf s (exec c s) := by
  cases c with
  | sNop c | sAdd c | sSub c | sAnd c | sOr c | sXor c | sSll c | sSrl c | sSra c | sMul c | sMulhu c | sMin c
  | sMax c | sMinu c | sMaxu c | sAddi c | sAndi c | sOri c | sXori c | sSlli c | sSrli c | sSrai c | sLui c
  | sCmpEq c | sCmpNe c | sCmpLt c | sCmpLtu c | sCmpiEq c | sCmpiLt c | sPand c | sPor c | sPxor c | sPnot c
  | sBr c | sJr c | sCall c | sLoop c | sEnd c | sTrap c | sTret c | sMfcr c | sMtcr c | vNop c | vAdd c | vSub c
  | vMul c | vFma c | vMin c | vMax c | vAbs c | vNeg c | vAnd c | vOr c | vXor c | vShl c | vShr c | vSra c
  | vCmpEq c | vCmpLt c | vCmpLe c | vExp c | vLog c | vRcp c | vRsqrt c | vTanh c | vSigm c | vCvt c | vUnpk c
  | vBcast c | vExt c | vShuf c | vRsum c | vRmax c | vRand c | vMov c | vIota c | mNop c | mLdw c | mMmul c | mRd c
  | mWr c | mCvt c | mZero c =>
    simp only [exec, Instr.wf, execSNop, execSAdd, execSSub, execSAnd, execSOr, execSXor, execSSll, execSSrl,
      execSSra, execSMul, execSMulhu, execSMin, execSMax, execSMinu, execSMaxu, execSAddi, execSAndi, execSOri,
      execSXori, execSSlli, execSSrli, execSSrai, execSLui, execSCmpEq, execSCmpNe, execSCmpLt, execSCmpLtu,
      execSCmpiEq, execSCmpiLt, execSPand, execSPor, execSPxor, execSPnot, execSBr, execSJr, execSCall,
      execSLoop, execSEnd, execSTrap, execSTret, execSMfcr, execSMtcr, execVNop, execVAdd, execVSub, execVMul,
      execVFma, execVMin, execVMax, execVAbs, execVNeg, execVAnd, execVOr, execVXor, execVShl, execVShr,
      execVSra, execVCmpEq, execVCmpLt, execVCmpLe, execVExp, execVLog, execVRcp, execVRsqrt, execVTanh,
      execVSigm, execVCvt, execVUnpk, execVBcast, execVExt, execVShuf, execVRsum, execVRmax, execVRand,
      execVMov, execVIota, execMNop, execMLdw, execMMmul, execMRd, execMWr, execMCvt, execMZero, scalarOp,
      scalarCmp, predOp, vectorOp, lanewise1, lanewise2, vectorCmp, vectorReduce]
    exact coreSlot_inOrder
  | tNop c | tSet c | tLds c | tSts c | tLdv c | tStv c | tRd c | tWr c | tSend c | tRlu c | tSendr c | tAdd c
  | tWait c | tFill c | tCopy c | tMov c | tSgat c | tSscat c | tWopen c | tWclose c | tFence c | tSendred c =>
    simp only [exec, Instr.wf, execTNop, execTSet, execTLds, execTSts, execTLdv, execTStv, execTRd, execTWr,
      execTSend, execTRlu, execTSendr, execTAdd, execTWait, execTFill, execTCopy, execTMov, execTSgat,
      execTSscat, execTWopen, execTWclose, execTFence, execTSendred]
    exact transferOp_inOrder
  | _ => cases h

/-- The other commands that name a position. -/
theorem placed_inOrder {c : Instr} (h : ((slotOf c).isNone && (place c).isSome) = true)
    (s : State) : InOrder c.wf s (exec c s) := by
  cases c with
  | registerWriteback c | sequentialIssueOverrun c | stallResume c | directLoadReturn c | waitRelease c =>
    simp only [exec, Instr.wf, execRegisterWriteback, execSequentialIssueOverrun, execStallResume,
      execDirectLoadReturn, execWaitRelease]
    refine .checked (by grind) ?_
    repeat' split
    all_goals simp only [idle_inOrder, answerCore_inOrder, answerT_inOrder]
  | coreRun a c | coreHalt a c | controlWindowOpen a pos n hi | controlWindowClose a pos n hi | spadClearStart a pos
  | reachEntryWrite a pos d value =>
    simp only [exec, Instr.wf, execCoreRun, execCoreHalt, execControlWindowOpen, execControlWindowClose,
      execSpadClearStart, execReachEntryWrite]
    exact .checked (by grind) allowed_inOrder
  | wheelTurnAccess pos agent | feederFetch c weights | poisonMarking pos | mseFill pos | mseCopy pos
  | scrubPass pos | windowOpenEffect pos | windowCloseEffect pos | spadClearDone pos =>
    simp only [exec, Instr.wf, execWheelTurnAccess, execFeederFetch, execPoisonMarking, execMseFill,
      execMseCopy, execScrubPass, execWindowOpenEffect, execWindowCloseEffect, execSpadClearDone]
    refine .checked (by grind) ?_
    repeat' split
    all_goals simp only [idle_inOrder, answerTile_inOrder, State.keeps_self, State.keeps_atRef, State.Keeps.lastDone]
  | syncCheckpointWrite pos | moverStart pos engine | moverPacketIssue pos engine | moverComplete pos engine
  | mgmtqGo a pos | moverQueueEntryGrant pos =>
    simp only [exec, Instr.wf, execSyncCheckpointWrite, execMoverStart, execMoverPacketIssue, execMoverComplete,
      execMgmtqGo, execMoverQueueEntryGrant]
    refine .checked (by grind) ?_
    repeat' split
    all_goals simp only [idle_inOrder, answerMover_inOrder, State.keeps_self, State.keeps_atCycle]
  | heldPacketResend pos tag | holdLimitExpiry pos tag | ackTimeout pos tag =>
    simp only [exec, Instr.wf, execHeldPacketResend, execHoldLimitExpiry, execAckTimeout]
    refine .checked (by grind) ?_
    repeat' split
    all_goals simp only [idle_inOrder, answerNet_inOrder, State.keeps_self, State.keeps_atRef]
  | heartbeatIncrement pos | waitLimit c | sensorFail pos diode =>
    simp only [exec, Instr.wf, execHeartbeatIncrement, execWaitLimit, execSensorFail]
    refine .checked (by grind) ?_
    repeat' split
    all_goals simp only [idle_inOrder, answerRef_inOrder, answerAt_inOrder]
  | memoryBistDone pos result bank ms | firmwareEnd pos blocks digest =>
    simp only [exec, Instr.wf, execMemoryBistDone, execFirmwareEnd]
    exact .checked (by grind) when_inOrder
  | bcast pos uni wave block e =>
    simp only [exec, Instr.wf, execBcast]
    refine .checked (by grind) ?_
    split
    · exact idle_inOrder
    · exact when_inOrder
  | _ => cases h

/-- The commands with a meaning of their own: neither a control-space write, which runs the command of the register it
names, nor REVOKE, which changes a fuse. -/
def actsAlone : Instr → Bool
  | .controlWrite _ _ _ _ | .cwrite _ _ _ | .revoke _ _ => false
  | _ => true

/-- The other commands. -/
theorem placeless_inOrder {c : Instr} (h : actsAlone c = true) (hp : ((slotOf c).isSome || (place c).isSome) = false)
    (s : State) : InOrder c.wf s (exec c s) := by
  cases c with
  | fltRewind a p | declare a pos | force a source =>
    simp only [exec, Instr.wf, execFltRewind, execDeclare, execForce]
    exact .checked (by grind) allowed_inOrder
  | captureRearm a addr =>
    simp only [exec, Instr.wf, execCaptureRearm]
    repeat' split
    all_goals simp only [idle_inOrder, undecoded_inOrder, allowed_inOrder]
  | syncAddApply obj count | syncSetApply inputs | releaseComplete slot | seqOpWaitDecide slot =>
    simp only [exec, Instr.wf, execSyncAddApply, execSyncSetApply, execReleaseComplete, execSeqOpWaitDecide]
    refine .checked (by grind) ?_
    repeat' split
    all_goals simp only [idle_inOrder, answerSync_inOrder, State.keeps_self]
  | syncNack n | syncAddResend n | seqOpDecide n =>
    simp only [exec, Instr.wf, execSyncNack, execSyncAddResend, execSeqOpDecide]
    repeat' split
    all_goals simp only [idle_inOrder, answerSync_inOrder, State.keeps_self, State.keeps_atCycle]
  | syncCmdAdd a obj value | syncCmdSet a obj value | syncCmdClearFlags a obj value | seqWatchArm a w value
  | seqWatchDisarm a w value =>
    simp only [exec, Instr.wf, execSyncCmdAdd, execSyncCmdSet, execSyncCmdClearFlags, execSeqWatchArm,
      execSeqWatchDisarm]
    exact .checked (by grind) allowedSync_inOrder
  | activate a slot | hold a slot | resume a slot | release a slot | setlen a slot value | mark a slot
  | rewind a slot =>
    simp only [exec, Instr.wf, execActivate, execHold, execResume, execRelease, execSetlen, execMark,
      execRewind]
    exact slotCommand_inOrder
  | gatherComplete n | scatterComplete n =>
    simp only [exec, Instr.wf, execGatherComplete, execScatterComplete]
    repeat' split
    all_goals simp only [idle_inOrder, answerMover_inOrder, State.keeps_self]
  | packetRoute n e | packetDelivery n | sourceAnswer n | redAbsorb n =>
    simp only [exec, Instr.wf, execPacketRoute, execPacketDelivery, execSourceAnswer, execRedAbsorb]
    exact answerChecked_inOrder
  | creditReturn link cls =>
    simp only [exec, Instr.wf, execCreditReturn]
    refine .checked (by grind) ?_
    repeat' split
    all_goals simp only [idle_inOrder, answerNet_inOrder, State.keeps_self]
  | stallReport n =>
    simp only [exec, Instr.wf, execStallReport]
    repeat' split
    all_goals simp only [idle_inOrder, answerNet_inOrder, State.keeps_atCycle]
  | hbmRequest n =>
    simp only [exec, Instr.wf, execHbmRequest]
    repeat' split
    all_goals simp only [idle_inOrder, answerHbm_inOrder, State.keeps_self]
  | hbmWriteAck k n | hbmReadData k n =>
    simp only [exec, Instr.wf, execHbmWriteAck, execHbmReadData]
    exact performReq_inOrder
  | hbmScrubPass k | hbmTempPoll k temp | hbmStackFail k | hbmClearDone k =>
    simp only [exec, Instr.wf, execHbmScrubPass, execHbmTempPoll, execHbmStackFail, execHbmClearDone]
    refine .checked (by grind) ?_
    repeat' split
    all_goals simp only [idle_inOrder, answerHbm_inOrder, State.keeps_self]
  | hbmClearStart a k value | hbmGrantWrite a k p value =>
    simp only [exec, Instr.wf, execHbmClearStart, execHbmGrantWrite]
    exact .checked (by grind) allowedHbm_inOrder
  | portSignalDetect p | trainingComplete p lanesOk | helloSend p | hello p u | helloTimeout p | downRetrainTimer p
  | codewordReceive p header correctable symbols units | replay p u | replayTimeout p | resync p u
  | retrainTimeout p | credit p u | creditSend p | fabricArrivalResend die tag | fabricArrivalHoldLimit die tag
  | mergeTimeout die n | retrainComplete p =>
    simp only [exec, Instr.wf, execPortSignalDetect, execTrainingComplete, execHelloSend, execHello,
      execHelloTimeout, execDownRetrainTimer, execCodewordReceive, execReplay, execReplayTimeout, execResync,
      execRetrainTimeout, execCredit, execCreditSend, execFabricArrivalResend, execFabricArrivalHoldLimit,
      execMergeTimeout, execRetrainComplete]
    refine .checked (by grind) ?_
    repeat' split
    all_goals simp only [idle_inOrder, answerFab_inOrder, State.keeps_self, State.keeps_atRef]
  | fabricOrigin n | fabricOriginAnswer n | mack n | fabricArrival n | fabricArrivalAnswer n | fabricTransit n
  | mwrite n | mergeAnswer n | collectiveEgress n | collectiveIngress n =>
    simp only [exec, Instr.wf, execFabricOrigin, execFabricOriginAnswer, execMack, execFabricArrival,
      execFabricArrivalAnswer, execFabricTransit, execMwrite, execMergeAnswer, execCollectiveEgress,
      execCollectiveIngress]
    repeat' split
    all_goals simp only [idle_inOrder, answerFab_inOrder, State.keeps_self]
  | ethFrameReceive p addresses type payload fcs | ethFrameTransmit p =>
    simp only [exec, Instr.wf, execEthFrameReceive, execEthFrameTransmit]
    refine .checked (by grind) ?_
    repeat' split
    all_goals simp only [idle_inOrder, answerEth_inOrder, State.keeps_self, State.keeps_atRef]
  | ethRingTailWrite a p value | portEnable a p | portDisable a p | portModeSelect a p ethernet
  | portFence a p fence =>
    simp only [exec, Instr.wf, execEthRingTailWrite, execPortEnable, execPortDisable, execPortModeSelect,
      execPortFence]
    exact .checked (by grind) allowedFab_inOrder
  | create a p | load a p | start a p | reset a p | teardown a p | update a p =>
    simp only [exec, Instr.wf, execCreate, execLoad, execStart, execReset, execTeardown, execUpdate]
    exact partCommand_inOrder
  | scheduledRun p | stageTokenReturn g | droopTrimDecay g | stdWrite a word value =>
    simp only [exec, Instr.wf, execScheduledRun, execStageTokenReturn, execDroopTrimDecay, execStdWrite]
    refine .checked (by grind) ?_
    repeat' split
    all_goals simp only [idle_inOrder, answer_inOrder, answerRef_inOrder, State.keeps_self]
  | coverageRecompute p | waveStart w | logicBistDone die signatureOk patterns tenthsMs
  | stackTestDone k result tenMs | laneMarginDone lane pass tenMs | pllLossOfLock g | droopTrimRaise g
  | phaseFail g phase | groveShort g | resistanceTrend g phase r | feConverterFail converter
  | hostWindowWrite hcore ha bytes value | hostWindowRead hcore ha bytes | cageOverpower port
  | mgmtPortLinkChange port up | lRimDieFault die | rimRingSegmentFault die | keepAliveDomainFault g
  | hostCoreUncorrectableRead hcore | externalTapAccess segment opens =>
    simp only [exec, Instr.wf, execCoverageRecompute, execWaveStart, execLogicBistDone, execStackTestDone,
      execLaneMarginDone, execPllLossOfLock, execDroopTrimRaise, execPhaseFail, execGroveShort,
      execResistanceTrend, execFeConverterFail, execHostWindowWrite, execHostWindowRead, execCageOverpower,
      execMgmtPortLinkChange, execLRimDieFault, execRimRingSegmentFault, execKeepAliveDomainFault,
      execHostCoreUncorrectableRead, execExternalTapAccess]
    exact .checked (by grind) when_inOrder
  | faultRecordArrival n =>
    simp only [exec, Instr.wf, execFaultRecordArrival]
    repeat' split
    all_goals simp only [idle_inOrder, answerFlt_inOrder, State.keeps_self]
  | domainActionJob | tileRecovery | domainActionGrove | domainActionPartition | domainActionDevice | policyRewind =>
    simp only [exec, Instr.wf, execDomainActionJob, execTileRecovery, execDomainActionGrove,
      execDomainActionPartition, execDomainActionDevice, execPolicyRewind]
    exact domainAction_inOrder
  | fltAckWrite a value | tapExtConnect a ext | mportSwap a active | hostCtrlReset a | wdogKick a =>
    simp only [exec, Instr.wf, execFltAckWrite, execTapExtConnect, execMportSwap, execHostCtrlReset,
      execWdogKick]
    exact allowed_inOrder
  | heartbeatPoll unanswered | healthUpdate | ballastStep | rthUpdate powers | healthHistoryWrite =>
    simp only [exec, Instr.wf, execHeartbeatPoll, execHealthUpdate, execBallastStep, execRthUpdate,
      execHealthHistoryWrite]
    exact answerEvery_inOrder
  | ackDeadlineExpiry | watchdogExpiry | compatCapUpdate | mportFailover | wcFlush buffer | hostBridgeAnswer n
  | hostBridgeTimeout tag | hostWatchdogExpiry | smbUnsupported command | telemetryPublish | sessionClose session =>
    simp only [exec, Instr.wf, execAckDeadlineExpiry, execWatchdogExpiry, execCompatCapUpdate,
      execMportFailover, execWcFlush, execHostBridgeAnswer, execHostBridgeTimeout, execHostWatchdogExpiry,
      execSmbUnsupported, execTelemetryPublish, execSessionClose]
    repeat' split
    all_goals simp only [idle_inOrder, answer_inOrder, answerRef_inOrder, answerEvery_inOrder, smbAnswer_inOrder,
      State.keeps_self]
  | managementRestart | backupInPlace | inputVoltageFault mv | flowStop | flowRestored
  | sessionOpen adminChain readChain | logFlush | inputVoltageRestored mv | hostComplexReady =>
    simp only [exec, Instr.wf, execManagementRestart, execBackupInPlace, execInputVoltageFault, execFlowStop,
      execFlowRestored, execSessionOpen, execLogFlush, execInputVoltageRestored, execHostComplexReady]
    exact when_inOrder
  | groveReady g | crossingAlignment g dir point code | droopStretch g | groveClockStart g
  | sensorRead sensor reading | vddCoreLevelReport g mv =>
    simp only [exec, Instr.wf, execGroveReady, execCrossingAlignment, execDroopStretch, execGroveClockStart,
      execSensorRead, execVddCoreLevelReport]
    refine .checked (by grind) ?_
    repeat' split
    all_goals simp only [idle_inOrder, answerClk_inOrder, State.keeps_self]
  | clkOppCmd a target | oppSwitch | referenceLoss | referenceReturn =>
    simp only [exec, Instr.wf, execClkOppCmd, execOppSwitch, execReferenceLoss, execReferenceReturn]
    repeat' split
    all_goals simp only [idle_inOrder, answerClk_inOrder, answer_inOrder, State.keeps_self]
  | arbiterUpdate currents | governorUpdate r demand soc | thermalModelUpdate preds =>
    simp only [exec, Instr.wf, execArbiterUpdate, execGovernorUpdate, execThermalModelUpdate]
    exact everyClk_inOrder
  | cread session addr | logRead session lseq | attest session nonce | certRead session | updBegin session kind
  | updData session kind offset chunk | updEnd session kind | updActivate session kinds
  | updConfirm session kind raiseSvn | fenceClear session record | laneUnmask session lane | debugAuth session
  | mgmtOpHostReset session | mgmtOpManagementRestart session =>
    simp only [exec, Instr.wf, execCread, execLogRead, execAttest, execCertRead, execUpdBegin, execUpdData,
      execUpdEnd, execUpdActivate, execUpdConfirm, execFenceClear, execLaneUnmask, execDebugAuth,
      execMgmtOpHostReset, execMgmtOpManagementRestart]
    exact operation_inOrder
  | smbStatusRead | smbVinRead | smbPinRead | smbEffCapRead | smbTInRead | smbTOutRead | smbFlowRead | smbHsMaxRead
  | smbFruRead offset =>
    simp only [exec, Instr.wf, execSmbStatusRead, execSmbVinRead, execSmbPinRead, execSmbEffCapRead,
      execSmbTInRead, execSmbTOutRead, execSmbFlowRead, execSmbHsMaxRead, execSmbFruRead]
    exact smbAnswer_inOrder
  | cnetMessage n e node =>
    simp only [exec, Instr.wf, execCnetMessage]
    refine .checked (by cases node <;> simp) ?_
    repeat' split
    all_goals simp only [idle_inOrder, answerSync_inOrder, answerFlt_inOrder, State.keeps_self]
  | groveAnnounceAck g =>
    simp only [exec, Instr.wf, execGroveAnnounceAck]
    refine .checked (by grind) ?_
    split
    · exact idle_inOrder
    · exact .next ⟨rfl, rfl⟩
  | oppAckMissing =>
    simp only [exec, execOppAckMissing]
    split
    · exact idle_inOrder
    · split
      · exact idle_inOrder
      · split
        · exact idle_inOrder
        · exact answerClk_inOrder s.keeps_self
  | holdoverExpiry =>
    show InOrder true s (execHoldoverExpiry s)
    unfold execHoldoverExpiry
    split
    · exact idle_inOrder
    · split
      · exact answerClk_inOrder s.keeps_self
      · exact idle_inOrder
  | panelResetRelease refPresent | inputReturn refPresent =>
    simp only [exec, execPanelResetRelease, execInputReturn]
    split
    · exact .next (s.keeps_restored _)
    · exact idle_inOrder
  | panelRstNAssert =>
    show InOrder true s (execPanelRstNAssert s)
    unfold execPanelRstNAssert
    split
    · exact idle_inOrder
    · exact .next s.keeps_reset
  | inputLoss =>
    show InOrder true s (execInputLoss s)
    unfold execInputLoss
    split
    · exact idle_inOrder
    · exact .next (s.keeps_reset.power _)
  | mgmtOpPanelReset session =>
    simp only [exec, execMgmtOpPanelReset]
    split
    · exact idle_inOrder
    · split
      · exact .next s.keeps_reset
      · exact answer_inOrder s.keeps_self
  | controlWrite _ _ _ _ | cwrite _ _ _ | revoke _ _ => cases h
  | _ => cases hp

theorem alone_inOrder {c : Instr} (h : actsAlone c = true) (s : State) : InOrder c.wf s (exec c s) := by
  cases hs : slotOf c with
  | some x => exact slot_inOrder (by simp [hs]) s
  | none => cases hp : place c with
    | some p => exact placed_inOrder (by simp [hs, hp]) s
    | none => exact placeless_inOrder h (by simp [hs, hp]) s

/-! Control space: a write runs the command of the register that its address names -/

theorem InOrder.trans {named : Bool} {s t : State} {o : Out} (h : s.Keeps t) : InOrder named t o → InOrder named s o
  | .next k => .next ⟨k.queue.trans h.queue, k.fuses.trans h.fuses⟩
  | .fault r k => .fault r k

theorem InOrder.andThen {s : State} {o : Out} {f : State → Out} (h : InOrder true s o) (hf : ∀ t, InOrder true t (f t)) :
    InOrder true s (andThen o f) := by
  cases h with
  | next h => exact (hf _).trans h
  | fault r h => cases h

theorem wf_inOrder {c : Instr} (hd : actsAlone c = true) (hw : c.wf = true) (s : State) : InOrder true s (exec c s) :=
  hw ▸ alone_inOrder hd s

theorem posOfGrove_lt {g t : Nat} (hg : g < 36) (ht : t < 16) : posOfGrove g t < 576 := by
  unfold posOfGrove posIndex
  omega

/-- The units that a part of control space names are the panel's (R14, R16, R27), and a standing register, or one of the
grove, thermal and descriptor blocks, lies at its offset. -/
def Blk.fits (addr : Nat) : Blk → Prop
  | .core pos c _ => pos < 576 ∧ c < 8
  | .tile pos _ => pos < 576
  | .hbm k _ => k < 50
  | .fab p _ => p < 64
  | .part p _ => p < 16
  | .sync n => n < 131072
  | .std off => addr = 0x100000 + off ∧ off < 0x10000
  | .grv g off => g < 36 ∧ (addr - 0x100000000) / 0x1000000 = g ∧ 0x100000000 ≤ addr ∧ off = addr % 0x100000 ∧ 0xC0000 ≤ off
  | .thm off => addr = 0x1100000 + off
  | .desc off => addr = 0x600000000 + off
  | _ => True

theorem tileBlk_fits {addr g : Nat} (hg : g < 36) (ha : (addr - 0x100000000) / 0x1000000 = g) (hl : 0x100000000 ≤ addr) :
    (tileBlk g addr).fits addr := by
  have hp : posOfGrove g (addr % 0x1000000 / 0x100000) < 576 := posOfGrove_lt hg (by omega)
  unfold tileBlk
  dsimp only
  repeat' split
  · next h => exact ⟨hg, ha, hl, rfl, h⟩
  · trivial
  · exact ⟨hp, by omega⟩
  · exact hp

theorem Blk.fits_ite {x : Nat} {p : Prop} [Decidable p] {b d : Blk} (hb : p → b.fits x) (hd : ¬ p → d.fits x) :
    (if p then b else d).fits x := by
  split
  · next h => exact hb h
  · next h => exact hd h

theorem mgmtBlk_fits (addr : Nat) : (mgmtBlk addr).fits addr := by
  refine Blk.fits_ite (fun _ => ?_) fun _ => Blk.fits_ite (fun _ => trivial) fun _ => trivial
  show _ < 16
  omega

theorem blkOf_fits (addr : Nat) : (blkOf addr).fits addr := by
  refine Blk.fits_ite (fun _ => mgmtBlk_fits addr) fun _ => ?_
  refine Blk.fits_ite (fun _ => ⟨by omega, by omega⟩) fun _ => ?_
  refine Blk.fits_ite (fun _ => trivial) fun _ => Blk.fits_ite (fun _ => ?thm) fun _ => ?_
  case thm => show _ = _ + _; omega
  refine Blk.fits_ite (fun _ => trivial) fun _ => Blk.fits_ite (fun _ => trivial) fun _ => ?_
  refine Blk.fits_ite (fun _ => tileBlk_fits (by omega) rfl (by omega)) fun _ => ?_
  refine Blk.fits_ite (fun _ => Blk.fits_ite (fun _ => ?fab) fun _ => trivial) fun _ => ?_
  case fab => show _ < 64; omega
  refine Blk.fits_ite (fun _ => ?hbm) fun _ => ?_
  case hbm => show _ < 50; omega
  refine Blk.fits_ite (fun _ => ?sync) fun _ => ?_
  case sync => show _ < 131072; omega
  refine Blk.fits_ite (fun _ => trivial) fun _ => Blk.fits_ite (fun _ => ?desc) fun _ => trivial
  show _ = _ + _
  omega

theorem plainWrite_inOrder {s : State} {a : Agent} {b : Blk} {row : RegRow} {addr v mask : Nat} :
    InOrder true s (plainWrite a b row addr v mask s) := allowed_inOrder

theorem tileWrite_inOrder {s : State} {a : Agent} {b : Blk} {row : RegRow} {addr v mask given x : Nat} (hb : b.fits x) :
    InOrder true s (tileWrite a b row addr v mask given s) := by
  unfold tileWrite
  dsimp only
  split
  · next pos c off =>
    obtain ⟨hp, hc⟩ := hb
    have hw : CoreId.wf ⟨pos, c⟩ = true := by simp [CoreId.wf, hp, hc]
    split
    · split
      · exact wf_inOrder (c := .coreRun a ⟨pos, c⟩) rfl hw s
      · exact wf_inOrder (c := .coreHalt a ⟨pos, c⟩) rfl hw s
    · exact plainWrite_inOrder
  · next pos off =>
    have hp : decide (pos < 576) = true := decide_eq_true hb
    have go (t : State) : InOrder true t (execMgmtqGo a pos t) := wf_inOrder (c := .mgmtqGo a pos) rfl hp t
    have hn (n m : Nat) (h : n < m) : (decide (pos < 576) && decide (n < m)) = true := by simp [hp, h]
    split
    · split
      · split
        · exact plainWrite_inOrder.andThen go
        · exact go s
      · exact plainWrite_inOrder
    · split
      · split
        · exact wf_inOrder (c := .spadClearStart a pos) rfl hp s
        · exact plainWrite_inOrder
      · split
        · exact wf_inOrder (c := .reachEntryWrite a pos _ _) rfl (hn _ _ (by omega)) s
        · split
          · split
            · exact wf_inOrder (c := .controlWindowOpen a pos _ _) rfl (hn _ _ (by omega)) s
            · exact wf_inOrder (c := .controlWindowClose a pos _ _) rfl (hn _ _ (by omega)) s
          · exact plainWrite_inOrder
  · exact plainWrite_inOrder

theorem seqCmd_inOrder {s : State} {a : Agent} {k v : Nat} (hk : k < 256) : InOrder true s (seqCmd a k v s) := by
  have hw : decide (k < 256) = true := decide_eq_true hk
  unfold seqCmd
  split
  · exact wf_inOrder (c := .activate a k) rfl hw s
  · exact wf_inOrder (c := .hold a k) rfl hw s
  · exact wf_inOrder (c := .resume a k) rfl hw s
  · exact wf_inOrder (c := .release a k) rfl hw s
  · exact wf_inOrder (c := .setlen a k _) rfl hw s
  · exact wf_inOrder (c := .mark a k) rfl hw s
  · exact wf_inOrder (c := .rewind a k) rfl hw s
  · exact undecoded_inOrder

theorem rimWrite_inOrder {s : State} {a : Agent} {b : Blk} {row : RegRow} {addr v mask given x : Nat} (hb : b.fits x) :
    InOrder true s (rimWrite a b row addr v mask given s) := by
  unfold rimWrite
  dsimp only
  split
  · next k off =>
    have hk : decide (k < 50) = true := decide_eq_true hb
    split
    · split
      · exact wf_inOrder (c := .hbmClearStart a k _) rfl hk s
      · exact plainWrite_inOrder
    · split
      · exact wf_inOrder (c := .hbmGrantWrite a k _ _) rfl (by simp [Instr.wf, hk]; omega) s
      · exact plainWrite_inOrder
  · next p off =>
    split
    · exact allowed_inOrder
    · split
      · exact wf_inOrder (c := .ethRingTailWrite a p _) rfl (decide_eq_true hb) s
      · exact plainWrite_inOrder
  · next off =>
    split
    · exact seqCmd_inOrder (by omega)
    · split
      · split
        · exact wf_inOrder (c := .seqWatchArm a _ _) rfl (decide_eq_true (by omega)) s
        · exact wf_inOrder (c := .seqWatchDisarm a _ _) rfl (decide_eq_true (by omega)) s
      · exact plainWrite_inOrder
  · exact plainWrite_inOrder

theorem partCmd_inOrder {s : State} {a : Agent} {p v : Nat} (hp : p < 16) : InOrder true s (partCmd a p v s) := by
  have hw : decide (p < 16) = true := decide_eq_true hp
  unfold partCmd
  split
  · exact wf_inOrder (c := .create a p) rfl hw s
  · exact wf_inOrder (c := .load a p) rfl hw s
  · exact wf_inOrder (c := .start a p) rfl hw s
  · exact wf_inOrder (c := .reset a p) rfl hw s
  · exact wf_inOrder (c := .teardown a p) rfl hw s
  · exact wf_inOrder (c := .update a p) rfl hw s
  · exact undecoded_inOrder

theorem fltCmd_inOrder {s : State} {a : Agent} {v : Nat} : InOrder true s (fltCmd a v s) := by
  unfold fltCmd
  split
  · exact wf_inOrder (c := .declare a _) rfl (decide_eq_true (bitsOf_lt v 4 10)) s
  · split
    · exact wf_inOrder (c := .fltRewind a _) rfl (decide_eq_true (bitsOf_lt v 4 4)) s
    · exact undecoded_inOrder

theorem panelWrite_inOrder {s : State} {a : Agent} {b : Blk} {row : RegRow} {addr v mask given x : Nat} (hb : b.fits x) :
    InOrder true s (panelWrite a b row addr v mask given s) := by
  unfold panelWrite
  dsimp only
  split
  · split
    · exact wf_inOrder (c := .fltAckWrite a _) rfl rfl s
    · split
      · exact fltCmd_inOrder
      · split
        · exact allowed_inOrder
        · exact plainWrite_inOrder
  · split
    · exact wf_inOrder (c := .mportSwap a _) rfl rfl s
    · split
      · split
        · exact allowed_inOrder
        · split
          · exact wf_inOrder (c := .wdogKick a) rfl rfl s
          · exact undecoded_inOrder
      · split
        · exact wf_inOrder (c := .tapExtConnect a _) rfl rfl s
        · exact plainWrite_inOrder
  · split
    · exact partCmd_inOrder hb
    · split <;> exact plainWrite_inOrder
  · split
    · exact wf_inOrder (c := .clkOppCmd a _) rfl rfl s
    · exact plainWrite_inOrder
  · exact plainWrite_inOrder

theorem syncWrite_inOrder {s : State} {a : Agent} {n v bytes : Nat} (hn : n < 131072) :
    InOrder true s (syncWrite a n v bytes s) := by
  have hw : decide (n < 131072) = true := decide_eq_true hn
  unfold syncWrite
  split
  · exact undecoded_inOrder
  · split
    · exact wf_inOrder (c := .syncCmdAdd a n _) rfl hw s
    · exact wf_inOrder (c := .syncCmdSet a n _) rfl hw s
    · exact wf_inOrder (c := .syncCmdClearFlags a n _) rfl hw s
    · exact undecoded_inOrder

/-- The two words of an aligned 8-byte write of standing registers are both words that exist. -/
theorem stdBytesWrite_inOrder {s : State} {a : Agent} {off v bytes : Nat} (ho : off < 0x10000) (ha : bytes = 8 → off % 8 = 0) :
    InOrder true s (stdBytesWrite a off v bytes s) := by
  have word (w : Nat) (x : W32) (h : w < 16384) (t : State) : InOrder true t (execStdWrite a w x t) :=
    wf_inOrder (c := .stdWrite a w x) rfl (decide_eq_true h) t
  unfold stdBytesWrite
  split
  · exact word _ _ (by omega) s
  · split
    · next h8 =>
      have := ha h8
      exact (word _ _ (by omega) s).andThen (word _ _ (by omega))
    · exact undecoded_inOrder

theorem controlStore_inOrder (a : Agent) (addr v bytes : Nat)
    (s : State) : InOrder true s (controlStore a addr v bytes s) := by
  have hb := blkOf_fits addr
  unfold controlStore
  dsimp only
  split
  · exact undecoded_inOrder
  next hal =>
  split
  · exact idle_inOrder
  generalize blkOf addr = b at hb
  split
  · exact allowed_inOrder
  · obtain ⟨he, ho⟩ := hb
    exact stdBytesWrite_inOrder ho fun h => by subst h; omega
  · exact syncWrite_inOrder hb
  · exact allowed_inOrder
  · split
    · exact undecoded_inOrder
    · split
      · exact tileWrite_inOrder hb
      · exact tileWrite_inOrder hb
      · exact rimWrite_inOrder hb
      · exact rimWrite_inOrder hb
      · exact rimWrite_inOrder hb
      · exact panelWrite_inOrder hb
      · exact panelWrite_inOrder hb
      · exact panelWrite_inOrder hb
      · exact panelWrite_inOrder hb
      · exact plainWrite_inOrder

theorem controlWrite_inOrder (a : Agent) (addr bytes : Nat) (v : W64) (s : State) :
    InOrder (Instr.wf (.controlWrite a addr v bytes)) s (exec (.controlWrite a addr v bytes) s) := by
  rw [exec_controlWrite]
  unfold execControlWrite
  split
  · exact (controlStore_inOrder _ _ _ _ _).weaken
  · next h => exact .fault _ (decide_eq_false h)

theorem cwrite_inOrder (id addr : Nat) (v : W64) (s : State) : InOrder true s (exec (.cwrite id addr v) s) := by
  rw [exec_cwrite]
  unfold execCwrite
  split
  · exact idle_inOrder
  · split
    · exact (controlStore_inOrder _ _ _ _ _).andThen fun t => answer_inOrder t.keeps_self
    · exact answer_inOrder s.keeps_self

theorem exec_inOrder {c : Instr} (h : ∀ id key, c ≠ .revoke id key) (s : State) : InOrder c.wf s (exec c s) := by
  cases hd : actsAlone c with
  | true => exact alone_inOrder hd s
  | false => cases c with
    | controlWrite a addr v bytes => exact controlWrite_inOrder a addr bytes v s
    | cwrite id addr v => exact cwrite_inOrder id addr v s
    | revoke id key => exact absurd rfl (h id key)
    | _ => cases hd

/-! ## The queue and the fuses -/

/-- What REVOKE does to the queue and the fuses: the one key index may be added to those revoked (R406). -/
theorem revoke_fuses (id key : Nat) (s : State) : ∃ t m, exec (.revoke id key) s = .next t ∧ t.pending = s.pending ∧
    t.fuses = { s.fuses with revoked := s.fuses.revoked ||| m } := by
  have same : s.fuses = { s.fuses with revoked := s.fuses.revoked ||| 0 } := by simp
  rw [exec_revoke]
  unfold execRevoke
  split
  · exact ⟨_, _, rfl, rfl, same⟩
  · split
    · exact ⟨_, _, rfl, rfl, same⟩
    · split
      · exact ⟨_, _, rfl, rfl, same⟩
      · exact ⟨_, _, rfl, rfl, rfl⟩

/-- Every command answers a next state with the queue it was given and with the fuses it was given, to which REVOKE may
add revoked key indexes; or it names a unit that the panel does not have, and faults. -/
theorem exec_cases (c : Instr) (s : State) :
    (∃ t m, exec c s = .next t ∧ t.pending = s.pending ∧ t.fuses = { s.fuses with revoked := s.fuses.revoked ||| m } ∧
      ((∀ id key, c ≠ .revoke id key) → t.fuses = s.fuses)) ∨
    (c.wf = false ∧ ∃ r, exec c s = .fault r) := by
  by_cases h : ∀ id key, c ≠ .revoke id key
  · have ho := exec_inOrder h s
    generalize exec c s = o at ho
    cases ho with
    | next k => exact .inl ⟨_, 0, rfl, k.queue, by simp [k.fuses], fun _ => k.fuses⟩
    | fault r hw => exact .inr ⟨hw, r, rfl⟩
  · push Not at h
    obtain ⟨id, key, rfl⟩ := h
    obtain ⟨t, m, he, hp, hf⟩ := revoke_fuses id key s
    exact .inl ⟨t, m, he, hp, hf, fun h => absurd rfl (h id key)⟩

theorem exec_ne_refused (c : Instr) (s : State) (r : Refusal) : exec c s ≠ .refused r := by
  rcases exec_cases c s with ⟨t, m, he, -⟩ | ⟨-, q, he⟩ <;> simp [he]

theorem exec_next_of_wf {c : Instr} (h : c.wf = true) (s : State) : ∃ t, exec c s = .next t := by
  rcases exec_cases c s with ⟨t, m, he, -⟩ | ⟨hw, -⟩
  · exact ⟨t, he⟩
  · exact absurd h (by simp [hw])

theorem exec_keeps {c : Instr} {s t : State} (h : exec c s = .next t) : t.pending = s.pending ∧
    t.fuses = { s.fuses with revoked := t.fuses.revoked } ∧ ((∀ id key, c ≠ .revoke id key) → t.fuses = s.fuses) ∧
    (∀ i, s.fuses.revoked.getLsbD i = true → t.fuses.revoked.getLsbD i = true) := by
  rcases exec_cases c s with ⟨u, m, he, hp, hf, hr⟩ | ⟨-, r, he⟩
  · obtain rfl : u = t := by simpa [he] using h
    exact ⟨hp, by rw [hf], hr, fun i hi => by simp [hf, hi]⟩
  · simp [he] at h

theorem step_takes_front {s t : State} (h : step s = .next t) : t.pending = s.pending.tail := by
  unfold step at h
  split at h
  · next hp => cases h; simp [hp]
  · next c rest hp => simp [hp, (exec_keeps h).1]

/-- Settles O2: every meaning answers through a function that takes the queue and the fuses from the state it is given;
REVOKE alone adds to the revoked key indexes. -/
theorem queueAndFuses : Obligations.QueueAndFuses :=
  ⟨exec_ne_refused, fun _ s h => exec_next_of_wf h s, fun _ _ _ h => exec_keeps h, fun _ _ h => step_takes_front h⟩

end Sys2Proof.Machine
end

section
/-! PROOFS. Control space as software reaches it: words packed from fields, writes, and sessions' reads (O58). -/

namespace Sys2Proof.Machine

/-! ## Words packed from fields -/

theorem bitsOf_and (x y lo len : Nat) : bitsOf (x &&& y) lo len = bitsOf x lo len &&& bitsOf y lo len := by
  simp [bitsOf, Nat.shiftRight_and_distrib, Nat.and_mod_two_pow]

theorem bitsOf_mod_two_pow (x n : Nat) {lo len : Nat} (h : lo + len ≤ n) : bitsOf (x % 2 ^ n) lo len = bitsOf x lo len :=
  by
  apply Nat.eq_of_testBit_eq
  intro i
  simp only [testBit_bitsOf, Nat.testBit_mod_two_pow]
  by_cases hi : i < len
  · simp [show lo + i < n by omega]
  · simp [hi]

/-- The fields of a register lie one above another, from bit `n` up, in 64 bits. -/
def Fld.ascend (n : Nat) : List Fld → Bool
  | [] => decide (n ≤ 64)
  | f :: l => decide (n ≤ f.lo) && Fld.ascend (f.lo + f.len) l

theorem Fld.ascend_le {f : Fld} {l : List Fld} : ∀ {n : Nat}, Fld.ascend n l = true → f ∈ l → n ≤ f.lo := by
  induction l with
  | nil => intro n _ hf; cases hf
  | cons g l ih =>
    intro n h hf
    obtain ⟨hg, hl⟩ : n ≤ g.lo ∧ Fld.ascend (g.lo + g.len) l = true := by simpa [Fld.ascend] using h
    rcases List.mem_cons.1 hf with rfl | hf
    · exact hg
    · have := ih hl hf
      omega

theorem Fld.ascend_top {f : Fld} {l : List Fld} : ∀ {n : Nat}, Fld.ascend n l = true → n ≤ 64 ∧ (f ∈ l → f.lo + f.len ≤ 64) := by
  induction l with
  | nil => intro n h; exact ⟨by simpa [Fld.ascend] using h, fun hf => by cases hf⟩
  | cons g l ih =>
    intro n h
    obtain ⟨hg, hl⟩ : n ≤ g.lo ∧ Fld.ascend (g.lo + g.len) l = true := by simpa [Fld.ascend] using h
    obtain ⟨ht, hm⟩ := ih hl
    refine ⟨by omega, fun hf => ?_⟩
    rcases List.mem_cons.1 hf with rfl | hf
    · exact ht
    · exact hm hf

/-- A word whose fields hold `val`. -/
def Fld.pack (val : Fld → Nat) (l : List Fld) : Nat := packFields (l.map fun f => (f.lo, f.len, val f))

theorem Fld.dvd_pack (val : Fld → Nat) {l : List Fld} : ∀ {n : Nat}, Fld.ascend n l = true → 2 ^ n ∣ Fld.pack val l :=
  by
  induction l with
  | nil => intro n _; exact dvd_zero _
  | cons g l ih =>
    intro n h
    obtain ⟨hg, hl⟩ : n ≤ g.lo ∧ Fld.ascend (g.lo + g.len) l = true := by simpa [Fld.ascend] using h
    exact dvd_add ((pow_dvd_pow 2 hg).mul_left _) ((pow_dvd_pow 2 (by omega)).trans (ih hl))

/-- The low part of a word does not show in a field above it. -/
theorem bitsOf_add_above {r n p lo : Nat} (len : Nat) (hr : r < 2 ^ n) (hp : 2 ^ n ∣ p) (hn : n ≤ lo) :
    bitsOf (r + p) lo len = bitsOf p lo len := by
  obtain ⟨q, rfl⟩ := hp
  have hlo : 2 ^ lo = 2 ^ n * 2 ^ (lo - n) := by rw [← Nat.pow_add]; congr 1; omega
  rw [bitsOf_eq, bitsOf_eq, hlo, ← Nat.div_div_eq_div_mul, ← Nat.div_div_eq_div_mul,
    Nat.add_mul_div_left _ _ (Nat.two_pow_pos n), Nat.div_eq_of_lt hr, Nat.zero_add, Nat.mul_div_cancel_left _ (Nat.two_pow_pos n)]

/-- The high part of a word does not show in a field below it. -/
theorem bitsOf_add_below {v len lo p : Nat} (hp : 2 ^ (lo + len) ∣ p) : bitsOf (v % 2 ^ len * 2 ^ lo + p) lo len = v % 2 ^ len := by
  obtain ⟨q, rfl⟩ := hp
  rw [bitsOf_eq, Nat.pow_add, Nat.mul_assoc, Nat.mul_comm (v % _), Nat.mul_add_div (Nat.two_pow_pos lo),
    Nat.mul_div_cancel_left _ (Nat.two_pow_pos lo), Nat.add_mul_mod_self_left, Nat.mod_mod]

theorem Fld.bitsOf_pack (val : Fld → Nat) {f : Fld} {l : List Fld} : ∀ {n : Nat}, Fld.ascend n l = true → f ∈ l →
    bitsOf (Fld.pack val l) f.lo f.len = val f % 2 ^ f.len := by
  induction l with
  | nil => intro n _ hf; cases hf
  | cons g l ih =>
    intro n h hf
    obtain ⟨-, hl⟩ : n ≤ g.lo ∧ Fld.ascend (g.lo + g.len) l = true := by simpa [Fld.ascend] using h
    show bitsOf (val g % 2 ^ g.len * 2 ^ g.lo + Fld.pack val l) f.lo f.len = _
    rcases List.mem_cons.1 hf with rfl | hf
    · exact bitsOf_add_below (Fld.dvd_pack val hl)
    · have hg : val g % 2 ^ g.len * 2 ^ g.lo < 2 ^ (g.lo + g.len) := by
        rw [Nat.add_comm, Nat.pow_add]
        exact Nat.mul_lt_mul_of_pos_right (Nat.mod_lt _ (Nat.two_pow_pos _)) (Nat.two_pow_pos _)
      rw [bitsOf_add_above _ hg (Fld.dvd_pack val hl) (Fld.ascend_le hl hf), ih hl hf]

/-! ## Rows of registers -/

/-- A field of the word that stands when a 64-bit register is packed from its row. -/
theorem RegRow.bitsOf_word {row : RegRow} (h : Fld.ascend 0 row.fields = true) {f : Fld} (hf : f ∈ row.fields) (val : Fld → Nat) :
    bitsOf (Fld.pack val row.fields % 2 ^ 64) f.lo f.len = val f % 2 ^ f.len := by
  rw [bitsOf_mod_two_pow _ _ ((Fld.ascend_top h).2 hf), Fld.bitsOf_pack val h hf]

theorem and_all {v : Nat} (hv : v < 2 ^ 64) : v &&& (2 ^ 64 - 1) = v := by
  rw [Nat.and_two_pow_sub_one_eq_mod, Nat.mod_eq_of_lt hv]

theorem mergeBits_all (cur : Nat) {v : Nat} (hv : v < 2 ^ 64) : mergeBits cur v (2 ^ 64 - 1) = v := by
  rw [mergeBits, Nat.xor_self, Nat.and_zero, Nat.zero_or, and_all hv]

/-- The command that a write of the whole register gives: the bits written. -/
theorem RegRow.bitsOf_given {row : RegRow} (h : Fld.ascend 0 row.fields = true) {f : Fld} (hf : f ∈ row.fields)
    (cur : Nat) {v : Nat} (hv : v < 2 ^ 64) : bitsOf (row.given cur v (2 ^ 64 - 1)) f.lo f.len = bitsOf v f.lo f.len := by
  refine (Fld.bitsOf_pack _ h hf).trans ?_
  rw [mergeBits_all cur hv, and_all hv, ite_self]
  exact Nat.mod_eq_of_lt (bitsOf_lt _ _ _)

/-- What a read of a register gives of a field (R8): nothing of one that is WO or W1S. -/
theorem RegRow.bitsOf_read {row : RegRow} (h : Fld.ascend 0 row.fields = true) {f : Fld} (hf : f ∈ row.fields) (w : Nat) :
    bitsOf (w &&& row.readMask) f.lo f.len = if f.acc = .wo ∨ f.acc = .w1s then 0 else bitsOf w f.lo f.len := by
  have hm : bitsOf row.readMask f.lo f.len = (if f.acc = .wo ∨ f.acc = .w1s then 0 else 2 ^ f.len - 1) % 2 ^ f.len :=
    Fld.bitsOf_pack _ h hf
  rw [bitsOf_and, hm]
  split
  · simp
  · rw [Nat.mod_eq_of_lt (by have := Nat.two_pow_pos f.len; omega), Nat.and_two_pow_sub_one_eq_mod,
      Nat.mod_eq_of_lt (bitsOf_lt _ _ _)]

/-! ### The grove, thermal and descriptor registers -/

/-- Their fields lie apart and are RW or RO. -/
def RegRow.simple (row : RegRow) : Bool :=
  Fld.ascend 0 row.fields && row.fields.all fun f => decide (f.acc = .rw ∨ f.acc = .ro)

theorem rowsGrv_simple : rowsGrv.all RegRow.simple = true := by decide
theorem rowsThm_simple : rowsThm.all RegRow.simple = true := by decide
theorem rowsDesc_simple : rowsDesc.all RegRow.simple = true := by decide

/-- A register of a block is one of the block's rows. -/
theorem Blk.reg_mem {b : Blk} {row : RegRow} {reg : Nat} (h : b.reg = some (row, reg)) : row ∈ b.table.1 := by
  unfold Blk.reg at h
  obtain ⟨r, hr, he⟩ := Option.map_eq_some_iff.1 h
  obtain ⟨rfl, -⟩ := Prod.mk.injEq _ _ _ _ ▸ he
  exact List.mem_of_find?_eq_some hr

theorem Blk.reg_addr {b : Blk} {row : RegRow} {reg : Nat} (h : b.reg = some (row, reg)) :
    reg = b.table.2.1 + b.table.2.2 / 8 * 8 := by
  unfold Blk.reg at h
  obtain ⟨r, -, he⟩ := Option.map_eq_some_iff.1 h
  exact (congrArg Prod.snd he).symm

theorem Blk.reg_simple {b : Blk} {row : RegRow} {reg : Nat} (hp : b.plain = true) (h : b.reg = some (row, reg)) :
    row.simple = true := by
  have hm := Blk.reg_mem h
  cases b with
  | grv g off => exact List.all_eq_true.1 rowsGrv_simple row hm
  | thm off => exact List.all_eq_true.1 rowsThm_simple row hm
  | desc off => exact List.all_eq_true.1 rowsDesc_simple row hm
  | _ => cases hp

theorem RegRow.simple_iff {row : RegRow} : row.simple = true ↔
    Fld.ascend 0 row.fields = true ∧ ∀ f ∈ row.fields, f.acc = .rw ∨ f.acc = .ro := by
  simp [RegRow.simple]

/-- A field after a write of the whole register. -/
theorem Fld.write_all {f : Fld} (ha : f.acc = .rw ∨ f.acc = .ro) (cur : Nat) {v : Nat} (hv : v < 2 ^ 64) :
    f.write cur v (2 ^ 64 - 1) = f.wrote cur v := by
  unfold Fld.write Fld.wrote
  rcases ha with h | h
  · rw [h, mergeBits_all cur hv]
  · rw [h]

theorem Fld.wrote_lt {f : Fld} (cur v : Nat) : f.wrote cur v < 2 ^ f.len := by
  unfold Fld.wrote
  split
  · exact bitsOf_lt _ _ _
  · exact Nat.lt_of_le_of_lt (Nat.sub_le _ _) (bitsOf_lt _ _ _)
  all_goals exact bitsOf_lt _ _ _

theorem RegRow.bitsOf_write {row : RegRow} (h : row.simple = true) {f : Fld} (hf : f ∈ row.fields) (cur : Nat) {v : Nat}
    (hv : v < 2 ^ 64) : bitsOf (packFields (row.fields.map fun f => (f.lo, f.len, f.write cur v (2 ^ 64 - 1))) % 2 ^ 64) f.lo f.len =
      f.wrote cur v := by
  obtain ⟨hs, ha⟩ := RegRow.simple_iff.1 h
  refine (RegRow.bitsOf_word hs hf fun f => f.write cur v (2 ^ 64 - 1)).trans ?_
  rw [Fld.write_all (ha f hf) cur hv, Nat.mod_eq_of_lt (Fld.wrote_lt _ _)]

/-! ## Writes -/

/-- A decode fault of a write is a refused write (R29, R392). -/
theorem refusedWrite_decodeFault (s : State) (addr : Nat) :
    ∃ t, answer s (s.decodeFault true addr) = .next t ∧ s.refusedWrite t :=
  ⟨_, answer_decodeFault s true addr, _, rfl, rfl, rfl⟩

theorem answer_near {s t : State} (h : s.Near t) : answer s t = .next t := by
  rw [answer_eq]
  unfold State.Near at h
  rw [h]

theorem exec_controlWrite_of_bytes {bytes : Nat} (hb : bytes ∈ [1, 2, 4, 8]) (a : Agent) (addr : Nat) (v : W64) (s : State) :
    exec (.controlWrite a addr v bytes) s = controlStore a addr v.toNat bytes s := by
  rw [exec_controlWrite]
  exact if_pos (by simpa using hb)

section
variable {a : Agent} {addr v bytes : Nat} {s : State}

theorem controlStore_misaligned (h : addr % bytes ≠ 0) : controlStore a addr v bytes s = undecoded addr s := if_pos h

theorem controlStore_muted (h : addr % bytes = 0) (hm : s.mute a addr = true) : controlStore a addr v bytes s = .next s := by
  unfold controlStore
  dsimp only
  rw [if_neg (not_not.2 h), if_pos hm]
  rfl

/-- A place whose registers are those of a table of rows. -/
def Blk.tabled : Blk → Bool
  | .imem _ _ | .wcnt _ | .std _ | .sync _ => false
  | _ => true

theorem controlStore_undefined (h : addr % bytes = 0) (hm : s.mute a addr = false) (ht : (blkOf addr).tabled = true)
    (hr : (blkOf addr).reg = none) : controlStore a addr v bytes s = undecoded addr s := by
  unfold controlStore
  dsimp only
  rw [if_neg (not_not.2 h), if_neg (by simp [hm])]
  generalize blkOf addr = b at ht hr
  split
  · cases ht
  · cases ht
  · cases ht
  · cases ht
  · rw [hr]

theorem controlStore_imem {pos off : Nat} (h : addr % bytes = 0) (hm : s.mute a addr = false) (hb : blkOf addr = .imem pos off) :
    controlStore a addr v bytes s = allowed a .mgmt addr s (fun s => s.storeWrite pos off bytes v) := by
  unfold controlStore
  dsimp only
  rw [if_neg (not_not.2 h), if_neg (by simp [hm]), hb]

/-- How a register of a block is written. -/
def Blk.write (a : Agent) (b : Blk) (row : RegRow) (reg v mask given : Nat) (s : State) : Out :=
  match b with
  | .core _ _ _ | .tile _ _ => tileWrite a b row reg v mask given s
  | .hbm _ _ | .fab _ _ | .seq _ => rimWrite a b row reg v mask given s
  | .flt _ | .mgmt _ | .part _ _ | .clk _ => panelWrite a b row reg v mask given s
  | _ => plainWrite a b row reg v mask s

/-- A write of a whole register that a block has. -/
theorem controlStore_word {b : Blk} {row : RegRow} {reg : Nat} (h : addr % 8 = 0) (hm : s.mute a addr = false)
    (hb : blkOf addr = b) (hr : b.reg = some (row, reg)) (hv : v < 2 ^ 64) : controlStore a addr v 8 s =
      b.write a row reg v (2 ^ 64 - 1) (row.given (s.rd ⟨reg, row.rst⟩) v (2 ^ 64 - 1)) s := by
  have hat : v % 2 ^ (8 * 8) * 2 ^ (8 * 0) = v := by omega
  unfold controlStore
  dsimp only
  rw [if_neg (not_not.2 h), if_neg (by simp [hm]), h, hat, hb]
  cases b with
  | imem pos off => cases hr
  | wcnt w => cases hr
  | std off => cases hr
  | sync n => cases hr
  | _ => simp only [hr]; rfl
end

/-! ### The instruction stores -/

theorem Mem.byte_write_inside (n : Nat) : ∀ (m : Mem) (k v i : Nat), i < n →
    Mem.byte (Mem.write m k n v) (k + i) = BitVec.ofNat 8 (v / 2 ^ (8 * i)) := by
  induction n with
  | zero => intro m k v i h; omega
  | succ n ih =>
    intro m k v i h
    simp only [Mem.write]
    cases i with
    | zero =>
      rw [Mem.byte_write_outside n _ _ _ _ (.inl (by omega)), Nat.add_zero, Mem.byte_setByte_same]
      simp
    | succ i =>
      rw [show k + (i + 1) = k + 1 + i by omega, ih _ _ _ _ (by omega), Nat.div_div_eq_div_mul,
        show 8 * (i + 1) = 8 + 8 * i by omega, Nat.pow_add]

theorem State.storeWrite_running {s : State} {pos off : Nat} (h : (s.core (coreKey pos (off / 0x10000))).stopped = false)
    (n v : Nat) : s.storeWrite pos off n v = s.decodeFault true (tileBase pos + off) := if_neg (by simp [h])

/-- A write of a stopped core's instruction store changes its bytes and check bits. -/
theorem State.storeWrite_stopped {s : State} {pos off : Nat} (h : (s.core (coreKey pos (off / 0x10000))).stopped = true)
    (n v : Nat) : ∃ e, s.storeWrite pos off n v = { s with imem := Mem.write s.imem (imemKey pos off) n v, imemEcc := e } := by
  unfold State.storeWrite
  rw [if_pos h]
  dsimp only
  split
  · exact ⟨_, rfl⟩
  · exact ⟨_, rfl⟩

/-! ### The grove, thermal and descriptor registers -/

theorem State.near_counterWritten (s : State) (b : Blk) (old new : Nat) : s.Near (s.counterWritten b old new) :=
  .ite _ (.raise (.ite _ (s.near_refl.raise _ _ _) s.near_refl) _ _ _) (.ite _ (s.near_refl.raise _ _ _) s.near_refl)

theorem State.counterWritten_csr (s : State) (b : Blk) (old new : Nat) : (s.counterWritten b old new).csr = s.csr := by
  unfold State.counterWritten
  dsimp only
  split
  · rw [State.raise_csr]
    split <;> simp only [State.raise_csr]
  · split <;> simp only [State.raise_csr]

theorem State.writeReg_refused {s : State} {row : RegRow} {addr v mask : Nat}
    (h : row.fields.all (fun f => f.ok (classCap (s.fld PWR_CFG_CLASS)) (s.rd ⟨addr, row.rst⟩) v mask) = false) (b : Blk) :
    s.writeReg b row addr v mask = s.decodeFault true addr := by
  simp [State.writeReg, RegRow.write, h]

/-- A register written with values that its fields allow. -/
theorem State.writeReg_taken {s : State} {row : RegRow} {addr v mask : Nat}
    (h : row.fields.all (fun f => f.ok (classCap (s.fld PWR_CFG_CLASS)) (s.rd ⟨addr, row.rst⟩) v mask) = true) (b : Blk) :
    s.Near (s.writeReg b row addr v mask) ∧ (s.writeReg b row addr v mask).csr =
      (s.wr ⟨addr, row.rst⟩ (packFields (row.fields.map fun f => (f.lo, f.len, f.write (s.rd ⟨addr, row.rst⟩) v mask)))).csr := by
  have hw : row.write (classCap (s.fld PWR_CFG_CLASS)) (s.rd ⟨addr, row.rst⟩) v mask =
      some (packFields (row.fields.map fun f => (f.lo, f.len, f.write (s.rd ⟨addr, row.rst⟩) v mask))) := if_pos h
  unfold State.writeReg
  dsimp only
  rw [hw]
  dsimp only
  split
  · exact ⟨(s.near_refl.wr _ _).trans (State.near_counterWritten _ _ _ _), State.counterWritten_csr _ _ _ _⟩
  · exact ⟨s.near_refl.wr _ _, rfl⟩

/-- A grove's register is muted where the grove is fused off, at each of its aliases in the grove's TILE windows. -/
theorem State.mute_grv {addr g : Nat} (hg : g < 36) (ha : (addr - 0x100000000) / 0x1000000 = g) (hl : 0x100000000 ≤ addr)
    (ho : 0xC0000 ≤ addr % 0x100000) (a : Agent) (s : State) : s.mute a addr = !s.fuses.groves.getLsbD g := by
  have hw : 0x100000000 ≤ addr ∧ addr < 0x100000000 + 36 * 0x1000000 := by omega
  have ht : tilePart addr = none := if_neg (by omega)
  simp [State.mute, State.absent, ht, hw, ha]

theorem State.mute_plain {addr reg : Nat} {row : RegRow} (h : addr % 8 = 0) (hp : (blkOf addr).plain = true)
    (hr : (blkOf addr).reg = some (row, reg)) (a : Agent) (s : State) : s.mute a reg = s.mute a addr := by
  have hf := blkOf_fits addr
  have ha := Blk.reg_addr hr
  generalize blkOf addr = b at hp hf ha
  cases b with
  | grv g off =>
    simp only [Blk.table, Blk.fits, grvBase] at ha hf
    obtain ⟨hg, hd, hl, ho, hc⟩ := hf
    subst ha
    rw [State.mute_grv hg hd hl (by omega)]
    have hd' : (0x100000000 + g * 0x1000000 + off / 8 * 8 - 0x100000000) / 0x1000000 = g := by clear hd; omega
    have hc' : 0xC0000 ≤ (0x100000000 + g * 0x1000000 + off / 8 * 8) % 0x100000 := by omega
    exact State.mute_grv hg hd' (by omega) hc' a s
  | thm off =>
    simp only [Blk.table, Blk.fits] at ha hf
    rw [show reg = addr by omega]
  | desc off =>
    simp only [Blk.table, Blk.fits] at ha hf
    rw [show reg = addr by omega]
  | _ => cases hp

/-- A write of such a register has no effect of its own. -/
theorem Blk.write_plain {b : Blk} (hp : b.plain = true) {a : Agent} {row : RegRow} {reg v mask given : Nat} {s : State}
    (hm : s.mute a reg = false) : b.write a row reg v mask given s =
      if s.mayWrite a row.who then answer s (s.writeReg b row reg v mask) else answer s (s.decodeFault true reg) := by
  cases b with
  | grv g off | thm off | desc off =>
    simp only [Blk.write, plainWrite, allowed, hm, State.locked, State.regWrite, State.afterWrite, ite_self]
    rfl
  | _ => cases hp

theorem controlWrite_plain_refused {a : Agent} {addr reg : Nat} {row : RegRow} {v : W64} {s : State} (h : addr % 8 = 0)
    (hm : s.mute a addr = false) (hp : (blkOf addr).plain = true) (hr : (blkOf addr).reg = some (row, reg))
    (hw : s.mayWrite a row.who = false) : yields (.controlWrite a addr v 8) s s.refusedWrite := by
  unfold yields
  rw [exec_controlWrite_of_bytes (by decide), controlStore_word h hm rfl hr v.isLt,
    Blk.write_plain hp ((State.mute_plain h hp hr a s).trans hm), if_neg (by simp [hw])]
  exact refusedWrite_decodeFault s reg

theorem controlWrite_plain_allowed {a : Agent} {addr reg : Nat} {row : RegRow} {v : W64} {s : State} (h : addr % 8 = 0)
    (hm : s.mute a addr = false) (hp : (blkOf addr).plain = true) (hr : (blkOf addr).reg = some (row, reg))
    (hw : s.mayWrite a row.who = true) : exec (.controlWrite a addr v 8) s =
      answer s (s.writeReg (blkOf addr) row reg v.toNat (2 ^ 64 - 1)) := by
  rw [exec_controlWrite_of_bytes (by decide), controlStore_word h hm rfl hr v.isLt,
    Blk.write_plain hp ((State.mute_plain h hp hr a s).trans hm), if_pos hw]

/-- What a write of a grove's, thermal or descriptor register with allowed values changes (R8): the register's fields. -/
theorem controlWrite_plain_taken {a : Agent} {addr reg : Nat} {row : RegRow} {v : W64} {s : State} (h : addr % 8 = 0)
    (hm : s.mute a addr = false) (hp : (blkOf addr).plain = true) (hr : (blkOf addr).reg = some (row, reg))
    (hw : s.mayWrite a row.who = true)
    (hok : row.fields.all (fun f => f.ok (classCap (s.fld PWR_CFG_CLASS)) (s.rd ⟨reg, row.rst⟩) v.toNat (2 ^ 64 - 1)) = true) :
    yields (.controlWrite a addr v 8) s (fun t => t = { s with csr := t.csr, faults := t.faults } ∧
      (∀ f, f ∈ row.fields → bitsOf (t.rd ⟨reg, row.rst⟩) f.lo f.len = f.wrote (s.rd ⟨reg, row.rst⟩) v.toNat) ∧
      ∀ r : Reg, r.addr ≠ reg → t.rd r = s.rd r) := by
  obtain ⟨hn, hc⟩ := State.writeReg_taken hok (blkOf addr)
  refine ⟨_, (controlWrite_plain_allowed h hm hp hr hw).trans (answer_near hn), hn, fun f hf => ?_, fun r hne => ?_⟩
  · rw [State.rd_congr hc, State.rd_wr_same]
    exact RegRow.bitsOf_write (Blk.reg_simple hp hr) hf _ v.isLt
  · rw [State.rd_congr hc]
    exact State.rd_wr_ne s _ hne

/-! ### The command registers -/

theorem blkOf_seqCmd {k : Nat} (hk : k < 256) : blkOf (SEQ_CMDs k).addr = .seq (0x2000 + k * 8) := by
  show blkOf (0x500000000 + 0x2000 + k * 8) = _
  generalize hn : 0x500000000 + 0x2000 + k * 8 = n
  unfold blkOf
  iterate 10 rw [if_neg (by omega)]
  rw [if_pos ⟨by omega, by omega⟩]
  exact congrArg Blk.seq (by omega)

theorem blkOf_partCmd {p : Nat} (hp : p < 16) : blkOf (MGMT_PARTp_CMD p).addr = .part p 0x28 := by
  unfold blkOf mgmtBlk MGMT_PARTp_CMD partBase
  dsimp only
  rw [if_pos (by omega), if_pos (by omega), show (0x40000 + p * 0x100 + 0x28 - 0x40000) / 0x100 = p by omega,
    show (0x40000 + p * 0x100 + 0x28) % 0x100 = 0x28 by omega]

theorem blkOf_oppCmd : blkOf CLK_OPP_CMD.addr = .clk 0x18 := by decide

/-- The row of SEQ_CMDs (R156). -/
def seqCmdRow : RegRow := ⟨0x2000, 256, 8, .tile, [⟨0, 4, .wo, 0, .range 1 7⟩, ⟨16, 24, .wo, 0, .any⟩]⟩
/-- The row of MGMT_PARTp_CMD (R275). -/
def partCmdRow : RegRow := ⟨0x28, 1, 8, .part, [⟨0, 4, .wo, 0, .range 1 6⟩]⟩
/-- The row of CLK_OPP_CMD (R349). -/
def oppCmdRow : RegRow := ⟨0x18, 1, 8, .clkpwr, [⟨0, 2, .wo, 0, .any⟩]⟩

theorem RegRow.holds_iff {r : RegRow} {off : Nat} : r.holds off = true ↔
    r.off ≤ off ∧ (off - r.off) / r.stride < r.count ∧ (off - r.off) % r.stride < 8 := by
  simp [RegRow.holds, and_assoc]

/-- The words of the slots stand below the commands. -/
theorem slotRow_not_holds (k : Nat) {r : RegRow} (hr : r ∈ rowsSeq.take 4) : r.holds (0x2000 + k * 8) = false := by
  have h : r.off ≤ 24 ∧ r.count = 256 ∧ r.stride = 32 := by revert r; decide
  obtain ⟨ho, hc, hs⟩ := h
  rw [Bool.eq_false_iff, Ne, RegRow.holds_iff, hc, hs]
  omega

theorem reg_seqCmd {k : Nat} (hk : k < 256) : (Blk.seq (0x2000 + k * 8)).reg = some (seqCmdRow, (SEQ_CMDs k).addr) := by
  have hd : 0x2000 + k * 8 - 0x2000 = k * 8 := Nat.add_sub_cancel_left ..
  have hh : seqCmdRow.holds (0x2000 + k * 8) = true := by
    simp only [RegRow.holds_iff, seqCmdRow, hd]
    omega
  have hf : rowsSeq.find? (fun r => r.holds (0x2000 + k * 8)) = some seqCmdRow :=
    List.find?_eq_some_iff_append.2 ⟨hh, rowsSeq.take 4, rowsSeq.drop 5, rfl, fun r hr => by simp [slotRow_not_holds k hr]⟩
  have ha : 0x500000000 + (0x2000 + k * 8) / 8 * 8 = 0x500000000 + 0x2000 + k * 8 := by omega
  simp only [Blk.reg, Blk.table, hf, Option.map_some, ha, SEQ_CMDs]

theorem reg_partCmd (p : Nat) : (Blk.part p 0x28).reg = some (partCmdRow, (MGMT_PARTp_CMD p).addr) := by
  have hf : rowsPart.find? (fun r => r.holds 0x28) = some partCmdRow := by decide
  simp only [Blk.reg, Blk.table, hf, Option.map_some, MGMT_PARTp_CMD]

theorem reg_oppCmd : (Blk.clk 0x18).reg = some (oppCmdRow, CLK_OPP_CMD.addr) := rfl

section
variable {a : Agent} {v : W64} {s : State}

/-- A write of a slot's command register runs what OP names, on the command written (R156). -/
theorem controlWrite_seqCmd {k : Nat} (hk : k < 256) (hm : s.mute a (SEQ_CMDs k).addr = false) : ∃ w,
    exec (.controlWrite a (SEQ_CMDs k).addr v 8) s = seqCmd a k w s ∧
      bitsOf w 0 4 = bitsOf v.toNat 0 4 ∧ bitsOf w 16 24 = bitsOf v.toNat 16 24 := by
  have h8 : (SEQ_CMDs k).addr % 8 = 0 := by simp only [SEQ_CMDs]; omega
  rw [exec_controlWrite_of_bytes (by decide), controlStore_word h8 hm (blkOf_seqCmd hk) (reg_seqCmd hk) v.isLt]
  have hc : 0x400 ≤ (0x2000 + k * 8) / 8 ∧ (0x2000 + k * 8) / 8 < 0x500 := by omega
  simp only [Blk.write, rimWrite, if_pos hc]
  rw [show (0x2000 + k * 8) / 8 - 0x400 = k by omega]
  exact ⟨_, rfl, RegRow.bitsOf_given (row := seqCmdRow) (f := ⟨0, 4, .wo, 0, .range 1 7⟩) (by decide) (by decide) _ v.isLt,
    RegRow.bitsOf_given (row := seqCmdRow) (f := ⟨16, 24, .wo, 0, .any⟩) (by decide) (by decide) _ v.isLt⟩

/-- A write of a partition's command register runs what OP names (R262). -/
theorem controlWrite_partCmd {p : Nat} (hp : p < 16) (hm : s.mute a (MGMT_PARTp_CMD p).addr = false) : ∃ w,
    exec (.controlWrite a (MGMT_PARTp_CMD p).addr v 8) s = partCmd a p w s ∧ bitsOf w 0 4 = bitsOf v.toNat 0 4 := by
  have h8 : (MGMT_PARTp_CMD p).addr % 8 = 0 := by simp only [MGMT_PARTp_CMD, partBase]; omega
  rw [exec_controlWrite_of_bytes (by decide), controlStore_word h8 hm (blkOf_partCmd hp) (reg_partCmd p) v.isLt]
  exact ⟨_, rfl, RegRow.bitsOf_given (row := partCmdRow) (f := ⟨0, 4, .wo, 0, .range 1 6⟩) (by decide) (by decide) _ v.isLt⟩

theorem mute_oppCmd : s.mute a CLK_OPP_CMD.addr = false := by
  have ht : tilePart CLK_OPP_CMD.addr = none := by decide
  have hs : s.absent CLK_OPP_CMD.addr = false := rfl
  simp [State.mute, ht, hs]

/-- A write of CLK_OPP_CMD is the request for an operating point (R340). -/
theorem controlWrite_oppCmd :
    exec (.controlWrite a CLK_OPP_CMD.addr v 8) s = exec (.clkOppCmd a (bitsOf v.toNat 0 2)) s := by
  rw [exec_controlWrite_of_bytes (by decide), controlStore_word (by decide) mute_oppCmd blkOf_oppCmd reg_oppCmd v.isLt,
    exec_clkOppCmd]
  exact congrArg (execClkOppCmd a · s)
    (RegRow.bitsOf_given (row := oppCmdRow) (f := ⟨0, 2, .wo, 0, .any⟩) (by decide) (by decide) _ v.isLt)
end

/-! ## Sessions' reads and writes -/

section
variable {id addr : Nat} {s : State} {x : Session}

theorem operation_runs {admin : Bool} {v : Avail} (hx : s.session id = some x) (hm : s.mayOperate x admin v = true)
    (f : Session → State → State) : operation id admin v s f = answer s (f x s) := by
  unfold operation
  rw [hx]
  exact if_pos hm

theorem State.control_unaligned (h : addr % 8 ≠ 0) (s : State) : s.control addr = none := if_pos h

theorem State.control_absent (h : addr % 8 = 0) (ha : s.absent addr = true) : s.control addr = some 0 := by
  unfold State.control
  rw [if_neg (not_not.2 h), if_pos ha]

theorem State.control_none (ha : s.absent addr = false) (hb : blkOf addr = .none) : s.control addr = none := by
  unfold State.control
  split
  · rfl
  · rw [if_neg (by simp [ha]), hb]
    rfl

theorem State.control_plain {row : RegRow} {reg : Nat} (h : addr % 8 = 0) (ha : s.absent addr = false)
    (hp : (blkOf addr).plain = true) (hc : s.computed (blkOf addr) = none) (hr : (blkOf addr).reg = some (row, reg)) :
    s.control addr = some (s.rd ⟨reg, row.rst⟩ &&& row.readMask) := by
  unfold State.control
  rw [if_neg (not_not.2 h), if_neg (by simp [ha])]
  generalize blkOf addr = b at hp hc hr
  cases b with
  | grv g off | thm off | desc off => simp only [hr, hc, Option.getD_none]
  | _ => cases hp

/-- A read changes at most the count of free values. -/
theorem State.readDone_frame (s : State) (addr : Nat) : s.readDone addr = { s with free := (s.readDone addr).free } :=
  by
  unfold State.readDone
  split
  · split <;> rfl
  · rfl

theorem State.readDone_plain (hp : (blkOf addr).plain = true) (s : State) : s.readDone addr = s := by
  unfold State.readDone
  generalize blkOf addr = b at hp
  cases b with
  | core pos c off => cases hp
  | _ => rfl

theorem cread_unserved (hx : s.session id = some x) (hm : s.mayOperate x false .noRom = true) (hs : s.creadServes addr = false) :
    exec (.cread id addr) s = .next { s with answer := [1] } := by
  rw [exec_cread, execCread, operation_runs hx hm, hs]
  rfl

/-- A read where no register is defined: zero, and a decode fault (R29). -/
theorem cread_undefined (hx : s.session id = some x) (hm : s.mayOperate x false .noRom = true) (hs : s.creadServes addr = true)
    (hc : s.control addr = none) : exec (.cread id addr) s = .next { s with
      answer := [0, 0]
      faults := { s.faults with flying := s.faults.flying ++ [s.record (srcDev 9) 1 (addr % 2 ^ 40)] } } := by
  rw [exec_cread, execCread, operation_runs hx hm, hs, hc, State.decodeFault, s.raise_dev 9 _ _ (by decide)]
  rfl

theorem cread_word (hx : s.session id = some x) (hm : s.mayOperate x false .noRom = true) (hs : s.creadServes addr = true)
    {w : Nat} (hc : s.control addr = some w) : exec (.cread id addr) s =
      .next { s with answer := [0, BitVec.ofNat 64 w], free := (s.readDone addr).free } := by
  rw [exec_cread, execCread, operation_runs hx hm, hs, hc, State.readDone_frame]
  rfl
end

/-! ## The obligation -/

section
variable {a : Agent} {addr bytes : Nat} {v : W64} {s : State}

/-- A write of an address without a register of its own is refused (R29). -/
theorem undecoded_refused (h : exec (.controlWrite a addr v bytes) s = undecoded addr s) :
    yields (.controlWrite a addr v bytes) s s.refusedWrite := by
  obtain ⟨t, he, hr⟩ := refusedWrite_decodeFault s addr
  exact ⟨t, h.trans he, hr⟩

theorem controlWrite_completes (hb : bytes ∈ [1, 2, 4, 8]) : ∃ t, exec (.controlWrite a addr v bytes) s = .next t :=
  exec_next_of_wf (by simpa [Instr.wf] using hb) s

theorem controlWrite_misaligned (hb : bytes ∈ [1, 2, 4, 8]) (h : addr % bytes ≠ 0) :
    yields (.controlWrite a addr v bytes) s s.refusedWrite :=
  undecoded_refused ((exec_controlWrite_of_bytes hb a addr v s).trans (controlStore_misaligned h))

theorem controlWrite_muted (hb : bytes ∈ [1, 2, 4, 8]) (h : addr % bytes = 0) (hm : s.mute a addr = true) :
    exec (.controlWrite a addr v bytes) s = .next s :=
  (exec_controlWrite_of_bytes hb a addr v s).trans (controlStore_muted h hm)

theorem controlWrite_undefined (hb : bytes ∈ [1, 2, 4, 8]) (h : addr % bytes = 0) (hm : s.mute a addr = false)
    (ht : (blkOf addr).tabled = true) (hr : (blkOf addr).reg = none) : yields (.controlWrite a addr v bytes) s s.refusedWrite :=
  undecoded_refused ((exec_controlWrite_of_bytes hb a addr v s).trans (controlStore_undefined h hm ht hr))

/-- Writes of an instruction store (R80): by the management controller, while the core is stopped. -/
theorem controlWrite_imem {pos off : Nat} (hb : bytes ∈ [1, 2, 4, 8]) (h : addr % bytes = 0) (hm : s.mute a addr = false)
    (hi : blkOf addr = .imem pos off) :
    (s.mayWrite a .mgmt = false → yields (.controlWrite a addr v bytes) s s.refusedWrite) ∧
    (s.mayWrite a .mgmt = true → (s.core (coreKey pos (off / 0x10000))).stopped = false →
      yields (.controlWrite a addr v bytes) s s.refusedWrite) ∧
    (s.mayWrite a .mgmt = true → (s.core (coreKey pos (off / 0x10000))).stopped = true →
      yields (.controlWrite a addr v bytes) s (fun t => t = { s with imem := t.imem, imemEcc := t.imemEcc } ∧
        (∀ i, i < bytes → Mem.byte t.imem (imemKey pos off + i) = BitVec.ofNat 8 (v.toNat / 2 ^ (8 * i))) ∧
        ∀ k, (k < imemKey pos off ∨ imemKey pos off + bytes ≤ k) → Mem.byte t.imem k = Mem.byte s.imem k)) := by
  obtain ⟨-, hyes, hno⟩ := allowed_cases a .mgmt addr s (fun s => s.storeWrite pos off bytes v.toNat)
  unfold yields
  rw [exec_controlWrite_of_bytes hb, controlStore_imem h hm hi]
  refine ⟨fun hw => ?_, fun hw hr => ?_, fun hw hs => ?_⟩
  · rw [hno hm hw]
    exact refusedWrite_decodeFault s addr
  · rw [hyes hm hw, State.storeWrite_running hr]
    exact refusedWrite_decodeFault s _
  · obtain ⟨e, he⟩ := State.storeWrite_stopped hs bytes v.toNat
    rw [hyes hm hw, he]
    exact ⟨_, rfl, rfl, fun i hlt => Mem.byte_write_inside bytes _ _ _ i hlt, fun k hk => Mem.byte_write_outside bytes _ _ _ k hk⟩

/-- A write of a value that a field of such a register does not allow (R433). -/
theorem controlWrite_plain_discarded {reg : Nat} {row : RegRow} (h : addr % 8 = 0) (hm : s.mute a addr = false)
    (hp : (blkOf addr).plain = true) (hr : (blkOf addr).reg = some (row, reg)) (hw : s.mayWrite a row.who = true)
    (hok : row.fields.all (fun f => f.ok (classCap (s.fld PWR_CFG_CLASS)) (s.rd ⟨reg, row.rst⟩) v.toNat (2 ^ 64 - 1)) = false) :
    yields (.controlWrite a addr v 8) s s.refusedWrite := by
  unfold yields
  rw [controlWrite_plain_allowed h hm hp hr hw, State.writeReg_refused hok]
  exact refusedWrite_decodeFault s reg
end

theorem controlWrite_seqCmd_runs (a : Agent) (k : Nat) (v : W64) (s : State) (hk : k < 256)
    (hm : s.mute a (SEQ_CMDs k).addr = false) :
    (bitsOf v.toNat 0 4 = 1 → exec (.controlWrite a (SEQ_CMDs k).addr v 8) s = exec (.activate a k) s) ∧
    (bitsOf v.toNat 0 4 = 2 → exec (.controlWrite a (SEQ_CMDs k).addr v 8) s = exec (.hold a k) s) ∧
    (bitsOf v.toNat 0 4 = 4 → exec (.controlWrite a (SEQ_CMDs k).addr v 8) s = exec (.release a k) s) ∧
    (bitsOf v.toNat 0 4 = 5 → exec (.controlWrite a (SEQ_CMDs k).addr v 8) s = exec (.setlen a k (bitsOf v.toNat 16 24)) s) := by
  obtain ⟨w, he, ho, hv⟩ := controlWrite_seqCmd (v := v) hk hm
  rw [he, exec_activate, exec_hold, exec_release, exec_setlen, ← ho, ← hv]
  refine ⟨fun h => ?_, fun h => ?_, fun h => ?_, fun h => ?_⟩ <;> simp only [seqCmd, h]

theorem controlWrite_partCmd_runs (a : Agent) (p : Nat) (v : W64) (s : State) (hp : p < 16)
    (hm : s.mute a (MGMT_PARTp_CMD p).addr = false) :
    (bitsOf v.toNat 0 4 = 1 → exec (.controlWrite a (MGMT_PARTp_CMD p).addr v 8) s = exec (.create a p) s) ∧
    (bitsOf v.toNat 0 4 = 3 → exec (.controlWrite a (MGMT_PARTp_CMD p).addr v 8) s = exec (.start a p) s) ∧
    (bitsOf v.toNat 0 4 = 5 → exec (.controlWrite a (MGMT_PARTp_CMD p).addr v 8) s = exec (.teardown a p) s) := by
  obtain ⟨w, he, ho⟩ := controlWrite_partCmd (v := v) hp hm
  rw [he, exec_create, exec_start, exec_teardown, ← ho]
  refine ⟨fun h => ?_, fun h => ?_, fun h => ?_⟩ <;> simp only [partCmd, h]

/-- What CREAD answers (R29, R391). -/
theorem cread_serves (id addr : Nat) : Serves id false .noRom (.cread id addr) (fun s _ t =>
    (s.creadServes addr = false → t = { s with answer := [1] }) ∧
    (s.creadServes addr = true → (addr % 8 ≠ 0 ∨ (s.absent addr = false ∧ blkOf addr = .none)) →
      t.answer = [0, 0] ∧ ∃ r, t = { s with answer := t.answer, faults := { s.faults with flying := s.faults.flying ++ [r] } } ∧
        r.source = srcDev 9 ∧ r.cause = 1) ∧
    (s.creadServes addr = true → addr % 8 = 0 → s.absent addr = true → t.answer = [0, 0] ∧ t.faults = s.faults) ∧
    (∀ row reg, s.creadServes addr = true → addr % 8 = 0 → s.absent addr = false → (blkOf addr).plain = true →
      s.computed (blkOf addr) = none → (blkOf addr).reg = some (row, reg) → t = { s with answer := t.answer } ∧
        ∃ w : W64, t.answer = [0, w] ∧ ∀ f, f ∈ row.fields → bitsOf w.toNat f.lo f.len =
          (if f.acc = .wo ∨ f.acc = .w1s then 0 else bitsOf (s.rd ⟨reg, row.rst⟩) f.lo f.len))) := by
  intro s x hx hm
  obtain ⟨t, ht⟩ := exec_next_of_wf (c := .cread id addr) rfl s
  refine ⟨t, ht, fun hs => ?_, fun hs hn => ?_, fun hs h ha => ?_, fun row reg hs h ha hp hc hr => ?_⟩
  · exact Host.Outcome.next.inj (ht.symm.trans (cread_unserved hx hm hs))
  · have hc : s.control addr = none := by
      rcases hn with h | ⟨ha, hb⟩
      · exact State.control_unaligned h s
      · exact State.control_none ha hb
    obtain rfl := Host.Outcome.next.inj (ht.symm.trans (cread_undefined hx hm hs hc))
    exact ⟨rfl, _, rfl, rfl, rfl⟩
  · obtain rfl := Host.Outcome.next.inj (ht.symm.trans (cread_word hx hm hs (State.control_absent h ha)))
    exact ⟨rfl, rfl⟩
  · obtain rfl := Host.Outcome.next.inj (ht.symm.trans (cread_word hx hm hs (State.control_plain h ha hp hc hr)))
    refine ⟨by rw [State.readDone_plain hp], _, rfl, fun f hf => ?_⟩
    obtain ⟨hasc, -⟩ := RegRow.simple_iff.1 (Blk.reg_simple hp hr)
    rw [BitVec.toNat_ofNat, bitsOf_mod_two_pow _ _ ((Fld.ascend_top hasc).2 hf)]
    exact RegRow.bitsOf_read hasc hf _

/-- CWRITE is a write as an ADMIN client (R392), answered by STATUS 0. -/
theorem cwrite_serves (id addr : Nat) (value : W64) : Serves id true .noRecovery (.cwrite id addr value) (fun s _ t =>
    ∃ u, exec (.controlWrite .admin addr value 8) s = .next u ∧ t = { u with answer := [0] }) := by
  intro s x hx hm
  obtain ⟨u, hu⟩ := controlWrite_completes (a := .admin) (addr := addr) (v := value) (s := s) (bytes := 8) (by decide)
  have hc : controlStore .admin addr value.toNat 8 s = .next u := by rw [← exec_controlWrite_of_bytes (by decide), hu]
  refine ⟨{ u with answer := [0] }, ?_, u, hu, rfl⟩
  rw [exec_cwrite, execCwrite, hx]
  dsimp only
  rw [if_pos hm, hc]
  rfl

/-- Settles O58: each write goes through the register that its address names; the fields of a packed word read back as they
were packed. -/
theorem controlSpace : Obligations.ControlSpace := by
  refine ⟨fun a addr bytes v s hb => ⟨controlWrite_completes hb, controlWrite_misaligned hb, controlWrite_muted hb,
      fun h hm hr ht => controlWrite_undefined hb h hm ?_ hr, fun pos off h hm hi => controlWrite_imem hb h hm hi⟩,
    fun a addr reg v s row h hm hp hr => ⟨controlWrite_plain_refused h hm hp hr,
      fun hw => ⟨controlWrite_plain_discarded h hm hp hr hw, controlWrite_plain_taken h hm hp hr hw⟩⟩,
    controlWrite_seqCmd_runs, controlWrite_partCmd_runs, fun a v s => controlWrite_oppCmd, cread_serves, cwrite_serves⟩
  generalize blkOf addr = b at ht
  cases b with
  | imem pos off => exact ht.elim
  | wcnt w => exact ht.elim
  | std off => exact ht.elim
  | sync n => exact ht.elim
  | _ => rfl

end Sys2Proof.Machine
end

section
/-! PROOFS. What leaves the scratchpads, the instruction stores, HBM and the firmware bytes as they were keeps the form in which
they are listed (O59). -/

namespace Sys2Proof.Machine

section
variable {pending : List Instr} {fuses : Fuses} {clk : Clocks} {csr : SMap W64} {std : SMap W32} {wcnt : SMap Nat}
  {cores : SMap Core} {tiles : SMap Tile} {spadPoison spadLine spadLineCe hbmPoison releasing nodesUp idleSlots : NSet}
  {spadEcc imemEcc hbmEcc creditUsed creditBack rimTurn srtGen : SMap Nat} {marks : List Mark} {access : List Access}
  {sync : SMap SyncObj} {msgs : List SyncMsg} {ops : List SeqOp} {net : List NetItem} {track : SMap Track}
  {combine : SMap Combine} {hbmReqs : List HReq} {ports : SMap Port} {fabric : List FItem} {dies : SMap LDie}
  {parts : SMap Part} {faults : Faults} {boot : Boot} {power : Power} {thermal : Thermal} {mgmt : Mgmt} {bridge : Bridge}
  {pins : Pins} {answer : List W64} {nextOp free : Nat}

/-- A state that has the memories of another, whatever else it holds. -/
@[simp] theorem State.canonical_mk (s : State) :
    State.canonical ⟨pending, fuses, clk, csr, std, wcnt, cores, tiles, s.spad, spadPoison, spadEcc, spadLine, spadLineCe,
      marks, s.imem, imemEcc, s.hbm, hbmPoison, hbmEcc, s.fwBytes, access, sync, msgs, ops, releasing, nextOp, nodesUp, net,
      track, combine, creditUsed, creditBack, rimTurn, idleSlots, srtGen, hbmReqs, ports, fabric, dies, parts, faults, boot,
      power, thermal, mgmt, bridge, pins, answer, free⟩ ↔ s.canonical := .rfl
end

@[simp] theorem State.canonical_foldl {α : Type} {f : State → α → State}
    (hf : ∀ s x, (f s x).canonical ↔ s.canonical) (l : List α) (s : State) : (l.foldl f s).canonical ↔ s.canonical := by
  induction l generalizing s with
  | nil => rfl
  | cons x l ih => rw [List.foldl_cons, ih, hf]

@[simp] theorem State.canonical_ite {p : Prop} [Decidable p] {s t : State} :
    (if p then s else t).canonical ↔ if p then s.canonical else t.canonical := by split <;> rfl

section
variable {s : State}
  {a active add addr agent bank base bit c capOff capPart cause cause17 cls code core d data delivered demand
    dest detail dir engine fcore from_ g h hcore hi i id idle index inport k key kind l lane left len link lo
    logical m mask n new o obj off old op opp p part patterns pc pin pin10 point poison port pos posted pruned q r
    reason refused result size slot soc source src srckind status t tag target tenths threshold to_ tries type v
    value w watts window word x : Nat}

/-! ### Registers, cores and records -/

@[simp] theorem State.wr_canonical {r : Reg} : (s.wr r v).canonical ↔ s.canonical := .rfl
@[simp] theorem State.setFld_canonical {f : Field} : (s.setFld f v).canonical ↔ s.canonical := .rfl
@[simp] theorem State.setElem_canonical {r : Nat → Reg} : (s.setElem r w i v).canonical ↔ s.canonical := .rfl
@[simp] theorem State.atCycle_canonical : (s.atCycle g n).canonical ↔ s.canonical := .rfl
@[simp] theorem State.atRef_canonical : (s.atRef r).canonical ↔ s.canonical := .rfl
@[simp] theorem State.setStatus_canonical : (s.setStatus pos v).canonical ↔ s.canonical := .rfl
@[simp] theorem State.mapAll_canonical : (s.mapAll l v).canonical ↔ s.canonical := by simp [State.mapAll]
@[simp] theorem State.setCore_canonical {c : Core} : (s.setCore key c).canonical ↔ s.canonical := .rfl
@[simp] theorem State.modCore_canonical {f : Core → Core} : (s.modCore key f).canonical ↔ s.canonical := .rfl
@[simp] theorem State.modTile_canonical {f : Tile → Tile} : (s.modTile pos f).canonical ↔ s.canonical := .rfl
@[simp] theorem State.modPort_canonical {f : Port → Port} : (s.modPort p f).canonical ↔ s.canonical := .rfl
@[simp] theorem State.modDie_canonical {f : LDie → LDie} : (s.modDie m f).canonical ↔ s.canonical := .rfl
@[simp] theorem State.modPart_canonical {f : Part → Part} : (s.modPart p f).canonical ↔ s.canonical := .rfl
@[simp] theorem State.posted_canonical : (s.posted key id).canonical ↔ s.canonical := .rfl
@[simp] theorem State.irq_canonical : (s.irq n).canonical ↔ s.canonical := by simp [State.irq]
@[simp] theorem State.healthEvent_canonical : (s.healthEvent k).canonical ↔ s.canonical := .rfl
@[simp] theorem State.send_canonical {r : FaultRec} : (s.send r).canonical ↔ s.canonical := by simp [State.send]
@[simp] theorem State.raise_canonical : (s.raise source cause detail).canonical ↔ s.canonical := .rfl
@[simp] theorem State.count_canonical {c : Counter} : (s.count c n).canonical ↔ s.canonical := by simp [State.count]
@[simp] theorem State.log_canonical {body : List W64} : (s.log type len body).canonical ↔ s.canonical := by simp [State.log]
@[simp] theorem State.capture_canonical {r : Reg} :
    (s.capture r word source cause).canonical ↔ s.canonical := by simp [State.capture]
@[simp] theorem State.captureWith_canonical {r : Reg} {rec : State → Nat → FaultRec} :
    (s.captureWith r word rec).canonical ↔ s.canonical := by simp [State.captureWith]
@[simp] theorem State.decodeFault_canonical {write : Bool} :
    (s.decodeFault write addr).canonical ↔ s.canonical := by simp [State.decodeFault]
@[simp] theorem State.perf_canonical : (s.perf pos core i n).canonical ↔ s.canonical := by simp [State.perf]
@[simp] theorem State.sendSync_canonical {m : SyncMsg} : (s.sendSync m).canonical ↔ s.canonical := .rfl
@[simp] theorem State.attach_canonical {en : Bool} {void : Bool} {guard_ ends : Option (Nat × Nat)} :
    (s.attach en obj value logical part pos void guard_ ends).canonical ↔ s.canonical := by
  unfold State.attach
  repeat' split
  all_goals simp
@[simp] theorem State.freeValue_canonical : s.freeValue.2.canonical ↔ s.canonical := .rfl
@[simp] theorem State.lastDone_canonical : (s.lastDone k).canonical ↔ s.canonical := .rfl

/-! ### Scratchpads, windows and the packets of a tile -/

@[simp] theorem State.spadUe_canonical {feeder line : Bool} :
    (s.spadUe pos off agent feeder line).canonical ↔ s.canonical := by simp [State.spadUe]
@[simp] theorem State.checkWord_canonical {feeder : Bool} {e : Nat × Nat} :
    (s.checkWord pos agent feeder e).canonical ↔ s.canonical := by simp [State.checkWord]
@[simp] theorem State.spadRead_canonical {feeder : Bool} :
    (s.spadRead pos off len agent feeder).2.2.canonical ↔ s.canonical := by simp [State.spadRead]
theorem State.canonical.msAccess {f : State → State} (h : s.canonical)
    (hf : ∀ s : State, s.canonical → (f s).canonical) :
    (s.msAccess pos off len t f).canonical := by
  unfold State.msAccess
  dsimp only
  split
  · simpa using h
  · exact hf _ (by simpa using h)
@[simp] theorem State.discard_canonical {cls : WrClass} :
    (s.discard pos off cls src reason).canonical ↔ s.canonical := by simp [State.discard]
@[simp] theorem State.msError_canonical :
    (s.msError pos core op cause off).canonical ↔ s.canonical := by simp [State.msError]
@[simp] theorem State.winSet_canonical :
    (s.winSet pos n lo hi core op capOff).canonical ↔ s.canonical := by simp [State.winSet]
@[simp] theorem State.winsClosed_canonical : (s.winsClosed pos).canonical ↔ s.canonical := by simp [State.winsClosed]
@[simp] theorem State.takeCredits_canonical : (s.takeCredits link cls n).canonical ↔ s.canonical := .rfl
@[simp] theorem State.freeSlots_canonical {link : Option Nat} : (s.freeSlots link cls n).canonical ↔ s.canonical := by
  unfold State.freeSlots
  split <;> simp
@[simp] theorem State.placeAs_canonical {checked : Bool} {p : Pkt} {w : Place} :
    (s.placeAs checked p w).canonical ↔ s.canonical := .rfl
@[simp] theorem State.place_canonical {p : Pkt} {w : Place} : (s.place p w).canonical ↔ s.canonical := .rfl
@[simp] theorem State.leaveNet_canonical : (s.leaveNet n).canonical ↔ s.canonical := by
  unfold State.leaveNet
  dsimp only
  repeat' split
  all_goals simp
@[simp] theorem State.bridgeOut_canonical {l kept : List (Pkt × List Nat)} :
    (s.bridgeOut l kept).canonical ↔ s.canonical := by
  induction l generalizing s kept with
  | nil => rfl
  | cons x l ih =>
    unfold State.bridgeOut
    dsimp only
    split <;> simp [ih]
@[simp] theorem State.setTrack_canonical {t : Track} : (s.setTrack pos tag t).canonical ↔ s.canonical := .rfl
@[simp] theorem State.freeTrack_canonical : (s.freeTrack pos tag).canonical ↔ s.canonical := .rfl
@[simp] theorem State.dispatch_canonical {t : Track} : (s.dispatch pos tag t).canonical ↔ s.canonical := by
  unfold State.dispatch
  dsimp only
  repeat' split
  all_goals simp
@[simp] theorem State.sendPacket_canonical {p : Pkt} {holder : Holder} :
    (s.sendPacket pos dest p holder).canonical ↔ s.canonical := by
  unfold State.sendPacket
  split <;> simp
@[simp] theorem State.dropCapture_canonical {p : Pkt} :
    (s.dropCapture pos cause inport p).canonical ↔ s.canonical := by simp [State.dropCapture]
@[simp] theorem State.dropped_canonical {p : Pkt} :
    (s.dropped pos cause inport p).canonical ↔ s.canonical := by simp [State.dropped]
@[simp] theorem State.modEntry_canonical {f : QEntry → QEntry} :
    (s.modEntry pos id f).canonical ↔ s.canonical := by simp [State.modEntry]
@[simp] theorem State.enqueue_canonical {kind : QKind} {desc : List W64} {ready : Bool} :
    (s.enqueue pos kind engine core posted desc off ready).canonical ↔ s.canonical := .rfl
@[simp] theorem State.loadBack_canonical {dst : LoadDst} : (s.loadBack key dst data poison).canonical ↔ s.canonical := by
  unfold State.loadBack
  simp
@[simp] theorem State.perfNack_canonical : (s.perfNack key).canonical ↔ s.canonical := by simp [State.perfNack]
@[simp] theorem State.conclude_canonical {t : Track} {refused : Option Nat} :
    (s.conclude t refused).canonical ↔ s.canonical := by
  unfold State.conclude
  repeat' split
  all_goals simp
@[simp] theorem State.writeCr_canonical : (s.writeCr pos core i v).canonical ↔ s.canonical := by
  unfold State.writeCr
  split <;> simp
@[simp] theorem State.landPend_canonical {p : Pend} : (s.landPend key p).canonical ↔ s.canonical := by
  unfold State.landPend
  split <;> simp
@[simp] theorem State.stallCounted_canonical :
    (s.stallCounted pos core n).canonical ↔ s.canonical := by simp [State.stallCounted]
@[simp] theorem State.takeTrap_canonical {p : Trap} :
    (s.takeTrap pos core pc idle t p).canonical ↔ s.canonical := by simp [State.takeTrap]
@[simp] theorem State.startCore_canonical : (s.startCore pos core).canonical ↔ s.canonical := by
  unfold State.startCore
  simp
@[simp] theorem State.haltCore_canonical : (s.haltCore pos core).canonical ↔ s.canonical := by simp [State.haltCore]
@[simp] theorem State.addAccess_canonical {a : Access} : (s.addAccess a).canonical ↔ s.canonical := .rfl
@[simp] theorem State.sendTo_canonical {p : Pkt} {holder : Holder} :
    (s.sendTo pos addr p holder).canonical ↔ s.canonical := by simp [State.sendTo]
@[simp] theorem State.grantCkpt_canonical : (s.grantCkpt pos).canonical ↔ s.canonical := by
  unfold State.grantCkpt
  split <;> simp
@[simp] theorem State.attachPkt_canonical {p : Pkt} :
    (s.attachPkt p pos).canonical ↔ s.canonical := by simp [State.attachPkt]
@[simp] theorem State.accessDone_canonical {a : Access} {refused : Option Nat} {dataPoison : Bool} :
    (s.accessDone a refused dataPoison).canonical ↔ s.canonical := by
  unfold State.accessDone
  repeat' split
  all_goals simp
@[simp] theorem State.putAccess_canonical {a : Access} : (s.putAccess i a).canonical ↔ s.canonical := .rfl
@[simp] theorem State.dropAccess_canonical : (s.dropAccess i).canonical ↔ s.canonical := .rfl
@[simp] theorem State.heldOff_canonical {a : Access} {weights : Bool} :
    (s.heldOff i a t bank weights fcore).canonical ↔ s.canonical := by
  unfold State.heldOff
  split <;> simp
@[simp] theorem State.marked_canonical {m : Mark} : (s.marked m).canonical ↔ s.canonical := by simp [State.marked]
@[simp] theorem State.freeEntry_canonical : (s.freeEntry pos id).canonical ↔ s.canonical := .rfl
@[simp] theorem State.mseDone_canonical {e : QEntry} {good : Bool} :
    (s.mseDone pos e good).canonical ↔ s.canonical := by simp [State.mseDone]
@[simp] theorem State.mseStep_canonical {e : QEntry} :
    (s.mseStep pos e n len).canonical ↔ s.canonical := by simp [State.mseStep]
@[simp] theorem State.winEffect_canonical {x : WinChange} : (s.winEffect pos x).canonical ↔ s.canonical := by
  unfold State.winEffect
  repeat' split
  all_goals simp
@[simp] theorem State.winControl_canonical {hi : W64} {open_ : Bool} :
    (s.winControl pos n hi open_).canonical ↔ s.canonical := by simp [State.winControl]
@[simp] theorem State.setReach_canonical {valid : Bool} :
    (s.setReach pos d logical valid).canonical ↔ s.canonical := by simp [State.setReach]
@[simp] theorem State.takeItem_canonical {p : Pkt} :
    (s.takeItem n pos inport p).canonical ↔ s.canonical := by simp [State.takeItem]
@[simp] theorem State.reply_canonical {p : Pkt} : (s.reply pos p type reason).canonical ↔ s.canonical := .rfl
@[simp] theorem State.dropItem_canonical {p : Pkt} :
    (s.dropItem n pos inport cause p).canonical ↔ s.canonical := by simp [State.dropItem]
@[simp] theorem State.corrected_canonical : (s.corrected q n).canonical ↔ s.canonical := by simp [State.corrected]
@[simp] theorem State.linkChecked_canonical {p : Pkt} {e : LinkErrors} :
    (s.linkChecked q p e).canonical ↔ s.canonical := by simp [State.linkChecked]
@[simp] theorem State.inspect_canonical {e : LinkErrors} : (s.inspect n e).canonical ↔ s.canonical := by
  unfold State.inspect
  repeat' split
  all_goals simp
@[simp] theorem State.forward_canonical {p : Pkt} {a : Ask} {e : LinkErrors} :
    (s.forward n pos p a e).canonical ↔ s.canonical := by
  unfold State.forward
  split <;> simp
theorem State.routeItem_canonical {t : State} {e : LinkErrors} {it : NetItem} (h : s.routeItem n e it = some t) :
    t.canonical ↔ s.canonical := by
  unfold State.routeItem at h
  dsimp only at h
  repeat' split at h
  all_goals cases h
  all_goals simp
@[simp] theorem State.landing_canonical {p : Pkt} :
    (s.landing pos inport p).canonical ↔ s.canonical := by simp [State.landing]
theorem State.deliverItem_canonical {t : State} {it : NetItem} (h : s.deliverItem n it = some t) :
    t.canonical ↔ s.canonical := by
  unfold State.deliverItem at h
  dsimp only at h
  repeat' split at h
  all_goals cases h
  all_goals simp
@[simp] theorem State.holdTrack_canonical {t : Track} {h : Hold} : (s.holdTrack pos tag t h).canonical ↔ s.canonical := .rfl
@[simp] theorem State.expire_canonical {t : Track} :
    (s.expire pos tag reason cause t).canonical ↔ s.canonical := by simp [State.expire]
@[simp] theorem State.absorbed_canonical {p : Pkt} : (s.absorbed n pos inport p).canonical ↔ s.canonical := by
  unfold State.absorbed
  split <;> simp
@[simp] theorem State.emit_canonical {p : Pkt} {c : Combine} {final : Bool} {bf16 : Bool} :
    (s.emit pos r inport p c final bf16).canonical ↔ s.canonical := by simp [State.emit]
@[simp] theorem State.redRefused_canonical {p : Pkt} : (s.redRefused n pos inport reason p).canonical ↔ s.canonical := by
  unfold State.redRefused
  split <;> simp
@[simp] theorem State.combineIn_canonical {p : Pkt} {e : Bool × Nat × Bool} :
    (s.combineIn n pos inport p e).canonical ↔ s.canonical := by
  unfold State.combineIn
  split <;> simp
theorem State.absorbItem_canonical {t : State} {it : NetItem} (h : s.absorbItem n it = some t) :
    t.canonical ↔ s.canonical := by
  unfold State.absorbItem at h
  dsimp only at h
  repeat' split at h
  all_goals cases h
  all_goals simp

/-! ### Readiness, synchronization, the fabric and its tables -/

@[simp] theorem State.setStd_canonical : (s.setStd w v).canonical ↔ s.canonical := .rfl
@[simp] theorem State.stdWrite_canonical : (s.stdWrite w v).canonical ↔ s.canonical := by simp [State.stdWrite]
@[simp] theorem State.addFence_canonical : (s.addFence kind index reason).canonical ↔ s.canonical := by
  unfold State.addFence
  split <;> simp
@[simp] theorem State.setReady_canonical {v : Bool} :
    (s.setReady code bit v).canonical ↔ s.canonical := by simp [State.setReady]
@[simp] theorem State.refreshReady_canonical : s.refreshReady.canonical ↔ s.canonical := by simp [State.refreshReady]
@[simp] theorem State.setObj_canonical {x : SyncObj} : (s.setObj o x).canonical ↔ s.canonical := .rfl
@[simp] theorem State.syncError_canonical {m : SyncMsg} :
    (s.syncError m cause).canonical ↔ s.canonical := by simp [State.syncError]
@[simp] theorem State.fireWatch_canonical : (s.fireWatch w).canonical ↔ s.canonical := by simp [State.fireWatch]
@[simp] theorem State.releaseCore_canonical : (s.releaseCore o pos core).canonical ↔ s.canonical := by
  unfold State.releaseCore
  simp
@[simp] theorem State.countChanged_canonical : (s.countChanged o).canonical ↔ s.canonical := by
  unfold State.countChanged
  split <;> simp
@[simp] theorem State.setSlotState_canonical : (s.setSlotState k v).canonical ↔ s.canonical := .rfl
@[simp] theorem State.seqReject_canonical {scatter : Bool} :
    (s.seqReject slot cause source scatter).canonical ↔ s.canonical := by simp [State.seqReject]
@[simp] theorem State.slotFree_canonical : (s.slotFree slot).canonical ↔ s.canonical := .rfl
@[simp] theorem State.opDone_canonical {o : SeqOp} {void : Bool} :
    (s.opDone o void).canonical ↔ s.canonical := by simp [State.opDone]
@[simp] theorem State.pump_canonical : (s.pump p).canonical ↔ s.canonical := by simp [State.pump]
@[simp] theorem State.fabDrop_canonical {p : FPkt} :
    (s.fabDrop port cause p).canonical ↔ s.canonical := by simp [State.fabDrop]
@[simp] theorem State.sendBack_canonical {r : FPkt} : (s.sendBack port r).canonical ↔ s.canonical := .rfl
@[simp] theorem State.deadHop_canonical {p : FPkt} : (s.deadHop port p).canonical ↔ s.canonical := by simp [State.deadHop]
@[simp] theorem State.mergeInto_canonical {g : Merge} :
    (s.mergeInto m i g).canonical ↔ s.canonical := by simp [State.mergeInto]
@[simp] theorem State.mergeAnswer_canonical : (s.mergeAnswer m i delivered pruned refused).canonical ↔ s.canonical := by
  unfold State.mergeAnswer
  split <;> simp
@[simp] theorem State.pruneBranch_canonical {p : FPkt} : (s.pruneBranch port p).canonical ↔ s.canonical := by
  unfold State.pruneBranch
  dsimp only
  repeat' split
  all_goals simp
@[simp] theorem State.lostAt_canonical {p : FPkt} : (s.lostAt port p).canonical ↔ s.canonical := by simp [State.lostAt]
@[simp] theorem State.flushQueue_canonical : (s.flushQueue port).canonical ↔ s.canonical := by simp [State.flushQueue]
@[simp] theorem State.dieTrailWritten_canonical : (s.dieTrailWritten m d).canonical ↔ s.canonical := .rfl
@[simp] theorem State.setDieTrail_canonical {t : Option (List Nat)} :
    (s.setDieTrail m d t).canonical ↔ s.canonical := by simp [State.setDieTrail]
@[simp] theorem State.bridgePut_canonical {p : Pkt} {l : List Nat} :
    (s.bridgePut p l).canonical ↔ s.canonical := by simp [State.bridgePut]
@[simp] theorem State.bridgeAgain_canonical {t : BTrack} : (s.bridgeAgain tag t).canonical ↔ s.canonical := by
  unfold State.bridgeAgain
  split <;> simp
@[simp] theorem State.bridgeResend_canonical : s.bridgeResend.canonical ↔ s.canonical := by simp [State.bridgeResend]
@[simp] theorem State.rewriteTrails_canonical : s.rewriteTrails.canonical ↔ s.canonical := by
  unfold State.rewriteTrails
  simp
@[simp] theorem State.setHops_canonical : (s.setHops g).canonical ↔ s.canonical := by simp [State.setHops]
@[simp] theorem State.wipe_canonical : (s.wipe lo hi).canonical ↔ s.canonical := .rfl
@[simp] theorem State.copyWords_canonical : (s.copyWords lo len base).canonical ↔ s.canonical := by simp [State.copyWords]
@[simp] theorem State.clearTables_canonical {versions : List Bool} :
    (s.clearTables pos versions).canonical ↔ s.canonical := by simp [State.clearTables]
@[simp] theorem State.clearRoutes_canonical : (s.clearRoutes g).canonical ↔ s.canonical := by simp [State.clearRoutes]
@[simp] theorem State.putWords_canonical {w : List W64} :
    (s.putWords addr w).canonical ↔ s.canonical := by simp [State.putWords]
@[simp] theorem State.putRecord_canonical {e : Bool} {w : List W64} : (s.putRecord p e w).canonical ↔ s.canonical := by
  unfold State.putRecord
  split <;> simp
@[simp] theorem State.copySlot_canonical :
    (s.copySlot p w from_ to_ len).canonical ↔ s.canonical := by simp [State.copySlot]
@[simp] theorem State.copyFabric_canonical {e : Bool} :
    (s.copyFabric p e).canonical ↔ s.canonical := by simp [State.copyFabric]
@[simp] theorem State.slotsCurrent_canonical : (s.slotsCurrent p).canonical ↔ s.canonical := by simp [State.slotsCurrent]
@[simp] theorem State.flip_canonical {records : List (List W64)} :
    (s.flip p records).canonical ↔ s.canonical := by simp [State.flip]
@[simp] theorem State.setGrove_canonical : (s.setGrove g v).canonical ↔ s.canonical := .rfl
@[simp] theorem State.dropAccesses_canonical : (s.dropAccesses pos).canonical ↔ s.canonical := by
  refine (State.canonical_foldl (fun s a => ?_) _ _).trans (by simp)
  dsimp only
  repeat' split
  all_goals simp
@[simp] theorem State.reachNone_canonical : (s.reachNone pos).canonical ↔ s.canonical := by simp [State.reachNone]
@[simp] theorem State.unalign_canonical : (s.unalign g).canonical ↔ s.canonical := by
  refine (State.canonical_foldl (fun s d => ?_) _ _).trans (by simp)
  split <;> simp
@[simp] theorem State.groveWake_canonical : (s.groveWake g).canonical ↔ s.canonical := by simp [State.groveWake]

/-! ### HBM, Ethernet and the movers -/

@[simp] theorem State.hbmNack_canonical :
    (s.hbmNack k cause part srckind src a).canonical ↔ s.canonical := by simp [State.hbmNack]
@[simp] theorem State.hbmError_canonical {scrub : Bool} {part : Option Nat} {e : Nat × Nat} :
    (s.hbmError k scrub part capPart e).canonical ↔ s.canonical := by simp [State.hbmError]
@[simp] theorem State.hbmRead_canonical : (s.hbmRead k a len part).2.2.canonical ↔ s.canonical := by simp [State.hbmRead]
@[simp] theorem State.rimSend_canonical {p : Pkt} : (s.rimSend k pos p).canonical ↔ s.canonical := by simp [State.rimSend]
@[simp] theorem State.reqDone_canonical {r : HReq} {p : Pkt} :
    (s.reqDone i r p).canonical ↔ s.canonical := by simp [State.reqDone]
@[simp] theorem State.reqFailed_canonical {r : HReq} :
    (s.reqFailed i r).canonical ↔ s.canonical := by simp [State.reqFailed]
@[simp] theorem State.stackRecords_canonical :
    (s.stackRecords k cause).canonical ↔ s.canonical := by simp [State.stackRecords]
@[simp] theorem State.portTo_canonical : (s.portTo p new).canonical ↔ s.canonical := by simp [State.portTo]
@[simp] theorem State.portDown_canonical : (s.portDown p new).canonical ↔ s.canonical := by simp [State.portDown]
@[simp] theorem State.portTrain_canonical : (s.portTrain p).canonical ↔ s.canonical := by simp [State.portTrain]
@[simp] theorem State.refresh_canonical : s.refresh.canonical ↔ s.canonical := by simp [State.refresh]
@[simp] theorem State.hostSeen_canonical : (s.hostSeen a n).canonical ↔ s.canonical := by simp [State.hostSeen]
@[simp] theorem State.sendPause_canonical : (s.sendPause p).canonical ↔ s.canonical := by simp [State.sendPause]
@[simp] theorem State.ethDrop_canonical : (s.ethDrop p).canonical ↔ s.canonical := by simp [State.ethDrop]
@[simp] theorem State.setCover_canonical : (s.setCover p).canonical ↔ s.canonical := by
  unfold State.setCover
  split <;> simp
@[simp] theorem State.issuedOne_canonical : (s.issuedOne pos id).canonical ↔ s.canonical := .rfl
@[simp] theorem State.issuePacket_canonical {e : QEntry} {pair : Pair} :
    (s.issuePacket pos engine e pair).canonical ↔ s.canonical := by
  unfold State.issuePacket
  dsimp only
  repeat' split
  all_goals simp
@[simp] theorem State.movError_canonical :
    (s.movError pos engine code reason addr).canonical ↔ s.canonical := by simp [State.movError]
@[simp] theorem State.queueMgmt_canonical {m : Nat × List W64} : (s.queueMgmt pos m).canonical ↔ s.canonical := .rfl
theorem State.hbmReach_canonical {t : State} (h : s.hbmReach pos off size type = .inr (reason, t)) :
    t.canonical ↔ s.canonical := by
  unfold State.hbmReach at h
  dsimp only at h
  repeat' split at h
  all_goals cases h
  all_goals simp
@[simp] theorem State.opEnd_canonical {o : SeqOp} {refused : Option (Nat × Nat)} :
    (s.opEnd o refused).canonical ↔ s.canonical := by
  unfold State.opEnd
  split <;> simp
@[simp] theorem State.advanceLength_canonical {o : SeqOp} :
    (s.advanceLength o).canonical ↔ s.canonical := by simp [State.advanceLength]
@[simp] theorem State.setPart_canonical : (s.setPart p v).canonical ↔ s.canonical := by simp [State.setPart]

/-! ### Partitions, faults and recovery -/

@[simp] theorem State.bracket_canonical : s.bracket.canonical ↔ s.canonical := by simp [State.bracket]
@[simp] theorem State.stopCore_canonical : (s.stopCore pos core).canonical ↔ s.canonical := by simp [State.stopCore]
@[simp] theorem State.haltPart_canonical : (s.haltPart p).canonical ↔ s.canonical := by simp [State.haltPart]
@[simp] theorem State.clearEntries_canonical {gone : Nat → Bool} : (s.clearEntries gone).canonical ↔ s.canonical := .rfl
@[simp] theorem State.discardMsgs_canonical : (s.discardMsgs p).canonical ↔ s.canonical := by
  refine (State.canonical_foldl (fun s m => ?_) _ _).trans (by simp)
  dsimp only
  split <;> simp
@[simp] theorem State.clearObjects_canonical : (s.clearObjects p).canonical ↔ s.canonical := by simp [State.clearObjects]
@[simp] theorem State.resetSlots_canonical {free : Bool} :
    (s.resetSlots p free).canonical ↔ s.canonical := by simp [State.resetSlots]
@[simp] theorem State.discardOwed_canonical : (s.discardOwed p).canonical ↔ s.canonical := by simp [State.discardOwed]
@[simp] theorem State.quiet_canonical {teardown : Bool} :
    (s.quiet p teardown).canonical ↔ s.canonical := by simp [State.quiet]
@[simp] theorem State.setKat_canonical {i : Manifest} : (s.setKat i pos).canonical ↔ s.canonical := by simp [State.setKat]
@[simp] theorem State.loadSync_canonical {i : Manifest} : (s.loadSync i).canonical ↔ s.canonical := by simp [State.loadSync]
@[simp] theorem State.openWindows_canonical {i : Manifest} : (s.openWindows i).canonical ↔ s.canonical := by
  refine State.canonical_foldl (fun s w => ?_) _ _
  split <;> simp
@[simp] theorem State.loadTile_canonical {w : List W64} :
    (s.loadTile pos w).canonical ↔ s.canonical := by simp [State.loadTile]
@[simp] theorem State.loadFailed_canonical {e : Nat × Nat × Nat} :
    (s.loadFailed p e).canonical ↔ s.canonical := by simp [State.loadFailed]
@[simp] theorem State.createDone_canonical : (s.createDone p).canonical ↔ s.canonical := by simp [State.createDone]
@[simp] theorem State.createPart_canonical : (s.createPart p).canonical ↔ s.canonical := by
  simp only [State.createPart, State.canonical_mk, State.canonical_foldl, State.canonical_ite, State.wr_canonical,
    State.setFld_canonical, State.clearRoutes_canonical, State.clearTables_canonical, State.groveWake_canonical, ite_self,
    implies_true]
@[simp] theorem State.announce_canonical {recovery lost : Option Nat} :
    (s.announce p tries recovery lost).canonical ↔ s.canonical := .rfl
@[simp] theorem State.recoveryDone_canonical {rewind : Bool} :
    (s.recoveryDone p rewind).canonical ↔ s.canonical := by simp [State.recoveryDone]
@[simp] theorem State.runPart_canonical {recovery : Option Nat} : (s.runPart p recovery).canonical ↔ s.canonical := by
  unfold State.runPart
  split <;> split <;> simp
  all_goals
    refine State.canonical_foldl (fun s w => ?_) _ _
    split <;> simp
@[simp] theorem State.setAlert_canonical : s.setAlert.canonical ↔ s.canonical := .rfl
@[simp] theorem State.setAlive_canonical : s.setAlive.canonical ↔ s.canonical := .rfl
@[simp] theorem State.watchRefresh_canonical {r : Bool} :
    (s.watchRefresh r).canonical ↔ s.canonical := by simp [State.watchRefresh]
@[simp] theorem State.arrive_canonical {r : FaultRec} : (s.arrive r).canonical ↔ s.canonical := by
  simp only [State.arrive, State.canonical_mk, State.canonical_ite, State.irq_canonical, State.raise_canonical,
    State.count_canonical, State.log_canonical, State.setFld_canonical, ite_self]
@[simp] theorem State.messageLost_canonical : (s.messageLost q).canonical ↔ s.canonical := by simp [State.messageLost]
@[simp] theorem State.acknowledge_canonical : (s.acknowledge v).canonical ↔ s.canonical := by simp [State.acknowledge]
@[simp] theorem State.failSlot_canonical : (s.failSlot k).canonical ↔ s.canonical := by simp [State.failSlot]
@[simp] theorem State.jobDies_canonical {r : FaultRec} : (s.jobDies r).canonical ↔ s.canonical := by
  unfold State.jobDies
  repeat' split
  all_goals simp
@[simp] theorem State.routerGone_canonical : (s.routerGone x).canonical ↔ s.canonical := by simp [State.routerGone]
@[simp] theorem State.reroute_canonical : (s.reroute g).canonical ↔ s.canonical := by simp [State.reroute]
@[simp] theorem State.fencePos_canonical : (s.fencePos x).canonical ↔ s.canonical := by simp [State.fencePos]
@[simp] theorem State.restore_canonical {i : Manifest} {records : List CkptRec} {k : Kept} :
    (s.restore p i n records k).canonical ↔ s.canonical := by
  simp only [State.restore, State.openWindows_canonical, State.canonical_foldl, State.canonical_ite,
    State.setSlotState_canonical, State.setFld_canonical, ite_self, implies_true]
  refine (State.canonical_foldl (fun s w => ?_) _ _).trans (by simp)
  split <;> simp
@[simp] theorem State.unannounce_canonical : (s.unannounce p).canonical ↔ s.canonical := .rfl
@[simp] theorem State.goStale_canonical : (s.goStale p).canonical ↔ s.canonical := by simp [State.goStale]
@[simp] theorem State.detourOthers_canonical {own : Option Nat} : (s.detourOthers own x).canonical ↔ s.canonical := by
  refine State.canonical_foldl (fun s q => ?_) _ _
  repeat' split
  all_goals simp
@[simp] theorem State.detour_canonical {i : Manifest} : (s.detour p x i).canonical ↔ s.canonical := by
  unfold State.detour
  split <;> simp
@[simp] theorem State.flushLog_canonical : s.flushLog.canonical ↔ s.canonical := by simp [State.flushLog]
@[simp] theorem State.stopBringUp_canonical : s.stopBringUp.canonical ↔ s.canonical := by simp [State.stopBringUp]
@[simp] theorem State.pollOne_canonical {missing : Bool} : (s.pollOne missing pos).canonical ↔ s.canonical := by
  unfold State.pollOne
  split <;> simp
@[simp] theorem State.see_canonical {l : List Reg} : (s.see l).canonical ↔ s.canonical := by simp [State.see]
@[simp] theorem State.rescore_canonical {r : Reg} :
    (s.rescore r add threshold).1.canonical ↔ s.canonical := State.wr_canonical
@[simp] theorem State.scorePart_canonical {r : Reg} :
    (s.scorePart r add threshold).canonical ↔ s.canonical := by simp [State.scorePart]
@[simp] theorem State.measureDuty_canonical : (s.measureDuty pos).canonical ↔ s.canonical := by
  simp only [State.measureDuty, State.canonical_ite, State.canonical_mk]
  split
  · rfl
  · split <;> simp only [State.canonical_ite, State.raise_canonical, State.setFld_canonical, State.canonical_mk, ite_self]
@[simp] theorem State.scoreTile_canonical : (s.scoreTile pos).canonical ↔ s.canonical := by simp [State.scoreTile]
@[simp] theorem State.scorePort_canonical : (s.scorePort p).canonical ↔ s.canonical := by simp [State.scorePort]
@[simp] theorem State.scoreStack_canonical : (s.scoreStack k).canonical ↔ s.canonical := by simp [State.scoreStack]
@[simp] theorem State.scorePanel_canonical : s.scorePanel.canonical ↔ s.canonical := by simp [State.scorePanel]

/-! ### Clocks, power and heat -/

@[simp] theorem State.setVcore_canonical : (s.setVcore opp g).canonical ↔ s.canonical := by simp [State.setVcore]
@[simp] theorem State.setLevels_canonical : (s.setLevels opp).canonical ↔ s.canonical := by simp [State.setLevels]
@[simp] theorem State.refuseOpp_canonical : (s.refuseOpp cause).canonical ↔ s.canonical := by simp [State.refuseOpp]
@[simp] theorem State.setChange_canonical {c : Option OppChange} : (s.setChange c).canonical ↔ s.canonical := .rfl
@[simp] theorem State.announceOpp_canonical {c : OppChange} : (s.announceOpp c tries).canonical ↔ s.canonical := .rfl
@[simp] theorem State.beginOpp_canonical {asker : Asker} : (s.beginOpp target asker).canonical ↔ s.canonical := by
  unfold State.beginOpp
  split <;> simp
@[simp] theorem State.requestOpp_canonical {asker : Asker} : (s.requestOpp target asker).canonical ↔ s.canonical := by
  unfold State.requestOpp
  repeat' split
  all_goals simp
@[simp] theorem State.endOpp_canonical : s.endOpp.canonical ↔ s.canonical := by
  unfold State.endOpp
  dsimp only
  split <;> simp
@[simp] theorem State.switchOpp_canonical {c : OppChange} :
    (s.switchOpp c).canonical ↔ s.canonical := by simp [State.switchOpp]
@[simp] theorem State.alignPoint_canonical :
    (s.alignPoint g dir point code).canonical ↔ s.canonical := by simp [State.alignPoint]
@[simp] theorem State.alignAll_canonical : (s.alignAll g).canonical ↔ s.canonical := by
  refine State.canonical_foldl (fun s d => ?_) _ _
  repeat' split
  all_goals simp
@[simp] theorem State.noteDroop_canonical {goesOn : Bool} :
    (s.noteDroop g goesOn).canonical ↔ s.canonical := by simp [State.noteDroop]
@[simp] theorem State.loadCopy_canonical : (s.loadCopy pos).canonical ↔ s.canonical := by simp [State.loadCopy]
@[simp] theorem State.clockKeep_canonical : (s.clockKeep g).canonical ↔ s.canonical := by simp [State.clockKeep]
@[simp] theorem State.showSegment_canonical : (s.showSegment r).canonical ↔ s.canonical := by simp [State.showSegment]
@[simp] theorem State.bringUpStage_canonical :
    (s.bringUpStage g left).canonical ↔ s.canonical := by simp [State.bringUpStage]
@[simp] theorem State.setCap_canonical : s.setCap.canonical ↔ s.canonical := by simp [State.setCap]
@[simp] theorem State.envelope_canonical : (s.envelope cause pin).canonical ↔ s.canonical := by simp [State.envelope]
@[simp] theorem State.setHeld_canonical {v : Bool} : (s.setHeld v).canonical ↔ s.canonical := by simp [State.setHeld]
@[simp] theorem State.governLower_canonical : s.governLower.canonical ↔ s.canonical := by simp [State.governLower]
@[simp] theorem State.governRestore_canonical : s.governRestore.canonical ↔ s.canonical := by simp [State.governRestore]
@[simp] theorem State.envelopeChecks_canonical :
    (s.envelopeChecks pin pin10).canonical ↔ s.canonical := by simp [State.envelopeChecks]
@[simp] theorem State.publishPower_canonical {r : MsReading} :
    (s.publishPower r demand soc).canonical ↔ s.canonical := by simp [State.publishPower]
@[simp] theorem State.takePin_canonical : (s.takePin pin soc).canonical ↔ s.canonical := .rfl
@[simp] theorem State.setTarget_canonical : (s.setTarget pin10 demand).canonical ↔ s.canonical := .rfl
@[simp] theorem State.reservoirLow_canonical :
    (s.reservoirLow pin soc).canonical ↔ s.canonical := by simp [State.reservoirLow]
@[simp] theorem State.governPoint_canonical :
    (s.governPoint demand soc).canonical ↔ s.canonical := by simp [State.governPoint]
@[simp] theorem State.formSpot_canonical : (s.formSpot pos h).canonical ↔ s.canonical := by
  unfold State.formSpot
  dsimp only
  split <;> simp
@[simp] theorem State.showMax_canonical : s.showMax.canonical ↔ s.canonical := by
  unfold State.showMax
  dsimp only
  split <;> simp
@[simp] theorem State.setThrottled_canonical {v : Bool} :
    (s.setThrottled v).canonical ↔ s.canonical := by simp [State.setThrottled]
@[simp] theorem State.markHot_canonical : s.markHot.canonical ↔ s.canonical := by
  refine State.canonical_foldl (fun s x => ?_) _ _
  split <;> simp
@[simp] theorem State.stepDown_canonical : s.stepDown.canonical ↔ s.canonical := by simp [State.stepDown]
@[simp] theorem State.clearHot_canonical : s.clearHot.canonical ↔ s.canonical := by simp [State.clearHot]
@[simp] theorem State.stepUp_canonical : s.stepUp.canonical ↔ s.canonical := by simp [State.stepUp]
@[simp] theorem State.noteCool_canonical : s.noteCool.canonical ↔ s.canonical := by
  unfold State.noteCool
  split <;> simp
@[simp] theorem State.throttle_canonical : s.throttle.canonical ↔ s.canonical := by simp [State.throttle]
@[simp] theorem State.showPreds_canonical {preds : List (Nat × BitVec 12)} :
    (s.showPreds preds).canonical ↔ s.canonical := by simp [State.showPreds]
@[simp] theorem State.limits_canonical : (s.limits g key pos v cause17).canonical ↔ s.canonical := by simp [State.limits]
@[simp] theorem State.compare_canonical : (s.compare pos h).canonical ↔ s.canonical := by
  unfold State.compare
  split <;> simp
@[simp] theorem State.takeReading_canonical {reading : Option (BitVec 16)} :
    (s.takeReading pos d reading).canonical ↔ s.canonical := by simp [State.takeReading]
@[simp] theorem State.readDiode_canonical {reading : Option (BitVec 16)} :
    (s.readDiode pos d reading).canonical ↔ s.canonical := by simp [State.readDiode]
@[simp] theorem State.sense_canonical {x : Sensor} {reading : Option (BitVec 16)} :
    (s.sense x reading).canonical ↔ s.canonical := by
  unfold State.sense
  split <;> simp
@[simp] theorem State.failSensor_canonical :
    (s.failSensor pos d cause).canonical ↔ s.canonical := by simp [State.failSensor]
@[simp] theorem State.groveRth_canonical : (s.groveRth g watts).canonical ↔ s.canonical := by
  unfold State.groveRth
  dsimp only
  repeat' split
  all_goals simp
@[simp] theorem State.panelRth_canonical : s.panelRth.canonical ↔ s.canonical := by simp [State.panelRth]

/-! ### Firmware and bring-up -/

@[simp] theorem State.setSlot_canonical {f : FwSlot} : (s.setSlot k x f).canonical ↔ s.canonical := .rfl
@[simp] theorem State.reject_canonical : (s.reject k cause).canonical ↔ s.canonical := .rfl
@[simp] theorem State.noteFall_canonical {p : Pick} : (s.noteFall k p).canonical ↔ s.canonical := by
  unfold State.noteFall
  dsimp only
  repeat' split
  all_goals simp
@[simp] theorem State.setRunning_canonical {l : List (Nat × Nat)} :
    (s.setRunning l).canonical ↔ s.canonical := by simp [State.setRunning]
@[simp] theorem State.recovery_canonical : (s.recovery word slot).canonical ↔ s.canonical := by simp [State.recovery]
@[simp] theorem State.romRecovery_canonical : s.romRecovery.canonical ↔ s.canonical := by simp [State.romRecovery]
@[simp] theorem State.selectFirmware_canonical : s.selectFirmware.canonical ↔ s.canonical := by
  unfold State.selectFirmware
  dsimp only
  repeat' split
  all_goals simp
@[simp] theorem State.scanPositions_canonical : s.scanPositions.canonical ↔ s.canonical := by simp [State.scanPositions]
@[simp] theorem State.scanDies_canonical : s.scanDies.canonical ↔ s.canonical := by simp [State.scanDies]
@[simp] theorem State.scanFences_canonical : s.scanFences.canonical ↔ s.canonical := by simp [State.scanFences]
@[simp] theorem State.scanSupply_canonical : (s.scanSupply g).canonical ↔ s.canonical := by simp [State.scanSupply]
@[simp] theorem State.fencePairs_canonical : s.fencePairs.canonical ↔ s.canonical := by simp [State.fencePairs]
@[simp] theorem State.restoreHealth_canonical : s.restoreHealth.canonical ↔ s.canonical := by
  unfold State.restoreHealth
  split <;> simp
@[simp] theorem State.startManagement_canonical :
    s.startManagement.canonical ↔ s.canonical := by simp [State.startManagement]
@[simp] theorem State.startSupply_canonical {refPresent : Bool} :
    (s.startSupply refPresent).canonical ↔ s.canonical := by simp [State.startSupply]
@[simp] theorem State.startPanel_canonical : s.startPanel.canonical ↔ s.canonical := by simp [State.startPanel]
@[simp] theorem State.finish_canonical : (s.finish k).canonical ↔ s.canonical := .rfl
@[simp] theorem State.writeDist_canonical : s.writeDist.canonical ↔ s.canonical := by simp [State.writeDist]
@[simp] theorem State.writeDone_canonical : s.writeDone.canonical ↔ s.canonical := by simp [State.writeDone]
@[simp] theorem State.settle_canonical : s.settle.canonical ↔ s.canonical := by simp [State.settle]
@[simp] theorem State.reconcile_canonical : (s.reconcile g).canonical ↔ s.canonical := by simp [State.reconcile]
@[simp] theorem State.notReady_canonical : (s.notReady g).canonical ↔ s.canonical := by simp [State.notReady]
@[simp] theorem State.checkRoot_canonical : s.checkRoot.canonical ↔ s.canonical := by simp [State.checkRoot]
@[simp] theorem State.testsOver_canonical : (s.testsOver g).canonical ↔ s.canonical := by simp [State.testsOver]
@[simp] theorem State.logBist_canonical : (s.logBist pos).canonical ↔ s.canonical := by simp [State.logBist]
@[simp] theorem State.posFails_canonical : (s.posFails q result reason).canonical ↔ s.canonical := by simp [State.posFails]
@[simp] theorem State.logDie_canonical {d : Die} : (s.logDie d).canonical ↔ s.canonical := by
  unfold State.logDie
  repeat' split
  all_goals simp
@[simp] theorem State.writeCoverage_canonical {d : Die} :
    (s.writeCoverage d patterns tenths).canonical ↔ s.canonical := by simp [State.writeCoverage]
@[simp] theorem State.finishPorts_canonical : (s.finishPorts m).canonical ↔ s.canonical := by simp [State.finishPorts]
@[simp] theorem State.stackBad_canonical : (s.stackBad k result).canonical ↔ s.canonical := by simp [State.stackBad]
@[simp] theorem State.hostBad_canonical : (s.hostBad result kind index).canonical ↔ s.canonical := by simp [State.hostBad]
@[simp] theorem State.logicPass_canonical : (s.logicPass key).canonical ↔ s.canonical := .rfl
@[simp] theorem State.dieGood_canonical : (s.dieGood key).canonical ↔ s.canonical := .rfl
@[simp] theorem State.logicDone_canonical {d : Die} {ok : Bool} : (s.logicDone d ok).canonical ↔ s.canonical := by
  unfold State.logicDone
  split <;> simp
@[simp] theorem State.laneFails_canonical : (s.laneFails lane).canonical ↔ s.canonical := by simp [State.laneFails]
@[simp] theorem State.marginOver_canonical : (s.marginOver m).canonical ↔ s.canonical := by simp [State.marginOver]
@[simp] theorem State.setFw_canonical {f : FwStore} : (s.setFw pos f).canonical ↔ s.canonical := .rfl
@[simp] theorem State.testLost_canonical : (s.testLost g).canonical ↔ s.canonical := by simp [State.testLost]

/-! ### The host complex, management and control space -/

@[simp] theorem State.hostFault_canonical : s.hostFault.canonical ↔ s.canonical := .rfl
@[simp] theorem State.hostFine_canonical : s.hostFine.canonical ↔ s.canonical := .rfl
@[simp] theorem State.bridgeNext_canonical : s.bridgeNext.2.canonical ↔ s.canonical := by
  unfold State.bridgeNext
  simp
@[simp] theorem State.bridgeCapture_canonical :
    (s.bridgeCapture reason window kind hcore a).canonical ↔ s.canonical := by simp [State.bridgeCapture]
@[simp] theorem State.bridgeError_canonical {t : BTrack} : (s.bridgeError t reason).canonical ↔ s.canonical := by
  unfold State.bridgeError
  split <;> simp
@[simp] theorem State.bridgeSend_canonical {t : BTrack} : (s.bridgeSend t).canonical ↔ s.canonical := by
  unfold State.bridgeSend
  split <;> simp
@[simp] theorem State.sendWord_canonical {b : WcBuf} : (s.sendWord b i).canonical ↔ s.canonical := by simp [State.sendWord]
@[simp] theorem State.sendBlock_canonical {b : WcBuf} : (s.sendBlock b).canonical ↔ s.canonical := by simp [State.sendBlock]
@[simp] theorem State.sendWords_canonical {b : WcBuf} : (s.sendWords b).canonical ↔ s.canonical := by simp [State.sendWords]
@[simp] theorem State.windowSync_canonical {c : BSync} {v : W64} : (s.windowSync c v).canonical ↔ s.canonical := by
  unfold State.windowSync
  dsimp only
  repeat' split
  all_goals simp
@[simp] theorem State.syncNow_canonical {c : BSync} : (s.syncNow c).canonical ↔ s.canonical := by
  unfold State.syncNow
  split <;> simp
@[simp] theorem State.releaseSyncs_canonical : s.releaseSyncs.canonical ↔ s.canonical := by simp [State.releaseSyncs]
@[simp] theorem State.combineStore_canonical {v : W64} : (s.combineStore w hcore a v).canonical ↔ s.canonical := by
  unfold State.combineStore
  dsimp only
  repeat' split
  all_goals simp
@[simp] theorem State.windowQueue_canonical {command : Option W64} :
    (s.windowQueue hcore w o command).canonical ↔ s.canonical := by simp [State.windowQueue]
@[simp] theorem State.bridgeFree_canonical : (s.bridgeFree tag).canonical ↔ s.canonical := .rfl
@[simp] theorem State.bridgeHold_canonical {t : BTrack} :
    (s.bridgeHold t).canonical ↔ s.canonical := by simp [State.bridgeHold]
@[simp] theorem State.bridgeData_canonical {t : BTrack} {p : Pkt} : (s.bridgeData t p).canonical ↔ s.canonical := by
  unfold State.bridgeData
  repeat' split
  all_goals simp
@[simp] theorem State.bridgeAnswer_canonical {t : BTrack} {p : Pkt} :
    (s.bridgeAnswer t p).canonical ↔ s.canonical := by simp [State.bridgeAnswer]
@[simp] theorem State.hostReset_canonical : s.hostReset.canonical ↔ s.canonical := by simp [State.hostReset]
@[simp] theorem State.closeSessions_canonical : s.closeSessions.canonical ↔ s.canonical := .rfl
@[simp] theorem State.controllerDown_canonical : s.controllerDown.canonical ↔ s.canonical := by simp [State.controllerDown]
@[simp] theorem State.intoRom_canonical : s.intoRom.canonical ↔ s.canonical := by simp [State.intoRom]
@[simp] theorem State.testsAgain_canonical : s.testsAgain.canonical ↔ s.canonical := .rfl
@[simp] theorem State.showSessions_canonical : s.showSessions.canonical ↔ s.canonical := .rfl
@[simp] theorem State.logSession_canonical {admin opened : Bool} :
    (s.logSession id admin opened).canonical ↔ s.canonical := by simp [State.logSession]
@[simp] theorem State.respond_canonical {body : List W64} : (s.respond status body).canonical ↔ s.canonical := .rfl
@[simp] theorem State.logSlot_canonical : (s.logSlot k).canonical ↔ s.canonical := by simp [State.logSlot]
@[simp] theorem State.noteLink_canonical : s.noteLink.canonical ↔ s.canonical := by simp [State.noteLink]
@[simp] theorem State.setLink_canonical {up : Bool} : (s.setLink port up).canonical ↔ s.canonical := by simp [State.setLink]
@[simp] theorem State.swapPorts_canonical : (s.swapPorts active).canonical ↔ s.canonical := .rfl
@[simp] theorem State.policyWritten_canonical : (s.policyWritten w).canonical ↔ s.canonical := by simp [State.policyWritten]
@[simp] theorem State.counterWritten_canonical {b : Blk} :
    (s.counterWritten b old new).canonical ↔ s.canonical := by simp [State.counterWritten]
@[simp] theorem State.writeReg_canonical {b : Blk} {row : RegRow} :
    (s.writeReg b row addr v mask).canonical ↔ s.canonical := by
  unfold State.writeReg
  dsimp only
  split <;> simp
@[simp] theorem State.fabCtrl_canonical : (s.fabCtrl p v).canonical ↔ s.canonical := by simp [State.fabCtrl]
@[simp] theorem State.hostCtrl_canonical {row : RegRow} :
    (s.hostCtrl row v mask).canonical ↔ s.canonical := by simp [State.hostCtrl]
@[simp] theorem State.fltSrc_canonical {a : Agent} {row : RegRow} :
    (s.fltSrc a n row v mask).canonical ↔ s.canonical := by simp [State.fltSrc]
@[simp] theorem State.afterWrite_canonical {d : Blk} : (s.afterWrite d).canonical ↔ s.canonical := by
  unfold State.afterWrite
  repeat' split
  all_goals simp
@[simp] theorem State.coreRegWrite_canonical {b : Blk} {row : RegRow} :
    (s.coreRegWrite b row addr v mask pos c i).canonical ↔ s.canonical := by
  unfold State.coreRegWrite
  dsimp only
  split <;> simp
@[simp] theorem State.regWrite_canonical {b : Blk} {row : RegRow} :
    (s.regWrite b row addr v mask).canonical ↔ s.canonical := by
  unfold State.regWrite
  split <;> simp
@[simp] theorem State.readDone_canonical : (s.readDone addr).canonical ↔ s.canonical := by
  unfold State.readDone
  split <;> simp
end

end Sys2Proof.Machine

end

section
/-! PROOFS. What changes a memory keeps its form: it sets a byte, writes a run of bytes or clears a range (O59). -/

namespace Sys2Proof.Machine

section
variable {s : State} {r : Run}

/-! ## Memory written -/

theorem State.canonical.foldl {α : Type} {f : State → α → State} (hf : ∀ s x, s.canonical → (f s x).canonical) (l : List α)
    {s : State} (h : s.canonical) : (l.foldl f s).canonical :=
  List.foldlRecOn (motive := State.canonical) l f h fun s hs x _ => hf s x hs

@[simp] theorem State.canonical.spadWrite {pos off len data poison : Nat} (h : s.canonical) :
    (s.spadWrite pos off len data poison).canonical := by
  obtain ⟨hs, hi, hh, hf⟩ := h
  exact ⟨Mem.wf_write _ _ _ _ hs, hi, hh, hf⟩

@[simp] theorem State.canonical.spadZero {pos lo hi : Nat} (h : s.canonical) : (s.spadZero pos lo hi).canonical := by
  obtain ⟨hs, hi, hh, hf⟩ := h
  exact ⟨Mem.wf_clear _ _ _ hs, hi, hh, hf⟩

@[simp] theorem State.canonical.imemWrite {pos off len data poison : Nat} (h : s.canonical) :
    (s.imemWrite pos off len data poison).canonical := by
  obtain ⟨hs, hi, hh, hf⟩ := h
  exact ⟨hs, Mem.wf_write _ _ _ _ hi, hh, hf⟩

@[simp] theorem State.canonical.hbmWrite {k a len data poison : Nat} (h : s.canonical) :
    (s.hbmWrite k a len data poison).canonical := by
  obtain ⟨hs, hi, hh, hf⟩ := h
  exact ⟨hs, hi, Mem.wf_write _ _ _ _ hh, hf⟩

@[simp] theorem State.canonical.hbmZero {k lo hi : Nat} (h : s.canonical) : (s.hbmZero k lo hi).canonical := by
  obtain ⟨hs, hi, hh, hf⟩ := h
  exact ⟨hs, hi, Mem.wf_clear _ _ _ hh, hf⟩

@[simp] theorem State.canonical.stackOff {k : Nat} (h : s.canonical) : (s.stackOff k).canonical := by
  obtain ⟨hs, hi, hh, hf⟩ := h
  exact ⟨hs, hi, Mem.wf_clear _ _ _ hh, hf⟩

@[simp] theorem State.canonical.hostWrite {a : Nat} {l : List Byte} (h : s.canonical) : (s.hostWrite a l).canonical := by
  induction l generalizing s a with
  | nil => exact h
  | cons b l ih =>
    obtain ⟨hs, hi, hh, hf⟩ := h
    exact ih ⟨hs, hi, Mem.wf_setByte _ _ _ hh, hf⟩

theorem Mem.wf_foldl {α : Type} {f : Mem → α → Mem} (hf : ∀ m x, m.wf = true → (f m x).wf = true) (l : List α) {m : Mem}
    (h : m.wf = true) : (l.foldl f m).wf = true :=
  List.foldlRecOn (motive := fun m => m.wf = true) l f h fun m hm x _ => hf m x hm

@[simp] theorem State.canonical.writeKernel {pos core kbase : Nat} (h : s.canonical) :
    (s.writeKernel pos core kbase).canonical := by
  obtain ⟨hs, hi, hh, hf⟩ := h
  unfold State.writeKernel State.canonical
  dsimp only
  refine ⟨hs, Mem.wf_foldl (fun m n hm => ?_) _ hi, hh, hf⟩
  exact Mem.wf_setByte _ _ _ hm

@[simp] theorem State.canonical.storeWrite {pos off n v : Nat} (h : s.canonical) : (s.storeWrite pos off n v).canonical := by
  obtain ⟨hs, hi, hh, hf⟩ := h
  have hw : ({ s with imem := Mem.write s.imem (imemKey pos off) n v } : State).canonical :=
    ⟨hs, Mem.wf_write _ _ _ _ hi, hh, hf⟩
  unfold State.storeWrite
  dsimp only
  repeat' split
  · exact hw
  · exact hw
  · exact ⟨hs, hi, hh, hf⟩

/-! ## Memory cleared -/

@[simp] theorem State.canonical.clearNonResident {pos : Nat} (h : s.canonical) : (s.clearNonResident pos).canonical :=
  State.canonical.foldl (fun s r hs => by split; exacts [hs, hs.spadZero]) _ h

@[simp] theorem State.canonical.positionKeep {pos : Nat} (h : s.canonical) : (s.positionKeep pos).canonical := by
  have hk : (((((s.dropAccesses pos).clearNonResident pos).winsClosed pos).wipe (coreRegsLo pos)
      (coreRegsLo pos + 0x8000)).reachNone pos).canonical := by simp [h]
  obtain ⟨hs, hi, hh, hf⟩ := hk
  unfold State.positionKeep State.canonical
  dsimp only
  exact ⟨hs, Mem.wf_clear _ _ _ hi, hh, hf⟩

@[simp] theorem State.canonical.positionDark {pos : Nat} (h : s.canonical) : (s.positionDark pos).canonical := by
  have hk : (((s.positionKeep pos).wipe (tileBase pos) (tileBase pos + 0xC0000)).wr (TILE_FLT_HEALTH pos)
      (s.rd (TILE_FLT_HEALTH pos))).canonical :=
    State.wr_canonical.mpr (State.wipe_canonical.mpr h.positionKeep)
  obtain ⟨hs, hi, hh, hf⟩ := hk
  unfold State.positionDark State.canonical
  dsimp only
  exact ⟨Mem.wf_clear _ _ _ hs, hi, hh, Mem.wf_clear _ _ _ hf⟩

@[simp] theorem State.canonical.groveKeep {g : Nat} (h : s.canonical) : (s.groveKeep g).canonical := by
  simp only [State.groveKeep, State.canonical_mk, State.setGrove_canonical]
  refine State.canonical.foldl (fun s t hs => ?_) _ h
  exact hs.positionKeep

@[simp] theorem State.canonical.groveDark {g : Nat} (h : s.canonical) : (s.groveDark g).canonical := by
  simp only [State.groveDark, State.canonical_mk, State.setGrove_canonical, State.setFld_canonical, State.unalign_canonical,
    State.canonical_foldl, State.wipe_canonical, implies_true]
  exact State.canonical.foldl (fun _ _ hs => hs.positionDark) _ h

@[simp] theorem State.canonical.stackFailed {k cause : Nat} (h : s.canonical) : (s.stackFailed k cause).canonical := by
  have hz : ({ s.setFld (HBM_STATUS_STATE k) 3 with
      hbm := Mem.clear s.hbm (hbmKey k 0) (hbmKey (k + 1) 0)
      hbmPoison := NSet.clear s.hbmPoison (hbmKey k 0 / 4) (hbmKey (k + 1) 0 / 4)
      hbmEcc := SMap.clear s.hbmEcc (hbmKey k 0 / 4) (hbmKey (k + 1) 0 / 4) } : State).canonical := by
    obtain ⟨hs, hi, hh, hf⟩ := h
    exact ⟨hs, hi, Mem.wf_clear _ _ _ hh, hf⟩
  unfold State.stackFailed
  dsimp only
  split <;> simpa using hz

@[simp] theorem State.inReset_canonical : s.inReset.canonical := And.intro rfl ⟨rfl, rfl, rfl⟩

/-! ## Requests to HBM and accesses to the scratchpad -/

@[simp] theorem State.canonical.hbmDrain {k a : Nat} (h : s.canonical) : (s.hbmDrain k a).canonical := by
  refine State.canonical.foldl (fun s i hs => ?_) _ h
  dsimp only
  repeat' split
  all_goals simp [hs]

@[simp] theorem State.canonical.storeLanding {pos off data poison : Nat} (h : s.canonical) :
    (s.storeLanding pos off data poison).canonical := by
  unfold State.storeLanding
  split
  · exact h.imemWrite
  · exact h

@[simp] theorem State.canonical.readServed {a : Access} {t : Nat} {r : Nat × Nat} (h : s.canonical) :
    (s.readServed a t r).canonical := by
  unfold State.readServed
  repeat' split
  all_goals simp [h]

@[simp] theorem State.canonical.serve {i t : Nat} {a : Access} (h : s.canonical) : (s.serve i a t).canonical := by
  unfold State.serve
  dsimp only
  repeat' split
  all_goals simp [h]

@[simp] theorem State.canonical.moverData {pos inport id i : Nat} {p : Pkt} (h : s.canonical) :
    (s.moverData pos inport id i p).canonical := by
  unfold State.moverData
  dsimp only
  repeat' split
  all_goals simp [h]

@[simp] theorem State.canonical.readBack {pos inport tag : Nat} {t : Track} {p : Pkt} (h : s.canonical) :
    (s.readBack pos inport tag t p).canonical := by
  unfold State.readBack
  dsimp only
  split <;> simp [h]

@[simp] theorem State.canonical.answered {pos inport tag : Nat} {t : Track} {p : Pkt} (h : s.canonical) :
    (s.answered pos inport tag t p).canonical := by
  unfold State.answered
  dsimp only
  repeat' split
  all_goals simp [h]

theorem State.canonical.answerItem {t : State} {n : Nat} {it : NetItem} (h : s.canonical) (ht : s.answerItem n it = some t) :
    t.canonical := by
  unfold State.answerItem at ht
  dsimp only at ht
  repeat' split at ht
  all_goals cases ht
  all_goals simp [h]

@[simp] theorem State.canonical.complete {pos : Nat} {e : QEntry} (h : s.canonical) : (s.complete pos e).canonical := by
  simp [State.complete, h]

/-! ## Runs of pieces -/

theorem Run.canonical_foldl {α : Type} {f : Run → α → Run} (hf : ∀ r x, r.state.canonical → (f r x).state.canonical)
    (l : List α) {r : Run} (h : r.state.canonical) : (l.foldl f r).state.canonical :=
  List.foldlRecOn (motive := fun r => r.state.canonical) l f h fun r hr x _ => hf r x hr

@[simp] theorem Run.canonical_store {pos off size data poison : Nat} (h : r.state.canonical) :
    (r.store pos off size data poison).state.canonical := by
  unfold Run.store
  split
  · exact h
  · split
    · next hr => exact (State.hbmReach_canonical hr).mpr h
    · simp [h]

@[simp] theorem Run.canonical_fetch {pos off dst : Nat} (h : r.state.canonical) :
    (r.fetch pos off dst).state.canonical := by
  unfold Run.fetch
  split
  · exact h
  · split
    · next hr => exact (State.hbmReach_canonical hr).mpr h
    · simp [h]

@[simp] theorem State.canonical.mgmtPacket {pos src dst : Nat} {imem : Bool} (h : s.canonical) :
    (s.mgmtPacket pos imem src dst).2.canonical := by
  unfold State.mgmtPacket
  split
  · next hr => exact (State.hbmReach_canonical hr).mpr h
  · dsimp only
    split <;> simp [h]

@[simp] theorem Run.canonical_entry {pos : Nat} {words : List W64} (h : r.state.canonical) :
    (r.entry pos words).state.canonical := by
  unfold Run.entry
  extract_lets s t d e x u v
  have hx : x.2.canonical := by
    unfold x
    split
    · simp [t, s, h]
    · have ht : t.canonical := by simp [t, s, h]
      refine List.foldlRecOn (motive := fun y : QEntry × State => y.2.canonical) _ _ ht fun y hy i _ => ?_
      have hp := hy.mgmtPacket (pos := pos) (imem := d.imem) (src := (d.packet i).1) (dst := (d.packet i).2)
      dsimp only
      split
      · exact hy
      · split <;> (next hq => rw [hq] at hp; exact hp)
  have hv : v.canonical := State.wr_canonical.mpr hx
  split
  · exact h
  · split
    · exact hv
    · exact State.movError_canonical.mpr hv

@[simp] theorem State.canonical.writeKernels {pos kbase : Nat} (h : s.canonical) : (s.writeKernels pos kbase).canonical :=
  State.canonical.foldl (fun _ _ hs => hs.writeKernel) _ h

@[simp] theorem Run.canonical_loadCore {w : List W64} (h : r.state.canonical) : (r.loadCore w).state.canonical := by
  unfold Run.loadCore
  split
  · exact h
  · dsimp only
    split <;> simp [h]

@[simp] theorem Run.canonical_loadShadow {pos base : Nat} {w : List W64} (h : r.state.canonical) :
    (r.loadShadow pos base w).state.canonical :=
  Run.canonical_foldl (fun _ _ hr => Run.canonical_entry hr) _ h

@[simp] theorem Run.canonical_loadSeg {w : List W64} (h : r.state.canonical) : (r.loadSeg w).state.canonical := by
  unfold Run.loadSeg
  dsimp only
  repeat' split
  all_goals simp [h]

theorem Run.canonical_section {x : Run × Option (Nat × Nat)} {type : Nat} {l : List (List W64)}
    {f : Run → List W64 → Run} (hf : ∀ r w, r.state.canonical → (f r w).state.canonical) (h : x.1.state.canonical) :
    (Run.section x type l f).1.state.canonical := by
  refine List.foldlRecOn (motive := fun x : Run × Option (Nat × Nat) => x.1.state.canonical) _ _ h fun x hx e _ => ?_
  dsimp only
  split
  · exact hx
  · exact hf _ _ hx

@[simp] theorem State.canonical.loadData {p : Nat} {i : Manifest} (h : s.canonical) : (s.loadData p i).1.state.canonical := by
  unfold State.loadData
  extract_lets x t others u y z
  have hx : x.1.state.canonical := Run.canonical_section (fun _ _ hr => Run.canonical_loadCore hr) h
  have ht : t.canonical := by
    refine State.canonical.foldl (fun s w hs => ?_) _ hx
    split <;> simp [hs]
  have hu : u.canonical := by
    unfold u
    split
    · exact ht
    · exact State.canonical.foldl (fun _ _ hs => State.setFld_canonical.mpr hs) _ ht
  have hz : z.1.state.canonical := by
    unfold z
    split
    · exact hu
    · refine Run.canonical_section (fun r w hr => ?_) hu
      split <;> simp [hr]
  exact Run.canonical_section (fun _ _ hr => Run.canonical_loadSeg hr) hz

theorem Run.canonical_gatherRows {o : SeqOp} {len : Nat} {w : List W64} (h : r.state.canonical) :
    (gatherRows o len w r).state.canonical := by
  refine Run.canonical_foldl (fun r i hr => ?_) _ h
  dsimp only
  repeat' split
  all_goals simp [hr]

theorem State.canonical.gatherHeader {o : SeqOp} {w : List W64} (h : s.canonical) : (gatherHeader o w s).canonical := by
  unfold Sys2Proof.Machine.gatherHeader
  split
  · exact h.spadWrite
  · exact h

theorem State.canonical.scatterRows {o : SeqOp} {w : List W64} (h : s.canonical) : (scatterRows o w s).state.canonical := by
  refine Run.canonical_foldl (fun r i hr => ?_) _ h
  dsimp only
  split
  · exact hr
  · simp [hr]

/-! ## Partitions -/

@[simp] theorem State.canonical.partClear {p : Nat} (h : s.canonical) : (s.partClear p).canonical :=
  State.canonical.foldl (fun _ _ hs => hs.clearNonResident) _ (State.quiet_canonical.mpr h)

@[simp] theorem State.canonical.partReset {p : Nat} (h : s.canonical) : (s.partReset p).canonical :=
  (State.setPart_canonical.mpr h).partClear

@[simp] theorem State.canonical.clearTile {pos : Nat} (h : s.canonical) : (s.clearTile pos).canonical := by
  simp [State.clearTile, h]

@[simp] theorem State.canonical.loadTables {p : Nat} {i : Manifest} (h : s.canonical) : (s.loadTables p i).canonical := by
  simp only [State.loadTables, State.canonical_foldl, State.putRecord_canonical, State.clearRoutes_canonical,
    State.setFld_canonical, State.clearTables_canonical, implies_true]
  refine State.canonical.foldl (fun s w hs => ?_) _ (State.canonical.foldl (fun _ _ hs => hs.clearTile) _ h)
  split
  · exact State.loadTile_canonical.mpr hs
  · exact hs

/-- The checks and the copying of the image are generalised first: the kernel, comparing the two sides of an unfolding, would
run them on the state. The `id` keeps the generalised proof a function of them. -/
@[simp] theorem State.canonical.loadImage {p : Nat} (h : s.canonical) : (s.loadImage p).canonical := by
  have hd : ∀ s : State, s.canonical → ∀ p i, (s.loadData p i).1.state.canonical := fun _ h _ _ => h.loadData
  generalize hf : State.loadImage = f
  delta State.loadImage at hf
  generalize State.loadFault = lf, State.loadData = ld at hf hd
  revert lf ld f
  refine id ?_
  rintro f lf ld hf hd
  subst hf
  dsimp only
  split
  · simp [h]
  · split <;> simp [h, hd]
end

end Sys2Proof.Machine

end

section
/-! PROOFS. Recovery, loss of power, bring-up and reset keep the form of the memories (O59). -/

namespace Sys2Proof.Machine

section
variable {s : State} {r : Run}

@[simp] theorem State.canonical.hostSetWord {a v : Nat} (h : s.canonical) : (s.hostSetWord a v).canonical := h.hostWrite

@[simp] theorem State.canonical.reapply {p : Nat} (h : s.canonical) : (s.reapply p).canonical := by
  unfold State.reapply
  split
  · exact h
  · refine State.openWindows_canonical.mpr (Run.canonical_foldl (fun _ _ hr => Run.canonical_loadSeg hr) _ ?_)
    exact State.loadSync_canonical.mpr h

@[simp] theorem State.canonical.resetToLoaded {p : Nat} (h : s.canonical) : (s.resetToLoaded p).canonical :=
  State.setPart_canonical.mpr h.partReset.reapply

@[simp] theorem State.canonical.tearDown {p : Nat} (h : s.canonical) : (s.tearDown p).canonical := by
  simp only [State.tearDown, State.setPart_canonical, State.modPart_canonical]
  refine State.canonical.foldl (fun s g hs => ?_) _ (by simp [h])
  split
  · exact hs.groveDark
  · exact hs.groveKeep

@[simp] theorem Run.canonical_reloadTile {i : Manifest} {l : Nat} {b : Bool} (h : r.state.canonical) :
    (r.reloadTile i l b).state.canonical := by
  have hc := Run.canonical_foldl (f := Run.loadCore) (fun _ _ hr => Run.canonical_loadCore hr)
    (i.core.filter (fun w => bitsOf (recWordOf w 0) 0 9 = l)) h
  unfold Run.reloadTile
  dsimp only
  split
  · exact hc
  · exact Run.canonical_loadShadow (State.setKat_canonical.mpr hc.writeKernels)

@[simp] theorem State.canonical.unstale {p : Nat} {i : Manifest} (h : s.canonical) : (s.unstale p i).canonical := by
  unfold State.unstale
  extract_lets r
  have hr : r.state.canonical := by
    unfold r
    split
    · exact h
    · exact Run.canonical_foldl (fun _ _ hr => Run.canonical_reloadTile hr) _ h
  split
  · exact h
  · split
    · exact hr
    · exact State.setFld_canonical.mpr (State.modPart_canonical.mpr hr)

@[simp] theorem State.canonical.update {p : Nat} (h : s.canonical) : (s.update p).canonical := by
  unfold State.update
  dsimp only
  repeat' split
  · exact State.setFld_canonical.mpr h
  all_goals simp [h, State.canonical.unstale]

@[simp] theorem State.canonical.takeover {p : Option Nat} {x l : Nat} (h : s.canonical) : (s.takeover p x l).canonical := by
  unfold State.takeover
  dsimp only
  split
  · simp [h]
  · repeat' split
    all_goals simp [h]

@[simp] theorem State.canonical.readParts {pos off n : Nat} (h : s.canonical) : (s.readParts pos off n).2.canonical := by
  induction n with
  | zero => exact h
  | succ n ih =>
    unfold State.readParts
    split
    next hn => simpa [hn] using ih
    next v t hn =>
      have ht : t.canonical := by simpa [hn] using ih
      dsimp only
      split
      · exact ht
      · split
        · exact ht
        · simp [ht]
@[simp] theorem State.canonical.ckptRecords {p : Nat} {i : Manifest} (h : s.canonical) : (s.ckptRecords p i).2.canonical := by
  unfold State.ckptRecords
  refine List.foldlRecOn (motive := fun x : List CkptRec × State => x.2.canonical) _ _ h fun x hx w _ => ?_
  refine List.foldlRecOn (motive := fun x : List CkptRec × State => x.2.canonical) _ _ hx fun y hy inv _ => ?_
  dsimp only
  generalize hq : y.2.readParts _ _ 5 = q
  have hq' : q.2.canonical := hq ▸ hy.readParts
  obtain ⟨_ | v, t⟩ := q
  · exact hq'
  · dsimp only
    split <;> exact hq'

@[simp] theorem State.canonical.boundaryOf {p : Nat} {i : Manifest} (h : s.canonical) : (s.boundaryOf p i).2.canonical := by
  unfold State.boundaryOf
  split
  · exact State.setFld_canonical.mpr h
  · extract_lets r latest
    have hr : r.2.canonical := h.ckptRecords
    split
    · exact State.setFld_canonical.mpr hr
    · dsimp only
      split <;> exact State.setFld_canonical.mpr hr

@[simp] theorem State.canonical.reload {i : Manifest} {lost : Option Nat} {n : Nat} (h : s.canonical) :
    (s.reload i lost n).state.canonical := by
  unfold State.reload
  extract_lets r alt r' all r''
  have hr' : r'.state.canonical := by
    unfold r'
    split
    · exact Run.canonical_reloadTile h
    · exact h
  have hr'' : r''.state.canonical := by
    unfold r''
    split
    · refine Run.canonical_foldl (fun r w hr => ?_) _ hr'
      split
      · exact hr
      · split
        · exact Run.canonical_loadShadow hr
        · exact hr
    · exact hr'
  exact Run.canonical_foldl (fun _ _ hr => Run.canonical_loadSeg hr) _ hr''

@[simp] theorem State.canonical.finishRecovery {p l n since : Nat} {i : Manifest} {records : List CkptRec} {k : Kept}
    (h : s.canonical) : (s.finishRecovery p l i n records k since).canonical := by
  have hr : (s.reload i (some l) n).state.canonical := h.reload
  unfold State.finishRecovery
  dsimp only
  split <;> simp [hr]

@[simp] theorem State.canonical.redoRecovery {p : Nat} (h : s.canonical) : (s.redoRecovery p).canonical := by
  have hb : ∀ i, (((s.unannounce p).partClear p).boundaryOf p i).2.canonical := fun _ =>
    (State.unannounce_canonical.mpr h).partClear.boundaryOf
  unfold State.redoRecovery
  split
  · split
    · exact h
    · dsimp only
      split
      · exact (hb _).finishRecovery
      · exact State.goStale_canonical.mpr (hb _)
  · exact h

@[simp] theorem State.canonical.loseActive {p x l since : Nat} {i : Manifest} (h : s.canonical) :
    (s.loseActive p x l i since).canonical := by
  have hb : ∀ s : State, s.canonical → ∀ p i, (s.boundaryOf p i).2.canonical := fun _ h _ _ => h.boundaryOf
  generalize hf : State.loseActive = f
  delta State.loseActive at hf
  generalize State.boundaryOf = bo at hf hb
  revert bo f
  refine id ?_
  rintro f bo hf hb
  subst hf
  beta_reduce
  extract_lets covered k u b spare t
  have hu : u.canonical := by simp [u, h]
  have ht : t.canonical := (hb _ hu.partClear _ _).takeover
  split
  · split
    · exact (State.detour_canonical.mpr ht).finishRecovery
    · simp [ht]
  · simp [ht]

@[simp] theorem State.canonical.loseBare {p x l : Nat} (h : s.canonical) : (s.loseBare p x l).canonical := by
  refine State.setPart_canonical.mpr (State.canonical.takeover (State.canonical.partClear ?_))
  simp [h]

@[simp] theorem State.canonical.loseTile {x since : Nat} (h : s.canonical) : (s.loseTile x since).canonical := by
  unfold State.loseTile
  split
  · exact h
  · dsimp only
    split
    · exact State.detourOthers_canonical.mpr h.loseActive
    · exact State.detourOthers_canonical.mpr h.loseBare
    · exact State.detourOthers_canonical.mpr (State.fencePos_canonical.mpr h).takeover
    · exact State.detourOthers_canonical.mpr (State.fencePos_canonical.mpr h)

@[simp] theorem State.canonical.resetPart {p : Nat} (h : s.canonical) : (s.resetPart p).canonical := by
  have hu : (s.unannounce p).canonical := State.unannounce_canonical.mpr h
  unfold State.resetPart
  dsimp only
  split
  · exact hu.resetToLoaded
  · exact State.setPart_canonical.mpr hu.partReset

@[simp] theorem State.canonical.rewindPart {p since : Nat} (h : s.canonical) : (s.rewindPart p since).canonical := by
  unfold State.rewindPart
  split
  · exact h
  next i _ =>
    extract_lets running k t b
    have ht : t.canonical := State.modPart_canonical.mpr (State.haltPart_canonical.mpr h)
    have hb : b.2.canonical := ht.partReset.boundaryOf
    split
    · simp [hb]
    next n records _ =>
      have hr : (b.2.reload i none n).state.canonical := hb.reload
      dsimp only
      split
      · exact State.goStale_canonical.mpr hr
      · split <;> simp [hr]

@[simp] theorem State.canonical.policyRewind {p : Nat} {r : FaultRec} (h : s.canonical) : (s.policyRewind p r).canonical := by
  unfold State.policyRewind
  split
  · exact h.resetPart
  · dsimp only
    split
    · exact h.resetPart
    · split
      · exact h
      · exact (State.unannounce_canonical.mpr h).rewindPart

@[simp] theorem State.canonical.loseGrove {g : Nat} (h : s.canonical) : (s.loseGrove g).canonical := by
  unfold State.loseGrove
  extract_lets +onlyGivenNames p
  clear_value p
  extract_lets st t lost u v w z
  have ht : t.canonical := by
    cases p with
    | some q => simp [t, h]
    | none => exact h
  have hu : u.canonical := by simp [u, ht]
  have hv : v.canonical := by
    cases p with
    | some q =>
      dsimp only [v]
      split
      · exact hu.partClear.boundaryOf
      · exact hu.partClear
    | none => exact hu
  have hw : w.canonical := by
    refine State.canonical.foldl (fun s x hs => ?_) _ hv
    split
    · simp [hs]
    · exact hs
  have hz : z.canonical := by simp [z, hw]
  cases p with
  | none => exact hz
  | some q =>
    dsimp only
    split
    · exact State.goStale_canonical.mpr hz
    · exact State.setPart_canonical.mpr hz

@[simp] theorem State.canonical.allOff (h : s.canonical) : s.allOff.canonical := by
  unfold State.allOff
  extract_lets t u v w
  have ht : t.canonical := by
    refine State.canonical.foldl (fun s g hs => State.setReady_canonical.mpr ?_) _ h
    split
    · exact hs
    · exact hs.groveDark
  have hu : u.canonical := by
    refine State.canonical.foldl (fun s q hs => ?_) _ ht
    split
    · exact hs
    · exact State.portDown_canonical.mpr hs
  have hw : w.canonical := State.setFld_canonical.mpr (State.canonical.foldl (fun _ _ hs => hs.stackOff) _ hu)
  exact State.refreshReady_canonical.mpr ((State.canonical_mk ..).mpr hw)

@[simp] theorem State.canonical.thermalShutdown (h : s.canonical) : s.thermalShutdown.canonical := by
  simp [State.thermalShutdown, State.canonical.allOff, h]

@[simp] theorem State.canonical.devicePart {p : Nat} (h : s.canonical) : (s.devicePart p).canonical := by
  unfold State.devicePart
  split
  · simp [h]
  · split <;> simp [h]

@[simp] theorem State.canonical.deviceGrove {g : Nat} (h : s.canonical) : (s.deviceGrove g).canonical := by
  unfold State.deviceGrove
  split
  · exact h.groveKeep
  · exact State.setFld_canonical.mpr h

@[simp] theorem State.canonical.deviceAction {source : Nat} (h : s.canonical) : (s.deviceAction source).canonical := by
  unfold State.deviceAction
  extract_lets t u _ v w
  have hu : u.canonical := State.canonical.foldl (fun _ _ hs => hs.deviceGrove) _
    (State.canonical.foldl (fun _ _ hs => hs.devicePart) _ h)
  have hw : w.canonical := State.stopBringUp_canonical.mpr ((State.canonical_mk ..).mpr hu)
  split
  · exact hw.thermalShutdown
  · exact hw

@[simp] theorem State.canonical.groveRun {g : Nat} (h : s.canonical) : (s.groveRun g).canonical := by
  have ht := State.canonical.foldl (f := State.clearNonResident) (fun _ _ hs => hs.clearNonResident)
    ((s.setGrove g 2).working g) (State.setGrove_canonical (s := s) (g := g) (v := 2) |>.mpr h)
  simp [State.groveRun, ht]

@[simp] theorem State.canonical.grantStage {g : Nat} (h : s.canonical) : (s.grantStage g).canonical := by
  unfold State.grantStage
  extract_lets +onlyGivenNames left tok _ t
  have ht : t.canonical := (State.canonical_mk ..).mpr h
  split
  · simp [ht]
  · split
    · simp [ht, State.canonical.groveRun]
    · exact ht

@[simp] theorem State.canonical.grantSegment {l : List Nat} (h : s.canonical) : (s.grantSegment l).canonical := by
  induction l generalizing s with
  | nil => exact h
  | cons g rest ih =>
    unfold State.grantSegment
    split
    · exact ih h
    · split
      · exact ih h.grantStage
      · exact h

@[simp] theorem State.canonical.powerUp {b : Bool} : (s.powerUp b).canonical := by
  simp only [State.powerUp, State.canonical_ite, State.setAlert_canonical, State.setCap_canonical,
    State.startPanel_canonical, State.startManagement_canonical, State.selectFirmware_canonical,
    State.scanFences_canonical, State.startSupply_canonical, State.canonical_mk, State.inReset_canonical, ite_self]

@[simp] theorem State.canonical.stackZero {k : Nat} (h : s.canonical) : (s.stackZero k).canonical :=
  State.setFld_canonical.mpr h.stackOff

@[simp] theorem State.canonical.stackDone {k result tenMs : Nat} (h : s.canonical) :
    (s.stackDone k result tenMs).canonical := by
  unfold State.stackDone
  dsimp only
  repeat' split
  all_goals simp [h, State.canonical.stackZero]

@[simp] theorem State.canonical.hostStackDone {k result tenMs : Nat} (h : s.canonical) :
    (s.hostStackDone k result tenMs).canonical := by
  unfold State.hostStackDone
  dsimp only
  repeat' split
  all_goals simp [h, State.canonical.stackZero]

@[simp] theorem State.canonical.firmwareFails {pos : Nat} (h : s.canonical) : (s.firmwareFails pos).canonical := by
  unfold State.firmwareFails
  dsimp only
  split
  · simp [h]
  · split <;> simp [h, State.canonical.takeover]

@[simp] theorem State.canonical.supplyLost {g : Nat} (h : s.canonical) : (s.supplyLost g).canonical := by
  unfold State.supplyLost
  dsimp only
  split <;> simp [h]

@[simp] theorem State.canonical.resumeWork (h : s.canonical) : s.resumeWork.canonical :=
  State.canonical.foldl (fun _ _ hs => hs.redoRecovery) _ (State.testsAgain_canonical.mpr h)
end

end Sys2Proof.Machine

end

section
/-! PROOFS. Every command, and so every step, keeps the form of the memories (O59). -/

namespace Sys2Proof.Machine

open Laws.Instances (place)

/-- The next state, where an answer has one, has its memories in their one form. -/
def AnswersCanonical (o : Out) : Prop := ∀ t, o = .next t → t.canonical

@[simp] theorem answersCanonical_next {t : State} : AnswersCanonical (.next t) ↔ t.canonical :=
  ⟨fun h => h t rfl, fun h _ ht => Host.Outcome.next.inj ht ▸ h⟩
@[simp] theorem answersCanonical_fault {r : Fault} : AnswersCanonical (.fault r) := fun _ h => nomatch h
@[simp] theorem answersCanonical_noUnit : AnswersCanonical noUnit := fun _ h => nomatch h
@[simp] theorem answersCanonical_refused {r : Refusal} : AnswersCanonical (.refused r) := fun _ h => nomatch h

section
variable {s u t : State} {f : State → State}

@[simp] theorem answersCanonical_idle : AnswersCanonical (idle s) ↔ s.canonical := answersCanonical_next
@[simp] theorem answersCanonical_answer : AnswersCanonical (answer u t) ↔ t.canonical := answersCanonical_next
@[simp] theorem answersCanonical_answerClk : AnswersCanonical (answerClk u t) ↔ t.canonical := answersCanonical_next
@[simp] theorem answersCanonical_answerSync : AnswersCanonical (answerSync s t) ↔ s.canonical := answersCanonical_next
@[simp] theorem answersCanonical_answerFab : AnswersCanonical (answerFab s t) ↔ s.canonical := answersCanonical_next
@[simp] theorem answersCanonical_answerFlt : AnswersCanonical (answerFlt s t) ↔ s.canonical := answersCanonical_next
@[simp] theorem answersCanonical_answerCore {g n : Nat} : AnswersCanonical (answerCore g n s f) ↔ s.canonical :=
  answersCanonical_next
@[simp] theorem answersCanonical_answerT {g n : Nat} : AnswersCanonical (answerT g n s f) ↔ s.canonical :=
  answersCanonical_next

@[simp] theorem State.canonical.answerNet (h : s.canonical) (ht : t.canonical) : AnswersCanonical (answerNet s t) := by
  obtain ⟨hspad, himem, hhbm, hfw⟩ := h
  exact answersCanonical_next.mpr ⟨hspad, ht.2.1, hhbm, hfw⟩

@[simp] theorem State.canonical.answerHbm (h : s.canonical) (ht : t.canonical) : AnswersCanonical (answerHbm s t) := by
  obtain ⟨hspad, himem, hhbm, hfw⟩ := h
  exact answersCanonical_next.mpr ⟨hspad, himem, ht.2.2.1, hfw⟩

@[simp] theorem State.canonical.answerEth (h : s.canonical) (ht : t.canonical) : AnswersCanonical (answerEth s t) := by
  obtain ⟨hspad, himem, hhbm, hfw⟩ := h
  exact answersCanonical_next.mpr ⟨hspad, himem, ht.2.2.1, hfw⟩

@[simp] theorem State.canonical.answerMover (h : s.canonical) (ht : t.canonical) : AnswersCanonical (answerMover s t) := by
  obtain ⟨hspad, himem, hhbm, hfw⟩ := h
  exact answersCanonical_next.mpr ⟨ht.1, himem, ht.2.2.1, hfw⟩

theorem State.canonical.answerTile {g n : Nat} (h : s.canonical) (hf : ∀ t : State, t.canonical → (f t).canonical) :
    AnswersCanonical (answerTile g n s f) := by
  have ht := hf (s.atCycle g n) h
  obtain ⟨hspad, himem, hhbm, hfw⟩ := h
  exact answersCanonical_next.mpr ⟨ht.1, ht.2.1, hhbm, hfw⟩

theorem State.canonical.answerRef {r : Nat} (h : s.canonical) (hf : ∀ t : State, t.canonical → (f t).canonical) :
    AnswersCanonical (answerRef r s f) := answersCanonical_answer.mpr (hf _ h)
theorem State.canonical.answerAt {g n : Nat} (h : s.canonical) (hf : ∀ t : State, t.canonical → (f t).canonical) :
    AnswersCanonical (answerAt g n s f) := answersCanonical_answer.mpr (hf _ h)
theorem State.canonical.answerEvery {k p : Nat} (h : s.canonical) (hf : ∀ t : State, t.canonical → (f t).canonical) :
    AnswersCanonical (answerEvery k p s f) := answersCanonical_answer.mpr (hf _ h)
theorem State.canonical.everyClk {k p : Nat} (h : s.canonical) (hf : ∀ t : State, t.canonical → (f t).canonical) :
    AnswersCanonical (everyClk k p s f) := answersCanonical_answerClk.mpr (hf _ h)

theorem State.canonical.when {b : Bool} (h : s.canonical) (hf : ∀ t : State, t.canonical → (f t).canonical) :
    AnswersCanonical (when b s f) := by
  unfold Sys2Proof.Machine.when
  split
  · exact answersCanonical_answer.mpr (hf s h)
  · exact answersCanonical_idle.mpr h

theorem State.canonical.allowed {a : Agent} {row : WrRow} {addr : Nat} (h : s.canonical)
    (hf : ∀ t : State, t.canonical → (f t).canonical) : AnswersCanonical (allowed a row addr s f) := by
  unfold Sys2Proof.Machine.allowed
  split
  · exact answersCanonical_idle.mpr h
  · split
    · exact answersCanonical_answer.mpr (hf s h)
    · simp [h]

@[simp] theorem State.canonical.allowedSync {a : Agent} {addr : Nat} (h : s.canonical) :
    AnswersCanonical (allowedSync a addr s f) := by
  unfold Sys2Proof.Machine.allowedSync
  split
  · exact answersCanonical_idle.mpr h
  · split <;> exact answersCanonical_answerSync.mpr h

theorem State.canonical.allowedHbm {a : Agent} {addr : Nat} (h : s.canonical)
    (hf : ∀ t : State, t.canonical → (f t).canonical) : AnswersCanonical (allowedHbm a addr s f) := by
  unfold Sys2Proof.Machine.allowedHbm
  split
  · exact answersCanonical_idle.mpr h
  · split
    · exact h.answerHbm (hf s h)
    · exact h.answerHbm (State.decodeFault_canonical.mpr h)

@[simp] theorem State.canonical.allowedFab {a : Agent} {addr : Nat} (h : s.canonical) :
    AnswersCanonical (allowedFab a addr s f) := by
  unfold Sys2Proof.Machine.allowedFab
  split
  · exact answersCanonical_idle.mpr h
  · exact answersCanonical_answerFab.mpr h

@[simp] theorem State.canonical.undecoded {addr : Nat} (h : s.canonical) : AnswersCanonical (undecoded addr s) :=
  answersCanonical_answer.mpr (State.decodeFault_canonical.mpr h)

theorem State.canonical.answerChecked {n : Nat} {e : LinkErrors} {act : State → NetItem → Option State} (h : s.canonical)
    (ha : ∀ (t : State) (it : NetItem) (u : State), t.canonical → act t it = some u → u.canonical) :
    AnswersCanonical (answerChecked n e s act) := by
  have hi : (s.inspect n e).canonical := State.inspect_canonical.mpr h
  unfold Sys2Proof.Machine.answerChecked
  dsimp only
  split
  · exact answersCanonical_idle.mpr h
  · split
    · exact answersCanonical_idle.mpr h
    next u hu => exact h.answerNet (ha _ _ u hi hu)

theorem State.canonical.domainAction {d : Nat} {f : FaultRec → State → State} (h : s.canonical)
    (hf : ∀ (r : FaultRec) (t : State), t.canonical → (f r t).canonical) : AnswersCanonical (domainAction d s f) := by
  unfold Sys2Proof.Machine.domainAction
  split
  · exact answersCanonical_idle.mpr h
  · exact answersCanonical_answer.mpr (hf _ _ h)

theorem State.canonical.operation {id : Nat} {admin : Bool} {v : Avail} {f : Session → State → State} (h : s.canonical)
    (hf : ∀ (x : Session) (t : State), t.canonical → (f x t).canonical) : AnswersCanonical (operation id admin v s f) := by
  unfold Sys2Proof.Machine.operation
  split
  · exact answersCanonical_idle.mpr h
  · split
    · exact answersCanonical_answer.mpr (hf _ s h)
    · simp [h]

/-- A command that checks the units it names first. -/
theorem AnswersCanonical.checked {o : Out} {p : Prop} [Decidable p] (ho : AnswersCanonical o) :
    AnswersCanonical (if p then noUnit else o) := by
  split
  · exact answersCanonical_noUnit
  · exact ho

theorem State.canonical.partCommand {a : Agent} {p : Nat} {l : List Nat} (h : s.canonical)
    (hf : ∀ t : State, t.canonical → (f t).canonical) : AnswersCanonical (partCommand a p s l f) := by
  refine .checked (h.allowed fun t ht => ?_)
  split
  · exact State.setFld_canonical.mpr ht
  · exact hf t ht

@[simp] theorem State.canonical.slotCommand {a : Agent} {k : Nat} {l : List Nat} (h : s.canonical) :
    AnswersCanonical (slotCommand a k s l f) := .checked h.allowedSync

@[simp] theorem State.canonical.smbAnswer {l : List W64} (h : s.canonical) : AnswersCanonical (smbAnswer s l) :=
  h.when fun _ ht => ht

theorem State.canonical.performReq {k n type flits : Nat} {f : Nat → HReq → State → State} (h : s.canonical)
    (hf : ∀ (i : Nat) (r : HReq) (t : State), t.canonical → (f i r t).canonical) :
    AnswersCanonical (performReq k n type flits s f) := by
  have hq : ∀ i r, AnswersCanonical (Sys2Proof.Machine.answerHbm s (s.reqFailed i r)) := fun _ _ =>
    h.answerHbm (State.reqFailed_canonical.mpr h)
  refine .checked ?_
  split
  · exact answersCanonical_idle.mpr h
  · repeat' split
    all_goals simp [h, hq, h.answerHbm (hf _ _ s h)]

theorem State.canonical.slotCmd {ans : Nat → Nat → State → (State → State) → Out} {id : CoreId} {k opc : Nat}
    {f : Nat → Nat → State → State} (h : s.canonical) (ha : ∀ g n f, AnswersCanonical (ans g n s f)) :
    AnswersCanonical (slotCmd id k opc ans s f) := by
  refine .checked ?_
  dsimp only
  split
  · exact answersCanonical_idle.mpr h
  · exact answersCanonical_answerT.mpr h
  · exact answersCanonical_answerCore.mpr h
  · exact ha _ _ _

@[simp] theorem State.canonical.coreSlot {id : CoreId} {k opc : Nat} {f : Nat → Nat → State → State} (h : s.canonical) :
    AnswersCanonical (Sys2Proof.Machine.slotCmd id k opc answerCore s f) :=
  h.slotCmd (ans := Sys2Proof.Machine.answerCore) fun _ _ _ => answersCanonical_answerCore.mpr h

@[simp] theorem State.canonical.transferOp {id : CoreId} {opc : Nat} {f : Nat → Nat → State → State} (h : s.canonical) :
    AnswersCanonical (transferOp id opc s f) :=
  h.slotCmd (ans := Sys2Proof.Machine.answerT) fun _ _ _ => answersCanonical_answerT.mpr h

theorem AnswersCanonical.andThen {o : Out} {g : State → Out} (ho : AnswersCanonical o)
    (hg : ∀ t : State, t.canonical → AnswersCanonical (g t)) : AnswersCanonical (andThen o g) := by
  cases o with
  | next t => exact hg t (answersCanonical_next.mp ho)
  | fault r => exact answersCanonical_fault
  | refused r => exact answersCanonical_refused
end

section
variable {s : State}

/-! ## The commands that run a slot -/

theorem exec_slot_canonical {c : Instr} (hc : (slotOf c).isSome) (h : s.canonical) : AnswersCanonical (exec c s) := by
  cases c with
  | sNop c | sAdd c | sSub c | sAnd c | sOr c | sXor c | sSll c | sSrl c | sSra c | sMul c | sMulhu c | sMin c
  | sMax c | sMinu c | sMaxu c | sAddi c | sAndi c | sOri c | sXori c | sSlli c | sSrli c | sSrai c | sLui c
  | sCmpEq c | sCmpNe c | sCmpLt c | sCmpLtu c | sCmpiEq c | sCmpiLt c | sPand c | sPor c | sPxor c | sPnot c
  | sBr c | sJr c | sCall c | sLoop c | sEnd c | sTrap c | sTret c | sMfcr c | sMtcr c | vNop c | vAdd c | vSub c
  | vMul c | vFma c | vMin c | vMax c | vAbs c | vNeg c | vAnd c | vOr c | vXor c | vShl c | vShr c | vSra c
  | vCmpEq c | vCmpLt c | vCmpLe c | vExp c | vLog c | vRcp c | vRsqrt c | vTanh c | vSigm c | vCvt c | vUnpk c
  | vBcast c | vExt c | vShuf c | vRsum c | vRmax c | vRand c | vMov c | vIota c | mNop c | mLdw c | mMmul c | mRd c
  | mWr c | mCvt c | mZero c =>
    simp only [exec, execSNop, execSAdd, execSSub, execSAnd, execSOr, execSXor, execSSll, execSSrl,
      execSSra, execSMul, execSMulhu, execSMin, execSMax, execSMinu, execSMaxu, execSAddi, execSAndi, execSOri,
      execSXori, execSSlli, execSSrli, execSSrai, execSLui, execSCmpEq, execSCmpNe, execSCmpLt, execSCmpLtu,
      execSCmpiEq, execSCmpiLt, execSPand, execSPor, execSPxor, execSPnot, execSBr, execSJr, execSCall,
      execSLoop, execSEnd, execSTrap, execSTret, execSMfcr, execSMtcr, execVNop, execVAdd, execVSub, execVMul,
      execVFma, execVMin, execVMax, execVAbs, execVNeg, execVAnd, execVOr, execVXor, execVShl, execVShr,
      execVSra, execVCmpEq, execVCmpLt, execVCmpLe, execVExp, execVLog, execVRcp, execVRsqrt, execVTanh,
      execVSigm, execVCvt, execVUnpk, execVBcast, execVExt, execVShuf, execVRsum, execVRmax, execVRand,
      execVMov, execVIota, execMNop, execMLdw, execMMmul, execMRd, execMWr, execMCvt, execMZero, scalarOp,
      scalarCmp, predOp, vectorOp, lanewise1, lanewise2, vectorCmp, vectorReduce]
    exact h.coreSlot
  | tNop c | tSet c | tLds c | tSts c | tLdv c | tStv c | tRd c | tWr c | tSend c | tRlu c | tSendr c | tAdd c
  | tWait c | tFill c | tCopy c | tMov c | tSgat c | tSscat c | tWopen c | tWclose c | tFence c | tSendred c =>
    simp only [exec, execTNop, execTSet, execTLds, execTSts, execTLdv, execTStv, execTRd, execTWr,
      execTSend, execTRlu, execTSendr, execTAdd, execTWait, execTFill, execTCopy, execTMov, execTSgat,
      execTSscat, execTWopen, execTWclose, execTFence, execTSendred]
    exact h.transferOp
  | _ => cases hc

/-! ## The commands that change a memory -/

theorem execWheelTurnAccess_canonical {pos agent : Nat} (h : s.canonical) :
    AnswersCanonical (execWheelTurnAccess pos agent s) := by
  unfold execWheelTurnAccess
  refine .checked ?_
  split
  · simp [h]
  · dsimp only
    split
    · simp [h]
    · split
      · exact h.answerTile fun t ht => by simp [ht]
      · exact h.answerTile fun t ht => by simp [ht]

theorem execMseFill_canonical {pos : Nat} (h : s.canonical) : AnswersCanonical (execMseFill pos s) := by
  unfold execMseFill
  refine .checked ?_
  split
  · simp [h]
  · extract_lets +onlyGivenNames sa n off len
    split
    · simp [h]
    · split
      · exact h.answerTile fun t ht => by simp [ht]
      · split
        · exact h.answerTile fun t ht => by simp [ht]
        · extract_lets t
          split
          · simp [h]
          · exact h.answerTile fun t ht => ht.msAccess fun u hu => by simp [hu]

theorem execMseCopy_canonical {pos : Nat} (h : s.canonical) : AnswersCanonical (execMseCopy pos s) := by
  unfold execMseCopy
  refine .checked ?_
  split
  · simp [h]
  · extract_lets +onlyGivenNames sa sb n bad len
    split
    · simp [h]
    · split
      · exact h.answerTile fun t ht => by simp [ht]
      · clear_value bad
        cases bad with
        | some c => exact h.answerTile fun t ht => by simp [ht]
        | none =>
          extract_lets off t
          dsimp only
          split
          · simp [h]
          · refine h.answerTile fun t ht => ht.msAccess fun u hu => ?_
            split <;> simp [hu]

theorem execScrubPass_canonical {pos : Nat} (h : s.canonical) : AnswersCanonical (execScrubPass pos s) := by
  unfold execScrubPass
  refine .checked ?_
  split
  · extract_lets u
    have hu : u.canonical := by simp [u, h]
    refine hu.answerTile fun t ht => ?_
    simp [ht]
  · simp [h]

theorem execFeederFetch_canonical {id : CoreId} {weights : Bool} (h : s.canonical) :
    AnswersCanonical (execFeederFetch id weights s) := by
  unfold execFeederFetch
  refine .checked ?_
  dsimp only
  split
  · simp [h]
  · split
    · simp [h]
    · refine h.answerTile fun t ht => ?_
      simp [ht]

theorem execSyncCheckpointWrite_canonical {pos : Nat} (h : s.canonical) :
    AnswersCanonical (execSyncCheckpointWrite pos s) := by
  unfold execSyncCheckpointWrite
  refine .checked ?_
  split
  · simp [h]
  · extract_lets r t
    have hr : r.state.canonical := Run.canonical_foldl (fun _ _ hr => Run.canonical_store hr) _ h
    have ht : t.canonical := by
      unfold t
      split <;> simp [hr]
    split
    · simp [h]
    · split <;> simp [h, ht]

theorem execMoverPacketIssue_canonical {pos engine : Nat} (h : s.canonical) :
    AnswersCanonical (execMoverPacketIssue pos engine s) := by
  simp only [execMoverPacketIssue]
  refine .checked ?_
  repeat' split
  all_goals simp [h]

theorem execGatherComplete_canonical {n : Nat} (h : s.canonical) : AnswersCanonical (execGatherComplete n s) := by
  have hr : ∀ o w len, (gatherRows o len w ⟨gatherHeader o w s, none⟩).state.canonical := fun _ _ _ =>
    Run.canonical_gatherRows h.gatherHeader
  simp only [execGatherComplete]
  repeat' split
  all_goals simp [h, hr]

theorem execScatterComplete_canonical {n : Nat} (h : s.canonical) : AnswersCanonical (execScatterComplete n s) := by
  have hr : ∀ o w, (scatterRows o w s).state.canonical := fun _ _ => h.scatterRows
  simp only [execScatterComplete]
  repeat' split
  all_goals simp [h, hr]

theorem execHbmWriteAck_canonical {k n : Nat} (h : s.canonical) : AnswersCanonical (execHbmWriteAck k n s) := by
  refine h.performReq fun i r t ht => ?_
  simp [ht]

theorem execHbmReadData_canonical {k n : Nat} (h : s.canonical) : AnswersCanonical (execHbmReadData k n s) := by
  unfold execHbmReadData
  refine h.performReq fun i r t ht => ?_
  refine State.reqDone_canonical.mpr ?_
  split <;> simp [ht]

theorem execHbmClearStart_canonical {a : Agent} {k : Nat} {v : W64} (h : s.canonical) :
    AnswersCanonical (execHbmClearStart a k v s) := by
  refine .checked (h.allowedHbm fun t ht => ?_)
  simp [ht]

theorem execEthFrameReceive_canonical {p : Nat} {addresses type payload fcs : List Byte} (h : s.canonical) :
    AnswersCanonical (execEthFrameReceive p addresses type payload fcs s) := by
  simp only [execEthFrameReceive]
  refine .checked ?_
  split
  · simp [h]
  · split
    · simp [h]
    · split
      · simp [h]
      · split
        · simp [h]
        · refine h.answerEth (State.irq_canonical.mpr (State.sendPause_canonical.mpr (State.setFld_canonical.mpr ?_)))
          exact (State.hostSeen_canonical.mpr h).hostWrite.hostSetWord.hostSetWord

theorem execEthFrameTransmit_canonical {p : Nat} (h : s.canonical) : AnswersCanonical (execEthFrameTransmit p s) := by
  unfold execEthFrameTransmit
  refine .checked ?_
  extract_lets head entry w0 a len t bytes fcs u v w x
  split
  · simp [h]
  · have ht : t.canonical := h
    have hv : v.canonical := by simp [v, u, ht]
    exact ht.answerEth (State.irq_canonical.mpr (State.setFld_canonical.mpr hv.hostSetWord))

theorem execBcast_canonical {pos wave block : Nat} {uni : Bool} {e : LinkErrors} (h : s.canonical) :
    AnswersCanonical (execBcast pos uni wave block e s) := by
  unfold execBcast
  refine .checked ?_
  split
  · simp [h]
  · refine h.when fun t ht => ?_
    dsimp only
    split
    · simp [ht]
    · refine State.setFw_canonical.mpr ?_
      refine State.canonical.foldl (fun s e hs => ?_) _ (State.corrected_canonical.mpr ht)
      obtain ⟨hspad, himem, hhbm, hfw⟩ := hs
      exact ⟨hspad, himem, hhbm, Mem.wf_setByte _ _ _ hfw⟩

/-! ## The other commands that name a position -/

theorem exec_placed_canonical {c : Instr} (hc : ((slotOf c).isNone && (place c).isSome) = true) (h : s.canonical) :
    AnswersCanonical (exec c s) := by
  cases c with
  | registerWriteback c | sequentialIssueOverrun c | stallResume c | directLoadReturn c | waitRelease c =>
    simp only [exec, execRegisterWriteback, execSequentialIssueOverrun, execStallResume, execDirectLoadReturn,
      execWaitRelease]
    refine .checked ?_
    repeat' split
    all_goals simp [h]
  | coreRun a c | coreHalt a c | controlWindowOpen a pos n hi | controlWindowClose a pos n hi | spadClearStart a pos
  | reachEntryWrite a pos d value =>
    refine .checked (h.allowed fun t ht => ?_)
    repeat' split
    all_goals simp [ht]
  | wheelTurnAccess pos agent => exact execWheelTurnAccess_canonical h
  | feederFetch c weights => exact execFeederFetch_canonical h
  | mseFill pos => exact execMseFill_canonical h
  | mseCopy pos => exact execMseCopy_canonical h
  | scrubPass pos => exact execScrubPass_canonical h
  | poisonMarking pos =>
    simp only [exec, execPoisonMarking]
    refine .checked ?_
    split
    · simp [h]
    · refine h.answerTile fun t ht => ?_
      split <;> simp [ht]
  | windowOpenEffect pos | windowCloseEffect pos =>
    simp only [exec, execWindowOpenEffect, execWindowCloseEffect]
    refine .checked ?_
    split
    · simp [h]
    · split
      · simp [h]
      · exact h.answerTile fun t ht => by simp [ht]
  | spadClearDone pos =>
    simp only [exec, execSpadClearDone]
    refine .checked ?_
    split
    · exact h.answerTile fun t ht => by simp [ht]
    · simp [h]
  | syncCheckpointWrite pos => exact execSyncCheckpointWrite_canonical h
  | moverPacketIssue pos engine => exact execMoverPacketIssue_canonical h
  | moverStart pos engine | moverComplete pos engine | mgmtqGo a pos | moverQueueEntryGrant pos =>
    simp only [exec, execMoverStart, execMoverComplete, execMgmtqGo, execMoverQueueEntryGrant]
    refine .checked ?_
    repeat' split
    all_goals simp [h]
  | heldPacketResend pos tag | holdLimitExpiry pos tag | ackTimeout pos tag =>
    simp only [exec, execHeldPacketResend, execHoldLimitExpiry, execAckTimeout]
    refine .checked ?_
    repeat' split
    all_goals simp [h]
  | heartbeatIncrement pos =>
    simp only [exec, execHeartbeatIncrement]
    refine .checked ?_
    split
    · exact h.answerAt fun t ht => by simp [ht]
    · simp [h]
  | waitLimit c =>
    simp only [exec, execWaitLimit]
    refine .checked ?_
    generalize ((!_) || _) = b
    split
    · simp [h]
    · exact h.answerAt fun t ht => by simp [ht]
  | sensorFail pos diode =>
    simp only [exec, execSensorFail]
    refine .checked ?_
    repeat' split
    · simp [h]
    · exact h.answerRef fun t ht => by simp [ht]
    · exact h.answerRef fun t ht => by simp [ht]
    · simp [h]
  | memoryBistDone pos result bank ms =>
    refine .checked (h.when fun t ht => ?_)
    simp [ht]
  | firmwareEnd pos blocks digest =>
    refine .checked (h.when fun t ht => ?_)
    simp [ht]
  | bcast pos uni wave block e => exact execBcast_canonical h
  | _ => cases hc

/-! ## The other commands -/

/-- The commands whose answers take no memory from what they compute: those of synchronization, of the fabric, of the control
net and of the fault records. -/
def answersAside : Instr → Bool
  | .syncAddApply _ _ | .syncSetApply _ | .releaseComplete _ | .seqOpWaitDecide _ | .syncNack _ | .syncAddResend _
  | .seqOpDecide _ | .syncCmdAdd _ _ _ | .syncCmdSet _ _ _ | .syncCmdClearFlags _ _ _ | .seqWatchArm _ _ _
  | .seqWatchDisarm _ _ _ | .activate _ _ | .hold _ _ | .resume _ _ | .release _ _ | .setlen _ _ _ | .mark _ _
  | .rewind _ _ | .portSignalDetect _ | .trainingComplete _ _ | .helloSend _ | .hello _ _ | .helloTimeout _
  | .downRetrainTimer _ | .codewordReceive _ _ _ _ _ | .replay _ _ | .replayTimeout _ | .resync _ _
  | .retrainTimeout _ | .credit _ _ | .creditSend _ | .fabricArrivalResend _ _ | .fabricArrivalHoldLimit _ _
  | .mergeTimeout _ _ | .retrainComplete _ | .fabricOrigin _ | .fabricOriginAnswer _ | .mack _ | .fabricArrival _
  | .fabricArrivalAnswer _ | .fabricTransit _ | .mwrite _ | .mergeAnswer _ | .collectiveEgress _
  | .collectiveIngress _ | .ethRingTailWrite _ _ _ | .portEnable _ _ | .portDisable _ _ | .portModeSelect _ _ _
  | .portFence _ _ _ | .faultRecordArrival _ | .cnetMessage _ _ _ => true
  | _ => false

theorem exec_aside_canonical {c : Instr} (hc : answersAside c = true) (h : s.canonical) : AnswersCanonical (exec c s) := by
  cases c with
  | syncAddApply obj count | syncSetApply inputs | releaseComplete slot | seqOpWaitDecide slot =>
    simp only [exec, execSyncAddApply, execSyncSetApply, execReleaseComplete, execSeqOpWaitDecide]
    refine .checked ?_
    repeat' split
    all_goals simp only [answersCanonical_idle, answersCanonical_answerSync, h]
  | syncNack n | syncAddResend n | seqOpDecide n =>
    simp only [exec, execSyncNack, execSyncAddResend, execSeqOpDecide]
    repeat' split
    all_goals simp only [answersCanonical_idle, answersCanonical_answerSync, State.atCycle_canonical, h]
  | syncCmdAdd a obj value | syncCmdSet a obj value | syncCmdClearFlags a obj value | seqWatchArm a w value
  | seqWatchDisarm a w value =>
    simp only [exec, execSyncCmdAdd, execSyncCmdSet, execSyncCmdClearFlags, execSeqWatchArm,
      execSeqWatchDisarm]
    exact .checked h.allowedSync
  | activate a slot | hold a slot | resume a slot | release a slot | setlen a slot value | mark a slot
  | rewind a slot =>
    simp only [exec, execActivate, execHold, execResume, execRelease, execSetlen, execMark,
      execRewind]
    exact h.slotCommand
  | portSignalDetect p | trainingComplete p lanesOk | helloSend p | hello p u | helloTimeout p | downRetrainTimer p
  | codewordReceive p header correctable symbols units | replay p u | replayTimeout p | resync p u
  | retrainTimeout p | credit p u | creditSend p | fabricArrivalResend die tag | fabricArrivalHoldLimit die tag
  | mergeTimeout die n | retrainComplete p =>
    simp only [exec, execPortSignalDetect, execTrainingComplete, execHelloSend, execHello,
      execHelloTimeout, execDownRetrainTimer, execCodewordReceive, execReplay, execReplayTimeout, execResync,
      execRetrainTimeout, execCredit, execCreditSend, execFabricArrivalResend, execFabricArrivalHoldLimit,
      execMergeTimeout, execRetrainComplete]
    refine .checked ?_
    repeat' split
    all_goals simp only [answersCanonical_idle, answersCanonical_answerFab, State.atRef_canonical, h]
  | fabricOrigin n | fabricOriginAnswer n | mack n | fabricArrival n | fabricArrivalAnswer n | fabricTransit n
  | mwrite n | mergeAnswer n | collectiveEgress n | collectiveIngress n =>
    simp only [exec, execFabricOrigin, execFabricOriginAnswer, execMack, execFabricArrival,
      execFabricArrivalAnswer, execFabricTransit, execMwrite, execMergeAnswer, execCollectiveEgress,
      execCollectiveIngress]
    repeat' split
    all_goals simp only [answersCanonical_idle, answersCanonical_answerFab, h]
  | ethRingTailWrite a p value | portEnable a p | portDisable a p | portModeSelect a p ethernet
  | portFence a p fence =>
    simp only [exec, execEthRingTailWrite, execPortEnable, execPortDisable, execPortModeSelect,
      execPortFence]
    exact .checked h.allowedFab
  | faultRecordArrival n =>
    simp only [exec, execFaultRecordArrival]
    repeat' split
    all_goals simp only [answersCanonical_idle, answersCanonical_answerFlt, h]
  | cnetMessage n e node =>
    simp only [exec, execCnetMessage]
    refine .checked ?_
    repeat' split
    all_goals simp only [answersCanonical_idle, answersCanonical_answerSync, answersCanonical_answerFlt, h]
  | _ => cases hc

theorem execLaneMarginDone_canonical {lane tenMs : Nat} {pass : Bool} (h : s.canonical) :
    AnswersCanonical (execLaneMarginDone lane pass tenMs s) := by
  refine .checked (h.when fun t ht => ?_)
  simp only [State.settle_canonical, State.canonical_ite, State.finish_canonical, State.marginOver_canonical,
    State.canonical_mk, State.setFld_canonical, State.laneFails_canonical, ht, ite_self]

theorem execArbiterUpdate_canonical {currents : List (Nat × Nat)} (h : s.canonical) :
    AnswersCanonical (execArbiterUpdate currents s) := by
  refine h.everyClk fun t ht => State.canonical.foldl (fun _ _ hs => State.showSegment_canonical.mpr hs) _ ?_
  dsimp only
  split
  · simp [ht]
  · exact State.canonical.foldl (fun _ _ hs => hs.grantSegment) _ (by simp [ht])

theorem execOppAckMissing_canonical (h : s.canonical) : AnswersCanonical (execOppAckMissing s) := by
  simp only [execOppAckMissing]
  split
  · simp [h]
  · split
    · simp [h]
    · split
      · simp [h]
      · refine answersCanonical_answerClk.mpr ?_
        split
        · exact State.announceOpp_canonical.mpr (State.atRef_canonical.mpr h)
        · refine State.endOpp_canonical.mpr (State.refuseOpp_canonical.mpr (State.setLevels_canonical.mpr ?_))
          exact State.atRef_canonical.mpr h

/-- `State.raise` is generalised first, as in `State.canonical.loadImage`. -/
theorem execHoldoverExpiry_canonical (h : s.canonical) : AnswersCanonical (execHoldoverExpiry s) := by
  have hr : ∀ (s : State) (a b c : Nat), s.canonical → (s.raise a b c).canonical := fun _ _ _ _ h =>
    State.raise_canonical.mpr h
  generalize hf : execHoldoverExpiry = f
  delta execHoldoverExpiry at hf
  generalize State.raise = raise at hf hr
  revert raise f
  refine id fun f raise hf hr => ?_
  subst hf
  dsimp only
  split
  · simp [h]
  · split
    · refine answersCanonical_answerClk.mpr ?_
      split <;> simp [h, hr]
    · simp [h]

theorem execPanelResetRelease_canonical {b : Bool} (h : s.canonical) : AnswersCanonical (execPanelResetRelease b s) := by
  unfold execPanelResetRelease
  split
  · exact answersCanonical_next.mpr ((State.canonical_mk ..).mpr State.canonical.powerUp)
  · simp [h]

theorem execInputReturn_canonical {b : Bool} (h : s.canonical) : AnswersCanonical (execInputReturn b s) := by
  unfold execInputReturn
  split
  · exact answersCanonical_next.mpr ((State.canonical_mk ..).mpr State.canonical.powerUp)
  · simp [h]

theorem exec_placeless_canonical {c : Instr} (hd : actsAlone c = true)
    (hp : ((slotOf c).isSome || (place c).isSome || answersAside c) = false) (h : s.canonical) :
    AnswersCanonical (exec c s) := by
  cases c with
  | fltRewind a p | declare a pos | force a source =>
    simp only [exec, execFltRewind, execDeclare, execForce]
    refine .checked (h.allowed fun t ht => ?_)
    repeat' split
    all_goals simp [ht]
  | captureRearm a addr =>
    simp only [exec, execCaptureRearm]
    split
    · exact h.undecoded
    · split
      · exact h.allowed fun t ht => by simp [ht]
      · simp [h]
  | gatherComplete n => exact execGatherComplete_canonical h
  | scatterComplete n => exact execScatterComplete_canonical h
  | packetRoute n e =>
    simp only [exec, execPacketRoute]
    exact h.answerChecked fun t it u ht hu => (State.routeItem_canonical hu).mpr ht
  | packetDelivery n =>
    simp only [exec, execPacketDelivery]
    exact h.answerChecked fun t it u ht hu => (State.deliverItem_canonical hu).mpr ht
  | sourceAnswer n =>
    simp only [exec, execSourceAnswer]
    exact h.answerChecked fun t it u ht hu => ht.answerItem hu
  | redAbsorb n =>
    simp only [exec, execRedAbsorb]
    exact h.answerChecked fun t it u ht hu => (State.absorbItem_canonical hu).mpr ht
  | creditReturn link cls =>
    simp only [exec, execCreditReturn]
    refine .checked ?_
    repeat' split
    all_goals simp [h]
  | stallReport n =>
    simp only [exec, execStallReport]
    repeat' split
    all_goals simp [h]
  | hbmRequest n =>
    simp only [exec, execHbmRequest]
    repeat' split
    all_goals simp [h]
  | hbmWriteAck k n => exact execHbmWriteAck_canonical h
  | hbmReadData k n => exact execHbmReadData_canonical h
  | hbmScrubPass k | hbmTempPoll k temp | hbmStackFail k | hbmClearDone k =>
    simp only [exec, execHbmScrubPass, execHbmTempPoll, execHbmStackFail, execHbmClearDone]
    refine .checked ?_
    repeat' split
    all_goals simp [h]
  | hbmClearStart a k value => exact execHbmClearStart_canonical h
  | hbmGrantWrite a k p value =>
    exact .checked (h.allowedHbm fun t ht => by simp [ht])
  | ethFrameReceive p addresses type payload fcs => exact execEthFrameReceive_canonical h
  | ethFrameTransmit p => exact execEthFrameTransmit_canonical h
  | create a p | load a p | start a p | reset a p | teardown a p | update a p =>
    simp only [exec, execCreate, execLoad, execStart, execReset, execTeardown, execUpdate]
    refine h.partCommand fun t ht => ?_
    repeat' split
    all_goals simp [ht]
  | scheduledRun p =>
    simp only [exec, execScheduledRun]
    refine .checked ?_
    split
    · simp [h]
    · split
      · exact h.answerRef fun t ht => by simp [ht]
      · exact h.answerRef fun t ht => by simp [ht]
  | stageTokenReturn g =>
    simp only [exec, execStageTokenReturn]
    refine .checked ?_
    split
    · simp [h]
    · exact h.answerRef fun t ht => by simp [ht]
  | droopTrimDecay g =>
    simp only [exec, execDroopTrimDecay]
    refine .checked ?_
    split
    · simp [h]
    · exact h.answerRef fun t ht => by simp [ht]
  | stdWrite a word value =>
    simp only [exec, execStdWrite]
    refine .checked ?_
    repeat' split
    all_goals simp [h]
  | coverageRecompute p | waveStart w | logicBistDone die signatureOk patterns tenthsMs
  | stackTestDone k result tenMs | pllLossOfLock g | droopTrimRaise g
  | phaseFail g phase | groveShort g | resistanceTrend g phase r | feConverterFail converter
  | hostWindowWrite hcore ha bytes value | hostWindowRead hcore ha bytes | cageOverpower port
  | mgmtPortLinkChange port up | lRimDieFault die | rimRingSegmentFault die | keepAliveDomainFault g
  | hostCoreUncorrectableRead hcore | externalTapAccess segment opens =>
    simp only [exec, execCoverageRecompute, execWaveStart, execLogicBistDone, execStackTestDone,
      execPllLossOfLock, execDroopTrimRaise, execPhaseFail, execGroveShort,
      execResistanceTrend, execFeConverterFail, execHostWindowWrite, execHostWindowRead, execCageOverpower,
      execMgmtPortLinkChange, execLRimDieFault, execRimRingSegmentFault, execKeepAliveDomainFault,
      execHostCoreUncorrectableRead, execExternalTapAccess]
    refine .checked (h.when fun t ht => ?_)
    repeat' split
    all_goals simp [ht]
  | laneMarginDone lane pass tenMs => exact execLaneMarginDone_canonical h
  | domainActionJob | tileRecovery | domainActionGrove | domainActionPartition | domainActionDevice | policyRewind =>
    simp only [exec, execDomainActionJob, execTileRecovery, execDomainActionGrove,
      execDomainActionPartition, execDomainActionDevice, execPolicyRewind]
    refine h.domainAction fun r t ht => ?_
    repeat' split
    all_goals simp [ht]
  | fltAckWrite a value | tapExtConnect a ext | mportSwap a active | hostCtrlReset a | wdogKick a =>
    simp only [exec, execFltAckWrite, execTapExtConnect, execMportSwap, execHostCtrlReset,
      execWdogKick]
    refine h.allowed fun t ht => ?_
    repeat' split
    all_goals simp [ht]
  | heartbeatPoll unanswered | healthUpdate | ballastStep | rthUpdate powers | healthHistoryWrite =>
    simp only [exec, execHeartbeatPoll, execHealthUpdate, execBallastStep, execRthUpdate,
      execHealthHistoryWrite]
    refine h.answerEvery fun t ht => ?_
    repeat' split
    all_goals simp [ht]
  | ackDeadlineExpiry =>
    simp only [exec, execAckDeadlineExpiry]
    split
    · simp [h]
    · split
      · simp [h]
      · exact h.answerRef fun t ht => by simp [ht]
  | watchdogExpiry =>
    simp only [exec, execWatchdogExpiry]
    split
    · exact h.answerRef fun t ht => by simp [ht]
    · simp [h]
  | compatCapUpdate =>
    simp only [exec, execCompatCapUpdate]
    split
    · exact h.answerEvery fun t ht => by simp [ht]
    · simp [h]
  | telemetryPublish =>
    simp only [exec, execTelemetryPublish]
    split
    · exact h.answerEvery fun t ht => by simp [ht]
    · simp [h]
  | mportFailover =>
    simp only [exec, execMportFailover]
    split
    · simp [h]
    · split
      · exact h.answerRef fun t ht => by simp [ht]
      · simp [h]
  | hostBridgeTimeout tag =>
    simp only [exec, execHostBridgeTimeout]
    split
    · simp [h]
    · exact h.answerRef fun t ht => by simp [ht]
  | hostWatchdogExpiry =>
    simp only [exec, execHostWatchdogExpiry]
    split
    · exact h.answerRef fun t ht => by simp [ht]
    · simp [h]
  | wcFlush buffer | hostBridgeAnswer n | smbUnsupported command | sessionClose session =>
    simp only [exec, execWcFlush, execHostBridgeAnswer, execSmbUnsupported, execSessionClose]
    repeat' split
    all_goals simp [h]
  | managementRestart | backupInPlace | inputVoltageFault mv | flowStop | flowRestored
  | sessionOpen adminChain readChain | logFlush | inputVoltageRestored mv | hostComplexReady =>
    simp only [exec, execManagementRestart, execBackupInPlace, execInputVoltageFault, execFlowStop,
      execFlowRestored, execSessionOpen, execLogFlush, execInputVoltageRestored, execHostComplexReady]
    refine h.when fun t ht => ?_
    repeat' split
    all_goals simp [ht]
  | groveReady g | crossingAlignment g dir point code | droopStretch g | groveClockStart g
  | sensorRead sensor reading | vddCoreLevelReport g mv =>
    simp only [exec, execGroveReady, execCrossingAlignment, execDroopStretch, execGroveClockStart,
      execSensorRead, execVddCoreLevelReport]
    refine .checked ?_
    repeat' split
    all_goals simp [h]
  | clkOppCmd a target | oppSwitch | referenceLoss | referenceReturn =>
    simp only [exec, execClkOppCmd, execOppSwitch, execReferenceLoss, execReferenceReturn]
    repeat' split
    all_goals simp [h]
  | governorUpdate r demand soc | thermalModelUpdate preds =>
    simp only [exec, execGovernorUpdate, execThermalModelUpdate]
    refine h.everyClk fun t ht => ?_
    repeat' split
    all_goals simp [ht]
  | cread session addr | logRead session lseq | attest session nonce | certRead session | updBegin session kind
  | updData session kind offset chunk | updEnd session kind | updActivate session kinds
  | updConfirm session kind raiseSvn | fenceClear session record | laneUnmask session lane | debugAuth session
  | mgmtOpHostReset session | mgmtOpManagementRestart session =>
    simp only [exec, execCread, execLogRead, execAttest, execCertRead, execUpdBegin, execUpdData,
      execUpdEnd, execUpdActivate, execUpdConfirm, execFenceClear, execLaneUnmask, execDebugAuth,
      execMgmtOpHostReset, execMgmtOpManagementRestart]
    refine h.operation fun x t ht => ?_
    repeat' split
    all_goals simp [ht]
  | smbStatusRead | smbVinRead | smbPinRead | smbEffCapRead | smbTInRead | smbTOutRead | smbFlowRead | smbHsMaxRead
  | smbFruRead offset =>
    simp only [exec, execSmbStatusRead, execSmbVinRead, execSmbPinRead, execSmbEffCapRead,
      execSmbTInRead, execSmbTOutRead, execSmbFlowRead, execSmbHsMaxRead, execSmbFruRead]
    exact h.smbAnswer
  | arbiterUpdate currents => exact execArbiterUpdate_canonical h
  | groveAnnounceAck g =>
    simp only [exec, execGroveAnnounceAck]
    refine .checked ?_
    split
    · simp [h]
    · exact answersCanonical_next.mpr ((State.canonical_mk ..).mpr h)
  | oppAckMissing => exact execOppAckMissing_canonical h
  | holdoverExpiry => exact execHoldoverExpiry_canonical h
  | panelResetRelease refPresent => exact execPanelResetRelease_canonical h
  | inputReturn refPresent => exact execInputReturn_canonical h
  | panelRstNAssert =>
    show AnswersCanonical (execPanelRstNAssert s)
    unfold execPanelRstNAssert
    split
    · simp [h]
    · simp
  | inputLoss =>
    show AnswersCanonical (execInputLoss s)
    unfold execInputLoss
    split
    · simp [h]
    · simp
  | mgmtOpPanelReset session =>
    simp only [exec, execMgmtOpPanelReset]
    split
    · simp [h]
    · split <;> simp [h]
  | controlWrite _ _ _ _ | cwrite _ _ _ | revoke _ _ => cases hd
  | _ => cases hp

theorem exec_alone_canonical {c : Instr} (hd : actsAlone c = true) (h : s.canonical) : AnswersCanonical (exec c s) := by
  cases hs : slotOf c with
  | some x => exact exec_slot_canonical (by simp [hs]) h
  | none => cases hp : place c with
    | some p => exact exec_placed_canonical (by simp [hs, hp]) h
    | none => cases ha : answersAside c with
      | true => exact exec_aside_canonical ha h
      | false => exact exec_placeless_canonical hd (by simp [hs, hp, ha]) h

/-! ## Control space: a write runs the command of the register that its address names -/

theorem State.canonical.plainWrite {a : Agent} {b : Blk} {row : RegRow} {addr v mask : Nat} (h : s.canonical) :
    AnswersCanonical (plainWrite a b row addr v mask s) := by
  refine h.allowed fun t ht => ?_
  simp [ht]

theorem State.canonical.tileWrite {a : Agent} {b : Blk} {row : RegRow} {addr v mask given : Nat} (h : s.canonical) :
    AnswersCanonical (tileWrite a b row addr v mask given s) := by
  unfold Sys2Proof.Machine.tileWrite
  dsimp only
  split
  · next pos c off =>
    split
    · split
      · exact exec_alone_canonical (c := .coreRun a ⟨pos, c⟩) rfl h
      · exact exec_alone_canonical (c := .coreHalt a ⟨pos, c⟩) rfl h
    · exact h.plainWrite
  · next pos off =>
    have go {t : State} (ht : t.canonical) : AnswersCanonical (execMgmtqGo a pos t) :=
      exec_alone_canonical (c := .mgmtqGo a pos) rfl ht
    split
    · split
      · split
        · exact h.plainWrite.andThen fun t ht => go ht
        · exact go h
      · exact h.plainWrite
    · split
      · split
        · exact exec_alone_canonical (c := .spadClearStart a pos) rfl h
        · exact h.plainWrite
      · split
        · exact exec_alone_canonical (c := .reachEntryWrite a pos _ _) rfl h
        · split
          · split
            · exact exec_alone_canonical (c := .controlWindowOpen a pos _ _) rfl h
            · exact exec_alone_canonical (c := .controlWindowClose a pos _ _) rfl h
          · exact h.plainWrite
  · exact h.plainWrite

theorem State.canonical.seqCmd {a : Agent} {k v : Nat} (h : s.canonical) : AnswersCanonical (seqCmd a k v s) := by
  unfold Sys2Proof.Machine.seqCmd
  split
  · exact exec_alone_canonical (c := .activate a k) rfl h
  · exact exec_alone_canonical (c := .hold a k) rfl h
  · exact exec_alone_canonical (c := .resume a k) rfl h
  · exact exec_alone_canonical (c := .release a k) rfl h
  · exact exec_alone_canonical (c := .setlen a k _) rfl h
  · exact exec_alone_canonical (c := .mark a k) rfl h
  · exact exec_alone_canonical (c := .rewind a k) rfl h
  · exact h.undecoded

theorem State.canonical.rimWrite {a : Agent} {b : Blk} {row : RegRow} {addr v mask given : Nat} (h : s.canonical) :
    AnswersCanonical (rimWrite a b row addr v mask given s) := by
  unfold Sys2Proof.Machine.rimWrite
  dsimp only
  split
  · next k off =>
    split
    · split
      · exact exec_alone_canonical (c := .hbmClearStart a k _) rfl h
      · exact h.plainWrite
    · split
      · exact exec_alone_canonical (c := .hbmGrantWrite a k _ _) rfl h
      · exact h.plainWrite
  · next p off =>
    split
    · exact h.allowed fun t ht => by simp [ht]
    · split
      · exact exec_alone_canonical (c := .ethRingTailWrite a p _) rfl h
      · exact h.plainWrite
  · next off =>
    split
    · exact h.seqCmd
    · split
      · split
        · exact exec_alone_canonical (c := .seqWatchArm a _ _) rfl h
        · exact exec_alone_canonical (c := .seqWatchDisarm a _ _) rfl h
      · exact h.plainWrite
  · exact h.plainWrite

theorem State.canonical.partCmd {a : Agent} {p v : Nat} (h : s.canonical) : AnswersCanonical (partCmd a p v s) := by
  unfold Sys2Proof.Machine.partCmd
  split
  · exact exec_alone_canonical (c := .create a p) rfl h
  · exact exec_alone_canonical (c := .load a p) rfl h
  · exact exec_alone_canonical (c := .start a p) rfl h
  · exact exec_alone_canonical (c := .reset a p) rfl h
  · exact exec_alone_canonical (c := .teardown a p) rfl h
  · exact exec_alone_canonical (c := .update a p) rfl h
  · exact h.undecoded

theorem State.canonical.fltCmd {a : Agent} {v : Nat} (h : s.canonical) : AnswersCanonical (fltCmd a v s) := by
  unfold Sys2Proof.Machine.fltCmd
  split
  · exact exec_alone_canonical (c := .declare a _) rfl h
  · split
    · exact exec_alone_canonical (c := .fltRewind a _) rfl h
    · exact h.undecoded

theorem State.canonical.panelWrite {a : Agent} {b : Blk} {row : RegRow} {addr v mask given : Nat} (h : s.canonical) :
    AnswersCanonical (panelWrite a b row addr v mask given s) := by
  unfold Sys2Proof.Machine.panelWrite
  dsimp only
  split
  · split
    · exact exec_alone_canonical (c := .fltAckWrite a _) rfl h
    · split
      · exact h.fltCmd
      · split
        · exact h.allowed fun t ht => by simp [ht]
        · exact h.plainWrite
  · split
    · exact exec_alone_canonical (c := .mportSwap a _) rfl h
    · split
      · split
        · exact h.allowed fun t ht => by simp [ht]
        · split
          · exact exec_alone_canonical (c := .wdogKick a) rfl h
          · exact h.undecoded
      · split
        · exact exec_alone_canonical (c := .tapExtConnect a _) rfl h
        · exact h.plainWrite
  · split
    · exact h.partCmd
    · split <;> exact h.plainWrite
  · split
    · exact exec_alone_canonical (c := .clkOppCmd a _) rfl h
    · exact h.plainWrite
  · exact h.plainWrite

theorem State.canonical.syncWrite {a : Agent} {n v bytes : Nat} (h : s.canonical) :
    AnswersCanonical (syncWrite a n v bytes s) := by
  unfold Sys2Proof.Machine.syncWrite
  split
  · exact h.undecoded
  · split
    · exact exec_alone_canonical (c := .syncCmdAdd a n _) rfl h
    · exact exec_alone_canonical (c := .syncCmdSet a n _) rfl h
    · exact exec_alone_canonical (c := .syncCmdClearFlags a n _) rfl h
    · exact h.undecoded

theorem State.canonical.stdBytesWrite {a : Agent} {off v bytes : Nat} (h : s.canonical) :
    AnswersCanonical (stdBytesWrite a off v bytes s) := by
  have word (w : Nat) (x : W32) (t : State) (ht : t.canonical) : AnswersCanonical (execStdWrite a w x t) :=
    exec_alone_canonical (c := .stdWrite a w x) rfl ht
  unfold Sys2Proof.Machine.stdBytesWrite
  split
  · exact word _ _ s h
  · split
    · exact (word _ _ s h).andThen (word _ _)
    · exact h.undecoded

theorem State.canonical.controlStore {a : Agent} {addr v bytes : Nat} (h : s.canonical) :
    AnswersCanonical (controlStore a addr v bytes s) := by
  unfold Sys2Proof.Machine.controlStore
  dsimp only
  split
  · exact h.undecoded
  · split
    · exact answersCanonical_idle.mpr h
    · split
      · exact h.allowed fun t ht => ht.storeWrite
      · exact h.stdBytesWrite
      · exact h.syncWrite
      · exact h.allowed fun t ht => ht
      · split
        · exact h.undecoded
        · split
          · exact h.tileWrite
          · exact h.tileWrite
          · exact h.rimWrite
          · exact h.rimWrite
          · exact h.rimWrite
          · exact h.panelWrite
          · exact h.panelWrite
          · exact h.panelWrite
          · exact h.panelWrite
          · exact h.plainWrite

/-! ## Every command -/

theorem exec_controlWrite_canonical {a : Agent} {addr bytes : Nat} {v : W64} (h : s.canonical) :
    AnswersCanonical (exec (.controlWrite a addr v bytes) s) := by
  rw [exec_controlWrite]
  unfold execControlWrite
  split
  · exact h.controlStore
  · exact answersCanonical_noUnit

theorem exec_cwrite_canonical {id addr : Nat} {v : W64} (h : s.canonical) : AnswersCanonical (exec (.cwrite id addr v) s) := by
  rw [exec_cwrite]
  unfold execCwrite
  split
  · exact answersCanonical_idle.mpr h
  · split
    · exact h.controlStore.andThen fun t ht => by simp [ht]
    · simp [h]

theorem exec_revoke_canonical {id key : Nat} (h : s.canonical) : AnswersCanonical (exec (.revoke id key) s) := by
  rw [exec_revoke]
  unfold execRevoke
  split
  · exact answersCanonical_idle.mpr h
  · split
    · simp [h]
    · split <;> simp [h]

theorem exec_canonical {c : Instr} (h : s.canonical) : AnswersCanonical (exec c s) := by
  cases hd : actsAlone c with
  | true => exact exec_alone_canonical hd h
  | false => cases c with
    | controlWrite a addr v bytes => exact exec_controlWrite_canonical h
    | cwrite id addr v => exact exec_cwrite_canonical h
    | revoke id key => exact exec_revoke_canonical h
    | _ => cases hd

theorem step_canonical (h : s.canonical) : AnswersCanonical (step s) := by
  unfold step
  split
  · exact answersCanonical_next.mpr h
  · exact exec_canonical ((State.canonical_mk ..).mpr h)
end

/-- Settles O59: a memory changes by setting a byte, writing a run of bytes or clearing a range, or is emptied by a reset, and
each of these keeps its form; every other operation leaves the memories as they are. -/
theorem memoriesCanonical : Obligations.MemoriesCanonical :=
  ⟨fun _ _ t h ht => exec_canonical h t ht, fun _ t h ht => step_canonical h t ht⟩

end Sys2Proof.Machine

end

section
/-! PROOFS. The step (O1). -/

namespace Sys2Proof.Machine

/-- Settles O1: `step` is by definition `exec` of the front command, and idles on an empty queue. -/
theorem stepTakesFront : Obligations.StepTakesFront := by
  refine ⟨fun c rest s => rfl, fun s h => ?_⟩
  unfold step
  rw [h]

end Sys2Proof.Machine
end

section
/-! PROOFS. What a slot command that issues leaves: its slot's effect on the fetched state, marked performed (O3 to O11). -/

namespace Sys2Proof.Machine

/-! ## Registers of a tile -/

theorem tileBase_mod (pos : Nat) : tileBase pos % 0x100000 = 0 := by
  unfold tileBase
  dsimp only
  omega

/-- Registers at different offsets of their TILE windows have different addresses. -/
theorem tileBase_add_ne {p q a b : Nat} (h : a % 0x100000 ≠ b % 0x100000) : tileBase p + a ≠ tileBase q + b := by
  have hp := tileBase_mod p
  have hq := tileBase_mod q
  omega

theorem coreBase_eq (pos c : Nat) : coreBase pos c = tileBase pos + (0x80000 + c * 0x1000) := by
  unfold coreBase
  omega

/-- A core's own register, PERF0 and STATUS apart, is none of those that the fetch and the end of a bundle count in. -/
theorem coreReg_not_mem_bundleRegs {id : CoreId} (hw : id.wf = true) {o : Nat} (ho : o < 0x1000) (hperf : o ≠ 0x80)
    (hstatus : o ≠ 0x108) : coreBase id.pos id.core + o ∉ bundleRegs id := by
  have hc : id.core < 8 := by simp only [CoreId.wf, Bool.and_eq_true, decide_eq_true_eq] at hw; exact hw.2
  simp only [bundleRegs, TILE_SPAD_CE_CNT, TILE_CORE_PERFn, TILE_CORE_STATUS, TILE_FLT_KCALLc, coreBase_eq, List.mem_cons,
    List.not_mem_nil, or_false, not_or]
  omega

/-- A core's own register is not the count of corrected errors of its tile. -/
theorem coreReg_ne_ceCount {id : CoreId} (hw : id.wf = true) {o : Nat} (ho : o < 0x1000) :
    coreBase id.pos id.core + o ≠ (TILE_SPAD_CE_CNT id.pos).addr := by
  have hc : id.core < 8 := by simp only [CoreId.wf, Bool.and_eq_true, decide_eq_true_eq] at hw; exact hw.2
  simp only [TILE_SPAD_CE_CNT, coreBase_eq]
  omega

/-! ## The state a slot acts on -/

/-- The state a slot of a core acts on: at its issue cycle, its bundle fetched. -/
def State.atIssue (s : State) (id : CoreId) : State :=
  (s.atCycle (groveOf id.pos) (s.core id.key).nextIssue).fetched id.pos id.core

theorem State.near_atIssue (s : State) (id : CoreId) :
    (s.atCycle (groveOf id.pos) (s.core id.key).nextIssue).Near (s.atIssue id) := State.near_fetched _ _ _

section
variable (s : State) (id : CoreId)

@[simp] theorem State.atIssue_cores : (s.atIssue id).cores = s.cores := (s.near_atIssue id).cores
@[simp] theorem State.atIssue_core (j : Nat) : (s.atIssue id).core j = s.core j := State.core_congr (s.atIssue_cores id) j
@[simp] theorem State.atIssue_tiles : (s.atIssue id).tiles = s.tiles := (s.near_atIssue id).tiles
@[simp] theorem State.atIssue_tile (p : Nat) : (s.atIssue id).tile p = s.tile p := State.tile_congr (s.atIssue_tiles id) p
@[simp] theorem State.atIssue_fuses : (s.atIssue id).fuses = s.fuses := (s.near_atIssue id).fuses
@[simp] theorem State.atIssue_imem : (s.atIssue id).imem = s.imem := (s.near_atIssue id).imem
@[simp] theorem State.atIssue_access : (s.atIssue id).access = s.access := (s.near_atIssue id).access
@[simp] theorem State.atIssue_net : (s.atIssue id).net = s.net := (s.near_atIssue id).net
@[simp] theorem State.atIssue_track : (s.atIssue id).track = s.track := (s.near_atIssue id).track
@[simp] theorem State.atIssue_creditUsed : (s.atIssue id).creditUsed = s.creditUsed := (s.near_atIssue id).creditUsed
@[simp] theorem State.atIssue_msgs : (s.atIssue id).msgs = s.msgs := (s.near_atIssue id).msgs
@[simp] theorem State.atIssue_ops : (s.atIssue id).ops = s.ops := (s.near_atIssue id).ops
@[simp] theorem State.atIssue_nextOp : (s.atIssue id).nextOp = s.nextOp := (s.near_atIssue id).nextOp
@[simp] theorem State.atIssue_free : (s.atIssue id).free = s.free := (s.near_atIssue id).free
end

theorem State.rd_raise (s : State) (a b c : Nat) (r : Reg) : (s.raise a b c).rd r = s.rd r := rfl

/-- A counter's step changes no other register. -/
theorem State.rd_count_ne (s : State) (c : Counter) (n : Nat) {r : Reg} (h : r.addr ≠ c.reg.addr) : (s.count c n).rd r = s.rd r := by
  unfold State.count
  dsimp only
  split <;> split <;> simp only [State.rd_raise, State.rd_wr_ne _ _ h]

theorem State.rd_fetchCount (s : State) (pos core pc : Nat) {r : Reg} (h : r.addr ≠ (TILE_SPAD_CE_CNT pos).addr) :
    (s.fetchCount pos core pc).rd r = s.rd r := by
  unfold State.fetchCount
  dsimp only
  split
  · rfl
  · exact s.rd_count_ne _ _ h

/-- Fetching counts in TILE_SPAD_CE_CNT alone. -/
theorem State.rd_atIssue (s : State) (id : CoreId) {r : Reg} (h : r.addr ≠ (TILE_SPAD_CE_CNT id.pos).addr) :
    (s.atIssue id).rd r = s.rd r := by
  unfold State.atIssue State.fetched
  dsimp only
  split
  · rw [State.rd_fetchCount _ _ _ _ h]; rfl
  · rfl

/-! ## The end of a slot -/

theorem State.rd_perf_ne (s : State) (pos core i n : Nat) {r : Reg} (h : r.addr ≠ (TILE_CORE_PERFn pos core i).addr)
    (h' : r.addr ≠ (TILE_CORE_STATUS pos core).addr) : (s.perf pos core i n).rd r = s.rd r := by
  unfold State.perf
  dsimp only
  split
  · exact s.rd_wr_ne _ h
  · exact (State.rd_wr_ne _ _ h').trans (s.rd_wr_ne _ h)

theorem State.rd_kernelLeft_ne (s : State) (pos core pc : Nat) (g : Option (BitVec 11)) {r : Reg}
    (h : r.addr ≠ (TILE_FLT_KCALLc pos core).addr) : (s.kernelLeft pos core pc g).rd r = s.rd r := by
  unfold State.kernelLeft
  split
  · rfl
  · split
    · dsimp only
      split
      · exact s.rd_wr_ne _ h
      · rw [State.rd_raise, State.rd_wr_ne _ _ h]
    · rfl

/-- The end of a bundle counts in PERF0, with its overflow flag, and in the kernel call count. -/
theorem State.rd_bundleDone_ne (s : State) (id : CoreId) (idle t : Nat) {r : Reg} (h : r.addr ∉ bundleRegs id) :
    (s.bundleDone id.pos id.core idle t).rd r = s.rd r := by
  simp only [bundleRegs, List.mem_cons, List.not_mem_nil, or_false, not_or] at h
  obtain ⟨-, hperf, hstatus, hcall⟩ := h
  unfold State.bundleDone
  dsimp only
  rw [State.rd_congr (State.setCore_csr _ _ _), State.rd_kernelLeft_ne _ _ _ _ _ hcall, State.rd_perf_ne _ _ _ _ _ hperf hstatus]

theorem State.rd_slotDone_ne (s : State) (id : CoreId) (k t : Nat) {r : Reg} (h : r.addr ∉ bundleRegs id) :
    (s.slotDone id.pos id.core k t).rd r = s.rd r := by
  unfold State.slotDone
  dsimp only
  split
  · rw [State.rd_bundleDone_ne _ _ _ _ h]; rfl
  · rfl

/-! ## Slot commands that issue -/

/-- What a slot command that issues leaves in `t`, where `u` is what its slot's effect left: the slot marked performed. -/
structure State.Issued (s u t : State) (id : CoreId) (k : Nat) : Prop where
  done : t.core id.key = (u.slotDone id.pos id.core k (s.core id.key).nextIssue).core id.key
  data : (u.core id.key).SameData (t.core id.key)
  other : ∀ j, j ≠ id.key → t.core j = u.core j
  rd : ∀ r : Reg, r.addr ∉ bundleRegs id → t.rd r = u.rd r
  free : t.free = u.free

/-- The same of a T slot, with what else its answer passes on. -/
structure State.IssuedT (s u t : State) (id : CoreId) : Prop extends State.Issued s u t id 3 where
  tiles : t.tiles = u.tiles
  access : t.access = u.access
  net : t.net = u.net
  track : t.track = u.track
  creditUsed : t.creditUsed = u.creditUsed
  msgs : t.msgs = u.msgs
  ops : t.ops = u.ops
  nextOp : t.nextOp = u.nextOp

theorem State.issued_slotDone {s u t : State} {id : CoreId} {k : Nat}
    (hcores : t.cores = (u.slotDone id.pos id.core k (s.core id.key).nextIssue).cores)
    (hcsr : t.csr = (u.slotDone id.pos id.core k (s.core id.key).nextIssue).csr)
    (hfree : t.free = (u.slotDone id.pos id.core k (s.core id.key).nextIssue).free) : s.Issued u t id k where
  done := State.core_congr hcores _
  data := by
    rw [State.core_congr hcores]
    exact State.slotDone_data _ _ _ _ _
  other j hj := by rw [State.core_congr hcores, State.slotDone_core_ne _ _ _ _ _ hj]
  rd r hr := by rw [State.rd_congr hcsr, State.rd_slotDone_ne _ _ _ _ hr]
  free := by rw [hfree, State.slotDone_frame]

theorem State.slotDone_parts (u : State) (pos core k t : Nat) :
    (u.slotDone pos core k t).tiles = u.tiles ∧ (u.slotDone pos core k t).access = u.access ∧
    (u.slotDone pos core k t).net = u.net ∧ (u.slotDone pos core k t).track = u.track ∧
    (u.slotDone pos core k t).creditUsed = u.creditUsed ∧ (u.slotDone pos core k t).msgs = u.msgs ∧
    (u.slotDone pos core k t).ops = u.ops ∧ (u.slotDone pos core k t).nextOp = u.nextOp := by
  rw [State.slotDone_frame]
  exact ⟨rfl, rfl, rfl, rfl, rfl, rfl, rfl, rfl⟩

section
variable {i : Instr} {id : CoreId} {k opc : Nat} {s : State} {f : Nat → Nat → State → State} {P : State → Prop}

/-- A command of the S, V or M slot that issues. -/
theorem coreSlot_next (h : s.issues id k opc) : ∃ t, slotCmd id k opc answerCore s f = .next t ∧ s.onlyCores t ∧
    s.Issued (f (s.slotWord id k) (s.core id.key).nextIssue (s.atIssue id)) t id k := by
  rw [slotCmd_run answerCore f h.1 h.2]
  exact ⟨_, rfl, rfl, State.issued_slotDone rfl rfl rfl⟩

/-- A command of the T slot that issues. -/
theorem transferSlot_next (h : s.issues id 3 opc) : ∃ t, slotCmd id 3 opc answerT s f = .next t ∧ s.onlyTransfer t ∧
    s.IssuedT (f (s.slotWord id 3) (s.core id.key).nextIssue (s.atIssue id)) t id := by
  rw [slotCmd_run answerT f h.1 h.2]
  obtain ⟨htiles, haccess, hnet, htrack, hcredits, hmsgs, hops, hnext⟩ := State.slotDone_parts
    (f (s.slotWord id 3) (s.core id.key).nextIssue (s.atIssue id)) id.pos id.core 3 (s.core id.key).nextIssue
  exact ⟨_, rfl, rfl, State.issued_slotDone rfl rfl rfl, htiles, haccess, hnet, htrack, hcredits, hmsgs, hops, hnext⟩

theorem coreSlot_yields (h : s.issues id k opc) (he : exec i s = slotCmd id k opc answerCore s f)
    (hP : ∀ t, s.onlyCores t → s.Issued (f (s.slotWord id k) (s.core id.key).nextIssue (s.atIssue id)) t id k → P t) : yields i s P := by
  obtain ⟨t, ht, ho, hi⟩ := coreSlot_next (f := f) h
  exact ⟨t, he.trans ht, hP t ho hi⟩

theorem transferSlot_yields (h : s.issues id 3 opc) (he : exec i s = slotCmd id 3 opc answerT s f)
    (hP : ∀ t, s.onlyTransfer t → s.IssuedT (f (s.slotWord id 3) (s.core id.key).nextIssue (s.atIssue id)) t id → P t) :
    yields i s P := by
  obtain ⟨t, ht, ho, hi⟩ := transferSlot_next (f := f) h
  exact ⟨t, he.trans ht, hP t ho hi⟩

theorem State.ifOn_true {u : State} {key w : Nat} (g : State → State) (h : (u.core key).slotOn w = true) : u.ifOn key w g = g u :=
  if_pos h
theorem State.ifOn_false {u : State} {key w : Nat} (g : State → State) (h : (u.core key).slotOn w = false) : u.ifOn key w g = u := by
  simp [State.ifOn, h]

/-- A slot that changes its core by `g` under its predicate. -/
theorem coreSlot_modCore {g : Nat → Nat → Core → Core} (h : s.issues id k opc)
    (he : exec i s = slotCmd id k opc answerCore s (fun w t u => u.ifOn id.key w (fun u => u.modCore id.key (g w t)))) :
    yields i s (fun t => (if s.slotActive id k then g (s.slotWord id k) (s.core id.key).nextIssue (s.core id.key)
      else s.core id.key).SameData (t.core id.key)) :=
  coreSlot_yields h he fun t _ ht => by
    have hd := ht.data
    cases ha : s.slotActive id k with
    | false => rwa [State.ifOn_false _ (by rw [State.atIssue_core]; exact ha), State.atIssue_core] at hd
    | true => rwa [State.ifOn_true _ (by rw [State.atIssue_core]; exact ha), State.core_modCore_same, State.atIssue_core] at hd

/-- A slot that changes its core by `g`, whatever its predicate. -/
theorem vectorSlot_modCore {g : Nat → Nat → Core → Core} (h : s.issues id k opc)
    (he : exec i s = slotCmd id k opc answerCore s (fun w t u => u.modCore id.key (g w t))) :
    yields i s (fun t => (g (s.slotWord id k) (s.core id.key).nextIssue (s.core id.key)).SameData (t.core id.key)) :=
  coreSlot_yields h he fun t _ ht => by
    have hd := ht.data
    rwa [State.core_modCore_same, State.atIssue_core] at hd
end

theorem yields.mono {i : Instr} {s : State} {P Q : State → Prop} (h : yields i s P) (hPQ : ∀ t, P t → Q t) : yields i s Q := by
  obtain ⟨t, ht, hp⟩ := h
  exact ⟨t, ht, hPQ t hp⟩

/-! ## Results sent (R44) -/

theorem Core.sendS_pend (c : Core) (rd lat : Nat) (v : W64) (poison : BitVec 2) :
    (c.sendS rd (c.nextIssue + lat) v poison).pend = c.withScalar true rd lat v poison := by
  by_cases h : rd = 0 <;> simp [Core.sendS, Core.withScalar, h]

theorem Core.sendP_pend (c : Core) (pd lat : Nat) (v : Lanes) :
    (c.sendP pd (c.nextIssue + lat) v).pend = c.withPred true pd lat v := by
  by_cases h : pd = 0 <;> simp [Core.sendP, Core.withPred, h]

theorem Core.sendV_pend (c : Core) (vd lat : Nat) (mask : Lanes) (v : Vec) (poison : Lanes) :
    (c.sendV vd (c.nextIssue + lat) mask v poison).pend = c.withVector vd lat mask v poison := by
  unfold Core.sendV Core.withVector
  split <;> rfl

theorem Core.withScalar_false (c : Core) (rd lat : Nat) (v : W64) (poison : BitVec 2) :
    c.withScalar false rd lat v poison = c.pend := by simp [Core.withScalar]
theorem Core.withPred_false (c : Core) (pd lat : Nat) (v : Lanes) : c.withPred false pd lat v = c.pend := by
  simp [Core.withPred]

end Sys2Proof.Machine
end

section
/-! PROOFS. The results of the scalar and vector instructions (O4, O8, O9). -/

namespace Sys2Proof.Machine

/-! ## Scalar results -/

section
variable {i : CoreId → Instr} {opc lat : Nat}

/-- An instruction whose meaning is a scalar operation has its result, where its value is as said. -/
theorem scalarResult_of {op val : Nat → W64 → W64 → W64} (he : ∀ s id, exec (i id) s = scalarOp id opc s op)
    (hl : sLatency opc = lat) (hv : ∀ w a b, op w a b = val w a b) : ScalarResult i opc lat val := by
  intro id s h
  refine (coreSlot_modCore h (he s id)).mono fun t ht => ?_
  rw [ht.pend]
  cases s.slotActive id 0 with
  | false => rw [Core.withScalar_false]; rfl
  | true => rw [if_pos rfl, Core.sendS_pend, hl, hv]

theorem compareResult_of {op test : Nat → W64 → W64 → Bool} (he : ∀ s id, exec (i id) s = scalarCmp id opc s op)
    (hl : sLatency opc = 1) (hv : ∀ w a b, op w a b = test w a b) : CompareResult i opc test := by
  intro id s h
  refine (coreSlot_modCore h (he s id)).mono fun t ht => ?_
  rw [ht.pend]
  cases s.slotActive id 0 with
  | false => rw [Core.withPred_false]; rfl
  | true => rw [if_pos rfl, Core.sendP_pend, hl, hv]

theorem predResult_of {val : Lanes → Lanes → Lanes} (he : ∀ s id, exec (i id) s = predOp id opc s val)
    (hl : sLatency opc = 1) : PredResult i opc val := by
  intro id s h
  refine (coreSlot_modCore h (he s id)).mono fun t ht => ?_
  rw [ht.pend]
  cases s.slotActive id 0 with
  | false => rw [Core.withPred_false]; rfl
  | true => rw [if_pos rfl, Core.sendP_pend, hl]
end

theorem ite_slt_min {n : Nat} (a b : BitVec n) : (if b.slt a then b else a) = BitVec.ofInt n (min a.toInt b.toInt) := by
  rw [BitVec.slt_eq_decide]
  split
  next h => rw [min_eq_right (by simpa using (of_decide_eq_true h).le), BitVec.ofInt_toInt]
  next h => rw [min_eq_left (by simpa using h), BitVec.ofInt_toInt]

theorem ite_slt_max {n : Nat} (a b : BitVec n) : (if a.slt b then b else a) = BitVec.ofInt n (max a.toInt b.toInt) := by
  rw [BitVec.slt_eq_decide]
  split
  next h => rw [max_eq_right (by simpa using (of_decide_eq_true h).le), BitVec.ofInt_toInt]
  next h => rw [max_eq_left (by simpa using h), BitVec.ofInt_toInt]

theorem ite_ult_min {n : Nat} (a b : BitVec n) : (if b.ult a then b else a) = BitVec.ofNat n (min a.toNat b.toNat) := by
  rw [BitVec.ult_eq_decide]
  split
  next h => rw [min_eq_right (by simpa using (of_decide_eq_true h).le), BitVec.ofNat_toNat, BitVec.setWidth_eq]
  next h => rw [min_eq_left (by simpa using h), BitVec.ofNat_toNat, BitVec.setWidth_eq]

theorem ite_ult_max {n : Nat} (a b : BitVec n) : (if a.ult b then b else a) = BitVec.ofNat n (max a.toNat b.toNat) := by
  rw [BitVec.ult_eq_decide]
  split
  next h => rw [max_eq_right (by simpa using (of_decide_eq_true h).le), BitVec.ofNat_toNat, BitVec.setWidth_eq]
  next h => rw [max_eq_left (by simpa using h), BitVec.ofNat_toNat, BitVec.setWidth_eq]

theorem sImmS_shift (w : Nat) : sImmS w <<< 26 = BitVec.ofInt 64 (signedOf 26 (bitsOf w 22 26) * 2 ^ 26) := by
  rw [sImmS, BitVec.shiftLeft_eq_mul_twoPow, BitVec.ofInt_mul]
  rfl

theorem sImmS_toInt (w : Nat) : (sImmS w).toInt = signedOf 26 (bitsOf w 22 26) := by
  unfold sImmS signedOf
  have hlo := BitVec.le_toInt (BitVec.ofNat 26 (bitsOf w 22 26))
  have hhi := BitVec.toInt_lt (x := BitVec.ofNat 26 (bitsOf w 22 26))
  generalize (BitVec.ofNat 26 (bitsOf w 22 26)).toInt = x at hlo hhi
  rw [BitVec.toInt_ofInt, Int.bmod_eq_of_le] <;> omega

/-! The shifts and products as the obligations write them. -/

theorem sshiftRight_eq_ofInt {n : Nat} (a : BitVec n) (k : Nat) : a.sshiftRight k = BitVec.ofInt n (a.toInt >>> k) := rfl

theorem mul_eq_ofNat {n : Nat} (a b : BitVec n) : a * b = BitVec.ofNat n (a.toNat * b.toNat) := by
  rw [BitVec.ofNat_mul, BitVec.ofNat_toNat, BitVec.ofNat_toNat, BitVec.setWidth_eq, BitVec.setWidth_eq]

theorem bne_eq_decide {n : Nat} (a b : BitVec n) : (a != b) = decide (a ≠ b) := by
  rw [bne, beq_eq_decide, decide_not]

/-- Settles O4: each instruction is a scalar operation, a compare or a predicate operation, and its value is that of its row. -/
theorem scalarResults : Obligations.ScalarResults := by
  unfold Obligations.ScalarResults
  refine ⟨?_, ?_⟩
  · exact ⟨
      scalarResult_of exec_sAdd rfl (fun _ _ _ => rfl),
      scalarResult_of exec_sSub rfl (fun _ _ _ => rfl),
      scalarResult_of exec_sAnd rfl (fun _ _ _ => rfl),
      scalarResult_of exec_sOr rfl (fun _ _ _ => rfl),
      scalarResult_of exec_sXor rfl (fun _ _ _ => rfl),
      scalarResult_of exec_sSll rfl (fun _ _ _ => rfl),
      scalarResult_of exec_sSrl rfl (fun _ _ _ => rfl),
      scalarResult_of exec_sSra rfl (fun _ a b => sshiftRight_eq_ofInt a _),
      scalarResult_of exec_sMul rfl (fun _ a b => mul_eq_ofNat a b),
      scalarResult_of exec_sMulhu rfl (fun _ _ _ => rfl),
      scalarResult_of exec_sMin rfl (fun _ a b => ite_slt_min a b),
      scalarResult_of exec_sMax rfl (fun _ a b => ite_slt_max a b),
      scalarResult_of exec_sMinu rfl (fun _ a b => ite_ult_min a b),
      scalarResult_of exec_sMaxu rfl (fun _ a b => ite_ult_max a b),
      scalarResult_of exec_sAddi rfl (fun _ _ _ => rfl),
      scalarResult_of exec_sAndi rfl (fun _ _ _ => rfl),
      scalarResult_of exec_sOri rfl (fun _ _ _ => rfl),
      scalarResult_of exec_sXori rfl (fun _ _ _ => rfl),
      scalarResult_of exec_sSlli rfl (fun _ _ _ => rfl),
      scalarResult_of exec_sSrli rfl (fun _ _ _ => rfl),
      scalarResult_of exec_sSrai rfl (fun w a _ => sshiftRight_eq_ofInt a _),
      scalarResult_of exec_sLui rfl (fun w _ _ => sImmS_shift w)⟩
  · exact ⟨
      compareResult_of exec_sCmpEq rfl (fun _ a b => beq_eq_decide a b),
      compareResult_of exec_sCmpNe rfl (fun _ a b => bne_eq_decide a b),
      compareResult_of exec_sCmpLt rfl (fun _ _ _ => BitVec.slt_eq_decide),
      compareResult_of exec_sCmpLtu rfl (fun _ _ _ => BitVec.ult_eq_decide),
      compareResult_of exec_sCmpiEq rfl (fun _ a _ => beq_eq_decide a _),
      compareResult_of exec_sCmpiLt rfl (fun w a _ => by rw [BitVec.slt_eq_decide, sImmS_toInt]),
      predResult_of exec_sPand rfl,
      predResult_of exec_sPor rfl,
      predResult_of exec_sPxor rfl,
      predResult_of exec_sPnot rfl⟩

end Sys2Proof.Machine
end

section
/-! PROOFS. The results of the V slot (O8, O9). -/

namespace Sys2Proof.Machine

section
variable {i : CoreId → Instr} {opc : Nat}

/-- An instruction whose meaning is a vector operation sends its value's lanes, where the value is as said. -/
theorem vectorResult_of {op val : Core → Nat → Vec × Lanes} {lat : Nat → Nat} (he : ∀ s id, exec (i id) s = vectorOp id opc s op)
    (hl : ∀ fmt, vLatency opc fmt = lat fmt) (hv : ∀ c w, op c w = val c w) : VectorResult i opc lat val := by
  intro id s h
  refine (vectorSlot_modCore h (he s id)).mono fun t ht => ?_
  dsimp only at ht ⊢
  rw [ht.pend, Core.sendV_pend, hl, hv]

theorem lanewise1_of {op f : Nat → W32 → W32} {lat0 lat1 : Nat} (he : ∀ s id, exec (i id) s = lanewise1 id opc s op)
    (hl : ∀ fmt, vLatency opc fmt = if fmt = 0 then lat0 else lat1) (hf : ∀ fmt a, op fmt a = f fmt a) :
    Lanewise1 i opc lat0 lat1 f :=
  vectorResult_of he hl fun c w => by simp only [hf]

theorem lanewise2_of {op f : Nat → W32 → W32 → W32} {lat0 lat1 : Nat} (he : ∀ s id, exec (i id) s = lanewise2 id opc s op)
    (hl : ∀ fmt, vLatency opc fmt = if fmt = 0 then lat0 else lat1) (hf : ∀ fmt a b, op fmt a b = f fmt a b) :
    Lanewise2 i opc lat0 lat1 f :=
  vectorResult_of he hl fun c w => by simp only [hf]

theorem vectorReduce_of {neutral : W32} {f : List W32 → W32} {lat : Nat → Nat}
    (he : ∀ s id, exec (i id) s = vectorReduce id opc s neutral f) (hl : ∀ fmt, vLatency opc fmt = lat fmt) :
    VectorResult i opc lat (fun c w => (Vec.ofLanes (fun _ => f (c.lanesOr w neutral)), 0)) :=
  vectorResult_of he hl fun _ _ => rfl

/-- A compare that issues sends the lanes enabled and true; under PRED 0x8 it sends nothing. -/
theorem vectorCompare_of {k : Cmp} {int : W32 → W32 → Bool} (he : ∀ s id, exec (i id) s = vectorCmp id opc s k)
    (hl : ∀ fmt, vLatency opc fmt = 2) (hint : ∀ a b, i32Cmp k a b = int a b) : VectorCompare i opc (f32Cmp k) int := by
  intro id s h
  refine (vectorSlot_modCore h (he s id)).mono fun t ht => ?_
  dsimp only at ht ⊢
  rw [ht.pend]
  cases hp : vActive (s.slotWord id 1) with
  | false =>
    rw [vActive] at hp
    rw [if_neg (by simp), hp, Core.withPred_false]
  | true =>
    rw [vActive] at hp
    rw [if_pos rfl, hp, Core.sendP_pend, hl]
    simp only [hint]
end

theorem ite_slt_zero_abs {n : Nat} (a : BitVec n) : (if a.slt 0 then -a else a) = BitVec.ofInt n (max a.toInt (-a.toInt)) := by
  rw [BitVec.slt_eq_decide, show (0 : BitVec n).toInt = 0 from BitVec.toInt_zero]
  split
  next h => rw [max_eq_right (by have := of_decide_eq_true h; omega), BitVec.ofInt_neg, BitVec.ofInt_toInt]
  next h => rw [max_eq_left (by simp only [decide_eq_true_eq] at h; omega), BitVec.ofInt_toInt]

/-- Settles O8: each instruction is a lane-wise operation of its row of R54, with the row's latency. -/
theorem vectorLanewise : Obligations.VectorLanewise := by
  have same {n : Nat} (fmt : Nat) : n = if fmt = 0 then n else n := by split <;> rfl
  unfold Obligations.VectorLanewise
  exact ⟨
    lanewise2_of exec_vAdd (fun _ => rfl) (fun _ _ _ => rfl),
    lanewise2_of exec_vSub (fun _ => rfl) (fun _ _ _ => rfl),
    lanewise2_of exec_vMul (fun _ => rfl) (fun _ _ _ => rfl),
    vectorResult_of exec_vFma (fun _ => rfl) (fun _ _ => rfl),
    lanewise2_of exec_vMin (fun _ => rfl) (fun _ a b => by rw [ite_slt_min]),
    lanewise2_of exec_vMax (fun _ => rfl) (fun _ a b => by rw [ite_slt_max]),
    lanewise1_of exec_vAbs (fun fmt => same fmt) (fun _ a => by rw [ite_slt_zero_abs]; rfl),
    lanewise1_of exec_vNeg (fun fmt => same fmt) (fun _ _ => rfl),
    lanewise2_of exec_vAnd (fun fmt => same fmt) (fun _ _ _ => rfl),
    lanewise2_of exec_vOr (fun fmt => same fmt) (fun _ _ _ => rfl),
    lanewise2_of exec_vXor (fun fmt => same fmt) (fun _ _ _ => rfl),
    lanewise2_of exec_vShl (fun fmt => same fmt) (fun _ _ _ => rfl),
    lanewise2_of exec_vShr (fun fmt => same fmt) (fun _ _ _ => rfl),
    lanewise2_of exec_vSra (fun fmt => same fmt) (fun _ a b => sshiftRight_eq_ofInt a _),
    lanewise1_of exec_vExp (fun fmt => same fmt) (fun _ _ => rfl),
    lanewise1_of exec_vLog (fun fmt => same fmt) (fun _ _ => rfl),
    lanewise1_of exec_vRcp (fun fmt => same fmt) (fun _ _ => rfl),
    lanewise1_of exec_vRsqrt (fun fmt => same fmt) (fun _ _ => rfl),
    lanewise1_of exec_vTanh (fun fmt => same fmt) (fun _ _ => rfl),
    lanewise1_of exec_vSigm (fun fmt => same fmt) (fun _ _ => rfl)⟩

theorem i32Cmp_eq (a b : W32) : i32Cmp .eq a b = decide (a = b) := by
  have h : a = b ↔ a.toInt = b.toInt := BitVec.toInt_inj.symm
  simp only [i32Cmp, Cmp.holds, h]
  exact decide_eq_decide.mpr (by omega)

theorem i32Cmp_lt (a b : W32) : i32Cmp .lt a b = decide (a.toInt < b.toInt) := by
  simp only [i32Cmp, Cmp.holds]
  exact decide_eq_decide.mpr (by omega)

theorem i32Cmp_le (a b : W32) : i32Cmp .le a b = decide (a.toInt ≤ b.toInt) := by
  simp only [i32Cmp, Cmp.holds]
  exact decide_eq_decide.mpr (by omega)

/-! ## The generator of a core (R91) -/

theorem State.rd_modCore (s : State) (key : Nat) (f : Core → Core) (r : Reg) : (s.modCore key f).rd r = s.rd r := rfl

theorem State.drawn_core (s : State) (pos core j : Nat) : (s.drawn pos core).core j = s.core j :=
  State.core_congr (State.wr_cores _ _ _) j

theorem State.generator_atIssue {s : State} {id : CoreId} (hw : id.wf = true) :
    (s.atIssue id).generator id.pos id.core = s.generator id.pos id.core := by
  unfold State.generator
  rw [State.rd_atIssue _ _ (coreReg_ne_ceCount hw (by decide))]

/-- SRSEED once a draw has been made, or not. -/
theorem State.rd_srseed_drawn (s : State) (id : CoreId) (b : Bool) (g : Core → Core) :
    ((if b then s.drawn id.pos id.core else s).modCore id.key g).rd (TILE_CORE_SRSEED id.pos id.core) = s.genAfter id b := by
  rw [State.rd_modCore]
  cases b with
  | false => rfl
  | true =>
    simp only [State.drawn, State.genAfter, if_true, State.rd_wr_same]
    exact Nat.mod_eq_of_lt (BitVec.isLt _)

/-- A V-slot command that draws, or not, and changes its core by `g`. -/
theorem vectorSlot_draw {i : Instr} {id : CoreId} {opc : Nat} {s : State} {draws : Nat → Bool} {g : State → Nat → Nat → Core → Core}
    (hg : ∀ u w t, u.generator id.pos id.core = s.generator id.pos id.core → g u w t = g s w t)
    (h : s.issues id 1 opc)
    (he : exec i s = slotCmd id 1 opc answerCore s (fun w t u =>
      (if draws w then u.drawn id.pos id.core else u).modCore id.key (g u w t))) :
    yields i s (fun t => (g s (s.slotWord id 1) (s.core id.key).nextIssue (s.core id.key)).SameData (t.core id.key) ∧
      t.rd (TILE_CORE_SRSEED id.pos id.core) = s.genAfter id (draws (s.slotWord id 1))) :=
  coreSlot_yields h he fun t _ ht => by
    have hgen := State.generator_atIssue (s := s) h.1
    refine ⟨?_, ?_⟩
    · have hd := ht.data
      have hcore : (if draws (s.slotWord id 1) then (s.atIssue id).drawn id.pos id.core else s.atIssue id).core id.key
          = s.core id.key := by
        split
        · rw [State.drawn_core, State.atIssue_core]
        · rw [State.atIssue_core]
      rwa [State.core_modCore_same, hcore, hg _ _ _ hgen] at hd
    · rw [ht.rd _ (coreReg_not_mem_bundleRegs h.1 (by decide) (by decide) (by decide)), State.rd_srseed_drawn]
      unfold State.genAfter
      rw [hgen, State.rd_atIssue _ _ (coreReg_ne_ceCount h.1 (by decide))]

theorem vCvt_result {id : CoreId} {s : State} (h : s.issues id 1 0x28) : yields (.vCvt id) s (fun t =>
    let c := s.core id.key
    let w := s.slotWord id 1
    (t.core id.key).pend = c.withVector (vVd w) 3 (c.lanesOf (predOf w))
      (convertPacked (vFmt w) (roundingOf (vRnd w) (s.generator id.pos id.core)) (c.vreg (vVa w)).val) 0 ∧
    t.rd (TILE_CORE_SRSEED id.pos id.core) = s.genAfter id (decide (vRnd w = 1 ∧ predOf w ≠ 8))) := by
  refine (vectorSlot_draw (draws := fun w => decide (vRnd w = 1) && vActive w)
    (g := fun u w t c => c.sendV (vVd w) (t + 3) (c.lanesOf (predOf w))
      (convertPacked (vFmt w) (roundingOf (vRnd w) (u.generator id.pos id.core)) (c.vreg (vVa w)).val) 0)
    (fun u w t hu => by rw [hu]) h (exec_vCvt s id)).mono fun t ht => ?_
  obtain ⟨hpend, hseed⟩ := ht
  exact ⟨by rw [hpend.pend, Core.sendV_pend], by rw [hseed, vActive, Bool.decide_and]⟩

theorem vRand_result {id : CoreId} {s : State} (h : s.issues id 1 0x35) : yields (.vRand id) s (fun t =>
    let c := s.core id.key
    let w := s.slotWord id 1
    (t.core id.key).pend = c.withVector (vVd w) 2 (c.lanesOf (predOf w)) (Vec.ofLanes (srWord (s.generator id.pos id.core))) 0 ∧
    t.rd (TILE_CORE_SRSEED id.pos id.core) = s.genAfter id (decide (predOf w ≠ 8))) := by
  refine (vectorSlot_draw (draws := vActive)
    (g := fun u w t c => c.sendV (vVd w) (t + 2) (c.lanesOf (predOf w)) (Vec.ofLanes (srWord (u.generator id.pos id.core))) 0)
    (fun u w t hu => by rw [hu]) h (exec_vRand s id)).mono fun t ht => ?_
  obtain ⟨hpend, hseed⟩ := ht
  exact ⟨by rw [hpend.pend, Core.sendV_pend], hseed⟩

theorem vExt_result : CoreResult .vExt 1 0x31 (fun c w d => d.pend = c.withScalar ((c.lanesOf (predOf w)).getLsbD 0) (vVd w) 2
    (((c.vreg (vVa w)).val.lane (vImm w)).setWidth 64) (if (c.vreg (vVa w)).poison.getLsbD (vImm w) then 1 else 0)) := by
  intro id s h
  refine (vectorSlot_modCore h (exec_vExt s id)).mono fun t ht => ?_
  dsimp only at ht ⊢
  rw [ht.pend]
  cases ((s.core id.key).lanesOf (predOf (s.slotWord id 1))).getLsbD 0 with
  | false => rw [Core.withScalar_false]; rfl
  | true => rw [if_pos rfl, Core.sendS_pend]

/-- Settles O9: compares, vector operations, and the two that draw. -/
theorem vectorMoves : Obligations.VectorMoves := by
  unfold Obligations.VectorMoves
  exact ⟨
    vectorCompare_of exec_vCmpEq (fun _ => rfl) i32Cmp_eq,
    vectorCompare_of exec_vCmpLt (fun _ => rfl) i32Cmp_lt,
    vectorCompare_of exec_vCmpLe (fun _ => rfl) i32Cmp_le,
    vectorResult_of exec_vUnpk (fun _ => rfl) (fun _ _ => rfl),
    vectorResult_of exec_vBcast (fun _ => rfl) (fun _ _ => rfl),
    vExt_result,
    vectorResult_of exec_vShuf (fun _ => rfl) (fun _ _ => rfl),
    vectorReduce_of exec_vRsum (fun _ => rfl),
    vectorReduce_of exec_vRmax (fun _ => rfl),
    vectorResult_of exec_vMov (fun _ => rfl) (fun _ _ => rfl),
    vectorResult_of exec_vIota (fun _ => rfl) (fun _ _ => rfl),
    fun _ _ h => vCvt_result h,
    fun _ _ h => vRand_result h⟩

end Sys2Proof.Machine
end

section
/-! PROOFS. What the slots' effects leave as they were (O3, O7, O11, O18). -/

namespace Sys2Proof.Machine

/-! ## Registers and streams -/

theorem Core.keeps_refl (c : Core) : c.keeps c := ⟨rfl, rfl, rfl, rfl, rfl, rfl, rfl⟩
theorem Core.keeps_ite {c d e : Core} {p : Prop} [Decidable p] (hd : c.keeps d) (he : c.keeps e) :
    c.keeps (if p then d else e) := by
  split
  · exact hd
  · exact he
theorem Core.keeps_sendS (c : Core) (rd due : Nat) (v : W64) (poison : BitVec 2) : c.keeps (c.sendS rd due v poison) :=
  Core.keeps_ite c.keeps_refl ⟨rfl, rfl, rfl, rfl, rfl, rfl, rfl⟩
theorem Core.keeps_sendP (c : Core) (pd due : Nat) (v : Lanes) : c.keeps (c.sendP pd due v) :=
  Core.keeps_ite c.keeps_refl ⟨rfl, rfl, rfl, rfl, rfl, rfl, rfl⟩
theorem Core.keeps_sendV (c : Core) (vd due : Nat) (mask : Lanes) (v : Vec) (poison : Lanes) :
    c.keeps (c.sendV vd due mask v poison) :=
  Core.keeps_ite c.keeps_refl ⟨rfl, rfl, rfl, rfl, rfl, rfl, rfl⟩

theorem Core.stream_setStream_same (c : Core) (n : Nat) (d : Stream) : (c.setStream n d).stream n = d :=
  SMap.get_put_same _ _ _ _
theorem Core.stream_setStream_ne (c : Core) {n m : Nat} (d : Stream) (h : m ≠ n) : (c.setStream n d).stream m = c.stream m :=
  SMap.get_put_ne _ _ _ _ h

/-! ## Effects of the S, V and M slots -/

/-- What the effect of an instruction of the S, V or M slot leaves in `v` as it was in `u`. -/
structure State.SlotEffect (u : State) (id : CoreId) (k opc w : Nat) (v : State) : Prop where
  other : ∀ j, j ≠ id.key → v.core j = u.core j
  rd : ∀ r : Reg, r.addr ≠ (TILE_CORE_SRSEED id.pos id.core).addr → v.rd r = u.rd r
  free : (k = 0 → opc ≠ 0x38) → v.free = u.free
  sregs : (v.core id.key).s = (u.core id.key).s
  pregs : (v.core id.key).p = (u.core id.key).p
  vregs : (v.core id.key).v = (u.core id.key).v
  accs : (v.core id.key).acc = (u.core id.key).acc
  posted : (v.core id.key).posted = (u.core id.key).posted
  wbuf : ∀ n, (¬(k = 2 ∧ opc = 1) ∨ n ≠ mWb w) → (v.core id.key).wbuf n = (u.core id.key).wbuf n
  stream : ∀ n, (¬(k = 2 ∧ (opc = 1 ∨ opc = 2)) ∨ n ≠ mTs w) → (v.core id.key).stream n = (u.core id.key).stream n

section
variable {u v : State} {id : CoreId} {k opc w : Nat}

/-- An effect that keeps its core's registers and streams. -/
theorem State.SlotEffect.of_keeps (hother : ∀ j, j ≠ id.key → v.core j = u.core j)
    (hrd : ∀ r : Reg, r.addr ≠ (TILE_CORE_SRSEED id.pos id.core).addr → v.rd r = u.rd r)
    (hfree : (k = 0 → opc ≠ 0x38) → v.free = u.free) (hkeeps : (u.core id.key).keeps (v.core id.key)) :
    u.SlotEffect id k opc w v := by
  obtain ⟨hs, hp, hv, hacc, hwb, ht, hposted⟩ := hkeeps
  exact ⟨hother, hrd, hfree, hs, hp, hv, hacc, hposted, fun n _ => congrArg (SMap.get _ · n) hwb, fun n _ => congrArg (SMap.get _ · n) ht⟩

theorem State.SlotEffect.refl (u : State) (id : CoreId) (k opc w : Nat) : u.SlotEffect id k opc w u :=
  .of_keeps (fun _ _ => rfl) (fun _ _ => rfl) (fun _ => rfl) (Core.keeps_refl _)

/-- An effect on a core's results on their way and bookkeeping, after at most a draw or the use of a free value. -/
theorem State.SlotEffect.modCore {v : State} {g : Core → Core} (hcores : v.cores = u.cores)
    (hrd : ∀ r : Reg, r.addr ≠ (TILE_CORE_SRSEED id.pos id.core).addr → v.rd r = u.rd r)
    (hfree : (k = 0 → opc ≠ 0x38) → v.free = u.free) (hg : ∀ c : Core, c.keeps (g c)) :
    u.SlotEffect id k opc w (v.modCore id.key g) :=
  .of_keeps (fun j hj => (State.core_modCore_ne _ _ hj).trans (State.core_congr hcores j)) hrd hfree
    (by rw [State.core_modCore_same, State.core_congr hcores]; exact hg _)

theorem State.SlotEffect.core {g : Core → Core} (hg : ∀ c : Core, c.keeps (g c)) : u.SlotEffect id k opc w (u.modCore id.key g) :=
  .modCore rfl (fun _ _ => rfl) (fun _ => rfl) hg

/-- The same with a draw before it, or not. -/
theorem State.SlotEffect.draw {b : Bool} {g : Core → Core} (hg : ∀ c : Core, c.keeps (g c)) :
    u.SlotEffect id k opc w ((if b then u.drawn id.pos id.core else u).modCore id.key g) := by
  cases b with
  | false => exact .core hg
  | true => exact .modCore (State.wr_cores _ _ _) (fun r hr => State.rd_wr_ne _ _ hr) (fun _ => State.wr_free _ _ _) hg

theorem State.SlotEffect.ifOn {f : State → State} (hf : u.SlotEffect id k opc w (f u)) :
    u.SlotEffect id k opc w (u.ifOn id.key w f) := by
  unfold State.ifOn
  split
  · exact hf
  · exact .refl _ _ _ _ _
end

/-- The command `i` of slot `k` of a core, for opcode `opc`, performs `f`: its effect is that of its slot, and nothing where its
predicate turns off a slot other than V. -/
structure CoreSlot (i : Instr) (id : CoreId) (k opc : Nat) (f : Nat → Nat → State → State) : Prop where
  runs : ∀ s, exec i s = slotCmd id k opc answerCore s f
  off : k ≠ 1 → ∀ w t u, (u.core id.key).slotOn w = false → f w t u = u
  effect : ∀ w t (u : State), u.SlotEffect id k opc w (f w t u)

section
variable {i : CoreId → Instr} {id : CoreId} {k opc : Nat}

theorem coreSlot_none (he : ∀ s id, exec (i id) s = slotCmd id k opc answerCore s (fun _ _ s => s)) :
    ∃ f, CoreSlot (i id) id k opc f :=
  ⟨_, fun s => he s id, fun _ _ _ _ _ => rfl, fun _ _ u => .refl u _ _ _ _⟩

theorem coreSlot_predicated {f : CoreId → Nat → Nat → State → State}
    (he : ∀ s id, exec (i id) s = slotCmd id k opc answerCore s (fun w t u => u.ifOn id.key w (f id w t)))
    (hf : ∀ w t (u : State), u.SlotEffect id k opc w (f id w t u)) : ∃ f, CoreSlot (i id) id k opc f :=
  ⟨_, fun s => he s id, fun _ _ _ _ h => State.ifOn_false _ h, fun w t u => .ifOn (hf w t u)⟩

/-- A predicated slot that sends results, or changes its core's bookkeeping, alone. -/
theorem coreSlot_keeps {g : CoreId → Nat → Nat → Core → Core}
    (he : ∀ s id, exec (i id) s = slotCmd id k opc answerCore s
      (fun w t u => u.ifOn id.key w (fun u => u.modCore id.key (g id w t))))
    (hg : ∀ w t (c : Core), c.keeps (g id w t c)) : ∃ f, CoreSlot (i id) id k opc f :=
  coreSlot_predicated (f := fun id w t u => u.modCore id.key (g id w t)) he fun w t _ => .core (hg w t)

/-- A slot whose lanes are predicated. -/
theorem coreSlot_lanes {f : CoreId → Nat → Nat → State → State}
    (he : ∀ s id, exec (i id) s = slotCmd id 1 opc answerCore s (f id)) (hf : ∀ w t (u : State), u.SlotEffect id 1 opc w (f id w t u)) :
    ∃ f, CoreSlot (i id) id 1 opc f :=
  ⟨_, fun s => he s id, fun h => absurd rfl h, hf⟩

theorem coreSlot_scalar {op : Nat → W64 → W64 → W64} (he : ∀ s id, exec (i id) s = scalarOp id opc s op) :
    ∃ f, CoreSlot (i id) id 0 opc f := coreSlot_keeps he fun _ _ _ => Core.keeps_sendS _ _ _ _ _

theorem coreSlot_compare {op : Nat → W64 → W64 → Bool} (he : ∀ s id, exec (i id) s = scalarCmp id opc s op) :
    ∃ f, CoreSlot (i id) id 0 opc f := coreSlot_keeps he fun _ _ _ => Core.keeps_sendP _ _ _ _

theorem coreSlot_pred {op : Lanes → Lanes → Lanes} (he : ∀ s id, exec (i id) s = predOp id opc s op) :
    ∃ f, CoreSlot (i id) id 0 opc f := coreSlot_keeps he fun _ _ _ => Core.keeps_sendP _ _ _ _

theorem coreSlot_vector {op : Core → Nat → Vec × Lanes} (he : ∀ s id, exec (i id) s = vectorOp id opc s op) :
    ∃ f, CoreSlot (i id) id 1 opc f :=
  coreSlot_lanes he fun _ _ _ => .core fun _ => Core.keeps_sendV _ _ _ _ _ _

theorem coreSlot_lanewise1 {f : Nat → W32 → W32} (he : ∀ s id, exec (i id) s = lanewise1 id opc s f) :
    ∃ f, CoreSlot (i id) id 1 opc f := coreSlot_vector he

theorem coreSlot_lanewise2 {f : Nat → W32 → W32 → W32} (he : ∀ s id, exec (i id) s = lanewise2 id opc s f) :
    ∃ f, CoreSlot (i id) id 1 opc f := coreSlot_vector he

theorem coreSlot_reduce {neutral : W32} {f : List W32 → W32} (he : ∀ s id, exec (i id) s = vectorReduce id opc s neutral f) :
    ∃ f, CoreSlot (i id) id 1 opc f := coreSlot_vector he

theorem coreSlot_vectorCmp {c : Cmp} (he : ∀ s id, exec (i id) s = vectorCmp id opc s c) : ∃ f, CoreSlot (i id) id 1 opc f :=
  coreSlot_lanes he fun _ _ _ => .core fun c => Core.keeps_ite (Core.keeps_sendP _ _ _ _) c.keeps_refl
end

theorem vExt_coreSlot (id : CoreId) : ∃ f, CoreSlot (.vExt id) id 1 0x31 f :=
  coreSlot_lanes (i := .vExt) exec_vExt fun _ _ _ => .core fun c => Core.keeps_ite (Core.keeps_sendS _ _ _ _ _) c.keeps_refl

theorem sMfcr_coreSlot (id : CoreId) : ∃ f, CoreSlot (.sMfcr id) id 0 0x38 f :=
  coreSlot_predicated (i := .sMfcr) exec_sMfcr fun w _ u => by
    refine .modCore ?_ ?_ (fun h => absurd rfl (h rfl)) (fun _ => Core.keeps_sendS _ _ _ _ _)
    · split <;> rfl
    · intro r _
      split <;> rfl

theorem sLoop_coreSlot (id : CoreId) : ∃ f, CoreSlot (.sLoop id) id 0 0x33 f :=
  coreSlot_keeps (i := .sLoop) exec_sLoop fun _ _ _ =>
    Core.keeps_ite ⟨rfl, rfl, rfl, rfl, rfl, rfl, rfl⟩ ⟨rfl, rfl, rfl, rfl, rfl, rfl, rfl⟩

theorem sCall_coreSlot (id : CoreId) : ∃ f, CoreSlot (.sCall id) id 0 0x32 f :=
  coreSlot_keeps (i := .sCall) exec_sCall fun _ _ _ => Core.keeps_sendS _ _ _ _ _

/-- A predicated slot of the M slot that changes its core's weight buffer and stream of its field alone. -/
theorem coreSlot_matrix {i : CoreId → Instr} {id : CoreId} {opc : Nat} {g : CoreId → State → Nat → Nat → Core → Core}
    (he : ∀ s id, exec (i id) s = slotCmd id 2 opc answerCore s
      (fun w t u => u.ifOn id.key w (fun u => u.modCore id.key (g id u w t))))
    (hg : ∀ u w t (c : Core), (g id u w t c).s = c.s ∧ (g id u w t c).p = c.p ∧ (g id u w t c).v = c.v ∧
      (g id u w t c).acc = c.acc ∧ (g id u w t c).posted = c.posted)
    (hwb : ∀ u w t (c : Core), (g id u w t c).wb = c.wb ∨
      opc = 1 ∧ ∃ b, (g id u w t c).wb = SMap.put (⟨0, 0⟩ : WBuf) c.wb (mWb w) b)
    (hstream : ∀ u w t (c : Core) n, n ≠ mTs w → (g id u w t c).stream n = c.stream n) (hopc : opc = 1 ∨ opc = 2) :
    ∃ f, CoreSlot (i id) id 2 opc f :=
  coreSlot_predicated (f := fun id w t u => u.modCore id.key (g id u w t)) he fun w t u => by
    obtain ⟨hs, hp, hv, hacc, hposted⟩ := hg u w t (u.core id.key)
    refine ⟨fun j hj => State.core_modCore_ne _ _ hj, fun _ _ => rfl, fun _ => rfl, ?_, ?_, ?_, ?_, ?_, fun n hn => ?_, fun n hn => ?_⟩
      <;> rw [State.core_modCore_same]
    · exact hs
    · exact hp
    · exact hv
    · exact hacc
    · exact hposted
    · rcases hwb u w t (u.core id.key) with hsame | ⟨hone, b, hput⟩
      · rw [Core.wbuf, hsame, Core.wbuf]
      · rw [Core.wbuf, hput, Core.wbuf]
        exact SMap.get_put_ne _ _ _ _ (hn.resolve_left (by simp [hone]))
    · exact hstream u w t _ n (hn.resolve_left (by rcases hopc with rfl | rfl <;> decide))

theorem mLdw_coreSlot (id : CoreId) : ∃ f, CoreSlot (.mLdw id) id 2 0x01 f :=
  coreSlot_matrix (i := .mLdw) exec_mLdw (fun _ _ _ _ => ⟨rfl, rfl, rfl, rfl, rfl⟩)
    (fun _ _ _ _ => .inr ⟨rfl, ⟨0, 0⟩, by dsimp only⟩)
    (fun _ _ _ c _ hn => SMap.get_put_ne _ _ c.t _ hn) (.inl rfl)

theorem mMmul_coreSlot (id : CoreId) : ∃ f, CoreSlot (.mMmul id) id 2 0x02 f :=
  coreSlot_matrix (i := .mMmul) exec_mMmul (fun _ _ _ _ => ⟨rfl, rfl, rfl, rfl, rfl⟩) (fun _ _ _ _ => .inl rfl)
    (fun _ _ _ c _ hn => SMap.get_put_ne _ _ c.t _ hn) (.inr rfl)

theorem mCvt_coreSlot (id : CoreId) : ∃ f, CoreSlot (.mCvt id) id 2 0x05 f :=
  coreSlot_predicated (i := .mCvt) exec_mCvt fun w _ u => by
    simpa only [decide_eq_true_eq] using
      State.SlotEffect.draw (u := u) (b := decide (mRnd w = 1)) fun c => Core.keeps_sendV c _ _ _ _ _

theorem vCvt_coreSlot (id : CoreId) : ∃ f, CoreSlot (.vCvt id) id 1 0x28 f :=
  coreSlot_lanes (i := .vCvt) exec_vCvt fun _ _ _ => .draw fun c => Core.keeps_sendV c _ _ _ _ _

theorem vRand_coreSlot (id : CoreId) : ∃ f, CoreSlot (.vRand id) id 1 0x35 f :=
  coreSlot_lanes (i := .vRand) exec_vRand fun _ _ _ => .draw fun c => Core.keeps_sendV c _ _ _ _ _


section
variable {i : Instr} {c id : CoreId} {k k' opc opc' : Nat}

theorem coreSlot_named (h : ∃ f, CoreSlot i c k' opc' f) (hi : some (c, k', opc') = some (id, k, opc)) : ∃ f, CoreSlot i id k opc f := by
  obtain ⟨rfl, rfl, rfl⟩ : c = id ∧ k' = k ∧ opc' = opc := by simpa using hi
  exact h

/-- Every command of the S, V or M slot performs an effect of its slot. -/
theorem coreSlot_of (hi : slotOf i = some (id, k, opc)) (hk : k ≠ 3) : ∃ f, CoreSlot i id k opc f := by
  cases i with
  | sNop c => exact coreSlot_named (coreSlot_none (i := .sNop) exec_sNop) hi
  | sTrap c => exact coreSlot_named (coreSlot_none (i := .sTrap) exec_sTrap) hi
  | vNop c => exact coreSlot_named (coreSlot_none (i := .vNop) exec_vNop) hi
  | mNop c => exact coreSlot_named (coreSlot_none (i := .mNop) exec_mNop) hi
  | sAdd c => exact coreSlot_named (coreSlot_scalar exec_sAdd) hi
  | sSub c => exact coreSlot_named (coreSlot_scalar exec_sSub) hi
  | sAnd c => exact coreSlot_named (coreSlot_scalar exec_sAnd) hi
  | sOr c => exact coreSlot_named (coreSlot_scalar exec_sOr) hi
  | sXor c => exact coreSlot_named (coreSlot_scalar exec_sXor) hi
  | sSll c => exact coreSlot_named (coreSlot_scalar exec_sSll) hi
  | sSrl c => exact coreSlot_named (coreSlot_scalar exec_sSrl) hi
  | sSra c => exact coreSlot_named (coreSlot_scalar exec_sSra) hi
  | sMul c => exact coreSlot_named (coreSlot_scalar exec_sMul) hi
  | sMulhu c => exact coreSlot_named (coreSlot_scalar exec_sMulhu) hi
  | sMin c => exact coreSlot_named (coreSlot_scalar exec_sMin) hi
  | sMax c => exact coreSlot_named (coreSlot_scalar exec_sMax) hi
  | sMinu c => exact coreSlot_named (coreSlot_scalar exec_sMinu) hi
  | sMaxu c => exact coreSlot_named (coreSlot_scalar exec_sMaxu) hi
  | sAddi c => exact coreSlot_named (coreSlot_scalar exec_sAddi) hi
  | sAndi c => exact coreSlot_named (coreSlot_scalar exec_sAndi) hi
  | sOri c => exact coreSlot_named (coreSlot_scalar exec_sOri) hi
  | sXori c => exact coreSlot_named (coreSlot_scalar exec_sXori) hi
  | sSlli c => exact coreSlot_named (coreSlot_scalar exec_sSlli) hi
  | sSrli c => exact coreSlot_named (coreSlot_scalar exec_sSrli) hi
  | sSrai c => exact coreSlot_named (coreSlot_scalar exec_sSrai) hi
  | sLui c => exact coreSlot_named (coreSlot_scalar exec_sLui) hi
  | sCmpEq c => exact coreSlot_named (coreSlot_compare exec_sCmpEq) hi
  | sCmpNe c => exact coreSlot_named (coreSlot_compare exec_sCmpNe) hi
  | sCmpLt c => exact coreSlot_named (coreSlot_compare exec_sCmpLt) hi
  | sCmpLtu c => exact coreSlot_named (coreSlot_compare exec_sCmpLtu) hi
  | sCmpiEq c => exact coreSlot_named (coreSlot_compare exec_sCmpiEq) hi
  | sCmpiLt c => exact coreSlot_named (coreSlot_compare exec_sCmpiLt) hi
  | sPand c => exact coreSlot_named (coreSlot_pred exec_sPand) hi
  | sPor c => exact coreSlot_named (coreSlot_pred exec_sPor) hi
  | sPxor c => exact coreSlot_named (coreSlot_pred exec_sPxor) hi
  | sPnot c => exact coreSlot_named (coreSlot_pred exec_sPnot) hi
  | sBr c => exact coreSlot_named (coreSlot_keeps exec_sBr fun _ _ _ => ⟨rfl, rfl, rfl, rfl, rfl, rfl, rfl⟩) hi
  | sJr c => exact coreSlot_named (coreSlot_keeps exec_sJr fun _ _ _ => ⟨rfl, rfl, rfl, rfl, rfl, rfl, rfl⟩) hi
  | sEnd c => exact coreSlot_named (coreSlot_keeps exec_sEnd fun _ _ _ => ⟨rfl, rfl, rfl, rfl, rfl, rfl, rfl⟩) hi
  | sTret c => exact coreSlot_named (coreSlot_keeps exec_sTret fun _ _ _ => ⟨rfl, rfl, rfl, rfl, rfl, rfl, rfl⟩) hi
  | sMtcr c => exact coreSlot_named (coreSlot_keeps exec_sMtcr fun _ _ _ => ⟨rfl, rfl, rfl, rfl, rfl, rfl, rfl⟩) hi
  | mRd c => exact coreSlot_named (coreSlot_keeps exec_mRd fun _ _ _ => Core.keeps_sendV _ _ _ _ _ _) hi
  | mWr c => exact coreSlot_named (coreSlot_keeps exec_mWr fun _ _ _ => ⟨rfl, rfl, rfl, rfl, rfl, rfl, rfl⟩) hi
  | mZero c => exact coreSlot_named (coreSlot_keeps exec_mZero fun _ _ _ => ⟨rfl, rfl, rfl, rfl, rfl, rfl, rfl⟩) hi
  | vAdd c => exact coreSlot_named (coreSlot_lanewise2 exec_vAdd) hi
  | vSub c => exact coreSlot_named (coreSlot_lanewise2 exec_vSub) hi
  | vMul c => exact coreSlot_named (coreSlot_lanewise2 exec_vMul) hi
  | vFma c => exact coreSlot_named (coreSlot_vector exec_vFma) hi
  | vMin c => exact coreSlot_named (coreSlot_lanewise2 exec_vMin) hi
  | vMax c => exact coreSlot_named (coreSlot_lanewise2 exec_vMax) hi
  | vAbs c => exact coreSlot_named (coreSlot_lanewise1 exec_vAbs) hi
  | vNeg c => exact coreSlot_named (coreSlot_lanewise1 exec_vNeg) hi
  | vAnd c => exact coreSlot_named (coreSlot_lanewise2 exec_vAnd) hi
  | vOr c => exact coreSlot_named (coreSlot_lanewise2 exec_vOr) hi
  | vXor c => exact coreSlot_named (coreSlot_lanewise2 exec_vXor) hi
  | vShl c => exact coreSlot_named (coreSlot_lanewise2 exec_vShl) hi
  | vShr c => exact coreSlot_named (coreSlot_lanewise2 exec_vShr) hi
  | vSra c => exact coreSlot_named (coreSlot_lanewise2 exec_vSra) hi
  | vExp c => exact coreSlot_named (coreSlot_lanewise1 exec_vExp) hi
  | vLog c => exact coreSlot_named (coreSlot_lanewise1 exec_vLog) hi
  | vRcp c => exact coreSlot_named (coreSlot_lanewise1 exec_vRcp) hi
  | vRsqrt c => exact coreSlot_named (coreSlot_lanewise1 exec_vRsqrt) hi
  | vTanh c => exact coreSlot_named (coreSlot_lanewise1 exec_vTanh) hi
  | vSigm c => exact coreSlot_named (coreSlot_lanewise1 exec_vSigm) hi
  | vUnpk c => exact coreSlot_named (coreSlot_vector exec_vUnpk) hi
  | vBcast c => exact coreSlot_named (coreSlot_vector exec_vBcast) hi
  | vShuf c => exact coreSlot_named (coreSlot_vector exec_vShuf) hi
  | vRsum c => exact coreSlot_named (coreSlot_reduce exec_vRsum) hi
  | vRmax c => exact coreSlot_named (coreSlot_reduce exec_vRmax) hi
  | vMov c => exact coreSlot_named (coreSlot_vector exec_vMov) hi
  | vIota c => exact coreSlot_named (coreSlot_vector exec_vIota) hi
  | vCmpEq c => exact coreSlot_named (coreSlot_vectorCmp exec_vCmpEq) hi
  | vCmpLt c => exact coreSlot_named (coreSlot_vectorCmp exec_vCmpLt) hi
  | vCmpLe c => exact coreSlot_named (coreSlot_vectorCmp exec_vCmpLe) hi
  | sCall c => exact coreSlot_named (sCall_coreSlot c) hi
  | sLoop c => exact coreSlot_named (sLoop_coreSlot c) hi
  | sMfcr c => exact coreSlot_named (sMfcr_coreSlot c) hi
  | vExt c => exact coreSlot_named (vExt_coreSlot c) hi
  | vCvt c => exact coreSlot_named (vCvt_coreSlot c) hi
  | vRand c => exact coreSlot_named (vRand_coreSlot c) hi
  | mLdw c => exact coreSlot_named (mLdw_coreSlot c) hi
  | mMmul c => exact coreSlot_named (mMmul_coreSlot c) hi
  | mCvt c => exact coreSlot_named (mCvt_coreSlot c) hi
  | tNop c | tSet c | tLds c | tSts c | tLdv c | tStv c | tRd c | tWr c | tSend c | tRlu c | tSendr c | tAdd c
  | tWait c | tFill c | tCopy c | tMov c | tSgat c | tSscat c | tWopen c | tWclose c | tFence c | tSendred c =>
    simp only [slotOf, Option.some.injEq, Prod.mk.injEq] at hi
    exact absurd hi.2.1.symm hk
  | _ => cases hi
end

end Sys2Proof.Machine
end

section
/-! PROOFS. What the T slot's effects leave as they were (O3, O7, O11, O12 to O15). -/

namespace Sys2Proof.Machine

/-- Between `u` and `v` no other core, no other tile, no control-space word but INVCOUNT, and of its own core no register and
no stream but `td` differs. -/
structure State.TransferEffect (u : State) (id : CoreId) (td : Nat) (v : State) : Prop where
  other : ∀ j, j ≠ id.key → v.core j = u.core j
  tile : ∀ q, q ≠ id.pos → v.tile q = u.tile q
  rd : ∀ r : Reg, r.addr ≠ (TILE_CORE_INVCOUNT id.pos id.core).addr → v.rd r = u.rd r
  sregs : (v.core id.key).s = (u.core id.key).s
  pregs : (v.core id.key).p = (u.core id.key).p
  vregs : (v.core id.key).v = (u.core id.key).v
  accs : (v.core id.key).acc = (u.core id.key).acc
  wb : (v.core id.key).wb = (u.core id.key).wb
  stream : ∀ n, n ≠ td → (v.core id.key).stream n = (u.core id.key).stream n

namespace State.TransferEffect

variable {u v x : State} {id : CoreId} {td : Nat}

theorem refl (u : State) (id : CoreId) (td : Nat) : u.TransferEffect id td u :=
  ⟨fun _ _ => rfl, fun _ _ => rfl, fun _ _ => rfl, rfl, rfl, rfl, rfl, rfl, fun _ _ => rfl⟩

theorem trans (h : u.TransferEffect id td v) (k : v.TransferEffect id td x) : u.TransferEffect id td x :=
  ⟨fun j hj => (k.other j hj).trans (h.other j hj), fun q hq => (k.tile q hq).trans (h.tile q hq),
    fun r hr => (k.rd r hr).trans (h.rd r hr), k.sregs.trans h.sregs, k.pregs.trans h.pregs, k.vregs.trans h.vregs,
    k.accs.trans h.accs, k.wb.trans h.wb, fun n hn => (k.stream n hn).trans (h.stream n hn)⟩

/-- What changes neither cores nor tiles nor control-space words. -/
theorem of_same (hcores : v.cores = u.cores) (htiles : v.tiles = u.tiles) (hcsr : v.csr = u.csr) : u.TransferEffect id td v :=
  ⟨fun j _ => State.core_congr hcores j, fun q _ => State.tile_congr htiles q, fun r _ => State.rd_congr hcsr r,
    by rw [State.core_congr hcores], by rw [State.core_congr hcores], by rw [State.core_congr hcores],
    by rw [State.core_congr hcores], by rw [State.core_congr hcores], fun n _ => by rw [State.core_congr hcores]⟩

/-- A change of the own core outside its registers and the streams but `td`. -/
theorem setCore {d : Core} (hs : d.s = (u.core id.key).s) (hp : d.p = (u.core id.key).p) (hv : d.v = (u.core id.key).v)
    (hacc : d.acc = (u.core id.key).acc) (hwb : d.wb = (u.core id.key).wb)
    (hstream : ∀ n, n ≠ td → d.stream n = (u.core id.key).stream n) : u.TransferEffect id td (u.setCore id.key d) :=
  ⟨fun j hj => State.core_setCore_ne _ _ hj, fun _ _ => rfl, fun _ _ => rfl, by rw [State.core_setCore_same, hs],
    by rw [State.core_setCore_same, hp], by rw [State.core_setCore_same, hv], by rw [State.core_setCore_same, hacc],
    by rw [State.core_setCore_same, hwb], fun n hn => by rw [State.core_setCore_same, hstream n hn]⟩

theorem setCore_keeps {d : Core} (h : (u.core id.key).s = d.s ∧ (u.core id.key).p = d.p ∧ (u.core id.key).v = d.v ∧
    (u.core id.key).acc = d.acc ∧ (u.core id.key).wb = d.wb ∧ (u.core id.key).t = d.t) :
    u.TransferEffect id td (u.setCore id.key d) := by
  obtain ⟨hs, hp, hv, hacc, hwb, ht⟩ := h
  exact setCore hs.symm hp.symm hv.symm hacc.symm hwb.symm fun n _ => congrArg (SMap.get _ · n) ht.symm

theorem setCore_sends {d : Core} (h : (u.core id.key).keeps d) : u.TransferEffect id td (u.setCore id.key d) := by
  obtain ⟨hs, hp, hv, hacc, hwb, ht, -⟩ := h
  exact setCore_keeps ⟨hs.symm, hp.symm, hv.symm, hacc.symm, hwb.symm, ht.symm⟩

/-- A change of the own tile. -/
theorem modTile (f : Tile → Tile) : u.TransferEffect id td (u.modTile id.pos f) :=
  ⟨fun _ _ => rfl, fun _ hq => State.tile_modTile_ne _ _ hq, fun _ _ => rfl, rfl, rfl, rfl, rfl, rfl, fun _ _ => rfl⟩

theorem post (k : PostKind) : u.TransferEffect id td (u.post id.key k).2 := setCore_keeps ⟨rfl, rfl, rfl, rfl, rfl, rfl⟩

theorem loadStall (t : Nat) : u.TransferEffect id td (u.loadStall id.key t) := setCore_keeps ⟨rfl, rfl, rfl, rfl, rfl, rfl⟩

theorem advance (w n : Nat) : u.TransferEffect id (tTd w) (u.advance id.key w n) :=
  setCore rfl rfl rfl rfl rfl fun _ hn => Core.stream_setStream_ne _ _ hn

theorem enqueue (kind : QKind) (engine core posted : Nat) (desc : List W64) (off : Nat) (ready : Bool) :
    u.TransferEffect id td (u.enqueue id.pos kind engine core posted desc off ready) := modTile _

theorem addAccess (a : Access) : u.TransferEffect id td (u.addAccess a) := of_same rfl rfl rfl

theorem takeCredits (link cls n : Nat) : u.TransferEffect id td (u.takeCredits link cls n) := of_same rfl rfl rfl

theorem sendSync (m : SyncMsg) : u.TransferEffect id td (u.sendSync m) := of_same rfl rfl rfl

theorem place (p : Pkt) (w : Place) : u.TransferEffect id td (u.place p w) := of_same rfl rfl rfl

end State.TransferEffect

/-! ## The mesh -/

/-- Sending a tracked packet changes the tracking entries and what is on the mesh. -/
theorem State.dispatch_frame (s : State) (pos tag : Nat) (t : Track) :
    s.dispatch pos tag t = { s with track := (s.dispatch pos tag t).track, net := (s.dispatch pos tag t).net } := by
  unfold State.dispatch
  dsimp only
  split
  · rfl
  · split <;> rfl

theorem State.sendPacket_frame (s : State) (pos dest : Nat) (p : Pkt) (holder : Holder) :
    s.sendPacket pos dest p holder
      = { s with track := (s.sendPacket pos dest p holder).track, net := (s.sendPacket pos dest p holder).net } := by
  unfold State.sendPacket
  split
  · rfl
  · exact State.dispatch_frame _ _ _ _

theorem State.sendRouted_frame (s : State) (pos port : Nat) (p : Pkt) (holder : Holder) (index : Nat) (disp : Int) :
    s.sendRouted pos port p holder index disp = { s with track := (s.sendRouted pos port p holder index disp).track
                                                         net := (s.sendRouted pos port p holder index disp).net } := by
  unfold State.sendRouted
  split
  · rfl
  · exact State.dispatch_frame _ _ _ _

theorem State.sendTo_frame (s : State) (pos addr : Nat) (p : Pkt) (holder : Holder) :
    s.sendTo pos addr p holder
      = { s with track := (s.sendTo pos addr p holder).track, net := (s.sendTo pos addr p holder).net } :=
  State.sendPacket_frame _ _ _ _ _

namespace State.TransferEffect

variable {u : State} {id : CoreId} {td : Nat}

theorem sendTo (addr : Nat) (p : Pkt) (holder : Holder) : u.TransferEffect id td (u.sendTo id.pos addr p holder) := by
  rw [State.sendTo_frame]
  exact of_same rfl rfl rfl

theorem sendRouted (port : Nat) (p : Pkt) (holder : Holder) (index : Nat) (disp : Int) :
    u.TransferEffect id td (u.sendRouted id.pos port p holder index disp) := by
  rw [State.sendRouted_frame]
  exact of_same rfl rfl rfl

/-! ## The instructions' effects -/

theorem directLoad (w t : Nat) (dst : LoadDst) : u.TransferEffect id td (u.directLoad id.pos id.core w t dst) := by
  unfold State.directLoad
  dsimp only
  split
  · exact refl _ _ _
  · exact addAccess _
  · exact addAccess _
  · exact ((takeCredits _ _ _).trans (addAccess _)).trans (loadStall _)
  · exact (sendTo _ _ _).trans (loadStall _)

theorem directStore (w t : Nat) (data : Vec) (poison : Lanes) :
    u.TransferEffect id td (u.directStore id.pos id.core w t data poison) := by
  unfold State.directStore
  dsimp only
  split
  · exact post .store
  · exact (post .store).trans (addAccess _)
  · exact (post .store).trans (addAccess _)
  · exact ((post .store).trans (takeCredits _ _ _)).trans (addAccess _)
  · exact (post .store).trans (sendTo _ _ _)

theorem grantCkpt : u.TransferEffect id td (u.grantCkpt id.pos) := by
  unfold State.grantCkpt
  split
  · exact refl _ _ _
  · split
    · exact (modTile _).trans (enqueue _ _ _ _ _ _ _)
    · exact refl _ _ _

theorem wrInvcount (v : Nat) : u.TransferEffect id td (u.wr (TILE_CORE_INVCOUNT id.pos id.core) v) :=
  ⟨fun j _ => State.core_congr (State.wr_cores _ _ _) j, fun q _ => State.tile_congr (State.wr_tiles _ _ _) q,
    fun _ hr => State.rd_wr_ne _ _ hr, rfl, rfl, rfl, rfl, rfl, fun _ _ => rfl⟩

theorem boundary : u.TransferEffect id td (u.boundary id.pos id.core) := by
  unfold State.boundary
  dsimp only
  split
  · split
    · exact ((wrInvcount _).trans (modTile _)).trans grantCkpt
    · exact wrInvcount _
  · exact wrInvcount _

theorem queueMse (kind : QKind) (k : PostKind) (words : List W64) :
    u.TransferEffect id td (u.queueMse id.pos id.core kind k words) := (post k).trans (enqueue _ _ _ _ _ _ _)

theorem slotOp (w : Nat) (scatter : Bool) : u.TransferEffect id (tTd w) (u.slotOp id.pos id.core w scatter) :=
  (((post _).trans (advance w _)).trans (enqueue _ _ _ _ _ _ _)).trans (of_same rfl rfl rfl)

end State.TransferEffect

/-- The command `i` of the T slot of a core, for opcode `opc`, performs `f` under its predicate. -/
structure TransferSlot (i : Instr) (id : CoreId) (opc : Nat) (f : Nat → Nat → State → State) : Prop where
  runs : ∀ s, exec i s = transferOp id opc s f
  effect : ∀ w t (u : State), u.TransferEffect id (tTd w) (f w t u)

theorem transferSlot_named {i : CoreId → Instr} {c id : CoreId} {opc opc' : Nat} {f : CoreId → Nat → Nat → State → State}
    (he : ∀ s c, exec (i c) s = transferOp c opc' s (f c)) (hi : some (c, 3, opc') = some (id, 3, opc))
    (hf : ∀ w t (u : State), u.TransferEffect c (tTd w) (f c w t u)) : ∃ f, TransferSlot (i c) id opc f := by
  obtain ⟨rfl, rfl⟩ : c = id ∧ opc' = opc := by simpa using hi
  exact ⟨_, fun s => he s c, hf⟩

open State.TransferEffect in
/-- Every command of the T slot performs an effect of its slot. -/
theorem transferSlot_of {i : Instr} {id : CoreId} {opc : Nat} (hi : slotOf i = some (id, 3, opc)) :
    ∃ f, TransferSlot i id opc f := by
  cases i with
  | tNop c => exact transferSlot_named exec_tNop hi fun _ _ _ => refl _ _ _
  | tFence c => exact transferSlot_named exec_tFence hi fun _ _ _ => refl _ _ _
  | tSet c => exact transferSlot_named exec_tSet hi fun _ _ _ => setCore rfl rfl rfl rfl rfl fun _ hn => Core.stream_setStream_ne _ _ hn
  | tLds c => exact transferSlot_named exec_tLds hi fun _ _ _ => directLoad _ _ _
  | tLdv c => exact transferSlot_named exec_tLdv hi fun _ _ _ => directLoad _ _ _
  | tSts c => exact transferSlot_named exec_tSts hi fun _ _ _ => directStore _ _ _ _
  | tStv c => exact transferSlot_named exec_tStv hi fun _ _ _ => directStore _ _ _ _
  | tRd c => exact transferSlot_named exec_tRd hi fun _ _ _ => (directLoad _ _ _).trans (advance _ _)
  | tWr c => exact transferSlot_named exec_tWr hi fun _ _ _ => (directStore _ _ _ _).trans (advance _ _)
  | tSend c => exact transferSlot_named exec_tSend hi fun _ _ _ => (post _).trans (sendTo _ _ _)
  | tAdd c => exact transferSlot_named exec_tAdd hi fun _ _ _ => (post _).trans (sendSync _)
  | tFill c => exact transferSlot_named exec_tFill hi fun _ _ _ => queueMse _ _ _
  | tCopy c => exact transferSlot_named exec_tCopy hi fun _ _ _ => queueMse _ _ _
  | tMov c => exact transferSlot_named exec_tMov hi fun _ _ _ => ((post _).trans (enqueue _ _ _ _ _ _ _)).trans (addAccess _)
  | tSgat c => exact transferSlot_named exec_tSgat hi fun _ _ _ => slotOp _ _
  | tSscat c => exact transferSlot_named exec_tSscat hi fun _ _ _ => slotOp _ _
  | tWopen c => exact transferSlot_named exec_tWopen hi fun _ _ _ => (post _).trans (addAccess _)
  | tWclose c => exact transferSlot_named exec_tWclose hi fun _ _ _ => (post _).trans (modTile _)
  | tSendred c => exact transferSlot_named exec_tSendred hi fun _ _ _ => (post _).trans (place _ _)
  | tRlu c => exact transferSlot_named exec_tRlu hi fun _ _ _ => setCore_sends (Core.keeps_sendS _ _ _ _ _)
  | tSendr c =>
    refine transferSlot_named exec_tSendr hi fun _ _ _ => ?_
    dsimp only
    split
    · exact (post _).trans (sendTo _ _ _)
    · exact (post _).trans (sendRouted _ _ _ _ _)
  | tWait c =>
    refine transferSlot_named exec_tWait hi fun _ _ _ => ?_
    split
    · exact boundary
    · exact refl _ _ _
  | _ => simp [slotOf] at hi

end Sys2Proof.Machine
end

section
/-! PROOFS. What a slot command meets at its core, and the slots that do nothing (O3). -/

namespace Sys2Proof.Machine

/-! ## What a slot command meets -/

/-- Whether slot `k` with opcode `opc` is what a core's bundle performs next. -/
def Core.turn (c : Core) (b : Bundle) (k opc : Nat) : Bool :=
  match c.nextSlot b with
  | some j => decide (j = k) && decide (opcOf (b.slot k) = opc)
  | none => decide (k = 0 ∧ opc = 0)

theorem Core.turn_of_some {c : Core} {b : Bundle} {k opc j : Nat} (h : c.nextSlot b = some j) :
    c.turn b k opc = (decide (j = k) && decide (opcOf (b.slot k) = opc)) := by rw [Core.turn, h]
theorem Core.turn_of_none {c : Core} {b : Bundle} {k opc : Nat} (h : c.nextSlot b = none) :
    c.turn b k opc = decide (k = 0 ∧ opc = 0) := by rw [Core.turn, h]

/-- The stall that the T slot of a bundle, whose turn has not trapped, enters. -/
def State.stallOf (s : State) (pos core : Nat) (c : Core) (b : Bundle) : Option (Stall × BitVec 3) :=
  if b.reserved = 0 ∧ b.on 3 = true ∧ s.tTrap pos core c b.t c.nextIssue = none then s.tStall pos c b.t else none

section
variable {s : State} {pos core k opc : Nat}

theorem State.meet_eq (s : State) (pos core k opc : Nat) :
    s.meet pos core k opc = (
      let c := s.core (coreKey pos core)
      let b := s.bundle pos core c.pc.toNat
      if !s.live pos c || c.overrun then .nothing
      else if c.issued ≠ 0 then (if c.turn b k opc && !(decide (k = 3) && s.noRoom pos c b.t) then .run else .nothing)
      else if !s.caughtUp (coreKey pos core) c c.nextIssue then .nothing
      else if s.fetchError pos core c.pc.toNat then .trap ⟨7, 0, 0, 0, false, true⟩ []
      else match s.stallOf pos core c b with
        | some (w, st) => .stall w st
        | none => match s.issueTrap pos core c b c.nextIssue with
          | some (p, d) => .trap p d
          | none => if c.turn b k opc then .run else .nothing) := rfl

theorem State.meet_of_not_live (h : s.live pos (s.core (coreKey pos core)) = false) : s.meet pos core k opc = .nothing := by
  rw [State.meet_eq]
  simp [h]

variable (hlive : s.live pos (s.core (coreKey pos core)) = true) (hover : (s.core (coreKey pos core)).overrun = false)
  (hissued : (s.core (coreKey pos core)).issued = 0)
  (hcaught : s.caughtUp (coreKey pos core) (s.core (coreKey pos core)) (s.core (coreKey pos core)).nextIssue = true)
include hlive hover hissued hcaught

theorem State.meet_of_fetchError (h : s.fetchError pos core (s.core (coreKey pos core)).pc.toNat = true) :
    s.meet pos core k opc = .trap ⟨7, 0, 0, 0, false, true⟩ [] := by
  rw [State.meet_eq]
  simp [hlive, hover, hissued, hcaught, h]

variable (hfetch : s.fetchError pos core (s.core (coreKey pos core)).pc.toNat = false)
include hfetch

theorem State.meet_of_stall {w : Stall} {st : BitVec 3} (h : s.stallOf pos core (s.core (coreKey pos core))
    (s.bundle pos core (s.core (coreKey pos core)).pc.toNat) = some (w, st)) : s.meet pos core k opc = .stall w st := by
  rw [State.meet_eq]
  simp [hlive, hover, hissued, hcaught, hfetch, h]

section
variable (hstall : s.stallOf pos core (s.core (coreKey pos core)) (s.bundle pos core (s.core (coreKey pos core)).pc.toNat) = none)
include hstall

theorem State.meet_of_trap {p : Trap} {d : List (Dst × Nat)} (h : s.issueTrap pos core (s.core (coreKey pos core))
    (s.bundle pos core (s.core (coreKey pos core)).pc.toNat) (s.core (coreKey pos core)).nextIssue = some (p, d)) :
    s.meet pos core k opc = .trap p d := by
  rw [State.meet_eq]
  simp [hlive, hover, hissued, hcaught, hfetch, hstall, h]

theorem State.meet_of_turn (htrap : s.issueTrap pos core (s.core (coreKey pos core))
    (s.bundle pos core (s.core (coreKey pos core)).pc.toNat) (s.core (coreKey pos core)).nextIssue = none)
    (h : (s.core (coreKey pos core)).turn (s.bundle pos core (s.core (coreKey pos core)).pc.toNat) k opc = true) :
    s.meet pos core k opc = .run := by
  rw [State.meet_eq]
  simp [hlive, hover, hissued, hcaught, hfetch, hstall, htrap, h]
end
end

theorem State.stallOf_none {s : State} {pos core : Nat} {c : Core} {b : Bundle} (h : b.on 3 = false ∨ s.tStall pos c b.t = none) :
    s.stallOf pos core c b = none := by
  unfold State.stallOf
  rcases h with h | h
  · rw [h, if_neg (by simp)]
  · rw [h, ite_self]

/-- The first part of O3. -/
theorem meet_cases (s : State) (pos core k opc : Nat) :
    let c := s.core (coreKey pos core)
    let b := s.bundle pos core c.pc.toNat
    (s.live pos c = false → s.meet pos core k opc = .nothing) ∧
    (s.live pos c = true → c.overrun = false → c.issued = 0 → s.caughtUp (coreKey pos core) c c.nextIssue = true →
      s.fetchError pos core c.pc.toNat = true → s.meet pos core k opc = .trap ⟨7, 0, 0, 0, false, true⟩ []) ∧
    (s.live pos c = true → c.overrun = false → c.issued = 0 → s.caughtUp (coreKey pos core) c c.nextIssue = true →
      s.fetchError pos core c.pc.toNat = false →
      (b.on 3 = false → s.issueTrap pos core c b c.nextIssue = none → c.nextSlot b = none → s.meet pos core 0 0 = .run) ∧
      ((b.on 3 = false ∨ s.tStall pos c b.t = none) → s.issueTrap pos core c b c.nextIssue = none →
        c.nextSlot b = some k → opcOf (b.slot k) = opc → s.meet pos core k opc = .run) ∧
      (∀ p d, (b.on 3 = false ∨ s.tStall pos c b.t = none) → s.issueTrap pos core c b c.nextIssue = some (p, d) →
        s.meet pos core k opc = .trap p d) ∧
      (∀ w st, b.reserved = 0 → b.on 3 = true → s.tTrap pos core c b.t c.nextIssue = none →
        s.tStall pos c b.t = some (w, st) → s.meet pos core k opc = .stall w st)) := by
  refine ⟨State.meet_of_not_live, State.meet_of_fetchError, fun hl ho hi hc hf => ⟨?_, ?_, ?_, ?_⟩⟩
  · intro hon htrap hnext
    exact State.meet_of_turn hl ho hi hc hf (State.stallOf_none (.inl hon)) htrap (by rw [Core.turn_of_none hnext]; rfl)
  · intro hstall htrap hnext hopc
    exact State.meet_of_turn hl ho hi hc hf (State.stallOf_none hstall) htrap (by rw [Core.turn_of_some hnext]; simp [hopc])
  · intro p d hstall htrap
    exact State.meet_of_trap hl ho hi hc hf (State.stallOf_none hstall) htrap
  · intro w st hres hon htrap hstall
    exact State.meet_of_stall hl ho hi hc hf ((if_pos ⟨hres, hon, htrap⟩).trans hstall)

/-! ## Slots that do nothing -/

theorem Core.SameData.keeps {c d : Core} (h : c.SameData d) : c.keeps d := ⟨h.s, h.p, h.v, h.acc, h.wb, h.t, h.posted⟩

/-- What a slot leaves that does nothing. -/
def State.slotIdle (s : State) (id : CoreId) (t : State) : Prop :=
  s.onlyCores t ∧ (s.core id.key).keeps (t.core id.key) ∧ (t.core id.key).pend = (s.core id.key).pend

theorem State.Issued.idle {s t : State} {id : CoreId} {k : Nat} (h : s.Issued (s.atIssue id) t id k) (ho : s.onlyCores t) :
    s.slotIdle id t := by
  have hd := h.data
  rw [State.atIssue_core] at hd
  exact ⟨ho, hd.keeps, hd.pend⟩

/-- A T slot's answer passes on no more than a core's where the slot's effect leaves the tile and the networks alone. -/
theorem State.onlyTransfer.onlyCores {s t : State} (h : s.onlyTransfer t) (htiles : t.tiles = s.tiles) (haccess : t.access = s.access)
    (hnet : t.net = s.net) (htrack : t.track = s.track) (hcredits : t.creditUsed = s.creditUsed) (hmsgs : t.msgs = s.msgs)
    (hops : t.ops = s.ops) (hnext : t.nextOp = s.nextOp) : s.onlyCores t := by
  unfold State.onlyTransfer at h
  rw [htiles, haccess, hnet, htrack, hcredits, hmsgs, hops, hnext] at h
  exact h

theorem State.IssuedT.idle {s t : State} {id : CoreId} (h : s.IssuedT (s.atIssue id) t id) (ho : s.onlyTransfer t) :
    s.slotIdle id t :=
  h.toIssued.idle (ho.onlyCores (h.tiles.trans (by simp)) (h.access.trans (by simp)) (h.net.trans (by simp))
    (h.track.trans (by simp)) (h.creditUsed.trans (by simp)) (h.msgs.trans (by simp)) (h.ops.trans (by simp))
    (h.nextOp.trans (by simp)))

/-- A slot of the S, V or M slot whose effect is nothing. -/
theorem coreSlot_idle {i : Instr} {id : CoreId} {k opc : Nat} {s : State} {f : Nat → Nat → State → State}
    (h : s.issues id k opc) (he : exec i s = slotCmd id k opc answerCore s f)
    (hf : f (s.slotWord id k) (s.core id.key).nextIssue (s.atIssue id) = s.atIssue id) : yields i s (s.slotIdle id) :=
  coreSlot_yields h he fun t ho ht => by
    rw [hf] at ht
    exact ht.idle ho

theorem transferSlot_idle {i : Instr} {id : CoreId} {opc : Nat} {s : State} {f : Nat → Nat → State → State}
    (h : s.issues id 3 opc) (he : exec i s = transferOp id opc s f)
    (hf : s.slotActive id 3 = false ∨ f (s.slotWord id 3) (s.core id.key).nextIssue (s.atIssue id) = s.atIssue id) :
    yields i s (s.slotIdle id) :=
  transferSlot_yields h he fun t ho ht => by
    have hidle : (s.atIssue id).ifOn id.key (s.slotWord id 3) (f (s.slotWord id 3) (s.core id.key).nextIssue) = s.atIssue id := by
      rcases hf with hoff | hf
      · exact State.ifOn_false _ (by rw [State.atIssue_core]; exact hoff)
      · unfold State.ifOn
        rw [hf, ite_self]
    rw [hidle] at ht
    exact ht.idle ho

/-- A slot other than V that its predicate turns off. -/
theorem slot_off {i : Instr} {id : CoreId} {k opc : Nat} {s : State} (hi : slotOf i = some (id, k, opc)) (hk : k ≠ 1)
    (h : s.issues id k opc) (hoff : s.slotActive id k = false) : yields i s (s.slotIdle id) := by
  by_cases hk3 : k = 3
  · subst hk3
    obtain ⟨f, hf⟩ := transferSlot_of hi
    exact transferSlot_idle h (hf.runs s) (.inl hoff)
  · obtain ⟨f, hf⟩ := coreSlot_of hi hk3
    exact coreSlot_idle h (hf.runs s) (hf.off hk _ _ _ (by rw [State.atIssue_core]; exact hoff))

/-- A slot command names the core that its slot is of. -/
theorem slotOf_wf {i : Instr} {id : CoreId} {k opc : Nat} (hi : slotOf i = some (id, k, opc)) : i.wf = id.wf := by
  cases i <;> simp only [slotOf, Option.some.injEq, Prod.mk.injEq, reduceCtorEq] at hi <;> rw [← hi.1, Instr.wf]

/-- Settles O3. -/
theorem slotMeets : Obligations.SlotMeets := by
  unfold Obligations.SlotMeets
  have idle {i : CoreId → Instr} {k opc : Nat} (h : ∀ id s, s.issues id k opc → yields (i id) s (s.slotIdle id)) :
      CoreResult i k opc (fun c _ d => c.keeps d ∧ d.pend = c.pend) := fun id s hs => (h id s hs).mono fun _ ht => ht.2
  refine ⟨fun s pos core k opc => meet_cases s pos core k opc, fun i id k opc s hi h => ?_,
    fun i id k opc s hi hk h hoff => slot_off hi hk h hoff,
    idle fun id s h => coreSlot_idle h (exec_sNop s id) rfl, idle fun id s h => coreSlot_idle h (exec_vNop s id) rfl,
    idle fun id s h => coreSlot_idle h (exec_mNop s id) rfl, idle fun id s h => transferSlot_idle h (exec_tNop s id) (.inr rfl),
    idle fun id s h => transferSlot_idle h (exec_tFence s id) (.inr rfl)⟩
  exact exec_next_of_wf ((slotOf_wf hi).trans h.1) s

end Sys2Proof.Machine
end

section
/-! PROOFS. What an instruction of a slot leaves unchanged (O11). -/

namespace Sys2Proof.Machine

/-- O11 for the S, V and M slots. -/
theorem coreSlot_frame {i : Instr} {id : CoreId} {k opc : Nat} {s t : State} (hi : slotOf i = some (id, k, opc)) (hk : k ≠ 3)
    (h : s.issues id k opc) (ht : exec i s = .next t) :
    s.onlyCores t ∧ (∀ j, j ≠ id.key → t.core j = s.core j) ∧
    (∀ r : Reg, r.addr ∉ bundleRegs id → r.addr ≠ (TILE_CORE_SRSEED id.pos id.core).addr → t.rd r = s.rd r) ∧
    ((k = 0 → opc ≠ 0x38) → t.free = s.free) ∧
    (∀ n, (t.core id.key).sreg n = (s.core id.key).sreg n) ∧ (∀ n, (t.core id.key).preg n = (s.core id.key).preg n) ∧
    (∀ n, (t.core id.key).vreg n = (s.core id.key).vreg n) ∧
    (∀ a r, (t.core id.key).accRow a r = (s.core id.key).accRow a r) ∧
    (∀ n, (¬(k = 2 ∧ opc = 1) ∨ n ≠ mWb (s.slotWord id 2)) → (t.core id.key).wbuf n = (s.core id.key).wbuf n) ∧
    (∀ n, (¬(k = 2 ∧ (opc = 1 ∨ opc = 2)) ∨ n ≠ mTs (s.slotWord id 2)) → (t.core id.key).stream n = (s.core id.key).stream n) ∧
    (t.core id.key).posted = (s.core id.key).posted := by
  obtain ⟨f, hf⟩ := coreSlot_of hi hk
  obtain ⟨t', ht', honly, hissued⟩ := coreSlot_next (f := f) h
  obtain rfl : t = t' := by
    have := (ht.symm.trans (hf.runs s)).trans ht'
    simpa using this
  have heff := hf.effect (s.slotWord id k) (s.core id.key).nextIssue (s.atIssue id)
  have hdata := hissued.data
  have named {p : Prop} {m : Nat → Nat} {n : Nat} (hn : ¬(k = 2 ∧ p) ∨ n ≠ m (s.slotWord id 2)) :
      ¬(k = 2 ∧ p) ∨ n ≠ m (s.slotWord id k) := by
    by_cases hk2 : k = 2
    · rwa [hk2] at hn ⊢
    · exact .inl fun h => hk2 h.1
  refine ⟨honly, fun j hj => ?_, fun r hr hseed => ?_, fun hfree => ?_, fun n => ?_, fun n => ?_, fun n => ?_, fun a r => ?_,
    fun n hn => ?_, fun n hn => ?_, ?_⟩
  · rw [hissued.other j hj, heff.other j hj, State.atIssue_core]
  · have hce : r.addr ≠ (TILE_SPAD_CE_CNT id.pos).addr := fun e => hr (by rw [bundleRegs, e]; exact List.mem_cons_self)
    rw [hissued.rd r hr, heff.rd r hseed, State.rd_atIssue _ _ hce]
  · rw [hissued.free, heff.free hfree, State.atIssue_free]
  · rw [Core.sreg, hdata.s, heff.sregs, State.atIssue_core, Core.sreg]
  · rw [Core.preg, hdata.p, heff.pregs, State.atIssue_core, Core.preg]
  · rw [Core.vreg, hdata.v, heff.vregs, State.atIssue_core, Core.vreg]
  · rw [Core.accRow, hdata.acc, heff.accs, State.atIssue_core, Core.accRow]
  · rw [Core.wbuf, hdata.wb, ← Core.wbuf, heff.wbuf n (named hn), State.atIssue_core]
  · rw [Core.stream, hdata.t, ← Core.stream, heff.stream n (named hn), State.atIssue_core]
  · rw [hdata.posted, heff.posted, State.atIssue_core]

/-- O11 for the T slot. -/
theorem transferSlot_frame {i : Instr} {id : CoreId} {opc : Nat} {s t : State} (hi : slotOf i = some (id, 3, opc))
    (h : s.issues id 3 opc) (ht : exec i s = .next t) :
    s.onlyTransfer t ∧ (∀ j, j ≠ id.key → t.core j = s.core j) ∧ (∀ q, q ≠ id.pos → t.tile q = s.tile q) ∧
    (∀ n, (t.core id.key).sreg n = (s.core id.key).sreg n) ∧ (∀ n, (t.core id.key).preg n = (s.core id.key).preg n) ∧
    (∀ n, (t.core id.key).vreg n = (s.core id.key).vreg n) ∧
    (∀ a r, (t.core id.key).accRow a r = (s.core id.key).accRow a r) ∧
    (∀ n, (t.core id.key).wbuf n = (s.core id.key).wbuf n) ∧
    (∀ n, n ≠ tTd (s.slotWord id 3) → (t.core id.key).stream n = (s.core id.key).stream n) ∧
    (∀ r : Reg, r.addr ∉ bundleRegs id → r.addr ≠ (TILE_CORE_INVCOUNT id.pos id.core).addr → t.rd r = s.rd r) := by
  obtain ⟨f, hf⟩ := transferSlot_of hi
  obtain ⟨t', ht', honly, hissued⟩ := transferSlot_next (f := fun w t u => u.ifOn id.key w (f w t)) h
  obtain rfl : t = t' := by
    have := (ht.symm.trans (hf.runs s)).trans ht'
    simpa using this
  have heff : (s.atIssue id).TransferEffect id (tTd (s.slotWord id 3))
      ((s.atIssue id).ifOn id.key (s.slotWord id 3) (f (s.slotWord id 3) (s.core id.key).nextIssue)) := by
    unfold State.ifOn
    split
    · exact hf.effect _ _ _
    · exact .refl _ _ _
  have hdata := hissued.data
  refine ⟨honly, fun j hj => ?_, fun q hq => ?_, fun n => ?_, fun n => ?_, fun n => ?_, fun a r => ?_, fun n => ?_, fun n hn => ?_,
    fun r hr hinv => ?_⟩
  · rw [hissued.other j hj, heff.other j hj, State.atIssue_core]
  · rw [State.tile_congr hissued.tiles, heff.tile q hq, State.atIssue_tile]
  · rw [Core.sreg, hdata.s, heff.sregs, State.atIssue_core, Core.sreg]
  · rw [Core.preg, hdata.p, heff.pregs, State.atIssue_core, Core.preg]
  · rw [Core.vreg, hdata.v, heff.vregs, State.atIssue_core, Core.vreg]
  · rw [Core.accRow, hdata.acc, heff.accs, State.atIssue_core, Core.accRow]
  · rw [Core.wbuf, hdata.wb, heff.wb, State.atIssue_core, Core.wbuf]
  · rw [Core.stream, hdata.t, ← Core.stream, heff.stream n hn, State.atIssue_core]
  · have hce : r.addr ≠ (TILE_SPAD_CE_CNT id.pos).addr := fun e => hr (by rw [bundleRegs, e]; exact List.mem_cons_self)
    rw [hissued.rd r hr, heff.rd r hinv, State.rd_atIssue _ _ hce]

/-- Settles O11: an answer passes on what its slot's effect and the end of the slot leave, and each of the two changes its own
words and registers alone. -/
theorem slotFrames : Obligations.SlotFrames :=
  ⟨fun _ _ _ _ hi hk _ _ h ht => coreSlot_frame hi hk h ht, fun _ _ _ hi _ _ h ht => transferSlot_frame hi h ht⟩

end Sys2Proof.Machine
end

section
/-! PROOFS. Where the end of a bundle takes its core: branches, calls, loops and the end of issue (O5). -/

namespace Sys2Proof.Machine

/-! ## The end of a bundle -/

theorem State.bundle_congr {s t : State} (h : t.imem = s.imem) (pos core pc : Nat) : t.bundle pos core pc = s.bundle pos core pc := by
  rw [State.bundle, State.bundle, h]

/-- A core after the end of its bundle: moved on, and stopped where an s.end or a halt fell in it. -/
def Core.ended (c : Core) (skip : Bool) (idle t : Nat) : Core :=
  match c.ending with
  | none => c.done skip idle t
  | some st => { c.done skip idle t with state := st, handler := false, stall := .none, overrun := false }

theorem State.bundleDone_core (s : State) (pos core idle t : Nat) :
    (s.bundleDone pos core idle t).core (coreKey pos core) = (s.core (coreKey pos core)).ended
      (decide (opcOf (s.bundle pos core (s.core (coreKey pos core)).pc.toNat).s = 0x33)) idle t := by
  unfold State.bundleDone
  dsimp only
  rw [State.core_setCore_same]
  rfl

/-- A core with slot `k` of its bundle marked performed. -/
def Core.marked (c : Core) (k : Nat) : Core := { c with issued := c.issued ||| BitVec.ofNat 4 (2 ^ k) }

theorem State.slotDone_core_last {u : State} {pos core k t : Nat}
    (h : ((u.core (coreKey pos core)).marked k).nextSlot (u.bundle pos core (u.core (coreKey pos core)).pc.toNat) = none) :
    (u.slotDone pos core k t).core (coreKey pos core) = ((u.core (coreKey pos core)).marked k).ended
      (decide (opcOf (u.bundle pos core (u.core (coreKey pos core)).pc.toNat).s = 0x33))
      (u.bundle pos core (u.core (coreKey pos core)).pc.toNat).idle t := by
  unfold State.slotDone
  dsimp only
  rw [if_pos (by rw [← Core.marked, h]; rfl), State.bundleDone_core, State.core_setCore_same]
  rfl

/-! ## A bundle of the S slot alone -/

theorem Bundle.on_of_act_one {b : Bundle} (h : b.act = 1) (k : Nat) : b.on k = decide (k = 0) := by
  rw [Bundle.on, h]
  cases k with
  | zero => rfl
  | succ k => simp [Nat.testBit_succ]

theorem Core.nextSlot_first {c : Core} {b : Bundle} (hact : b.act = 1) (hissued : c.issued = 0) : c.nextSlot b = some 0 := by
  simp [Core.nextSlot, Bundle.on_of_act_one hact, hissued, List.range_succ]

theorem Core.nextSlot_marked {c : Core} {b : Bundle} (hact : b.act = 1) (hissued : c.issued = 0) :
    (c.marked 0).nextSlot b = none := by
  simp [Core.nextSlot, Core.marked, Bundle.on_of_act_one hact, hissued, List.range_succ]

/-- What holds of a bundle whose slot runs. -/
theorem State.run_facts {s : State} {pos core k opc : Nat} (h : s.meet pos core k opc = .run) :
    let c := s.core (coreKey pos core)
    let b := s.bundle pos core c.pc.toNat
    s.live pos c = true ∧ c.overrun = false ∧
    c.turn b k opc = true ∧ (c.issued = 0 → s.issueTrap pos core c b c.nextIssue = none) := by
  rw [State.meet_eq] at h
  dsimp only at h ⊢
  split at h
  next => cases h
  next hlive =>
    obtain ⟨hl, ho⟩ : s.live pos (s.core (coreKey pos core)) = true ∧ (s.core (coreKey pos core)).overrun = false := by
      simpa using hlive
    refine ⟨hl, ho, ?_⟩
    split at h
    next hissued =>
      split at h
      next hmine =>
        rw [Bool.and_eq_true] at hmine
        exact ⟨hmine.1, fun h0 => absurd h0 hissued⟩
      next => cases h
    next =>
      split at h
      next => cases h
      next =>
        split at h
        next => cases h
        next =>
          split at h
          next => cases h
          next =>
            split at h
            next => cases h
            next htrap =>
              split at h
              next hmine => exact ⟨hmine, fun _ => htrap⟩
              next => cases h

/-- A slot that runs and is its bundle's next slot has its opcode. -/
theorem State.opc_of_run {s : State} {pos core k j opc : Nat} (h : s.meet pos core k opc = .run)
    (hj : (s.core (coreKey pos core)).nextSlot (s.bundle pos core (s.core (coreKey pos core)).pc.toNat) = some j) :
    opcOf ((s.bundle pos core (s.core (coreKey pos core)).pc.toNat).slot k) = opc := by
  have hmine := (State.run_facts h).2.2.1
  rw [Core.turn_of_some hj] at hmine
  simp only [Bool.and_eq_true, decide_eq_true_eq] at hmine
  exact hmine.2

/-- What an S slot that issues alone in its bundle leaves of its core: what its effect left, the bundle ended. -/
theorem State.Issued.core_alone {s u t : State} {id : CoreId} {opc : Nat} (ht : s.Issued u t id 0) (h : s.issues id 0 opc)
    (hact : (s.bundle id.pos id.core (s.core id.key).pc.toNat).act = 1) (hissued : (s.core id.key).issued = 0)
    (himem : u.imem = s.imem) (hpc : (u.core id.key).pc = (s.core id.key).pc) (hu : (u.core id.key).issued = 0) :
    t.core id.key = ((u.core id.key).marked 0).ended (decide (opc = 0x33))
      (s.bundle id.pos id.core (s.core id.key).pc.toNat).idle (s.core id.key).nextIssue := by
  have hopc : opcOf (s.bundle id.pos id.core (s.core id.key).pc.toNat).s = opc :=
    State.opc_of_run h.2 (Core.nextSlot_first hact hissued)
  have hb : u.bundle id.pos id.core (u.core id.key).pc.toNat = s.bundle id.pos id.core (s.core id.key).pc.toNat := by
    rw [State.bundle_congr himem, hpc]
  have hlast := State.slotDone_core_last (u := u) (pos := id.pos) (core := id.core) (k := 0) (t := (s.core id.key).nextIssue)
    (Core.nextSlot_marked ((congrArg Bundle.act hb).trans hact) hu)
  rw [ht.done]
  refine hlast.trans ?_
  change ((u.core id.key).marked 0).ended (decide (opcOf (u.bundle id.pos id.core (u.core id.key).pc.toNat).s = 0x33))
    (u.bundle id.pos id.core (u.core id.key).pc.toNat).idle _ = _
  rw [hb, hopc]

/-- The same of an instruction that changes its core by `g` under its predicate. -/
theorem controlSlot {i : Instr} {id : CoreId} {opc : Nat} {s : State} {g : Nat → Nat → Core → Core}
    (h : s.issues id 0 opc)
    (he : exec i s = slotCmd id 0 opc answerCore s (fun w t u => u.ifOn id.key w (fun u => u.modCore id.key (g w t))))
    (hact : (s.bundle id.pos id.core (s.core id.key).pc.toNat).act = 1) (hon : s.slotActive id 0 = true)
    (hissued : (s.core id.key).issued = 0)
    (hpc : (g (s.slotWord id 0) (s.core id.key).nextIssue (s.core id.key)).pc = (s.core id.key).pc)
    (hg : (g (s.slotWord id 0) (s.core id.key).nextIssue (s.core id.key)).issued = (s.core id.key).issued) :
    yields i s (fun t => t.core id.key = ((g (s.slotWord id 0) (s.core id.key).nextIssue (s.core id.key)).marked 0).ended
      (decide (opc = 0x33)) (s.bundle id.pos id.core (s.core id.key).pc.toNat).idle (s.core id.key).nextIssue) :=
  coreSlot_yields h he fun t _ ht => by
    rw [State.ifOn_true _ (by rw [State.atIssue_core]; exact hon)] at ht
    have hcore : ((s.atIssue id).modCore id.key (g (s.slotWord id 0) (s.core id.key).nextIssue)).core id.key
        = g (s.slotWord id 0) (s.core id.key).nextIssue (s.core id.key) := by
      rw [State.core_modCore_same, State.atIssue_core]
    have hlast := ht.core_alone h hact hissued (s.atIssue_imem id) ((congrArg Core.pc hcore).trans hpc)
      ((congrArg Core.issued hcore).trans (hg.trans hissued))
    rwa [hcore] at hlast

/-! ## Taken branches -/

/-- A core whose bundle ends with a branch taken. -/
theorem Core.ended_branch {c : Core} {p : BitVec 11} (hending : c.ending = none) (htarget : c.target = some p) (idle t : Nat) :
    c.ended false idle t = { c with
      issued := 0, target := none, cleared := false, ending := none, loops := levelsAt c.loops p.toNat, pc := p
      overrun := false, nextIssue := t + 2 + idle } := by
  rw [Core.ended, hending]
  simp [Core.done, htarget]

/-- A taken branch of a bundle of the S slot alone: `g` names its target. -/
theorem branchSlot {i : Instr} {id : CoreId} {opc : Nat} {s : State} {g : Nat → Nat → Core → Core} {p : BitVec 11} {P : Core → Prop}
    (h : s.issues id 0 opc)
    (he : exec i s = slotCmd id 0 opc answerCore s (fun w t u => u.ifOn id.key w (fun u => u.modCore id.key (g w t))))
    (hact : (s.bundle id.pos id.core (s.core id.key).pc.toNat).act = 1) (hon : s.slotActive id 0 = true)
    (hending : (s.core id.key).ending = none) (hissued : (s.core id.key).issued = 0) (hopc : opc ≠ 0x33)
    (hg : ∀ w t c, (g w t c).pc = c.pc ∧ (g w t c).issued = c.issued ∧ (g w t c).ending = c.ending ∧ (g w t c).loops = c.loops)
    (hp : (g (s.slotWord id 0) (s.core id.key).nextIssue (s.core id.key)).target = some p)
    (hP : ∀ d : Core, d.state = (g (s.slotWord id 0) (s.core id.key).nextIssue (s.core id.key)).state →
      d.handler = (g (s.slotWord id 0) (s.core id.key).nextIssue (s.core id.key)).handler →
      d.pend = (g (s.slotWord id 0) (s.core id.key).nextIssue (s.core id.key)).pend → P d) :
    yields i s (fun t => (t.core id.key).pc = p ∧ (t.core id.key).loops = levelsAt (s.core id.key).loops p.toNat ∧
      (t.core id.key).nextIssue = (s.core id.key).nextIssue + 2 + (s.bundle id.pos id.core (s.core id.key).pc.toNat).idle ∧
      (t.core id.key).issued = 0 ∧ P (t.core id.key)) := by
  obtain ⟨hpc, hgi, hge, hgl⟩ := hg (s.slotWord id 0) (s.core id.key).nextIssue (s.core id.key)
  refine (controlSlot h he hact hon hissued hpc hgi).mono fun t ht => ?_
  rw [ht, decide_eq_false hopc, Core.ended_branch (c := Core.marked _ 0) (p := p) (hge.trans hending) hp]
  exact ⟨rfl, by dsimp only [Core.marked]; rw [hgl], rfl, rfl, hP _ rfl rfl rfl⟩

theorem ofNat_bitsOf_toNat (v : W64) : BitVec.ofNat 11 ((bitsOf v.toNat 0 11 : Nat) : Int).toNat = v.setWidth 11 := by
  rw [Int.toNat_natCast, bitsOf_eq]
  apply BitVec.eq_of_toNat_eq
  simp

/-! ## Loops -/

/-- The trip count of an s.loop. -/
def Core.tripCount (c : Core) (w : Nat) : Nat := if sRa w = 0 then bitsOf w 33 15 else (c.sreg (sRa w)).val.toNat % 2 ^ 32

/-- What an s.loop does to its core. -/
def Core.looped (c : Core) (w : Nat) : Core :=
  if c.tripCount w = 0 then c.branch (c.pc.toNat + bitsOf w 22 11 + 1 : Nat)
  else { c with loops := c.loops ++ [⟨BitVec.ofNat 11 (c.pc.toNat + 1), BitVec.ofNat 11 (c.pc.toNat + bitsOf w 22 11),
    BitVec.ofNat 32 (c.tripCount w)⟩] }

theorem exec_sLoop_looped (s : State) (id : CoreId) : exec (.sLoop id) s
    = slotCmd id 0 0x33 answerCore s (fun w _ u => u.ifOn id.key w (fun u => u.modCore id.key (fun c => c.looped w))) := by
  have htrip (c : Core) (w : Nat) : (if sRa w = 0 then bitsOf w 33 15 else bitsOf (c.sreg (sRa w)).val.toNat 0 32) = c.tripCount w := by
    simp [Core.tripCount, bitsOf_eq]
  rw [exec_sLoop, execSLoop]
  simp only [htrip]
  rfl

theorem Core.looped_frame (c : Core) (w : Nat) : (c.looped w).pc = c.pc ∧ (c.looped w).issued = c.issued ∧
    (c.looped w).ending = c.ending ∧ (c.looped w).nextIssue = c.nextIssue := by
  unfold Core.looped
  split <;> exact ⟨rfl, rfl, rfl, rfl⟩

/-- A core after a bundle without a branch whose innermost loop ends elsewhere. -/
theorem Core.ended_next {c : Core} {outer : List Loop} {l : Loop} (hending : c.ending = none) (htarget : c.target = none)
    (hloops : c.loops = outer ++ [l]) (hstop : l.stop.toNat ≠ c.pc.toNat) (hpc : c.pc.toNat < 2047) (skip : Bool) (idle t : Nat) :
    (c.ended skip idle t).pc.toNat = c.pc.toNat + 1 ∧ (c.ended skip idle t).loops = c.loops ∧
      (c.ended skip idle t).nextIssue = t + 1 + idle := by
  have hback : backEdge c.loops.reverse c.pc.toNat = (c.loops.reverse, none) := by
    rw [hloops, List.reverse_append]
    exact if_pos hstop
  rw [Core.ended, hending]
  simp only [Core.done, htarget, Core.fallThrough, hback, List.reverse_reverse, Option.getD_none, BitVec.toNat_ofNat]
  refine ⟨?_, trivial, trivial⟩
  omega

/-- A core whose s.loop skips its body. -/
theorem Core.ended_skip {c : Core} {p : BitVec 11} (hending : c.ending = none) (htarget : c.target = some p) (hp : p ≠ 0)
    (idle t : Nat) : (c.ended true idle t).pc = p ∧ (c.ended true idle t).loops = c.loops ∧
      (c.ended true idle t).nextIssue = t + 2 + idle := by
  have hp0 : (p == 0) = false := beq_false_of_ne hp
  rw [Core.ended, hending]
  simp only [Core.done, htarget, hp0, Bool.and_false, Bool.false_eq_true, if_false, if_true, and_self]

theorem sLoop_opens {c : Core} {w : Nat} (hending : c.ending = none) (hpc : c.pc.toNat < 2047) (hn : c.tripCount w ≠ 0)
    (htarget : c.target = none) (hlen : 1 ≤ bitsOf w 22 11) (hstop : c.pc.toNat + bitsOf w 22 11 ≤ 2047) (idle : Nat) :
    let d := ((c.looped w).marked 0).ended true idle c.nextIssue
    d.pc.toNat = c.pc.toNat + 1 ∧ d.loops = c.loops ++ [⟨BitVec.ofNat 11 (c.pc.toNat + 1),
      BitVec.ofNat 11 (c.pc.toNat + bitsOf w 22 11), BitVec.ofNat 32 (c.tripCount w)⟩] ∧ d.nextIssue = c.nextIssue + 1 + idle := by
  have hlooped : c.looped w = { c with loops := c.loops ++ [⟨BitVec.ofNat 11 (c.pc.toNat + 1),
      BitVec.ofNat 11 (c.pc.toNat + bitsOf w 22 11), BitVec.ofNat 32 (c.tripCount w)⟩] } := if_neg hn
  rw [hlooped]
  refine Core.ended_next (c := Core.marked { c with loops := c.loops ++ [_] } 0) hending htarget rfl ?_ hpc true idle c.nextIssue
  simp only [BitVec.toNat_ofNat, Core.marked]
  omega

theorem sLoop_skips {c : Core} {w : Nat} (hending : c.ending = none) (hn : c.tripCount w = 0)
    (hstop : c.pc.toNat + bitsOf w 22 11 < 2047) (idle : Nat) :
    let d := ((c.looped w).marked 0).ended true idle c.nextIssue
    d.pc.toNat = c.pc.toNat + bitsOf w 22 11 + 1 ∧ d.loops = c.loops ∧ d.nextIssue = c.nextIssue + 2 + idle := by
  have hlooped : c.looped w = c.branch (c.pc.toNat + bitsOf w 22 11 + 1 : Nat) := if_pos hn
  have hval : (BitVec.ofNat 11 (c.pc.toNat + bitsOf w 22 11 + 1)).toNat = c.pc.toNat + bitsOf w 22 11 + 1 := by
    rw [BitVec.toNat_ofNat]
    omega
  obtain ⟨hp, hl, hni⟩ := Core.ended_skip (c := (c.branch (c.pc.toNat + bitsOf w 22 11 + 1 : Nat)).marked 0) hending rfl
    (by intro h0; rw [Int.toNat_natCast] at h0; rw [h0] at hval; simp at hval) idle c.nextIssue
  rw [hlooped]
  exact ⟨by rw [hp, Int.toNat_natCast, hval], hl, hni⟩

theorem sEnd_ended {c : Core} (hending : c.ending = none) (idle t : Nat) :
    let d := (({ c with ending := some (c.ending.getD 5) } : Core).marked 0).ended false idle t
    d.state = 5 ∧ d.handler = false ∧ c.keeps d := by
  obtain ⟨hs, hp, hv, hacc, hwb, ht, hpend, hposted, -⟩ :=
    Core.done_data (({ c with ending := some 5 } : Core).marked 0) false idle t
  rw [hending]
  exact ⟨rfl, rfl, hs, hp, hv, hacc, hwb, ht, hposted⟩

/-- Settles O5: the slot's effect names the branch target, opens the loop or ends issue, and the end of the bundle, whose one slot
it is, moves the core there. -/
theorem controlFlow : Obligations.ControlFlow := by
  unfold Obligations.ControlFlow
  refine ⟨fun id s h hact hon hend hiss => ?_, fun id s h hact hon hend hiss => ?_, fun id s h hact hon hend hiss => ?_,
    fun id s h hact hon hend hiss => ?_, fun id s h hact hon hend hiss hpc => ?_, fun id s h hact hon hend hiss => ?_⟩
  · exact branchSlot (P := fun d => d.state = (s.core id.key).state ∧ d.pend = (s.core id.key).pend) h (exec_sBr s id) hact hon
      hend hiss (by decide) (fun _ _ _ => ⟨rfl, rfl, rfl, rfl⟩) rfl fun d hs _ hp => ⟨hs, hp⟩
  · exact branchSlot (P := fun d => d.state = (s.core id.key).state ∧ d.pend = (s.core id.key).pend) h (exec_sJr s id) hact hon
      hend hiss (by decide) (fun _ _ _ => ⟨rfl, rfl, rfl, rfl⟩) (congrArg some (ofNat_bitsOf_toNat _)) fun d hs _ hp => ⟨hs, hp⟩
  · exact branchSlot h (exec_sCall s id) hact hon hend hiss (by decide)
      (fun _ _ c => by unfold Core.branch Core.sendS; split <;> exact ⟨rfl, rfl, rfl, rfl⟩) rfl
      fun d _ _ hp => hp.trans (Core.sendS_pend _ _ _ _ _)
  · exact branchSlot (P := fun d => d.state = 1 ∧ d.handler = false) h (exec_sTret s id) hact hon hend hiss (by decide)
      (fun _ _ _ => ⟨rfl, rfl, rfl, rfl⟩) (congrArg some (ofNat_bitsOf_toNat _)) fun d hs hh _ => ⟨hs, hh⟩
  · obtain ⟨hp, hi, -, -⟩ := (s.core id.key).looped_frame (s.slotWord id 0)
    refine (controlSlot (g := fun w _ c => c.looped w) h (exec_sLoop_looped s id) hact hon hiss hp hi).mono fun t ht => ?_
    rw [ht]
    exact ⟨fun hn htarget hlen hstop => sLoop_opens hend hpc hn htarget hlen hstop _, fun hn hstop => sLoop_skips hend hn hstop _⟩
  · refine (controlSlot h (exec_sEnd s id) hact hon hiss rfl rfl).mono fun t ht => ?_
    rw [ht]
    exact sEnd_ended hend _ _

end Sys2Proof.Machine
end

section
/-! PROOFS. What a trap and a stall leave (O7, O18). -/

namespace Sys2Proof.Machine

/-! ## Records on their way -/

theorem State.fld_of_rd {s t : State} {f : Field} (h : t.rd f.reg = s.rd f.reg) : t.fld f = s.fld f := by
  rw [State.fld, State.fld, h]

theorem State.flag_of_rd {s t : State} {f : Field} (h : t.rd f.reg = s.rd f.reg) : t.flag f = s.flag f := by
  rw [State.flag, State.flag, State.fld_of_rd h]

/-- The records on their way in `t` are those of `s` and perhaps more. -/
def State.AddsRecords (s t : State) : Prop := ∃ k, t.faults.flying = s.faults.flying ++ k

theorem State.AddsRecords.refl (s : State) : s.AddsRecords s := ⟨[], by simp⟩

theorem State.AddsRecords.trans {s t u : State} (h : s.AddsRecords t) (k : t.AddsRecords u) : s.AddsRecords u := by
  obtain ⟨x, hx⟩ := h
  obtain ⟨y, hy⟩ := k
  exact ⟨x ++ y, by rw [hy, hx, List.append_assoc]⟩

theorem State.addsRecords_of_same {s t : State} (h : t.faults = s.faults) : s.AddsRecords t := ⟨[], by rw [h]; simp⟩

theorem State.addsRecords_send (s : State) (r : FaultRec) : s.AddsRecords (s.send r) := by
  by_cases h : s.sourceAbsent r.source = true
  · exact ⟨[], by simp [State.send, h]⟩
  · exact ⟨[r], by simp [State.send, h]⟩

theorem State.addsRecords_raise (s : State) (a b c : Nat) : s.AddsRecords (s.raise a b c) := s.addsRecords_send _

theorem State.AddsRecords.ite {s t u : State} {p : Prop} [Decidable p] (ht : s.AddsRecords t) (hu : s.AddsRecords u) :
    s.AddsRecords (if p then t else u) := by
  split
  · exact ht
  · exact hu

theorem State.addsRecords_wr (s : State) (r : Reg) (v : Nat) : s.AddsRecords (s.wr r v) := .refl s

theorem State.addsRecords_count (s : State) (c : Counter) (n : Nat) : s.AddsRecords (s.count c n) := by
  unfold State.count
  dsimp only
  have hfirst := State.AddsRecords.ite
    (p := bitsOf (s.rd c.reg) 0 32 < bitsOf (s.rd c.reg) 32 32 ∧ bitsOf (s.rd c.reg) 32 32 ≤ min (bitsOf (s.rd c.reg) 0 32 + n) 0xFFFFFFFF ∧
      bitsOf (s.rd c.reg) 32 32 ≠ 0xFFFFFFFF)
    (State.addsRecords_raise (s.wr c.reg (setBitsOf (s.rd c.reg) 0 32 (min (bitsOf (s.rd c.reg) 0 32 + n) 0xFFFFFFFF))) c.source 7
      (counterDetail c.off (min (bitsOf (s.rd c.reg) 0 32 + n) 0xFFFFFFFF))) (.refl _)
  exact hfirst.trans (.ite (State.addsRecords_raise _ _ _ _) (.refl _))

theorem State.addsRecords_perf (s : State) (pos core i n : Nat) : s.AddsRecords (s.perf pos core i n) :=
  State.AddsRecords.ite (.refl s) (State.addsRecords_raise _ _ _ _)

theorem State.addsRecords_fetchCount (s : State) (pos core pc : Nat) : s.AddsRecords (s.fetchCount pos core pc) :=
  State.AddsRecords.ite (.refl s) (State.addsRecords_count _ _ _)

/-! ## The cycles of a stall -/

section
variable (s : State) (pos core n : Nat)

/-- Counting a stall's cycles changes a performance counter with its overflow flag, and what its core last counted from. -/
theorem State.stallCounted_frame : s.stallCounted pos core n = { s with
    cores := (s.stallCounted pos core n).cores, csr := (s.stallCounted pos core n).csr
    faults := (s.stallCounted pos core n).faults } := by
  unfold State.stallCounted
  dsimp only
  split
  · rfl
  · have h : s.Near _ := s.near_refl.perf pos core (s.core (coreKey pos core)).stallPerf (n - (s.core (coreKey pos core)).perfFrom)
    unfold State.Near at h
    unfold State.modCore State.setCore
    rw [h]

theorem State.stallCounted_core (id : CoreId) : (s.stallCounted id.pos id.core n).core id.key =
    { s.core id.key with
      perfFrom := (if (s.core id.key).stall = .none then (s.core id.key).perfFrom else max n (s.core id.key).perfFrom) } := by
  unfold State.stallCounted CoreId.key
  dsimp only
  split
  next h => simp
  next h => rw [State.core_modCore_same, State.core_congr (State.perf_cores ..)]

theorem State.stallCounted_core_ne {j : Nat} (h : j ≠ coreKey pos core) : (s.stallCounted pos core n).core j = s.core j := by
  unfold State.stallCounted
  dsimp only
  split
  · rfl
  · rw [State.core_modCore_ne _ _ h, State.core_congr (State.perf_cores ..)]

theorem State.rd_stallCounted_ne {r : Reg} (hperf1 : r.addr ≠ (TILE_CORE_PERFn pos core 1).addr)
    (hperf2 : r.addr ≠ (TILE_CORE_PERFn pos core 2).addr) (hstatus : r.addr ≠ (TILE_CORE_STATUS pos core).addr) :
    (s.stallCounted pos core n).rd r = s.rd r := by
  have hperf : r.addr ≠ (TILE_CORE_PERFn pos core (s.core (coreKey pos core)).stallPerf).addr := by
    unfold Core.stallPerf
    split
    · exact hperf1
    · exact hperf2
  unfold State.stallCounted
  dsimp only
  split
  · rfl
  · rw [State.rd_modCore, State.rd_perf_ne _ _ _ _ _ hperf hstatus]

theorem State.addsRecords_stallCounted : s.AddsRecords (s.stallCounted pos core n) :=
  State.AddsRecords.ite (.refl s) (State.addsRecords_perf _ _ _ _ _)
end


/-! ## A trap taken -/

/-- What a trap writes before its record is sent. -/
def State.trapWrites (s : State) (pos core pc t : Nat) (p : Trap) : State :=
  (((s.stallCounted pos core t).wr (TILE_CORE_TCAUSE pos core) p.cause).wr (TILE_CORE_TPC pos core) pc).wr
    (TILE_CORE_TINFO pos core) p.info

/-- Whether a trap's handler issues. -/
def State.handles (s : State) (pos core : Nat) : Bool :=
  s.flag (TILE_CORE_TRAPVEC_VALID pos core) && !(s.core (coreKey pos core)).handler && !(s.core (coreKey pos core)).stopped

/-- What a trap leaves but for its core: its registers written, its record sent, and in the test kernel its failure counted. -/
def State.trapSent (s : State) (pos core pc t : Nat) (p : Trap) : State :=
  let v := s.trapWrites pos core pc t p
  let v := v.send (v.trapRecord pos core pc p (!(s.stallCounted pos core t).handles pos core))
  if v.inKernel pos pc then v.count (tileCounter pos (TILE_FLT_KFAIL_CNT pos)) 1 else v

/-- A core that has trapped: its handler issues at `vec`, or it has stopped. -/
def Core.trapTaken (c : Core) (handle : Bool) (vec : BitVec 11) (next : Nat) : Core :=
  { c with
    loops := [], issued := 0, target := none, overrun := false, cleared := false, ending := none, stall := .none
    state := if handle then 4 else 6
    handler := handle
    pc := if handle then vec else c.pc
    nextIssue := next }

section
variable {s u : State} {id : CoreId} {pc idle t : Nat} {p : Trap}

theorem coreReg_lt {id : CoreId} (hw : id.wf = true) : id.core < 8 := by
  simp only [CoreId.wf, Bool.and_eq_true, decide_eq_true_eq] at hw
  exact hw.2

/-- A register that a trap leaves as it was: none of its own three, of the counters and flags of a stall, nor the count of failures
in the kernel. -/
def trapKeeps (id : CoreId) (r : Reg) : Prop :=
  r.addr ≠ (TILE_CORE_PERFn id.pos id.core 1).addr ∧ r.addr ≠ (TILE_CORE_PERFn id.pos id.core 2).addr ∧
  r.addr ≠ (TILE_CORE_STATUS id.pos id.core).addr ∧ r.addr ≠ (TILE_CORE_TCAUSE id.pos id.core).addr ∧
  r.addr ≠ (TILE_CORE_TPC id.pos id.core).addr ∧ r.addr ≠ (TILE_CORE_TINFO id.pos id.core).addr ∧
  r.addr ≠ (TILE_FLT_KFAIL_CNT id.pos).addr

theorem State.rd_trapWrites (u : State) (t : Nat) (p : Trap) {r : Reg} (h : trapKeeps id r) :
    (u.trapWrites id.pos id.core pc t p).rd r = u.rd r := by
  obtain ⟨h1, h2, hst, hca, hpc, hin, -⟩ := h
  rw [State.trapWrites, State.rd_wr_ne _ _ hin, State.rd_wr_ne _ _ hpc, State.rd_wr_ne _ _ hca, State.rd_stallCounted_ne _ _ _ _ h1 h2 hst]

/-- The registers that a trap's course and record depend on. -/
theorem trapKeeps_of_read (hw : id.wf = true) : trapKeeps id (TILE_CORE_TRAPVEC id.pos id.core) ∧
    trapKeeps id (TILE_CORE_JOB id.pos id.core) ∧ trapKeeps id (TILE_FLT_KAT id.pos) := by
  have hc := coreReg_lt hw
  simp only [trapKeeps, TILE_CORE_PERFn, TILE_CORE_STATUS, TILE_CORE_TCAUSE, TILE_CORE_TPC, TILE_CORE_TINFO, TILE_FLT_KFAIL_CNT,
    TILE_CORE_TRAPVEC, TILE_CORE_JOB, TILE_FLT_KAT, coreBase_eq]
  omega

theorem State.takeTrap_eq (u : State) (id : CoreId) (pc idle t : Nat) (p : Trap) : u.takeTrap id.pos id.core pc idle t p =
    (u.trapSent id.pos id.core pc t p).setCore id.key (((u.stallCounted id.pos id.core t).core id.key).trapTaken
      ((u.stallCounted id.pos id.core t).handles id.pos id.core)
      (BitVec.ofNat 11 ((u.trapSent id.pos id.core pc t p).fld (TILE_CORE_TRAPVEC_INDEX id.pos id.core))) (t + 2 + idle)) := rfl

theorem State.handles_stallCounted (hw : id.wf = true) (u : State) (t : Nat) :
    (u.stallCounted id.pos id.core t).handles id.pos id.core = u.handles id.pos id.core := by
  obtain ⟨⟨h1, h2, hst, -⟩, -⟩ := trapKeeps_of_read hw
  have hcore := u.stallCounted_core t id
  unfold State.handles
  unfold CoreId.key at hcore
  rw [State.flag_of_rd (State.rd_stallCounted_ne _ _ _ _ h1 h2 hst), hcore]
  rfl

theorem State.near_trapSent (u : State) (pos core pc t : Nat) (p : Trap) :
    (u.stallCounted pos core t).Near (u.trapSent pos core pc t p) := by
  have h : (u.stallCounted pos core t).Near (u.trapWrites pos core pc t p) :=
    (((u.stallCounted pos core t).near_refl.wr _ _).wr _ _).wr _ _
  exact .ite _ ((h.send _).count _ _) (h.send _)

theorem State.rd_trapSent_ne (u : State) (pos core pc t : Nat) (p : Trap) {r : Reg} (h : r.addr ≠ (TILE_FLT_KFAIL_CNT pos).addr) :
    (u.trapSent pos core pc t p).rd r = (u.trapWrites pos core pc t p).rd r := by
  unfold State.trapSent
  dsimp only
  split
  · exact State.rd_count_ne _ (tileCounter pos (TILE_FLT_KFAIL_CNT pos)) 1 h
  · rfl

theorem State.rd_trapSent (u : State) (t : Nat) (p : Trap) {r : Reg} (h : trapKeeps id r) :
    (u.trapSent id.pos id.core pc t p).rd r = u.rd r := by
  have hk := h
  obtain ⟨-, -, -, -, -, -, hfail⟩ := hk
  rw [State.rd_trapSent_ne _ _ _ _ _ _ hfail, State.rd_trapWrites _ _ _ h]

/-- The registers a trap writes, after it. -/
theorem State.rd_trapSent_written (hw : id.wf = true) (u : State) (pc t : Nat) (p : Trap) :
    (u.trapSent id.pos id.core pc t p).rd (TILE_CORE_TCAUSE id.pos id.core) = p.cause % 2 ^ 64 ∧
    (u.trapSent id.pos id.core pc t p).rd (TILE_CORE_TPC id.pos id.core) = pc % 2 ^ 64 ∧
    (u.trapSent id.pos id.core pc t p).rd (TILE_CORE_TINFO id.pos id.core) = p.info % 2 ^ 64 := by
  have hc := coreReg_lt hw
  refine ⟨?_, ?_, ?_⟩
  · rw [State.rd_trapSent_ne _ _ _ _ _ _ (by simp only [TILE_CORE_TCAUSE, TILE_FLT_KFAIL_CNT, coreBase_eq]; omega), State.trapWrites,
      State.rd_wr_ne _ _ (by simp only [TILE_CORE_TCAUSE, TILE_CORE_TINFO]; omega),
      State.rd_wr_ne _ _ (by simp only [TILE_CORE_TCAUSE, TILE_CORE_TPC]; omega), State.rd_wr_same]
  · rw [State.rd_trapSent_ne _ _ _ _ _ _ (by simp only [TILE_CORE_TPC, TILE_FLT_KFAIL_CNT, coreBase_eq]; omega), State.trapWrites,
      State.rd_wr_ne _ _ (by simp only [TILE_CORE_TPC, TILE_CORE_TINFO]; omega), State.rd_wr_same]
  · rw [State.rd_trapSent_ne _ _ _ _ _ _ (by simp only [TILE_CORE_TINFO, TILE_FLT_KFAIL_CNT, coreBase_eq]; omega), State.trapWrites,
      State.rd_wr_same]

/-- The record of a trap is among those on their way, where its position is not fused off. -/
theorem State.trapSent_records (u : State) (pos core pc t : Nat) (p : Trap)
    (h : (u.trapWrites pos core pc t p).sourceAbsent ((u.trapWrites pos core pc t p).trapRecord pos core pc p
      (!(u.stallCounted pos core t).handles pos core)).source = false) :
    ∃ k l, (u.trapSent pos core pc t p).faults.flying = u.faults.flying ++ k ++
      (u.trapWrites pos core pc t p).trapRecord pos core pc p (!(u.stallCounted pos core t).handles pos core) :: l := by
  obtain ⟨k, hk⟩ := u.addsRecords_stallCounted pos core t
  have hsend : ((u.trapWrites pos core pc t p).send ((u.trapWrites pos core pc t p).trapRecord pos core pc p
      (!(u.stallCounted pos core t).handles pos core))).faults.flying = u.faults.flying ++ k ++
      [(u.trapWrites pos core pc t p).trapRecord pos core pc p (!(u.stallCounted pos core t).handles pos core)] := by
    rw [← hk]
    simp only [State.send, h]
    rfl
  obtain ⟨l, hl⟩ : State.AddsRecords ((u.trapWrites pos core pc t p).send ((u.trapWrites pos core pc t p).trapRecord pos core pc p
      (!(u.stallCounted pos core t).handles pos core))) (u.trapSent pos core pc t p) :=
    .ite (State.addsRecords_count _ _ _) (.refl _)
  exact ⟨k, l, by rw [hl, hsend, List.append_assoc]; rfl⟩
end

section
variable {s u t : State} {id : CoreId} {pc idle : Nat} {p : Trap}

theorem State.fusedOff_congr {s t : State} (h : t.fuses = s.fuses) (pos : Nat) : t.fusedOff pos = s.fusedOff pos := by
  rw [State.fusedOff, State.fusedOff, h]

/-- A tile's fault sources stand or fall with its position. -/
theorem State.sourceAbsent_srcPos (s : State) {pos x : Nat} (hpos : pos < 576) (hx : x < 20) :
    s.sourceAbsent (srcPos pos x) = s.fusedOff pos := by
  have hlt : srcPos pos x < 0x2D00 := by unfold srcPos; omega
  have hdiv : srcPos pos x / 20 = pos := by unfold srcPos; omega
  rw [State.sourceAbsent, if_pos hlt, hdiv]

theorem State.inKernel_of_rd {s t : State} {pos : Nat} (h : t.rd (TILE_FLT_KAT pos) = s.rd (TILE_FLT_KAT pos)) (pc : Nat) :
    t.inKernel pos pc = s.inKernel pos pc := by
  have hbase : t.fld (TILE_FLT_KAT_KBASE pos) = s.fld (TILE_FLT_KAT_KBASE pos) := State.fld_of_rd h
  have hvalid : t.flag (TILE_FLT_KAT_VALID pos) = s.flag (TILE_FLT_KAT_VALID pos) := State.flag_of_rd h
  rw [State.inKernel, State.inKernel, hbase, hvalid]

/-- What a trap's record says, of a state `v` that agrees with `s` on the registers it depends on. -/
theorem State.trapRecord_says {v : State} {halted : Bool}
    (hjob : v.rd (TILE_CORE_JOB id.pos id.core) = s.rd (TILE_CORE_JOB id.pos id.core))
    (hkat : v.rd (TILE_FLT_KAT id.pos) = s.rd (TILE_FLT_KAT id.pos)) :
    (v.trapRecord id.pos id.core pc p halted).detail = p.info ∧ (v.trapRecord id.pos id.core pc p halted).tpc = pc ∧
    (v.trapRecord id.pos id.core pc p halted).core = some id.core ∧
    (v.trapRecord id.pos id.core pc p halted).slot
      = (if s.flag (TILE_CORE_JOB_SLOT_VALID id.pos id.core) then some (s.fld (TILE_CORE_JOB_SLOT id.pos id.core)) else none) ∧
    (v.trapRecord id.pos id.core pc p halted).halted = halted ∧
    (s.inKernel id.pos pc = false → (v.trapRecord id.pos id.core pc p halted).source = srcPos id.pos id.core ∧
      (v.trapRecord id.pos id.core pc p halted).cause = p.cause) := by
  have hvalid : v.flag (TILE_CORE_JOB_SLOT_VALID id.pos id.core) = s.flag (TILE_CORE_JOB_SLOT_VALID id.pos id.core) :=
    State.flag_of_rd hjob
  have hslot : v.fld (TILE_CORE_JOB_SLOT id.pos id.core) = s.fld (TILE_CORE_JOB_SLOT id.pos id.core) := State.fld_of_rd hjob
  refine ⟨rfl, rfl, rfl, ?_, rfl, fun hk => ?_⟩
  · unfold State.trapRecord
    dsimp only
    rw [hvalid, hslot]
  · unfold State.trapRecord State.record
    dsimp only
    rw [State.inKernel_of_rd hkat, hk]
    exact ⟨rfl, rfl⟩

theorem State.trapRecord_source (v : State) (pos core pc : Nat) (p : Trap) (halted : Bool) :
    (v.trapRecord pos core pc p halted).source = srcPos pos (if v.inKernel pos pc then 8 + core else core) := rfl

/-- A trap leaves its core trapped, where it is taken in a state `u` that differs from `s` in no register but the count of
corrected errors, and not in the registers and the course of the core. -/
theorem State.trapped_takeTrap (hw : id.wf = true) (hpc : pc < 2 ^ 64) (hkeeps : (s.core id.key).keeps (u.core id.key))
    (hhandler : (u.core id.key).handler = (s.core id.key).handler) (hat : (u.core id.key).pc = (s.core id.key).pc)
    (hstopped : (u.core id.key).stopped = false) (hfuses : u.fuses = s.fuses)
    (hrd : ∀ r : Reg, r.addr ≠ (TILE_SPAD_CE_CNT id.pos).addr → u.rd r = s.rd r) (hrec : s.AddsRecords u)
    (hcores : t.cores = (u.takeTrap id.pos id.core pc idle (s.core id.key).nextIssue p).cores)
    (hcsr : t.csr = (u.takeTrap id.pos id.core pc idle (s.core id.key).nextIssue p).csr)
    (hfaults : t.faults = (u.takeTrap id.pos id.core pc idle (s.core id.key).nextIssue p).faults) :
    s.trapped t id pc idle p := by
  have hc := coreReg_lt hw
  obtain ⟨kvec, kjob, kkat⟩ := trapKeeps_of_read hw
  have hvec : u.rd (TILE_CORE_TRAPVEC id.pos id.core) = s.rd (TILE_CORE_TRAPVEC id.pos id.core) :=
    hrd _ (coreReg_ne_ceCount hw (by decide))
  have hjob : (u.trapWrites id.pos id.core pc (s.core id.key).nextIssue p).rd (TILE_CORE_JOB id.pos id.core)
      = s.rd (TILE_CORE_JOB id.pos id.core) :=
    (State.rd_trapWrites _ _ _ kjob).trans (hrd _ (coreReg_ne_ceCount hw (by decide)))
  have hkat : (u.trapWrites id.pos id.core pc (s.core id.key).nextIssue p).rd (TILE_FLT_KAT id.pos) = s.rd (TILE_FLT_KAT id.pos) :=
    (State.rd_trapWrites _ _ _ kkat).trans (hrd _ (by simp only [TILE_FLT_KAT, TILE_SPAD_CE_CNT]; omega))
  have hhandles : (u.stallCounted id.pos id.core (s.core id.key).nextIssue).handles id.pos id.core
      = (s.flag (TILE_CORE_TRAPVEC_VALID id.pos id.core) && !(s.core id.key).handler) := by
    rw [State.handles_stallCounted hw]
    unfold State.handles
    unfold CoreId.key at hhandler hstopped
    rw [hhandler, hstopped, State.flag_of_rd hvec]
    simp [CoreId.key]
  have hvecField : (u.trapSent id.pos id.core pc (s.core id.key).nextIssue p).fld (TILE_CORE_TRAPVEC_INDEX id.pos id.core)
      = s.fld (TILE_CORE_TRAPVEC_INDEX id.pos id.core) := State.fld_of_rd ((State.rd_trapSent _ _ _ kvec).trans hvec)
  have hcore := (State.core_congr hcores id.key).trans (congrArg (State.core · id.key) (u.takeTrap_eq id pc idle _ p))
  rw [State.core_setCore_same, State.stallCounted_core, hhandles, hvecField] at hcore
  obtain ⟨hcause, htpc, hinfo⟩ := State.rd_trapSent_written hw u pc (s.core id.key).nextIssue p
  have hrdt (r : Reg) : t.rd r = (u.trapSent id.pos id.core pc (s.core id.key).nextIssue p).rd r := State.rd_congr hcsr r
  refine ⟨(hrdt _).trans hcause, (hrdt _).trans (htpc.trans (Nat.mod_eq_of_lt hpc)), (hrdt _).trans hinfo, by rw [hcore]; rfl,
    by rw [hcore]; rfl, by rw [hcore]; exact hkeeps, by rw [hcore]; rfl, ?_, fun hfused => ?_⟩
  · rw [hcore]
    by_cases hh : s.flag (TILE_CORE_TRAPVEC_VALID id.pos id.core) = true ∧ (s.core id.key).handler = false
    · have hb : (s.flag (TILE_CORE_TRAPVEC_VALID id.pos id.core) && !(s.core id.key).handler) = true := by simp [hh.1, hh.2]
      rw [if_pos hh, hb]
      exact ⟨rfl, rfl, rfl⟩
    · have hb : (s.flag (TILE_CORE_TRAPVEC_VALID id.pos id.core) && !(s.core id.key).handler) = false := by
        simpa using hh
      rw [if_neg hh, hb]
      exact ⟨rfl, rfl, hat⟩
  · have hpos : id.pos < 576 := by
      simp only [CoreId.wf, Bool.and_eq_true, decide_eq_true_eq] at hw
      exact hw.1
    have hfuses' : (u.trapWrites id.pos id.core pc (s.core id.key).nextIssue p).fuses = s.fuses := by
      rw [State.trapWrites, State.wr_fuses, State.wr_fuses, State.wr_fuses, State.stallCounted_frame]
      exact hfuses
    obtain ⟨k, l, hflying⟩ := u.trapSent_records id.pos id.core pc (s.core id.key).nextIssue p (by
      rw [State.trapRecord_source, State.sourceAbsent_srcPos _ hpos (by split <;> omega), State.fusedOff_congr hfuses', hfused])
    obtain ⟨k', hk'⟩ := hrec
    obtain ⟨hd, hp, hco, hsl, hha, hsource⟩ := State.trapRecord_says (s := s) (pc := pc) (p := p)
      (halted := !(u.stallCounted id.pos id.core (s.core id.key).nextIssue).handles id.pos id.core) hjob hkat
    refine ⟨k' ++ k, _, l, ?_, hd, hp, hco, hsl, ?_, hsource⟩
    · rw [hfaults, ← List.append_assoc, ← hk']
      exact hflying
    · rw [hha, hhandles]
end

/-! ## A bundle that traps -/

theorem State.live_of_met {s : State} {pos core k opc : Nat} (h : s.meet pos core k opc ≠ .nothing) :
    s.live pos (s.core (coreKey pos core)) = true := by
  by_contra hl
  exact h (State.meet_of_not_live (by simpa using hl))

theorem Core.not_stopped_of_live {s : State} {pos : Nat} {c : Core} (h : s.live pos c = true) : c.stopped = false := by
  simp only [State.live, Bool.and_eq_true, Bool.or_eq_true, decide_eq_true_eq] at h
  obtain ⟨⟨hstate, -⟩, -⟩ := h
  unfold Core.stopped
  rcases hstate with e | e <;> rw [e] <;> rfl

section
variable (s : State) (key : Nat) (d : List (Dst × Nat))

theorem State.dropWrites_cons (x : Dst × Nat) : s.dropWrites key (x :: d) = (s.dropWrites key [x]).dropWrites key d := rfl

theorem State.dropWrites_one_cores (x : Dst × Nat) : (s.dropWrites key [x]).cores = (s.modCore key (fun c =>
    { c with pend := c.pend.filter (fun q => !(decide (q.dst = x.1) && decide (q.due = x.2))) })).cores := rfl

theorem State.dropWrites_frame : s.dropWrites key d
    = { s with cores := (s.dropWrites key d).cores, access := (s.dropWrites key d).access } := by
  induction d generalizing s with
  | nil => rfl
  | cons x l ih =>
    rw [State.dropWrites_cons, ih]
    rfl

theorem State.dropWrites_core_ne {j : Nat} (h : j ≠ key) : (s.dropWrites key d).core j = s.core j := by
  induction d generalizing s with
  | nil => rfl
  | cons x l ih => rw [State.dropWrites_cons, ih, State.core_congr (s.dropWrites_one_cores key x), State.core_modCore_ne _ _ h]

/-- The writes dropped are out of the core's results on their way; nothing else of the core changes. -/
theorem State.dropWrites_core : (s.dropWrites key d).core key
    = { s.core key with pend := (s.core key).pend.filter (fun q => !(d.contains (q.dst, q.due))) } := by
  induction d generalizing s with
  | nil => simp [State.dropWrites]
  | cons x l ih =>
    rw [State.dropWrites_cons, ih, State.core_congr (s.dropWrites_one_cores key x), State.core_modCore_same]
    dsimp only
    rw [List.filter_filter]
    congr 2
    funext q
    rw [List.contains_cons, Bool.not_or, Bool.and_comm]
    congr 2
end

/-- Every slot command is a slot's command. -/
theorem slotCmd_of {i : Instr} {id : CoreId} {k opc : Nat} (hi : slotOf i = some (id, k, opc)) :
    ∃ ans f, ∀ s, exec i s = slotCmd id k opc ans s f := by
  by_cases hk : k = 3
  · subst hk
    obtain ⟨f, hf⟩ := transferSlot_of hi
    exact ⟨answerT, _, hf.runs⟩
  · obtain ⟨f, hf⟩ := coreSlot_of hi hk
    exact ⟨answerCore, f, hf.runs⟩

/-- What a slot command that meets its bundle's trap does. -/
theorem slotCmd_trap {id : CoreId} {k opc : Nat} {s : State} {p : Trap} {d : List (Dst × Nat)}
    (ans : Nat → Nat → State → (State → State) → Out) (f : Nat → Nat → State → State) (hw : id.wf = true)
    (h : s.meet id.pos id.core k opc = .trap p d) :
    slotCmd id k opc ans s f = answerT (groveOf id.pos) (s.core id.key).nextIssue s (fun u =>
      ((u.fetchCount id.pos id.core (s.core id.key).pc.toNat).dropWrites id.key d).takeTrap id.pos id.core
        (s.core id.key).pc.toNat (s.bundle id.pos id.core (s.core id.key).pc.toNat).idle (s.core id.key).nextIssue p) := by
  unfold slotCmd
  simp only [hw, h]
  rfl

theorem slotCmd_stall {id : CoreId} {k opc : Nat} {s : State} {why : Stall} {st : BitVec 3}
    (ans : Nat → Nat → State → (State → State) → Out) (f : Nat → Nat → State → State) (hw : id.wf = true)
    (h : s.meet id.pos id.core k opc = .stall why st) :
    slotCmd id k opc ans s f = answerCore (groveOf id.pos) (s.core id.key).nextIssue s (fun u =>
      u.modCore id.key (fun c => c.stallAt why st (s.core id.key).nextIssue)) := by
  unfold slotCmd
  simp only [hw, h]
  rfl

theorem State.takeTrap_frame (u : State) (id : CoreId) (pc idle t : Nat) (p : Trap) : u.takeTrap id.pos id.core pc idle t p =
    { u with cores := (u.takeTrap id.pos id.core pc idle t p).cores, csr := (u.takeTrap id.pos id.core pc idle t p).csr
             faults := (u.takeTrap id.pos id.core pc idle t p).faults } := by
  rw [State.takeTrap_eq]
  have h := u.near_trapSent id.pos id.core pc t p
  unfold State.Near at h
  rw [h, State.stallCounted_frame]
  rfl

theorem State.takeTrap_core_ne (u : State) (id : CoreId) (pc idle t : Nat) (p : Trap) {j : Nat} (h : j ≠ id.key) :
    (u.takeTrap id.pos id.core pc idle t p).core j = u.core j := by
  rw [State.takeTrap_eq, State.core_setCore_ne _ _ h, State.core_congr (u.near_trapSent id.pos id.core pc t p).cores,
    State.stallCounted_core_ne _ _ _ _ h]

theorem State.takeTrap_pend (u : State) (id : CoreId) (pc idle t : Nat) (p : Trap) :
    ((u.takeTrap id.pos id.core pc idle t p).core id.key).pend = (u.core id.key).pend := by
  rw [State.takeTrap_eq, State.core_setCore_same, State.stallCounted_core]
  rfl

/-- The state a trap is taken in: its bundle's words counted, the writes that it clashes with dropped. -/
def State.clashed (s : State) (id : CoreId) (d : List (Dst × Nat)) : State :=
  ((s.atCycle (groveOf id.pos) (s.core id.key).nextIssue).fetchCount id.pos id.core (s.core id.key).pc.toNat).dropWrites id.key d

section
variable (s : State) (id : CoreId) (d : List (Dst × Nat))

theorem State.near_fetchCount (pos core pc : Nat) : s.Near (s.fetchCount pos core pc) := by
  unfold State.fetchCount
  exact .ite _ s.near_refl (s.near_refl.count _ _)

theorem State.clashed_core : (s.clashed id d).core id.key
    = { s.core id.key with pend := (s.core id.key).pend.filter (fun q => !(d.contains (q.dst, q.due))) } := by
  rw [State.clashed, State.dropWrites_core, State.core_congr (State.near_fetchCount _ _ _ _).cores]
  rfl

theorem State.clashed_core_ne {j : Nat} (h : j ≠ id.key) : (s.clashed id d).core j = s.core j := by
  rw [State.clashed, State.dropWrites_core_ne _ _ _ h, State.core_congr (State.near_fetchCount _ _ _ _).cores]
  rfl

theorem State.clashed_frame : s.clashed id d = { s.atCycle (groveOf id.pos) (s.core id.key).nextIssue with
    cores := (s.clashed id d).cores, access := (s.clashed id d).access, csr := (s.clashed id d).csr
    faults := (s.clashed id d).faults } := by
  have h := (s.atCycle (groveOf id.pos) (s.core id.key).nextIssue).near_fetchCount id.pos id.core (s.core id.key).pc.toNat
  unfold State.Near at h
  unfold State.clashed
  rw [State.dropWrites_frame, h]

theorem State.clashed_parts : (s.clashed id d).fuses = s.fuses ∧ (s.clashed id d).msgs = s.msgs ∧ (s.clashed id d).net = s.net ∧
    (s.clashed id d).ops = s.ops ∧ (s.clashed id d).tiles = s.tiles := by
  rw [s.clashed_frame]
  exact ⟨rfl, rfl, rfl, rfl, rfl⟩

theorem State.rd_clashed {r : Reg} (h : r.addr ≠ (TILE_SPAD_CE_CNT id.pos).addr) : (s.clashed id d).rd r = s.rd r := by
  rw [State.clashed, State.dropWrites_frame]
  exact State.rd_fetchCount _ _ _ _ h

theorem State.addsRecords_clashed : s.AddsRecords (s.clashed id d) := by
  rw [State.clashed, State.dropWrites_frame]
  exact State.addsRecords_fetchCount _ _ _ _
end

/-- O7: a bundle that traps, whichever of its slot commands comes. -/
theorem slot_trapped {i : Instr} {id : CoreId} {k opc : Nat} {s : State} {p : Trap} {d : List (Dst × Nat)}
    (hi : slotOf i = some (id, k, opc)) (hw : id.wf = true) (h : s.meet id.pos id.core k opc = .trap p d) : yields i s (fun t =>
      s.trapped t id (s.core id.key).pc.toNat (s.bundle id.pos id.core (s.core id.key).pc.toNat).idle p ∧
      s.onlyTransfer t ∧ t.msgs = s.msgs ∧ t.net = s.net ∧ t.ops = s.ops ∧ t.tiles = s.tiles ∧
      (d = [] → t.access = s.access) ∧
      (t.core id.key).pend = (s.core id.key).pend.filter (fun q => !(d.contains (q.dst, q.due))) ∧
      (∀ j, j ≠ id.key → t.core j = s.core j)) := by
  obtain ⟨ans, f, he⟩ := slotCmd_of hi
  have hstopped := Core.not_stopped_of_live (State.live_of_met (s := s) (pos := id.pos) (core := id.core) (k := k) (opc := opc)
    (by rw [h]; exact Met.noConfusion))
  have hclashed := s.clashed_core id d
  obtain ⟨hfuses, hmsgs, hnet, hops, htiles⟩ := s.clashed_parts id d
  have hframe := (s.clashed id d).takeTrap_frame id (s.core id.key).pc.toNat
    (s.bundle id.pos id.core (s.core id.key).pc.toNat).idle (s.core id.key).nextIssue p
  refine ⟨_, (he s).trans (slotCmd_trap ans f hw h), ?_, rfl, ?_, ?_, ?_, ?_, ?_, ?_, ?_⟩
  · refine State.trapped_takeTrap (u := s.clashed id d) hw (by have := (s.core id.key).pc.isLt; omega) ?_ ?_ ?_ ?_ ?_
      (fun r hr => s.rd_clashed id d hr) (s.addsRecords_clashed id d) rfl rfl rfl
    · rw [hclashed]; exact ⟨rfl, rfl, rfl, rfl, rfl, rfl, rfl⟩
    · rw [hclashed]
    · rw [hclashed]
    · rw [hclashed]; exact hstopped
    · exact hfuses
  · exact (congrArg State.msgs hframe).trans hmsgs
  · exact (congrArg State.net hframe).trans hnet
  · exact (congrArg State.ops hframe).trans hops
  · exact (congrArg State.tiles hframe).trans htiles
  · rintro rfl
    exact (congrArg State.access hframe).trans (State.near_fetchCount _ _ _ _).access
  · exact (State.takeTrap_pend _ _ _ _ _ _).trans (congrArg Core.pend hclashed)
  · intro j hj
    exact (State.takeTrap_core_ne _ _ _ _ _ _ hj).trans (s.clashed_core_ne id d hj)

/-! ## s.trap -/

theorem Core.sTrap_of_trap {c : Core} {w : Nat} (hopc : opcOf w = 0x35) (hres : hasReserved w [(22, 27)] = false)
    (hon : c.slotOn w = true) : c.sTrap w = some ⟨8, 0, bitsOf w 22 6, 0, false, false⟩ := by
  have hform : sForm (opcOf w) = some .trap := by rw [hopc]; rfl
  have hused : hasReserved w SForm.trap.used = false := hres
  unfold Core.sTrap
  simp only [hform, hused, hon]
  rfl

theorem State.bundleTrap_of_trap {s : State} {pos core t : Nat} {c : Core} {b : Bundle} (hb : b.reserved = 0) (h0 : b.on 0 = true)
    (hopc : opcOf b.s = 0x35) (hres : hasReserved b.s [(22, 27)] = false) (hon : c.slotOn b.s = true) :
    s.bundleTrap pos core c b t = some ⟨8, 0, bitsOf b.s 22 6, 0, false, false⟩ := by
  unfold State.bundleTrap
  rw [if_neg (by simp [hb])]
  simp [h0, Core.sTrap_of_trap hopc hres hon]

/-- A trap of the S slot comes before every clash of writes. -/
theorem State.issueTrap_of_slot_zero {s : State} {pos core t : Nat} {c : Core} {b : Bundle} {p : Trap}
    (h : s.bundleTrap pos core c b t = some p) (hslot : p.slot = 0) : s.issueTrap pos core c b t = some (p, []) := by
  unfold State.issueTrap
  dsimp only
  rw [h]
  split
  next p' q hp hq =>
    obtain rfl : p = p' := by simpa using hp
    simp [hslot]
  next hp hq => simpa using hp.symm
  next hp => cases hp

theorem Trap.info_reg (cause x : Nat) : bitsOf ((⟨cause, 0, x, 0, false, false⟩ : Trap).info % 2 ^ 64) 2 6 = bitsOf x 0 6 := by
  rw [bitsOf_mod_two_pow _ _ (by decide)]
  simp [Trap.info, packFields, bitsOf_eq]

/-- Settles O7: a trap writes its registers and its record and moves its core, in a state that differs from the one before in no
register a trap depends on; s.trap is the trap of a bundle's first slot, and s.tret a branch. -/
theorem trapsTaken : Obligations.TrapsTaken := by
  unfold Obligations.TrapsTaken
  refine ⟨fun i id k opc hi s p d hw h => slot_trapped hi hw h,
    fun s pos core hb h0 hopc hres hon => State.bundleTrap_of_trap hb h0 hopc hres hon,
    fun id s hw hl ho hi hc hf hb h0 h3 hopc hres hon => ?_, fun id s h hact hon hend hiss => ?_⟩
  · have htrap := State.issueTrap_of_slot_zero (s := s) (pos := id.pos) (core := id.core) (t := (s.core id.key).nextIssue)
      (State.bundleTrap_of_trap hb h0 hopc hres hon) rfl
    have hmeet : s.meet id.pos id.core 0 0x35 = _ := State.meet_of_trap hl ho hi hc hf (State.stallOf_none (.inl h3)) htrap
    refine (slot_trapped (i := .sTrap id) rfl hw hmeet).mono fun t ht => ?_
    obtain ⟨htrapped, -⟩ := ht
    refine ⟨htrapped, htrapped.1, ?_⟩
    obtain ⟨-, -, hinfo, -⟩ := htrapped
    rw [hinfo, Trap.info_reg]
    simp [bitsOf_eq]
  · refine (controlFlow.2.2.2.1 id s h hact hon hend hiss).mono fun t ht => ?_
    obtain ⟨hpc, -, -, -, hstate, hhandler⟩ := ht
    exact ⟨hstate, hhandler, hpc⟩

end Sys2Proof.Machine
end

section
/-! PROOFS. Stalls, their ends and the end of the instruction store (O18). -/

namespace Sys2Proof.Machine

/-- A command whose answer is a core's. -/
theorem answerCore_yields {i : Instr} {s : State} {g n : Nat} {f : State → State} {P : State → Prop}
    (he : exec i s = answerCore g n s f)
    (hP : ∀ t, s.onlyCores t → t.cores = (f (s.atCycle g n)).cores → t.csr = (f (s.atCycle g n)).csr →
      t.faults = (f (s.atCycle g n)).faults → P t) : yields i s P :=
  ⟨_, he, hP _ rfl rfl rfl rfl⟩

/-- O18: a bundle whose T slot must wait, whichever of its slot commands comes. -/
theorem slot_stalled {i : Instr} {id : CoreId} {k opc : Nat} {s : State} {w : Stall} {st : BitVec 3}
    (hi : slotOf i = some (id, k, opc)) (hw : id.wf = true) (h : s.meet id.pos id.core k opc = .stall w st) : yields i s (fun t =>
      (t.core id.key).stall = w ∧ (t.core id.key).state = st ∧ (t.core id.key).stallFrom = (s.core id.key).nextIssue ∧
      (t.core id.key).perfFrom = (s.core id.key).nextIssue ∧
      (t.core id.key).pc = (s.core id.key).pc ∧ (t.core id.key).pend = (s.core id.key).pend ∧
      (s.core id.key).keeps (t.core id.key) ∧ t.csr = s.csr ∧ t.faults = s.faults ∧ s.onlyCores t) := by
  obtain ⟨ans, f, he⟩ := slotCmd_of hi
  refine answerCore_yields ((he s).trans (slotCmd_stall ans f hw h)) fun t ho hcores hcsr hfaults => ?_
  have hcore := (State.core_congr hcores id.key).trans (State.core_modCore_same _ _ _)
  rw [hcore]
  exact ⟨rfl, rfl, rfl, rfl, rfl, rfl, ⟨rfl, rfl, rfl, rfl, rfl, rfl, rfl⟩, hcsr, hfaults, ho⟩

/-! ## The end of a stall -/

theorem wposZero_mod (t : Nat) : wposZero t % 16 = 0 := by
  unfold wposZero
  omega

theorem le_wposZero (t : Nat) : t ≤ wposZero t := Nat.le_add_right _ _

/-- A core resumed in cycle `n`. -/
def Core.resumeAt (c : Core) (n : Nat) : Core :=
  { c with state := if c.handler then 4 else 1, stall := .none, nextIssue := n, cleared := decide (c.state = 2) }

theorem State.resume_eq (s : State) (id : CoreId) (n : Nat) : s.resume id.pos id.core n =
    (s.stallCounted id.pos id.core n).setCore id.key (((s.stallCounted id.pos id.core n).core id.key).resumeAt n) := rfl

theorem State.perf_eq (s : State) (pos core i n : Nat) : s.perf pos core i n =
    if s.fld (TILE_CORE_PERFn_COUNT pos core i) + n < 2 ^ 48 then
      s.wr (TILE_CORE_PERFn pos core i) ((s.fld (TILE_CORE_PERFn_COUNT pos core i) + n) % 2 ^ 48)
    else
      ((s.wr (TILE_CORE_PERFn pos core i) ((s.fld (TILE_CORE_PERFn_COUNT pos core i) + n) % 2 ^ 48)).setFld
        (TILE_CORE_STATUS_PERF_OVF pos core)
        ((s.wr (TILE_CORE_PERFn pos core i) ((s.fld (TILE_CORE_PERFn_COUNT pos core i) + n) % 2 ^ 48)).fld
          (TILE_CORE_STATUS_PERF_OVF pos core) ||| 2 ^ i)).raise (srcPos pos 19) 9
        (counterDetail ((TILE_CORE_PERFn pos core i).addr - tileBase pos) ((s.fld (TILE_CORE_PERFn_COUNT pos core i) + n) % 2 ^ 48)) := rfl

/-- What resuming adds to a performance counter. -/
theorem State.fld_perf (s : State) (pos core i n : Nat) (hne : (TILE_CORE_PERFn pos core i).addr ≠ (TILE_CORE_STATUS pos core).addr) :
    (s.perf pos core i n).fld (TILE_CORE_PERFn_COUNT pos core i) = (s.fld (TILE_CORE_PERFn_COUNT pos core i) + n) % 2 ^ 48 := by
  have hset : (s.wr (TILE_CORE_PERFn pos core i) ((s.fld (TILE_CORE_PERFn_COUNT pos core i) + n) % 2 ^ 48)).fld
      (TILE_CORE_PERFn_COUNT pos core i) = (s.fld (TILE_CORE_PERFn_COUNT pos core i) + n) % 2 ^ 48 := by
    rw [State.fld]
    dsimp only [TILE_CORE_PERFn_COUNT]
    rw [State.rd_wr_same, bitsOf_mod_two_pow _ _ (by decide), bitsOf_eq]
    simp
  rw [State.perf_eq]
  split
  · exact hset
  · rw [State.fld_of_rd (State.rd_raise _ _ _ _ _), State.fld_setFld_other _ _ hne, hset]

theorem State.stallCounted_fld (s : State) (id : CoreId) (n : Nat) (h : (s.core id.key).stall ≠ .none) :
    (s.stallCounted id.pos id.core n).fld (TILE_CORE_PERFn_COUNT id.pos id.core (if (s.core id.key).state = 2 then 1 else 2)) =
      (s.fld (TILE_CORE_PERFn_COUNT id.pos id.core (if (s.core id.key).state = 2 then 1 else 2))
        + (n - (s.core id.key).perfFrom)) % 2 ^ 48 := by
  unfold CoreId.key at h ⊢
  unfold State.stallCounted
  dsimp only
  rw [if_neg h]
  refine (State.fld_perf s id.pos id.core (s.core (coreKey id.pos id.core)).stallPerf _ ?_)
  unfold Core.stallPerf
  simp only [TILE_CORE_PERFn, TILE_CORE_STATUS]
  split <;> omega

/-- What the end of a stall at cycle `n` leaves (R47, R75). -/
def State.resumed (s t : State) (id : CoreId) (n : Nat) : Prop :=
  let c := s.core id.key
  let d := t.core id.key
  d.stall = .none ∧ d.state = (if c.handler = true then 4 else 1) ∧ d.nextIssue = n ∧ d.pc = c.pc ∧ c.keeps d ∧ d.pend = c.pend ∧
  t.fld (TILE_CORE_PERFn_COUNT id.pos id.core (if c.state = 2 then 1 else 2)) =
    (s.fld (TILE_CORE_PERFn_COUNT id.pos id.core (if c.state = 2 then 1 else 2)) + (n - c.perfFrom)) % 2 ^ 48 ∧
  (∀ j, j ≠ id.key → t.core j = s.core j) ∧ s.onlyCores t

/-- A command that resumes its core in cycle `n`, and changes besides what `g` does. -/
theorem resumed_yields {i : Instr} {s : State} {id : CoreId} {n : Nat} {g : State → State} (hstall : (s.core id.key).stall ≠ .none)
    (he : exec i s = answerCore (groveOf id.pos) n s (fun u => g (u.resume id.pos id.core n)))
    (hcsr : ∀ u, (g u).csr = u.csr) (hother : ∀ u j, j ≠ id.key → (g u).core j = u.core j)
    (hcore : ∀ u, (g u).core id.key = { u.core id.key with cleared := ((g u).core id.key).cleared }) :
    yields i s (fun t => s.resumed t id n) :=
  answerCore_yields he fun t ho hcores hcsr' hfaults => by
    have hres (j : Nat) := State.core_congr hcores j
    have hcounted := (s.atCycle (groveOf id.pos) n).stallCounted_core n id
    have hc := (hres id.key).trans (hcore _)
    rw [State.resume_eq, State.core_setCore_same, hcounted] at hc
    refine ⟨by rw [hc]; rfl, by rw [hc]; rfl, by rw [hc]; rfl, by rw [hc]; rfl, by rw [hc]; exact ⟨rfl, rfl, rfl, rfl, rfl, rfl, rfl⟩,
      by rw [hc]; rfl, ?_, fun j hj => ?_, ho⟩
    · rw [State.fld_congr (hcsr'.trans (hcsr _))]
      exact State.stallCounted_fld (s.atCycle (groveOf id.pos) n) id n hstall
    · rw [hres j, hother _ j hj, State.resume_eq, State.core_setCore_ne _ _ hj, State.stallCounted_core_ne _ _ _ _ hj]
      rfl

/-- A stall's end at a wheel position 0 after the cycle that it was entered in. -/
theorem State.resumed.settles {s t : State} {id : CoreId} {n : Nat} (h : s.resumed t id n) (hmod : n % 16 = 0)
    (hfrom : (s.core id.key).stallFrom < n) :
    let c := s.core id.key
    let d := t.core id.key
    d.stall = .none ∧ d.state = (if c.handler = true then 4 else 1) ∧ d.nextIssue % 16 = 0 ∧ c.stallFrom < d.nextIssue ∧
    d.pc = c.pc ∧ c.keeps d ∧ d.pend = c.pend ∧
    t.fld (TILE_CORE_PERFn_COUNT id.pos id.core (if c.state = 2 then 1 else 2)) =
      (s.fld (TILE_CORE_PERFn_COUNT id.pos id.core (if c.state = 2 then 1 else 2)) + (d.nextIssue - c.perfFrom)) % 2 ^ 48 ∧
    (∀ j, j ≠ id.key → t.core j = s.core j) ∧ s.onlyCores t := by
  obtain ⟨hstall, hstate, hnext, hpc, hkeeps, hpend, hperf, hother, honly⟩ := h
  intro c d
  exact ⟨hstall, hstate, by rw [hnext, hmod], hfrom.trans_eq hnext.symm, hpc, hkeeps, hpend, by rw [hperf, hnext], hother, honly⟩

/-- The cycle in which a stall ends whose end comes at `e`. -/
theorem wposZero_after (e from_ : Nat) : wposZero (max e (from_ + 1)) % 16 = 0 ∧ from_ < wposZero (max e (from_ + 1)) ∧
    e ≤ wposZero (max e (from_ + 1)) := by
  have h := le_wposZero (max e (from_ + 1))
  exact ⟨wposZero_mod _, by omega, by omega⟩

section
variable {id : CoreId} {s : State} (hw : id.wf = true)
include hw

/-- STALL_RESUME of a stall whose want is met. -/
theorem stallResume_yields (hmet : (s.core id.key).stall = .fence ∧ (s.core id.key).posted = [] ∨
    (s.core id.key).stall = .flow ∧ s.tStall id.pos (s.core id.key) (s.slotWord id 3) = none) :
    yields (.stallResume id) s (fun t =>
      s.resumed t id (wposZero (max (s.hereNow id.pos + 1) ((s.core id.key).stallFrom + 1)))) := by
  have hstall : (s.core id.key).stall ≠ .none := by
    rcases hmet with ⟨h, -⟩ | ⟨h, -⟩ <;> rw [h] <;> exact Stall.noConfusion
  refine resumed_yields (g := fun u => u) hstall ?_ (fun _ => rfl) (fun _ _ _ => rfl) (fun _ => rfl)
  rw [exec_stallResume]
  unfold execStallResume
  rw [if_neg (by simp [hw])]
  refine if_pos ?_
  rcases hmet with ⟨h, hposted⟩ | ⟨h, hroom⟩
  · simp only [h, hposted, List.isEmpty_nil]
  · unfold State.slotWord at hroom
    simp only [h]
    exact Option.isNone_iff_eq_none.mpr hroom

theorem waitRelease_yields {o : Nat} {thr : W32} {r : Nat} (hstall : (s.core id.key).stall = .wait o thr (some r)) :
    yields (.waitRelease id) s (fun t => s.resumed t id (wposZero (max r ((s.core id.key).stallFrom + 1)))) := by
  refine resumed_yields (g := fun u => u) (by rw [hstall]; exact Stall.noConfusion) ?_ (fun _ => rfl) (fun _ _ _ => rfl) (fun _ => rfl)
  rw [exec_waitRelease]
  unfold execWaitRelease
  rw [if_neg (by simp [hw])]
  simp only [hstall]

theorem directLoadReturn_yields (hstall : (s.core id.key).stall = .load true) : yields (.directLoadReturn id) s (fun t =>
    s.resumed t id (wposZero (max (s.core id.key).nextIssue (max (s.hereNow id.pos + 1) ((s.core id.key).stallFrom + 1))))) := by
  refine resumed_yields (g := fun u => u.modCore id.key (fun c => { c with cleared := false }))
    (by rw [hstall]; exact Stall.noConfusion) ?_ (fun _ => rfl) (fun _ _ hj => State.core_modCore_ne _ _ hj)
    (fun _ => by rw [State.core_modCore_same])
  rw [exec_directLoadReturn]
  unfold execDirectLoadReturn
  rw [if_neg (by simp [hw])]
  simp only [hstall]

/-- A stall that has not come to its end, and no stall, resume nothing. -/
theorem resume_idle (h : (s.core id.key).stall = .none ∨ (s.core id.key).stall = .load false ∨
    ∃ o thr, (s.core id.key).stall = .wait o thr none) :
    exec (.stallResume id) s = .next s ∧ exec (.waitRelease id) s = .next s ∧ exec (.directLoadReturn id) s = .next s := by
  rw [exec_stallResume, exec_waitRelease, exec_directLoadReturn]
  unfold execStallResume execWaitRelease execDirectLoadReturn
  simp only [hw, Bool.not_true, Bool.false_eq_true, if_false, idle_eq]
  rcases h with h | h | ⟨o, thr, h⟩ <;> simp [h]

theorem sequentialIssueOverrun_yields (hl : s.live id.pos (s.core id.key) = true) (ho : (s.core id.key).overrun = true)
    (hc : s.caughtUp id.key (s.core id.key) (s.core id.key).nextIssue = true) : yields (.sequentialIssueOverrun id) s (fun t =>
      s.trapped t id 2047 0 (Trap.at 7 0 0) ∧ s.onlyTransfer t ∧
      t.rd (TILE_CORE_TINFO id.pos id.core) = 0 ∧ (t.core id.key).overrun = false) := by
  have he : exec (.sequentialIssueOverrun id) s = answerT (groveOf id.pos) (s.core id.key).nextIssue s
      (fun u => u.takeTrap id.pos id.core 2047 0 (s.core id.key).nextIssue (Trap.at 7 0 0)) := by
    rw [exec_sequentialIssueOverrun]
    unfold execSequentialIssueOverrun
    rw [if_neg (by simp [hw])]
    exact if_pos (by simp [hl, ho, hc])
  have htrapped (t : State) (hcores hcsr hfaults) := State.trapped_takeTrap (s := s) (t := t) (pc := 2047) (idle := 0)
    (p := Trap.at 7 0 0) (u := s.atCycle (groveOf id.pos) (s.core id.key).nextIssue) hw (by decide) (Core.keeps_refl _) rfl rfl
    (Core.not_stopped_of_live hl) rfl (fun _ _ => rfl) (State.addsRecords_of_same rfl) hcores hcsr hfaults
  refine ⟨_, he, htrapped _ rfl rfl rfl, rfl, (htrapped _ rfl rfl rfl).2.2.1.trans (by decide), ?_⟩
  exact congrArg Core.overrun ((congrArg (State.core · id.key) (State.takeTrap_eq _ id 2047 0 _ _)).trans
    (State.core_setCore_same _ _ _))
end

/-- Settles O18. -/
theorem stallsAndOverrun : Obligations.StallsAndOverrun := by
  unfold Obligations.StallsAndOverrun
  refine ⟨fun i id k opc hi s w st hw h => slot_stalled hi hw h, fun id s hw => ⟨fun hst hp => ?_, fun hst hr => ?_, fun o thr r hst => ?_,
    fun hst => ?_, fun h => resume_idle hw h⟩, fun id s hw hl ho hc => sequentialIssueOverrun_yields hw hl ho hc⟩
  · obtain ⟨hmod, hfrom, -⟩ := wposZero_after (s.hereNow id.pos + 1) (s.core id.key).stallFrom
    exact (stallResume_yields hw (.inl ⟨hst, hp⟩)).mono fun t ht => ht.settles hmod hfrom
  · obtain ⟨hmod, hfrom, -⟩ := wposZero_after (s.hereNow id.pos + 1) (s.core id.key).stallFrom
    exact (stallResume_yields hw (.inr ⟨hst, hr⟩)).mono fun t ht => ht.settles hmod hfrom
  · obtain ⟨hmod, hfrom, hle⟩ := wposZero_after r (s.core id.key).stallFrom
    refine (waitRelease_yields hw hst).mono fun t ht => ⟨ht.settles hmod hfrom, ?_⟩
    obtain ⟨-, -, hnext, -⟩ := ht
    rw [hnext]
    exact hle
  · have hle := le_wposZero (max (s.core id.key).nextIssue (max (s.hereNow id.pos + 1) ((s.core id.key).stallFrom + 1)))
    refine (directLoadReturn_yields hw hst).mono fun t ht => ⟨ht.settles (wposZero_mod _) (by omega), ?_⟩
    obtain ⟨-, -, hnext, -⟩ := ht
    rw [hnext]
    omega

end Sys2Proof.Machine
end

section
/-! PROOFS. What the T slot reads of its tile, whichever corrected errors its fetch has counted (O12 to O15). -/

namespace Sys2Proof.Machine

/-- `u` agrees with `s` on the fuses and on every control-space word but a tile's count of corrected errors. -/
structure State.SameWords (s u : State) (pos : Nat) : Prop where
  fuses : u.fuses = s.fuses
  rd : ∀ r : Reg, r.addr ≠ (TILE_SPAD_CE_CNT pos).addr → u.rd r = s.rd r

theorem State.sameWords_atIssue (s : State) (id : CoreId) : s.SameWords (s.atIssue id) id.pos :=
  ⟨s.atIssue_fuses id, fun _ hr => s.rd_atIssue id hr⟩

theorem tileBase_bounds {pos : Nat} (h : pos < 576) : 0x100000000 ≤ tileBase pos ∧ tileBase pos < 0x124000000 := by
  have hx : pos % 24 / 4 ≤ 5 := by omega
  have hy : pos / 24 / 4 ≤ 5 := by omega
  have hxl : pos % 24 % 4 < 4 := Nat.mod_lt _ (by decide)
  have hyl : pos / 24 % 4 < 4 := Nat.mod_lt _ (by decide)
  unfold tileBase
  dsimp only
  generalize pos % 24 / 4 = x at *
  generalize pos / 24 / 4 = y at *
  generalize pos % 24 % 4 = xl at *
  generalize pos / 24 % 4 = yl at *
  omega

theorem CoreId.pos_lt {id : CoreId} (hw : id.wf = true) : id.pos < 576 := by
  simp only [CoreId.wf, Bool.and_eq_true, decide_eq_true_eq] at hw
  exact hw.1

theorem grvBase_mod (g : Nat) : grvBase g % 0x100000 = 0 := by
  unfold grvBase
  omega

namespace State.SameWords

variable {s u : State} {pos : Nat} (h : s.SameWords u pos)
include h

/-- Words of other blocks, at another place in their TILE windows. -/
theorem rd_tile {q a : Nat} {rst : W64} (ha : a % 0x100000 ≠ 0x90048) : u.rd ⟨tileBase q + a, rst⟩ = s.rd ⟨tileBase q + a, rst⟩ :=
  h.rd _ (tileBase_add_ne (by simpa using ha))

theorem rd_grove {g a : Nat} {rst : W64} (ha : a % 0x100000 ≠ 0x90048) : u.rd ⟨grvBase g + a, rst⟩ = s.rd ⟨grvBase g + a, rst⟩ := by
  refine h.rd _ ?_
  have hg := grvBase_mod g
  have hp := tileBase_mod pos
  simp only [TILE_SPAD_CE_CNT]
  omega

theorem dspace (a : Nat) : u.dspace a = s.dspace a := by
  have hcount : u.logicalCount = s.logicalCount := by rw [State.logicalCount, State.groveCount, h.fuses]; rfl
  have hcap : u.hbmCapacity = s.hbmCapacity := by rw [State.hbmCapacity, State.computeStacks, h.fuses]; rfl
  rw [State.dspace, State.dspace, hcount, hcap]

theorem dlayout (a n : Nat) : u.dlayout a n = s.dlayout a n := by
  have hcap : u.hbmCapacity = s.hbmCapacity := by rw [State.hbmCapacity, State.computeStacks, h.fuses]; rfl
  rw [State.dlayout, State.dlayout, h.dspace, hcap]

variable (hpos : pos < 576)

section
include hpos

theorem rd_outside {r : Reg} (hr : r.addr < 0x100000000 ∨ 0x125000000 ≤ r.addr) : u.rd r = s.rd r := by
  refine h.rd r ?_
  have hp := tileBase_bounds hpos
  simp only [TILE_SPAD_CE_CNT]
  omega

theorem mapEntry (l : Nat) : u.mapEntry l = s.mapEntry l := by
  unfold State.mapEntry State.elem
  rw [h.rd_outside hpos (.inr (by simp only [DESC_POS_MAP]; omega))]

theorem posOf (l : Nat) : u.posOf l = s.posOf l := by rw [State.posOf, State.posOf, h.mapEntry hpos]

theorem tileExists (l : Nat) : u.tileExists l = s.tileExists l := by
  simp only [State.tileExists, h.posOf hpos]

theorem dspan (a n : Nat) : u.dspan a n = s.dspan a n := by
  rw [State.dspan, State.dspan, h.dlayout]
  simp only [h.tileExists hpos]

theorem logical (q : Nat) : u.logical q = s.logical q := by
  have hrev : u.revEntry q = s.revEntry q := by
    unfold State.revEntry State.elem
    rw [h.rd_outside hpos (.inr (by simp only [DESC_REV_MAP]; omega))]
  rw [State.logical, State.logical, hrev]

theorem partOf (q : Nat) : u.partOf q = s.partOf q := by
  have hbelow {p : Nat} (hp : p < 16) (x : Field) (hx : x.reg.addr ≤ partBase p + 0x30) : u.fld x = s.fld x :=
    State.fld_of_rd (h.rd_outside hpos (.inl (by unfold partBase at hx; omega)))
  unfold State.partOf State.partOfGrove
  refine List.find?_congr fun p hp => ?_
  have hp16 : p < 16 := List.mem_range.mp hp
  rw [hbelow hp16 (MGMT_PARTp_CFG_GRVS p) (by simp only [MGMT_PARTp_CFG_GRVS, MGMT_PARTp_CFG]; omega)]
  unfold State.partExists State.partState
  rw [hbelow hp16 (MGMT_PARTp_STATUS_STATE p) (by simp only [MGMT_PARTp_STATUS_STATE, MGMT_PARTp_STATUS]; omega)]

theorem tileClass (q : Nat) : u.tileClass q = s.tileClass q := by
  rw [State.tileClass, State.tileClass, h.logical hpos, h.partOf hpos]
end

theorem epoch (q : Nat) : u.epoch q = s.epoch q := State.flag_of_rd (h.rd_tile (by decide))

theorem route (q : Nat) {i : Nat} (hi : i < 1024) : u.route q i = s.route q i := by
  have hword {a : Nat} {rst : W64} (ha : 0xC0000 ≤ a ∧ a ≤ 0xC8008) :
      u.rd ⟨grvBase (groveOf q) + a + i * 32, rst⟩ = s.rd ⟨grvBase (groveOf q) + a + i * 32, rst⟩ := by
    rw [Nat.add_assoc]
    exact h.rd_grove (by omega)
  unfold State.route
  dsimp only
  rw [h.epoch q]
  cases s.epoch q with
  | false => simp only [GRV_ROUTEA_W0, GRV_ROUTEA_W1, Bool.false_eq_true, if_false, hword ⟨le_rfl, by decide⟩,
      hword (show 0xC0000 ≤ 0xC0008 ∧ 0xC0008 ≤ 0xC8008 by decide)]
  | true => simp only [GRV_ROUTEB_W0, GRV_ROUTEB_W1, if_true, hword (show 0xC0000 ≤ 0xC8000 ∧ 0xC8000 ≤ 0xC8008 by decide),
      hword (show 0xC0000 ≤ 0xC8008 ∧ 0xC8008 ≤ 0xC8008 by decide)]

theorem rd_reach (q : Nat) {d : Nat} (hd : d < 4) : u.rd (TILE_SPAD_REACH_d q d) = s.rd (TILE_SPAD_REACH_d q d) := by
  unfold TILE_SPAD_REACH_d
  rw [Nat.add_assoc]
  exact h.rd_tile (by omega)

theorem reachDir (q l : Nat) : u.reachDir q l = s.reachDir q l := by
  unfold State.reachDir
  refine List.find?_congr fun d hd => ?_
  have hrd := h.rd_reach q (List.mem_range.mp hd)
  rw [State.flag_of_rd (f := TILE_SPAD_REACH_d_VALID q d) hrd, State.fld_of_rd (f := TILE_SPAD_REACH_d_LOGICAL q d) hrd]

include hpos

theorem reachPath (q : Nat) {d : Nat} (hd : d < 4) : u.reachPath q d = s.reachPath q d := by
  have hrd := h.rd_reach q hd
  unfold State.reachPath State.pathOf
  rw [State.flag_of_rd (f := TILE_SPAD_REACH_d_VALID q d) hrd, State.fld_of_rd (f := TILE_SPAD_REACH_d_LOGICAL q d) hrd,
    h.posOf hpos]

theorem reach (q addr n align : Nat) : u.reach q addr n align = s.reach q addr n align := by
  unfold State.reach
  rw [h.dspan hpos]
  split
  · rfl
  next l off hspan =>
    rw [h.logical hpos, h.reachDir]
    cases hdir : s.reachDir q l with
    | none => rfl
    | some d =>
      have hd : d < 4 := List.mem_range.mp (List.mem_of_find?_eq_some hdir)
      dsimp only
      rw [h.reachPath hpos q hd]
  · rfl

end State.SameWords

end Sys2Proof.Machine
end

section
/-! PROOFS. t.set, t.rlu, t.wait and t.wclose (O12). -/

namespace Sys2Proof.Machine

/-- A command of the T slot that issues under its predicate. -/
theorem transferSlot_active {i : Instr} {id : CoreId} {opc : Nat} {s : State} {f : Nat → Nat → State → State} {P : State → Prop}
    (h : s.issues id 3 opc) (hon : s.slotActive id 3 = true) (he : exec i s = transferOp id opc s f)
    (hP : ∀ t, s.onlyTransfer t → s.IssuedT (f (s.slotWord id 3) (s.core id.key).nextIssue (s.atIssue id)) t id → P t) :
    yields i s P :=
  transferSlot_yields h he fun t ho ht => by
    rw [State.ifOn_true _ (by rw [State.atIssue_core]; exact hon)] at ht
    exact hP t ho ht

/-! ## Stream descriptors -/

theorem extractLsb'_eq_setWidth_shift {n : Nat} (v : BitVec n) (lo len : Nat) : v.extractLsb' lo len = (v >>> lo).setWidth len := by
  apply BitVec.eq_of_toNat_eq
  simp [BitVec.extractLsb'_toNat]

theorem tSet_loads {id : CoreId} {s : State} (h : s.issues id 3 0x01) (hon : s.slotActive id 3 = true) :
    yields (.tSet id) s (fun t => (t.core id.key).stream (tTd (s.slotWord id 3))
      = streamOf ((s.core id.key).sreg (tSa (s.slotWord id 3))).val ((s.core id.key).sreg (tSb (s.slotWord id 3))).val
        ((s.core id.key).sreg (tSc (s.slotWord id 3))).val) :=
  transferSlot_active h hon (exec_tSet s id) fun t _ ht => by
    have hd := ht.data
    rw [State.core_modCore_same, State.atIssue_core] at hd
    rw [Core.stream, hd.t]
    exact Core.stream_setStream_same _ _ _

/-! ## t.rlu -/

/-- Where the T slot runs, it is one of its bundle. -/
theorem State.on_of_run {s : State} {pos core opc : Nat} (h : s.meet pos core 3 opc = .run) :
    (s.bundle pos core (s.core (coreKey pos core)).pc.toNat).on 3 = true ∧
    opcOf (s.bundle pos core (s.core (coreKey pos core)).pc.toNat).t = opc := by
  have hturn := (State.run_facts h).2.2.1
  cases hnext : (s.core (coreKey pos core)).nextSlot (s.bundle pos core (s.core (coreKey pos core)).pc.toNat) with
  | none => simp [Core.turn_of_none hnext] at hturn
  | some j =>
    rw [Core.turn_of_some hnext] at hturn
    simp only [Bool.and_eq_true, decide_eq_true_eq] at hturn
    obtain ⟨rfl, hopc⟩ := hturn
    have hsome := List.find?_some hnext
    simp only [Bool.and_eq_true] at hsome
    exact ⟨hsome.1, hopc⟩

/-- Where the first slot of a bundle runs, its T slot raises no trap. -/
theorem State.tTrap_of_run {s : State} {pos core opc : Nat} (h : s.meet pos core 3 opc = .run)
    (hissued : (s.core (coreKey pos core)).issued = 0) :
    s.tTrap pos core (s.core (coreKey pos core)) (s.bundle pos core (s.core (coreKey pos core)).pc.toNat).t
      (s.core (coreKey pos core)).nextIssue = none := by
  have hissue := (State.run_facts h).2.2.2 hissued
  have hon := (State.on_of_run h).1
  have hbundle : s.bundleTrap pos core (s.core (coreKey pos core)) (s.bundle pos core (s.core (coreKey pos core)).pc.toNat)
      (s.core (coreKey pos core)).nextIssue = none := by
    cases hb : s.bundleTrap pos core (s.core (coreKey pos core)) (s.bundle pos core (s.core (coreKey pos core)).pc.toNat)
      (s.core (coreKey pos core)).nextIssue with
    | none => rfl
    | some p =>
      exfalso
      unfold State.issueTrap at hissue
      dsimp only at hissue
      rw [hb] at hissue
      split at hissue
      · split at hissue <;> cases hissue
      · cases hissue
      next hn => cases hn
  unfold State.bundleTrap at hbundle
  split at hbundle
  · cases hbundle
  · simp only [List.findSome?_eq_none_iff, List.mem_cons, List.not_mem_nil, or_false, id_eq] at hbundle
    exact hbundle _ (.inr (.inr (.inr rfl)))

theorem Core.tAddr_of_rlu {s : State} {pos core t w : Nat} {c : Core} (hopc : opcOf w = 0x09) (hon : c.slotOn w = true)
    (h : s.tTrap pos core c w t = none) : c.tAddr w < 1024 := by
  by_contra hge
  unfold State.tTrap at h
  simp only [hopc, hon] at h
  simp only [tUsed] at h
  split at h
  · cases h
  · simp only [Bool.not_true, Bool.false_eq_true, if_false] at h
    split at h <;> cases h

/-- The route table entry that a t.rlu reads is that of the state it issues in. -/
theorem State.route_atIssue_rlu {s : State} {id : CoreId} (h : s.issues id 3 0x09) (hon : s.slotActive id 3 = true) :
    (s.atIssue id).route id.pos ((s.core id.key).tAddr (s.slotWord id 3)) = s.route id.pos ((s.core id.key).tAddr (s.slotWord id 3)) := by
  by_cases hissued : (s.core id.key).issued = 0
  · exact (s.sameWords_atIssue id).route id.pos
      (Core.tAddr_of_rlu (State.on_of_run h.2).2 hon (State.tTrap_of_run h.2 hissued))
  · have hsame : s.atIssue id = s.atCycle (groveOf id.pos) (s.core id.key).nextIssue := if_neg hissued
    rw [hsame]
    rfl

theorem tRlu_sends {id : CoreId} {s : State} (h : s.issues id 3 0x09) (hon : s.slotActive id 3 = true) :
    yields (.tRlu id) s (fun t =>
      let c := s.core id.key
      let w := s.slotWord id 3
      (t.core id.key).pend = c.withScalar true (tSc w) 4 (BitVec.ofNat 64 (c.tAddr w % 2 ^ 10
        + 2 ^ 10 * (s.epoch id.pos).toNat + 2 ^ 11 * (s.route id.pos (c.tAddr w)).kind)) 0) :=
  transferSlot_active h hon (exec_tRlu s id) fun t _ ht => by
    have hd := ht.data
    have hkind : (s.route id.pos ((s.core id.key).tAddr (s.slotWord id 3))).kind < 4 := bitsOf_lt _ 0 2
    have hepoch := (s.epoch id.pos).toNat_lt
    rw [State.core_modCore_same, State.atIssue_core] at hd
    rw [hd.pend, Core.sendS_pend, State.route_atIssue_rlu h hon, (s.sameWords_atIssue id).epoch]
    congr 2
    simp only [packFields]
    omega

/-! ## t.wclose and t.wait -/

theorem State.post_fst (s : State) (key : Nat) (k : PostKind) : (s.post key k).1 = (s.core key).nextId := rfl

theorem State.post_core (s : State) (key : Nat) (k : PostKind) : (s.post key k).2.core key =
    { s.core key with posted := (s.core key).posted ++ [⟨(s.core key).nextId, k, none⟩], nextId := (s.core key).nextId + 1 } :=
  State.core_setCore_same _ _ _

theorem tWclose_notes {id : CoreId} {s : State} (h : s.issues id 3 0x13) (hon : s.slotActive id 3 = true) :
    yields (.tWclose id) s (fun t =>
      ∃ x, (t.tile id.pos).wins = (s.tile id.pos).wins ++ [x] ∧ x.n = bitsOf (s.slotWord id 3) 36 4 ∧
        x.at_ = (s.core id.key).nextIssue + 4 ∧ x.core = id.core ∧ x.record = none ∧
        (t.core id.key).posted = (s.core id.key).posted ++ [⟨x.id, .wclose, none⟩]) :=
  transferSlot_active h hon (exec_tWclose s id) fun t _ ht => by
    have hposted := ht.data.posted
    have htile := State.tile_congr ht.tiles id.pos
    rw [State.tile_modTile_same] at htile
    refine ⟨⟨bitsOf (s.slotWord id 3) 36 4, (s.core id.key).nextIssue + 4, id.core, none, 0, (s.core id.key).nextId, none⟩, ?_,
      rfl, rfl, rfl, rfl, ?_⟩
    · rw [htile, State.post_fst, State.atIssue_core]
      exact congrArg (fun x : Tile => x.wins ++ _) (s.atIssue_tile id id.pos)
    · refine hposted.trans ((congrArg Core.posted (State.post_core (s.atIssue id) id.key .wclose)).trans ?_)
      rw [State.atIssue_core]

/-- A boundary counts in INVCOUNT; the rest of what it does is in its tile. -/
theorem State.boundary_parts (u : State) (pos core : Nat) :
    (u.boundary pos core).rd (TILE_CORE_INVCOUNT pos core) = (u.rd (TILE_CORE_INVCOUNT pos core) + 1) % 2 ^ 64 ∧
    (u.boundary pos core).msgs = u.msgs ∧ (u.boundary pos core).net = u.net ∧ (u.boundary pos core).access = u.access := by
  have hgrant (v : State) : (v.grantCkpt pos).csr = v.csr ∧ (v.grantCkpt pos).msgs = v.msgs ∧ (v.grantCkpt pos).net = v.net ∧
      (v.grantCkpt pos).access = v.access := by
    unfold State.grantCkpt
    split
    · exact ⟨rfl, rfl, rfl, rfl⟩
    · split <;> exact ⟨rfl, rfl, rfl, rfl⟩
  have hwr := (u.rd_wr_same (TILE_CORE_INVCOUNT pos core) ((u.rd (TILE_CORE_INVCOUNT pos core) + 1) % 2 ^ 64)).trans (Nat.mod_mod _ _)
  unfold State.boundary
  dsimp only
  split
  · split
    · obtain ⟨hcsr, hmsgs, hnet, haccess⟩ := hgrant _
      exact ⟨(State.rd_congr hcsr _).trans hwr, hmsgs, hnet, haccess⟩
    · exact ⟨hwr, rfl, rfl, rfl⟩
  · exact ⟨hwr, rfl, rfl, rfl⟩

theorem tWait_counts {id : CoreId} {s : State} (h : s.issues id 3 0x0C) (hon : s.slotActive id 3 = true) :
    yields (.tWait id) s (fun t =>
      t.rd (TILE_CORE_INVCOUNT id.pos id.core) = (s.rd (TILE_CORE_INVCOUNT id.pos id.core)
        + (if Nat.testBit (s.slotWord id 3) 36 then 1 else 0)) % 2 ^ 64 ∧ t.msgs = s.msgs ∧ t.net = s.net ∧ t.access = s.access) :=
  transferSlot_active h hon (exec_tWait s id) fun t _ ht => by
    have hinv := ht.rd (TILE_CORE_INVCOUNT id.pos id.core) (coreReg_not_mem_bundleRegs h.1 (by decide) (by decide) (by decide))
    have hread : (s.atIssue id).rd (TILE_CORE_INVCOUNT id.pos id.core) = s.rd (TILE_CORE_INVCOUNT id.pos id.core) :=
      s.rd_atIssue id (coreReg_ne_ceCount h.1 (by decide))
    rw [hinv, ht.msgs, ht.net, ht.access]
    cases Nat.testBit (s.slotWord id 3) 36 with
    | false =>
      simp only [Bool.false_eq_true, if_false, hread, State.atIssue_msgs, State.atIssue_net, State.atIssue_access, and_self, and_true]
      exact (Nat.mod_eq_of_lt (s.rd_lt _)).symm
    | true =>
      obtain ⟨hrd, hmsgs, hnet, haccess⟩ := (s.atIssue id).boundary_parts id.pos id.core
      simp only [if_true]
      exact ⟨hrd.trans (by rw [hread]), hmsgs.trans (s.atIssue_msgs id), hnet.trans (s.atIssue_net id), haccess.trans (s.atIssue_access id)⟩

/-- Settles O12. -/
theorem transferStreams : Obligations.TransferStreams := by
  unfold Obligations.TransferStreams
  refine ⟨fun id s h hon => (tSet_loads h hon).mono fun t ht => ?_, fun id s h hon => tRlu_sends h hon,
    fun id s h hon => tWclose_notes h hon, fun id s h hon => tWait_counts h hon⟩
  dsimp only
  rw [ht]
  simp only [streamOf, extractLsb'_eq_setWidth_shift, BitVec.ushiftRight_zero, and_self]

end Sys2Proof.Machine
end

section
/-! PROOFS. Direct loads and stores, and sends (O13 to O15). -/

namespace Sys2Proof.Machine

/-! ## Tracking entries -/

theorem SMap.find?_insert_same {α : Type} (m : SMap α) (k : Nat) (v : α) :
    (m.insert k v).find? (fun e => decide (e.1 = k)) = some (k, v) := by
  induction m with
  | nil => simp [SMap.insert]
  | cons e m ih =>
    obtain ⟨j, w⟩ := e
    simp only [SMap.insert]
    split
    · simp
    next hne =>
      split
      · simp
      · rw [List.find?_cons_of_neg (by simpa using fun h : j = k => hne h.symm)]
        exact ih

theorem State.trackAt_setTrack (s : State) (pos tag : Nat) (k : Track) : (s.setTrack pos tag k).trackAt pos tag = some k := by
  rw [State.trackAt, State.setTrack, SMap.find?_insert_same]
  rfl

theorem State.trackAt_congr {s t : State} (h : t.track = s.track) (pos tag : Nat) : t.trackAt pos tag = s.trackAt pos tag := by
  rw [State.trackAt, State.trackAt, h]

theorem State.freeTag_congr {s t : State} (h : t.track = s.track) (pos : Nat) : t.freeTag pos = s.freeTag pos := by
  rw [State.freeTag, State.freeTag, h]

/-- A packet sent with a tracking entry: the entry holds the packet, stamped, for its holder and destination. -/
theorem State.dispatch_trackAt (s : State) (pos tag : Nat) (k : Track) : ∃ e, (s.dispatch pos tag k).trackAt pos tag = some e ∧
    e.pkt = s.stamp pos tag k.pkt ∧ e.holder = k.holder ∧ e.dest = k.dest := by
  unfold State.dispatch
  dsimp only
  split
  · exact ⟨_, State.trackAt_setTrack _ _ _ _, rfl, rfl, rfl⟩
  · split
    · exact ⟨_, (State.trackAt_congr rfl _ _).trans (State.trackAt_setTrack _ _ _ _), rfl, rfl, rfl⟩
    · exact ⟨_, (State.trackAt_congr rfl _ _).trans (State.trackAt_setTrack _ _ _ _), rfl, rfl, rfl⟩

theorem State.sendTo_trackAt {s : State} {pos tag : Nat} (h : s.freeTag pos = some tag) (addr : Nat) (p : Pkt) (holder : Holder) :
    ∃ e, (s.sendTo pos addr p holder).trackAt pos tag = some e ∧
      e.pkt = s.stamp pos tag { p with addr := BitVec.ofNat 48 addr } ∧ e.holder = holder := by
  unfold State.sendTo State.sendPacket
  rw [h]
  obtain ⟨e, he, hpkt, hholder, -⟩ := s.dispatch_trackAt pos tag
    ⟨{ p with addr := BitVec.ofNat 48 addr }, (s.destOf pos (BitVec.ofNat 48 addr)).getD noDest, .out, holder, s.now, none, 0, none⟩
  exact ⟨e, he, hpkt, hholder⟩

theorem State.sendRouted_trackAt {s : State} {pos tag : Nat} (h : s.freeTag pos = some tag) (port : Nat) (p : Pkt) (holder : Holder)
    (index : Nat) (disp : Int) : ∃ e, (s.sendRouted pos port p holder index disp).trackAt pos tag = some e ∧
      e.pkt = s.stamp pos tag p ∧ e.holder = holder ∧ e.dest = 560 + port := by
  unfold State.sendRouted
  rw [h]
  exact s.dispatch_trackAt pos tag ⟨p, 560 + port, .out, holder, s.now, none, 0, some (index, disp)⟩

/-! ## The course of a core over the end of a slot -/

theorem Core.done_course (c : Core) (skip : Bool) (idle t : Nat) : (c.done skip idle t).stall = c.stall ∧
    (c.done skip idle t).state = c.state := by
  unfold Core.done
  split <;> exact ⟨rfl, rfl⟩

/-- The end of a slot, and of its bundle, leaves a stall and the STATE as the slot's effect left them, where no halt or s.end fell
in the bundle. -/
theorem State.slotDone_course (u : State) (id : CoreId) (k t : Nat) (h : (u.core id.key).ending = none) :
    ((u.slotDone id.pos id.core k t).core id.key).stall = (u.core id.key).stall ∧
    ((u.slotDone id.pos id.core k t).core id.key).state = (u.core id.key).state := by
  unfold CoreId.key at h ⊢
  unfold State.slotDone
  dsimp only
  split
  · rw [State.bundleDone_core, State.core_setCore_same, Core.ended]
    simp only [h]
    exact Core.done_course _ _ _ _
  · rw [State.core_setCore_same]
    exact ⟨rfl, rfl⟩

theorem State.Issued.course {s u t : State} {id : CoreId} {k : Nat} (ht : s.Issued u t id k) (h : (u.core id.key).ending = none) :
    (t.core id.key).stall = (u.core id.key).stall ∧ (t.core id.key).state = (u.core id.key).state := by
  rw [ht.done]
  exact u.slotDone_course id k _ h

/-! ## Streams -/

/-- The next `n` elements of a stream taken, or none. -/
theorem State.advance_core (u : State) (key w n : Nat) : (u.advance key w n).core key = (u.core key).setStream (tTd w)
    { (u.core key).stream (tTd w) with pos := ((u.core key).stream (tTd w)).pos + BitVec.ofNat 16 n } :=
  State.core_modCore_same _ _ _

/-- `v` is `u` with `n` elements of the stream that `w` names taken. -/
structure State.Taken (u v : State) (key w n : Nat) : Prop where
  access : v.access = u.access
  track : v.track = u.track
  creditUsed : v.creditUsed = u.creditUsed
  course : (v.core key).ending = (u.core key).ending ∧ (v.core key).stall = (u.core key).stall ∧ (v.core key).state = (u.core key).state
  posted : (v.core key).posted = (u.core key).posted
  pos : ((v.core key).stream (tTd w)).pos = ((u.core key).stream (tTd w)).pos + BitVec.ofNat 16 n

theorem State.taken_none (u : State) (key w : Nat) : u.Taken u key w 0 :=
  ⟨rfl, rfl, rfl, ⟨rfl, rfl, rfl⟩, rfl, by simp⟩

theorem State.taken_advance (u : State) (key w n : Nat) : u.Taken (u.advance key w n) key w n := by
  refine ⟨rfl, rfl, rfl, ?_, ?_, ?_⟩ <;> rw [State.advance_core]
  · exact ⟨rfl, rfl, rfl⟩
  · rfl
  · rw [Core.stream_setStream_same]

/-- What a T slot leaves whose effect `v` was followed by the taking of `n` elements. -/
theorem State.IssuedT.taken {s v x t : State} {id : CoreId} {w n : Nat} (ht : s.IssuedT x t id) (hx : v.Taken x id.key w n) :
    t.access = v.access ∧ t.track = v.track ∧ t.creditUsed = v.creditUsed ∧
    ((v.core id.key).ending = none → (t.core id.key).stall = (v.core id.key).stall ∧ (t.core id.key).state = (v.core id.key).state) ∧
    (t.core id.key).posted = (v.core id.key).posted ∧
    ((t.core id.key).stream (tTd w)).pos = ((v.core id.key).stream (tTd w)).pos + BitVec.ofNat 16 n := by
  obtain ⟨hend, hstall, hstate⟩ := hx.course
  refine ⟨ht.access.trans hx.access, ht.track.trans hx.track, ht.creditUsed.trans hx.creditUsed, fun h => ?_,
    ht.data.posted.trans hx.posted, ?_⟩
  · obtain ⟨h1, h2⟩ := ht.course (hend.trans h)
    exact ⟨h1.trans hstall, h2.trans hstate⟩
  · rw [Core.stream, ht.data.t]
    exact hx.pos

/-- A direct access that issues, with what its path makes, `v`, of the state it issues in. -/
theorem directAccess_yields {i : CoreId → Instr} {opc n : Nat} {g : CoreId → Nat → Nat → State → State}
    {fin : CoreId → Nat → State → State} {id : CoreId} {s v : State} {P : State → Prop}
    (he : ∀ s id, exec (i id) s = transferOp id opc s (fun w t u => fin id w (g id w t u)))
    (hfin : ∀ (id : CoreId) w (u : State), u.Taken (fin id w u) id.key w n) (h : s.issues id 3 opc) (hon : s.slotActive id 3 = true)
    (hv : g id (s.slotWord id 3) (s.core id.key).nextIssue (s.atIssue id) = v)
    (hP : ∀ t, t.access = v.access → t.track = v.track → t.creditUsed = v.creditUsed →
      ((v.core id.key).ending = none → (t.core id.key).stall = (v.core id.key).stall ∧ (t.core id.key).state = (v.core id.key).state) →
      (t.core id.key).posted = (v.core id.key).posted →
      ((t.core id.key).stream (tTd (s.slotWord id 3))).pos = ((v.core id.key).stream (tTd (s.slotWord id 3))).pos + BitVec.ofNat 16 n →
      P t) : yields (i id) s P :=
  transferSlot_active h hon (he s id) fun t _ ht => by
    rw [hv] at ht
    obtain ⟨haccess, htrack, hcredit, hcourse, hposted, hpos⟩ := ht.taken (hfin id (s.slotWord id 3) v)
    exact hP t haccess htrack hcredit hcourse hposted hpos

/-! ## Direct loads -/

section
variable {u : State} {id : CoreId} {w t off : Nat} {dst : LoadDst}

/-- Where the direct access that `w` names goes, for a core of `u`. -/
def State.reachOf (u : State) (id : CoreId) (w : Nat) : Trap ⊕ Reach :=
  u.reach id.pos ((u.core id.key).tDirect w) (tShape (opcOf w)).1 (tShape (opcOf w)).2

theorem State.directLoad_own (h : u.reachOf id w = .inr (.own off)) : u.directLoad id.pos id.core w t dst =
    u.addAccess (u.coreAccess id.pos id.core id.pos id.core off (tShape (opcOf w)).1 t (.load id.key dst 4)) := by
  unfold State.reachOf CoreId.key at h
  unfold State.directLoad CoreId.key
  dsimp only
  rw [h]

theorem State.directLoad_near {d q : Nat} (h : u.reachOf id w = .inr (.near d q off true)) : u.directLoad id.pos id.core w t dst =
    u.addAccess (u.coreAccess id.pos id.core q (portAgent d) off (tShape (opcOf w)).1 t (.load id.key dst 6)) := by
  unfold State.reachOf CoreId.key at h
  unfold State.directLoad CoreId.key
  dsimp only
  rw [h]

theorem State.directLoad_cross {d q : Nat} (h : u.reachOf id w = .inr (.near d q off false)) : u.directLoad id.pos id.core w t dst =
    ((u.takeCredits (linkKey id.pos (28 + d)) 3 1).addAccess
      (u.crossAccess id.pos d q off (tShape (opcOf w)).1 t (.load id.key dst 0))).loadStall id.key t := by
  unfold State.reachOf CoreId.key at h
  unfold State.directLoad CoreId.key
  dsimp only
  rw [h]

theorem State.directLoad_routed {l : Nat} (h : u.reachOf id w = .inr (.routed l off)) : u.directLoad id.pos id.core w t dst =
    (u.sendTo id.pos ((u.core id.key).tDirect w)
      { Pkt.blank with type := tREAD, size := if (tShape (opcOf w)).1 = 8 then 1 else 2 } (.load id.key dst)).loadStall id.key t := by
  unfold State.reachOf CoreId.key at h
  unfold State.directLoad CoreId.key
  dsimp only
  rw [h]
end

/-- A direct access of a T slot that issues goes where it goes in the state before its fetch was counted. -/
theorem State.reachOf_atIssue {s : State} {id : CoreId} {opc : Nat} (h : s.issues id 3 opc) :
    (s.atIssue id).reachOf id (s.slotWord id 3)
      = s.reach id.pos ((s.core id.key).tDirect (s.slotWord id 3)) (tShape opc).1 (tShape opc).2 := by
  have hopc : opcOf (s.slotWord id 3) = opc := (State.on_of_run h.2).2
  rw [State.reachOf, (s.sameWords_atIssue id).reach (CoreId.pos_lt h.1), hopc, State.atIssue_core]

theorem State.opcOf_slotWord {s : State} {id : CoreId} {opc : Nat} (h : s.issues id 3 opc) : opcOf (s.slotWord id 3) = opc :=
  (State.on_of_run h.2).2

theorem State.loadStall_core (u : State) (key t : Nat) :
    (u.loadStall key t).core key = { (u.core key).stallAt (.load false) 3 (t + 1) with nextIssue := (u.core key).nextIssue } :=
  State.core_modCore_same _ _ _

theorem State.addAccess_core (u : State) (a : Access) (j : Nat) : (u.addAccess a).core j = u.core j := rfl
theorem State.takeCredits_used (u : State) (l c n : Nat) :
    SMap.get 0 (u.takeCredits l c n).creditUsed (creditKey l c) = SMap.get 0 u.creditUsed (creditKey l c) + n := by
  simp [State.takeCredits]
theorem State.takeCredits_core (u : State) (l c n j : Nat) : (u.takeCredits l c n).core j = u.core j := rfl

section
variable {i : CoreId → Instr} {opc n : Nat} {dst : Nat → LoadDst} {fin : CoreId → Nat → State → State} {id : CoreId} {s : State}
  (he : ∀ s id, exec (i id) s = transferOp id opc s (fun w t u => fin id w (u.directLoad id.pos id.core w t (dst w))))
  (hfin : ∀ (id : CoreId) w (u : State), u.Taken (fin id w u) id.key w n) (h : s.issues id 3 opc) (hon : s.slotActive id 3 = true)
include he hfin h hon

theorem directLoad_own_yields {off : Nat}
    (hr : s.reach id.pos ((s.core id.key).tDirect (s.slotWord id 3)) (tShape opc).1 (tShape opc).2 = .inr (.own off)) :
    yields (i id) s (fun t =>
      (∃ a, t.access = s.access ++ [a] ∧ a.pos = id.pos ∧ a.agent = id.core ∧ a.whole = (off, (tShape opc).1) ∧ a.timed = true ∧
        a.core = some id.key ∧ a.task = .load id.key (dst (s.slotWord id 3)) 4) ∧
      ((s.core id.key).ending = none → (t.core id.key).stall = (s.core id.key).stall) ∧
      ((t.core id.key).stream (tTd (s.slotWord id 3))).pos
        = ((s.core id.key).stream (tTd (s.slotWord id 3))).pos + BitVec.ofNat 16 n) := by
  refine directAccess_yields (g := fun id w t u => u.directLoad id.pos id.core w t (dst w)) he hfin h hon (State.directLoad_own ((State.reachOf_atIssue h).trans hr)) ?_
  intro t haccess _ _ hcourse _ hpos
  rw [State.addAccess_core, State.atIssue_core] at hcourse hpos
  refine ⟨⟨_, haccess.trans (congrArg (· ++ _) (s.atIssue_access id)), rfl, rfl, ?_, rfl, rfl, rfl⟩, fun hend => (hcourse hend).1, hpos⟩
  rw [State.opcOf_slotWord h]
  rfl

theorem directLoad_near_yields {d q off : Nat}
    (hr : s.reach id.pos ((s.core id.key).tDirect (s.slotWord id 3)) (tShape opc).1 (tShape opc).2 = .inr (.near d q off true)) :
    yields (i id) s (fun t =>
      (∃ a, t.access = s.access ++ [a] ∧ a.pos = q ∧ a.agent = portAgent d ∧ a.whole = (off, (tShape opc).1) ∧ a.timed = true ∧
        a.core = some id.key ∧ a.task = .load id.key (dst (s.slotWord id 3)) 6) ∧
      ((s.core id.key).ending = none → (t.core id.key).stall = (s.core id.key).stall) ∧
      ((t.core id.key).stream (tTd (s.slotWord id 3))).pos
        = ((s.core id.key).stream (tTd (s.slotWord id 3))).pos + BitVec.ofNat 16 n) := by
  refine directAccess_yields (g := fun id w t u => u.directLoad id.pos id.core w t (dst w)) he hfin h hon (State.directLoad_near ((State.reachOf_atIssue h).trans hr)) ?_
  intro t haccess _ _ hcourse _ hpos
  rw [State.addAccess_core, State.atIssue_core] at hcourse hpos
  refine ⟨⟨_, haccess.trans (congrArg (· ++ _) (s.atIssue_access id)), rfl, rfl, ?_, rfl, rfl, rfl⟩, fun hend => (hcourse hend).1, hpos⟩
  rw [State.opcOf_slotWord h]
  rfl

theorem directLoad_cross_yields {d q off : Nat}
    (hr : s.reach id.pos ((s.core id.key).tDirect (s.slotWord id 3)) (tShape opc).1 (tShape opc).2 = .inr (.near d q off false)) :
    yields (i id) s (fun t =>
      (∃ a, t.access = s.access ++ [a] ∧ a.pos = q ∧ a.agent = portAgent d ∧ a.whole = (off, (tShape opc).1) ∧ a.timed = false ∧
        a.inlink = some (linkKey id.pos (28 + d)) ∧ a.task = .load id.key (dst (s.slotWord id 3)) 0) ∧
      SMap.get 0 t.creditUsed (creditKey (linkKey id.pos (28 + d)) 3)
        = SMap.get 0 s.creditUsed (creditKey (linkKey id.pos (28 + d)) 3) + 1 ∧
      ((s.core id.key).ending = none → (t.core id.key).stall = .load false ∧ (t.core id.key).state = 3) ∧
      ((t.core id.key).stream (tTd (s.slotWord id 3))).pos
        = ((s.core id.key).stream (tTd (s.slotWord id 3))).pos + BitVec.ofNat 16 n) := by
  refine directAccess_yields (g := fun id w t u => u.directLoad id.pos id.core w t (dst w)) he hfin h hon (State.directLoad_cross ((State.reachOf_atIssue h).trans hr)) ?_
  intro t haccess _ hcredit hcourse _ hpos
  rw [State.loadStall_core, State.addAccess_core, State.takeCredits_core, State.atIssue_core] at hcourse hpos
  refine ⟨⟨_, haccess.trans (congrArg (· ++ _) (s.atIssue_access id)), rfl, rfl, ?_, rfl, rfl, rfl⟩, ?_, hcourse, hpos⟩
  · rw [State.opcOf_slotWord h]
    rfl
  · rw [hcredit]
    exact (State.takeCredits_used (s.atIssue id) (linkKey id.pos (28 + d)) 3 1).trans (by rw [State.atIssue_creditUsed])

theorem directLoad_routed_yields {l off tag : Nat} (htag : s.freeTag id.pos = some tag)
    (hr : s.reach id.pos ((s.core id.key).tDirect (s.slotWord id 3)) (tShape opc).1 (tShape opc).2 = .inr (.routed l off)) :
    yields (i id) s (fun t =>
      (∃ k, t.trackAt id.pos tag = some k ∧ k.pkt.type = tREAD ∧ k.pkt.size = (if (tShape opc).1 = 8 then 1 else 2) ∧
        k.pkt.addr = BitVec.ofNat 48 ((s.core id.key).tDirect (s.slotWord id 3)) ∧ k.pkt.tag = tag ∧
        k.holder = .load id.key (dst (s.slotWord id 3))) ∧
      ((s.core id.key).ending = none → (t.core id.key).stall = .load false ∧ (t.core id.key).state = 3) ∧
      ((t.core id.key).stream (tTd (s.slotWord id 3))).pos
        = ((s.core id.key).stream (tTd (s.slotWord id 3))).pos + BitVec.ofNat 16 n) := by
  refine directAccess_yields (g := fun id w t u => u.directLoad id.pos id.core w t (dst w)) he hfin h hon (State.directLoad_routed ((State.reachOf_atIssue h).trans hr)) ?_
  intro t _ htrack _ hcourse _ hpos
  obtain ⟨k, hk, hpkt, hholder⟩ := State.sendTo_trackAt ((State.freeTag_congr (s.atIssue_track id) id.pos).trans htag)
    ((s.core id.key).tDirect (s.slotWord id 3))
    { Pkt.blank with type := tREAD, size := if (tShape (opcOf (s.slotWord id 3))).1 = 8 then 1 else 2 }
    (.load id.key (dst (s.slotWord id 3)))
  have hcore (p : Pkt) (x : Holder) (addr : Nat) : ((s.atIssue id).sendTo id.pos addr p x).core id.key = s.core id.key := by
    rw [State.sendTo_frame]
    exact s.atIssue_core id id.key
  rw [State.loadStall_core, hcore] at hcourse hpos
  rw [State.atIssue_core] at htrack
  refine ⟨⟨k, (State.trackAt_congr htrack _ _).trans hk, ?_, ?_, ?_, ?_, hholder⟩, hcourse, hpos⟩ <;> rw [hpkt]
  · rfl
  · rw [State.opcOf_slotWord h]
    rfl
  · rfl
  · rfl
end

/-- Settles O13: the reach of the address picks the path, and each path has one lemma for the three loads. -/
theorem directLoads : Obligations.DirectLoads := by
  unfold Obligations.DirectLoads
  refine ⟨fun id s h hon => ?_, fun id s h hon => ?_, fun id s h hon => ?_⟩ <;> dsimp only
  · have hfin (id : CoreId) w u := State.taken_none u id.key w
    split
    case h_1 => exact exec_next_of_wf (c := .tLds id) h.1 s
    case h_2 hr => exact directLoad_own_yields (fin := fun _ _ u => u) exec_tLds hfin h hon hr
    case h_3 hr => exact directLoad_near_yields (fin := fun _ _ u => u) exec_tLds hfin h hon hr
    case h_4 hr => exact directLoad_cross_yields (fin := fun _ _ u => u) exec_tLds hfin h hon hr
    case h_5 hr => exact fun tag htag => directLoad_routed_yields (fin := fun _ _ u => u) exec_tLds hfin h hon htag hr
  · have hfin (id : CoreId) w u := State.taken_none u id.key w
    split
    case h_1 => exact exec_next_of_wf (c := .tLdv id) h.1 s
    case h_2 hr => exact directLoad_own_yields (fin := fun _ _ u => u) exec_tLdv hfin h hon hr
    case h_3 hr => exact directLoad_near_yields (fin := fun _ _ u => u) exec_tLdv hfin h hon hr
    case h_4 hr => exact directLoad_cross_yields (fin := fun _ _ u => u) exec_tLdv hfin h hon hr
    case h_5 hr => exact fun tag htag => directLoad_routed_yields (fin := fun _ _ u => u) exec_tLdv hfin h hon htag hr
  · have hfin (id : CoreId) w u := State.taken_advance u id.key w 1
    split
    case h_1 => exact exec_next_of_wf (c := .tRd id) h.1 s
    case h_2 hr => exact directLoad_own_yields (fin := fun id w u => u.advance id.key w 1) (dst := fun w => .vreg (tVx w)) exec_tRd hfin h hon hr
    case h_3 hr => exact directLoad_near_yields (fin := fun id w u => u.advance id.key w 1) (dst := fun w => .vreg (tVx w)) exec_tRd hfin h hon hr
    case h_4 hr => exact directLoad_cross_yields (fin := fun id w u => u.advance id.key w 1) (dst := fun w => .vreg (tVx w)) exec_tRd hfin h hon hr
    case h_5 hr => exact fun tag htag => directLoad_routed_yields (fin := fun id w u => u.advance id.key w 1) (dst := fun w => .vreg (tVx w)) exec_tRd hfin h hon htag hr

end Sys2Proof.Machine
end

section
/-! PROOFS. Direct stores (O14). -/

namespace Sys2Proof.Machine

/-! ## The state with the operation posted -/

/-- The state that a T slot issues in, with its operation posted. -/
def State.posting (s : State) (id : CoreId) (k : PostKind) : State := ((s.atIssue id).post id.key k).2

theorem State.posting_core (s : State) (id : CoreId) (k : PostKind) : (s.posting id k).core id.key =
    { s.core id.key with posted := (s.core id.key).posted ++ [⟨(s.core id.key).nextId, k, none⟩],
                         nextId := (s.core id.key).nextId + 1 } := by
  rw [State.posting, State.post_core, State.atIssue_core]

theorem State.posting_access (s : State) (id : CoreId) (k : PostKind) : (s.posting id k).access = s.access :=
  State.atIssue_access s id

theorem State.posting_creditUsed (s : State) (id : CoreId) (k : PostKind) : (s.posting id k).creditUsed = s.creditUsed :=
  State.atIssue_creditUsed s id

theorem State.posting_track (s : State) (id : CoreId) (k : PostKind) : (s.posting id k).track = s.track :=
  State.atIssue_track s id

theorem State.sameWords_posting (s : State) (id : CoreId) (k : PostKind) : s.SameWords (s.posting id k) id.pos :=
  ⟨s.atIssue_fuses id, fun _ hr => s.rd_atIssue id hr⟩

theorem State.posting_freeTag (s : State) (id : CoreId) (k : PostKind) : (s.posting id k).freeTag id.pos = s.freeTag id.pos :=
  State.freeTag_congr (s.posting_track id k) id.pos

/-- `t` has posted one operation of a core and taken `n` elements of its stream, and the core keeps its course. -/
def State.Posts (s t : State) (id : CoreId) (k : PostKind) (n : Nat) : Prop :=
  ((t.core id.key).stream (tTd (s.slotWord id 3))).pos
    = ((s.core id.key).stream (tTd (s.slotWord id 3))).pos + BitVec.ofNat 16 n ∧
  (t.core id.key).posted = (s.core id.key).posted ++ [⟨(s.core id.key).nextId, k, none⟩] ∧
  ((s.core id.key).ending = none → (t.core id.key).stall = (s.core id.key).stall)

/-- A T slot that issues whose effect has the core of the posted operation posts it. -/
theorem State.posts_of {s t v : State} {id : CoreId} {k : PostKind} {n : Nat} (hcore : v.core id.key = (s.posting id k).core id.key)
    (hcourse : (v.core id.key).ending = none → (t.core id.key).stall = (v.core id.key).stall ∧
      (t.core id.key).state = (v.core id.key).state)
    (hposted : (t.core id.key).posted = (v.core id.key).posted)
    (hpos : ((t.core id.key).stream (tTd (s.slotWord id 3))).pos
      = ((v.core id.key).stream (tTd (s.slotWord id 3))).pos + BitVec.ofNat 16 n) : s.Posts t id k n := by
  rw [hcore, State.posting_core] at hcourse hposted hpos
  exact ⟨hpos, hposted, fun h => (hcourse h).1⟩

/-! ## The paths of a direct store -/

/-- An access with the data of a store, whose holder is the posted operation `n` of a core. -/
def Access.storing (a : Access) (data : Vec) (poison : Lanes) (key n : Nat) : Access :=
  { a with data := data, poison := poison, holder := .posted key n }

/-- The packet of a direct store over the mesh. -/
def storePkt (len : Nat) (data : Vec) (poison : Lanes) : Pkt :=
  if len = 8 then { Pkt.blank with type := tWRITE, size := 1, inlineW := data.setWidth 64, inlinePoison := poison.setWidth 2 }
  else { Pkt.blank with type := tWRITE, size := 2, payload := data, poison := poison }

section
variable {s : State} {id : CoreId} {opc t off : Nat} {data : Vec} {poison : Lanes} (h : s.issues id 3 opc)
include h

/-- A direct store goes where the address goes in the state before its fetch was counted and it was posted. -/
theorem State.reach_posting : (s.posting id .store).reach id.pos (((s.atIssue id).core id.key).tDirect (s.slotWord id 3))
    (tShape (opcOf (s.slotWord id 3))).1 (tShape (opcOf (s.slotWord id 3))).2
      = s.reach id.pos ((s.core id.key).tDirect (s.slotWord id 3)) (tShape opc).1 (tShape opc).2 := by
  rw [State.opcOf_slotWord h, (s.sameWords_posting id .store).reach (CoreId.pos_lt h.1), State.atIssue_core]

theorem State.directStore_own
    (hr : s.reach id.pos ((s.core id.key).tDirect (s.slotWord id 3)) (tShape opc).1 (tShape opc).2 = .inr (.own off)) :
    (s.atIssue id).directStore id.pos id.core (s.slotWord id 3) t data poison = (s.posting id .store).addAccess
      (((s.posting id .store).coreAccess id.pos id.core id.pos id.core off (tShape opc).1 t (.write .own)).storing data poison
        id.key (s.core id.key).nextId) := by
  rw [← State.reach_posting h] at hr
  unfold State.posting CoreId.key at hr
  unfold State.directStore
  dsimp only
  rw [hr, State.opcOf_slotWord h, ← State.atIssue_core s id]
  rfl

theorem State.directStore_near {d q : Nat}
    (hr : s.reach id.pos ((s.core id.key).tDirect (s.slotWord id 3)) (tShape opc).1 (tShape opc).2 = .inr (.near d q off true)) :
    (s.atIssue id).directStore id.pos id.core (s.slotWord id 3) t data poison = (s.posting id .store).addAccess
      (((s.posting id .store).coreAccess id.pos id.core q (portAgent d) off (tShape opc).1 t
        (.write ((s.posting id .store).tileClass id.pos))).storing data poison id.key (s.core id.key).nextId) := by
  rw [← State.reach_posting h] at hr
  unfold State.posting CoreId.key at hr
  unfold State.directStore
  dsimp only
  rw [hr, State.opcOf_slotWord h, ← State.atIssue_core s id]
  rfl

theorem State.directStore_cross {d q : Nat}
    (hr : s.reach id.pos ((s.core id.key).tDirect (s.slotWord id 3)) (tShape opc).1 (tShape opc).2 = .inr (.near d q off false)) :
    (s.atIssue id).directStore id.pos id.core (s.slotWord id 3) t data poison =
      ((s.posting id .store).takeCredits (linkKey id.pos (28 + d)) 3 1).addAccess
      (((s.posting id .store).crossAccess id.pos d q off (tShape opc).1 t
        (.write ((s.posting id .store).tileClass id.pos))).storing data poison id.key (s.core id.key).nextId) := by
  rw [← State.reach_posting h] at hr
  unfold State.posting CoreId.key at hr
  unfold State.directStore
  dsimp only
  rw [hr, State.opcOf_slotWord h, ← State.atIssue_core s id]
  rfl

theorem State.directStore_routed {l : Nat}
    (hr : s.reach id.pos ((s.core id.key).tDirect (s.slotWord id 3)) (tShape opc).1 (tShape opc).2 = .inr (.routed l off)) :
    (s.atIssue id).directStore id.pos id.core (s.slotWord id 3) t data poison =
      (s.posting id .store).sendTo id.pos ((s.core id.key).tDirect (s.slotWord id 3)) (storePkt (tShape opc).1 data poison)
        (.posted id.key (s.core id.key).nextId) := by
  rw [← State.reach_posting h] at hr
  unfold State.posting CoreId.key at hr
  unfold State.directStore
  dsimp only
  rw [hr, State.opcOf_slotWord h, ← State.atIssue_core s id]
  rfl
end

theorem State.sendTo_core (u : State) (pos addr : Nat) (p : Pkt) (x : Holder) (j : Nat) : (u.sendTo pos addr p x).core j = u.core j := by
  rw [State.sendTo_frame]
  rfl

/-! ## What each path posts -/

section
variable {i : CoreId → Instr} {opc n : Nat} {data : Core → Nat → Vec} {poison : Core → Nat → Lanes}
  {fin : CoreId → Nat → State → State} {id : CoreId} {s : State}
  (he : ∀ s id, exec (i id) s = transferOp id opc s (fun w t u => fin id w
    (u.directStore id.pos id.core w t (data (u.core id.key) w) (poison (u.core id.key) w))))
  (hfin : ∀ (id : CoreId) w (u : State), u.Taken (fin id w u) id.key w n) (h : s.issues id 3 opc) (hon : s.slotActive id 3 = true)
include he hfin h hon

/-- A direct store that issues, by what its path makes of the state with the store posted. -/
theorem directStore_yields {v : State} {P : State → Prop}
    (hv : (s.atIssue id).directStore id.pos id.core (s.slotWord id 3) (s.core id.key).nextIssue
      (data (s.core id.key) (s.slotWord id 3)) (poison (s.core id.key) (s.slotWord id 3)) = v)
    (hcore : v.core id.key = (s.posting id .store).core id.key)
    (hP : ∀ t, s.Posts t id .store n → t.access = v.access → t.track = v.track → t.creditUsed = v.creditUsed → P t) :
    yields (i id) s P := by
  refine directAccess_yields (g := fun id w t u => u.directStore id.pos id.core w t (data (u.core id.key) w)
    (poison (u.core id.key) w)) (v := v) he hfin h hon (by rw [State.atIssue_core]; exact hv) ?_
  exact fun t haccess htrack hcredit hcourse hposted hpos =>
    hP t (State.posts_of hcore hcourse hposted hpos) haccess htrack hcredit

theorem directStore_own_yields {off : Nat}
    (hr : s.reach id.pos ((s.core id.key).tDirect (s.slotWord id 3)) (tShape opc).1 (tShape opc).2 = .inr (.own off)) :
    yields (i id) s (fun t => s.Posts t id .store n ∧
      ∃ a, t.access = s.access ++ [a] ∧ a.pos = id.pos ∧ a.agent = id.core ∧ a.whole = (off, (tShape opc).1) ∧ a.timed = true ∧
        a.task = .write .own ∧ a.data = data (s.core id.key) (s.slotWord id 3) ∧
        a.poison = poison (s.core id.key) (s.slotWord id 3) ∧ a.holder = .posted id.key (s.core id.key).nextId) := by
  refine directStore_yields he hfin h hon (State.directStore_own h hr) rfl fun t hposts haccess _ _ => ⟨hposts, ?_⟩
  exact ⟨_, haccess.trans (congrArg (· ++ _) (s.posting_access id .store)), rfl, rfl, rfl, rfl, rfl, rfl, rfl, rfl⟩

theorem directStore_near_yields {d q off : Nat} {same : Bool}
    (hr : s.reach id.pos ((s.core id.key).tDirect (s.slotWord id 3)) (tShape opc).1 (tShape opc).2 = .inr (.near d q off same)) :
    yields (i id) s (fun t => s.Posts t id .store n ∧
      (∃ a, t.access = s.access ++ [a] ∧ a.pos = q ∧ a.agent = portAgent d ∧ a.whole = (off, (tShape opc).1) ∧ a.timed = same ∧
        a.task = .write (s.tileClass id.pos) ∧ a.data = data (s.core id.key) (s.slotWord id 3) ∧
        a.poison = poison (s.core id.key) (s.slotWord id 3) ∧ a.holder = .posted id.key (s.core id.key).nextId) ∧
      SMap.get 0 t.creditUsed (creditKey (linkKey id.pos (28 + d)) 3)
        = SMap.get 0 s.creditUsed (creditKey (linkKey id.pos (28 + d)) 3) + (if same then 0 else 1)) := by
  have hclass := (s.sameWords_posting id .store).tileClass (CoreId.pos_lt h.1) id.pos
  cases same with
  | true =>
    refine directStore_yields he hfin h hon (State.directStore_near h hr) rfl
      fun t hposts haccess _ hcredit => ⟨hposts, ⟨_, haccess.trans (congrArg (· ++ _) (s.posting_access id .store)), rfl, rfl, rfl,
        rfl, congrArg Task.write hclass, rfl, rfl, rfl⟩, ?_⟩
    rw [hcredit]
    exact congrArg (fun m => SMap.get 0 m _) (s.posting_creditUsed id .store)
  | false =>
    refine directStore_yields he hfin h hon (State.directStore_cross h hr) rfl
      fun t hposts haccess _ hcredit => ⟨hposts, ⟨_, haccess.trans (congrArg (· ++ _) (s.posting_access id .store)), rfl, rfl, rfl,
        rfl, congrArg Task.write hclass, rfl, rfl, rfl⟩, ?_⟩
    rw [hcredit]
    exact (State.takeCredits_used (s.posting id .store) (linkKey id.pos (28 + d)) 3 1).trans (by rw [State.posting_creditUsed]; rfl)

theorem directStore_routed_yields {l off tag : Nat} (htag : s.freeTag id.pos = some tag)
    (hr : s.reach id.pos ((s.core id.key).tDirect (s.slotWord id 3)) (tShape opc).1 (tShape opc).2 = .inr (.routed l off)) :
    yields (i id) s (fun t => s.Posts t id .store n ∧
      ∃ k p, t.trackAt id.pos tag = some k ∧ p = storePkt (tShape opc).1 (data (s.core id.key) (s.slotWord id 3))
          (poison (s.core id.key) (s.slotWord id 3)) ∧ k.pkt.type = p.type ∧
        k.pkt.addr = BitVec.ofNat 48 ((s.core id.key).tDirect (s.slotWord id 3)) ∧ k.pkt.size = p.size ∧ k.pkt.inlineW = p.inlineW ∧
        k.pkt.payload = p.payload ∧ k.pkt.poison = p.poison ∧ k.pkt.en = p.en ∧
        k.holder = .posted id.key (s.core id.key).nextId) := by
  refine directStore_yields he hfin h hon (State.directStore_routed h hr) (State.sendTo_core _ _ _ _ _ _)
    fun t hposts _ htrack _ => ⟨hposts, ?_⟩
  obtain ⟨k, hk, hpkt, hholder⟩ := State.sendTo_trackAt ((s.posting_freeTag id .store).trans htag)
    ((s.core id.key).tDirect (s.slotWord id 3)) (storePkt (tShape opc).1 (data (s.core id.key) (s.slotWord id 3))
      (poison (s.core id.key) (s.slotWord id 3))) (.posted id.key (s.core id.key).nextId)
  refine ⟨k, _, (State.trackAt_congr htrack _ _).trans hk, rfl, ?_, ?_, ?_, ?_, ?_, ?_, ?_, hholder⟩ <;> rw [hpkt] <;> rfl
end

/-- The data of a store of one scalar register. -/
def Core.scalarData (c : Core) (w : Nat) : Vec := (c.sreg (tSb w)).val.setWidth 2048
def Core.scalarPoison (c : Core) (w : Nat) : Lanes := (c.sreg (tSb w)).poison.setWidth 64
/-- The data of a store of one vector register. -/
def Core.vectorData (c : Core) (w : Nat) : Vec := (c.vreg (tVx w)).val
def Core.vectorPoison (c : Core) (w : Nat) : Lanes := (c.vreg (tVx w)).poison

/-- Settles O14: the reach of the address picks the path, and each path has one lemma for the three stores. -/
theorem directStores : Obligations.DirectStores := by
  unfold Obligations.DirectStores
  refine ⟨fun id s h hon => ?_, fun id s h hon => ?_, fun id s h hon => ?_⟩ <;> dsimp only
  · have hfin (id : CoreId) w u := State.taken_none u id.key w
    have he (s : State) (id : CoreId) : exec (.tSts id) s = transferOp id 0x03 s (fun w t u =>
      u.directStore id.pos id.core w t ((u.core id.key).scalarData w) ((u.core id.key).scalarPoison w)) := rfl
    split
    case h_1 => exact exec_next_of_wf (c := .tSts id) h.1 s
    case h_2 hr =>
      exact directStore_own_yields (fin := fun _ _ u => u)
        (data := Core.scalarData) (poison := Core.scalarPoison) he hfin h hon hr
    case h_3 hr =>
      exact directStore_near_yields (fin := fun _ _ u => u)
        (data := Core.scalarData) (poison := Core.scalarPoison) he hfin h hon hr
    case h_4 hr =>
      intro tag htag
      refine (directStore_routed_yields (fin := fun _ _ u => u)
        (data := Core.scalarData) (poison := Core.scalarPoison) he hfin h hon htag hr).mono ?_
      rintro t ⟨hposts, k, -, hk, rfl, htype, haddr, hsize, hinline, -, -, hen, hholder⟩
      refine ⟨hposts, k, hk, htype, haddr, ⟨hsize, hinline.trans ?_⟩, hen, hholder⟩
      exact (BitVec.setWidth_setWidth_of_le _ (by decide : 64 ≤ 2048)).trans (BitVec.setWidth_eq _)
  · have hfin (id : CoreId) w u := State.taken_none u id.key w
    have he (s : State) (id : CoreId) : exec (.tStv id) s = transferOp id 0x05 s (fun w t u =>
      u.directStore id.pos id.core w t ((u.core id.key).vectorData w) ((u.core id.key).vectorPoison w)) := rfl
    split
    case h_1 => exact exec_next_of_wf (c := .tStv id) h.1 s
    case h_2 hr =>
      exact directStore_own_yields (fin := fun _ _ u => u)
        (data := Core.vectorData) (poison := Core.vectorPoison) he hfin h hon hr
    case h_3 hr =>
      exact directStore_near_yields (fin := fun _ _ u => u)
        (data := Core.vectorData) (poison := Core.vectorPoison) he hfin h hon hr
    case h_4 hr =>
      intro tag htag
      refine (directStore_routed_yields (fin := fun _ _ u => u)
        (data := Core.vectorData) (poison := Core.vectorPoison) he hfin h hon htag hr).mono ?_
      rintro t ⟨hposts, k, -, hk, rfl, htype, haddr, hsize, -, hpayload, hpoison, hen, hholder⟩
      exact ⟨hposts, k, hk, htype, haddr, ⟨hsize, hpayload, hpoison⟩, hen, hholder⟩
  · have hfin (id : CoreId) w u := State.taken_advance u id.key w 1
    have he (s : State) (id : CoreId) : exec (.tWr id) s = transferOp id 0x07 s (fun w t u =>
      (u.directStore id.pos id.core w t ((u.core id.key).vectorData w) ((u.core id.key).vectorPoison w)).advance id.key w 1) := rfl
    split
    case h_1 => exact exec_next_of_wf (c := .tWr id) h.1 s
    case h_2 hr =>
      exact directStore_own_yields (fin := fun id w u => u.advance id.key w 1)
        (data := Core.vectorData) (poison := Core.vectorPoison) he hfin h hon hr
    case h_3 hr =>
      exact directStore_near_yields (fin := fun id w u => u.advance id.key w 1)
        (data := Core.vectorData) (poison := Core.vectorPoison) he hfin h hon hr
    case h_4 hr =>
      intro tag htag
      refine (directStore_routed_yields (fin := fun id w u => u.advance id.key w 1)
        (data := Core.vectorData) (poison := Core.vectorPoison) he hfin h hon htag hr).mono ?_
      rintro t ⟨hposts, k, -, hk, rfl, htype, haddr, hsize, -, hpayload, hpoison, hen, hholder⟩
      exact ⟨hposts, k, hk, htype, haddr, ⟨hsize, hpayload, hpoison⟩, hen, hholder⟩

end Sys2Proof.Machine
end

section
/-! PROOFS. Packets and adds sent by a core (O15). -/

namespace Sys2Proof.Machine

/-- A packet carries what a send of the core `c` carries: its vector register, and the sync attachment of its sb. -/
structure Pkt.Carries (p : Pkt) (c : Core) (key w : Nat) : Prop where
  size : p.size = 2
  payload : p.payload = (c.vreg (tVx w)).val
  poison : p.poison = (c.vreg (tVx w)).poison
  obj : p.obj = (c.sreg (tSb w)).val.setWidth 17
  add : p.add = ((c.sreg (tSb w)).val >>> 32).setWidth 16
  en : p.en = (c.sreg (tSb w)).val.getLsbD 63
  guard_ : p.guard_ = some (key, c.nextId)

theorem ofNat_bitsOf (v : W64) (lo len : Nat) : BitVec.ofNat len (bitsOf v.toNat lo len) = (v >>> lo).setWidth len := by
  apply BitVec.eq_of_toNat_eq
  simp [bitsOf]

theorem Core.sendPkt_carries (c : Core) (key w : Nat) : (c.sendPkt key c.nextId w).Carries c key w where
  size := rfl
  payload := rfl
  poison := rfl
  obj := (ofNat_bitsOf _ _ _).trans (congrArg _ (BitVec.ushiftRight_zero _))
  add := ofNat_bitsOf _ _ _
  en := BitVec.testBit_toNat _
  guard_ := rfl

/-- A send that issues, by what it makes of the state with the operation posted. -/
theorem posts_of_transfer {i : Instr} {id : CoreId} {opc : Nat} {s v : State} {k : PostKind} {f : Nat → Nat → State → State}
    {P : State → Prop} (h : s.issues id 3 opc) (hon : s.slotActive id 3 = true) (he : exec i s = transferOp id opc s f)
    (hv : f (s.slotWord id 3) (s.core id.key).nextIssue (s.atIssue id) = v)
    (hcore : v.core id.key = (s.posting id k).core id.key)
    (hP : ∀ t, (t.core id.key).posted = (s.core id.key).posted ++ [⟨(s.core id.key).nextId, k, none⟩] → s.IssuedT v t id → P t) :
    yields i s P :=
  transferSlot_active h hon he fun t _ ht => by
    rw [hv] at ht
    refine hP t (ht.data.posted.trans ?_) ht
    rw [hcore, State.posting_core]

/-- The packet that a send of a core makes in the state it issues in. -/
def State.sending (s : State) (id : CoreId) : Pkt := (s.core id.key).sendPkt id.key (s.core id.key).nextId (s.slotWord id 3)

section
variable {id : CoreId} {s : State} {tag : Nat} (htag : s.freeTag id.pos = some tag)
include htag

/-- A packet sent from the state with its operation posted takes the free tracking entry. -/
theorem State.posting_sendTo (addr : Nat) (x : Holder) : ∃ k,
    ((s.posting id .send).sendTo id.pos addr (s.sending id) x).trackAt id.pos tag = some k ∧
      k.pkt.Carries (s.core id.key) id.key (s.slotWord id 3) ∧ k.pkt.type = tWRITE ∧ k.pkt.tag = tag ∧
      k.pkt.addr = BitVec.ofNat 48 addr ∧ k.holder = x := by
  obtain ⟨k, hk, hpkt, hholder⟩ := State.sendTo_trackAt ((s.posting_freeTag id .send).trans htag) addr (s.sending id) x
  have hcarries := (s.core id.key).sendPkt_carries id.key (s.slotWord id 3)
  refine ⟨k, hk, ?_, ?_, ?_, ?_, hholder⟩ <;> rw [hpkt]
  · exact ⟨hcarries.size, hcarries.payload, hcarries.poison, hcarries.obj, hcarries.add, hcarries.en, hcarries.guard_⟩
  · rfl
  · rfl
  · rfl

/-- The same of a packet for a fabric port. -/
theorem State.posting_sendRouted (rt : Route) (addr : Nat) (x : Holder) (index : Nat) (disp : Int) : ∃ k,
    ((s.posting id .send).sendRouted id.pos rt.port ((s.sending id).toFabric addr rt) x index disp).trackAt id.pos tag = some k ∧
      k.pkt.Carries (s.core id.key) id.key (s.slotWord id 3) ∧ k.pkt.type = tWRITE ∧ k.pkt.addr = BitVec.ofNat 48 addr ∧
      k.holder = x ∧ k.dest = 560 + rt.port ∧ k.pkt.port = some rt.port ∧
      k.pkt.inlineW = BitVec.ofNat 64 (rt.record + 64 * rt.kind) := by
  obtain ⟨k, hk, hpkt, hholder, hdest⟩ := State.sendRouted_trackAt ((s.posting_freeTag id .send).trans htag) rt.port
    ((s.sending id).toFabric addr rt) x index disp
  have hcarries := (s.core id.key).sendPkt_carries id.key (s.slotWord id 3)
  refine ⟨k, hk, ?_, ?_, ?_, hholder, hdest, ?_, ?_⟩ <;> rw [hpkt]
  · exact ⟨hcarries.size, hcarries.payload, hcarries.poison, hcarries.obj, hcarries.add, hcarries.en, hcarries.guard_⟩
  all_goals rfl
end

theorem State.sendRouted_core (u : State) (pos port : Nat) (p : Pkt) (x : Holder) (index : Nat) (disp : Int) (j : Nat) :
    (u.sendRouted pos port p x index disp).core j = u.core j := by
  rw [State.sendRouted_frame]
  rfl

section
variable {id : CoreId} {s : State} {tag : Nat}

theorem tSend_sends (h : s.issues id 3 0x08) (hon : s.slotActive id 3 = true) (htag : s.freeTag id.pos = some tag) :
    yields (.tSend id) s (fun t =>
      (t.core id.key).posted = (s.core id.key).posted ++ [⟨(s.core id.key).nextId, .send, none⟩] ∧
      ∃ k, t.trackAt id.pos tag = some k ∧ k.pkt.Carries (s.core id.key) id.key (s.slotWord id 3) ∧ k.pkt.type = tWRITE ∧
        k.pkt.tag = tag ∧ k.pkt.addr = ((s.core id.key).sreg (tSa (s.slotWord id 3))).val.setWidth 48 ∧
        k.holder = .posted id.key (s.core id.key).nextId) := by
  refine posts_of_transfer (v := (s.posting id .send).sendTo id.pos ((s.core id.key).sreg (tSa (s.slotWord id 3))).val.toNat
    (s.sending id) (.posted id.key (s.core id.key).nextId)) h hon (exec_tSend s id) ?_ (State.sendTo_core _ _ _ _ _ _) fun t hposted ht => ?_
  · dsimp only
    rw [State.sending, ← State.atIssue_core s id]
    rfl
  · obtain ⟨k, hk, hcarries, htype, htag', haddr, hholder⟩ := State.posting_sendTo htag
      ((s.core id.key).sreg (tSa (s.slotWord id 3))).val.toNat (.posted id.key (s.core id.key).nextId)
    exact ⟨hposted, k, (State.trackAt_congr ht.track _ _).trans hk, hcarries, htype, htag',
      haddr.trans (BitVec.ofNat_toNat _ _), hholder⟩

theorem tSendr_sends (h : s.issues id 3 0x0A) (hon : s.slotActive id 3 = true) (htag : s.freeTag id.pos = some tag) {rt : Route}
    (hrt : rt = s.route id.pos (((s.core id.key).sreg (tSa (s.slotWord id 3))).val.toNat % 2 ^ 10)) :
    yields (.tSendr id) s (fun t =>
      (t.core id.key).posted = (s.core id.key).posted ++ [⟨(s.core id.key).nextId, .send, none⟩] ∧
      ∃ k, t.trackAt id.pos tag = some k ∧ k.pkt.Carries (s.core id.key) id.key (s.slotWord id 3) ∧ k.pkt.type = tWRITE ∧
        k.pkt.addr = BitVec.ofNat 48 (rt.daddr + tImmS (s.slotWord id 3)).toNat ∧
        k.holder = .posted id.key (s.core id.key).nextId ∧
        (rt.kind = 1 ∨ (k.dest = 560 + rt.port ∧ k.pkt.port = some rt.port ∧
          k.pkt.inlineW = BitVec.ofNat 64 (rt.record + 64 * rt.kind)))) := by
  have hroute : (s.atIssue id).route id.pos (bitsOf ((s.core id.key).sreg (tSa (s.slotWord id 3))).val.toNat 0 10) = rt := by
    rw [(s.sameWords_atIssue id).route id.pos (bitsOf_lt _ _ _), hrt, bitsOf_eq, Nat.pow_zero, Nat.div_one]
  by_cases hkind : rt.kind = 1
  · refine posts_of_transfer (v := (s.posting id .send).sendTo id.pos (rt.daddr + tImmS (s.slotWord id 3)).toNat
      (s.sending id) (.posted id.key (s.core id.key).nextId)) h hon (exec_tSendr s id) ?_ (State.sendTo_core _ _ _ _ _ _) fun t hposted ht => ?_
    · dsimp only
      rw [State.atIssue_core, hroute, if_pos hkind, State.post_fst, State.atIssue_core]
      rfl
    · obtain ⟨k, hk, hcarries, htype, -, haddr, hholder⟩ := State.posting_sendTo htag
        (rt.daddr + tImmS (s.slotWord id 3)).toNat (.posted id.key (s.core id.key).nextId)
      exact ⟨hposted, k, (State.trackAt_congr ht.track _ _).trans hk, hcarries, htype, haddr, hholder, .inl hkind⟩
  · refine posts_of_transfer (v := (s.posting id .send).sendRouted id.pos rt.port
      ((s.sending id).toFabric (rt.daddr + tImmS (s.slotWord id 3)).toNat rt) (.posted id.key (s.core id.key).nextId)
      (bitsOf ((s.core id.key).sreg (tSa (s.slotWord id 3))).val.toNat 0 10) (tImmS (s.slotWord id 3))) h hon (exec_tSendr s id) ?_
      (State.sendRouted_core _ _ _ _ _ _ _ _) fun t hposted ht => ?_
    · dsimp only
      rw [State.atIssue_core, hroute, if_neg hkind, State.post_fst, State.atIssue_core]
      rfl
    · obtain ⟨k, hk, hcarries, htype, haddr, hholder, hport⟩ := State.posting_sendRouted htag rt
        (rt.daddr + tImmS (s.slotWord id 3)).toNat (.posted id.key (s.core id.key).nextId)
        (bitsOf ((s.core id.key).sreg (tSa (s.slotWord id 3))).val.toNat 0 10) (tImmS (s.slotWord id 3))
      exact ⟨hposted, k, (State.trackAt_congr ht.track _ _).trans hk, hcarries, htype, haddr, hholder, .inr hport⟩

theorem tSendred_sends (h : s.issues id 3 0x15) (hon : s.slotActive id 3 = true) :
    yields (.tSendred id) s (fun t =>
      (t.core id.key).posted = (s.core id.key).posted ++ [⟨(s.core id.key).nextId, .send, none⟩] ∧ t.track = s.track ∧
      ∃ x, t.net = s.net ++ [x] ∧ x.place = .router id.pos 0 ∧ x.pkt.Carries (s.core id.key) id.key (s.slotWord id 3) ∧
        x.pkt.type = tRED ∧ x.pkt.redid = bitsOf (s.slotWord id 3) 36 10 ∧ x.pkt.epoch = s.epoch id.pos ∧
        x.pkt.addr = ((s.core id.key).sreg (tSa (s.slotWord id 3))).val.setWidth 48) := by
  have hcarries := (s.core id.key).sendPkt_carries id.key (s.slotWord id 3)
  refine posts_of_transfer (v := (s.posting id .send).place
    { (s.posting id .send).stamp id.pos 0 { s.sending id with
        type := tRED, addr := BitVec.ofNat 48 ((s.core id.key).sreg (tSa (s.slotWord id 3))).val.toNat
        redid := bitsOf (s.slotWord id 3) 36 10 } with guard_ := some (id.key, (s.core id.key).nextId) }
    (.router id.pos 0)) h hon (exec_tSendred s id) ?_ rfl fun t hposted ht => ?_
  · dsimp only
    rw [State.sending, ← State.atIssue_core s id]
    rfl
  · refine ⟨hposted, ht.track.trans (s.posting_track id .send), _, ht.net.trans (congrArg (· ++ _) (s.atIssue_net id)), rfl,
      ⟨hcarries.size, hcarries.payload, hcarries.poison, hcarries.obj, hcarries.add, hcarries.en, rfl⟩, rfl, rfl, ?_,
      (BitVec.ofNat_toNat _ _)⟩
    exact (s.sameWords_posting id .send).epoch id.pos

theorem tAdd_sends (h : s.issues id 3 0x0B) (hon : s.slotActive id 3 = true) :
    yields (.tAdd id) s (fun t =>
      (t.core id.key).posted = (s.core id.key).posted ++ [⟨(s.core id.key).nextId, .add, none⟩] ∧
      ∃ m, t.msgs = s.msgs ++ [m] ∧ m.set = false ∧
        m.obj = bitsOf ((s.core id.key).sreg (tSa (s.slotWord id 3))).val.toNat 3 17 ∧
        m.value = ((s.core id.key).sreg (tSb (s.slotWord id 3))).val.setWidth 32 ∧ m.kind = 0 ∧
        m.guard_ = some (id.key, (s.core id.key).nextId) ∧ m.pos = id.pos ∧ m.void = false) := by
  refine posts_of_transfer (k := .add) h hon (exec_tAdd s id) rfl rfl fun t hposted ht => ?_
  refine ⟨hposted, _, ht.msgs.trans (congrArg (· ++ _) (s.atIssue_msgs id)), rfl, ?_, ?_, rfl, ?_, rfl, rfl⟩ <;>
    dsimp only <;> rw [← State.atIssue_core s id]
  rfl
end

/-- Settles O15. -/
theorem sends : Obligations.Sends := by
  unfold Obligations.Sends
  refine ⟨fun id s tag h hon htag => (tSend_sends h hon htag).mono ?_, fun id s tag h hon htag => (tSendr_sends h hon htag rfl).mono ?_,
    fun id s h hon => (tSendred_sends h hon).mono ?_, fun id s h hon => tAdd_sends h hon⟩
  · rintro t ⟨hposted, k, hk, ⟨hsize, hpay, hpoison, hobj, hadd, hen, hguard⟩, hrest⟩
    exact ⟨hposted, k, hk, ⟨hsize, hpay, hpoison, hobj, hadd, hen, hguard⟩, hrest⟩
  · rintro t ⟨hposted, k, hk, ⟨hsize, hpay, hpoison, hobj, hadd, hen, hguard⟩, hrest⟩
    exact ⟨hposted, k, hk, ⟨hsize, hpay, hpoison, hobj, hadd, hen, hguard⟩, hrest⟩
  · rintro t ⟨hposted, htrack, x, hx, hplace, ⟨hsize, hpay, hpoison, hobj, hadd, hen, hguard⟩, hrest⟩
    exact ⟨hposted, htrack, x, hx, hplace, ⟨hsize, hpay, hpoison, hobj, hadd, hen, hguard⟩, hrest⟩

end Sys2Proof.Machine
end

section
/-! PROOFS. A result lands in its destination (O17). -/

namespace Sys2Proof.Machine

/-! ## Digits and lanes -/

theorem packDigits_lt (w : Nat) (f : Nat → Nat) (n : Nat) : packDigits w f n < 2 ^ (w * n) := by
  induction n with
  | zero => simp [packDigits]
  | succ n ih =>
    have hd : f n % 2 ^ w < 2 ^ w := Nat.mod_lt _ (Nat.two_pow_pos _)
    calc packDigits w f n + f n % 2 ^ w * 2 ^ (w * n)
        < 2 ^ (w * n) + f n % 2 ^ w * 2 ^ (w * n) := by omega
      _ = (f n % 2 ^ w + 1) * 2 ^ (w * n) := by rw [Nat.succ_mul, Nat.add_comm]
      _ ≤ 2 ^ w * 2 ^ (w * n) := Nat.mul_le_mul_right _ hd
      _ = 2 ^ (w * (n + 1)) := by rw [← Nat.pow_add, Nat.mul_succ, Nat.add_comm]

/-- Digit `i` of a number made of digits. -/
theorem bitsOf_packDigits (w : Nat) (f : Nat → Nat) {n i : Nat} (h : i < n) : bitsOf (packDigits w f n) (w * i) w = f i % 2 ^ w := by
  induction n with
  | zero => omega
  | succ n ih =>
    rw [packDigits]
    rcases Nat.lt_succ_iff_lt_or_eq.mp h with hi | rfl
    · have hle : w * i + w ≤ w * n := by
        rw [← Nat.mul_succ]
        exact Nat.mul_le_mul_left _ hi
      rw [bitsOf_eq, ← Nat.mod_mul_right_div_self, ← Nat.pow_add, ← Nat.add_mod_mod,
        Nat.mod_eq_zero_of_dvd ((Nat.pow_dvd_pow 2 hle).trans (Nat.dvd_mul_left _ _)), Nat.add_zero, Nat.pow_add,
        Nat.mod_mul_right_div_self, ← bitsOf_eq, ih hi]
    · rw [bitsOf_eq, Nat.add_mul_div_right _ _ (Nat.two_pow_pos _), Nat.div_eq_of_lt (packDigits_lt w f i), Nat.zero_add,
        Nat.mod_mod]

theorem Vec.lane_ofLanes (f : Nat → W32) {j : Nat} (h : j < 64) : (Vec.ofLanes f).lane j = f j := by
  apply BitVec.eq_of_toNat_eq
  rw [Vec.lane, BitVec.extractLsb'_toNat, Vec.ofLanes, BitVec.toNat_ofNat, Nat.mod_eq_of_lt (packDigits_lt 32 _ 64)]
  exact (bitsOf_packDigits 32 _ h).trans (Nat.mod_eq_of_lt (f j).isLt)

theorem Vec.lane_merge (mask : Lanes) (new old : Vec) {j : Nat} (h : j < 64) :
    (Vec.merge mask new old).lane j = if mask.getLsbD j then new.lane j else old.lane j :=
  Vec.lane_ofLanes _ h

/-- The poison of lanes merged under a mask. -/
theorem getLsbD_merge (mask new old : Lanes) (j : Nat) : ((new &&& mask) ||| (old &&& ~~~ mask)).getLsbD j =
    if mask.getLsbD j then new.getLsbD j else old.getLsbD j := by
  have hold (h : ¬ j < 64) : old.getLsbD j = false := BitVec.getLsbD_of_ge _ _ (by omega)
  simp only [BitVec.getLsbD_or, BitVec.getLsbD_and, BitVec.getLsbD_not]
  by_cases hm : mask.getLsbD j <;> by_cases hj : j < 64 <;> simp_all

/-! ## A result landed -/

section
variable (c : Core) (p : Pend)

/-- A result lands in registers only. -/
theorem Core.land_rest : (c.land p).pend = c.pend ∧ (c.land p).wb = c.wb ∧ (c.land p).t = c.t ∧ (c.land p).pc = c.pc ∧
    (c.land p).state = c.state := by
  unfold Core.land
  split <;> exact ⟨rfl, rfl, rfl, rfl, rfl⟩

variable {c p}

theorem Core.sreg_congr {c d : Core} (h : d.s = c.s) (n : Nat) : d.sreg n = c.sreg n := by rw [Core.sreg, Core.sreg, h]
theorem Core.preg_congr {c d : Core} (h : d.p = c.p) (n : Nat) : d.preg n = c.preg n := by rw [Core.preg, Core.preg, h]

theorem Core.sreg_land_same {n : Nat} (hn : 0 < n) (h : p.dst = .sreg n) :
    (c.land p).sreg n = ⟨p.val.setWidth 64, p.poison.setWidth 2⟩ := by
  unfold Core.land
  simp only [h]
  unfold Core.sreg
  rw [if_neg (Nat.pos_iff_ne_zero.mp hn), SMap.get_put_same]

theorem Core.sreg_land_ne {n : Nat} (h : p.dst ≠ .sreg n) : (c.land p).sreg n = c.sreg n := by
  unfold Core.land
  split
  next m hm =>
    unfold Core.sreg
    dsimp only
    rw [SMap.get_put_ne _ _ _ _ fun e => h (hm.trans (congrArg Dst.sreg e.symm))]
  all_goals exact Core.sreg_congr (by rfl) n

theorem Core.preg_land_same {n : Nat} (hn : 0 < n) (h : p.dst = .preg n) : (c.land p).preg n = p.val.setWidth 64 := by
  unfold Core.land
  simp only [h]
  unfold Core.preg
  rw [if_neg (Nat.pos_iff_ne_zero.mp hn), SMap.get_put_same]

theorem Core.preg_land_ne {n : Nat} (h : p.dst ≠ .preg n) : (c.land p).preg n = c.preg n := by
  unfold Core.land
  split
  case h_2 m hm =>
    unfold Core.preg
    dsimp only
    rw [SMap.get_put_ne _ _ _ _ fun e => h (hm.trans (congrArg Dst.preg e.symm))]
  all_goals exact Core.preg_congr (by rfl) n

theorem Core.vreg_land_same {n : Nat} (h : p.dst = .vreg n) : (c.land p).vreg n =
    ⟨Vec.merge p.mask p.val (c.vreg n).val, (p.poison &&& p.mask) ||| ((c.vreg n).poison &&& ~~~ p.mask)⟩ := by
  unfold Core.land
  simp only [h]
  unfold Core.vreg
  dsimp only
  rw [SMap.get_put_same]

theorem Core.vreg_land_ne {n : Nat} (h : p.dst ≠ .vreg n) : (c.land p).vreg n = c.vreg n := by
  unfold Core.land
  split
  case h_3 m hm =>
    unfold Core.vreg
    dsimp only
    rw [SMap.get_put_ne _ _ _ _ fun e => h (hm.trans (congrArg Dst.vreg e.symm))]
  all_goals rfl

/-- The rows of the accumulators, each of 64 rows. -/
theorem Core.accRow_land (hrow : ∀ a r, p.dst = .accRow a r → r < 64) {a r : Nat} (hr : r < 64) : (c.land p).accRow a r =
    if p.dst = .accRow a r then p.val else if p.dst = .accAll a then 0 else c.accRow a r := by
  cases hd : p.dst with
  | accRow b q =>
    have hq := hrow b q hd
    simp only [Core.land, hd, Core.accRow, Dst.accRow.injEq, reduceCtorEq, if_false]
    split
    next e => rw [e.1, e.2, SMap.get_put_same]
    next e => rw [SMap.get_put_ne _ _ _ _ (by omega)]
  | accAll b =>
    simp only [Core.land, hd, Core.accRow, Dst.accAll.injEq, reduceCtorEq, if_false]
    rw [SMap.clear, SMap.get_filter 0 c.acc (fun k => decide (k < b * 64) || decide (b * 64 + 64 ≤ k))]
    by_cases e : b = a
    · rw [if_pos e, if_neg]
      simp only [Bool.or_eq_true, decide_eq_true_eq]
      omega
    · rw [if_neg e, if_pos]
      simp only [Bool.or_eq_true, decide_eq_true_eq]
      omega
  | sreg _ | preg _ | vreg _ | ctl _ => simp [Core.land, hd, Core.accRow]
end

/-! ## The writeback -/

section
variable (s : State) (key : Nat) (p : Pend)

theorem State.writeCr_cores (pos core i v : Nat) : (s.writeCr pos core i v).cores = s.cores ∧
    (s.writeCr pos core i v).faults = s.faults := by
  unfold State.writeCr
  repeat' split
  all_goals exact ⟨rfl, rfl⟩

/-- A result landed: its core without it among its results on their way, its destination written. -/
theorem State.landPend_parts : (s.landPend key p).cores
      = (s.modCore key (fun c => ({ c with pend := c.pend.erase p }).land p)).cores ∧ (s.landPend key p).faults = s.faults := by
  unfold State.landPend
  dsimp only
  split
  · exact State.writeCr_cores _ _ _ _ _
  · exact ⟨rfl, rfl⟩

theorem State.landPend_of_ne (h : ∀ n, p.dst ≠ .ctl n) :
    s.landPend key p = s.modCore key (fun c => ({ c with pend := c.pend.erase p }).land p) := by
  unfold State.landPend
  dsimp only
  split
  next i hi => exact absurd hi (h i)
  next => rfl

variable {p}

theorem State.landPend_of_ctl {i : Nat} (h : p.dst = .ctl i) : s.landPend key p =
    (s.modCore key (fun c => ({ c with pend := c.pend.erase p }).land p)).writeCr (key / 8) (key % 8) i
      (p.val.setWidth 64).toNat := by
  unfold State.landPend
  rw [h]
end

theorem CoreId.key_parts {id : CoreId} (hw : id.wf = true) : id.key / 8 = id.pos ∧ id.key % 8 = id.core := by
  simp only [CoreId.wf, Bool.and_eq_true, decide_eq_true_eq] at hw
  unfold CoreId.key coreKey
  omega

/-- The words that a landing result leaves, by its destination. -/
theorem State.landPend_words (s : State) {id : CoreId} (hw : id.wf = true) (p : Pend) :
    ((∀ n, p.dst ≠ .ctl n) → (s.landPend id.key p).csr = s.csr) ∧
    (p.dst = .ctl 0x08 → (s.landPend id.key p).rd (TILE_CORE_TRAPVEC id.pos id.core)
      = (p.val.setWidth 64).toNat &&& (0x7FF + 2 ^ 63)) ∧
    (p.dst = .ctl 0x06 → (s.landPend id.key p).rd (TILE_CORE_SRSEED id.pos id.core) = (p.val.setWidth 64).toNat) ∧
    (p.dst = .ctl 0x01 → (s.landPend id.key p).csr = s.csr) := by
  obtain ⟨hpos, hcore⟩ := CoreId.key_parts hw
  have hlt : (p.val.setWidth 64).toNat < 2 ^ 64 := BitVec.isLt _
  refine ⟨fun h => ?_, fun h => ?_, fun h => ?_, fun h => ?_⟩
  · rw [State.landPend_of_ne _ _ _ h]
    rfl
  · rw [State.landPend_of_ctl _ _ h, hpos, hcore]
    exact (State.rd_wr_same _ _ _).trans (Nat.mod_eq_of_lt (lt_of_le_of_lt Nat.and_le_left hlt))
  · rw [State.landPend_of_ctl _ _ h, hpos, hcore]
    exact (State.rd_wr_same _ _ _).trans (Nat.mod_eq_of_lt hlt)
  · rw [State.landPend_of_ctl _ _ h]
    rfl

theorem registerWriteback_yields {id : CoreId} {s : State} {p : Pend} (hw : id.wf = true)
    (hp : firstPend (s.core id.key).pend = some p) (hn : ∀ n, s.issueFrom id.pos (s.core id.key) = some n → p.due ≤ n) :
    yields (.registerWriteback id) s (fun t => s.onlyCores t ∧ t.faults = s.faults ∧
      t.cores = ((s.atCycle (groveOf id.pos) (p.due - 1)).landPend id.key p).cores ∧
      t.csr = ((s.atCycle (groveOf id.pos) (p.due - 1)).landPend id.key p).csr) := by
  have he : exec (.registerWriteback id) s = answerCore (groveOf id.pos) (p.due - 1) s (fun u => u.landPend id.key p) := by
    rw [exec_registerWriteback, execRegisterWriteback]
    simp only [hw, hp, Bool.not_true, Bool.false_eq_true, if_false]
    rw [if_neg]
    cases hi : s.issueFrom id.pos (s.core id.key) with
    | none => simp
    | some n => simpa using hn n hi
  exact answerCore_yields he fun t ho hcores hcsr hfaults => ⟨ho, hfaults.trans (State.landPend_parts _ _ _).2, hcores, hcsr⟩

/-- Settles O17: the answer's core is that of `landPend`, and each kind of destination has its lemma. -/
theorem resultsLand : Obligations.ResultsLand := by
  unfold Obligations.ResultsLand
  intro id s p hw hp hrow
  constructor
  · rintro ⟨n, hn, hlt⟩
    rw [exec_registerWriteback, execRegisterWriteback]
    simp only [hw, hp, hn, Bool.not_true, Bool.false_eq_true, if_false, Option.any_some, decide_eq_true hlt, if_true]
    rfl
  · intro hn
    refine (registerWriteback_yields hw hp hn).mono fun t ⟨ho, hfaults, hcores, hcsr⟩ => ?_
    have hcores' := hcores.trans (State.landPend_parts _ id.key p).1
    have hcore : t.core id.key = ({ s.core id.key with pend := (s.core id.key).pend.erase p }).land p :=
      (State.core_congr hcores' _).trans (State.core_modCore_same _ _ _)
    have hother (j : Nat) (hj : j ≠ id.key) : t.core j = s.core j :=
      (State.core_congr hcores' _).trans (State.core_modCore_ne (s.atCycle _ _) _ hj)
    obtain ⟨hwords, htrapvec, hseed, hcycle⟩ :=
      (s.atCycle (groveOf id.pos) (p.due - 1)).landPend_words hw p
    obtain ⟨hpend, hwb, ht, hpc, hstate⟩ := Core.land_rest { s.core id.key with pend := (s.core id.key).pend.erase p } p
    dsimp only
    rw [hcore]
    refine ⟨hpend, ho, hfaults, hother, fun n h0 h => Core.sreg_land_same h0 h, fun n h => Core.sreg_land_ne h,
      fun n h0 h => Core.preg_land_same h0 h, fun n h => Core.preg_land_ne h, fun n j hj h => ?_, fun n j h => ?_,
      fun n h => Core.vreg_land_ne h, fun a r hr => Core.accRow_land hrow hr, hwb, ht, hpc, hstate,
      fun h => hcsr.trans (hwords h), fun h => (State.rd_congr hcsr _).trans (htrapvec h), fun h => (State.rd_congr hcsr _).trans (hseed h),
      fun h => hcsr.trans (hcycle h)⟩
    · rw [Core.vreg_land_same h]
      exact Vec.lane_merge _ _ _ hj
    · rw [Core.vreg_land_same h]
      exact getLsbD_merge _ _ _ _

end Sys2Proof.Machine
end

section
/-! PROOFS. Starting and halting a core from the control space (O19). -/

namespace Sys2Proof.Machine

/-! ## Results for control registers landed at a start -/

/-- `t` is `s` with results of the core `id` landed: its registers, and its words below 0x100, may have changed. -/
structure State.Lands (s t : State) (id : CoreId) : Prop where
  frame : t = { s with cores := t.cores, csr := t.csr }
  other : ∀ j, j ≠ id.key → t.core j = s.core j
  words : ∀ (a : Nat) (rst : W64), 0x100 ≤ a → t.rd ⟨coreBase id.pos id.core + a, rst⟩ = s.rd ⟨coreBase id.pos id.core + a, rst⟩

theorem State.Lands.refl (s : State) (id : CoreId) : s.Lands s id := ⟨rfl, fun _ _ => rfl, fun _ _ _ => rfl⟩

theorem State.Lands.trans {s t u : State} {id : CoreId} (h : s.Lands t id) (k : t.Lands u id) : s.Lands u id where
  frame := by
    rw [k.frame, h.frame]
  other := fun j hj => (k.other j hj).trans (h.other j hj)
  words := fun a rst ha => (k.words a rst ha).trans (h.words a rst ha)

theorem State.lands_wr (s : State) (id : CoreId) {r : Reg} (v : Nat) (h : ∃ a, a < 0x100 ∧ r.addr = coreBase id.pos id.core + a) :
    s.Lands (s.wr r v) id where
  frame := rfl
  other := fun _ _ => rfl
  words := fun b rst hb => State.rd_wr_ne _ _ (by
    obtain ⟨a, ha, hr⟩ := h
    dsimp only
    omega)

theorem State.lands_writeCr (s : State) (id : CoreId) (i v : Nat) : s.Lands (s.writeCr id.pos id.core i v) id := by
  unfold State.writeCr
  split
  · exact s.lands_wr id _ ⟨0x20, by decide, rfl⟩
  · exact s.lands_wr id _ ⟨0x28, by decide, rfl⟩
  · exact s.lands_wr id _ ⟨0x30, by decide, rfl⟩
  · exact s.lands_wr id _ ⟨0x40, by decide, rfl⟩
  · split
    · refine s.lands_wr id _ ⟨0x80 + (i - 0x10) * 8, by omega, ?_⟩
      simp only [TILE_CORE_PERFn]
      omega
    · exact .refl s id

theorem State.lands_modCore (s : State) (id : CoreId) (f : Core → Core) : s.Lands (s.modCore id.key f) id :=
  ⟨rfl, fun _ hj => State.core_modCore_ne _ _ hj, fun _ _ _ => rfl⟩

theorem State.lands_landPend (s : State) {id : CoreId} (hw : id.wf = true) (p : Pend) : s.Lands (s.landPend id.key p) id := by
  obtain ⟨hpos, hcore⟩ := CoreId.key_parts hw
  have hland := s.lands_modCore id (fun c => ({ c with pend := c.pend.erase p }).land p)
  cases hd : p.dst with
  | ctl i =>
    rw [State.landPend_of_ctl _ _ hd, hpos, hcore]
    exact hland.trans (State.lands_writeCr _ id _ _)
  | sreg _ | preg _ | vreg _ | accRow _ _ | accAll _ =>
    rw [State.landPend_of_ne _ _ _ (by simp [hd])]
    exact hland

theorem State.lands_foldl {id : CoreId} (hw : id.wf = true) (l : List Pend) (s : State) :
    s.Lands (l.foldl (fun s p => s.landPend id.key p) s) id := by
  induction l generalizing s with
  | nil => exact .refl s id
  | cons p l ih => exact (s.lands_landPend hw p).trans (ih _)

/-! ## Starting -/

/-- What a start leaves. -/
theorem State.startCore_parts (s : State) {id : CoreId} (hw : id.wf = true) :
    (s.startCore id.pos id.core).core id.key = { Core.init with
      pc := BitVec.ofNat 11 (s.fld (TILE_CORE_ENTRY_ENTRY id.pos id.core))
      state := 1
      nextIssue := wposZero (s.hereNow id.pos)
      posted := (s.core id.key).posted
      nextId := (s.core id.key).nextId } ∧
    (∀ j, j ≠ id.key → (s.startCore id.pos id.core).core j = s.core j) ∧
    (s.startCore id.pos id.core).flag (TILE_CORE_CTRL_RUN id.pos id.core) = true ∧
    s.startCore id.pos id.core = { s with cores := (s.startCore id.pos id.core).cores, csr := (s.startCore id.pos id.core).csr } := by
  obtain ⟨u, hu, he⟩ : ∃ u, s.Lands u id ∧ s.startCore id.pos id.core =
      ((u.setFld (TILE_CORE_CTRL_RUN id.pos id.core) 1).setCore id.key { Core.init with
        pc := BitVec.ofNat 11 ((u.setFld (TILE_CORE_CTRL_RUN id.pos id.core) 1).fld (TILE_CORE_ENTRY_ENTRY id.pos id.core))
        state := 1
        nextIssue := wposZero ((u.setFld (TILE_CORE_CTRL_RUN id.pos id.core) 1).hereNow id.pos)
        posted := (s.core id.key).posted
        nextId := (s.core id.key).nextId }) := ⟨_, State.lands_foldl hw _ s, rfl⟩
  have hnow : (u.setFld (TILE_CORE_CTRL_RUN id.pos id.core) 1).hereNow id.pos = s.hereNow id.pos := by
    conv_lhs => rw [hu.frame]
    rfl
  have hentry : (u.setFld (TILE_CORE_CTRL_RUN id.pos id.core) 1).fld (TILE_CORE_ENTRY_ENTRY id.pos id.core)
      = s.fld (TILE_CORE_ENTRY_ENTRY id.pos id.core) := by
    rw [State.fld_setFld_other _ _ (by simp [TILE_CORE_ENTRY_ENTRY, TILE_CORE_ENTRY, TILE_CORE_CTRL_RUN, TILE_CORE_CTRL])]
    exact State.fld_of_rd (hu.words 0x110 _ (by decide))
  rw [hnow, hentry] at he
  rw [he]
  refine ⟨State.core_setCore_same _ _ _, fun j hj => ?_, ?_, ?_⟩
  · exact (State.core_setCore_ne _ _ hj).trans (hu.other j hj)
  · exact decide_eq_true (State.fld_setFld_same u 1 (show 0 + 1 ≤ 64 by decide))
  · conv_lhs => rw [hu.frame]
    rfl

theorem exec_coreRun_eq {a : Agent} {id : CoreId} {s : State} (hw : id.wf = true)
    (hm : s.mute a (TILE_CORE_CTRL id.pos id.core).addr = false) (ha : s.mayWrite a .mgmt = true) :
    exec (.coreRun a id) s = answer s (if s.flag (TILE_CORE_CTRL_RUN id.pos id.core) || decide (s.clkState (groveOf id.pos) ≠ 2)
      then s else s.startCore id.pos id.core) := by
  rw [exec_coreRun, execCoreRun]
  simp only [hw, Bool.not_true, Bool.false_eq_true, if_false]
  exact (allowed_cases a .mgmt _ s _).2.1 hm ha

theorem exec_coreHalt_eq {a : Agent} {id : CoreId} {s : State} (hw : id.wf = true)
    (hm : s.mute a (TILE_CORE_CTRL id.pos id.core).addr = false) (ha : s.mayWrite a .mgmt = true) :
    exec (.coreHalt a id) s = answer s (s.haltCore id.pos id.core) := by
  rw [exec_coreHalt, execCoreHalt]
  simp only [hw, Bool.not_true, Bool.false_eq_true, if_false]
  exact (allowed_cases a .mgmt _ s _).2.1 hm ha

/-- What CORE_RUN leaves of a core that it starts. -/
theorem coreRun_yields {a : Agent} {id : CoreId} {s : State} (hw : id.wf = true)
    (hm : s.mute a (TILE_CORE_CTRL id.pos id.core).addr = false) (ha : s.mayWrite a .mgmt = true)
    (hrun : s.flag (TILE_CORE_CTRL_RUN id.pos id.core) = false) (hclk : s.clkState (groveOf id.pos) = 2) :
    yields (.coreRun a id) s (fun t => t.core id.key = { Core.init with
        pc := BitVec.ofNat 11 (s.fld (TILE_CORE_ENTRY_ENTRY id.pos id.core))
        state := 1
        nextIssue := wposZero (s.hereNow id.pos)
        posted := (s.core id.key).posted
        nextId := (s.core id.key).nextId } ∧
      t.flag (TILE_CORE_CTRL_RUN id.pos id.core) = true ∧ t.spad = s.spad ∧ t.spadPoison = s.spadPoison ∧ t.imem = s.imem ∧
      ∀ j, j ≠ id.key → t.core j = s.core j) := by
  obtain ⟨hcore, hother, hflag, hframe⟩ := s.startCore_parts hw
  rw [yields, exec_coreRun_eq hw hm ha, if_neg (by simp [hrun, hclk])]
  have hspad : (s.startCore id.pos id.core).spad = s.spad := (congrArg State.spad hframe :)
  have hpoison : (s.startCore id.pos id.core).spadPoison = s.spadPoison := (congrArg State.spadPoison hframe :)
  have himem : (s.startCore id.pos id.core).imem = s.imem := (congrArg State.imem hframe :)
  exact ⟨_, rfl, hcore, hflag, hspad, hpoison, himem, hother⟩

/-! ## Halting -/

/-- A core halted, its stall's cycles counted (R74, R75). -/
def Core.halted (c : Core) : Core :=
  if c.stopped then c
  else if c.issued ≠ 0 then { c with ending := some 7 }
  else { c with state := 7, handler := false, stall := .none, cleared := false, overrun := false }

theorem State.haltCore_parts (s : State) (id : CoreId) :
    (s.haltCore id.pos id.core).core id.key = ((s.stallCounted id.pos id.core (s.hereNow id.pos)).core id.key).halted ∧
    (∀ j, j ≠ id.key → (s.haltCore id.pos id.core).core j = s.core j) ∧
    (s.haltCore id.pos id.core).flag (TILE_CORE_CTRL_RUN id.pos id.core) = false := by
  have hother {j : Nat} (hj : j ≠ id.key) : (s.stallCounted id.pos id.core (s.hereNow id.pos)).core j = s.core j :=
    State.stallCounted_core_ne _ _ _ _ hj
  have hflag (u : State) : (u.setFld (TILE_CORE_CTRL_RUN id.pos id.core) 0).flag (TILE_CORE_CTRL_RUN id.pos id.core) = false := by
    rw [State.flag, State.fld_setFld_same _ _ (show 0 + 1 ≤ 64 by decide)]
    rfl
  unfold State.haltCore Core.halted
  dsimp only
  split
  next h =>
    unfold CoreId.key
    rw [if_pos h]
    exact ⟨rfl, fun j hj => hother hj, hflag _⟩
  next h =>
    unfold CoreId.key
    rw [if_neg h]
    split
    next =>
      exact ⟨State.core_setCore_same _ _ _, fun j hj => (State.core_setCore_ne _ _ hj).trans (hother hj), hflag _⟩
    next =>
      exact ⟨State.core_setCore_same _ _ _, fun j hj => (State.core_setCore_ne _ _ hj).trans (hother hj), hflag _⟩

/-- What a halt leaves, with the core it halts. -/
theorem coreHalt_yields {a : Agent} {id : CoreId} {s : State} (hw : id.wf = true)
    (hm : s.mute a (TILE_CORE_CTRL id.pos id.core).addr = false) (ha : s.mayWrite a .mgmt = true) :
    yields (.coreHalt a id) s (fun t => (∃ n, t.core id.key = Core.halted { s.core id.key with perfFrom := n }) ∧
      t.flag (TILE_CORE_CTRL_RUN id.pos id.core) = false ∧ ∀ j, j ≠ id.key → t.core j = s.core j) := by
  obtain ⟨hcore, hother, hflag⟩ := s.haltCore_parts id
  refine ⟨_, exec_coreHalt_eq hw hm ha, ⟨_, hcore.trans (by rw [State.stallCounted_core])⟩, hflag, hother⟩

theorem decodeFault_yields {i : Instr} {s : State} {w : Bool} {addr : Nat} (he : exec i s = answer s (s.decodeFault w addr)) :
    yields i s (fun t => t.cores = s.cores ∧ t.csr = s.csr ∧
      ∃ r, t.faults.flying = s.faults.flying ++ [r] ∧ r.source = 0x3599 ∧ r.cause = if w then 2 else 1) :=
  ⟨_, he.trans (answer_decodeFault s w addr), rfl, rfl, _, rfl, rfl, rfl⟩

/-- Settles O19. -/
theorem coreRunHalt : Obligations.CoreRunHalt := by
  unfold Obligations.CoreRunHalt
  intro a id s hw hm
  refine ⟨fun ha hrun hclk => ?_, fun ha h => ?_, fun ha hstop hissued => (coreHalt_yields hw hm ha).mono ?_,
    fun ha hstop => (coreHalt_yields hw hm ha).mono ?_, fun ha hstop hissued => (coreHalt_yields hw hm ha).mono ?_,
    fun ha i hi => ?_⟩
  · refine (coreRun_yields hw hm ha hrun hclk).mono ?_
    rintro t ⟨hcore, hflag, hspad, hpoison, himem, hother⟩
    dsimp only
    rw [hcore]
    exact ⟨rfl, rfl, rfl, rfl, rfl, rfl, rfl, rfl, rfl, rfl, wposZero_mod _, hflag, hspad, hpoison, himem, hother⟩
  · rw [exec_coreRun_eq hw hm ha, if_pos (by simpa using h)]
    rfl
  · rintro t ⟨⟨n, hcore⟩, hflag, hother⟩
    rw [hcore, Core.halted, if_neg (by simpa [Core.stopped] using hstop), if_pos hissued]
    exact ⟨rfl, rfl, hflag, hother⟩
  · rintro t ⟨⟨n, hcore⟩, hflag, hother⟩
    rw [hcore, Core.halted, if_pos (by simpa [Core.stopped] using hstop)]
    exact ⟨rfl, hflag, hother⟩
  · rintro t ⟨⟨n, hcore⟩, hflag, hother⟩
    rw [hcore, Core.halted, if_neg (by simpa [Core.stopped] using hstop), if_neg (not_not.mpr hissued)]
    exact ⟨rfl, rfl, rfl, ⟨rfl, rfl, rfl, rfl, rfl, rfl, rfl⟩, rfl, hflag, hother⟩
  · rcases hi with rfl | rfl
    · refine decodeFault_yields (w := true) (addr := (TILE_CORE_CTRL id.pos id.core).addr) ?_
      rw [exec_coreRun, execCoreRun]
      simp only [hw, Bool.not_true, Bool.false_eq_true, if_false]
      exact (allowed_cases a .mgmt _ s _).2.2 hm ha
    · refine decodeFault_yields (w := true) (addr := (TILE_CORE_CTRL id.pos id.core).addr) ?_
      rw [exec_coreHalt, execCoreHalt]
      simp only [hw, Bool.not_true, Bool.false_eq_true, if_false]
      exact (allowed_cases a .mgmt _ s _).2.2 hm ha

end Sys2Proof.Machine
end

section
/-! PROOFS. The turns of the scratchpad's wheel (O20). -/

namespace Sys2Proof.Machine

/-! ## Counters and captures -/

/-- A counter's register after `n` events (R134). -/
theorem State.rd_count_same (s : State) (c : Counter) (n : Nat) :
    (s.count c n).rd c.reg = setBitsOf (s.rd c.reg) 0 32 (min (bitsOf (s.rd c.reg) 0 32 + n) 0xFFFFFFFF) := by
  have h : (s.count c n).rd c.reg = (s.wr c.reg (setBitsOf (s.rd c.reg) 0 32 (min (bitsOf (s.rd c.reg) 0 32 + n) 0xFFFFFFFF))).rd
      c.reg := by
    unfold State.count
    dsimp only
    split <;> split <;> rfl
  rw [h, State.rd_wr_same, Nat.mod_eq_of_lt (setBitsOf_lt (s.rd_lt _) (by decide))]

theorem bitsOf_zero_eq_mod (x n : Nat) : bitsOf x 0 n = x % 2 ^ n := by rw [bitsOf_eq, Nat.pow_zero, Nat.div_one]

theorem State.countedBy_count (s : State) (c : Counter) (n : Nat) : s.countedBy (s.count c n) c.reg n := by
  rw [State.countedBy, State.rd_count_same, ← bitsOf_zero_eq_mod, bitsOf_setBitsOf_same, bitsOf_zero_eq_mod]
  exact Nat.mod_eq_of_lt (lt_of_le_of_lt (Nat.min_le_right _ _) (by decide))

/-- What is counted stays counted while the register is not written again. -/
theorem State.countedBy_of_rd {s t u : State} {r : Reg} {n : Nat} (h : s.countedBy t r n) (hu : u.rd r = t.rd r) : s.countedBy u r n := by
  rw [State.countedBy, hu]
  exact h

theorem State.rd_capture_ne (s : State) {r q : Reg} (w a b : Nat) (h : q.addr ≠ r.addr) : (s.capture r w a b).rd q = s.rd q := by
  unfold State.capture
  split
  · rfl
  · dsimp only
    rw [State.rd_raise, State.rd_wr_ne _ _ h]

theorem State.captured_capture (s : State) (r : Reg) (w a b : Nat) : (s.capture r w a b).captured r = true := by
  unfold State.captured State.capture
  split
  next h =>
    have hbit := testBit_bitsOf (s.rd r) 63 1 0
    rw [h] at hbit
    simpa using hbit.symm
  next =>
    rw [State.rd_raise, State.rd_wr_same, Nat.testBit_mod_two_pow, testBit_setBitsOf]
    rfl

/-! ## What serving an access can change -/

/-- `t` is `s` but for what the end of an access or an answer may change: control-space words, fault records, cores, tiles'
queues and windows, the waiting accesses, the mesh with its tracking entries and credits, messages, and markings owed. -/
def State.Served (s t : State) : Prop :=
  t = { s with
    csr := t.csr, faults := t.faults, cores := t.cores, tiles := t.tiles, access := t.access, net := t.net, track := t.track
    creditUsed := t.creditUsed, creditBack := t.creditBack, msgs := t.msgs, marks := t.marks }

namespace State.Served

variable {s t u : State}

theorem refl (s : State) : s.Served s := rfl

theorem trans (h : s.Served t) (k : t.Served u) : s.Served u := by
  unfold State.Served at h k ⊢
  rw [k, h]

theorem of_near (h : s.Near t) : s.Served t := by
  unfold State.Near at h
  unfold State.Served
  rw [h]

theorem ite (p : Prop) [Decidable p] (h : s.Served t) (k : s.Served u) : s.Served (if p then t else u) := by
  split
  · exact h
  · exact k

theorem spadSame (h : s.Served t) : s.spadSame t := by
  rw [h]
  exact ⟨rfl, rfl, rfl, rfl, rfl⟩

theorem spad (h : s.Served t) : t.spad = s.spad := by rw [h]
theorem imem (h : s.Served t) : t.imem = s.imem := by rw [h]
theorem imemEcc (h : s.Served t) : t.imemEcc = s.imemEcc := by rw [h]

variable (s)

theorem modCore (key : Nat) (f : Core → Core) : s.Served (s.modCore key f) := rfl
theorem posted (key n : Nat) : s.Served (s.posted key n) := rfl
theorem modEntry (pos n : Nat) (f : QEntry → QEntry) : s.Served (s.modEntry pos n f) := rfl
theorem modTile (pos : Nat) (f : Tile → Tile) : s.Served (s.modTile pos f) := rfl
theorem place (p : Pkt) (w : Place) : s.Served (s.place p w) := rfl
theorem sendSync (m : SyncMsg) : s.Served (s.sendSync m) := rfl
theorem dropAccess (i : Nat) : s.Served (s.dropAccess i) := rfl
theorem putAccess (i : Nat) (a : Access) : s.Served (s.putAccess i a) := rfl
theorem loadBack (key : Nat) (dst : LoadDst) (data poison : Nat) : s.Served (s.loadBack key dst data poison) := rfl
theorem perfNack (key : Nat) : s.Served (s.perfNack key) := of_near (s.near_refl.perf _ _ _ _)
theorem count (c : Counter) (n : Nat) : s.Served (s.count c n) := of_near (s.near_refl.count _ _)
theorem capture (r : Reg) (w a b : Nat) : s.Served (s.capture r w a b) := of_near (s.near_refl.capture _ _ _ _)
theorem decodeFault (w : Bool) (a : Nat) : s.Served (s.decodeFault w a) := of_near (s.near_refl.raise _ _ _)

theorem freeSlots (link : Option Nat) (cls n : Nat) : s.Served (s.freeSlots link cls n) := by
  unfold State.freeSlots
  split
  · exact refl s
  · rfl

theorem dispatch (pos tag : Nat) (k : Track) : s.Served (s.dispatch pos tag k) := by
  rw [State.dispatch_frame]
  rfl

theorem attachPkt (p : Pkt) (pos : Nat) : s.Served (s.attachPkt p pos) := ite _ (sendSync s _) (refl s)

theorem csr_freeSlots (link : Option Nat) (cls n : Nat) : (s.freeSlots link cls n).csr = s.csr := by
  unfold State.freeSlots
  split <;> rfl

theorem csr_attachPkt (p : Pkt) (pos : Nat) : (s.attachPkt p pos).csr = s.csr := by
  unfold State.attachPkt
  split <;> rfl

theorem discard (pos off : Nat) (cls : WrClass) (src reason : Nat) : s.Served (s.discard pos off cls src reason) :=
  (count s _ _).trans (capture _ _ _ _ _)

/-- The end of an access is the end of its packet, which frees its slots and answers it, and then that of its holder. -/
theorem accessDone_pkt (a : Access) (refused : Option Nat) (dataPoison : Bool) : ∃ u, s.Served u ∧ u.csr = s.csr ∧
    s.accessDone a refused dataPoison = u.accessDone { a with pkt := none, inlink := none } refused dataPoison := by
  cases hp : a.pkt with
  | none =>
    refine ⟨s.freeSlots a.inlink 3 1, freeSlots s _ _ _, csr_freeSlots s _ _ _, ?_⟩
    simp only [State.accessDone, hp]
    rfl
  | some p =>
    by_cases hw : p.type ≠ tWRITE
    · refine ⟨s.freeSlots a.inlink (classOf p.type) p.flits, freeSlots s _ _ _, csr_freeSlots s _ _ _, ?_⟩
      simp only [State.accessDone, hp, if_pos hw]
      rfl
    · cases refused with
      | some r =>
        refine ⟨_, (freeSlots s a.inlink (classOf p.type) p.flits).trans (place _ (p.answer tNACK r) (.router a.pos 0)),
          csr_freeSlots s _ _ _, ?_⟩
        simp only [State.accessDone, hp, if_neg hw]
        rfl
      | none =>
        refine ⟨_, ((freeSlots s a.inlink (classOf p.type) p.flits).trans (place _ (p.answer tACK 0) (.router a.pos 0))).trans
          (attachPkt _ p a.pos), (csr_attachPkt _ _ _).trans (csr_freeSlots s _ _ _), ?_⟩
        simp only [State.accessDone, hp, if_neg hw]
        rfl

theorem accessDone (a : Access) (refused : Option Nat) (dataPoison : Bool) : s.Served (s.accessDone a refused dataPoison) := by
  obtain ⟨u, hu, -, he⟩ := accessDone_pkt s a refused dataPoison
  refine he ▸ hu.trans ?_
  unfold State.accessDone
  dsimp only
  split
  · exact (ite _ (perfNack u _) (refl u)).trans (posted _ _ _)
  · exact modEntry u _ _ _
  · exact refl u

/-- Of the control-space words the end of an access changes PERF3 and the overflow flags of a core alone. -/
theorem rd_accessDone_ne (a : Access) (refused : Option Nat) (dataPoison : Bool) {r : Reg}
    (hperf : ∀ key, r.addr ≠ (TILE_CORE_PERFn (key / 8) (key % 8) 3).addr)
    (hstatus : ∀ key, r.addr ≠ (TILE_CORE_STATUS (key / 8) (key % 8)).addr) :
    (s.accessDone a refused dataPoison).rd r = s.rd r := by
  obtain ⟨u, -, hcsr, he⟩ := accessDone_pkt s a refused dataPoison
  rw [he, ← State.rd_congr hcsr]
  unfold State.accessDone
  dsimp only
  split
  next key n _ =>
    split
    · exact State.rd_perf_ne _ _ _ _ _ (hperf key) (hstatus key)
    · rfl
  · rfl
  · rfl

end State.Served

/-! ## What the checks of a read change -/

/-- `t` is `s` but for what the checks of a read may change: counters, captures, fault records and the markings owed. -/
def State.Checked (s t : State) : Prop := t = { s with csr := t.csr, faults := t.faults, marks := t.marks }

namespace State.Checked

variable {s t u : State}

theorem refl (s : State) : s.Checked s := rfl

theorem trans (h : s.Checked t) (k : t.Checked u) : s.Checked u := by
  unfold State.Checked at h k ⊢
  rw [k, h]

theorem of_near (h : s.Near t) : s.Checked t := by
  unfold State.Near at h
  unfold State.Checked
  rw [h]

theorem ite (p : Prop) [Decidable p] (h : s.Checked t) (k : s.Checked u) : s.Checked (if p then t else u) := by
  split
  · exact h
  · exact k

theorem cores (h : s.Checked t) : t.cores = s.cores := by rw [h]
theorem tiles (h : s.Checked t) : t.tiles = s.tiles := by rw [h]
theorem net (h : s.Checked t) : t.net = s.net := by rw [h]
theorem msgs (h : s.Checked t) : t.msgs = s.msgs := by rw [h]
theorem access (h : s.Checked t) : t.access = s.access := by rw [h]

theorem served (h : s.Checked t) : s.Served t := by
  unfold State.Checked at h
  unfold State.Served
  rw [h]

variable (s)

theorem count (c : Counter) (n : Nat) : s.Checked (s.count c n) := of_near (s.near_refl.count _ _)
theorem capture (r : Reg) (w a b : Nat) : s.Checked (s.capture r w a b) := of_near (s.near_refl.capture _ _ _ _)

theorem spadUe (pos off agent : Nat) (feeder line : Bool) : s.Checked (s.spadUe pos off agent feeder line) := by
  unfold State.spadUe
  dsimp only
  refine (count s (tileCounter pos (TILE_SPAD_UE_CNT pos)) 1).trans (State.Checked.trans ?_ (capture _ _ _ _ _))
  exact rfl

theorem checkWord (pos agent : Nat) (feeder : Bool) (e : Nat × Nat) : s.Checked (s.checkWord pos agent feeder e) :=
  ite _ (count s _ _) (spadUe s _ _ _ _ _)

theorem foldl {α : Type} {f : State → α → State} (hf : ∀ (u : State) (x : α), u.Checked (f u x)) (l : List α) :
    s.Checked (l.foldl f s) :=
  List.foldlRecOn (motive := fun u => s.Checked u) l f (refl s) fun u hu x _ => hu.trans (hf u x)

theorem spadRead (pos off len agent : Nat) (feeder : Bool) : s.Checked (s.spadRead pos off len agent feeder).2.2 := by
  unfold State.spadRead
  dsimp only
  exact ((foldl s (fun u e => checkWord u _ _ _ e) _).trans (ite _ (refl _) (count _ _ _))).trans
    (foldl _ (fun u l => spadUe u _ _ _ _ _) _)

end State.Checked

/-! ## Answers of a tile's events -/

/-- `t` holds, of what a tile's events may change, what `u` does. -/
structure State.TileView (u t : State) : Prop where
  cores : t.cores = u.cores
  csr : t.csr = u.csr
  faults : t.faults = u.faults
  tiles : t.tiles = u.tiles
  access : t.access = u.access
  net : t.net = u.net
  track : t.track = u.track
  msgs : t.msgs = u.msgs
  spad : t.spad = u.spad
  spadPoison : t.spadPoison = u.spadPoison
  spadEcc : t.spadEcc = u.spadEcc
  spadLine : t.spadLine = u.spadLine
  spadLineCe : t.spadLineCe = u.spadLineCe
  imem : t.imem = u.imem
  imemEcc : t.imemEcc = u.imemEcc

theorem answerTile_yields {i : Instr} {s : State} {g n : Nat} {f : State → State} {P : State → Prop}
    (he : exec i s = answerTile g n s f) (hP : ∀ t, s.onlyTiles t → (f (s.atCycle g n)).TileView t → P t) : yields i s P :=
  ⟨_, he, hP _ rfl ⟨rfl, rfl, rfl, rfl, rfl, rfl, rfl, rfl, rfl, rfl, rfl, rfl, rfl, rfl, rfl⟩⟩

/-- Nothing of the scratchpads changes where what served the access left them. -/
theorem State.TileView.spadSame {s u t : State} (h : u.TileView t) (hu : s.spadSame u) : s.spadSame t := by
  obtain ⟨hspad, hpoison, hecc, hline, hlineCe⟩ := hu
  exact ⟨h.spad.trans hspad, h.spadPoison.trans hpoison, h.spadEcc.trans hecc, h.spadLine.trans hline, h.spadLineCe.trans hlineCe⟩

/-! ## The list of accesses -/

theorem length_rebase (key : Nat) (l : List Access) (prev : Nat) : (rebase key prev l).length = l.length := by
  induction l generalizing prev with
  | nil => rfl
  | cons a l ih =>
    rw [rebase]
    split <;> simp [ih]

theorem length_foldl_rebase (keys : List Nat) (l : List Access) : (keys.foldl (fun l k => rebase k 0 l) l).length = l.length := by
  induction keys generalizing l with
  | nil => rfl
  | cons k keys ih => exact (ih _).trans (length_rebase k l 0)

theorem length_bumped (pos agent group t : Nat) (l : List Access) : (bumped pos agent group t l).length = l.length :=
  (length_foldl_rebase _ _).trans (List.length_map _)

theorem length_replaceAt {α : Type} (l : List α) (n : Nat) (x : α) : (replaceAt l n x).length = l.length := by
  induction l generalizing n with
  | nil => rfl
  | cons y l ih =>
    cases n with
    | zero => rfl
    | succ n => exact congrArg (· + 1) (ih n)

/-! ## An access served -/

section
variable {s : State} {i t : Nat} {a : Access}

/-- The state after an access has been served, the others of its turn put off. -/
def State.served (s : State) (pos agent i : Nat) (a : Access) : State :=
  { s.serve i a a.due with access := bumped pos agent (groupOf a.off) a.due (s.serve i a a.due).access }

/-- A write that its window takes. -/
theorem State.serve_write {cls : WrClass} (h : a.task = .write cls)
    (hr : a.off = a.whole.1 → s.windowReason a.pos a.whole.1 a.whole.2 cls = none) :
    (s.spadWrite a.pos a.off a.len a.data.toNat a.poison.toNat).Served (s.serve i a t) := by
  have hnone : (if a.off = a.whole.1 then s.windowReason a.pos a.whole.1 a.whole.2 cls else none) = none := by
    split
    next hoff => exact hr hoff
    next => rfl
  unfold State.serve
  simp only [h, hnone]
  exact .ite _ (.putAccess _ _ _) ((State.Served.dropAccess _ _).trans (.accessDone _ _ _ _))

/-- A write that its window refuses. -/
theorem State.serve_refused {cls : WrClass} {r : Nat} (h : a.task = .write cls) (hoff : a.off = a.whole.1)
    (hr : s.windowReason a.pos a.whole.1 a.whole.2 cls = some r) : ∃ src,
    s.serve i a t = ((s.dropAccess i).discard a.pos a.whole.1 cls src r).accessDone a (some 0) false := by
  cases hp : a.pkt with
  | none =>
    refine ⟨cls.code.2, ?_⟩
    simp only [State.serve, h, if_pos hoff, hr, hp]
  | some p =>
    refine ⟨p.src, ?_⟩
    simp only [State.serve, h, if_pos hoff, hr, hp]

/-- A read: its first part keeps what it has read, its last brings all of it. -/
theorem State.serve_read (h : ∀ cls, a.task ≠ .write cls) : s.serve i a t =
    if a.first then (s.spadRead a.pos a.off a.len a.agent false).2.2.putAccess i
      (a.second (a.joined (Mem.read s.spad (spadKey a.pos a.off) a.len) (s.spadPoisonBits a.pos a.off a.len)).1
        (a.joined (Mem.read s.spad (spadKey a.pos a.off) a.len) (s.spadPoisonBits a.pos a.off a.len)).2)
    else ((s.spadRead a.pos a.off a.len a.agent false).2.2.dropAccess i).readServed a t
      (a.joined (Mem.read s.spad (spadKey a.pos a.off) a.len) (s.spadPoisonBits a.pos a.off a.len)) := by
  unfold State.serve
  split
  next cls hcls => exact absurd hcls (h cls)
  next => rfl
end

/-- All that a read has brought with the part it makes now: data and poison bits. -/
def State.readOf (u : State) (a : Access) : Nat × Nat :=
  a.joined (Mem.read u.spad (spadKey a.pos a.off) a.len) (u.spadPoisonBits a.pos a.off a.len)

/-- The first part of a read is kept with its access. -/
theorem State.served_first (u : State) (pos agent i : Nat) {a : Access} (h : ∀ cls, a.task ≠ .write cls) (hfirst : a.first = true) :
    ∃ v b, u.Checked v ∧ u.served pos agent i a =
      { v with access := bumped pos agent (groupOf a.off) a.due (replaceAt v.access i b) } := by
  refine ⟨_, a.second (u.readOf a).1 (u.readOf a).2, State.Checked.spadRead u a.pos a.off a.len a.agent false, ?_⟩
  rw [State.served, State.serve_read h, if_pos hfirst]
  rfl

/-- The last part of a read brings all its data. -/
theorem State.served_last (u : State) (pos agent i : Nat) {a : Access} (h : ∀ cls, a.task ≠ .write cls) (hfirst : a.first = false) :
    ∃ v, u.Checked v ∧ u.served pos agent i a = { (v.dropAccess i).readServed a a.due (u.readOf a) with
      access := bumped pos agent (groupOf a.off) a.due ((v.dropAccess i).readServed a a.due (u.readOf a)).access } := by
  refine ⟨_, State.Checked.spadRead u a.pos a.off a.len a.agent false, ?_⟩
  rw [State.served, State.serve_read h, if_neg (by simp [hfirst])]
  rfl

/-- A read's data changes nothing of the scratchpads, and of the instruction stores what a mover's store writes there. -/
theorem State.readServed_served (s : State) (a : Access) (t : Nat) (r : Nat × Nat) (h : ∀ id n, a.task ≠ .store id n) :
    s.Served (s.readServed a t r) := by
  unfold State.readServed
  split
  · exact .refl s
  · exact .ite _ (.ite _ (.refl s) (.modCore _ _ _)) ((State.Served.accessDone _ _ _ _).trans (.loadBack _ _ _ _ _))
  · exact .modEntry _ _ _ _
  · exact .modTile _ _ _
  · split
    · exact .refl s
    · exact .dispatch _ _ _ _
  · split
    · exact .refl s
    · exact (State.Served.freeSlots _ _ _ _).trans (.place _ _ _)
  next id n hid => exact absurd hid (h id n)

theorem State.storeLanding_spad (s : State) (pos off data poison : Nat) : s.spadSame (s.storeLanding pos off data poison) := by
  unfold State.storeLanding
  split
  · exact ⟨rfl, rfl, rfl, rfl, rfl⟩
  · exact (State.Served.decodeFault s _ _).spadSame

theorem State.spadSame_trans {s t u : State} (h : s.spadSame t) (k : t.spadSame u) : s.spadSame u := by
  obtain ⟨h1, h2, h3, h4, h5⟩ := h
  obtain ⟨k1, k2, k3, k4, k5⟩ := k
  exact ⟨k1.trans h1, k2.trans h2, k3.trans h3, k4.trans h4, k5.trans h5⟩

theorem State.readServed_spadSame (s : State) (a : Access) (t : Nat) (r : Nat × Nat) : s.spadSame (s.readServed a t r) := by
  by_cases h : ∀ id n, a.task ≠ .store id n
  · exact (s.readServed_served a t r h).spadSame
  · simp only [not_forall, not_not] at h
    obtain ⟨id, n, hid⟩ := h
    unfold State.readServed
    rw [hid]
    dsimp only
    split
    · exact (State.Served.refl s).spadSame
    · exact State.spadSame_trans (s.storeLanding_spad _ _ _ _) (State.Served.modEntry _ _ _ _).spadSame

theorem State.readServed_timed {s : State} {a : Access} {key lat : Nat} {dst : LoadDst} (h : a.task = .load key dst lat)
    (htimed : a.timed = true) (hdst : dst ≠ .sreg 0) (t : Nat) (r : Nat × Nat) : ((s.readServed a t r).core key).pend =
      (s.core key).pend ++ [⟨t + lat, dst.dst, BitVec.allOnes 64, BitVec.ofNat 2048 r.1, BitVec.ofNat 64 r.2⟩] := by
  simp only [State.readServed, h, htimed, if_true, if_neg hdst, State.core_modCore_same]

/-- An access held off: it waits, and is counted as a conflict or a yield. -/
theorem State.heldOff_eq (s : State) (i : Nat) (a : Access) (t bank : Nat) (weights : Bool) (fcore : Nat) :
    ∃ l : List Access, l.length = s.access.length ∧ s.heldOff i a t bank weights fcore =
      if a.timed then (({ s with access := l } : State).count (tileCounter a.pos (TILE_SPAD_CONFLICT_CNT a.pos)) 1).capture
        (TILE_SPAD_CONFLICT_CAP a.pos)
        (packFields [(0, 5, bank), (5, 4, t), (9, 4, a.agent), (13, 1, weights.toNat), (14, 3, fcore), (17, 31, t)]) (srcPos a.pos 18) 1
      else ({ s with access := l } : State).count (tileCounter a.pos (TILE_SPAD_YIELD_CNT a.pos)) 1 := by
  cases hc : a.core with
  | none =>
    refine ⟨_, length_replaceAt s.access i { a with due := t + 16 }, ?_⟩
    simp only [State.heldOff, hc]
    rfl
  | some k =>
    refine ⟨_, (length_rebase k _ 0).trans (length_replaceAt s.access i { a with due := t + 16 }), ?_⟩
    simp only [State.heldOff, hc]
    rfl

/-! ## The turns -/

/-- The count of discarded writes of a tile is no register of a core. -/
theorem discardCnt_ne_core (pos q key : Nat) {o : Nat} (ho : o < 0x1000) : (TILE_SPAD_DISCARD_CNT pos).addr ≠ coreBase q (key % 8) + o := by
  have hc : key % 8 < 8 := Nat.mod_lt _ (by decide)
  simp only [TILE_SPAD_DISCARD_CNT, coreBase_eq, Nat.add_assoc]
  exact tileBase_add_ne (by omega)

theorem State.countedBy_discard (s : State) (pos off : Nat) (cls : WrClass) (src reason : Nat) :
    s.countedBy (s.discard pos off cls src reason) (TILE_SPAD_DISCARD_CNT pos) 1 :=
  State.countedBy_of_rd (s.countedBy_count (tileCounter pos (TILE_SPAD_DISCARD_CNT pos)) 1)
    (State.rd_capture_ne _ _ _ _ (tileBase_add_ne (by decide)))

section
variable {pos agent i : Nat} {s : State} {a : Access} (hpos : pos < 576) (hagent : agent < 16)
  (hnext : nextAccess pos agent s.access 0 = some (i, a)) (hwins : s.winsDue pos a.due = false) (hmarks : s.marksDue pos a.due = false)
include hpos hagent hnext hwins hmarks

/-- The turn of an access that no feeder holds off serves it. -/
theorem exec_wheelTurn_served (hfeed : s.feederAt pos (banksOf a.off a.len) a.due = none) :
    exec (.wheelTurnAccess pos agent) s = answerTile (groveOf pos) a.due s (fun u => u.served pos agent i a) := by
  rw [exec_wheelTurnAccess, execWheelTurnAccess, if_neg (by omega)]
  simp only [hnext, hwins, hmarks, hfeed, Bool.or_self, Bool.false_eq_true, if_false]
  rfl

theorem exec_wheelTurn_heldOff {b c : Nat} {w : Bool} (hfeed : s.feederAt pos (banksOf a.off a.len) a.due = some (b, w, c)) :
    exec (.wheelTurnAccess pos agent) s = answerTile (groveOf pos) a.due s (fun u => u.heldOff i a a.due b w c) := by
  rw [exec_wheelTurnAccess, execWheelTurnAccess, if_neg (by omega)]
  simp only [hnext, hwins, hmarks, hfeed, Bool.or_self, Bool.false_eq_true, if_false]

/-- A write that its window takes stores its bytes and no other. -/
theorem wheelTurn_write (hfeed : s.feederAt pos (banksOf a.off a.len) a.due = none) {cls : WrClass} (h : a.task = .write cls)
    (hr : a.off = a.whole.1 → s.windowReason a.pos a.whole.1 a.whole.2 cls = none) :
    yields (.wheelTurnAccess pos agent) s (fun t =>
      Mem.read t.spad (spadKey a.pos a.off) a.len = a.data.toNat % 256 ^ a.len ∧
      s.spadKept t a.pos a.off (a.off + a.len) ∧ t.imem = s.imem ∧ s.onlyTiles t) := by
  refine answerTile_yields (exec_wheelTurn_served hpos hagent hnext hwins hmarks hfeed) fun t ho ht => ?_
  have hserve := State.serve_write (s := s.atCycle (groveOf pos) a.due) (i := i) (t := a.due) h hr
  have hspad : t.spad = Mem.write s.spad (spadKey a.pos a.off) a.len a.data.toNat := ht.spad.trans hserve.spad
  refine ⟨?_, fun x hx => ?_, ht.imem.trans hserve.imem, ho⟩
  · rw [hspad, Mem.read_write]
  · rw [hspad]
    exact Mem.byte_write_outside _ _ _ _ _ (by simpa [spadKey, Nat.add_assoc] using hx)

/-- A write that its window refuses stores nothing and is counted. -/
theorem wheelTurn_refused (hfeed : s.feederAt pos (banksOf a.off a.len) a.due = none) {cls : WrClass} {r : Nat}
    (h : a.task = .write cls) (hoff : a.off = a.whole.1) (hr : s.windowReason a.pos a.whole.1 a.whole.2 cls = some r) :
    yields (.wheelTurnAccess pos agent) s (fun t =>
      s.spadSame t ∧ s.countedBy t (TILE_SPAD_DISCARD_CNT a.pos) 1 ∧ s.onlyTiles t ∧ t.imem = s.imem) := by
  refine answerTile_yields (exec_wheelTurn_served hpos hagent hnext hwins hmarks hfeed) fun t ho ht => ?_
  obtain ⟨src, hserve⟩ := State.serve_refused (s := s.atCycle (groveOf pos) a.due) (i := i) (t := a.due) h hoff hr
  have hserved : (s.atCycle (groveOf pos) a.due).Served ((s.atCycle (groveOf pos) a.due).serve i a a.due) := by
    rw [hserve]
    exact ((State.Served.dropAccess _ _).trans (.discard _ _ _ _ _ _)).trans (.accessDone _ _ _ _)
  refine ⟨ht.spadSame hserved.spadSame, ?_, ho, ht.imem.trans hserved.imem⟩
  refine State.countedBy_of_rd (State.countedBy_discard ((s.atCycle (groveOf pos) a.due).dropAccess i) a.pos a.whole.1 cls src r) ?_
  refine (State.rd_congr ht.csr _).trans ?_
  refine (congrArg (fun u : State => u.rd (TILE_SPAD_DISCARD_CNT a.pos)) hserve).trans ?_
  exact State.Served.rd_accessDone_ne _ _ _ _ (fun key => discardCnt_ne_core _ _ _ (by decide : 0x98 < 0x1000))
    (fun key => discardCnt_ne_core _ _ _ (by decide : 0x108 < 0x1000))
/-- A read stores nothing; its first part brings nothing yet, and a timed load's last part sends all its data. -/
theorem wheelTurn_read (hfeed : s.feederAt pos (banksOf a.off a.len) a.due = none) (h : ∀ cls, a.task ≠ .write cls) :
    yields (.wheelTurnAccess pos agent) s (fun t =>
      s.spadSame t ∧ s.onlyTiles t ∧ ((∀ id n, a.task ≠ .store id n) → t.imem = s.imem ∧ t.imemEcc = s.imemEcc) ∧
      (a.first = true → t.cores = s.cores ∧ t.net = s.net ∧ t.msgs = s.msgs ∧ t.tiles = s.tiles ∧
        t.access.length = s.access.length) ∧
      (∀ key dst lat, a.task = .load key dst lat → a.first = false → a.timed = true → dst ≠ .sreg 0 →
        (t.core key).pend = (s.core key).pend ++ [⟨a.due + lat, dst.dst, BitVec.allOnes 64,
          BitVec.ofNat 2048 (a.joined (Mem.read s.spad (spadKey a.pos a.off) a.len) (s.spadPoisonBits a.pos a.off a.len)).1,
          BitVec.ofNat 64 (a.joined (Mem.read s.spad (spadKey a.pos a.off) a.len) (s.spadPoisonBits a.pos a.off a.len)).2⟩])) := by
  refine answerTile_yields (exec_wheelTurn_served hpos hagent hnext hwins hmarks hfeed) fun t ho ht => ?_
  cases hfirst : a.first with
  | true =>
    obtain ⟨v, b, hv, he⟩ := State.served_first (s.atCycle (groveOf pos) a.due) pos agent i h hfirst
    rw [he] at ht
    refine ⟨ht.spadSame hv.served.spadSame, ho, fun _ => ⟨ht.imem.trans hv.served.imem, ht.imemEcc.trans hv.served.imemEcc⟩,
      fun _ => ⟨ht.cores.trans hv.cores, ht.net.trans hv.net, ht.msgs.trans hv.msgs, ht.tiles.trans hv.tiles, ?_⟩, ?_⟩
    · exact (congrArg List.length ht.access).trans ((length_bumped _ _ _ _ _).trans ((length_replaceAt _ _ _).trans
        (congrArg List.length hv.access)))
    · exact fun _ _ _ _ hlast => absurd hlast (by decide)
  | false =>
    obtain ⟨v, hv, he⟩ := State.served_last (s.atCycle (groveOf pos) a.due) pos agent i h hfirst
    rw [he] at ht
    have hdrop : (s.atCycle (groveOf pos) a.due).Served (v.dropAccess i) := hv.served.trans (State.Served.dropAccess v i)
    refine ⟨ht.spadSame (State.spadSame_trans hdrop.spadSame (State.readServed_spadSame _ _ _ _)), ho, fun hstore => ?_,
      fun hf => absurd hf (by decide), fun key dst lat hload _ htimed hdst => ?_⟩
    · have hall := hdrop.trans (State.readServed_served _ a a.due ((s.atCycle (groveOf pos) a.due).readOf a) hstore)
      exact ⟨ht.imem.trans hall.imem, ht.imemEcc.trans hall.imemEcc⟩
    · refine (congrArg Core.pend (State.core_congr ht.cores key)).trans ((State.readServed_timed hload htimed hdst _ _).trans ?_)
      exact congrArg (fun c : Core => c.pend ++ _) (State.core_congr hv.cores key)

/-- An access that a feeder holds off waits. -/
theorem wheelTurn_heldOff {b c : Nat} {w : Bool} (hfeed : s.feederAt pos (banksOf a.off a.len) a.due = some (b, w, c)) :
    yields (.wheelTurnAccess pos agent) s (fun t => s.spadSame t ∧ t.imem = s.imem ∧ t.net = s.net ∧ t.msgs = s.msgs ∧
      t.access.length = s.access.length ∧
      (if a.timed = true then s.countedBy t (TILE_SPAD_CONFLICT_CNT a.pos) 1 ∧ t.captured (TILE_SPAD_CONFLICT_CAP a.pos) = true
        else s.countedBy t (TILE_SPAD_YIELD_CNT a.pos) 1)) := by
  refine answerTile_yields (exec_wheelTurn_heldOff hpos hagent hnext hwins hmarks hfeed) fun t ho ht => ?_
  obtain ⟨l, hl, he⟩ := State.heldOff_eq (s.atCycle (groveOf pos) a.due) i a a.due b w c
  rw [he] at ht
  cases htimed : a.timed with
  | true =>
    rw [htimed, if_pos rfl] at ht
    have hnear : ({ s.atCycle (groveOf pos) a.due with access := l } : State).Near _ :=
      ((State.near_refl _).count (tileCounter a.pos (TILE_SPAD_CONFLICT_CNT a.pos)) 1).capture (TILE_SPAD_CONFLICT_CAP a.pos)
        (packFields [(0, 5, b), (5, 4, a.due), (9, 4, a.agent), (13, 1, w.toNat), (14, 3, c), (17, 31, a.due)]) (srcPos a.pos 18) 1
    refine ⟨ht.spadSame (State.Served.of_near hnear).spadSame, ht.imem.trans hnear.imem, ht.net.trans hnear.net,
      ht.msgs.trans hnear.msgs, (congrArg List.length (ht.access.trans hnear.access)).trans hl, ?_⟩
    rw [if_pos rfl]
    refine ⟨State.countedBy_of_rd (State.countedBy_count ({ s.atCycle (groveOf pos) a.due with access := l } : State)
      (tileCounter a.pos (TILE_SPAD_CONFLICT_CNT a.pos)) 1) ((State.rd_congr ht.csr _).trans ?_), ?_⟩
    · exact State.rd_capture_ne _ _ _ _ (tileBase_add_ne (by decide))
    · rw [State.captured, State.rd_congr ht.csr]
      exact State.captured_capture _ _ _ _ _
  | false =>
    rw [htimed, if_neg Bool.false_ne_true] at ht
    have hnear : ({ s.atCycle (groveOf pos) a.due with access := l } : State).Near _ :=
      (State.near_refl _).count (tileCounter a.pos (TILE_SPAD_YIELD_CNT a.pos)) 1
    refine ⟨ht.spadSame (State.Served.of_near hnear).spadSame, ht.imem.trans hnear.imem, ht.net.trans hnear.net,
      ht.msgs.trans hnear.msgs, (congrArg List.length (ht.access.trans hnear.access)).trans hl, ?_⟩
    rw [if_neg Bool.false_ne_true]
    exact State.countedBy_of_rd (State.countedBy_count ({ s.atCycle (groveOf pos) a.due with access := l } : State)
      (tileCounter a.pos (TILE_SPAD_YIELD_CNT a.pos)) 1) (State.rd_congr ht.csr _)
end

/-- Settles O20: an answer of the tile leaves the rest as it was, and each kind of access has its lemma. -/
theorem wheelTurns : Obligations.WheelTurns := by
  unfold Obligations.WheelTurns
  intro pos agent s i a hpos hagent hnext hwins hmarks
  refine ⟨?_, fun hfeed => ⟨fun cls h hr => wheelTurn_write hpos hagent hnext hwins hmarks hfeed h hr,
    fun cls r h hoff hr => wheelTurn_refused hpos hagent hnext hwins hmarks hfeed h hoff hr,
    fun h => wheelTurn_read hpos hagent hnext hwins hmarks hfeed h⟩,
    fun b w c hfeed => wheelTurn_heldOff hpos hagent hnext hwins hmarks hfeed⟩
  cases hfeed : s.feederAt pos (banksOf a.off a.len) a.due with
  | none => exact answerTile_yields (exec_wheelTurn_served hpos hagent hnext hwins hmarks hfeed) fun t ho _ => ho
  | some f => exact answerTile_yields (exec_wheelTurn_heldOff hpos hagent hnext hwins hmarks hfeed) fun t ho _ => ho

end Sys2Proof.Machine
end

section
/-! PROOFS. The fetches of the feeders (O21). -/

namespace Sys2Proof.Machine

/-! ## Bits put into a buffer, bytes read -/

/-- A field put into a word of a buffer wide enough for it. -/
theorem bitsOf_ofNat_setBitsOf {n : Nat} (b : BitVec n) (lo len v : Nat) (h : lo + len ≤ n) :
    bitsOf (BitVec.ofNat n (setBitsOf b.toNat lo len v)).toNat lo len = v % 2 ^ len := by
  rw [BitVec.toNat_ofNat, Nat.mod_eq_of_lt (setBitsOf_lt b.isLt h), bitsOf_setBitsOf_same]

theorem Mem.read_lt (m : Mem) (a n : Nat) : Mem.read m a n < 2 ^ (8 * n) := by
  induction n generalizing a with
  | zero => exact Nat.one_pos
  | succ n ih =>
    have hb := (Mem.byte m a).isLt
    have hr := ih (a + 1)
    rw [Mem.read, Nat.mul_succ, Nat.pow_add]
    omega

theorem State.spadPoisonBits_lt (s : State) (pos off len : Nat) : s.spadPoisonBits pos off len < 2 ^ (len / 4) :=
  lt_of_lt_of_eq (packDigits_lt 1 _ _) (by rw [Nat.one_mul])

/-! ## A weight fetch -/

section
variable (c : Core) (j : FeedJob) (len data poison : Nat)

theorem Core.wbuf_loadWeights_same (hdata : 1024 * j.done + 8 * len ≤ 65536) :
    bitsOf ((c.loadWeights j len data poison).wbuf j.wb).bytes.toNat (1024 * j.done) (8 * len) = data % 2 ^ (8 * len) ∧
    bitsOf ((c.loadWeights j len data poison).wbuf j.wb).poison.toNat (32 * j.done) (len / 4) = poison % 2 ^ (len / 4) := by
  unfold Core.loadWeights Core.wbuf
  dsimp only
  rw [SMap.get_put_same]
  exact ⟨bitsOf_ofNat_setBitsOf _ _ _ _ hdata, bitsOf_ofNat_setBitsOf _ _ _ _ (by omega)⟩

theorem Core.wbuf_congr {c d : Core} (h : d.wb = c.wb) (n : Nat) : d.wbuf n = c.wbuf n := by rw [Core.wbuf, Core.wbuf, h]

theorem Core.wbuf_loadWeights_ne {n : Nat} (h : n ≠ j.wb) : (c.loadWeights j len data poison).wbuf n = c.wbuf n := by
  unfold Core.loadWeights Core.wbuf
  dsimp only
  rw [SMap.get_put_ne _ _ _ _ h]
end

/-! ## The rows of an m.mmul -/

/-- The rows computed one after another: each row of a list of distinct rows gets its sum, the others keep theirs. -/
theorem foldl_rows_ne {α : Type} (key : Nat → Nat) (val : α → Vec → Vec) (l : List (α × Nat)) (m : SMap Vec) {k : Nat}
    (h : ∀ e ∈ l, key e.2 ≠ k) :
    SMap.get 0 (l.foldl (fun m e => SMap.put 0 m (key e.2) (val e.1 (SMap.get 0 m (key e.2)))) m) k = SMap.get 0 m k := by
  induction l generalizing m with
  | nil => rfl
  | cons e l ih =>
    rw [List.foldl_cons, ih _ fun x hx => h x (List.mem_cons_of_mem _ hx), SMap.get_put_ne _ _ _ _ (h e List.mem_cons_self).symm]

theorem foldl_rows_mem {α : Type} (key : Nat → Nat) (hkey : Function.Injective key) (val : α → Vec → Vec) (l : List (α × Nat))
    (hl : (l.map Prod.snd).Nodup) (m : SMap Vec) {x : α} {r : Nat} (h : (x, r) ∈ l) :
    SMap.get 0 (l.foldl (fun m e => SMap.put 0 m (key e.2) (val e.1 (SMap.get 0 m (key e.2)))) m) (key r)
      = val x (SMap.get 0 m (key r)) := by
  induction l generalizing m with
  | nil => exact absurd h List.not_mem_nil
  | cons e l ih =>
    rw [List.map_cons, List.nodup_cons] at hl
    rw [List.foldl_cons]
    rcases List.mem_cons.mp h with rfl | hmem
    · rw [foldl_rows_ne key val l _ fun e he hk => hl.1 (List.mem_map.mpr ⟨e, he, hkey hk⟩), SMap.get_put_same]
    · have hne : key r ≠ key e.2 := fun hk => hl.1 ((hkey hk : r = e.2) ▸ List.mem_map_of_mem hmem)
      rw [ih hl.2 _ hmem, SMap.get_put_ne _ _ _ _ hne]

theorem Core.accRow_mmulRows (c : Core) (j : FeedJob) {r x : Nat} (h : j.acts[r]? = some x) : (c.mmulRows j).accRow j.acc r =
    mmulRow j.fmt j.fmtW x (c.wbuf j.wb).bytes.toNat (if j.clr then 0 else c.accRow j.acc r) := by
  have hr : r < j.acts.length := (List.getElem?_eq_some_iff.mp h).1
  have hmem : (x, r) ∈ j.acts.zip (List.range j.acts.length) := by
    refine List.mem_of_getElem? (i := r) ?_
    rw [List.getElem?_zip_eq_some]
    exact ⟨h, List.getElem?_range hr⟩
  have hnodup : ((j.acts.zip (List.range j.acts.length)).map Prod.snd).Nodup := by
    rw [List.map_snd_zip (by simp)]
    exact List.nodup_range
  exact foldl_rows_mem (fun r => j.acc * 64 + r) (fun a b hab => Nat.add_left_cancel hab)
    (fun x prev => mmulRow j.fmt j.fmtW x (c.wbuf j.wb).bytes.toNat (if j.clr then 0 else prev)) _ hnodup c.acc hmem

/-! ## The trap of a fetch -/

/-- What a trap leaves of the accumulators, its cause and place, and the scratchpads. -/
theorem State.takeTrap_leaves {id : CoreId} (hw : id.wf = true) (u : State) (pc idle t : Nat) (p : Trap) :
    ((u.takeTrap id.pos id.core pc idle t p).core id.key).acc = (u.core id.key).acc ∧
    (u.takeTrap id.pos id.core pc idle t p).rd (TILE_CORE_TCAUSE id.pos id.core) = p.cause % 2 ^ 64 ∧
    (u.takeTrap id.pos id.core pc idle t p).rd (TILE_CORE_TPC id.pos id.core) = pc % 2 ^ 64 ∧
    (u.takeTrap id.pos id.core pc idle t p).spad = u.spad := by
  obtain ⟨hcause, htpc, -⟩ := State.rd_trapSent_written hw u pc t p
  rw [State.takeTrap_eq]
  refine ⟨?_, hcause, htpc, (u.near_trapSent id.pos id.core pc t p).spad.trans ?_⟩
  · rw [State.core_setCore_same, State.stallCounted_core]
    rfl
  · rw [State.stallCounted_frame]

/-! ## The fetches -/

/-- The job of an activation feeder with a vector more brought in. -/
def FeedJob.fetched (j : FeedJob) (x : Nat) : FeedJob := { j with done := j.done + 1, acts := j.acts ++ [x] }

/-- A core with a vector more of a job brought in, its rows computed once it is the last. -/
def Core.fetchedA (c : Core) (i : Nat) (j : FeedJob) : Core :=
  if j.done = j.total then
    ({ c with feedA := replaceAt c.feedA i (if j.done = j.total then { j with acts := [] } else j) } : Core).mmulRows j
  else { c with feedA := replaceAt c.feedA i (if j.done = j.total then { j with acts := [] } else j) }

section
variable (c : Core) (i : Nat) {j : FeedJob} {r x y : Nat}

theorem Core.acc_fetchedA (hlast : j.done + 1 ≠ j.total) : (c.fetchedA i (j.fetched y)).acc = c.acc := by
  rw [Core.fetchedA, if_neg (show ¬(j.fetched y).done = (j.fetched y).total from hlast)]

theorem Core.accRow_fetchedA (hlast : j.done + 1 = j.total) (h : (j.acts ++ [y])[r]? = some x) :
    (c.fetchedA i (j.fetched y)).accRow j.acc r =
      mmulRow j.fmt j.fmtW x (c.wbuf j.wb).bytes.toNat (if j.clr then 0 else c.accRow j.acc r) := by
  rw [Core.fetchedA, if_pos (show (j.fetched y).done = (j.fetched y).total from hlast)]
  exact Core.accRow_mmulRows _ (j.fetched y) h

theorem Core.wb_fetchedA (j : FeedJob) : (c.fetchedA i j).wb = c.wb := by
  unfold Core.fetchedA
  split <;> rfl
end



section
variable {id : CoreId} {s : State} {i : Nat} {j : FeedJob} (hw : id.wf = true)
include hw

theorem exec_feederFetch_weights (hnext : nextJob (s.core id.key).feedW 0 = some (i, j))
    (hissued : ¬((s.core id.key).issued ≠ 0 ∧ (s.core id.key).nextIssue ≤ j.cycle true j.done))
    (hmarks : s.marksDue id.pos (j.cycle true j.done) = false) :
    exec (.feederFetch id true) s = answerTile (groveOf id.pos) (j.cycle true j.done) s (fun u =>
      (u.spadRead id.pos (j.bytes true j.done).1 (j.bytes true j.done).2 id.core true).2.2.modCore id.key (fun c =>
        { c.loadWeights j (j.bytes true j.done).2 (Mem.read u.spad (spadKey id.pos (j.bytes true j.done).1) (j.bytes true j.done).2)
            (u.spadPoisonBits id.pos (j.bytes true j.done).1 (j.bytes true j.done).2)
          with feedW := replaceAt c.feedW i { j with done := j.done + 1 } })) := by
  rw [exec_feederFetch, execFeederFetch]
  simp only [hw, hnext, hmarks, Bool.not_true, Bool.false_eq_true, if_false, if_true]
  rw [if_neg (by simpa using hissued)]
  rfl

theorem feederFetch_weights (hnext : nextJob (s.core id.key).feedW 0 = some (i, j))
    (hissued : ¬((s.core id.key).issued ≠ 0 ∧ (s.core id.key).nextIssue ≤ j.cycle true j.done))
    (hmarks : s.marksDue id.pos (j.cycle true j.done) = false)
    (hfit : 1024 * j.done + 8 * (j.bytes true j.done).2 ≤ 65536) : yields (.feederFetch id true) s (fun t =>
      bitsOf ((t.core id.key).wbuf j.wb).bytes.toNat (1024 * j.done) (8 * (j.bytes true j.done).2)
        = Mem.read s.spad (spadKey id.pos (j.bytes true j.done).1) (j.bytes true j.done).2 ∧
      bitsOf ((t.core id.key).wbuf j.wb).poison.toNat (32 * j.done) ((j.bytes true j.done).2 / 4)
        = s.spadPoisonBits id.pos (j.bytes true j.done).1 (j.bytes true j.done).2 ∧
      (∀ n, n ≠ j.wb → (t.core id.key).wbuf n = (s.core id.key).wbuf n) ∧ (t.core id.key).acc = (s.core id.key).acc ∧
      t.spad = s.spad ∧ t.spadPoison = s.spadPoison ∧ s.onlyTiles t) := by
  refine answerTile_yields (exec_feederFetch_weights hw hnext hissued hmarks) fun t ho ht => ?_
  have hread := State.Checked.spadRead (s.atCycle (groveOf id.pos) (j.cycle true j.done)) id.pos (j.bytes true j.done).1
    (j.bytes true j.done).2 id.core true
  have hcore := (State.core_congr ht.cores id.key).trans (State.core_modCore_same _ _ _)
  rw [State.core_congr hread.cores] at hcore
  have hwb : (t.core id.key).wb = ((s.core id.key).loadWeights j (j.bytes true j.done).2
      (Mem.read s.spad (spadKey id.pos (j.bytes true j.done).1) (j.bytes true j.done).2)
      (s.spadPoisonBits id.pos (j.bytes true j.done).1 (j.bytes true j.done).2)).wb := (congrArg Core.wb hcore :)
  have hacc : (t.core id.key).acc = (s.core id.key).acc := (congrArg Core.acc hcore :)
  obtain ⟨hbytes, hpoison⟩ := (s.core id.key).wbuf_loadWeights_same j (j.bytes true j.done).2
    (Mem.read s.spad (spadKey id.pos (j.bytes true j.done).1) (j.bytes true j.done).2)
    (s.spadPoisonBits id.pos (j.bytes true j.done).1 (j.bytes true j.done).2) hfit
  rw [Core.wbuf_congr hwb]
  refine ⟨hbytes.trans (Nat.mod_eq_of_lt (Mem.read_lt _ _ _)), hpoison.trans (Nat.mod_eq_of_lt (s.spadPoisonBits_lt _ _ _)),
    fun n hn => ?_, hacc, ht.spad.trans hread.served.spad, ht.spadPoison.trans ?_, ho⟩
  · rw [Core.wbuf_congr hwb]
    exact Core.wbuf_loadWeights_ne _ _ _ _ _ hn
  · exact hread.served.spadSame.2.1

variable (hnext : nextJob (s.core id.key).feedA 0 = some (i, j))
  (hissued : ¬((s.core id.key).issued ≠ 0 ∧ (s.core id.key).nextIssue ≤ j.cycle false j.done))
  (hmarks : s.marksDue id.pos (j.cycle false j.done) = false)
include hnext hissued hmarks

theorem exec_feederFetch_activations : exec (.feederFetch id false) s =
    answerTile (groveOf id.pos) (j.cycle false j.done) s (fun u =>
      if u.spadPoisonBits id.pos (j.bytes false j.done).1 (j.bytes false j.done).2 % 2 ^ activationWords j.fmt ≠ 0 then
        ((u.spadRead id.pos (j.bytes false j.done).1 (j.bytes false j.done).2 id.core true).2.2.modCore id.key (fun c =>
          { c with feedA := replaceAt c.feedA i { j with done := j.total, acts := [] } })).takeTrap id.pos id.core j.pc 0
            (j.cycle false j.done) (Trap.at 4 2 0)
      else (u.spadRead id.pos (j.bytes false j.done).1 (j.bytes false j.done).2 id.core true).2.2.modCore id.key (fun c =>
        c.fetchedA i (j.fetched (Mem.read u.spad (spadKey id.pos (j.bytes false j.done).1) (j.bytes false j.done).2)))) := by
  rw [exec_feederFetch, execFeederFetch]
  simp only [hw, hnext, hmarks, Bool.not_true, Bool.false_eq_true, if_false]
  rw [if_neg (by simpa using hissued)]
  rfl

/-- An activation fetch without poison changes rows of an accumulator at most, and those at the job's last fetch. -/
theorem feederFetch_activations
    (hclean : s.spadPoisonBits id.pos (j.bytes false j.done).1 (j.bytes false j.done).2 % 2 ^ activationWords j.fmt = 0) :
    yields (.feederFetch id false) s (fun t =>
      (j.done + 1 ≠ j.total → (t.core id.key).acc = (s.core id.key).acc) ∧
      (j.done + 1 = j.total → ∀ r x,
        (j.acts ++ [Mem.read s.spad (spadKey id.pos (j.bytes false j.done).1) (j.bytes false j.done).2])[r]? = some x →
        (t.core id.key).accRow j.acc r = mmulRow j.fmt j.fmtW x ((s.core id.key).wbuf j.wb).bytes.toNat
          (if j.clr then 0 else (s.core id.key).accRow j.acc r)) ∧
      (t.core id.key).wb = (s.core id.key).wb ∧ t.spad = s.spad ∧ s.onlyTiles t) := by
  refine answerTile_yields (exec_feederFetch_activations hw hnext hissued hmarks) fun t ho ht => ?_
  rw [if_neg (by exact not_not.mpr hclean)] at ht
  have hread := State.Checked.spadRead (s.atCycle (groveOf id.pos) (j.cycle false j.done)) id.pos (j.bytes false j.done).1
    (j.bytes false j.done).2 id.core true
  have hcore := (State.core_congr ht.cores id.key).trans (State.core_modCore_same _ _ _)
  rw [State.core_congr hread.cores] at hcore
  have hcore' : t.core id.key = (s.core id.key).fetchedA i
      (j.fetched (Mem.read s.spad (spadKey id.pos (j.bytes false j.done).1) (j.bytes false j.done).2)) := hcore
  refine ⟨fun hlast => ?_, fun hlast r x hx => ?_, ?_, ht.spad.trans hread.served.spad, ho⟩ <;> rw [hcore']
  · exact Core.acc_fetchedA _ _ hlast
  · exact Core.accRow_fetchedA _ _ hlast hx
  · exact Core.wb_fetchedA _ _ _

/-- An activation fetch that meets poison takes the trap of its m.mmul's bundle. -/
theorem feederFetch_poisoned
    (hpoison : s.spadPoisonBits id.pos (j.bytes false j.done).1 (j.bytes false j.done).2 % 2 ^ activationWords j.fmt ≠ 0) :
    yields (.feederFetch id false) s (fun t =>
      (t.core id.key).acc = (s.core id.key).acc ∧ t.rd (TILE_CORE_TCAUSE id.pos id.core) = 4 ∧
      t.rd (TILE_CORE_TPC id.pos id.core) = j.pc % 2 ^ 64 ∧ t.spad = s.spad) := by
  refine answerTile_yields (exec_feederFetch_activations hw hnext hissued hmarks) fun t ho ht => ?_
  rw [if_pos (by exact hpoison)] at ht
  have hread := State.Checked.spadRead (s.atCycle (groveOf id.pos) (j.cycle false j.done)) id.pos (j.bytes false j.done).1
    (j.bytes false j.done).2 id.core true
  obtain ⟨hacc, hcause, htpc, hspad⟩ := State.takeTrap_leaves hw (((s.atCycle (groveOf id.pos) (j.cycle false j.done)).spadRead id.pos
    (j.bytes false j.done).1 (j.bytes false j.done).2 id.core true).2.2.modCore id.key (fun c =>
      { c with feedA := replaceAt c.feedA i { j with done := j.total, acts := [] } })) j.pc 0 (j.cycle false j.done) (Trap.at 4 2 0)
  refine ⟨?_, (State.rd_congr ht.csr _).trans hcause, (State.rd_congr ht.csr _).trans htpc,
    ht.spad.trans (hspad.trans hread.served.spad)⟩
  rw [State.core_congr ht.cores, hacc, State.core_modCore_same, State.core_congr hread.cores]
  rfl
end

/-- Settles O21. -/
theorem feederFetches : Obligations.FeederFetches := by
  unfold Obligations.FeederFetches
  refine ⟨fun id s i j hw hnext hissued hmarks hfit => feederFetch_weights hw hnext hissued hmarks hfit,
    fun id s i j hw hnext hissued hmarks => ⟨fun hclean => feederFetch_activations hw hnext hissued hmarks hclean,
      fun hpoison => feederFetch_poisoned hw hnext hissued hmarks hpoison⟩⟩

end Sys2Proof.Machine
end

section
/-! PROOFS. Answers at the source router (O31). -/

namespace Sys2Proof.Machine

/-! ## The item that leaves -/

/-- An item without the cycle it waits from. -/
def NetItem.untimed (x : NetItem) : NetItem := { x with at_ := 0 }

theorem map_replaceAt_of_eq {α β : Type} (f : α → β) {l : List α} {i : Nat} {x y : α} (h : l[i]? = some x) (hf : f y = f x) :
    (replaceAt l i y).map f = l.map f := by
  induction l generalizing i with
  | nil => rfl
  | cons z l ih =>
    cases i with
    | zero =>
      obtain rfl : z = x := by simpa using h
      simp [replaceAt, hf]
    | succ i => exact congrArg (f z :: ·) (ih (by simpa using h))

theorem State.leaveNet_frame (s : State) (n : Nat) : s.leaveNet n = { s with net := (s.leaveNet n).net } := by
  unfold State.leaveNet
  split
  · rfl
  · dsimp only
    split
    · rfl
    · split <;> rfl

theorem State.left_leaveNet {s : State} {n : Nat} {it : NetItem} (h : s.net[n]? = some it) : s.left n (s.leaveNet n).net := by
  unfold State.left State.leaveNet
  rw [h]
  dsimp only
  split
  · rfl
  next i hi =>
    split
    · rfl
    next x hx =>
      dsimp only
      split
      · exact map_replaceAt_of_eq NetItem.untimed hx rfl
      · rfl

/-! ## An entry freed -/

theorem SMap.find?_erase_same {α : Type} (m : SMap α) (k : Nat) : (m.erase k).find? (fun e => decide (e.1 = k)) = none := by
  induction m with
  | nil => rfl
  | cons e m ih =>
    obtain ⟨j, v⟩ := e
    simp only [SMap.erase]
    split
    · exact ih
    next hne =>
      rw [List.find?_cons_of_neg (by simpa using fun h : j = k => hne h.symm)]
      exact ih

theorem State.trackAt_freeTrack (s : State) (pos tag : Nat) : (s.freeTrack pos tag).trackAt pos tag = none := by
  rw [State.trackAt, State.freeTrack, SMap.find?_erase_same]
  rfl

/-! ## What an answer changes -/

/-- `t` is `s` but for what frees slots: credits. -/
theorem State.freeSlots_frame (s : State) (link : Option Nat) (cls n : Nat) : s.freeSlots link cls n =
    { s with creditUsed := (s.freeSlots link cls n).creditUsed, creditBack := (s.freeSlots link cls n).creditBack } := by
  unfold State.freeSlots
  split <;> rfl

/-- The state in which an answer meets its entry: its item gone. -/
def State.answering (s : State) (n pos inport : Nat) (p : Pkt) : State := (s.leaveNet n).freeSlots (inLink pos inport) 1 p.flits

theorem State.answering_frame (s : State) (n pos inport : Nat) (p : Pkt) : s.answering n pos inport p =
    { s with net := (s.leaveNet n).net, creditUsed := (s.answering n pos inport p).creditUsed
             creditBack := (s.answering n pos inport p).creditBack } := by
  unfold State.answering
  rw [State.freeSlots_frame, State.leaveNet_frame]

/-- The end of a tracked packet leaves the mesh and the tracking entries. -/
theorem State.conclude_net (s : State) (k : Track) (refused : Option Nat) : (s.conclude k refused).net = s.net ∧
    (s.conclude k refused).track = s.track := by
  unfold State.conclude
  split
  · dsimp only
    split
    · split
      · exact ⟨rfl, rfl⟩
      · exact ⟨State.perf_net _ _ _ _ _, State.perf_track _ _ _ _ _⟩
    · exact ⟨rfl, rfl⟩
  · split <;> exact ⟨rfl, rfl⟩
  · exact ⟨rfl, rfl⟩
  · exact ⟨rfl, rfl⟩

theorem State.moverData_net (s : State) (pos inport id i : Nat) (p : Pkt) : (s.moverData pos inport id i p).net = s.net := by
  unfold State.moverData
  split
  · rw [State.freeSlots_frame]
  · dsimp only
    split
    · rw [State.freeSlots_frame]
      rfl
    · rfl

theorem State.answered_net (s : State) (pos inport tag : Nat) (k : Track) (p : Pkt) : (s.answered pos inport tag k p).net = s.net := by
  have hfree (u : State) (link : Option Nat) (cls m : Nat) : (u.freeSlots link cls m).net = u.net := by rw [State.freeSlots_frame]
  unfold State.answered State.readBack
  dsimp only
  split
  · split
    · exact State.moverData_net _ _ _ _ _ _
    · exact hfree _ _ _ _
    · exact hfree _ _ _ _
  · split
    · exact (State.conclude_net _ _ _).1.trans (hfree _ _ _ _)
    · split
      · exact hfree _ _ _ _
      · split
        · exact hfree _ _ _ _
        · exact (State.conclude_net _ _ _).1.trans (hfree _ _ _ _)

/-! ## The command -/

/-- `t` holds, of what an answer may change, what `u` does. -/
structure State.NetView (u t : State) : Prop where
  cores : t.cores = u.cores
  csr : t.csr = u.csr
  tiles : t.tiles = u.tiles
  access : t.access = u.access
  net : t.net = u.net
  track : t.track = u.track

theorem answerNet_yields {i : Instr} {s u : State} {P : State → Prop} (he : exec i s = answerNet s u)
    (hP : ∀ t, s.onlyMesh t → u.NetView t → P t) : yields i s P :=
  ⟨_, he, hP _ rfl ⟨rfl, rfl, rfl, rfl, rfl, rfl⟩⟩

section
variable {n pos inport : Nat} {p : Pkt} {s : State} {here : LinkErrors}

theorem State.inspect_of_checked {it : NetItem} (hnet : s.net[n]? = some it) (hplace : it.place = .router pos inport)
    (hc : it.checked = true) : s.inspect n here = s := by
  unfold State.inspect
  rw [hnet]
  dsimp only
  rw [hplace]
  dsimp only
  rw [if_pos hc]

theorem classOf_response (h3 : 3 ≤ p.type) : classOf p.type = 1 := by
  rw [classOf, if_neg (by omega), if_neg (by omega)]

variable (hat : s.atHead n pos inport p) (harr : p.arrived = true) (h3 : 3 ≤ p.type) (h6 : p.type ≤ 6)
include hat harr h3 h6

/-- A response whose entry has ended is discarded. -/
theorem exec_sourceAnswer_untracked (h : p.home ≠ pos ∨ s.trackAt pos p.tag = none) :
    exec (.sourceAnswer ⟨n, here⟩) s = answerNet s (s.answering n pos inport p) := by
  obtain ⟨it, hnet, rfl, hplace, hchecked, hhead, hup, hgood⟩ := hat
  have hnone : (if it.pkt.home = pos then s.trackAt pos it.pkt.tag else none) = none := by
    split
    next hhome => exact h.resolve_left (not_not.mpr hhome)
    next => rfl
  have hcls := classOf_response h3
  rw [exec_sourceAnswer, execSourceAnswer, answerChecked]
  simp only [State.inspect_of_checked hnet hplace hchecked, hnet, State.answerItem, hplace, harr, hhead, hup, hcls, hgood, hnone]
  rw [if_neg (by simpa using h6)]
  rw [State.answering, State.takeItem, hcls]

theorem exec_sourceAnswer_tracked {k : Track} (hhome : p.home = pos) (hk : s.trackAt pos p.tag = some k) :
    exec (.sourceAnswer ⟨n, here⟩) s = answerNet s ((s.leaveNet n).answered pos inport p.tag k p) := by
  obtain ⟨it, hnet, rfl, hplace, hchecked, hhead, hup, hgood⟩ := hat
  have hcls := classOf_response h3
  rw [exec_sourceAnswer, execSourceAnswer, answerChecked]
  simp only [State.inspect_of_checked hnet hplace hchecked, hnet, State.answerItem, hplace, harr, hhead, hup, hcls, hgood,
    if_pos hhome, hk]
  rw [if_neg (by simpa using h6)]
end

/-! ## What an answer completes -/

theorem Core.without_performed (c : Core) (t id : Nat) : c.without (c.performed t id) id := by
  unfold Core.without Core.performed
  rw [List.map_map]
  refine List.map_congr_left fun q _ => ?_
  dsimp only [Function.comp]
  split <;> rfl

theorem Core.stall_landLoad (c : Core) (dst : LoadDst) (data poison : Nat) : (c.landLoad dst data poison).stall = c.stall := by
  unfold Core.landLoad
  split
  · split <;> rfl
  · rfl

theorem Core.sreg_landLoad (c : Core) {m : Nat} (hm : m ≠ 0) (data poison : Nat) :
    (c.landLoad (.sreg m) data poison).sreg m = ⟨BitVec.ofNat 64 data, BitVec.ofNat 2 poison⟩ := by
  unfold Core.landLoad Core.sreg
  dsimp only
  rw [if_neg hm, if_neg hm, SMap.get_put_same]

theorem Core.vreg_landLoad (c : Core) (m data poison : Nat) :
    (c.landLoad (.vreg m) data poison).vreg m = ⟨BitVec.ofNat 2048 data, BitVec.ofNat 64 poison⟩ := by
  unfold Core.landLoad Core.vreg
  dsimp only
  rw [SMap.get_put_same]

theorem Core.vreg_congr {c d : Core} (h : d.v = c.v) (n : Nat) : d.vreg n = c.vreg n := by rw [Core.vreg, Core.vreg, h]

/-- What a load brings to its core: its register, and the end of the core's wait. -/
theorem State.loadBack_leaves (s : State) (key : Nat) (dst : LoadDst) (data poison : Nat) :
    (∀ m, dst = .sreg m → m ≠ 0 →
      ((s.loadBack key dst data poison).core key).sreg m = ⟨BitVec.ofNat 64 data, BitVec.ofNat 2 poison⟩) ∧
    (∀ m, dst = .vreg m → ((s.loadBack key dst data poison).core key).vreg m = ⟨BitVec.ofNat 2048 data, BitVec.ofNat 64 poison⟩) ∧
    (∀ b, (s.core key).stall = .load b → ((s.loadBack key dst data poison).core key).stall = .load true) := by
  obtain ⟨hs, hv⟩ : ((s.loadBack key dst data poison).core key).s = ((s.core key).landLoad dst data poison).s ∧
      ((s.loadBack key dst data poison).core key).v = ((s.core key).landLoad dst data poison).v := by
    unfold State.loadBack
    rw [State.core_modCore_same]
    dsimp only
    split <;> exact ⟨rfl, rfl⟩
  refine ⟨fun m hdst hm => ?_, fun m hdst => ?_, fun b hb => ?_⟩
  · subst hdst
    rw [Core.sreg_congr hs, Core.sreg_landLoad _ hm]
  · subst hdst
    rw [Core.vreg_congr hv, Core.vreg_landLoad]
  · have hstall := ((s.core key).stall_landLoad dst data poison).trans hb
    unfold State.loadBack
    rw [State.core_modCore_same]
    dsimp only
    split
    · rfl
    next hne => exact absurd hstall (hne b)

/-! ## Each kind of answer -/

section
variable (s : State) (n pos inport : Nat) (k : Track) {p : Pkt}

theorem State.answered_ack (h : p.type = tACK) : (s.leaveNet n).answered pos inport p.tag k p =
    ((s.answering n pos inport p).freeTrack pos p.tag).conclude k none := by
  rw [State.answered, if_neg (by rw [h]; decide), if_pos h]
  rfl

theorem State.answered_dead (h : p.type = tDEAD) : (s.leaveNet n).answered pos inport p.tag k p =
    (s.answering n pos inport p).holdTrack pos p.tag k .dead := by
  rw [State.answered, if_neg (by rw [h]; decide), if_neg (by rw [h]; decide), if_pos h]
  rfl

theorem State.answered_moved (h : p.type = tNACK) (hr : p.reason = 1) : (s.leaveNet n).answered pos inport p.tag k p =
    (s.answering n pos inport p).holdTrack pos p.tag k (.moved ((s.answering n pos inport p).copyEntry pos
      ((s.answering n pos inport p).watched k))) := by
  rw [State.answered, if_neg (by rw [h]; decide), if_neg (by rw [h]; decide), if_neg (by rw [h]; decide), if_pos hr]
  rfl

theorem State.answered_nack (h : p.type = tNACK) (hr : p.reason ≠ 1) : (s.leaveNet n).answered pos inport p.tag k p =
    ((s.answering n pos inport p).freeTrack pos p.tag).conclude k (some p.reason) := by
  rw [State.answered, if_neg (by rw [h]; decide), if_neg (by rw [h]; decide), if_neg (by rw [h]; decide), if_neg hr]
  rfl

theorem State.answered_data (h : p.type = tRDATA) {key : Nat} {dst : LoadDst} (hk : k.holder = .load key dst) :
    (s.leaveNet n).answered pos inport p.tag k p =
      (((s.leaveNet n).freeTrack pos p.tag).loadBack key dst p.data p.dataPoison).freeSlots (inLink pos inport) 1 p.flits := by
  rw [State.answered, if_pos h, State.readBack]
  rw [hk]
end

theorem State.core_answering (s : State) (n pos inport : Nat) (p : Pkt) (j : Nat) : (s.answering n pos inport p).core j = s.core j := by
  rw [State.answering_frame]
  rfl

theorem State.csr_answering (s : State) (n pos inport : Nat) (p : Pkt) : (s.answering n pos inport p).csr = s.csr := by
  rw [State.answering_frame]

theorem State.tile_answering (s : State) (n pos inport : Nat) (p : Pkt) (q : Nat) : (s.answering n pos inport p).tile q = s.tile q := by
  rw [State.answering_frame]
  rfl

/-- The map entry that a packet watches is read where its answer finds it. -/
theorem State.watchedEntry_answering (s : State) (n pos inport : Nat) (p : Pkt) (k : Track) :
    (s.answering n pos inport p).copyEntry pos ((s.answering n pos inport p).watched k) = s.copyEntry pos (s.watched k) := by
  rw [State.answering_frame]
  rfl

theorem State.now_answering (s : State) (n pos inport : Nat) (p : Pkt) : (s.answering n pos inport p).now = s.clk.ref := by
  rw [State.answering_frame]
  rfl

section
variable {n pos inport : Nat} {p : Pkt} {s : State} {here : LinkErrors} {k : Track}
  (hat : s.atHead n pos inport p) (harr : p.arrived = true) (h3 : 3 ≤ p.type) (h6 : p.type ≤ 6)
  (hhome : p.home = pos) (hk : s.trackAt pos p.tag = some k)
include hat harr h3 h6 hhome hk

theorem answer_ack_posted {key id : Nat} (hh : k.holder = .posted key id) (h : p.type = tACK) :
    yields (.sourceAnswer ⟨n, here⟩) s (fun t =>
      t.trackAt pos p.tag = none ∧ (s.core key).without (t.core key) id ∧ t.csr = s.csr) := by
  refine answerNet_yields ((exec_sourceAnswer_tracked hat harr h3 h6 hhome hk).trans (by rw [State.answered_ack _ _ _ _ _ h]))
    fun t _ ht => ?_
  simp only [State.conclude, hh] at ht
  refine ⟨(State.trackAt_congr ht.track _ _).trans (State.trackAt_freeTrack _ _ _), ?_, ht.csr.trans (s.csr_answering n pos inport p)⟩
  rw [State.core_congr ht.cores, State.posted, State.core_modCore_same]
  exact (s.core_answering n pos inport p key) ▸ Core.without_performed _ _ _

theorem answer_nack_posted {key id : Nat} (hh : k.holder = .posted key id) (h : p.type = tNACK) (h1 : p.reason ≠ 1)
    (h67 : ¬(p.reason = 6 ∨ p.reason = 7)) : yields (.sourceAnswer ⟨n, here⟩) s (fun t =>
      t.trackAt pos p.tag = none ∧ (s.core key).without (t.core key) id ∧
      t.fld (TILE_CORE_PERFn_COUNT (key / 8) (key % 8) 3)
        = (s.fld (TILE_CORE_PERFn_COUNT (key / 8) (key % 8) 3) + 1) % 2 ^ 48) := by
  refine answerNet_yields ((exec_sourceAnswer_tracked hat harr h3 h6 hhome hk).trans (by rw [State.answered_nack _ _ _ _ _ h h1]))
    fun t _ ht => ?_
  simp only [State.conclude, hh, if_neg h67, State.perfNack] at ht
  refine ⟨(State.trackAt_congr (ht.track.trans (State.perf_track _ _ _ _ _)) _ _).trans (State.trackAt_freeTrack _ _ _), ?_, ?_⟩
  · rw [State.core_congr ht.cores, State.posted, State.core_modCore_same, State.core_congr (State.perf_cores _ _ _ _ _)]
    exact (s.core_answering n pos inport p key) ▸ Core.without_performed _ _ _
  · rw [State.fld_congr ht.csr]
    refine (State.fld_perf _ _ _ _ _ ?_).trans ?_
    · simp only [TILE_CORE_PERFn, TILE_CORE_STATUS]
      omega
    · exact congrArg (fun x => (x + 1) % 2 ^ 48) (State.fld_congr (s.csr_answering n pos inport p) _)

theorem answer_data_load {key : Nat} {dst : LoadDst} (hh : k.holder = .load key dst) (h : p.type = tRDATA) :
    yields (.sourceAnswer ⟨n, here⟩) s (fun t => t.trackAt pos p.tag = none ∧
      (∀ m, dst = .sreg m → m ≠ 0 → (t.core key).sreg m = ⟨BitVec.ofNat 64 p.data, BitVec.ofNat 2 p.dataPoison⟩) ∧
      (∀ m, dst = .vreg m → (t.core key).vreg m = ⟨BitVec.ofNat 2048 p.data, BitVec.ofNat 64 p.dataPoison⟩) ∧
      (∀ b, (s.core key).stall = .load b → (t.core key).stall = .load true)) := by
  refine answerNet_yields ((exec_sourceAnswer_tracked hat harr h3 h6 hhome hk).trans (by rw [State.answered_data _ _ _ _ _ h hh]))
    fun t _ ht => ?_
  rw [State.freeSlots_frame] at ht
  have hcore : ((s.leaveNet n).freeTrack pos p.tag).core key = s.core key := by
    rw [State.leaveNet_frame]
    rfl
  rw [State.core_congr (s := ((s.leaveNet n).freeTrack pos p.tag).loadBack key dst p.data p.dataPoison) ht.cores, ← hcore]
  exact ⟨(State.trackAt_congr ht.track _ _).trans (State.trackAt_freeTrack _ _ _), State.loadBack_leaves _ key dst _ _⟩

theorem answer_nack_load {key : Nat} {dst : LoadDst} (hh : k.holder = .load key dst) (h : p.type = tNACK) (h1 : p.reason ≠ 1) :
    yields (.sourceAnswer ⟨n, here⟩) s (fun t => t.trackAt pos p.tag = none ∧
      (∀ m, dst = .sreg m → m ≠ 0 → (t.core key).sreg m = ⟨0, 3⟩) ∧
      (∀ m, dst = .vreg m → (t.core key).vreg m = ⟨0, BitVec.allOnes 64⟩) ∧
      (∀ b, (s.core key).stall = .load b → (t.core key).stall = .load true)) := by
  refine answerNet_yields ((exec_sourceAnswer_tracked hat harr h3 h6 hhome hk).trans (by rw [State.answered_nack _ _ _ _ _ h h1]))
    fun t _ ht => ?_
  simp only [State.conclude, hh] at ht
  obtain ⟨hsreg, hvreg, hstall⟩ := ((s.answering n pos inport p).freeTrack pos p.tag).loadBack_leaves key dst 0 (2 ^ 64 - 1)
  rw [State.core_congr ht.cores]
  refine ⟨(State.trackAt_congr ht.track _ _).trans (State.trackAt_freeTrack _ _ _), fun m hdst hm => ?_, fun m hdst => ?_,
    fun b hb => hstall b ((congrArg Core.stall (s.core_answering n pos inport p key)).trans hb)⟩
  · rw [hsreg m hdst hm]
    rfl
  · rw [hvreg m hdst]
    rfl

theorem answer_ack_mover {q id i : Nat} (hh : k.holder = .mover q id i) (h : p.type = tACK) :
    yields (.sourceAnswer ⟨n, here⟩) s (fun t => t.trackAt pos p.tag = none ∧
      (t.tile q).queue = (s.tile q).queue.map (fun x =>
        if x.id = id then x.answered i none k.pkt.addr (decide (k.pkt.poison ≠ 0)) else x)) := by
  refine answerNet_yields ((exec_sourceAnswer_tracked hat harr h3 h6 hhome hk).trans (by rw [State.answered_ack _ _ _ _ _ h]))
    fun t _ ht => ?_
  simp only [State.conclude, hh] at ht
  refine ⟨(State.trackAt_congr ht.track _ _).trans (State.trackAt_freeTrack _ _ _), ?_⟩
  have htile := (State.tile_congr ht.tiles q).trans (State.tile_modTile_same _ _ _)
  rw [htile, ← s.tile_answering n pos inport p q]
  rfl

theorem answer_held {u : State} {hold : Hold} (hu : (s.leaveNet n).answered pos inport p.tag k p = u)
    (he : u = (s.answering n pos inport p).holdTrack pos p.tag k hold) : yields (.sourceAnswer ⟨n, here⟩) s (fun t =>
      t.cores = s.cores ∧ t.trackAt pos p.tag = some { k with hold := hold, heldFrom := some (k.heldFrom.getD s.clk.ref) }) := by
  refine answerNet_yields ((exec_sourceAnswer_tracked hat harr h3 h6 hhome hk).trans (by rw [hu, he])) fun t _ ht => ?_
  refine ⟨ht.cores.trans (congrArg State.cores (s.answering_frame n pos inport p) :), ?_⟩
  refine (State.trackAt_congr ht.track _ _).trans ((State.trackAt_setTrack _ _ _ _).trans ?_)
  rw [Track.holdFrom, State.now_answering]
end

/-- Settles O31: each kind of answer has its lemma. -/
theorem sourceAnswers : Obligations.SourceAnswers := by
  unfold Obligations.SourceAnswers
  intro n pos inport p s here hat harr h3 h6
  obtain ⟨it, hnet, -⟩ := id hat
  refine ⟨?_, fun h => ?_, fun k hhome hk => ⟨fun key id hh h => answer_ack_posted hat harr h3 h6 hhome hk hh h,
    fun key id hh h h1 h6' h7 => answer_nack_posted hat harr h3 h6 hhome hk hh h h1 (not_or.mpr ⟨h6', h7⟩),
    fun key dst hh h => answer_data_load hat harr h3 h6 hhome hk hh h,
    fun key dst hh h h1 => answer_nack_load hat harr h3 h6 hhome hk hh h h1,
    fun q id i hh h => answer_ack_mover hat harr h3 h6 hhome hk hh h,
    fun h => answer_held hat harr h3 h6 hhome hk (State.answered_dead _ _ _ _ _ h) rfl,
    fun h h1 => answer_held hat harr h3 h6 hhome hk (State.answered_moved _ _ _ _ _ h h1)
      (by rw [State.watchedEntry_answering])⟩⟩
  · have hleft := State.left_leaveNet hnet
    by_cases h : p.home ≠ pos ∨ s.trackAt pos p.tag = none
    · refine answerNet_yields (exec_sourceAnswer_untracked hat harr h3 h6 h) fun t ho ht => ⟨?_, ho⟩
      rw [ht.net, State.answering_frame]
      exact hleft
    · obtain ⟨hhome, hsome⟩ := not_or.mp h
      obtain ⟨k, hk⟩ := Option.ne_none_iff_exists'.mp hsome
      refine answerNet_yields (exec_sourceAnswer_tracked hat harr h3 h6 (not_not.mp hhome) hk) fun t ho ht => ⟨?_, ho⟩
      rw [ht.net, State.answered_net]
      exact hleft
  · refine answerNet_yields (exec_sourceAnswer_untracked hat harr h3 h6 h) fun t ho ht => ?_
    rw [State.answering_frame] at ht
    exact ⟨ht.track, ht.cores, ht.tiles, ht.access⟩

end Sys2Proof.Machine
end

section
/-! PROOFS. Movers: completion, and the entries that wait for the queue (O37). -/

namespace Sys2Proof.Machine

/-! ## The steps of a completion -/

/-- The status of an entry written: at offset 48 of its descriptor, or in the management status register. -/
def State.statusWritten (s : State) (pos : Nat) (e : QEntry) : State :=
  if e.kind = .mgmt then (s.wr (TILE_MOV_MGMTDw pos 6) e.status).setFld (TILE_MOV_MGMTQ_BUSY pos) 0
  else s.spadWrite pos (e.off + 48) 8 e.status 0

/-- The error of an entry that failed, counted and captured. -/
def State.errorTold (s : State) (pos : Nat) (e : QEntry) : State :=
  if e.code = 1 then s
  else s.movError pos (if e.kind = .mgmt then 2 else e.engine) e.code (e.refused.getD 0) (if e.bad then 0 else e.refusedAddr.toNat)

/-- The posted operation of an entry performed. -/
def State.entryPosted (s : State) (pos : Nat) (e : QEntry) : State :=
  if e.kind = .mov then s.posted (coreKey pos e.core) e.posted else s

/-- The attachment of an entry. -/
def State.entryAttached (s : State) (pos : Nat) (e : QEntry) : State :=
  s.attach ((mdescOf e.desc).en && decide (e.code = 1)) (mdescOf e.desc).obj (mdescOf e.desc).add ((s.logical pos).getD 0)
    ((s.partOf pos).getD 0) pos false none none

/-- The message of an entry's attachment. -/
def State.attachment (s : State) (pos : Nat) (e : QEntry) : SyncMsg where
  set := false
  obj := (mdescOf e.desc).obj
  value := BitVec.ofNat 32 (mdescOf e.desc).add
  kind := 1
  source := (s.logical pos).getD 0
  part := (s.partOf pos).getD 0
  pos := pos
  void := false
  guard_ := none
  ends := none
  host := none
  at_ := s.cycle (groveOf pos)
  phase := .flying

theorem State.complete_eq (s : State) (pos : Nat) (e : QEntry) : s.complete pos e =
    ((((s.statusWritten pos e).errorTold pos e).entryPosted pos e).entryAttached pos e).freeEntry pos e.id := rfl

theorem State.Served.hbm {s t : State} (h : s.Served t) : t.hbm = s.hbm := by rw [h]

theorem State.spadWrite_same (s : State) (pos off len data poison : Nat) : (s.spadWrite pos off len data poison).tiles = s.tiles ∧
    (s.spadWrite pos off len data poison).msgs = s.msgs ∧ (s.spadWrite pos off len data poison).hbm = s.hbm := ⟨rfl, rfl, rfl⟩

theorem State.spadWrite_csr (s : State) (pos off len data poison : Nat) : (s.spadWrite pos off len data poison).csr = s.csr := rfl

theorem State.spadWrite_spad (s : State) (pos off len data poison : Nat) :
    (s.spadWrite pos off len data poison).spad = Mem.write s.spad (spadKey pos off) len data := rfl

section
variable (s : State) (pos : Nat) (e : QEntry)

theorem State.near_errorTold : s.Near (s.errorTold pos e) :=
  .ite _ s.near_refl ((s.near_refl.count _ _).capture _ _ _ _)

theorem State.served_entryPosted : s.Served (s.entryPosted pos e) := .ite _ (.posted s _ _) (.refl s)

theorem State.entryPosted_same : (s.entryPosted pos e).csr = s.csr ∧ (s.entryPosted pos e).tiles = s.tiles ∧
    (s.entryPosted pos e).msgs = s.msgs := by
  unfold State.entryPosted
  split <;> exact ⟨rfl, rfl, rfl⟩

theorem State.entryAttached_of_sent (hcode : e.code = 1) (hen : (mdescOf e.desc).en = true) :
    s.entryAttached pos e = { s with msgs := s.msgs ++ [s.attachment pos e] } := by
  have h : ((mdescOf e.desc).en && decide (e.code = 1)) = true := by simp [hcode, hen]
  rw [State.entryAttached, State.attach, if_pos h]
  rfl

theorem State.entryAttached_of_none (h : ¬(e.code = 1 ∧ (mdescOf e.desc).en = true)) : s.entryAttached pos e = s := by
  rw [State.entryAttached, State.attach, if_neg (by simpa [and_comm] using h)]

theorem State.entryAttached_frame : s.entryAttached pos e = { s with msgs := (s.entryAttached pos e).msgs } := by
  by_cases h : e.code = 1 ∧ (mdescOf e.desc).en = true
  · rw [State.entryAttached_of_sent _ _ _ h.1 h.2]
  · rw [State.entryAttached_of_none _ _ _ h]

/-- What follows the status of an entry changes nothing of the memories, and of the words the count and capture of errors. -/
theorem State.complete_served : (s.statusWritten pos e).Served (s.complete pos e) := by
  rw [State.complete_eq]
  refine (State.Served.of_near ((s.statusWritten pos e).near_errorTold pos e)).trans
    ((State.served_entryPosted _ pos e).trans (State.Served.trans ?_ (State.Served.modTile _ pos _)))
  rw [State.entryAttached_frame]
  rfl

theorem State.complete_csr : (s.complete pos e).csr = ((s.statusWritten pos e).errorTold pos e).csr := by
  rw [State.complete_eq, State.freeEntry, State.modTile_csr, State.entryAttached_frame]
  exact (State.entryPosted_same _ pos e).1

theorem State.statusWritten_mgmt (h : e.kind = .mgmt) :
    s.statusWritten pos e = (s.wr (TILE_MOV_MGMTDw pos 6) e.status).setFld (TILE_MOV_MGMTQ_BUSY pos) 0 := if_pos h

theorem State.statusWritten_spad (h : e.kind ≠ .mgmt) : s.statusWritten pos e = s.spadWrite pos (e.off + 48) 8 e.status 0 := if_neg h

theorem State.statusWritten_same : (s.statusWritten pos e).tiles = s.tiles ∧ (s.statusWritten pos e).msgs = s.msgs ∧
    (s.statusWritten pos e).hbm = s.hbm := by
  by_cases h : e.kind = .mgmt
  · rw [s.statusWritten_mgmt pos e h]
    exact ⟨(State.setFld_tiles _ _ _).trans (State.wr_tiles _ _ _), (State.setFld_msgs _ _ _).trans (State.wr_msgs _ _ _),
      (State.setFld_hbm _ _ _).trans (State.wr_hbm _ _ _)⟩
  · rw [s.statusWritten_spad pos e h]
    exact s.spadWrite_same _ _ _ _ _

theorem State.complete_queue : ((s.complete pos e).tile pos).queue = (s.tile pos).queue.filter (fun x => x.id ≠ e.id) := by
  have htiles : ((((s.statusWritten pos e).errorTold pos e).entryPosted pos e).entryAttached pos e).tiles = s.tiles := by
    rw [State.entryAttached_frame]
    exact (State.entryPosted_same _ pos e).2.1.trans (((s.statusWritten pos e).near_errorTold pos e).tiles.trans
      (s.statusWritten_same pos e).1)
  rw [State.complete_eq, State.freeEntry, State.tile_modTile_same, State.tile_congr htiles]

/-- The messages before an attachment. -/
theorem State.complete_msgs_before : (((s.statusWritten pos e).errorTold pos e).entryPosted pos e).msgs = s.msgs :=
  (State.entryPosted_same _ pos e).2.2.trans (((s.statusWritten pos e).near_errorTold pos e).msgs.trans
    (s.statusWritten_same pos e).2.1)

theorem State.complete_msgs_none (h : ¬(e.code = 1 ∧ (mdescOf e.desc).en = true)) : (s.complete pos e).msgs = s.msgs := by
  rw [State.complete_eq, State.entryAttached_of_none _ _ _ h]
  exact s.complete_msgs_before pos e

theorem State.complete_msgs_sent (hcode : e.code = 1) (hen : (mdescOf e.desc).en = true) :
    ∃ m, (s.complete pos e).msgs = s.msgs ++ [m] ∧ m.set = false ∧ m.obj = (mdescOf e.desc).obj ∧
      m.value = BitVec.ofNat 32 (mdescOf e.desc).add := by
  refine ⟨State.attachment (((s.statusWritten pos e).errorTold pos e).entryPosted pos e) pos e, ?_, rfl, rfl, rfl⟩
  rw [State.complete_eq, State.entryAttached_of_sent _ _ _ hcode hen]
  exact congrArg (· ++ [State.attachment (((s.statusWritten pos e).errorTold pos e).entryPosted pos e) pos e])
    (s.complete_msgs_before pos e)

/-- A word that a mover's error does not count or capture in. -/
theorem State.rd_complete_ne {r : Reg} (hcnt : r.addr ≠ (TILE_MOV_ERR_CNT pos).addr) (hcap : r.addr ≠ (TILE_MOV_ERR_CAP pos).addr) :
    (s.complete pos e).rd r = (s.statusWritten pos e).rd r := by
  rw [State.rd_congr (s.complete_csr pos e)]
  unfold State.errorTold
  split
  · rfl
  · exact (State.rd_capture_ne _ _ _ _ hcap).trans (State.rd_count_ne _ (tileCounter pos (TILE_MOV_ERR_CNT pos)) 1 hcnt)

theorem State.countedBy_complete (h : e.code ≠ 1) : s.countedBy (s.complete pos e) (TILE_MOV_ERR_CNT pos) 1 := by
  have hrd : (s.statusWritten pos e).rd (TILE_MOV_ERR_CNT pos) = s.rd (TILE_MOV_ERR_CNT pos) := by
    by_cases hk : e.kind = .mgmt
    · rw [s.statusWritten_mgmt pos e hk]
      exact (State.rd_wr_ne _ _ (tileBase_add_ne (by decide))).trans (State.rd_wr_ne _ _ (by
        simp only [TILE_MOV_ERR_CNT, TILE_MOV_MGMTDw]
        omega))
    · rw [s.statusWritten_spad pos e hk]
      exact State.rd_congr (s.spadWrite_csr _ _ _ _ _) _
  have hcount := (s.statusWritten pos e).countedBy_count (tileCounter pos (TILE_MOV_ERR_CNT pos)) 1
  rw [State.countedBy, show (tileCounter pos (TILE_MOV_ERR_CNT pos)).reg = TILE_MOV_ERR_CNT pos from rfl, hrd] at hcount
  refine State.countedBy_of_rd hcount ((State.rd_congr (s.complete_csr pos e) _).trans ?_)
  rw [State.errorTold, if_neg h]
  exact State.rd_capture_ne _ _ _ _ (tileBase_add_ne (by decide))

/-- The status word of a queued descriptor, at its offset 48. -/
theorem State.complete_status_mov (h : e.kind = .mov) : Mem.read (s.complete pos e).spad (spadKey pos (e.off + 48)) 8 = e.status % 2 ^ 64 ∧
    s.spadKept (s.complete pos e) pos (e.off + 48) (e.off + 56) := by
  have hspad : (s.complete pos e).spad = Mem.write s.spad (spadKey pos (e.off + 48)) 8 e.status := by
    rw [(s.complete_served pos e).spad, s.statusWritten_spad pos e (by rw [h]; decide), State.spadWrite_spad]
  refine ⟨by rw [hspad, Mem.read_write, show (256 : Nat) ^ 8 = 2 ^ 64 by norm_num], fun b hb => ?_⟩
  rw [hspad]
  exact Mem.byte_write_outside _ _ _ _ _ (by simpa [spadKey, Nat.add_assoc] using hb)

/-- The status of the management entry, with BUSY cleared. -/
theorem State.complete_status_mgmt (h : e.kind = .mgmt) : (s.complete pos e).spad = s.spad ∧
    (s.complete pos e).rd (TILE_MOV_MGMTDw pos 6) = e.status % 2 ^ 64 ∧
    (s.complete pos e).flag (TILE_MOV_MGMTQ_BUSY pos) = false := by
  have hw := s.statusWritten_mgmt pos e h
  refine ⟨(s.complete_served pos e).spad.trans (by rw [hw, State.setFld_spad, State.wr_spad]), ?_, ?_⟩
  · rw [State.rd_complete_ne _ _ _ (by simp only [TILE_MOV_ERR_CNT, TILE_MOV_MGMTDw]; omega)
      (by simp only [TILE_MOV_ERR_CAP, TILE_MOV_MGMTDw]; omega), hw]
    exact (State.rd_wr_ne _ _ (by simp only [TILE_MOV_MGMTQ_BUSY, TILE_MOV_MGMTQ, TILE_MOV_MGMTDw]; omega)).trans
      (State.rd_wr_same _ _ _)
  · rw [State.flag_of_rd (State.rd_complete_ne _ _ _ (tileBase_add_ne (by decide)) (tileBase_add_ne (by decide))), hw, State.flag,
      State.fld_setFld_same _ _ (show 2 + 1 ≤ 64 by decide), Nat.zero_mod]
    rfl
end

/-! ## Answers of a tile's movers -/

/-- `t` holds, of what a tile's movers may change, what `u` does. -/
structure State.MoverView (u t : State) : Prop where
  csr : t.csr = u.csr
  tiles : t.tiles = u.tiles
  msgs : t.msgs = u.msgs
  spad : t.spad = u.spad
  hbm : t.hbm = u.hbm

theorem answerMover_yields {i : Instr} {s u : State} {P : State → Prop} (he : exec i s = answerMover s u)
    (hP : ∀ t, s.onlyMover t → t.clk = s.clk → u.MoverView t → P t) : yields i s P :=
  ⟨_, he, hP _ rfl rfl ⟨rfl, rfl, rfl, rfl, rfl⟩⟩

theorem refusedWrite_of_answerMover {i : Instr} {s : State} {addr : Nat} (he : exec i s = answerMover s (s.decodeFault true addr)) :
    yields i s (fun t => s.refusedWrite t) := by
  rw [State.decodeFault, State.raise_dev _ 9 _ _ (by decide)] at he
  exact ⟨_, he, _, rfl, rfl, rfl⟩

/-! ## The commands -/

theorem exec_moverComplete_eq {pos engine : Nat} {s : State} {e : QEntry} (hp : pos < 576) (hg : engine < 3)
    (hhead : s.engineHead pos engine = some e) (hdesc : e.isDesc = true) (hspent : e.spent = true) (hout : e.outstanding = 0) :
    exec (.moverComplete pos engine) s = answerMover s (s.complete pos e) := by
  rw [exec_moverComplete, execMoverComplete, if_neg (by omega), hhead]
  simp [hdesc, hspent, hout]

section
variable {a : Agent} {pos : Nat} {s : State}

theorem exec_mgmtqGo_refused (hp : pos < 576) (hm : s.mute a (TILE_MOV_MGMTQ pos).addr = false)
    (h : s.mayWrite a .mgmt = false ∨ s.flag (TILE_MOV_MGMTQ_BUSY pos) = true) :
    exec (.mgmtqGo a pos) s = answerMover s (s.decodeFault true (TILE_MOV_MGMTQ pos).addr) := by
  rw [exec_mgmtqGo, execMgmtqGo, if_neg (by omega), if_neg (by rw [hm]; decide)]
  rcases h with h | h <;> simp [h]

/-- The management descriptor as GO copies it. -/
def State.mgmtDesc (s : State) (pos : Nat) : Nat × List W64 :=
  (s.fld (TILE_MOV_MGMTQ_MOVER pos), (List.range 6).map (fun w => BitVec.ofNat 64 (s.rd (TILE_MOV_MGMTDw pos w))))

/-- The state after GO: BUSY set, and the descriptor queued where there is room and waiting where there is none. -/
def State.mgmtGone (s : State) (pos : Nat) : State :=
  if s.queueRoom pos then (s.setFld (TILE_MOV_MGMTQ_BUSY pos) 1).queueMgmt pos (s.mgmtDesc pos)
  else (s.setFld (TILE_MOV_MGMTQ_BUSY pos) 1).modTile pos (fun t => { t with mgmt := some (s.mgmtDesc pos) })

theorem exec_mgmtqGo_eq (hp : pos < 576) (hm : s.mute a (TILE_MOV_MGMTQ pos).addr = false) (ha : s.mayWrite a .mgmt = true)
    (hb : s.flag (TILE_MOV_MGMTQ_BUSY pos) = false) : exec (.mgmtqGo a pos) s = answerMover s (s.mgmtGone pos) := by
  rw [exec_mgmtqGo, execMgmtqGo, if_neg (by omega), if_neg (by rw [hm]; decide), if_neg (by rw [ha]; decide),
    if_neg (by rw [hb]; decide)]
  rfl

theorem exec_grant_eq (hp : pos < 576) (hlen : s.queueLen pos < 16) : exec (.moverQueueEntryGrant pos) s =
    if (s.tile pos).ckpts ≠ [] then answerMover s (s.grantCkpt pos)
    else ((s.tile pos).mgmt.map (fun m => answerMover s (s.queueMgmt pos m))).getD (idle s) := by
  rw [exec_moverQueueEntryGrant, execMoverQueueEntryGrant, if_neg (by omega), if_neg (by omega)]
  cases (s.tile pos).mgmt <;> rfl

/-! ## The queue of the movers -/

/-- An entry appended to the queue holds what it was queued with, and the tile changes in nothing else but its next id. -/
theorem State.tile_enqueue (s : State) (pos : Nat) (kind : QKind) (engine core posted : Nat) (desc : List W64) (off : Nat) (ready : Bool) :
    ∃ e : QEntry, (s.enqueue pos kind engine core posted desc off ready).tile pos =
      { s.tile pos with nextId := (s.tile pos).nextId + 1, queue := (s.tile pos).queue ++ [e] } ∧
      e.kind = kind ∧ e.engine = engine ∧ e.desc = desc ∧ e.off = off ∧ e.ready = ready := by
  rw [State.enqueue, State.tile_modTile_same]
  exact ⟨_, rfl, rfl, rfl, rfl, rfl, rfl⟩

/-- A management entry queued no longer waits. -/
theorem State.tile_queueMgmt (s : State) (pos : Nat) (m : Nat × List W64) : ((s.queueMgmt pos m).tile pos).mgmt = none ∧
    ∃ e : QEntry, ((s.queueMgmt pos m).tile pos).queue = (s.tile pos).queue ++ [e] ∧
      e.kind = .mgmt ∧ e.engine = m.1 ∧ e.desc = m.2 ∧ e.ready = true := by
  obtain ⟨e, he, hkind, hengine, hdesc, -, hready⟩ := s.tile_enqueue pos .mgmt m.1 0 0 m.2 0 true
  rw [State.queueMgmt, State.tile_modTile_same, he]
  exact ⟨rfl, e, rfl, hkind, hengine, hdesc, hready⟩

theorem State.queueMgmt_same (s : State) (pos : Nat) (m : Nat × List W64) : (s.queueMgmt pos m).csr = s.csr ∧
    (s.queueMgmt pos m).spad = s.spad := ⟨rfl, rfl⟩

/-- A checkpoint record granted an entry leaves those that wait. -/
theorem State.tile_grantCkpt {k : Ckpt} {rest : List Ckpt} (hk : (s.tile pos).ckpts = k :: rest) (hlen : s.queueLen pos < 16) :
    ((s.grantCkpt pos).tile pos).ckpts = rest ∧ ((s.grantCkpt pos).tile pos).mgmt = (s.tile pos).mgmt ∧
    ∃ e : QEntry, ((s.grantCkpt pos).tile pos).queue = (s.tile pos).queue ++ [e] ∧
      e.kind = .checkpoint ∧ e.engine = 1 ∧ e.desc = k.words ∧ e.off = k.off := by
  have hgrant : s.grantCkpt pos =
      (s.modTile pos (fun t => { t with ckpts := rest })).enqueue pos .checkpoint 1 0 0 k.words k.off true := by
    simp only [State.grantCkpt, hk, if_pos hlen]
  obtain ⟨e, he, hkind, hengine, hdesc, hoff, -⟩ :=
    (s.modTile pos (fun t => { t with ckpts := rest })).tile_enqueue pos .checkpoint 1 0 0 k.words k.off true
  rw [hgrant, he, State.tile_modTile_same]
  exact ⟨rfl, rfl, e, rfl, hkind, hengine, hdesc, hoff⟩

theorem State.mgmtGone_room (h : s.queueRoom pos = true) :
    s.mgmtGone pos = (s.setFld (TILE_MOV_MGMTQ_BUSY pos) 1).queueMgmt pos (s.mgmtDesc pos) := if_pos h

theorem State.mgmtGone_full (h : s.queueRoom pos = false) : s.mgmtGone pos =
    (s.setFld (TILE_MOV_MGMTQ_BUSY pos) 1).modTile pos (fun t => { t with mgmt := some (s.mgmtDesc pos) }) := if_neg (by rw [h]; decide)

/-- GO changes, besides the tile, the word of BUSY only. -/
theorem State.mgmtGone_same (s : State) (pos : Nat) : (s.mgmtGone pos).csr = (s.setFld (TILE_MOV_MGMTQ_BUSY pos) 1).csr ∧
    (s.mgmtGone pos).spad = s.spad := by
  cases h : s.queueRoom pos
  · rw [State.mgmtGone_full h]
    exact ⟨State.modTile_csr _ _ _, (State.modTile_spad _ _ _).trans (State.setFld_spad _ _ _)⟩
  · rw [State.mgmtGone_room h]
    obtain ⟨hcsr, hspad⟩ := (s.setFld (TILE_MOV_MGMTQ_BUSY pos) 1).queueMgmt_same pos (s.mgmtDesc pos)
    exact ⟨hcsr, hspad.trans (State.setFld_spad _ _ _)⟩
end

/-- Settles O37: the state that each of the three commands answers with, by the lemmas above. -/
theorem moverCompletes : Obligations.MoverCompletes := by
  unfold Obligations.MoverCompletes
  refine ⟨fun pos engine s e hp hg hhead hdesc hspent hout => ?_, fun a pos s hp hm => ⟨fun _ hb => ?_, fun ha => ?_, fun ha hb => ?_⟩,
    fun pos s hp hlen => ⟨fun k rest hk => ?_, fun m hnone hmgmt => ?_⟩⟩
  · refine answerMover_yields (exec_moverComplete_eq hp hg hhead hdesc hspent hout) (fun t honly hclk ht => ?_)
    have hhbm : t.hbm = s.hbm := ht.hbm.trans ((s.complete_served pos e).hbm.trans (s.statusWritten_same pos e).2.2)
    refine ⟨?_, honly, hhbm, hclk, fun hk => ?_, fun hk => ?_, fun hcode => ⟨?_, ?_⟩, fun hcode hen => ?_, fun hcode hen => ?_⟩
    · rw [State.tile_congr ht.tiles, State.complete_queue]
    · obtain ⟨hread, hkept⟩ := s.complete_status_mov pos e hk
      rw [ht.spad]
      exact ⟨hread, fun b hb => (congrArg (Mem.byte · b) ht.spad).trans (hkept b hb)⟩
    · obtain ⟨hspad, hstatus, hbusy⟩ := s.complete_status_mgmt pos e hk
      exact ⟨ht.spad.trans hspad, (State.rd_congr ht.csr _).trans hstatus, (State.flag_of_rd (State.rd_congr ht.csr _)).trans hbusy⟩
    · exact ht.msgs.trans (s.complete_msgs_none pos e (fun h => hcode h.1))
    · exact State.countedBy_of_rd (s.countedBy_complete pos e hcode) (State.rd_congr ht.csr _)
    · obtain ⟨m, hmsgs, hset, hobj, hvalue⟩ := s.complete_msgs_sent pos e hcode hen
      exact ⟨m, ht.msgs.trans hmsgs, hset, hobj, hvalue⟩
    · exact ht.msgs.trans (s.complete_msgs_none pos e (fun h => by simp [hen] at h))
  · exact refusedWrite_of_answerMover (exec_mgmtqGo_refused hp hm (.inr hb))
  · exact refusedWrite_of_answerMover (exec_mgmtqGo_refused hp hm (.inl ha))
  · refine answerMover_yields (exec_mgmtqGo_eq hp hm ha hb) (fun t honly _ ht => ?_)
    obtain ⟨hcsr, hspad⟩ := s.mgmtGone_same pos
    have hbusy : (s.setFld (TILE_MOV_MGMTQ_BUSY pos) 1).flag (TILE_MOV_MGMTQ_BUSY pos) = true :=
      decide_eq_true (State.fld_setFld_same s 1 (show 2 + 1 ≤ 64 by decide))
    have htile : (s.setFld (TILE_MOV_MGMTQ_BUSY pos) 1).tile pos = s.tile pos := State.tile_congr (State.setFld_tiles _ _ _) pos
    refine ⟨(State.flag_of_rd (State.rd_congr (ht.csr.trans hcsr) _)).trans hbusy, honly, ht.spad.trans hspad, fun hroom => ?_,
      fun hfull => ?_⟩
    · obtain ⟨-, e, hqueue, hkind, hengine, hdesc, hready⟩ :=
        (s.setFld (TILE_MOV_MGMTQ_BUSY pos) 1).tile_queueMgmt pos (s.mgmtDesc pos)
      rw [State.tile_congr ht.tiles, State.mgmtGone_room hroom, hqueue, htile]
      exact ⟨e, rfl, hkind, hengine, hready, hdesc⟩
    · rw [State.tile_congr ht.tiles, State.mgmtGone_full hfull, State.tile_modTile_same, htile]
      exact ⟨rfl, rfl⟩
  · have he : exec (.moverQueueEntryGrant pos) s = answerMover s (s.grantCkpt pos) :=
      (exec_grant_eq hp hlen).trans (if_pos (by simp [hk]))
    refine answerMover_yields he (fun t honly _ ht => ?_)
    obtain ⟨hckpts, hmgmt, hqueue⟩ := State.tile_grantCkpt hk hlen
    rw [State.tile_congr ht.tiles]
    exact ⟨hckpts, hmgmt, honly, hqueue⟩
  · have he : exec (.moverQueueEntryGrant pos) s = answerMover s (s.queueMgmt pos m) := by
      rw [exec_grant_eq hp hlen, if_neg (by simp [hnone]), hmgmt]
      rfl
    refine answerMover_yields he (fun t honly _ ht => ?_)
    obtain ⟨hnomgmt, e, hqueue, hkind, hengine, hdesc, -⟩ := s.tile_queueMgmt pos m
    rw [State.tile_congr ht.tiles]
    exact ⟨hnomgmt, honly, e, hqueue, hkind, hengine, hdesc⟩

end Sys2Proof.Machine
end

section
/-! PROOFS. Reductions at a combining router (O33). -/

namespace Sys2Proof.Machine

/-! ## Combine buffers -/

theorem State.round_of_insert {s t : State} {pos r : Nat} {c : Combine} (h : t.combine = s.combine.insert (pos * 1024 + r) c) :
    t.round pos r = some c := by
  rw [State.round, h, SMap.find?_insert_same]
  rfl

theorem State.round_of_erase {s t : State} {pos r : Nat} (h : t.combine = s.combine.erase (pos * 1024 + r)) :
    t.round pos r = none := by
  rw [State.round, h, SMap.find?_erase_same]
  rfl

/-! ## A contribution out of its input -/

theorem State.takeItem_frame (s : State) (n pos inport : Nat) (p : Pkt) : s.takeItem n pos inport p =
    { s with net := (s.leaveNet n).net, creditUsed := (s.takeItem n pos inport p).creditUsed
             creditBack := (s.takeItem n pos inport p).creditBack } := by
  unfold State.takeItem
  rw [State.freeSlots_frame, State.leaveNet_frame]

/-- A contribution that leaves its input changes the mesh, credits, and its own core where it is a local one. -/
theorem State.absorbed_frame (s : State) (n pos inport : Nat) (p : Pkt) : s.absorbed n pos inport p =
    { s with net := (s.leaveNet n).net, cores := (s.absorbed n pos inport p).cores
             creditUsed := (s.absorbed n pos inport p).creditUsed, creditBack := (s.absorbed n pos inport p).creditBack } := by
  unfold State.absorbed
  dsimp only
  rw [State.takeItem_frame]
  split <;> rfl

section
variable (s : State) (n pos inport : Nat) (p : Pkt)

theorem State.absorbed_net : (s.absorbed n pos inport p).net = (s.leaveNet n).net := by rw [State.absorbed_frame]
theorem State.absorbed_csr : (s.absorbed n pos inport p).csr = s.csr := by rw [State.absorbed_frame]
theorem State.absorbed_track : (s.absorbed n pos inport p).track = s.track := by rw [State.absorbed_frame]
theorem State.absorbed_combine : (s.absorbed n pos inport p).combine = s.combine := by rw [State.absorbed_frame]

/-- A local contribution's operation is performed. -/
theorem State.without_absorbed {p : Pkt} {key id : Nat} (h : p.guard_ = some (key, id)) :
    (s.core key).without ((s.absorbed n pos inport p).core key) id := by
  have hcore : (s.takeItem n pos inport p).core key = s.core key := by
    rw [State.takeItem_frame]
    rfl
  rw [State.absorbed, h]
  dsimp only
  rw [State.posted, State.core_modCore_same, hcore]
  exact Core.without_performed _ _ _
end

/-! ## A round sent on -/

/-- The sum of a round as it leaves. -/
def Combine.total (c : Combine) (r : Nat) (bf16 : Bool) : Pkt :=
  { Pkt.blank with
    size := 2, payload := c.payload, poison := c.poison, addr := c.addr, obj := c.obj
    add := BitVec.ofNat 16 (min c.add 0xFFFF), en := c.en, redid := r, rfmt := bf16.toNat }

/-- The state that a complete round leaves from: its combine buffer freed, and ADD values above 0xFFFF recorded. -/
def State.roundEnded (s : State) (pos r inport : Nat) (p : Pkt) (c : Combine) : State :=
  let u : State := { s with combine := s.combine.erase (pos * 1024 + r) }
  if 0xFFFF < c.add then u.dropCapture pos 6 inport p else u

section
variable (s : State) (pos r inport : Nat) (p : Pkt) (c : Combine) (bf16 : Bool)

theorem State.emit_final : s.emit pos r inport p c true bf16 =
    (s.roundEnded pos r inport p c).sendPacket pos (1024 + r) { c.total r bf16 with type := tWRITE, sum := true } .sum := rfl

theorem State.emit_partial : s.emit pos r inport p c false bf16 =
    (s.roundEnded pos r inport p c).place { (s.roundEnded pos r inport p c).stamp pos 0 { c.total r bf16 with type := tRED } with
      nibs := (s.roundEnded pos r inport p c).redNibs pos ((s.roundEnded pos r inport p c).epoch pos) r, home := 576 }
      (.router pos 0) := rfl

theorem State.near_roundEnded :
    ({ s with combine := s.combine.erase (pos * 1024 + r) } : State).Near (s.roundEnded pos r inport p c) :=
  .ite _ ((State.near_refl _).capture _ _ _ _) (State.near_refl _)

/-- The end of a round writes no register but TILE_NET_DROP_CAP. -/
theorem State.rd_roundEnded {q : Reg} (h : q.addr ≠ (TILE_NET_DROP_CAP pos).addr) :
    (s.roundEnded pos r inport p c).rd q = s.rd q := by
  unfold State.roundEnded
  dsimp only
  split
  · exact State.rd_capture_ne _ _ _ _ h
  · rfl
end

theorem State.epoch_roundEnded (s : State) (pos r inport : Nat) (p : Pkt) (c : Combine) :
    (s.roundEnded pos r inport p c).epoch pos = s.epoch pos :=
  State.flag_of_rd (s.rd_roundEnded pos r inport p c (by simp only [TILE_NET_CFG, TILE_NET_CFG_EPOCH, TILE_NET_DROP_CAP]; omega))

/-- The trail of a reduction is the one its table entry had. -/
theorem State.redNibs_roundEnded (s : State) (pos r inport : Nat) (p : Pkt) (c : Combine) :
    (s.roundEnded pos r inport p c).redNibs pos ((s.roundEnded pos r inport p c).epoch pos) r = s.redNibs pos (s.epoch pos) r := by
  have hrd (q : Reg) (h : tileBase pos + 0xAE000 ≤ q.addr) : (s.roundEnded pos r inport p c).rd q = s.rd q :=
    s.rd_roundEnded pos r inport p c (by simp only [TILE_NET_DROP_CAP]; omega)
  rw [State.epoch_roundEnded]
  cases s.epoch pos
  · simp (disch := simp only [TILE_NET_REDA_NIB, TILE_NET_REDA_NIB1, TILE_NET_REDA_NIB2, TILE_NET_REDA_CTL]; omega) only
      [State.redNibs, State.redCtl, Bool.false_eq_true, if_false, hrd]
  · simp (disch := simp only [TILE_NET_REDB_NIB, TILE_NET_REDB_NIB1, TILE_NET_REDB_NIB2, TILE_NET_REDB_CTL]; omega) only
      [State.redNibs, State.redCtl, if_true, hrd]

/-- A packet sent takes the free tag, and its entry holds the packet, stamped, for its destination. -/
theorem State.sendPacket_trackAt {s : State} {pos tag : Nat} (h : s.freeTag pos = some tag) (dest : Nat) (p : Pkt) (holder : Holder) :
    ∃ e, (s.sendPacket pos dest p holder).trackAt pos tag = some e ∧ e.pkt = s.stamp pos tag p ∧ e.dest = dest := by
  unfold State.sendPacket
  rw [h]
  obtain ⟨e, he, hpkt, -, hdest⟩ := s.dispatch_trackAt pos tag ⟨p, dest, .out, holder, s.now, none, 0, none⟩
  exact ⟨e, he, hpkt, hdest⟩

theorem State.place_net (s : State) (p : Pkt) (w : Place) : ∃ x, (s.place p w).net = s.net ++ [x] ∧ x.place = w ∧ x.pkt = p :=
  ⟨_, rfl, rfl, rfl⟩

section
variable (s : State) (pos r inport : Nat) (p : Pkt) (c : Combine) (bf16 : Bool)

theorem State.emit_combine (final : Bool) :
    (s.emit pos r inport p c final bf16).combine = s.combine.erase (pos * 1024 + r) := by
  have hnear := s.near_roundEnded pos r inport p c
  cases final with
  | false => exact hnear.combine
  | true =>
    rw [State.emit_final, State.sendPacket_frame]
    exact hnear.combine

/-- A partial sum goes on as a RED along the trail of the table entry, with no tracking entry. -/
theorem State.emit_partial_sends : (s.emit pos r inport p c false bf16).track = s.track ∧
    ∃ x, (s.emit pos r inport p c false bf16).net = s.net ++ [x] ∧ x.place = .router pos 0 ∧ x.pkt.type = tRED ∧ x.pkt.redid = r ∧
      x.pkt.payload = c.payload ∧ x.pkt.poison = c.poison ∧ x.pkt.add = BitVec.ofNat 16 (min c.add 0xFFFF) ∧
      x.pkt.nibs = s.redNibs pos (s.epoch pos) r := by
  have hnear := s.near_roundEnded pos r inport p c
  rw [State.emit_partial]
  refine ⟨hnear.track, ?_⟩
  obtain ⟨x, hx, hplace, hpkt⟩ := (s.roundEnded pos r inport p c).place_net { (s.roundEnded pos r inport p c).stamp pos 0
    { c.total r bf16 with type := tRED } with
      nibs := (s.roundEnded pos r inport p c).redNibs pos ((s.roundEnded pos r inport p c).epoch pos) r, home := 576 } (.router pos 0)
  refine ⟨x, hx.trans (congrArg (· ++ [x]) hnear.net), hplace, ?_⟩
  rw [hpkt]
  exact ⟨rfl, rfl, rfl, rfl, rfl, s.redNibs_roundEnded pos r inport p c⟩

/-- The total of a FINAL entry goes out as a WRITE with a tracking entry. -/
theorem State.emit_final_tracks {tag : Nat} (h : s.freeTag pos = some tag) :
    ∃ k, (s.emit pos r inport p c true bf16).trackAt pos tag = some k ∧ k.pkt.type = tWRITE ∧ k.pkt.addr = c.addr ∧
      k.pkt.en = c.en ∧ k.dest = 1024 + r ∧ k.pkt.payload = c.payload ∧ k.pkt.add = BitVec.ofNat 16 (min c.add 0xFFFF) := by
  have hfree := (State.freeTag_congr (s.near_roundEnded pos r inport p c).track pos).trans h
  obtain ⟨k, hk, hpkt, hdest⟩ := State.sendPacket_trackAt hfree (1024 + r) { c.total r bf16 with type := tWRITE, sum := true } .sum
  refine ⟨k, hk, ?_⟩
  rw [hpkt]
  exact ⟨rfl, rfl, rfl, hdest, rfl, rfl⟩
end

/-! ## What a contribution does to its round -/

section
variable {s : State} {n pos inport : Nat} {p : Pkt} {final bf16 : Bool} {fanin : Nat} {c : Combine}

theorem State.combineIn_first (hround : s.round pos p.redid = none) (h : 1 < fanin) :
    s.combineIn n pos inport p (final, fanin, bf16) =
      { (s.absorbed n pos inport p) with
        combine := (s.absorbed n pos inport p).combine.insert (pos * 1024 + p.redid) p.round } := by
  rw [State.combineIn, hround]
  exact if_neg (by simpa [Pkt.round] using h)

theorem State.combineIn_differs (hround : s.round pos p.redid = some c) (h : c.addr ≠ p.addr ∨ c.obj ≠ p.obj ∨ c.en ≠ p.en) :
    s.combineIn n pos inport p (final, fanin, bf16) =
      ({ (s.absorbed n pos inport p) with combine := s.combine.erase (pos * 1024 + p.redid) } : State).dropped pos 6 inport p := by
  rw [State.combineIn, hround]
  exact if_pos h

variable (hround : s.round pos p.redid = some c) (haddr : c.addr = p.addr) (hobj : c.obj = p.obj) (hen : c.en = p.en)
include hround haddr hobj hen

theorem State.combineIn_joined (h : c.count + 1 < fanin) : s.combineIn n pos inport p (final, fanin, bf16) =
    { (s.absorbed n pos inport p) with
      combine := (s.absorbed n pos inport p).combine.insert (pos * 1024 + p.redid) (c.join bf16 p) } := by
  rw [State.combineIn, hround]
  dsimp only
  rw [if_neg (by simp [haddr, hobj, hen]), if_neg (by simpa [Combine.join] using h)]

theorem State.combineIn_complete (h : fanin ≤ c.count + 1) : s.combineIn n pos inport p (final, fanin, bf16) =
    (s.absorbed n pos inport p).emit pos p.redid inport p (c.join bf16 p) final bf16 := by
  rw [State.combineIn, hround]
  dsimp only
  rw [if_neg (by simp [haddr, hobj, hen]), if_pos (by simpa [Combine.join] using h)]
end

/-! ## The command -/

/-- The answer of an event of the mesh holds the combine buffers of the state that it answers with, too. -/
theorem answerNet_yields_combine {i : Instr} {s u : State} {P : State → Prop} (he : exec i s = answerNet s u)
    (hP : ∀ t, s.onlyMesh t → u.NetView t → t.combine = u.combine → P t) : yields i s P :=
  ⟨_, he, hP _ rfl ⟨rfl, rfl, rfl, rfl, rfl, rfl⟩ rfl⟩

section
variable {n pos inport : Nat} {p : Pkt} {s : State} {here : LinkErrors}
  (hat : s.atHead n pos inport p) (harr : p.arrived = true) (htype : p.type = tRED)
include hat harr htype

/-- What becomes of a contribution at the head of its input: refused, left there, or absorbed (R172, R184). -/
theorem absorbItem_of_atHead : ∃ it, s.net[n]? = some it ∧ s.inspect n here = s ∧ s.absorbItem n it =
    if (s.partOf pos).any s.underReset then some (s.redRefused n pos inport 2 p)
    else (s.redEntry pos p.redid).elim (some (s.redRefused n pos inport 8 p)) fun e =>
      if s.redWaits pos p e || s.redBefore n pos inport it.at_ p then none else some (s.combineIn n pos inport p e) := by
  obtain ⟨it, hnet, rfl, hplace, hchecked, hhead, hup, hgood⟩ := hat
  refine ⟨it, hnet, State.inspect_of_checked hnet hplace hchecked, ?_⟩
  have hstays : (!it.pkt.arrived || !s.headItem n it || !s.routerUp pos || decide (it.pkt.type ≠ tRED)) = false := by
    simp [harr, hhead, hup, htype]
  unfold State.absorbItem
  rw [hplace]
  dsimp only
  rw [hstays, hgood]
  cases s.partOf pos <;> cases s.redEntry pos it.pkt.redid <;> rfl

/-- A contribution with an entry of a partition that is not under reset is stored or added, once nothing holds it back. -/
theorem exec_redAbsorb_combined {e : Bool × Nat × Bool} (hfirst : ∀ it, s.net[n]? = some it → s.redBefore n pos inport it.at_ p = false)
    (hentry : s.redEntry pos p.redid = some e) (hwaits : s.redWaits pos p e = false)
    (hpart : ∀ q, s.partOf pos = some q → s.underReset q = false) :
    exec (.redAbsorb ⟨n, here⟩) s = answerNet s (s.combineIn n pos inport p e) := by
  obtain ⟨it, hnet, hinspect, hitem⟩ := absorbItem_of_atHead (here := here) hat harr htype
  have hnot : (s.partOf pos).any s.underReset = false := (Option.any_eq_false _ _).mpr hpart
  rw [exec_redAbsorb, execRedAbsorb, answerChecked]
  simp only [hinspect, hnet, hitem, hnot, hentry, Option.elim_some, hwaits, hfirst it hnet, Bool.or_self,
    Bool.false_eq_true, if_false]

/-- A contribution is refused in a partition under reset, and where the table has no entry for it. -/
theorem exec_redAbsorb_refused {reason : Nat} (h : (∃ q, s.partOf pos = some q ∧ s.underReset q = true ∧ reason = 2) ∨
      ((∀ q, s.partOf pos = some q → s.underReset q = false) ∧ s.redEntry pos p.redid = none ∧ reason = 8)) :
    exec (.redAbsorb ⟨n, here⟩) s = answerNet s (s.redRefused n pos inport reason p) := by
  obtain ⟨it, hnet, hinspect, hitem⟩ := absorbItem_of_atHead (here := here) hat harr htype
  rw [exec_redAbsorb, execRedAbsorb, answerChecked]
  rcases h with ⟨q, hq, hreset, rfl⟩ | ⟨hpart, hentry, rfl⟩
  · simp only [hinspect, hnet, hitem, hq, Option.any_some, hreset, if_true]
  · have hnot : (s.partOf pos).any s.underReset = false := (Option.any_eq_false _ _).mpr hpart
    simp only [hinspect, hnet, hitem, hnot, hentry, Option.elim_none, Bool.false_eq_true, if_false]
end

/-! ## The rounds -/

theorem State.atHead.left {s : State} {n pos inport : Nat} {p : Pkt} (hat : s.atHead n pos inport p) : s.left n (s.leaveNet n).net := by
  obtain ⟨it, hnet, -⟩ := hat
  exact State.left_leaveNet hnet

section
variable {n pos inport : Nat} {p : Pkt} {s : State} {i : Instr} {final bf16 : Bool} {fanin : Nat} {c : Combine}

/-- What a contribution leaves whose round `c` waits for more: the round in its buffer, and its core's operation performed. -/
theorem roundHeld_yields (hat : s.atHead n pos inport p) (he : exec i s = answerNet s { (s.absorbed n pos inport p) with
      combine := (s.absorbed n pos inport p).combine.insert (pos * 1024 + p.redid) c }) : yields i s (fun t =>
    s.left n t.net ∧ s.onlyMesh t ∧ t.csr = s.csr ∧ t.round pos p.redid = some c ∧
    (∀ key id, p.guard_ = some (key, id) → (s.core key).without (t.core key) id)) := by
  refine answerNet_yields_combine he fun t ho ht hcombine => ⟨?_, ho, ht.csr.trans (s.absorbed_csr n pos inport p),
    State.round_of_insert hcombine, fun key id hguard => ?_⟩
  · rw [ht.net, State.absorbed_net]
    exact hat.left
  · rw [State.core_congr (s := s.absorbed n pos inport p) ht.cores]
    exact s.without_absorbed n pos inport hguard

variable (he : exec i s = answerNet s (s.combineIn n pos inport p (final, fanin, bf16)))
include he

theorem roundDropped_yields (hat : s.atHead n pos inport p) (hround : s.round pos p.redid = some c)
    (h : c.addr ≠ p.addr ∨ c.obj ≠ p.obj ∨ c.en ≠ p.en) :
    yields i s (fun t => t.round pos p.redid = none ∧ s.countedBy t (TILE_NET_DROP_CNT pos) 1 ∧ s.left n t.net ∧ s.onlyMesh t) := by
  rw [State.combineIn_differs hround h] at he
  refine answerNet_yields_combine he fun t ho ht hcombine => ?_
  generalize hu : ({ s.absorbed n pos inport p with combine := s.combine.erase (pos * 1024 + p.redid) } : State) = u at ht hcombine
  have hnear : u.Near (u.dropped pos 6 inport p) := (u.near_refl.count _ _).capture _ _ _ _
  refine ⟨State.round_of_erase (s := s) ?_, ?_, ?_, ho⟩
  · rw [hcombine, hnear.combine, ← hu]
  · have hrd : u.rd (TILE_NET_DROP_CNT pos) = s.rd (TILE_NET_DROP_CNT pos) := by
      rw [← hu]
      exact State.rd_congr (s.absorbed_csr n pos inport p) _
    rw [State.countedBy, ← hrd]
    refine State.countedBy_of_rd (u.countedBy_count (tileCounter pos (TILE_NET_DROP_CNT pos)) 1) ?_
    rw [State.rd_congr ht.csr]
    exact State.rd_capture_ne _ _ _ _ (by simp only [TILE_NET_DROP_CNT, TILE_NET_DROP_CAP]; omega)
  · rw [ht.net, hnear.net, ← hu]
    exact (s.absorbed_net n pos inport p).symm ▸ hat.left

variable (hround : s.round pos p.redid = some c) (haddr : c.addr = p.addr) (hobj : c.obj = p.obj) (hen : c.en = p.en)
include hround haddr hobj hen

theorem sumSent_yields (hat : s.atHead n pos inport p) (h : fanin ≤ c.count + 1) (hfinal : final = false) : yields i s (fun t =>
    t.round pos p.redid = none ∧ s.onlyMesh t ∧ t.track = s.track ∧
    ∃ l x, s.left n l ∧ t.net = l ++ [x] ∧ x.place = .router pos 0 ∧ x.pkt.type = tRED ∧ x.pkt.redid = p.redid ∧
      x.pkt.payload = (c.join bf16 p).payload ∧ x.pkt.poison = (c.join bf16 p).poison ∧
      x.pkt.add = BitVec.ofNat 16 (min (c.join bf16 p).add 0xFFFF) ∧ x.pkt.nibs = s.redNibs pos (s.epoch pos) p.redid) := by
  subst hfinal
  rw [State.combineIn_complete hround haddr hobj hen h] at he
  obtain ⟨htrack, x, hnet, hplace, htype, hredid, hpayload, hpoison, hadd, hnibs⟩ :=
    (s.absorbed n pos inport p).emit_partial_sends pos p.redid inport p (c.join bf16 p) bf16
  refine answerNet_yields_combine he fun t ho ht hcombine => ⟨State.round_of_erase (hcombine.trans (State.emit_combine ..)), ho,
    ht.track.trans (htrack.trans (s.absorbed_track n pos inport p)), _, x, hat.left, ?_, hplace, htype, hredid, hpayload, hpoison,
    hadd, ?_⟩
  · rw [ht.net, hnet, State.absorbed_net]
  · rw [hnibs, State.absorbed_frame]
    rfl

theorem totalSent_yields {tag : Nat} (h : fanin ≤ c.count + 1) (hfinal : final = true) (htag : s.freeTag pos = some tag) :
    yields i s (fun t => t.round pos p.redid = none ∧ s.onlyMesh t ∧
    ∃ k, t.trackAt pos tag = some k ∧ k.pkt.type = tWRITE ∧ k.pkt.addr = c.addr ∧ k.pkt.en = c.en ∧ k.dest = 1024 + p.redid ∧
      k.pkt.payload = (c.join bf16 p).payload ∧ k.pkt.add = BitVec.ofNat 16 (min (c.join bf16 p).add 0xFFFF)) := by
  subst hfinal
  rw [State.combineIn_complete hround haddr hobj hen h] at he
  obtain ⟨k, hk, hsent⟩ := (s.absorbed n pos inport p).emit_final_tracks pos p.redid inport p (c.join bf16 p) bf16
    ((State.freeTag_congr (s.absorbed_track n pos inport p) pos).trans htag)
  exact answerNet_yields_combine he fun t ho ht hcombine => ⟨State.round_of_erase (hcombine.trans (State.emit_combine ..)), ho, k,
    (State.trackAt_congr ht.track pos tag).trans hk, hsent⟩
end

/-! ## Refusals -/

section
variable {n pos inport reason : Nat} {p : Pkt} {s : State} {i : Instr}
  (hat : s.atHead n pos inport p) (he : exec i s = answerNet s (s.redRefused n pos inport reason p))
include hat he

theorem redRefused_remote_yields (hguard : p.guard_ = none) : yields i s (fun t =>
    s.answersWith n t.net pos p tNACK reason ∧ t.combine = s.combine ∧ s.onlyMesh t) := by
  have hstate : s.redRefused n pos inport reason p =
      (s.takeItem n pos inport p).place { p.answer tNACK reason with home := 576 } (.router pos 0) := by
    rw [State.redRefused, hguard]
  rw [hstate, State.takeItem_frame] at he
  exact answerNet_yields_combine he fun t ho ht hcombine =>
    ⟨⟨_, _, hat.left, ht.net, rfl, rfl, rfl, rfl, rfl, rfl, rfl, rfl, rfl⟩, hcombine, ho⟩

theorem redRefused_local_yields {key id : Nat} (hguard : p.guard_ = some (key, id)) : yields i s (fun t =>
    s.left n t.net ∧ t.combine = s.combine ∧ (s.core key).without (t.core key) id ∧ s.onlyMesh t ∧
    t.fld (TILE_CORE_PERFn_COUNT (key / 8) (key % 8) 3) = (s.fld (TILE_CORE_PERFn_COUNT (key / 8) (key % 8) 3) + 1) % 2 ^ 48) := by
  have hstate : s.redRefused n pos inport reason p = (s.absorbed n pos inport p).perf (key / 8) (key % 8) 3 1 := by
    rw [State.redRefused, hguard]
    rfl
  rw [hstate] at he
  refine answerNet_yields_combine he fun t ho ht hcombine => ⟨?_, ?_, ?_, ho, ?_⟩
  · rw [ht.net, State.perf_net, State.absorbed_net]
    exact hat.left
  · rw [hcombine, State.perf_combine, State.absorbed_combine]
  · rw [State.core_congr ht.cores, State.core_congr (State.perf_cores _ _ _ _ _)]
    exact s.without_absorbed n pos inport hguard
  · rw [State.fld_congr ht.csr, State.fld_perf _ _ _ _ _ (by simp only [TILE_CORE_PERFn, TILE_CORE_STATUS]; omega),
      State.fld_congr (s.absorbed_csr n pos inport p)]
end

/-- Settles O33: each case of a round and each refusal has its lemma. -/
theorem reductions : Obligations.Reductions := by
  unfold Obligations.Reductions
  refine ⟨fun n pos inport p s here final bf16 fanin hat harr htype hfirst hentry hwaits hpart => ?_,
    fun n pos inport reason p s here hat harr htype hreason => ?_⟩
  · have he := exec_redAbsorb_combined (here := here) hat harr htype hfirst hentry hwaits hpart
    refine ⟨fun hc h => roundHeld_yields hat (c := p.round) (he.trans (congrArg _ (State.combineIn_first hc h))),
      fun c hc haddr hobj hen h => ?_,
      fun c hc haddr hobj hen => sumSent_yields he hc haddr hobj hen hat,
      fun c tag hc haddr hobj hen h hfinal htag => totalSent_yields he hc haddr hobj hen h hfinal htag,
      fun c hc => roundDropped_yields he hat hc⟩
    obtain ⟨t, hnext, hleft, honly, -, hround, -⟩ :=
      roundHeld_yields hat (he.trans (congrArg _ (State.combineIn_joined hc haddr hobj hen h)))
    exact ⟨t, hnext, hleft, honly, hround⟩
  · have he := exec_redAbsorb_refused (here := here) hat harr htype hreason
    exact ⟨redRefused_remote_yields hat he, fun key id => redRefused_local_yields hat he⟩

end Sys2Proof.Machine
end

section
/-! PROOFS. A request at its last router: refused, dropped, or on its way to its landing turn (O30). -/

namespace Sys2Proof.Machine

/-- A request that is malformed on arrival is counted, captured and answered with NACK 3 (R172). -/
theorem State.dropItem_request (s : State) (n pos inport : Nat) {p : Pkt} (htype : p.type ≤ 1) : s.dropItem n pos inport 2 p =
    ((s.takeItem n pos inport p).dropped pos 2 inport p).reply pos p tNACK 3 := by
  have hresponse : ¬(tRED < p.type ∨ 2 ≤ 1) := by simp only [tRED]; omega
  have hred : p.type ≠ tRED := by simp only [tRED]; omega
  rw [State.dropItem]
  rw [if_neg hresponse, if_neg (by decide), if_neg hred]

/-- The width of a packet's data does not change what it carries. -/
theorem Pkt.ofNat_data (p : Pkt) : BitVec.ofNat 2048 p.data = if p.size = 1 then p.inlineW.setWidth 2048 else p.payload := by
  unfold Pkt.data
  split
  · exact BitVec.ofNat_toNat _ _
  · exact BitVec.ofNat_toNat _ _ |>.trans (BitVec.setWidth_eq _)

section
variable {n pos inport : Nat} {p : Pkt} {s : State} {here : LinkErrors}
  (hat : s.atHead n pos inport p) (harr : p.arrived = true) (htype : p.type ≤ 1)
include hat harr htype

/-- What becomes of a request at the head of its last router's input (R172). -/
theorem exec_packetDelivery_of_atHead : exec (.packetDelivery ⟨n, here⟩) s = answerNet s
    ((s.deliveryReason pos p).elim ((s.leaveNet n).landing pos inport p) fun r =>
      if r = 3 then s.dropItem n pos inport 2 p else (s.takeItem n pos inport p).reply pos p tNACK r) := by
  obtain ⟨it, hnet, rfl, hplace, hchecked, hhead, hup, hgood⟩ := hat
  have hcls : classOf it.pkt.type = 0 := if_pos htype
  rw [exec_packetDelivery, execPacketDelivery, answerChecked]
  simp only [State.inspect_of_checked hnet hplace hchecked, hnet, State.deliverItem, hplace, harr, hhead, hup, hcls, hgood]
  rcases s.deliveryReason pos it.pkt with _ | r
  · rfl
  · by_cases hr : r = 3
    · subst hr
      rfl
    · simp [hr]

theorem packetDelivery_refused {r : Nat} (hr : s.deliveryReason pos p = some r) (h3 : r ≠ 3) :
    yields (.packetDelivery ⟨n, here⟩) s (fun t =>
      s.answersWith n t.net pos p tNACK r ∧ t.access = s.access ∧ t.csr = s.csr ∧ s.onlyMesh t) := by
  have he := exec_packetDelivery_of_atHead (here := here) hat harr htype
  rw [hr, Option.elim_some, if_neg h3, State.takeItem_frame] at he
  refine answerNet_yields he fun t ho ht => ?_
  exact ⟨⟨_, _, hat.left, ht.net, rfl, rfl, rfl, rfl, rfl, rfl, rfl, rfl, rfl⟩, ht.access, ht.csr, ho⟩

theorem packetDelivery_dropped (hr : s.deliveryReason pos p = some 3) : yields (.packetDelivery ⟨n, here⟩) s (fun t =>
    s.answersWith n t.net pos p tNACK 3 ∧ s.countedBy t (TILE_NET_DROP_CNT pos) 1 ∧ t.access = s.access ∧ s.onlyMesh t) := by
  have he := exec_packetDelivery_of_atHead (here := here) hat harr htype
  rw [hr, Option.elim_some, if_pos rfl, State.dropItem_request s n pos inport htype] at he
  have hframe := s.takeItem_frame n pos inport p
  generalize s.takeItem n pos inport p = u at he hframe
  have hnear : u.Near (u.dropped pos 2 inport p) := (u.near_refl.count _ _).capture _ _ _ _
  have hnet : (u.dropped pos 2 inport p).net = (s.leaveNet n).net := by rw [hnear.net, hframe]
  refine answerNet_yields he fun t ho ht =>
    ⟨⟨_, _, hat.left, ht.net.trans (congrArg (· ++ [_]) hnet), rfl, rfl, rfl, rfl, rfl, rfl, rfl, rfl, rfl⟩, ?_, ?_, ho⟩
  · have hrd : u.rd (TILE_NET_DROP_CNT pos) = s.rd (TILE_NET_DROP_CNT pos) := State.rd_congr (by rw [hframe]) _
    rw [State.countedBy, ← hrd]
    refine State.countedBy_of_rd (u.countedBy_count (tileCounter pos (TILE_NET_DROP_CNT pos)) 1) ?_
    rw [State.rd_congr ht.csr]
    exact State.rd_capture_ne _ _ _ _ (by simp only [TILE_NET_DROP_CNT, TILE_NET_DROP_CAP]; omega)
  · rw [ht.access]
    exact hnear.access.trans (by rw [hframe])

theorem packetDelivery_accepted (hr : s.deliveryReason pos p = none) : yields (.packetDelivery ⟨n, here⟩) s (fun t =>
    s.left n t.net ∧ t.csr = s.csr ∧ s.onlyMesh t ∧ ∃ a, t.access = s.access ++ [a] ∧ a.pos = pos ∧ a.agent = 14 ∧
      a.pkt = some p ∧ a.whole = (p.addr.toNat % 2 ^ 27, if p.size = 1 then 8 else 256) ∧
      (p.type = tREAD → a.task = .answer) ∧ (p.type = tWRITE →
        a.data = (if p.size = 1 then p.inlineW.setWidth 2048 else p.payload) ∧
        a.task = .write (if p.sum then .red p.part else if p.srckind = 0 then
            (if s.logical pos = some p.src then .own else .tile p.src p.part)
          else if p.srckind = 1 then .host else .fabric))) := by
  have he := exec_packetDelivery_of_atHead (here := here) hat harr htype
  rw [hr, Option.elim_none, State.leaveNet_frame] at he
  refine answerNet_yields he fun t ho ht => ⟨ht.net ▸ hat.left, ht.csr, ho, _, ht.access, rfl, rfl, rfl, ?_, ?_, ?_⟩
  · exact Prod.ext (bitsOf_zero_eq_mod _ _) rfl
  · exact fun hread => if_pos hread
  · intro hwrite
    refine ⟨p.ofNat_data, (if_neg (by rw [hwrite]; decide)).trans (congrArg Task.write ?_)⟩
    rw [Pkt.writeClass]
    split
    · rfl
    · rcases p.srckind with _ | _ | k
      · rfl
      · rfl
      · rfl
end

/-- Settles O30: by what the router finds on arrival. -/
theorem deliveries : Obligations.Deliveries := by
  unfold Obligations.Deliveries
  exact fun n pos inport p s here hat harr htype =>
    ⟨fun r hr h3 => packetDelivery_refused hat harr htype hr h3, packetDelivery_dropped hat harr htype,
      packetDelivery_accepted hat harr htype⟩

end Sys2Proof.Machine
end

section
/-! PROOFS. The queued instructions of the T slot (O16). -/

namespace Sys2Proof.Machine

/-- A mover-queue entry as an instruction queues it. -/
def QEntry.waiting (n : Nat) (kind : QKind) (engine core posted : Nat) (desc : List W64) (off : Nat) (ready : Bool) : QEntry where
  id := n
  kind := kind
  engine := engine
  core := core
  posted := posted
  desc := desc
  off := off
  ready := ready
  started := false
  bad := false
  issued := 0
  total := 0
  outstanding := 0
  acked := []
  refused := none
  refusedAddr := 0
  poison := false
  lastAt := 0
  piece := none

/-- The low word of a register. -/
theorem setWidth_low_word (v : W64) : (v.setWidth 32).setWidth 64 = v &&& 0xFFFFFFFF#64 := by
  apply BitVec.eq_of_toNat_eq
  have hlow := v.toNat.and_two_pow_sub_one_eq_mod 32
  have hlt : v.toNat % 2 ^ 32 < 2 ^ 64 := by omega
  rw [BitVec.toNat_and, BitVec.toNat_setWidth, BitVec.toNat_setWidth, Nat.mod_eq_of_lt hlt]
  exact hlow.symm

section
variable {i : Instr} {id : CoreId} {opc : Nat} {s v : State} {k : PostKind} {f : Nat → Nat → State → State}

theorem State.tile_enqueue_posting (kind : QKind) (engine core posted : Nat) (desc : List W64) (off : Nat) (ready : Bool) :
    (((s.posting id k).enqueue id.pos kind engine core posted desc off ready).tile id.pos).queue =
      (s.tile id.pos).queue ++ [.waiting (s.tile id.pos).nextId kind engine core posted desc off ready] := by
  have htile : (s.posting id k).tile id.pos = s.tile id.pos := s.atIssue_tile id id.pos
  rw [State.enqueue, State.tile_modTile_same, htile]
  rfl

/-- `t` has posted one operation of a core and queued one entry for it, not started, that meets `P`. -/
def State.Queues (s t : State) (id : CoreId) (k : PostKind) (engine : Nat) (P : QEntry → Prop) : Prop :=
  (t.core id.key).posted = (s.core id.key).posted ++ [⟨(s.core id.key).nextId, k, none⟩] ∧
  ∃ e, (t.tile id.pos).queue = (s.tile id.pos).queue ++ [e] ∧ e.engine = engine ∧ e.core = id.core ∧
    e.posted = (s.core id.key).nextId ∧ e.started = false ∧ P e

/-- A T slot that issues whose effect posts an operation and queues an entry. -/
theorem queued_yields {kind : QKind} {engine off : Nat} {desc : List W64} {ready : Bool} {P : State → QEntry → Prop}
    (h : s.issues id 3 opc) (hon : s.slotActive id 3 = true) (he : exec i s = transferOp id opc s f)
    (hv : f (s.slotWord id 3) (s.core id.key).nextIssue (s.atIssue id) = v)
    (hposted : (v.core id.key).posted = ((s.posting id k).core id.key).posted)
    (htiles : v.tiles = ((s.posting id k).enqueue id.pos kind engine id.core (s.core id.key).nextId desc off ready).tiles)
    (hP : ∀ t, s.IssuedT v t id →
      P t (.waiting (s.tile id.pos).nextId kind engine id.core (s.core id.key).nextId desc off ready)) :
    yields i s (fun t => s.Queues t id k engine (P t)) :=
  transferSlot_active h hon he fun t _ ht => by
    rw [hv] at ht
    refine ⟨?_, _, ?_, rfl, rfl, rfl, rfl, hP t ht⟩
    · rw [ht.data.posted, hposted, State.posting_core]
    · rw [State.tile_congr (ht.tiles.trans htiles), State.tile_enqueue_posting]

/-! ## t.fill and t.copy -/

theorem State.queueMse_posting (s : State) (id : CoreId) (kind : QKind) (k : PostKind) (words : List W64) :
    (s.atIssue id).queueMse id.pos id.core kind k words =
      (s.posting id k).enqueue id.pos kind 2 id.core (s.core id.key).nextId words 0 true := by
  rw [State.queueMse, State.post_fst, State.atIssue_core]
  rfl

theorem tFill_queues (h : s.issues id 3 0x0D) (hon : s.slotActive id 3 = true) :
    yields (.tFill id) s (fun t => s.Queues t id .fill 2 (fun e => e.kind = .fill ∧ e.ready = true ∧
      e.desc = [((s.core id.key).sreg (tSa (s.slotWord id 3))).val,
        ((s.core id.key).sreg (tSb (s.slotWord id 3))).val &&& 0xFFFFFFFF#64,
        ((s.core id.key).sreg (tSc (s.slotWord id 3))).val, BitVec.ofNat 64 (tImm (s.slotWord id 3))])) := by
  refine queued_yields h hon (exec_tFill s id) (State.queueMse_posting ..) rfl rfl fun t _ => ⟨rfl, rfl, ?_⟩
  rw [State.atIssue_core, ← setWidth_low_word]
  rfl

theorem tCopy_queues (h : s.issues id 3 0x0E) (hon : s.slotActive id 3 = true) :
    yields (.tCopy id) s (fun t => s.Queues t id .copy 2 (fun e => e.kind = .copy ∧ e.ready = true ∧
      e.desc = [((s.core id.key).sreg (tSa (s.slotWord id 3))).val, ((s.core id.key).sreg (tSb (s.slotWord id 3))).val,
        ((s.core id.key).sreg (tSc (s.slotWord id 3))).val, BitVec.ofNat 64 (tImm (s.slotWord id 3))])) := by
  refine queued_yields h hon (exec_tCopy s id) (State.queueMse_posting ..) rfl rfl fun t _ => ⟨rfl, rfl, ?_⟩
  rw [State.atIssue_core]
  rfl

/-! ## t.mov -/

theorem tMov_queues (h : s.issues id 3 0x0F) (hon : s.slotActive id 3 = true) :
    yields (.tMov id) s (fun t => s.Queues t id .mov (bitsOf (s.slotWord id 3) 36 1) (fun e => e.kind = .mov ∧ e.ready = false ∧
      ∃ a : Access, t.access = s.access ++ [a] ∧ a.pos = id.pos ∧ a.agent = id.core ∧ a.task = .desc e.id ∧
        a.whole = ((ownOffset ((s.core id.key).sreg (tSa (s.slotWord id 3))).val.toNat 64).getD 0, 64))) := by
  generalize hoff : (ownOffset ((s.core id.key).sreg (tSa (s.slotWord id 3))).val.toNat 64).getD 0 = off
  refine queued_yields (kind := .mov) (off := off) (desc := []) (ready := false) h hon (exec_tMov s id) rfl rfl ?_ fun t ht => ⟨rfl, rfl, ?_⟩
  · dsimp only
    rw [State.post_fst, State.atIssue_core, hoff]
    rfl
  · refine ⟨_, ht.access.trans (congrArg (· ++ [_]) (s.atIssue_access id)), rfl, rfl, ?_, ?_⟩
    · exact congrArg (fun x : Tile => Task.desc x.nextId) (s.atIssue_tile id id.pos)
    · rw [State.atIssue_core, hoff]
      rfl

/-! ## t.sgat and t.sscat -/

/-- The elements of its stream that a gather or scatter takes: its rows times their size, and a gather's header (R158). -/
def Core.slotElements (c : Core) (w : Nat) (scatter : Bool) : Nat :=
  bitsOf (c.sreg (tSb w)).val.toNat 24 12 * bitsOf (c.sreg (tSb w)).val.toNat 36 8 +
    (if scatter then 0 else bitsOf (c.sreg (tSb w)).val.toNat 62 1)

theorem State.slotOp_core (u : State) (pos core w : Nat) (scatter : Bool) : (u.slotOp pos core w scatter).core (coreKey pos core) =
    ((u.post (coreKey pos core) (if scatter then .scatter else .gather)).2.advance (coreKey pos core) w
      ((u.core (coreKey pos core)).slotElements w scatter)).core (coreKey pos core) :=
  State.core_congr rfl _

theorem State.slotOp_ops (u : State) (pos core w : Nat) (scatter : Bool) : ∃ o : SeqOp, (u.slotOp pos core w scatter).ops = u.ops ++ [o] ∧
    o.pos = pos ∧ o.core = core ∧ o.entry = (u.tile pos).nextId ∧ o.scatter = scatter ∧
    o.slot = bitsOf ((u.core (coreKey pos core)).sreg (tSa w)).val.toNat 0 8 ∧ o.sb = ((u.core (coreKey pos core)).sreg (tSb w)).val ∧
    o.start = ((u.core (coreKey pos core)).stream (tTd w)).pos.toNat ∧ o.phase = .arriving :=
  ⟨_, rfl, rfl, rfl, rfl, rfl, rfl, rfl, rfl, rfl⟩

theorem slotted_queues {scatter : Bool} (h : s.issues id 3 opc) (hon : s.slotActive id 3 = true)
    (he : exec i s = transferOp id opc s (fun w _ s => s.slotOp id.pos id.core w scatter)) :
    yields i s (fun t => s.Queues t id (if scatter then .scatter else .gather) 0 (fun e =>
      e.kind = (if scatter then .scatter s.nextOp else .gather s.nextOp) ∧
      ((t.core id.key).stream (tTd (s.slotWord id 3))).pos = ((s.core id.key).stream (tTd (s.slotWord id 3))).pos +
        BitVec.ofNat 16 ((s.core id.key).slotElements (s.slotWord id 3) scatter) ∧
      ∃ o : SeqOp, t.ops = s.ops ++ [o] ∧ o.pos = id.pos ∧ o.core = id.core ∧ o.entry = e.id ∧ o.scatter = scatter ∧
        o.slot = ((s.core id.key).sreg (tSa (s.slotWord id 3))).val.toNat % 2 ^ 8 ∧
        o.sb = ((s.core id.key).sreg (tSb (s.slotWord id 3))).val ∧
        o.start = ((s.core id.key).stream (tTd (s.slotWord id 3))).pos.toNat ∧ o.phase = .arriving)) := by
  have hcore : (s.atIssue id).core (coreKey id.pos id.core) = s.core id.key := s.atIssue_core id id.key
  have htaken := (s.posting id (if scatter then .scatter else .gather)).taken_advance id.key (s.slotWord id 3)
    ((s.core id.key).slotElements (s.slotWord id 3) scatter)
  have hadvance : ((s.atIssue id).slotOp id.pos id.core (s.slotWord id 3) scatter).core id.key =
      ((s.posting id (if scatter then .scatter else .gather)).advance id.key (s.slotWord id 3)
        ((s.core id.key).slotElements (s.slotWord id 3) scatter)).core id.key := by
    refine (State.slotOp_core _ _ _ _ _).trans ?_
    rw [hcore]
    rfl
  refine queued_yields (kind := if scatter then .scatter s.nextOp else .gather s.nextOp) (off := 0) (desc := []) (ready := true)
    h hon he rfl ?_ ?_ fun t ht => ⟨rfl, ?_, ?_⟩
  · rw [hadvance]
    exact htaken.posted
  · rw [State.slotOp]
    dsimp only
    rw [State.post_fst, hcore, State.atIssue_nextOp]
    rfl
  · rw [Core.stream, ht.data.t, hadvance]
    refine htaken.pos.trans ?_
    rw [State.posting_core]
    rfl
  · obtain ⟨o, hops, hpos, hocore, hentry, hscatter, hslot, hsb, hstart, hphase⟩ :=
      (s.atIssue id).slotOp_ops id.pos id.core (s.slotWord id 3) scatter
    rw [hcore] at hslot hsb hstart
    rw [State.atIssue_tile] at hentry
    rw [State.atIssue_ops] at hops
    exact ⟨o, ht.ops.trans hops, hpos, hocore, hentry, hscatter, hslot.trans (bitsOf_zero_eq_mod _ _), hsb, hstart, hphase⟩

/-! ## t.wopen -/

theorem tWopen_reads (h : s.issues id 3 0x12) (hon : s.slotActive id 3 = true) :
    yields (.tWopen id) s (fun t =>
      (t.core id.key).posted = (s.core id.key).posted ++ [⟨(s.core id.key).nextId, .wopen, none⟩] ∧ t.tiles = s.tiles ∧
      ∃ a : Access, t.access = s.access ++ [a] ∧ a.pos = id.pos ∧ a.agent = id.core ∧
        a.task = .wopen id.core (bitsOf (s.slotWord id 3) 36 4) ∧
        a.whole = ((ownOffset ((s.core id.key).sreg (tSa (s.slotWord id 3))).val.toNat 16).getD 0, 16) ∧
        a.holder = .posted id.key (s.core id.key).nextId) := by
  refine posts_of_transfer (k := .wopen) h hon (exec_tWopen s id) rfl rfl fun t hposted ht => ?_
  refine ⟨hposted, ht.tiles.trans (s.atIssue_tiles id), _, ht.access.trans (congrArg (· ++ [_]) (s.atIssue_access id)),
    rfl, rfl, rfl, ?_, ?_⟩
  · rw [State.atIssue_core]
    rfl
  · rw [State.post_fst, State.atIssue_core]
end

/-- Settles O16. -/
theorem queuedTransfers : Obligations.QueuedTransfers := by
  unfold Obligations.QueuedTransfers
  exact ⟨fun id s h hon => tFill_queues h hon, fun id s h hon => tCopy_queues h hon, fun id s h hon => tMov_queues h hon,
    fun id s h hon => slotted_queues h hon (exec_tSgat s id), fun id s h hon => slotted_queues h hon (exec_tSscat s id),
    fun id s h hon => tWopen_reads h hon⟩

end Sys2Proof.Machine
end

section
/-! PROOFS. Windows opened and closed (O24). -/

namespace Sys2Proof.Machine

/-! ## Memory-side errors -/

section
variable (s : State) (pos core op cause off : Nat)

theorem State.near_msError : s.Near (s.msError pos core op cause off) := (s.near_refl.count _ _).capture _ _ _ _

/-- A memory-side error writes its counter and its capture alone. -/
theorem State.rd_msError_ne {q : Reg} (hcnt : q.addr ≠ (TILE_SPAD_MSERR_CNT pos).addr) (hcap : q.addr ≠ (TILE_SPAD_MSERR_CAP pos).addr) :
    (s.msError pos core op cause off).rd q = s.rd q :=
  (State.rd_capture_ne _ _ _ _ hcap).trans (s.rd_count_ne _ _ hcnt)

theorem State.countedBy_msError : s.countedBy (s.msError pos core op cause off) (TILE_SPAD_MSERR_CNT pos) 1 :=
  State.countedBy_of_rd (s.countedBy_count (tileCounter pos (TILE_SPAD_MSERR_CNT pos)) 1)
    (State.rd_capture_ne _ _ _ _ (by simp only [TILE_SPAD_MSERR_CNT, TILE_SPAD_MSERR_CAP]; omega))
end

/-! ## A window set from a record -/

/-- OPEN of a window's second word. -/
theorem State.open_eq (s : State) (pos n : Nat) :
    s.flag (TILE_SPAD_WINn_HI_OPEN pos n) = decide (bitsOf (s.rd (TILE_SPAD_WINn_HI pos n)) 63 1 = 1) := rfl

/-- A window's second word once it is closed. -/
theorem State.hi_closed (s : State) (pos n : Nat) : (s.setFld (TILE_SPAD_WINn_HI_OPEN pos n) 0).rd (TILE_SPAD_WINn_HI pos n) =
    setBitsOf (s.rd (TILE_SPAD_WINn_HI pos n)) 63 1 0 :=
  (s.rd_wr_same _ _).trans (Nat.mod_eq_of_lt (setBitsOf_lt (s.rd_lt _) (Nat.le_refl 64)))

section
variable (s : State) {pos n lo hi core op off : Nat}

theorem State.near_winSet : s.Near (s.winSet pos n lo hi core op off) := by
  unfold State.winSet
  split
  · exact (s.near_refl.wr _ _).wr _ _
  · exact (s.near_refl.setFld _ _).trans (State.near_msError _ _ _ _ _ _)

/-- A window's first word after a valid record. -/
theorem State.lo_winSet_valid (h : winValid lo hi = true) (hlo : lo < 2 ^ 64) :
    (s.winSet pos n lo hi core op off).rd (TILE_SPAD_WINn_LO pos n) = lo := by
  rw [State.winSet, if_pos h, State.rd_wr_ne _ _ (by simp only [TILE_SPAD_WINn_LO, TILE_SPAD_WINn_HI]; omega), State.rd_wr_same,
    Nat.mod_eq_of_lt hlo]

/-- A window's second word after a valid record: that of the record, with OPEN 1. -/
theorem State.hi_winSet_valid (h : winValid lo hi = true) (hhi : hi < 2 ^ 64) :
    (s.winSet pos n lo hi core op off).rd (TILE_SPAD_WINn_HI pos n) = setBitsOf hi 63 1 1 := by
  rw [State.winSet, if_pos h, State.rd_wr_same, Nat.mod_eq_of_lt (setBitsOf_lt hhi (by decide))]

theorem State.lo_winSet_invalid (h : winValid lo hi = false) :
    (s.winSet pos n lo hi core op off).rd (TILE_SPAD_WINn_LO pos n) = s.rd (TILE_SPAD_WINn_LO pos n) := by
  rw [State.winSet, if_neg (by rw [h]; decide), State.rd_msError_ne _ _ _ _ _ _
    (by simp only [TILE_SPAD_WINn_LO, TILE_SPAD_MSERR_CNT]; omega) (by simp only [TILE_SPAD_WINn_LO, TILE_SPAD_MSERR_CAP]; omega)]
  exact State.rd_wr_ne _ _ (by simp only [TILE_SPAD_WINn_LO, TILE_SPAD_WINn_HI_OPEN, TILE_SPAD_WINn_HI]; omega)

/-- A window's second word after an invalid record: as it was, with OPEN 0. -/
theorem State.hi_winSet_invalid (h : winValid lo hi = false) :
    (s.winSet pos n lo hi core op off).rd (TILE_SPAD_WINn_HI pos n) = setBitsOf (s.rd (TILE_SPAD_WINn_HI pos n)) 63 1 0 := by
  rw [State.winSet, if_neg (by rw [h]; decide), State.rd_msError_ne _ _ _ _ _ _
    (by simp only [TILE_SPAD_WINn_HI, TILE_SPAD_MSERR_CNT]; omega) (by simp only [TILE_SPAD_WINn_HI, TILE_SPAD_MSERR_CAP]; omega)]
  exact s.hi_closed pos n

/-- A record opens its window where it is valid, and closes it where it is not (R124). -/
theorem State.open_winSet (hhi : hi < 2 ^ 64) :
    (s.winSet pos n lo hi core op off).flag (TILE_SPAD_WINn_HI_OPEN pos n) = winValid lo hi := by
  rw [State.open_eq]
  cases h : winValid lo hi
  · rw [State.hi_winSet_invalid s h, bitsOf_setBitsOf_same]
    rfl
  · rw [State.hi_winSet_valid s h hhi, bitsOf_setBitsOf_same]
    rfl

theorem State.countedBy_winSet (h : winValid lo hi = false) :
    s.countedBy (s.winSet pos n lo hi core op off) (TILE_SPAD_MSERR_CNT pos) 1 := by
  have hcount := (s.setFld (TILE_SPAD_WINn_HI_OPEN pos n) 0).countedBy_msError pos core op 4 off
  have hrd : (s.setFld (TILE_SPAD_WINn_HI_OPEN pos n) 0).rd (TILE_SPAD_MSERR_CNT pos) = s.rd (TILE_SPAD_MSERR_CNT pos) :=
    State.rd_wr_ne _ _ (by simp only [TILE_SPAD_MSERR_CNT, TILE_SPAD_WINn_HI_OPEN, TILE_SPAD_WINn_HI]; omega)
  rw [State.countedBy, hrd] at hcount
  rw [State.winSet, if_neg (by rw [h]; decide)]
  exact hcount
end

/-! ## A window change made -/

/-- The registers that a window change writes (R124). -/
def State.winWords (s : State) (pos : Nat) (x : WinChange) : State :=
  match x.control, x.record with
  | some hi, some _ =>
    (s.wr (TILE_SPAD_WINn_HI pos x.n) (winHiWritten hi + s.fld (TILE_SPAD_WINn_HI_OPEN pos x.n) * 2 ^ 63)).winSet pos x.n
      (s.rd (TILE_SPAD_WINn_LO pos x.n)) (winHiWritten hi) 0 3 x.n
  | some hi, none => s.wr (TILE_SPAD_WINn_HI pos x.n) (winHiWritten hi)
  | none, some (lo, hi) => s.winSet pos x.n lo.toNat hi.toNat x.core 2 x.off
  | none, none => s.setFld (TILE_SPAD_WINn_HI_OPEN pos x.n) 0

/-- A tile's window change taken off its list. -/
def State.winTaken (s : State) (pos : Nat) (x : WinChange) : State := s.modTile pos (fun t => { t with wins := t.wins.erase x })

/-- A core's change writes its registers and performs the core's posted operation. -/
theorem State.winEffect_core (s : State) (pos : Nat) {x : WinChange} (h : x.control = none) : s.winEffect pos x =
    ((s.winTaken pos x).winWords pos x).posted (coreKey pos x.core) x.id := by
  rw [State.winEffect, State.winWords, h]
  cases x.record <;> rfl

/-- A control-space write's change writes its registers alone. -/
theorem State.winEffect_control (s : State) (pos : Nat) {x : WinChange} {hi : W64} (h : x.control = some hi) : s.winEffect pos x =
    (s.winTaken pos x).winWords pos x := by
  have hlo (u : State) (v : Nat) : (u.wr (TILE_SPAD_WINn_HI pos x.n) v).rd (TILE_SPAD_WINn_LO pos x.n) =
      u.rd (TILE_SPAD_WINn_LO pos x.n) := State.rd_wr_ne _ _ (by simp only [TILE_SPAD_WINn_LO, TILE_SPAD_WINn_HI]; omega)
  rw [State.winEffect, State.winWords, State.winTaken, h]
  cases x.record with
  | none => simp only [Option.isSome_none, Bool.false_eq_true, if_false]
  | some r => simp only [Option.isSome_some, if_true, hlo]

theorem State.near_winWords (s : State) (pos : Nat) (x : WinChange) : s.Near (s.winWords pos x) := by
  unfold State.winWords
  split
  · exact (s.near_refl.wr _ _).trans (State.near_winSet _)
  · exact s.near_refl.wr _ _
  · exact s.near_winSet
  · exact s.near_refl.setFld _ _

theorem winHiWritten_lt (hi : W64) : winHiWritten hi < 2 ^ 36 := bitsOf_lt _ _ _

theorem bitsOf_winHiWritten (hi : W64) : bitsOf (winHiWritten hi) 0 36 = bitsOf hi.toNat 0 36 := by
  rw [bitsOf_zero_eq_mod, Nat.mod_eq_of_lt (winHiWritten_lt hi)]
  rfl

section
variable (s : State) (pos : Nat) {x : WinChange}

/-- A close leaves its window closed. -/
theorem State.open_winWords_close (h : x.record = none) : (s.winWords pos x).flag (TILE_SPAD_WINn_HI_OPEN pos x.n) = false := by
  have hopen (v : Nat) (hv : v < 2 ^ 36) : bitsOf v 63 1 = 0 := by
    rw [bitsOf_eq, Nat.div_eq_of_lt (hv.trans (by decide)), Nat.zero_mod]
  rw [State.open_eq, State.winWords, h]
  cases x.control with
  | none =>
    dsimp only
    rw [State.hi_closed, bitsOf_setBitsOf_same]
    rfl
  | some hi =>
    dsimp only
    rw [State.rd_wr_same, Nat.mod_eq_of_lt ((winHiWritten_lt hi).trans (by decide)), hopen _ (winHiWritten_lt hi)]
    rfl

/-- A control-space write leaves the record bits of its word, and opens its window where it opens one and the record is
valid. -/
theorem State.hi_winWords_control {hi : W64} (h : x.control = some hi) :
    bitsOf ((s.winWords pos x).rd (TILE_SPAD_WINn_HI pos x.n)) 0 36 = bitsOf hi.toNat 0 36 ∧
    (s.winWords pos x).flag (TILE_SPAD_WINn_HI_OPEN pos x.n) =
      (x.record.isSome && winValid (s.rd (TILE_SPAD_WINn_LO pos x.n)) (bitsOf hi.toNat 0 36)) := by
  have hlt := winHiWritten_lt hi
  refine ⟨(?_ : _ = _).trans (bitsOf_winHiWritten hi), ?_⟩
  · rw [State.winWords, h]
    cases x.record with
    | none => exact congrArg (bitsOf · 0 36) ((s.rd_wr_same _ _).trans (Nat.mod_eq_of_lt (hlt.trans (by decide))))
    | some r =>
      dsimp only
      cases hv : winValid (s.rd (TILE_SPAD_WINn_LO pos x.n)) (winHiWritten hi)
      · have hopen := s.fld_lt (TILE_SPAD_WINn_HI_OPEN pos x.n)
        rw [State.hi_winSet_invalid _ hv, bitsOf_setBitsOf_ne _ _ (.inl (by decide)), State.rd_wr_same]
        generalize winHiWritten hi = w at hlt
        generalize s.fld (TILE_SPAD_WINn_HI_OPEN pos x.n) = o at hopen
        simp only [bitsOf_zero_eq_mod]
        omega
      · rw [State.hi_winSet_valid _ hv (hlt.trans (by decide)), bitsOf_setBitsOf_ne _ _ (.inl (by decide))]
  · cases hr : x.record with
    | none => exact State.open_winWords_close s pos hr
    | some r =>
      rw [State.winWords, h, hr]
      exact State.open_winSet _ (hlt.trans (by decide))

theorem State.lo_winWords_control {hi : W64} (h : x.control = some hi) :
    (s.winWords pos x).rd (TILE_SPAD_WINn_LO pos x.n) = s.rd (TILE_SPAD_WINn_LO pos x.n) := by
  have hwr (v : Nat) : (s.wr (TILE_SPAD_WINn_HI pos x.n) v).rd (TILE_SPAD_WINn_LO pos x.n) = s.rd (TILE_SPAD_WINn_LO pos x.n) :=
    s.rd_wr_ne _ (by simp only [TILE_SPAD_WINn_LO, TILE_SPAD_WINn_HI]; omega)
  rw [State.winWords, h]
  cases x.record with
  | none => exact hwr _
  | some r =>
    dsimp only
    cases hv : winValid (s.rd (TILE_SPAD_WINn_LO pos x.n)) (winHiWritten hi)
    · rw [State.lo_winSet_invalid _ hv, hwr]
    · rw [State.lo_winSet_valid _ hv (s.rd_lt _)]

/-- A core's valid record is what its window holds, open. -/
theorem State.winWords_core_valid {lo hi : W64} (h : x.control = none) (hr : x.record = some (lo, hi))
    (hv : winValid lo.toNat hi.toNat = true) : (s.winWords pos x).rd (TILE_SPAD_WINn_LO pos x.n) = lo.toNat ∧
    (s.winWords pos x).flag (TILE_SPAD_WINn_HI_OPEN pos x.n) = true ∧
    bitsOf ((s.winWords pos x).rd (TILE_SPAD_WINn_HI pos x.n)) 0 36 = bitsOf hi.toNat 0 36 := by
  rw [State.winWords, h, hr]
  exact ⟨s.lo_winSet_valid hv lo.isLt, (s.open_winSet hi.isLt).trans hv,
    (congrArg (bitsOf · 0 36) (s.hi_winSet_valid hv hi.isLt)).trans (bitsOf_setBitsOf_ne _ _ (.inl (by decide)))⟩

/-- A core's invalid record closes its window and counts. -/
theorem State.winWords_core_invalid {lo hi : W64} (h : x.control = none) (hr : x.record = some (lo, hi))
    (hv : winValid lo.toNat hi.toNat = false) : (s.winWords pos x).flag (TILE_SPAD_WINn_HI_OPEN pos x.n) = false ∧
    s.countedBy (s.winWords pos x) (TILE_SPAD_MSERR_CNT pos) 1 := by
  rw [State.winWords, h, hr]
  exact ⟨(s.open_winSet hi.isLt).trans hv, s.countedBy_winSet hv⟩
end

/-! ## The effect of a change due -/

/-- A window change has been made (R124): taken off the list, with its registers written and a core's operation performed. -/
def State.windowChanged (s t : State) (pos : Nat) (x : WinChange) : Prop :=
  (t.tile pos).wins = (s.tile pos).wins.erase x ∧ s.onlyTiles t ∧ s.spadSame t ∧
  (x.control = none → (s.core (coreKey pos x.core)).without (t.core (coreKey pos x.core)) x.id) ∧
  (x.record = none → t.flag (TILE_SPAD_WINn_HI_OPEN pos x.n) = false) ∧
  (∀ hi, x.control = some hi → t.cores = s.cores ∧ bitsOf (t.rd (TILE_SPAD_WINn_HI pos x.n)) 0 36 = bitsOf hi.toNat 0 36 ∧
    t.flag (TILE_SPAD_WINn_HI_OPEN pos x.n) =
      (x.record.isSome && winValid (s.rd (TILE_SPAD_WINn_LO pos x.n)) (bitsOf hi.toNat 0 36))) ∧
  (∀ lo hi, x.control = none → x.record = some (lo, hi) → winValid lo.toNat hi.toNat = true →
    t.rd (TILE_SPAD_WINn_LO pos x.n) = lo.toNat ∧ t.flag (TILE_SPAD_WINn_HI_OPEN pos x.n) = true ∧
    bitsOf (t.rd (TILE_SPAD_WINn_HI pos x.n)) 0 36 = bitsOf hi.toNat 0 36) ∧
  (∀ lo hi, x.control = none → x.record = some (lo, hi) → winValid lo.toNat hi.toNat = false →
    t.flag (TILE_SPAD_WINn_HI_OPEN pos x.n) = false ∧ s.countedBy t (TILE_SPAD_MSERR_CNT pos) 1)

/-- What a window change leaves besides its registers: the list of its tile, and a core's operation. -/
theorem State.winEffect_rest (s : State) (pos : Nat) (x : WinChange) : s.Served (s.winEffect pos x) ∧
    (s.winEffect pos x).csr = ((s.winTaken pos x).winWords pos x).csr ∧
    ((s.winEffect pos x).tile pos).wins = (s.tile pos).wins.erase x := by
  have hnear := (s.winTaken pos x).near_winWords pos x
  have hserved : s.Served ((s.winTaken pos x).winWords pos x) := (State.Served.modTile s pos _).trans (.of_near hnear)
  have hwins : (((s.winTaken pos x).winWords pos x).tile pos).wins = (s.tile pos).wins.erase x := by
    rw [State.tile_congr hnear.tiles, State.winTaken, State.tile_modTile_same]
  cases hc : x.control with
  | none =>
    rw [State.winEffect_core s pos hc]
    exact ⟨hserved.trans (.posted _ _ _), rfl, hwins⟩
  | some hi =>
    rw [State.winEffect_control s pos hc]
    exact ⟨hserved, rfl, hwins⟩

theorem windowChange_yields {i : Instr} {s : State} {pos : Nat} {x : WinChange}
    (he : exec i s = answerTile (groveOf pos) x.at_ s (fun s => s.winEffect pos x)) :
    yields i s (fun t => s.windowChanged t pos x) := by
  refine answerTile_yields he fun t ho ht => ?_
  generalize hu : s.atCycle (groveOf pos) x.at_ = u at ht
  have hcsr : u.csr = s.csr := by rw [← hu]; rfl
  have hcores : u.cores = s.cores := by rw [← hu]; rfl
  have hlo : (u.winTaken pos x).rd (TILE_SPAD_WINn_LO pos x.n) = s.rd (TILE_SPAD_WINn_LO pos x.n) := State.rd_congr hcsr _
  have hsame : s.spadSame u := by rw [← hu]; exact ⟨rfl, rfl, rfl, rfl, rfl⟩
  obtain ⟨hserved, hwords, hwins⟩ := u.winEffect_rest pos x
  have hrd (r : Reg) : t.rd r = ((u.winTaken pos x).winWords pos x).rd r := State.rd_congr (ht.csr.trans hwords) r
  have hflag (f : Field) : t.flag f = ((u.winTaken pos x).winWords pos x).flag f := State.flag_congr (ht.csr.trans hwords) f
  refine ⟨?_, ho, ht.spadSame (State.spadSame_trans hsame hserved.spadSame), fun hc => ?_, fun hr => ?_, fun hi hc => ?_,
    fun lo hi hc hr hv => ?_, fun lo hi hc hr hv => ?_⟩
  · rw [State.tile_congr ht.tiles, hwins, ← hu, State.tile_congr (s.atCycle_tiles _ _)]
  · have hcore := State.core_congr (((u.winTaken pos x).near_winWords pos x).cores.trans hcores) (coreKey pos x.core)
    rw [State.core_congr ht.cores, State.winEffect_core u pos hc, State.posted, State.core_modCore_same, hcore]
    exact Core.without_performed _ _ _
  · rw [hflag]
    exact State.open_winWords_close _ _ hr
  · obtain ⟨hbits, hopen⟩ := (u.winTaken pos x).hi_winWords_control pos hc
    refine ⟨?_, by rw [hrd, hbits], by rw [hflag, hopen, hlo]⟩
    rw [ht.cores, State.winEffect_control u pos hc]
    exact ((u.winTaken pos x).near_winWords pos x).cores.trans hcores
  · rw [hrd, hrd, hflag]
    exact (u.winTaken pos x).winWords_core_valid pos hc hr hv
  · obtain ⟨hopen, hcount⟩ := (u.winTaken pos x).winWords_core_invalid pos hc hr hv
    refine ⟨by rw [hflag, hopen], ?_⟩
    rw [State.countedBy, hrd, ← State.rd_congr hcsr]
    exact hcount

/-! ## Windows changed from the control space -/

/-- The change of a window that a control-space write of its second word makes (R124). -/
def State.controlChange (s : State) (pos n : Nat) (hi : W64) (open_ : Bool) : WinChange :=
  ⟨n, s.hereNow pos, 8, if open_ then some (0, hi) else none, n, 0, some hi⟩

/-- A write of a window's second word waits: behind accesses with earlier turns, or changes of the window due by now. -/
def State.windowWaits (s : State) (pos n : Nat) : Prop :=
  s.turnsBefore pos (s.hereNow pos) = true ∨ ∃ y ∈ (s.tile pos).wins, y.n = n ∧ y.at_ ≤ s.hereNow pos

section
variable {s : State} {pos n : Nat}

theorem State.windowWaits_iff : s.windowWaits pos n ↔ (s.turnsBefore pos (s.hereNow pos) ||
    (s.tile pos).wins.any (fun y => decide (y.n = n) && decide (y.at_ ≤ s.hereNow pos))) = true := by
  simp [State.windowWaits]

theorem State.winControl_waits (h : s.windowWaits pos n) (hi : W64) (open_ : Bool) : s.winControl pos n hi open_ =
    s.modTile pos (fun y => { y with wins := y.wins ++ [s.controlChange pos n hi open_] }) :=
  if_pos (State.windowWaits_iff.mp h)

theorem State.winControl_now (h : ¬s.windowWaits pos n) (hi : W64) (open_ : Bool) : s.winControl pos n hi open_ =
    (s.winTaken pos (s.controlChange pos n hi open_)).winWords pos (s.controlChange pos n hi open_) :=
  (if_neg (mt State.windowWaits_iff.mpr h)).trans (State.winEffect_control s pos rfl)

variable {i : Instr} {hi : W64} {open_ : Bool} (he : exec i s = answer s (s.winControl pos n hi open_))
include he

theorem windowQueued_yields (h : s.windowWaits pos n) : yields i s (fun t => t = { s with tiles := t.tiles } ∧
    (t.tile pos).wins = (s.tile pos).wins ++ [s.controlChange pos n hi open_]) := by
  rw [State.winControl_waits h] at he
  refine ⟨_, he, rfl, ?_⟩
  have htile := s.tile_modTile_same pos (fun y => { y with wins := y.wins ++ [s.controlChange pos n hi open_] })
  exact congrArg Tile.wins htile

theorem windowNow_yields (h : ¬s.windowWaits pos n) : yields i s (fun t =>
    t.flag (TILE_SPAD_WINn_HI_OPEN pos n) = (open_ && winValid (s.rd (TILE_SPAD_WINn_LO pos n)) (bitsOf hi.toNat 0 36)) ∧
    bitsOf (t.rd (TILE_SPAD_WINn_HI pos n)) 0 36 = bitsOf hi.toNat 0 36 ∧
    t.rd (TILE_SPAD_WINn_LO pos n) = s.rd (TILE_SPAD_WINn_LO pos n) ∧ t.spad = s.spad ∧ t.clk = s.clk) := by
  rw [State.winControl_now h] at he
  obtain ⟨hbits, hopen⟩ := State.hi_winWords_control (s.winTaken pos (s.controlChange pos n hi open_)) pos
    (x := s.controlChange pos n hi open_) (hi := hi) rfl
  have hlo := State.lo_winWords_control (s.winTaken pos (s.controlChange pos n hi open_)) pos
    (x := s.controlChange pos n hi open_) (hi := hi) rfl
  have hnear := (s.winTaken pos (s.controlChange pos n hi open_)).near_winWords pos (s.controlChange pos n hi open_)
  refine ⟨_, he, hopen.trans ?_, hbits, hlo, hnear.spad, rfl⟩
  cases open_ <;> rfl
end

/-- A control-space write that R392 does not permit raises one decode fault. -/
theorem allowed_refused {i : Instr} {s : State} {a : Agent} {row : WrRow} {addr : Nat} {f : State → State}
    (he : exec i s = allowed a row addr s f) (hm : s.mute a addr = false) (ha : s.mayWrite a row = false) :
    yields i s (fun t => s.refusedWrite t) :=
  ⟨_, he.trans (((allowed_cases a row addr s f).2.2 hm ha).trans (answer_decodeFault s true addr)), _, rfl, rfl, rfl⟩

theorem allowed_yields {i : Instr} {s : State} {a : Agent} {row : WrRow} {addr : Nat} {f : State → State}
    (he : exec i s = allowed a row addr s f) (hm : s.mute a addr = false) (ha : s.mayWrite a row = true) :
    exec i s = answer s (f s) := he.trans ((allowed_cases a row addr s f).2.1 hm ha)

/-! ## Reach entries and captures -/

/-- A reach entry's word: the logical ID, VALID and PATH (R135). -/
def reachWord (logical : Nat) (valid : Bool) (path : Nat) : Nat := packFields [(0, 9, logical), (15, 1, valid.toNat), (16, 2, path)]

theorem reachWord_eq (logical : Nat) (valid : Bool) (path : Nat) :
    reachWord logical valid path = logical % 2 ^ 9 + valid.toNat * 2 ^ 15 + path % 4 * 2 ^ 16 := by
  cases valid <;> simp [reachWord, packFields]; omega

theorem reachWord_lt (logical : Nat) (valid : Bool) (path : Nat) : reachWord logical valid path < 2 ^ 18 := by
  rw [reachWord_eq]
  cases valid <;> simp <;> omega

theorem reachWord_fields (logical : Nat) (valid : Bool) (path : Nat) : bitsOf (reachWord logical valid path) 0 9 = logical % 2 ^ 9 ∧
    bitsOf (reachWord logical valid path) 15 1 = valid.toNat ∧ bitsOf (reachWord logical valid path) 16 2 = path % 4 := by
  rw [reachWord_eq]
  simp only [bitsOf_eq]
  cases valid <;> simp <;> omega

theorem reachEntryWrite_taken {i : Instr} {s : State} {pos d : Nat} {v : W64}
    (he : exec i s = answer s (s.setReach pos d (bitsOf v.toNat 0 9) (Nat.testBit v.toNat 15))) : yields i s (fun t =>
      t.fld (TILE_SPAD_REACH_d_LOGICAL pos d) = v.toNat % 2 ^ 9 ∧ t.flag (TILE_SPAD_REACH_d_VALID pos d) = v.getLsbD 15 ∧
      bitsOf (t.rd (TILE_SPAD_REACH_d pos d)) 16 2 = s.pathOf pos d (v.toNat % 2 ^ 9) (v.getLsbD 15) % 4 ∧
      t.spad = s.spad ∧ t.cores = s.cores) := by
  have hrd : (s.setReach pos d (bitsOf v.toNat 0 9) (Nat.testBit v.toNat 15)).rd (TILE_SPAD_REACH_d pos d) =
      reachWord (bitsOf v.toNat 0 9) (Nat.testBit v.toNat 15) (s.pathOf pos d (bitsOf v.toNat 0 9) (Nat.testBit v.toNat 15)) :=
    (s.rd_wr_same _ _).trans (Nat.mod_eq_of_lt ((reachWord_lt _ _ _).trans (by decide)))
  obtain ⟨hlogical, hvalid, hpath⟩ := reachWord_fields (bitsOf v.toNat 0 9) (Nat.testBit v.toNat 15)
    (s.pathOf pos d (bitsOf v.toNat 0 9) (Nat.testBit v.toNat 15))
  have hnear : s.Near (s.setReach pos d (bitsOf v.toNat 0 9) (Nat.testBit v.toNat 15)) := s.near_refl.wr _ _
  refine ⟨_, he.trans (answer_near hnear), ?_, ?_, ?_, hnear.spad, hnear.cores⟩
  · change bitsOf (State.rd _ (TILE_SPAD_REACH_d pos d)) 0 9 = _
    rw [hrd, hlogical, bitsOf_zero_eq_mod, Nat.mod_mod]
  · change decide (bitsOf (State.rd _ (TILE_SPAD_REACH_d pos d)) 15 1 = 1) = Nat.testBit v.toNat 15
    rw [hrd, hvalid]
    cases Nat.testBit v.toNat 15 <;> rfl
  · rw [hrd, hpath, bitsOf_zero_eq_mod]
    rfl

theorem captureRearm_yields {i : Instr} {s : State} {r : Reg}
    (he : exec i s = answer s (s.wr r (setBitsOf (s.rd r) 63 1 0))) : yields i s (fun t => Nat.testBit (t.rd r) 63 = false ∧
      bitsOf (t.rd r) 0 63 = bitsOf (s.rd r) 0 63 ∧ (∀ q : Reg, q.addr ≠ r.addr → t.rd q = s.rd q) ∧ t.faults = s.faults ∧
      t.cores = s.cores) := by
  have hrd : (s.wr r (setBitsOf (s.rd r) 63 1 0)).rd r = setBitsOf (s.rd r) 63 1 0 :=
    (s.rd_wr_same r _).trans (Nat.mod_eq_of_lt (setBitsOf_lt (s.rd_lt _) (Nat.le_refl 64)))
  refine ⟨_, he.trans (answer_near (s.near_refl.wr _ _)), ?_, ?_, fun q hq => s.rd_wr_ne _ hq, s.wr_faults _ _, (s.near_refl.wr _ _).cores⟩
  · rw [hrd, testBit_setBitsOf, if_pos (by omega), Nat.zero_testBit]
  · rw [hrd, bitsOf_setBitsOf_ne _ _ (.inl (Nat.le_refl 63))]

/-! ## O24 -/

/-- A change due is made, by the event of its kind. -/
theorem windowDue_yields {s : State} {pos : Nat} {x : WinChange} (hpos : pos < 576) (hb : winBefore (s.tile pos).wins x = false)
    (hturn : s.turnsBefore pos x.at_ = false) :
    (nextWin true (s.tile pos).wins = some x → yields (.windowOpenEffect pos) s (fun t => s.windowChanged t pos x)) ∧
    (nextWin false (s.tile pos).wins = some x → yields (.windowCloseEffect pos) s (fun t => s.windowChanged t pos x)) := by
  constructor <;> intro hx <;> apply windowChange_yields
  · rw [exec_windowOpenEffect, execWindowOpenEffect, if_neg (by omega), hx]
    simp only [hb, hturn, Bool.or_self, Bool.false_eq_true, if_false]
  · rw [exec_windowCloseEffect, execWindowCloseEffect, if_neg (by omega), hx]
    simp only [hb, hturn, Bool.or_self, Bool.false_eq_true, if_false]

theorem reachEntryWrite_yields {s : State} {a : Agent} {pos d : Nat} (v : W64) (hpos : pos < 576) (hd : d < 4)
    (hm : s.mute a (TILE_SPAD_REACH_d pos d).addr = false) (ha : s.mayWrite a .mgmt = true) :
    exec (.reachEntryWrite a pos d v) s = answer s (if !(v.getLsbD 15) || s.reachOk pos (v.toNat % 2 ^ 9) then
      s.setReach pos d (bitsOf v.toNat 0 9) (Nat.testBit v.toNat 15) else s.decodeFault true (TILE_SPAD_REACH_d pos d).addr) := by
  refine (allowed_yields (((exec_reachEntryWrite _ _ _ _ _).trans (if_neg (by omega)))) hm ha).trans ?_
  rw [bitsOf_zero_eq_mod]
  rfl

/-- Settles O24: a window change made is its registers written, by one lemma for each kind of change (`State.winWords`), and
its entry taken; the writes of the control space answer with their one register, or with the change put in the list. -/
theorem windowsAndReach : Obligations.WindowsAndReach := by
  unfold Obligations.WindowsAndReach
  refine ⟨⟨fun pos s x hpos => ⟨fun ⟨hx, hb, hturn, _⟩ => (windowDue_yields hpos hb hturn).1 hx,
    fun ⟨hx, hb, hturn, _⟩ => (windowDue_yields hpos hb hturn).2 hx⟩, fun a pos n hi s hpos hn hm => ?_⟩,
    fun a pos d v s hpos hd hm ha => ⟨fun hv => ?_, fun hv hr => ?_⟩, fun a addr s row reg hreg hcap hm ha => ?_⟩
  · have hopen := (exec_controlWindowOpen s a pos n hi).trans (if_neg (by omega))
    have hclose := (exec_controlWindowClose s a pos n hi).trans (if_neg (by omega))
    refine ⟨fun ha => ⟨windowNow_yields (allowed_yields hopen hm ha), windowQueued_yields (allowed_yields hopen hm ha),
      fun h => (windowNow_yields (allowed_yields hclose hm ha) h).mono fun t ⟨hflag, hbits, _, hspad, _⟩ => ⟨hflag, hbits, hspad⟩,
      windowQueued_yields (allowed_yields hclose hm ha)⟩, fun ha => ⟨allowed_refused hopen hm ha, allowed_refused hclose hm ha⟩⟩
  · refine reachEntryWrite_taken ((reachEntryWrite_yields v hpos hd hm ha).trans (congrArg (answer s) (if_pos ?_)))
    rcases hv with hv | hv <;> simp only [hv, Bool.not_false, Bool.true_or, Bool.or_true]
  · have he := reachEntryWrite_yields v hpos hd hm ha
    rw [hv, hr, if_neg (by decide), answer_decodeFault] at he
    exact ⟨_, he, _, rfl, rfl, rfl⟩
  · have he : exec (.captureRearm a addr) s = allowed a row.who addr s
        (fun s => s.wr ⟨reg, row.rst⟩ (setBitsOf (s.rd ⟨reg, row.rst⟩) 63 1 0)) := by
      rw [exec_captureRearm, execCaptureRearm, hreg]
      exact if_pos hcap
    exact captureRearm_yields (allowed_yields he hm ha)

end Sys2Proof.Machine
end

section
/-! PROOFS. Fills and copies of the memory-side engine (O22). -/

namespace Sys2Proof.Machine

/-! ## A tile's event answers from a later time -/

/-- `u` is `s` at another time. -/
def State.Later (s u : State) : Prop := u = { s with clk := u.clk }

namespace State.Later

variable {s u : State} (h : s.Later u)
include h

theorem csr : u.csr = s.csr := by rw [h]
theorem cores : u.cores = s.cores := by rw [h]
theorem tiles : u.tiles = s.tiles := by rw [h]
theorem marks : u.marks = s.marks := by rw [h]
theorem spadSame : s.spadSame u := by rw [h]; exact ⟨rfl, rfl, rfl, rfl, rfl⟩

end State.Later

theorem answerTile_later {i : Instr} {s : State} {g n : Nat} {f : State → State} {P : State → Prop}
    (he : exec i s = answerTile g n s f)
    (hP : ∀ u t, s.Later u → s.onlyTiles t → (f u).TileView t → t.marks = (f u).marks → P t) : yields i s P :=
  ⟨_, he, hP (s.atCycle g n) _ rfl rfl ⟨rfl, rfl, rfl, rfl, rfl, rfl, rfl, rfl, rfl, rfl, rfl, rfl, rfl, rfl, rfl⟩ rfl⟩

theorem State.feederAt_congr {s u : State} (h : u.cores = s.cores) (pos : Nat) (banks : List Nat) (t : Nat) :
    u.feederAt pos banks t = s.feederAt pos banks t := by
  simp only [State.feederAt, State.core_congr h]

theorem State.spadPoisonBits_congr {s u : State} (h : s.spadSame u) (pos off len : Nat) :
    u.spadPoisonBits pos off len = s.spadPoisonBits pos off len := by
  obtain ⟨-, hpoison, hecc, hline, -⟩ := h
  simp only [State.spadPoisonBits, State.spadWordPoison, hpoison, hecc, hline]

/-! ## Consecutive members of a set -/

theorem NSet.has_setBits_outside (n : Nat) : ∀ (m : NSet) (k v : Nat) {j : Nat}, (j < k ∨ k + n ≤ j) →
    (NSet.setBits m k n v).has j = m.has j := by
  induction n with
  | zero => exact fun m k v j _ => rfl
  | succ n ih =>
    intro m k v j hj
    have hne : j ≠ k := by omega
    rw [NSet.setBits, ih _ _ _ (by omega)]
    split
    · exact m.has_add_ne hne
    · exact m.has_del_ne hne

theorem NSet.has_setBits (n : Nat) : ∀ (m : NSet) (k v : Nat) {i : Nat}, i < n → (NSet.setBits m k n v).has (k + i) = v.testBit i := by
  induction n with
  | zero => exact fun m k v i hi => absurd hi (Nat.not_lt_zero i)
  | succ n ih =>
    intro m k v i hi
    rw [NSet.setBits]
    cases i with
    | zero =>
      change NSet.has _ k = _
      rw [NSet.has_setBits_outside n _ (k + 1) _ (.inl (by omega)), Nat.testBit_zero]
      split
      next h => rw [m.has_add_same, h, decide_eq_true rfl]
      next h => rw [m.has_del_same, decide_eq_false h]
    | succ i => rw [show k + (i + 1) = k + 1 + i by omega, ih _ _ _ (by omega), Nat.testBit_succ]

/-! ## The steps of a fill or copy -/

section
variable (s : State) (pos : Nat) (e : QEntry) (n len : Nat) (good : Bool)

/-- Of an operation that ends the tile frees the entry, and the core's posted operation and the attachment go on. -/
theorem State.mseDone_frame :
    s.mseDone pos e good = { (s.freeEntry pos e.id).posted (coreKey pos e.core) e.posted with msgs := (s.mseDone pos e good).msgs } := by
  unfold State.mseDone
  dsimp only
  split <;> rfl

theorem State.mseDone_served : s.Served (s.mseDone pos e good) := by
  rw [State.mseDone_frame]
  exact ((State.Served.modTile s pos _).trans (.posted _ _ _)).trans rfl

theorem State.mseDone_csr : (s.mseDone pos e good).csr = s.csr := by
  rw [State.mseDone_frame]
  rfl

theorem State.mseDone_queue : ((s.mseDone pos e good).tile pos).queue = (s.tile pos).queue.filter (fun x => x.id ≠ e.id) := by
  have htile := s.tile_modTile_same pos (fun t => { t with queue := t.queue.filter (fun x => x.id ≠ e.id) })
  rw [State.mseDone_frame]
  exact congrArg Tile.queue htile

theorem State.queue_modEntry (id : Nat) (f : QEntry → QEntry) :
    ((s.modEntry pos id f).tile pos).queue = (s.tile pos).queue.map (fun x => if x.id = id then f x else x) :=
  congrArg Tile.queue (s.tile_modTile_same pos (fun t => { t with queue := t.queue.map (fun x => if x.id = id then f x else x) }))

theorem State.mseStep_served : s.Served (s.mseStep pos e n len) := by
  unfold State.mseStep
  split
  · exact s.mseDone_served pos e true
  · exact State.Served.modEntry s pos _ _

/-- The last piece frees the entry. -/
theorem State.mseStep_last (h : n ≤ e.issued + len) :
    ((s.mseStep pos e n len).tile pos).queue = (s.tile pos).queue.filter (fun x => x.id ≠ e.id) := by
  rw [State.mseStep, if_pos h, State.mseDone_queue]

/-- A piece before the last is counted in the entry. -/
theorem State.mseStep_more (h : e.issued + len < n) : ((s.mseStep pos e n len).tile pos).queue =
    (s.tile pos).queue.map (fun x => if x.id = e.id then { x with started := true, issued := x.issued + len, piece := none } else x) := by
  rw [State.mseStep, if_neg (by omega), State.queue_modEntry]
end

/-! ## What a fill or copy has done -/

section
variable (s t : State) (pos : Nat) (e : QEntry)

/-- The entry of an operation is freed. -/
def State.mseFreed : Prop := (t.tile pos).queue = (s.tile pos).queue.filter (fun x => x.id ≠ e.id) ∧ s.onlyTiles t

/-- A piece is written, and is the operation's last or is counted in its entry. -/
def State.msePut (n off len data : Nat) : Prop :=
  Mem.read t.spad (spadKey pos off) len = data % 256 ^ len ∧ s.spadKept t pos off (off + len) ∧
  (n ≤ e.issued + len → s.mseFreed t pos e) ∧
  (e.issued + len < n → s.entryIs t pos e (fun x => { x with started := true, issued := x.issued + len, piece := none }) ∧
    s.onlyTiles t)

/-- A piece is read and waits in its entry to be written. -/
def State.mseRead (off len : Nat) : Prop := s.spadSame t ∧ s.onlyTiles t ∧
  s.entryIs t pos e (fun x => { x with started := true
                                       piece := some (BitVec.ofNat 2048 (Mem.read s.spad (spadKey pos off) len),
                                         BitVec.ofNat 64 (s.spadPoisonBits pos off len)) })

/-- An access is put off for a feeder. -/
def State.mseDeferred : Prop := s.spadSame t ∧ (t.tile pos).queue = (s.tile pos).queue ∧
  s.countedBy t (TILE_SPAD_YIELD_CNT pos) 1 ∧ s.onlyTiles t
end

/-- The tile at an access of its engine: the next access comes later. -/
def State.msTaken (s : State) (pos t : Nat) : State := s.modTile pos (fun x => { x with msFree := t + 1 })

theorem State.queue_msTaken (s : State) (pos t : Nat) : ((s.msTaken pos t).tile pos).queue = (s.tile pos).queue := by
  rw [State.msTaken, State.tile_modTile_same]

section
variable {s : State} {pos off len t : Nat} {f : State → State}

theorem State.msAccess_deferred (h : (s.feederAt pos (banksOf off len) t).isSome = true) :
    s.msAccess pos off len t f = (s.msTaken pos t).count (tileCounter pos (TILE_SPAD_YIELD_CNT pos)) 1 := by
  rw [← State.feederAt_congr (State.modTile_cores s pos (fun x => { x with msFree := t + 1 }))] at h
  exact if_pos h

theorem State.msAccess_served (h : (s.feederAt pos (banksOf off len) t).isSome = false) :
    s.msAccess pos off len t f = f (s.msTaken pos t) := by
  rw [← State.feederAt_congr (State.modTile_cores s pos (fun x => { x with msFree := t + 1 }))] at h
  exact if_neg (by rw [h]; decide)
end

/-! ## The answers -/

section
variable {i : Instr} {s : State} {pos g m : Nat} {e : QEntry}

theorem mseDone_yields {good : Bool} (he : exec i s = answerTile g m s (fun s => s.mseDone pos e good)) :
    yields i s (fun t => s.mseFreed t pos e ∧ s.spadSame t) := by
  refine answerTile_later he fun u t hu ho ht _ => ⟨⟨?_, ho⟩, ?_⟩
  · rw [State.tile_congr ht.tiles, State.mseDone_queue, State.tile_congr hu.tiles]
  · exact ht.spadSame (State.spadSame_trans hu.spadSame (u.mseDone_served pos e good).spadSame)

theorem mseError_yields {op c off : Nat}
    (he : exec i s = answerTile g m s (fun s => (s.msError pos e.core op c off).mseDone pos e false)) :
    yields i s (fun t => s.mseFreed t pos e ∧ s.spadSame t ∧ s.countedBy t (TILE_SPAD_MSERR_CNT pos) 1) := by
  refine answerTile_later he fun u t hu ho ht _ => ?_
  have hnear := u.near_msError pos e.core op c off
  refine ⟨⟨?_, ho⟩, ?_, ?_⟩
  · rw [State.tile_congr ht.tiles, State.mseDone_queue, State.tile_congr hnear.tiles, State.tile_congr hu.tiles]
  · exact ht.spadSame (State.spadSame_trans hu.spadSame
      ((State.Served.of_near hnear).trans (State.mseDone_served _ pos e false)).spadSame)
  · have hcount := u.countedBy_msError pos e.core op c off
    rw [State.countedBy, State.rd_congr hu.csr] at hcount
    exact State.countedBy_of_rd hcount (State.rd_congr (ht.csr.trans (State.mseDone_csr _ pos e false)) _)

variable {off len : Nat} {f : State → State}

theorem mseDeferred_yields (he : exec i s = answerTile g m s (fun s => s.msAccess pos off len m f))
    (h : (s.feederAt pos (banksOf off len) m).isSome = true) : yields i s (fun t => s.mseDeferred t pos) := by
  refine answerTile_later he fun u t hu ho ht _ => ?_
  rw [← State.feederAt_congr hu.cores] at h
  rw [State.msAccess_deferred h] at ht
  have hcount := (u.msTaken pos m).countedBy_count (tileCounter pos (TILE_SPAD_YIELD_CNT pos)) 1
  rw [State.countedBy, State.rd_congr (show (u.msTaken pos m).csr = s.csr from hu.csr)] at hcount
  refine ⟨ht.spadSame (State.spadSame_trans hu.spadSame ((State.Served.modTile u pos _).trans (.count _ _ _)).spadSame), ?_,
    State.countedBy_of_rd hcount (State.rd_congr ht.csr _), ho⟩
  rw [State.tile_congr ht.tiles, State.tile_congr (State.count_tiles _ _ _), State.queue_msTaken, State.tile_congr hu.tiles]

theorem msePut_yields {n data poison : Nat} (he : exec i s = answerTile g m s (fun s => s.msAccess pos off len m (fun s =>
      (s.spadWrite pos off len data poison).mseStep pos e n len)))
    (h : (s.feederAt pos (banksOf off len) m).isSome = false) : yields i s (fun t => s.msePut t pos e n off len data ∧
      ∀ j, j < len / 4 → t.spadPoison.has (spadKey pos off / 4 + j) = poison.testBit j) := by
  refine answerTile_later he fun u t hu ho ht _ => ?_
  rw [← State.feederAt_congr hu.cores] at h
  rw [State.msAccess_served h] at ht
  generalize hw : (u.msTaken pos m).spadWrite pos off len data poison = w at ht
  obtain ⟨huspad, -⟩ := hu.spadSame
  obtain ⟨hsame, hsamePoison, -⟩ := (w.mseStep_served pos e n len).spadSame
  have hqueue : (w.tile pos).queue = (s.tile pos).queue := by
    rw [← hw, State.tile_congr (State.spadWrite_same _ _ _ _ _ _).1, State.queue_msTaken, State.tile_congr hu.tiles]
  have hspad : t.spad = Mem.write s.spad (spadKey pos off) len data := by
    rw [ht.spad, hsame, ← hw, State.spadWrite_spad, ← huspad]
    rfl
  have hpoison : t.spadPoison = NSet.setBits u.spadPoison (spadKey pos off / 4) (len / 4) poison := by
    rw [ht.spadPoison, hsamePoison, ← hw]
    rfl
  refine ⟨⟨?_, fun b hb => ?_, fun hlast => ⟨?_, ho⟩, fun hmore => ⟨?_, ho⟩⟩, fun j hj => ?_⟩
  · rw [hspad, Mem.read_write]
  · rw [hspad]
    exact Mem.byte_write_outside _ _ _ _ _ (by simpa [spadKey, Nat.add_assoc] using hb)
  · rw [State.tile_congr ht.tiles, State.mseStep_last _ _ _ _ _ hlast, hqueue]
  · rw [State.entryIs, State.tile_congr ht.tiles, State.mseStep_more _ _ _ _ _ hmore, hqueue]
  · rw [hpoison, NSet.has_setBits _ _ _ _ hj]

theorem mseRead_yields (he : exec i s = answerTile g m s (fun s => s.msAccess pos off len m (fun s =>
      (s.spadRead pos off len 15 false).2.2.modEntry pos e.id (fun e => { e with
        started := true
        piece := some (BitVec.ofNat 2048 (s.spadRead pos off len 15 false).1, BitVec.ofNat 64 (s.spadRead pos off len 15 false).2.1) }))))
    (h : (s.feederAt pos (banksOf off len) m).isSome = false) : yields i s (fun t => s.mseRead t pos e off len) := by
  refine answerTile_later he fun u t hu ho ht _ => ?_
  rw [← State.feederAt_congr hu.cores] at h
  rw [State.msAccess_served h] at ht
  have hsame : s.spadSame (u.msTaken pos m) := State.spadSame_trans hu.spadSame (State.Served.modTile u pos _).spadSame
  have hdata : ((u.msTaken pos m).spadRead pos off len 15 false).1 = Mem.read s.spad (spadKey pos off) len :=
    congrArg (fun d => Mem.read d (spadKey pos off) len) hsame.1
  have hpoison : ((u.msTaken pos m).spadRead pos off len 15 false).2.1 = s.spadPoisonBits pos off len :=
    State.spadPoisonBits_congr hsame pos off len
  have hread := State.Checked.spadRead (u.msTaken pos m) pos off len 15 false
  refine ⟨ht.spadSame (State.spadSame_trans hsame (hread.served.trans (.modEntry _ _ _ _)).spadSame), ho, ?_⟩
  rw [State.entryIs, State.tile_congr ht.tiles, State.queue_modEntry, State.tile_congr hread.tiles, State.queue_msTaken,
    State.tile_congr hu.tiles, hdata, hpoison]
end

/-! ## The commands -/

/-- What a copy does at an access: the piece read, or the piece read before written. -/
def State.copyStep (s : State) (pos : Nat) (e : QEntry) (n off len : Nat) : State :=
  match e.piece with
  | none =>
    (s.spadRead pos off len 15 false).2.2.modEntry pos e.id (fun e => { e with
      started := true
      piece := some (BitVec.ofNat 2048 (s.spadRead pos off len 15 false).1, BitVec.ofNat 64 (s.spadRead pos off len 15 false).2.1) })
  | some d => (s.spadWrite pos off len d.1.toNat d.2.toNat).mseStep pos e n len

section
variable {pos : Nat} {s : State} {e : QEntry} (hpos : pos < 576) (hhead : s.engineHead pos 2 = some e) {sa sb n off len t c : Nat}
  (hn : (e.desc.getD 2 0).toNat = n)
include hpos hhead hn

theorem exec_mseFill_empty (hk : e.kind = .fill) (h : n = 0) :
    exec (.mseFill pos) s = answerTile (groveOf pos) (s.hereNow pos) s (fun s => s.mseDone pos e true) := by
  rw [exec_mseFill, execMseFill, if_neg (by omega), hhead]
  simp only [hn]
  rw [if_neg (by rw [hk]; decide), if_pos h]

theorem exec_mseFill_error (hsa : (e.desc.getD 0 0).toNat = sa) (hk : e.kind = .fill) (h : 0 < n) (hc : mseCheck [sa] n = some c) :
    exec (.mseFill pos) s = answerTile (groveOf pos) (s.hereNow pos) s
      (fun s => (s.msError pos e.core 0 c (sa % 2 ^ 27)).mseDone pos e false) := by
  rw [exec_mseFill, execMseFill, if_neg (by omega), hhead]
  simp only [hn, hsa, hc]
  rw [if_neg (by rw [hk]; decide), if_neg (by omega)]

theorem exec_mseFill_piece (hsa : (e.desc.getD 0 0).toNat = sa) (hk : e.kind = .fill) (h : 0 < n) (hc : mseCheck [sa] n = none)
    (hoff : sa + e.issued = off) (hlen : mseLen off n e.issued = len) (ht : s.msNext pos off len = t)
    (hfree : s.marksDue pos t = false ∧ s.winsDue pos t = false) :
    exec (.mseFill pos) s = answerTile (groveOf pos) t s (fun s => s.msAccess pos off len t (fun s =>
      (s.spadWrite pos off len (repeatWord (e.desc.getD 1 0).toNat (len / 4)) 0).mseStep pos e n len)) := by
  rw [exec_mseFill, execMseFill, if_neg (by omega), hhead]
  simp only [hn, hsa, hc, hoff, hlen, ht, hfree.1, hfree.2]
  rw [if_neg (by rw [hk]; decide), if_neg (by omega)]
  rfl

theorem exec_mseCopy_empty (hk : e.kind = .copy) (h : n = 0) :
    exec (.mseCopy pos) s = answerTile (groveOf pos) (s.hereNow pos) s (fun s => s.mseDone pos e true) := by
  rw [exec_mseCopy, execMseCopy, if_neg (by omega), hhead]
  simp only [hn]
  rw [if_neg (by rw [hk]; decide), if_pos h]

/-- Ranges of a copy that break R126 are an error. -/
theorem exec_mseCopy_error (hsa : (e.desc.getD 0 0).toNat = sa) (hsb : (e.desc.getD 1 0).toNat = sb) (hk : e.kind = .copy)
    (h : 0 < n) (hc : (mseCheck [sa, sb] n).isSome = true ∨ (sa < sb + n ∧ sb < sa + n)) :
    ∃ c, exec (.mseCopy pos) s = answerTile (groveOf pos) (s.hereNow pos) s
      (fun s => (s.msError pos e.core 1 c (sa % 2 ^ 27)).mseDone pos e false) := by
  rw [exec_mseCopy, execMseCopy, if_neg (by omega), hhead]
  dsimp only
  rw [hn, hsa, hsb, if_neg (by rw [hk]; decide), if_neg (by omega)]
  cases hm : mseCheck [sa, sb] n with
  | some c => exact ⟨c, rfl⟩
  | none =>
    rw [if_pos (hc.resolve_left (by rw [hm]; decide))]
    exact ⟨3, rfl⟩

theorem exec_mseCopy_piece (hsa : (e.desc.getD 0 0).toNat = sa) (hsb : (e.desc.getD 1 0).toNat = sb) (hk : e.kind = .copy)
    (h : 0 < n) (hc : mseCheck [sa, sb] n = none) (hapart : sb + n ≤ sa ∨ sa + n ≤ sb)
    (hlen : min (mseLen (sa + e.issued) n e.issued) (mseLen (sb + e.issued) n e.issued) = len)
    (hoff : (if e.piece.isSome then sa else sb) + e.issued = off) (ht : s.msNext pos off len = t)
    (hfree : s.marksDue pos t = false ∧ s.winsDue pos t = false) :
    exec (.mseCopy pos) s = answerTile (groveOf pos) t s (fun s => s.msAccess pos off len t (fun s => s.copyStep pos e n off len)) := by
  rw [exec_mseCopy, execMseCopy, if_neg (by omega), hhead]
  dsimp only
  rw [hn, hsa, hsb, if_neg (by rw [hk]; decide), if_neg (by omega), hc, if_neg (by omega)]
  dsimp only
  rw [hlen, hoff, ht, hfree.1, hfree.2, if_neg (by decide)]
  rfl
end

/-- Settles O22: an operation of no bytes, and one whose ranges break R126, ends at once; a piece is read or written by the
rules of `State.spadRead` and `State.spadWrite` where no feeder holds the bank, and its step counts it or ends the operation. -/
theorem memorySideEngine : Obligations.MemorySideEngine := by
  unfold Obligations.MemorySideEngine
  intro pos s e hpos hhead
  refine ⟨fun hk hn => mseDone_yields (exec_mseFill_empty hpos hhead rfl hk hn),
    fun hk hn c hc => mseError_yields (exec_mseFill_error hpos hhead rfl rfl hk hn hc), fun hk hn hc hfree => ?_,
    fun hk hn => mseDone_yields (exec_mseCopy_empty hpos hhead rfl hk hn), fun hk hn hc => ?_, fun hk hn hc hapart => ⟨fun hp hfree => ?_,
    fun d hp hfree => ?_⟩⟩
  · have he := exec_mseFill_piece hpos hhead rfl rfl hk hn hc rfl rfl rfl hfree
    refine ⟨mseDeferred_yields he, fun h => (msePut_yields he h).mono fun t ⟨hput, hclear⟩ => ⟨hput, fun k hlo hhi => ?_⟩⟩
    obtain ⟨j, rfl⟩ := Nat.exists_eq_add_of_le hlo
    exact (hclear j (by omega)).trans (Nat.zero_testBit j)
  · obtain ⟨c, he⟩ := exec_mseCopy_error hpos hhead rfl rfl rfl hk hn hc
    exact mseError_yields he
  · have he := exec_mseCopy_piece hpos hhead rfl rfl rfl hk hn hc hapart rfl (by rw [hp]; rfl) rfl hfree
    simp only [State.copyStep, hp] at he
    exact ⟨mseDeferred_yields he, mseRead_yields he⟩
  · have he := exec_mseCopy_piece hpos hhead rfl rfl rfl hk hn hc hapart rfl (by rw [hp]; rfl) rfl hfree
    simp only [State.copyStep, hp] at he
    exact ⟨mseDeferred_yields he, fun h => (msePut_yields he h).mono fun t ⟨hput, _⟩ => hput⟩

end Sys2Proof.Machine
end

section
/-! PROOFS. Marking, scrubbing and clearing of a scratchpad (O23). -/

namespace Sys2Proof.Machine

/-! ## Sets and maps -/

theorem NSet.has_iff_mem (m : NSet) (k : Nat) : m.has k = true ↔ k ∈ m := by
  induction m with
  | nil => simp [NSet.has]
  | cons j m ih =>
    rw [NSet.has, List.mem_cons]
    split
    next h => simp [h]
    next h => simp [h, ih]

theorem NSet.has_setBits_ones (n : Nat) (m : NSet) (k : Nat) {i : Nat} (hi : i < n) :
    (NSet.setBits m k n (2 ^ n - 1)).has (k + i) = true := by
  rw [NSet.has_setBits n _ _ _ hi, Nat.testBit_two_pow_sub_one, decide_eq_true hi]

/-- What a key of a map holds other than the default stands in the map's list. -/
theorem SMap.mem_of_get {α : Type} {d v : α} {m : SMap α} {k : Nat} (h : SMap.get d m k = v) (hv : v ≠ d) : (k, v) ∈ m := by
  induction m with
  | nil => exact absurd h.symm hv
  | cons e m ih =>
    obtain ⟨j, w⟩ := e
    rw [SMap.get] at h
    split at h
    next hk => exact List.mem_cons.mpr (.inl (by rw [hk, h]))
    next => exact List.mem_cons_of_mem _ (ih h)

/-- A key taken out with others reads as the default; other keys keep their value. -/
theorem SMap.get_foldl_erase {α β : Type} (d : α) (k : Nat) (l : List (Nat × β)) : ∀ m : SMap α,
    SMap.get d (l.foldl (fun m e => m.erase e.1) m) k = if ∃ e ∈ l, e.1 = k then d else SMap.get d m k := by
  induction l with
  | nil => intro m; simp
  | cons e l ih =>
    intro m
    rw [List.foldl_cons, ih]
    by_cases he : e.1 = k
    · simp [he, SMap.get_erase_same]
    · simp only [SMap.get_erase_ne d m (Ne.symm he), List.mem_cons, or_and_right, exists_or, exists_eq_left, he, false_or]

/-! ## Markings -/

theorem pos_of_nextMark {pos : Nat} {l : List Mark} {m : Mark} (h : nextMark pos l = some m) : m.pos = pos := by
  induction l with
  | nil => cases h
  | cons x l ih =>
    rw [nextMark] at h
    split at h
    next =>
      split at h
      next hx => cases h; exact hx
      next => cases h
    next n hn =>
      split at h
      next hx => cases h; exact hx.1
      next => cases h; exact ih hn

section
variable (s : State) (m : Mark)

theorem State.marked_frame : (s.marked m).spad = s.spad ∧ (s.marked m).marks = s.marks.erase m := by
  unfold State.marked
  dsimp only
  split <;> split <;> exact ⟨rfl, rfl⟩

variable {m}

/-- A word marked is poisoned, with fresh check bits. -/
theorem State.marked_word (hm : m.line = false) (h : SMap.get 0 s.spadEcc (spadKey m.pos m.off / 4) = 2) :
    (s.marked m).spadPoison.has (spadKey m.pos m.off / 4) = true ∧ SMap.get 0 (s.marked m).spadEcc (spadKey m.pos m.off / 4) = 0 := by
  rw [State.marked]
  dsimp only
  rw [if_neg (by rw [hm]; decide), if_pos h]
  exact ⟨NSet.has_add_same _ _, SMap.get_erase_same _ _ _⟩

/-- Of a line marked every word is poisoned, and its poison code is put right. -/
theorem State.marked_line (hm : m.line = true) (h : s.spadLine.has (spadKey m.pos m.off / 128) = true) :
    (s.marked m).spadLine.has (spadKey m.pos m.off / 128) = false ∧
    ∀ i, i < 32 → (s.marked m).spadPoison.has (spadKey m.pos m.off / 128 * 32 + i) = true := by
  rw [State.marked]
  dsimp only
  rw [if_pos hm, if_pos h]
  dsimp only
  refine ⟨NSet.has_del_same _ _, fun i hi => NSet.has_setBits_ones 32 _ _ hi⟩
end

/-- The tile at a marking: the engine's next access comes after it. -/
def State.markTaken (s : State) (m : Mark) : State := s.modTile m.pos (fun x => { x with msFree := max x.msFree (m.due + 1) })

/-- The words of a marking. -/
def Mark.banks (m : Mark) : List Nat := banksOf m.off (if m.line then 128 else 4)

section
variable {s : State} {pos : Nat} {m : Mark} (hpos : pos < 576) (hm : nextMark pos s.marks = some m)
include hpos hm

theorem exec_poisonMarking_eq : exec (.poisonMarking pos) s = answerTile (groveOf pos) m.due s (fun u =>
    if ((u.markTaken m).feederAt pos m.banks m.due).isSome then
      ({ u.markTaken m with
          marks := replaceAt (u.markTaken m).marks ((u.markTaken m).marks.idxOf m) { m with due := m.due + 16 } }).count
        (tileCounter pos (TILE_SPAD_YIELD_CNT pos)) 1
    else (u.markTaken m).marked m) := by
  rw [exec_poisonMarking, execPoisonMarking, if_neg (by omega), hm]
  simp only [State.markTaken, pos_of_nextMark hm]
  rfl

theorem markingHeld_yields (h : (s.feederAt pos m.banks m.due).isSome = true) : yields (.poisonMarking pos) s (fun t =>
    s.spadSame t ∧ s.countedBy t (TILE_SPAD_YIELD_CNT pos) 1 ∧
    t.marks = replaceAt s.marks (s.marks.idxOf m) { m with due := m.due + 16 }) := by
  refine answerTile_later (exec_poisonMarking_eq hpos hm) fun u t hu ho ht hmarks => ?_
  rw [← State.feederAt_congr (show (u.markTaken m).cores = s.cores from hu.cores)] at h
  rw [if_pos h] at ht hmarks
  generalize hw : ({ u.markTaken m with
    marks := replaceAt (u.markTaken m).marks ((u.markTaken m).marks.idxOf m) { m with due := m.due + 16 } } : State) = w at ht hmarks
  have hsame : s.spadSame w := by
    rw [← hw]
    exact hu.spadSame
  have hcount := w.countedBy_count (tileCounter pos (TILE_SPAD_YIELD_CNT pos)) 1
  rw [State.countedBy, State.rd_congr (show w.csr = s.csr by rw [← hw]; exact hu.csr)] at hcount
  refine ⟨ht.spadSame (State.spadSame_trans hsame (State.Served.count w _ _).spadSame),
    State.countedBy_of_rd hcount (State.rd_congr ht.csr _), ?_⟩
  rw [hmarks, (w.near_refl.count _ _).marks, ← hw, ← hu.marks]
  rfl

theorem markingMade_yields (h : (s.feederAt pos m.banks m.due).isSome = false) : yields (.poisonMarking pos) s (fun t =>
    t.spad = s.spad ∧ t.marks = s.marks.erase m ∧ s.onlyTiles t ∧
    (m.line = false → SMap.get 0 s.spadEcc (spadKey pos m.off / 4) = 2 →
      t.spadPoison.has (spadKey pos m.off / 4) = true ∧ SMap.get 0 t.spadEcc (spadKey pos m.off / 4) = 0) ∧
    (m.line = true → s.spadLine.has (spadKey pos m.off / 128) = true → t.spadLine.has (spadKey pos m.off / 128) = false ∧
      ∀ i, i < 32 → t.spadPoison.has (spadKey pos m.off / 128 * 32 + i) = true)) := by
  have hp := pos_of_nextMark hm
  refine answerTile_later (exec_poisonMarking_eq hpos hm) fun u t hu ho ht hmarks => ?_
  rw [← State.feederAt_congr (show (u.markTaken m).cores = s.cores from hu.cores)] at h
  rw [if_neg (by rw [h]; decide)] at ht hmarks
  obtain ⟨hspad, -, hecc, hline, -⟩ : s.spadSame (u.markTaken m) := hu.spadSame
  obtain ⟨hframe, herased⟩ := (u.markTaken m).marked_frame m
  refine ⟨by rw [ht.spad, hframe, hspad], ?_, ho, fun hl he => ?_, fun hl he => ?_⟩
  · rw [hmarks, herased, ← hu.marks]
    rfl
  · rw [← hecc, ← hp] at he
    rw [ht.spadPoison, ht.spadEcc, ← hp]
    exact (u.markTaken m).marked_word hl he
  · rw [← hline, ← hp] at he
    rw [ht.spadPoison, ht.spadLine, ← hp]
    exact (u.markTaken m).marked_line hl he
end

/-! ## A scrub pass -/

/-- Reads of words that tell their errors: `t` is `s` but for counters, captures, records and markings, and the count of
passes is as it was. -/
def State.Told (pos : Nat) (s t : State) : Prop := s.Checked t ∧ t.rd (TILE_SPAD_SCRUB_PASS pos) = s.rd (TILE_SPAD_SCRUB_PASS pos)

namespace State.Told

variable {pos : Nat} {s t u : State}

theorem refl (pos : Nat) (s : State) : s.Told pos s := ⟨.refl s, rfl⟩

theorem trans (h : s.Told pos t) (k : t.Told pos u) : s.Told pos u := ⟨h.1.trans k.1, k.2.trans h.2⟩

variable (pos s)

theorem countCe (n : Nat) : s.Told pos (s.count (tileCounter pos (TILE_SPAD_CE_CNT pos)) n) :=
  ⟨.count s _ _, s.rd_count_ne (tileCounter pos (TILE_SPAD_CE_CNT pos)) n (tileBase_add_ne (by decide))⟩

theorem spadUe (off agent : Nat) (feeder line : Bool) : s.Told pos (s.spadUe pos off agent feeder line) :=
  ⟨.spadUe s _ _ _ _ _, (State.rd_capture_ne _ _ _ _ (tileBase_add_ne (by decide))).trans
    (s.rd_count_ne (tileCounter pos (TILE_SPAD_UE_CNT pos)) 1 (tileBase_add_ne (by decide)))⟩

theorem checkWord (agent : Nat) (feeder : Bool) (e : Nat × Nat) : s.Told pos (s.checkWord pos agent feeder e) := by
  unfold State.checkWord
  split
  · exact countCe pos s 1
  · exact spadUe pos s _ _ _ _

theorem foldl {α : Type} {f : State → α → State} (hf : ∀ (u : State) (x : α), u.Told pos (f u x)) (l : List α) :
    s.Told pos (l.foldl f s) :=
  List.foldlRecOn (motive := fun u => s.Told pos u) l f (refl pos s) fun u hu x _ => hu.trans (hf u x)

end State.Told

/-- The words of a pass read, with their single-bit errors counted, those of the lines' poison codes included. -/
def State.scrubRead (s : State) (pos : Nat) : State :=
  let t := (s.spadErrors pos 0 spadLimit).foldl (fun (t : State) e => t.checkWord pos 15 false e) s
  if (t.spadLinesCe pos 0 spadLimit).isEmpty then t
  else t.count (tileCounter pos (TILE_SPAD_CE_CNT pos)) (t.spadLinesCe pos 0 spadLimit).length

/-- The lines of a set without those that a pass puts right. -/
def linesScrubbed (lines ce : NSet) : NSet := lines.filter (fun l => !(ce.contains l))

/-- The check bits of words without the single-bit errors that a pass puts right. -/
def wordsScrubbed (ecc errs : SMap Nat) : SMap Nat :=
  (errs.filter (fun (e : Nat × Nat) => e.2 = 1)).foldl (fun (m : SMap Nat) (e : Nat × Nat) => m.erase e.1) ecc

/-- The lines whose poison code is uncorrectable, handled. -/
def State.scrubLines (s : State) (pos : Nat) : State :=
  (s.spadLines pos 0 spadLimit).foldl (fun t l => t.spadUe pos (128 * l - spadKey pos 0) 15 false true) s

/-- A pass counted; a wrap of the count raises its event. -/
def State.passCounted (s : State) (pos : Nat) : State :=
  let n : Nat := s.fld (TILE_SPAD_SCRUB_PASS_PASSES pos) + 1
  let t := s.setFld (TILE_SPAD_SCRUB_PASS_PASSES pos) (n % 2 ^ 48)
  if n < 2 ^ 48 then t
  else t.raise (srcPos pos 19) 9 (counterDetail ((TILE_SPAD_SCRUB_PASS pos).addr - tileBase pos) 0)

/-- A pass with the words read and the single-bit errors of the lines' codes put right. -/
def State.scrubCodes (s : State) (pos : Nat) : State :=
  { s.scrubRead pos with
    spadLineCe := linesScrubbed (s.scrubRead pos).spadLineCe
      (((s.spadErrors pos 0 spadLimit).foldl (fun (t : State) e => t.checkWord pos 15 false e) s).spadLinesCe pos 0 spadLimit) }

/-- A pass with the lines handled and the words put right besides. -/
def State.scrubWords (s : State) (pos : Nat) : State :=
  { (s.scrubCodes pos).scrubLines pos with
    spadEcc := wordsScrubbed ((s.scrubCodes pos).scrubLines pos).spadEcc (s.spadErrors pos 0 spadLimit) }

/-- A pass over a tile. -/
def State.scrubbed (s : State) (pos : Nat) : State := (s.scrubWords pos).passCounted pos

theorem has_linesScrubbed {lines ce : NSet} {l : Nat} (h : l ∈ lines → l ∈ ce) : (linesScrubbed lines ce).has l = false := by
  rw [← Bool.not_eq_true, NSet.has_iff_mem, linesScrubbed, List.mem_filter]
  rintro ⟨hmem, hnot⟩
  simp [h hmem] at hnot

theorem get_wordsScrubbed {ecc errs : SMap Nat} {k : Nat} (h : (k, 1) ∈ errs) : SMap.get 0 (wordsScrubbed ecc errs) k = 0 := by
  rw [wordsScrubbed, SMap.get_foldl_erase, if_pos ⟨(k, 1), List.mem_filter.mpr ⟨h, rfl⟩, rfl⟩]

section
variable (s : State) (pos : Nat)

theorem State.told_scrubRead : s.Told pos (s.scrubRead pos) := by
  have hwords := State.Told.foldl pos s (fun u e => State.Told.checkWord pos u 15 false e) (s.spadErrors pos 0 spadLimit)
  unfold State.scrubRead
  dsimp only
  split
  · exact hwords
  · exact hwords.trans (.countCe pos _ _)

theorem State.told_scrubLines : s.Told pos (s.scrubLines pos) :=
  State.Told.foldl pos s (fun u _ => State.Told.spadUe pos u _ _ _ _) _

theorem State.near_passCounted : s.Near (s.passCounted pos) :=
  .ite _ (s.near_refl.setFld _ _) ((s.near_refl.setFld _ _).raise _ _ _)

theorem State.passes_passCounted : (s.passCounted pos).fld (TILE_SPAD_SCRUB_PASS_PASSES pos) =
    (s.fld (TILE_SPAD_SCRUB_PASS_PASSES pos) + 1) % 2 ^ 48 := by
  have hset := (s.fld_setFld_same (f := TILE_SPAD_SCRUB_PASS_PASSES pos)
    ((s.fld (TILE_SPAD_SCRUB_PASS_PASSES pos) + 1) % 2 ^ 48) (show 0 + 48 ≤ 64 by decide)).trans (Nat.mod_mod _ _)
  unfold State.passCounted
  dsimp only
  split
  · exact hset
  · exact (State.fld_of_rd (State.rd_raise _ _ _ _ _)).trans hset

theorem State.scrubCodes_same : (s.scrubCodes pos).spad = s.spad ∧ (s.scrubCodes pos).spadPoison = s.spadPoison ∧
    (s.scrubCodes pos).rd (TILE_SPAD_SCRUB_PASS pos) = s.rd (TILE_SPAD_SCRUB_PASS pos) := by
  obtain ⟨hread, hpasses⟩ := s.told_scrubRead pos
  obtain ⟨hspad, hpoison, -⟩ := hread.served.spadSame
  exact ⟨hspad, hpoison, hpasses⟩

theorem State.has_scrubCodes {l : Nat} (hlo : spadKey pos 0 / 128 ≤ l) (hhi : l < spadKey pos spadLimit / 128) :
    (s.scrubCodes pos).spadLineCe.has l = false := by
  obtain ⟨-, -, -, -, hread⟩ := (s.told_scrubRead pos).1.served.spadSame
  obtain ⟨-, -, -, -, hwords⟩ := (State.Checked.foldl s (fun u e => State.Checked.checkWord u pos 15 false e)
    (s.spadErrors pos 0 spadLimit)).served.spadSame
  refine has_linesScrubbed fun hmem => ?_
  rw [hread] at hmem
  rw [State.spadLinesCe, hwords, List.mem_filter]
  refine ⟨hmem, decide_eq_true ⟨hlo, ?_⟩⟩
  rw [Nat.zero_add]
  omega

theorem State.scrubWords_same : (s.scrubWords pos).spad = s.spad ∧ (s.scrubWords pos).spadPoison = s.spadPoison ∧
    (s.scrubWords pos).spadLineCe = (s.scrubCodes pos).spadLineCe ∧
    (s.scrubWords pos).rd (TILE_SPAD_SCRUB_PASS pos) = s.rd (TILE_SPAD_SCRUB_PASS pos) := by
  obtain ⟨hspad, hpoison, hpasses⟩ := s.scrubCodes_same pos
  obtain ⟨hlines, hlinesPasses⟩ := (s.scrubCodes pos).told_scrubLines pos
  obtain ⟨hlspad, hlpoison, -, -, hlce⟩ := hlines.served.spadSame
  exact ⟨hlspad.trans hspad, hlpoison.trans hpoison, hlce, hlinesPasses.trans hpasses⟩

theorem State.get_scrubWords {k : Nat} (hlo : spadKey pos 0 / 4 ≤ k) (hhi : k < spadKey pos spadLimit / 4)
    (hk : SMap.get 0 s.spadEcc k = 1) : SMap.get 0 (s.scrubWords pos).spadEcc k = 0 := by
  refine get_wordsScrubbed (List.mem_filter.mpr ⟨SMap.mem_of_get hk (by decide), decide_eq_true ⟨hlo, ?_⟩⟩)
  rw [Nat.zero_add]
  omega

/-- A pass leaves no single-bit error, of a word or of a line's code, and changes no byte and no poison bit. -/
theorem State.scrubbed_spec : (s.scrubbed pos).spad = s.spad ∧ (s.scrubbed pos).spadPoison = s.spadPoison ∧
    (∀ l, spadKey pos 0 / 128 ≤ l → l < spadKey pos spadLimit / 128 → (s.scrubbed pos).spadLineCe.has l = false) ∧
    (∀ k, spadKey pos 0 / 4 ≤ k → k < spadKey pos spadLimit / 4 → SMap.get 0 s.spadEcc k = 1 →
      SMap.get 0 (s.scrubbed pos).spadEcc k = 0) ∧
    (s.scrubbed pos).fld (TILE_SPAD_SCRUB_PASS_PASSES pos) = (s.fld (TILE_SPAD_SCRUB_PASS_PASSES pos) + 1) % 2 ^ 48 := by
  obtain ⟨hspad, hpoison, hce, hpasses⟩ := s.scrubWords_same pos
  have hnear := (s.scrubWords pos).near_passCounted pos
  refine ⟨hnear.spad.trans hspad, hnear.spadPoison.trans hpoison, fun l hlo hhi => ?_, fun k hlo hhi hk => ?_, ?_⟩
  · rw [State.scrubbed, hnear.spadLineCe, hce, State.has_scrubCodes _ _ hlo hhi]
  · rw [State.scrubbed, hnear.spadEcc, State.get_scrubWords _ _ hlo hhi hk]
  · rw [State.scrubbed, State.passes_passCounted, State.fld_of_rd hpasses]
end

/-- A tile's event answers from a state that a pass's period has moved on. -/
theorem answerTile_from {i : Instr} {s s' : State} {g n : Nat} {f : State → State} {P : State → Prop}
    (he : exec i s = answerTile g n s' f) (hs : s.Later s')
    (hP : ∀ u t, s.Later u → s'.clk.ref ≤ u.clk.ref → t.clk = u.clk → (f u).TileView t → P t) : yields i s P :=
  ⟨_, he, hP (s'.atCycle g n) _ (by rw [State.Later, hs]; rfl) (Clocks.forward_ref_le _ _ _) rfl
    ⟨rfl, rfl, rfl, rfl, rfl, rfl, rfl, rfl, rfl, rfl, rfl, rfl, rfl, rfl, rfl⟩⟩

/-! ## Clearing -/

/-- The step of a clear at a region: nothing where it is resident, else every byte zero. -/
def State.clearStep (pos : Nat) (s : State) (r : Nat) : State :=
  if s.resident pos r then s else s.spadZero pos (r * 0x100000) ((r + 1) * 0x100000)

/-- Whether a clear of a region makes a byte zero. -/
def State.zeroes (s : State) (pos a r : Nat) : Bool :=
  !s.resident pos r && (decide (spadKey pos (r * 0x100000) ≤ a) && decide (a < spadKey pos ((r + 1) * 0x100000)))

theorem State.resident_congr {s u : State} (h : u.csr = s.csr) (pos r : Nat) : u.resident pos r = s.resident pos r := by
  simp only [State.resident, State.rd_congr h]

theorem State.flag_setFld_zero (s : State) {f : Field} (h : f.lo + f.len ≤ 64) : (s.setFld f 0).flag f = false := by
  rw [State.flag, State.fld_setFld_same _ _ h, Nat.zero_mod]
  rfl

theorem State.zeroes_iff {s : State} {pos a r : Nat} : s.zeroes pos a r = true ↔
    s.resident pos r = false ∧ pos * 2 ^ 27 + r * 0x100000 ≤ a ∧ a < pos * 2 ^ 27 + (r + 1) * 0x100000 := by
  simp only [State.zeroes, Bool.and_eq_true, Bool.not_eq_true', decide_eq_true_eq]
  rfl

section
variable (pos a : Nat)

theorem State.clearStep_csr (s : State) (r : Nat) : (s.clearStep pos r).csr = s.csr := by
  unfold State.clearStep
  split <;> rfl

theorem State.zeroes_congr {s u : State} (h : u.csr = s.csr) (r : Nat) : u.zeroes pos a r = s.zeroes pos a r := by
  rw [State.zeroes, State.zeroes, State.resident_congr h]

theorem State.byte_clearStep (s : State) (r : Nat) :
    Mem.byte (s.clearStep pos r).spad a = if s.zeroes pos a r = true then 0 else Mem.byte s.spad a := by
  unfold State.clearStep State.zeroes
  cases s.resident pos r with
  | true => rfl
  | false =>
    refine (Mem.byte_clear _ _ _ _).trans ?_
    simp only [Bool.not_false, Bool.true_and, Bool.and_eq_true, decide_eq_true_eq]

/-- A byte is zero after the clear of a region that holds it and is not resident, and as before where there is none. -/
theorem State.byte_clearSteps (l : List Nat) : ∀ s : State,
    Mem.byte (l.foldl (State.clearStep pos) s).spad a = if l.any (s.zeroes pos a) = true then 0 else Mem.byte s.spad a := by
  induction l with
  | nil => exact fun s => rfl
  | cons r l ih =>
    intro s
    have hany : l.any ((s.clearStep pos r).zeroes pos a) = l.any (s.zeroes pos a) :=
      congrArg l.any (funext (State.zeroes_congr pos a (s.clearStep_csr pos r)))
    rw [List.foldl_cons, ih, hany, State.byte_clearStep, List.any_cons]
    cases s.zeroes pos a r <;> cases l.any (s.zeroes pos a) <;> rfl

variable (s : State)

/-- A clear makes the bytes of the regions zero but for those of the resident ones. -/
theorem State.byte_clearNonResident {r b : Nat} (hr : r < 96) (hb : b < 0x100000) :
    Mem.byte (s.clearNonResident pos).spad (spadKey pos (r * 0x100000 + b)) =
      if s.resident pos r = true then Mem.byte s.spad (spadKey pos (r * 0x100000 + b)) else 0 := by
  have hany : (List.range 96).any (s.zeroes pos (spadKey pos (r * 0x100000 + b))) = !s.resident pos r := by
    rw [Bool.eq_iff_iff]
    simp only [List.any_eq_true, List.mem_range, State.zeroes_iff, spadKey, Bool.not_eq_true']
    refine ⟨fun ⟨q, hq, hres, hlo, hhi⟩ => ?_, fun hres => ⟨r, hr, hres, by omega, by omega⟩⟩
    rwa [show r = q by omega]
  refine (State.byte_clearSteps pos _ (List.range 96) s).trans ?_
  rw [hany]
  cases s.resident pos r <;> rfl

theorem State.byte_clearNonResident_outside (h : a < spadKey pos 0 ∨ spadKey pos spadLimit ≤ a) :
    Mem.byte (s.clearNonResident pos).spad a = Mem.byte s.spad a := by
  refine (State.byte_clearSteps pos a (List.range 96) s).trans (if_neg ?_)
  simp only [List.any_eq_true, List.mem_range, State.zeroes_iff]
  rintro ⟨r, hr, -, hlo, hhi⟩
  simp only [spadKey, spadLimit] at h
  omega
end

/-! ## O23 -/

/-- The state at which a pass ends: a period after the one before it, or later. -/
def State.passEnd (s : State) (pos : Nat) : State :=
  (s.atRef (SMap.get 0 s.clk.last (1000 + pos) + s.fld (TILE_SPAD_CFG_SCRUB_PERIOD pos) * 1000 * msCounts)).lastDone (1000 + pos)

theorem State.later_lastDone (s : State) (r k : Nat) : s.Later ((s.atRef r).lastDone k) := by
  unfold State.lastDone State.atRef
  rfl

theorem State.le_lastDone (s : State) (r k : Nat) : r ≤ ((s.atRef r).lastDone k).clk.ref := by
  unfold State.lastDone
  exact s.now_atRef r

theorem exec_scrubPass_eq {s : State} {pos : Nat} (hpos : pos < 576) (hen : s.flag (TILE_SPAD_CFG_SCRUB_EN pos) = true)
    (hrun : s.clkState (groveOf pos) = 2) : exec (.scrubPass pos) s =
      answerTile (groveOf pos) ((s.passEnd pos).hereNow pos) (s.passEnd pos) (fun u => u.scrubbed pos) := by
  rw [exec_scrubPass, execScrubPass, if_neg (by omega), if_pos (by rw [hen, hrun]; decide)]
  rfl

theorem scrubPass_yields {s : State} {pos : Nat} (hpos : pos < 576) (hen : s.flag (TILE_SPAD_CFG_SCRUB_EN pos) = true)
    (hrun : s.clkState (groveOf pos) = 2) : yields (.scrubPass pos) s (fun t =>
      t.spad = s.spad ∧ t.spadPoison = s.spadPoison ∧
      SMap.get 0 s.clk.last (1000 + pos) + s.fld (TILE_SPAD_CFG_SCRUB_PERIOD pos) * 100000000 ≤ t.clk.ref ∧
      (∀ l, spadKey pos 0 / 128 ≤ l → l < spadKey pos spadLimit / 128 → t.spadLineCe.has l = false) ∧
      t.fld (TILE_SPAD_SCRUB_PASS_PASSES pos) = (s.fld (TILE_SPAD_SCRUB_PASS_PASSES pos) + 1) % 2 ^ 48 ∧
      (∀ k, spadKey pos 0 / 4 ≤ k → k < spadKey pos spadLimit / 4 → SMap.get 0 s.spadEcc k = 1 → SMap.get 0 t.spadEcc k = 0)) := by
  refine answerTile_from (exec_scrubPass_eq hpos hen hrun) (s.later_lastDone _ _) fun u t hu href hclk ht => ?_
  obtain ⟨hspad, hpoison, hlines, hwords, hpasses⟩ := u.scrubbed_spec pos
  obtain ⟨huspad, hupoison, huecc, -⟩ := hu.spadSame
  refine ⟨ht.spad.trans (hspad.trans huspad), ht.spadPoison.trans (hpoison.trans hupoison), ?_, fun l hlo hhi => ?_, ?_,
    fun k hlo hhi hk => ?_⟩
  · have hscale (p : Nat) : p * 100000000 = p * 1000 * msCounts := by
      rw [msCounts]
      omega
    rw [hclk, hscale]
    exact (s.le_lastDone _ _).trans href
  · rw [ht.spadLineCe, hlines l hlo hhi]
  · rw [State.fld_congr ht.csr, hpasses, State.fld_congr hu.csr]
  · rw [ht.spadEcc, hwords k hlo hhi (by rw [huecc, hk])]

section
variable {s : State} {pos : Nat} (hpos : pos < 576)
include hpos

theorem spadClearStart_yields {a : Agent} (hm : s.mute a (TILE_SPAD_CLEAR pos).addr = false) (ha : s.mayWrite a .mgmt = true)
    (h : s.tileStopped pos = true) : yields (.spadClearStart a pos) s (fun t =>
      t.flag (TILE_SPAD_CLEAR_BUSY pos) = true ∧ (t.tile pos).clearing = true ∧ s.spadSame t) := by
  have he := allowed_yields ((exec_spadClearStart s a pos).trans (if_neg (by omega))) hm ha
  rw [if_pos h] at he
  obtain ⟨hspad, hpoison, hecc, hline, hlineCe⟩ := ((State.Served.of_near (s.near_refl.setFld (TILE_SPAD_CLEAR_BUSY pos) 1)).trans
    (State.Served.modTile _ pos (fun t => { t with clearing := true }))).spadSame
  refine ⟨_, he, ?_, ?_, hspad, hpoison, hecc, hline, hlineCe⟩
  · have hfld := s.fld_setFld_same (f := TILE_SPAD_CLEAR_BUSY pos) 1 (show 1 + 1 ≤ 64 by decide)
    exact decide_eq_true hfld
  · exact congrArg Tile.clearing ((s.setFld (TILE_SPAD_CLEAR_BUSY pos) 1).tile_modTile_same pos (fun t => { t with clearing := true }))

theorem spadClearStart_refused {a : Agent} (hm : s.mute a (TILE_SPAD_CLEAR pos).addr = false) (ha : s.mayWrite a .mgmt = true)
    (h : s.tileStopped pos = false) : yields (.spadClearStart a pos) s (fun t => s.refusedWrite t) := by
  have he := allowed_yields ((exec_spadClearStart s a pos).trans (if_neg (by omega))) hm ha
  rw [if_neg (by rw [h]; decide), answer_decodeFault] at he
  exact ⟨_, he, _, rfl, rfl, rfl⟩

theorem spadClearDone_yields (h : (s.tile pos).clearing = true) : yields (.spadClearDone pos) s (fun t =>
      t.flag (TILE_SPAD_CLEAR_BUSY pos) = false ∧ (t.tile pos).clearing = false ∧
      (∀ r b, r < 96 → b < 0x100000 → Mem.byte t.spad (spadKey pos (r * 0x100000 + b)) =
        if s.resident pos r = true then Mem.byte s.spad (spadKey pos (r * 0x100000 + b)) else 0) ∧
      s.spadKept t pos 0 spadLimit) := by
  have he := (exec_spadClearDone s pos).trans ((if_neg (by omega)).trans (if_pos h))
  refine answerTile_later he fun u t hu _ ht _ => ?_
  have hspad : t.spad = (u.clearNonResident pos).spad := ht.spad
  obtain ⟨huspad, -⟩ := hu.spadSame
  refine ⟨?_, ?_, fun r b hr hb => ?_, fun a ha => ?_⟩
  · rw [State.flag_congr ht.csr]
    exact (u.clearNonResident pos).flag_setFld_zero (show 1 + 1 ≤ 64 by decide)
  · rw [State.tile_congr ht.tiles, State.tile_modTile_same]
  · rw [hspad, State.byte_clearNonResident _ _ hr hb, huspad, State.resident_congr hu.csr]
  · rw [hspad, State.byte_clearNonResident_outside _ _ _ ha, huspad]
end

/-- Settles O23: a marking is made by `State.marked` or put off; a pass reads every word and line of the tile and takes the
single-bit errors it met out of the lists; a clear is one step for each region. -/
theorem spadRepairs : Obligations.SpadRepairs := by
  unfold Obligations.SpadRepairs
  exact fun pos s hpos => ⟨fun m hm => ⟨markingHeld_yields hpos hm, markingMade_yields hpos hm⟩, scrubPass_yields hpos,
    fun a hm ha => ⟨spadClearStart_yields hpos hm ha, spadClearStart_refused hpos hm ha⟩, spadClearDone_yields hpos⟩

end Sys2Proof.Machine
end

section
/-! PROOFS. The commands of a sequence slot (O27). -/

namespace Sys2Proof.Machine

/-! ## Answers of the sync stores and the sequence unit -/

/-- `t` holds, of what a command of the sync stores or the sequence unit may change, what `u` does. -/
structure State.SyncView (u t : State) : Prop where
  csr : t.csr = u.csr
  cores : t.cores = u.cores
  sync : t.sync = u.sync
  msgs : t.msgs = u.msgs
  ops : t.ops = u.ops
  releasing : t.releasing = u.releasing
  tiles : t.tiles = u.tiles

theorem answerSync_yields {i : Instr} {s u : State} {P : State → Prop} (he : exec i s = answerSync s u)
    (hP : ∀ t, s.onlySync t → u.SyncView t → P t) : yields i s P :=
  ⟨_, he, hP _ rfl ⟨rfl, rfl, rfl, rfl, rfl, rfl, rfl⟩⟩

section
variable {i : Instr} {s : State} {a : Agent} {addr : Nat} {f : State → State}

theorem exec_allowedSync (he : exec i s = allowedSync a addr s f) (hm : s.mute a addr = false) (ha : s.mayWrite a .tile = true) :
    exec i s = answerSync s (f s) := by
  rw [he, allowedSync, hm, ha]
  rfl

theorem decodeFault_answerSync (he : exec i s = answerSync s (s.decodeFault true addr)) : yields i s (fun t => s.refusedWrite t) := by
  rw [State.decodeFault, State.raise_dev _ 9 _ _ (by decide)] at he
  exact ⟨_, he, _, rfl, rfl, rfl⟩

theorem allowedSync_refused (he : exec i s = allowedSync a addr s f) (hm : s.mute a addr = false) (ha : s.mayWrite a .tile = false) :
    yields i s (fun t => s.refusedWrite t) := by
  refine decodeFault_answerSync (addr := addr) ?_
  rw [he, allowedSync, hm, ha]
  rfl
end

/-! ## Registers of a slot -/

theorem State.rd_setFld_ne (s : State) {f : Field} {r : Reg} (v : Nat) (h : r.addr ≠ f.reg.addr) : (s.setFld f v).rd r = s.rd r :=
  s.rd_wr_ne _ h

section
variable (s : State) (slot : Nat)

theorem State.slotState_setSlotState {v : Nat} (hv : v < 8) : (s.setSlotState slot v).slotState slot = v :=
  (s.fld_setFld_same v (show 0 + 3 ≤ 64 by decide)).trans (Nat.mod_eq_of_lt hv)

theorem State.slotState_setSlotState_ne {j : Nat} (v : Nat) (h : j ≠ slot) : (s.setSlotState slot v).slotState j = s.slotState j :=
  s.fld_setFld_other v (by simp only [SEQ_SLOTs_STATE_STATE, SEQ_SLOTs_STATE]; omega)

theorem State.slotFree_releasing : (s.slotFree slot).releasing.has slot = false := NSet.has_del_same _ _

/-! ## A command or an operation rejected -/

variable (cause source : Nat) (scatter : Bool)

theorem State.near_seqReject : s.Near (s.seqReject slot cause source scatter) :=
  ((s.near_refl.setFld _ _).count _ _).capture _ _ _ _

/-- A rejection writes the slot's STATE word, SEQ_ERR_CNT and SEQ_ERR_CAP. -/
theorem State.rd_seqReject {r : Reg} (hcnt : r.addr ≠ SEQ_ERR_CNT.addr) (hcap : r.addr ≠ SEQ_ERR_CAP.addr) :
    (s.seqReject slot cause source scatter).rd r = (s.setFld (SEQ_SLOTs_STATE_ERR slot) cause).rd r :=
  (State.rd_capture_ne _ _ _ _ hcap).trans (State.rd_count_ne _ _ _ hcnt)

theorem State.rd_seqReject_state : (s.seqReject slot cause source scatter).rd (SEQ_SLOTs_STATE slot) =
    (s.setFld (SEQ_SLOTs_STATE_ERR slot) cause).rd (SEQ_SLOTs_STATE slot) :=
  s.rd_seqReject slot cause source scatter (by simp only [SEQ_SLOTs_STATE, SEQ_ERR_CNT]; omega)
    (by simp only [SEQ_SLOTs_STATE, SEQ_ERR_CAP]; omega)

theorem State.err_seqReject : (s.seqReject slot cause source scatter).fld (SEQ_SLOTs_STATE_ERR slot) =
    cause % 2 ^ (SEQ_SLOTs_STATE_ERR slot).len :=
  (State.fld_of_rd (s.rd_seqReject_state slot cause source scatter)).trans (s.fld_setFld_same cause (show 40 + 3 ≤ 64 by decide))

/-- The other fields of the slot's STATE word keep their values. -/
theorem State.fld_seqReject {f : Field} (hr : f.reg = SEQ_SLOTs_STATE slot) (hf : f.lo + f.len ≤ 40) :
    (s.seqReject slot cause source scatter).fld f = s.fld f := by
  have hrd := s.rd_seqReject_state slot cause source scatter
  exact (State.fld_of_rd (hr ▸ hrd)).trans (s.fld_setFld_apart cause hr (show 40 + 3 ≤ 64 by decide) (.inl hf))

theorem State.countedBy_seqReject : s.countedBy (s.seqReject slot cause source scatter) SEQ_ERR_CNT 1 := by
  have hcount := (s.setFld (SEQ_SLOTs_STATE_ERR slot) cause).countedBy_count (seqCounter SEQ_ERR_CNT (srcDev 8)) 1
  have hbefore := s.rd_setFld_ne (f := SEQ_SLOTs_STATE_ERR slot) (r := SEQ_ERR_CNT) cause
    (by simp only [SEQ_SLOTs_STATE_ERR, SEQ_SLOTs_STATE, SEQ_ERR_CNT]; omega)
  unfold State.countedBy at hcount
  rw [show (seqCounter SEQ_ERR_CNT (srcDev 8)).reg = SEQ_ERR_CNT from rfl, hbefore] at hcount
  exact State.countedBy_of_rd hcount (State.rd_capture_ne _ _ _ _ (by decide))
end

theorem State.slotRejected_of_view {s t : State} {slot : Nat} (hslot : slot < 256) (cause source : Nat) (scatter : Bool)
    (ht : (s.seqReject slot cause source scatter).SyncView t) : s.slotRejected t slot cause := by
  have hnear := s.near_seqReject slot cause source scatter
  have hword {r : Reg} (hr : r.addr = 0x500000000 + r.addr % 32 + slot * 32) (hne : r.addr % 32 ≠ 24) : t.rd r = s.rd r := by
    rw [State.rd_congr ht.csr, s.rd_seqReject slot cause source scatter (by simp only [SEQ_ERR_CNT]; omega)
      (by simp only [SEQ_ERR_CAP]; omega)]
    exact s.rd_setFld_ne _ (by simp only [SEQ_SLOTs_STATE_ERR, SEQ_SLOTs_STATE]; omega)
  refine ⟨State.countedBy_of_rd (s.countedBy_seqReject slot cause source scatter) (State.rd_congr ht.csr _), ?_, ?_,
    hword (by simp only [SEQ_SLOTs_LEN]; omega) (by simp only [SEQ_SLOTs_LEN]; omega),
    hword (by simp only [SEQ_SLOTs_KV]; omega) (by simp only [SEQ_SLOTs_KV]; omega),
    ht.releasing.trans hnear.releasing, ht.sync.trans hnear.sync⟩
  · exact (State.fld_congr ht.csr _).trans (s.err_seqReject slot cause source scatter)
  · exact (State.fld_congr ht.csr _).trans (s.fld_seqReject slot cause source scatter rfl (show 0 + 3 ≤ 40 by decide))

/-! ## The commands -/

/-- A slot command makes its effect in the states it is for, and is rejected with cause 5 in any other. -/
theorem slotCommand_of {i : Agent → Nat → Instr} {from_ : List Nat} {f : Nat → State → State} {P : State → Nat → State → Prop}
    (he : ∀ s a slot, exec (i a slot) s = slotCommand a slot s from_ (f slot))
    (hP : ∀ s slot t, slot < 256 → (f slot s).SyncView t → P s slot t) : SlotCommand i from_ P := by
  intro a slot s hslot hm ha
  have hexec := exec_allowedSync ((he s a slot).trans (if_neg (by omega))) hm ha
  refine ⟨fun h => ?_, fun h => ?_⟩
  · rw [if_pos (by simpa using h)] at hexec
    exact answerSync_yields hexec fun t honly ht => ⟨hP s slot t hslot ht, honly⟩
  · rw [if_neg (by simpa using h)] at hexec
    exact answerSync_yields hexec fun t honly ht => ⟨State.slotRejected_of_view hslot 5 0 false ht, honly⟩

theorem activate_command : SlotCommand .activate [0] (fun s k t => (s.slotValid k = true → t.slotState k = 1) ∧
    (s.slotValid k = false → s.slotRejected t k 6)) := by
  refine slotCommand_of (fun s a slot => exec_activate s a slot) fun s slot t hslot ht => ⟨fun h => ?_, fun h => ?_⟩
  · rw [if_pos h] at ht
    exact (State.fld_congr ht.csr _).trans (s.slotState_setSlotState slot (by decide))
  · rw [if_neg (by rw [h]; decide)] at ht
    exact State.slotRejected_of_view hslot 6 0 false ht

/-- HOLD and RESUME set STATE and nothing of the slot's LEN word. -/
theorem slotCommand_setState {i : Agent → Nat → Instr} {from_ v : Nat} (hv : v < 8)
    (he : ∀ s a slot, exec (i a slot) s = slotCommand a slot s [from_] (fun s => s.setSlotState slot v)) :
    SlotCommand i [from_] (fun s k t => t.slotState k = v ∧ t.rd (SEQ_SLOTs_LEN k) = s.rd (SEQ_SLOTs_LEN k)) :=
  slotCommand_of he fun s slot t _ ht =>
    ⟨(State.fld_congr ht.csr _).trans (s.slotState_setSlotState slot hv),
      (State.rd_congr ht.csr _).trans (s.rd_setFld_ne _ (by simp only [SEQ_SLOTs_LEN, SEQ_SLOTs_STATE_STATE, SEQ_SLOTs_STATE]; omega))⟩

theorem release_command : SlotCommand .release [1, 2, 3] (fun s k t =>
    (s.fld (SEQ_SLOTs_STATE_INFLIGHT k) = 0 → t.slotState k = 0 ∧ t.releasing.has k = false) ∧
    (s.fld (SEQ_SLOTs_STATE_INFLIGHT k) ≠ 0 → t.slotState k = s.slotState k ∧ t.releasing.has k = true ∧ t.csr = s.csr)) := by
  refine slotCommand_of (fun s a slot => exec_release s a slot) fun s slot t _ ht => ⟨fun h => ?_, fun h => ?_⟩
  · rw [if_pos h] at ht
    exact ⟨(State.fld_congr ht.csr _).trans (s.slotState_setSlotState slot (by decide)),
      (congrArg (NSet.has · slot) ht.releasing).trans (s.slotFree_releasing slot)⟩
  · rw [if_neg h] at ht
    exact ⟨State.fld_congr ht.csr _, (congrArg (NSet.has · slot) ht.releasing).trans (NSet.has_add_same _ _), ht.csr⟩

theorem releaseComplete_yields {k : Nat} {s : State} (hk : k < 256) (hrel : s.releasing.has k = true)
    (hfl : s.fld (SEQ_SLOTs_STATE_INFLIGHT k) = 0) : yields (.releaseComplete k) s (fun t => t.slotState k = 0 ∧
      t.releasing.has k = false ∧ s.onlySync t ∧ ∀ j, j < 256 → j ≠ k → t.slotState j = s.slotState j) := by
  have he := (exec_releaseComplete s k).trans ((if_neg (by omega)).trans (if_pos (by simp [hrel, hfl])))
  exact answerSync_yields he fun t honly ht => ⟨(State.fld_congr ht.csr _).trans (s.slotState_setSlotState k (by decide)),
    (congrArg (NSet.has · k) ht.releasing).trans (s.slotFree_releasing k), honly,
    fun j _ hj => (State.fld_congr ht.csr _).trans (s.slotState_setSlotState_ne k 0 hj)⟩

theorem mark_command : SlotCommand .mark [1, 2] (fun s k t => t.fld (SEQ_SLOTs_STATE_MARK k) = s.fld (SEQ_SLOTs_LEN_LENGTH k) ∧
    t.slotState k = s.slotState k ∧ t.rd (SEQ_SLOTs_LEN k) = s.rd (SEQ_SLOTs_LEN k)) :=
  slotCommand_of (fun s a slot => exec_mark s a slot) fun s slot t _ ht =>
    ⟨(State.fld_congr ht.csr _).trans ((s.fld_setFld_same _ (show 16 + 24 ≤ 64 by decide)).trans
        (Nat.mod_eq_of_lt (s.fld_lt (SEQ_SLOTs_LEN_LENGTH slot)))),
      (State.fld_congr ht.csr _).trans (s.fld_setFld_apart _ rfl (show 16 + 24 ≤ 64 by decide) (.inl (show 0 + 3 ≤ 16 by decide))),
      (State.rd_congr ht.csr _).trans (s.rd_setFld_ne _ (by simp only [SEQ_SLOTs_LEN, SEQ_SLOTs_STATE_MARK, SEQ_SLOTs_STATE]; omega))⟩

/-- A slot whose LENGTH is set to a value of its width reads it, with STATE and EXTENT as they were. -/
theorem State.length_set {s t : State} {slot v : Nat} (hv : v < 2 ^ 24) (ht : (s.setFld (SEQ_SLOTs_LEN_LENGTH slot) v).SyncView t) :
    t.fld (SEQ_SLOTs_LEN_LENGTH slot) = v ∧ t.slotState slot = s.slotState slot ∧
      t.fld (SEQ_SLOTs_LEN_EXTENT slot) = s.fld (SEQ_SLOTs_LEN_EXTENT slot) :=
  ⟨(State.fld_congr ht.csr _).trans ((s.fld_setFld_same v (show 0 + 24 ≤ 64 by decide)).trans (Nat.mod_eq_of_lt hv)),
    (State.fld_congr ht.csr _).trans (s.fld_setFld_other v
      (by simp only [SEQ_SLOTs_STATE_STATE, SEQ_SLOTs_STATE, SEQ_SLOTs_LEN_LENGTH, SEQ_SLOTs_LEN]; omega)),
    (State.fld_congr ht.csr _).trans (s.fld_setFld_apart v rfl (show 0 + 24 ≤ 64 by decide) (.inr (show 0 + 24 ≤ 24 by decide)))⟩

theorem setlen_command (v : Nat) : SlotCommand (fun a k => .setlen a k v) [1, 2] (fun s k t =>
    (v ≤ s.fld (SEQ_SLOTs_LEN_EXTENT k) → t.fld (SEQ_SLOTs_LEN_LENGTH k) = v ∧ t.slotState k = s.slotState k) ∧
    (s.fld (SEQ_SLOTs_LEN_EXTENT k) < v → s.slotRejected t k 5)) := by
  refine slotCommand_of (fun s a slot => exec_setlen s a slot v) fun s slot t hslot ht => ⟨fun h => ?_, fun h => ?_⟩
  · rw [if_pos h] at ht
    obtain ⟨hlen, hstate, -⟩ := State.length_set (lt_of_le_of_lt h (s.fld_lt _)) ht
    exact ⟨hlen, hstate⟩
  · rw [if_neg (by omega)] at ht
    exact State.slotRejected_of_view hslot 5 0 false ht

/-- Settles O27, command by command: each makes its effect from its own states, and `slotCommand_of` gives the rejection from
the others. -/
theorem slotCommands : Obligations.SlotCommands := by
  unfold Obligations.SlotCommands
  exact ⟨activate_command, slotCommand_setState (by decide) (fun s a slot => exec_hold s a slot),
    slotCommand_setState (by decide) (fun s a slot => exec_resume s a slot), release_command,
    fun k s hk hrel hfl => releaseComplete_yields hk hrel hfl, mark_command,
    slotCommand_of (fun s a slot => exec_rewind s a slot) (fun s slot _ _ ht => State.length_set (s.fld_lt (SEQ_SLOTs_STATE_MARK slot)) ht),
    setlen_command⟩

end Sys2Proof.Machine
end

section
/-! PROOFS. The decision of a gather or scatter (O28). -/

namespace Sys2Proof.Machine

/-! ## The end of an operation -/

section
variable (s : State) (o : SeqOp) (void : Bool)

theorem State.opDone_csr : (s.opDone o void).csr = s.csr := by
  unfold State.opDone State.attach
  dsimp only
  split <;> rfl

theorem State.opDone_sync : (s.opDone o void).sync = s.sync := by
  unfold State.opDone State.attach
  dsimp only
  split <;> rfl

theorem State.opDone_ops : (s.opDone o void).ops = s.ops.filter (fun x => x.id ≠ o.id) := by
  unfold State.opDone State.attach
  dsimp only
  split <;> rfl

theorem State.opDone_queue : ((s.opDone o void).tile o.pos).queue = (s.tile o.pos).queue.filter (fun e => e.id ≠ o.entry) := by
  have htiles : (s.opDone o void).tiles = (s.freeEntry o.pos o.entry).tiles := by
    unfold State.opDone State.attach
    dsimp only
    split <;> rfl
  rw [State.tile_congr htiles, State.freeEntry, State.tile_modTile_same]

/-- With EN an operation's end sends the add of its attachment. -/
theorem State.opDone_msgs_sent (h : o.sb.getLsbD 63 = true) : ∃ m, (s.opDone o void).msgs = s.msgs ++ [m] ∧ m.void = void ∧
    m.set = false ∧ m.value = 1 ∧ m.obj = bitsOf o.sb.toNat 44 17 := by
  unfold State.opDone State.attach
  rw [if_pos (show Nat.testBit o.sb.toNat 63 = true from h)]
  exact ⟨_, rfl, rfl, rfl, rfl, rfl⟩

theorem State.opDone_msgs_none (h : o.sb.getLsbD 63 = false) : (s.opDone o void).msgs = s.msgs := by
  unfold State.opDone State.attach
  rw [if_neg (by rw [show Nat.testBit o.sb.toNat 63 = false from h]; decide)]
  rfl
end

/-! ## Accepted and rejected -/

/-- An operation has been accepted: INFLIGHT one up, and the operation holds LENGTH and the four words as they stood. -/
def State.opAccepted (s : State) (o : SeqOp) (t : State) : Prop :=
  t.fld (SEQ_SLOTs_STATE_INFLIGHT o.slot) = s.fld (SEQ_SLOTs_STATE_INFLIGHT o.slot) + 1 ∧ s.onlySync t ∧ t.msgs = s.msgs ∧
  t.ops = s.ops.map (fun x => if x.id = o.id then
    { x with phase := .accepted (s.fld (SEQ_SLOTs_LEN_LENGTH o.slot)) ([s.rd (SEQ_SLOTs_KV o.slot), s.rd (SEQ_SLOTs_LEN o.slot)
                                                                       , s.rd (SEQ_SLOTs_SYNC o.slot), s.rd (SEQ_SLOTs_STATE o.slot)].map (BitVec.ofNat 64)) }
    else x)

/-- An operation has been rejected with a cause: it is gone with its queue entry, ERR and SEQ_ERR_CNT tell, and its attachment
goes out void. -/
def State.opRejected (c : Nat) (s : State) (o : SeqOp) (t : State) : Prop :=
  t.ops = s.ops.filter (fun x => x.id ≠ o.id) ∧ s.onlySync t ∧ t.sync = s.sync ∧
  t.fld (SEQ_SLOTs_STATE_INFLIGHT o.slot) = s.fld (SEQ_SLOTs_STATE_INFLIGHT o.slot) ∧
  t.fld (SEQ_SLOTs_STATE_ERR o.slot) = c ∧ s.countedBy t SEQ_ERR_CNT 1 ∧
  (t.tile o.pos).queue = (s.tile o.pos).queue.filter (fun e => e.id ≠ o.entry) ∧
  (o.sb.getLsbD 63 = true → ∃ m, t.msgs = s.msgs ++ [m] ∧ m.void = true ∧ m.set = false ∧ m.value = 1 ∧
    m.obj = bitsOf o.sb.toNat 44 17) ∧ (o.sb.getLsbD 63 = false → t.msgs = s.msgs)

section
variable {i : Instr} {s : State} {o : SeqOp}

theorem opAccepted_yields (he : exec i s = answerSync s (s.decideOp o)) (hfl : s.fld (SEQ_SLOTs_STATE_INFLIGHT o.slot) < 511)
    (hf : s.opFault o = none) : yields i s (s.opAccepted o) := by
  unfold State.decideOp at he
  rw [hf] at he
  exact answerSync_yields he fun t honly ht =>
    ⟨(State.fld_congr ht.csr _).trans ((s.fld_setFld_same _ (show 7 + 9 ≤ 64 by decide)).trans
    (Nat.mod_eq_of_lt (show _ + 1 < 2 ^ 9 by omega))), honly, ht.msgs, ht.ops⟩

theorem State.opFault_lt {c : Nat} (hf : s.opFault o = some c) : c < 2 ^ 3 := by
  unfold State.opFault at hf
  split_ifs at hf <;> cases hf <;> decide

theorem opRejected_yields {c : Nat} (he : exec i s = answerSync s (s.decideOp o)) (hf : s.opFault o = some c) :
    yields i s (State.opRejected c s o) := by
  unfold State.decideOp at he
  rw [hf] at he
  have hnear := s.near_seqReject o.slot c o.logical o.scatter
  refine answerSync_yields he fun t honly ht => ⟨ht.ops.trans ?_, honly, ht.sync.trans ?_, ?_, ?_, ?_, ?_, fun hen => ?_, fun hen => ?_⟩
  · rw [State.opDone_ops, hnear.ops]
  · rw [State.opDone_sync, hnear.sync]
  · rw [State.fld_congr ht.csr, State.fld_congr (State.opDone_csr _ _ _)]
    exact s.fld_seqReject o.slot c o.logical o.scatter rfl (show 7 + 9 ≤ 40 by decide)
  · rw [State.fld_congr ht.csr, State.fld_congr (State.opDone_csr _ _ _), State.err_seqReject]
    exact Nat.mod_eq_of_lt (State.opFault_lt hf)
  · refine State.countedBy_of_rd (s.countedBy_seqReject o.slot c o.logical o.scatter) ?_
    rw [State.rd_congr ht.csr, State.rd_congr (State.opDone_csr _ _ _)]
  · rw [State.tile_congr ht.tiles, State.opDone_queue, State.tile_congr hnear.tiles]
  · rw [ht.msgs, ← hnear.msgs]
    exact State.opDone_msgs_sent _ o true hen
  · rw [ht.msgs, State.opDone_msgs_none _ o true hen, hnear.msgs]
end

/-! ## The commands -/

/-- The operation that has waited longest on a slot is one of that slot. -/
theorem firstWaiting_ticket {slot : Nat} {o : SeqOp} : ∀ {l : List SeqOp}, firstWaiting slot l = some o → (o.ticket slot).isSome = true
  | [], h => nomatch h
  | x :: l, h => by
    rw [firstWaiting] at h
    split at h
    next => exact firstWaiting_ticket h
    next t hx _ =>
      cases h
      rw [hx]
      rfl
    next t p hx hp =>
      split at h
      · exact firstWaiting_ticket (hp.trans h)
      · cases h
        rw [hx]
        rfl

theorem SeqOp.slot_of_ticket {o : SeqOp} {slot : Nat} (h : (o.ticket slot).isSome = true) : o.slot = slot := by
  unfold SeqOp.ticket at h
  split at h
  · split at h
    · assumption
    · cases h
  · cases h
  · cases h

section
variable {s : State} {n : Nat} {o : SeqOp}

theorem exec_seqOpDecide_eq (ho : s.ops[n]? = some o) (hp : o.phase = .arriving) : exec (.seqOpDecide n) s =
    if s.fld (SEQ_SLOTs_STATE_INFLIGHT o.slot) = 511 ∨ (firstWaiting o.slot s.ops).isSome then
      answerSync s (s.modOp o.id (fun o => { o with phase := .waiting (nextTicket s.ops) }))
    else answerSync s (s.decideOp o) := by
  rw [exec_seqOpDecide, execSeqOpDecide, ho]
  exact if_neg (not_not.mpr hp)

theorem exec_seqOpWaitDecide_eq {slot : Nat} (hs : slot < 256) (ho : firstWaiting slot s.ops = some o) :
    exec (.seqOpWaitDecide slot) s =
      if s.fld (SEQ_SLOTs_STATE_INFLIGHT slot) < 511 then answerSync s (s.decideOp o) else idle s := by
  rw [exec_seqOpWaitDecide, execSeqOpWaitDecide, if_neg (by omega), ho]

theorem seqOpDecide_decides (ho : s.ops[n]? = some o) (hp : o.phase = .arriving)
    (hfl : s.fld (SEQ_SLOTs_STATE_INFLIGHT o.slot) < 511) (hw : firstWaiting o.slot s.ops = none) :
    exec (.seqOpDecide n) s = answerSync s (s.decideOp o) :=
  (exec_seqOpDecide_eq ho hp).trans (if_neg (by rw [hw]; simpa using hfl.ne))

theorem seqOpDecide_waits (ho : s.ops[n]? = some o) (hp : o.phase = .arriving)
    (h : s.fld (SEQ_SLOTs_STATE_INFLIGHT o.slot) = 511 ∨ (firstWaiting o.slot s.ops).isSome = true) :
    yields (.seqOpDecide n) s (fun t => t.csr = s.csr ∧ t.msgs = s.msgs ∧ s.onlySync t ∧
      t.ops = s.ops.map (fun x => if x.id = o.id then { x with phase := .waiting (nextTicket s.ops) } else x)) :=
  answerSync_yields ((exec_seqOpDecide_eq ho hp).trans (if_pos h)) fun _ honly ht => ⟨ht.csr, ht.msgs, honly, ht.ops⟩
end

/-- Settles O28: an operation that arrives or has waited longest is decided by `State.decideOp`, or waits. -/
theorem seqDecisions : Obligations.SeqDecisions := by
  unfold Obligations.SeqDecisions
  refine ⟨fun s n o ho hp => ⟨seqOpDecide_waits ho hp,
    fun hfl hw hf => opAccepted_yields (seqOpDecide_decides ho hp hfl hw) hfl hf,
    fun c hfl hw hf => opRejected_yields (seqOpDecide_decides ho hp hfl hw) hf⟩, fun s slot o hs ho => ?_⟩
  have he := exec_seqOpWaitDecide_eq hs ho
  have hslot : o.slot = slot := SeqOp.slot_of_ticket (firstWaiting_ticket ho)
  exact ⟨fun hfl hf => opAccepted_yields (he.trans (if_pos hfl)) (by rw [hslot]; exact hfl) hf,
    fun c hfl hf => opRejected_yields (he.trans (if_pos hfl)) hf, fun hfl => he.trans (if_neg (by omega))⟩

end Sys2Proof.Machine
end

section
/-! PROOFS. Messages, commands on objects and watches (O26). -/

namespace Sys2Proof.Machine

/-! ## What the sync stores read of the panel -/

/-- Of the control-space words, only those of the sequence unit and the groves' counts of delayed messages differ. -/
def State.OnlySeqWords (s t : State) : Prop :=
  ∀ r : Reg, r.addr % 0x100000 ≠ 0xE0080 → (r.addr < 0x500000000 ∨ 0x500010000 ≤ r.addr) → t.rd r = s.rd r

namespace State.OnlySeqWords

theorem refl (s : State) : s.OnlySeqWords s := fun _ _ _ => rfl

variable {s t u : State}

theorem of_csr (h : t.csr = s.csr) : s.OnlySeqWords t := fun r _ _ => State.rd_congr h r

theorem wr (s : State) {r : Reg} (v : Nat) (h : 0x500000000 ≤ r.addr ∧ r.addr < 0x500010000) : s.OnlySeqWords (s.wr r v) :=
  fun _ _ hq => s.rd_wr_ne v (by omega)

variable (h : s.OnlySeqWords t)
include h

theorem trans (k : t.OnlySeqWords u) : s.OnlySeqWords u := fun r hr hq => (k r hr hq).trans (h r hr hq)

theorem rd_tile {q a : Nat} {rst : W64} (ha : a % 0x100000 ≠ 0xE0080) (hb : 0x10000 ≤ a % 0x100000) :
    t.rd ⟨tileBase q + a, rst⟩ = s.rd ⟨tileBase q + a, rst⟩ := by
  have hq := tileBase_mod q
  exact h _ (by dsimp only; omega) (by dsimp only; omega)

theorem posOf (l : Nat) : t.posOf l = s.posOf l := by
  unfold State.posOf
  split
  next hl =>
    unfold State.mapEntry State.elem
    rw [h _ (by simp only [DESC_POS_MAP]; omega) (by simp only [DESC_POS_MAP]; omega)]
  · rfl

/-- A field of a partition's first words. -/
theorem fld_part {p : Nat} (hp : p < 16) {f : Field} (hf : partBase p ≤ f.reg.addr ∧ f.reg.addr ≤ partBase p + 0x30) :
    t.fld f = s.fld f :=
  State.fld_of_rd (h _ (by unfold partBase at hf; omega) (by unfold partBase at hf; omega))

theorem partState {p : Nat} (hp : p < 16) : t.partState p = s.partState p :=
  h.fld_part hp (by simp only [MGMT_PARTp_STATUS_STATE, MGMT_PARTp_STATUS]; omega)

theorem partExists (p : Nat) : t.partExists p = s.partExists p := by
  unfold State.partExists
  by_cases hp : p < 16
  · rw [h.partState hp]
  · simp [hp]

theorem partOf (q : Nat) : t.partOf q = s.partOf q := by
  unfold State.partOf State.partOfGrove
  refine List.find?_congr fun p hp => ?_
  rw [h.partExists, h.fld_part (List.mem_range.mp hp) (by simp only [MGMT_PARTp_CFG_GRVS, MGMT_PARTp_CFG]; omega)]

theorem syncOwner (o : Nat) : t.syncOwner o = s.syncOwner o := by
  unfold State.syncOwner
  rw [h.posOf, h.partExists, funext h.partOf]

end State.OnlySeqWords

/-! ## A watch written and fired -/

theorem State.flag_setFld_one (s : State) {f : Field} (hlen : f.len = 1) (h : f.lo + f.len ≤ 64) : (s.setFld f 1).flag f = true := by
  have hfld := s.fld_setFld_same 1 h
  rw [hlen] at hfld
  exact decide_eq_true hfld

/-- Whether a watch fires: it is armed, and its object has an owner and has reached its threshold (R151). -/
def State.watchFires (s : State) (w : Nat) : Bool :=
  s.flag (SEQ_WATCHw_ARM w) && (s.syncOwner (s.fld (SEQ_WATCHw_OBJ w))).isSome
    && reached (s.obj (s.fld (SEQ_WATCHw_OBJ w))).count (BitVec.ofNat 32 (s.fld (SEQ_WATCHw_THRESH w)))

section
variable {s : State} {w : Nat}

theorem State.fireWatch_fires (h : s.watchFires w = true) :
    s.fireWatch w = ((s.setFld (SEQ_WATCHw_FIRED w) 1).setFld (SEQ_WATCHw_ARM w) 0).irq w := if_pos h

theorem State.fireWatch_rests (h : s.watchFires w = false) : s.fireWatch w = s := by
  unfold State.watchFires at h
  unfold State.fireWatch
  dsimp only
  rw [if_neg (by rw [h]; decide)]

/-- A watch writes its word alone. -/
theorem State.rd_fireWatch {r : Reg} (h : r.addr ≠ (SEQ_WATCHw w).addr) : (s.fireWatch w).rd r = s.rd r := by
  cases hf : s.watchFires w with
  | false => rw [State.fireWatch_rests hf]
  | true =>
    rw [State.fireWatch_fires hf, State.rd_congr (State.irq_csr _ _), State.rd_setFld_ne _ _ h, State.rd_setFld_ne _ _ h]

theorem State.fireWatch_sync : (s.fireWatch w).sync = s.sync := by
  cases hf : s.watchFires w with
  | false => rw [State.fireWatch_rests hf]
  | true => rw [State.fireWatch_fires hf, State.irq_sync, State.setFld_sync, State.setFld_sync]

/-- OBJ and THRESH of a watch stay. -/
theorem State.fld_fireWatch {f : Field} (hr : f.reg = SEQ_WATCHw w) (hlo : f.lo + f.len ≤ 17 ∨ 19 ≤ f.lo) :
    (s.fireWatch w).fld f = s.fld f := by
  cases hf : s.watchFires w with
  | false => rw [State.fireWatch_rests hf]
  | true =>
    rw [State.fireWatch_fires hf, State.fld_congr (State.irq_csr _ _),
      State.fld_setFld_apart _ (f := SEQ_WATCHw_ARM w) (g := f) _ hr (show 17 + 1 ≤ 64 by decide)
        (show f.lo + f.len ≤ 17 ∨ 17 + 1 ≤ f.lo by omega),
      State.fld_setFld_apart _ (f := SEQ_WATCHw_FIRED w) (g := f) _ hr (show 18 + 1 ≤ 64 by decide)
        (show f.lo + f.len ≤ 18 ∨ 18 + 1 ≤ f.lo by omega)]

theorem State.flags_fireWatch (h : s.watchFires w = true) :
    (s.fireWatch w).flag (SEQ_WATCHw_FIRED w) = true ∧ (s.fireWatch w).flag (SEQ_WATCHw_ARM w) = false := by
  rw [State.fireWatch_fires h, State.flag_congr (State.irq_csr _ _), State.flag_congr (State.irq_csr _ _)]
  refine ⟨?_, State.flag_setFld_zero _ (show 17 + 1 ≤ 64 by decide)⟩
  rw [State.flag, State.fld_setFld_apart _ (f := SEQ_WATCHw_ARM w) (g := SEQ_WATCHw_FIRED w) _ rfl (show 17 + 1 ≤ 64 by decide)
    (.inr (show 17 + 1 ≤ 18 by decide))]
  exact State.flag_setFld_one _ rfl (show 18 + 1 ≤ 64 by decide)
end

section
variable (s : State) (w : Nat) (v : W64) (arm : Bool)

theorem State.near_writeWatch : s.Near (s.writeWatch w v arm) :=
  (State.Near.ite (Nat.testBit v.toNat 18 = true)
    ((State.Near.ite (s.flag (SEQ_WATCHw_ARM w) = true) s.near_refl ((s.near_refl.setFld _ _).setFld _ _)).setFld _ _)
    (State.Near.ite (s.flag (SEQ_WATCHw_ARM w) = true) s.near_refl ((s.near_refl.setFld _ _).setFld _ _))).setFld _ _

theorem State.rd_writeWatch {r : Reg} (h : r.addr ≠ (SEQ_WATCHw w).addr) : (s.writeWatch w v arm).rd r = s.rd r := by
  have hset : (if s.flag (SEQ_WATCHw_ARM w) then s else (s.setFld (SEQ_WATCHw_OBJ w) (bitsOf v.toNat 0 17)).setFld
      (SEQ_WATCHw_THRESH w) (bitsOf v.toNat 32 32)).rd r = s.rd r := by
    split
    · rfl
    · exact (State.rd_setFld_ne _ (f := SEQ_WATCHw_THRESH w) _ h).trans (s.rd_setFld_ne (f := SEQ_WATCHw_OBJ w) _ h)
  refine (State.rd_setFld_ne _ (f := SEQ_WATCHw_ARM w) _ h).trans ?_
  split
  · exact (State.rd_setFld_ne _ (f := SEQ_WATCHw_FIRED w) _ h).trans hset
  · exact hset

theorem State.arm_writeWatch : (s.writeWatch w v arm).flag (SEQ_WATCHw_ARM w) = arm := by
  cases arm with
  | false => exact State.flag_setFld_zero _ (show 17 + 1 ≤ 64 by decide)
  | true => exact State.flag_setFld_one _ rfl (show 17 + 1 ≤ 64 by decide)

/-- A word written while ARM is 0 takes OBJ and THRESH; FIRED that reads 0 goes on reading 0. -/
theorem State.writeWatch_disarmed (harm : s.flag (SEQ_WATCHw_ARM w) = false) :
    (s.writeWatch w v arm).fld (SEQ_WATCHw_OBJ w) = bitsOf v.toNat 0 17 ∧
    (s.writeWatch w v arm).fld (SEQ_WATCHw_THRESH w) = bitsOf v.toNat 32 32 ∧
    (s.flag (SEQ_WATCHw_FIRED w) = false → (s.writeWatch w v arm).flag (SEQ_WATCHw_FIRED w) = false) := by
  have hapart {x y : State} {f : Field} {n : Nat} (hy : y = x.setFld (SEQ_WATCHw_ARM w) n) (hr : f.reg = SEQ_WATCHw w)
      (hlo : f.lo + f.len ≤ 17 ∨ 17 + 1 ≤ f.lo) : y.fld f = x.fld f := by
    rw [hy]
    exact State.fld_setFld_apart _ _ hr (show 17 + 1 ≤ 64 by decide) hlo
  have hfired {x : State} {f : Field} (hr : f.reg = SEQ_WATCHw w) (hlo : f.lo + f.len ≤ 18 ∨ 18 + 1 ≤ f.lo) :
      (if Nat.testBit v.toNat 18 then x.setFld (SEQ_WATCHw_FIRED w) 0 else x).fld f = x.fld f := by
    split
    · exact State.fld_setFld_apart _ _ hr (show 18 + 1 ≤ 64 by decide) hlo
    · rfl
  have heq : s.writeWatch w v arm = (if Nat.testBit v.toNat 18 then ((s.setFld (SEQ_WATCHw_OBJ w) (bitsOf v.toNat 0 17)).setFld
      (SEQ_WATCHw_THRESH w) (bitsOf v.toNat 32 32)).setFld (SEQ_WATCHw_FIRED w) 0 else (s.setFld (SEQ_WATCHw_OBJ w)
      (bitsOf v.toNat 0 17)).setFld (SEQ_WATCHw_THRESH w) (bitsOf v.toNat 32 32)).setFld (SEQ_WATCHw_ARM w) arm.toNat := by
    unfold State.writeWatch
    rw [if_neg (by rw [harm]; decide)]
  refine ⟨?_, ?_, fun hf => ?_⟩
  · rw [hapart heq rfl (.inl (show 0 + 17 ≤ 17 by decide)), hfired rfl (.inl (show 0 + 17 ≤ 18 by decide)),
      State.fld_setFld_apart _ (f := SEQ_WATCHw_THRESH w) (g := SEQ_WATCHw_OBJ w) _ rfl (show 32 + 32 ≤ 64 by decide)
        (.inl (show 0 + 17 ≤ 32 by decide)),
      State.fld_setFld_same _ _ (show 0 + 17 ≤ 64 by decide)]
    exact Nat.mod_eq_of_lt (bitsOf_lt _ _ _)
  · rw [hapart heq rfl (.inr (show 17 + 1 ≤ 32 by decide)), hfired rfl (.inr (show 18 + 1 ≤ 32 by decide)),
      State.fld_setFld_same _ _ (show 32 + 32 ≤ 64 by decide)]
    exact Nat.mod_eq_of_lt (bitsOf_lt _ _ _)
  · rw [State.flag, hapart heq rfl (.inr (show 17 + 1 ≤ 18 by decide))]
    split
    · exact State.flag_setFld_zero _ (show 18 + 1 ≤ 64 by decide)
    · rw [State.fld_setFld_apart _ (f := SEQ_WATCHw_THRESH w) (g := SEQ_WATCHw_FIRED w) _ rfl (show 32 + 32 ≤ 64 by decide)
          (.inl (show 18 + 1 ≤ 32 by decide)),
        State.fld_setFld_apart _ (f := SEQ_WATCHw_OBJ w) (g := SEQ_WATCHw_FIRED w) _ rfl (show 0 + 17 ≤ 64 by decide)
          (.inr (show 0 + 17 ≤ 18 by decide))]
      exact hf
end

/-! ## Messages -/

section
variable {s : State} {m : SyncMsg}

theorem syncNack_holds {n : Nat} (hm : s.msgs[n]? = some m) (hp : m.phase = .flying) (hg : s.guardMet m.guard_ = true)
    (hh : s.homeOf m = .fenced) : yields (.syncNack n) s (fun t =>
      t = { s with msgs := replaceAt s.msgs n { m with phase := .held (s.hereNow m.pos) (s.copyEntry m.pos (m.obj / 256)) } }) := by
  refine ⟨_, ?_, rfl⟩
  rw [exec_syncNack, execSyncNack, hm]
  exact if_pos ⟨hp, hg, hh⟩

theorem syncAddResend_sends {n since entry : Nat} (hm : s.msgs[n]? = some m) (hp : m.phase = .held since entry) :
    yields (.syncAddResend n) s (fun t => t.msgs = replaceAt s.msgs n { m with phase := .flying } ∧ t.sync = s.sync ∧
      (s.copyEntry m.pos (m.obj / 256) ≠ entry → t.clk = s.clk) ∧
      (s.copyEntry m.pos (m.obj / 256) = entry → since + 1024 ≤ t.cycle (groveOf m.pos))) := by
  unfold yields
  rw [exec_syncAddResend, execSyncAddResend, hm]
  dsimp only
  rw [hp]
  by_cases h : s.copyEntry m.pos (m.obj / 256) = entry
  · simp only [if_neg (not_not.mpr h)]
    exact ⟨_, rfl, rfl, rfl, fun hne => absurd h hne, fun _ => s.cycle_atCycle _ _⟩
  · simp only [if_pos h]
    exact ⟨_, rfl, rfl, rfl, fun _ => rfl, fun he => absurd he h⟩
end

/-! ## Commands on an object -/

/-- A command has sent one add or set, for the partition that owns the object. -/
def State.commandSent (s : State) (o : Nat) (v : W32) (set : Bool) (t : State) : Prop :=
  s.onlySync t ∧ t.sync = s.sync ∧ ∃ m, t.msgs = s.msgs ++ [m] ∧ m.set = set ∧ m.obj = o ∧ m.value = v ∧ m.kind = 3 ∧
    m.void = false ∧ ∀ p, s.syncOwner o = some p → m.part = p

section
variable {a : Agent} {o : Nat} {v : W32} {s : State}

theorem syncCmd_sends {i : Instr} {set : Bool} (he : exec i s = allowedSync a (syncAddr o) s (fun s => s.syncCmd a set o v))
    (hm : s.mute a (syncAddr o) = false) (ha : s.mayWrite a .tile = true) : yields i s (s.commandSent o v set) :=
  answerSync_yields (exec_allowedSync he hm ha) fun _ honly ht => ⟨honly, ht.sync, _, ht.msgs, rfl, rfl, rfl, rfl, rfl, fun p hp => by
    rw [hp]
    rfl⟩

theorem exec_syncCmdClearFlags_eq (ho : o < 131072) : exec (.syncCmdClearFlags a o v) s = allowedSync a (syncAddr o) s (fun s =>
    if v ≠ 0 then s.decodeFault true (syncAddr o)
    else s.setObj o { s.obj o with short := false, void := false, shortBy := 0 }) :=
  (exec_syncCmdClearFlags s a o v).trans (if_neg (by omega))

@[simp] theorem State.obj_setObj_same (s : State) (o : Nat) (x : SyncObj) : (s.setObj o x).obj o = x := SMap.get_put_same _ _ _ _

theorem State.obj_setObj_ne (s : State) {o q : Nat} (x : SyncObj) (h : q ≠ o) : (s.setObj o x).obj q = s.obj q :=
  SMap.get_put_ne _ _ _ _ h

theorem State.obj_congr {s t : State} (h : t.sync = s.sync) (o : Nat) : t.obj o = s.obj o := by
  rw [State.obj, State.obj, h]

theorem syncCmdClearFlags_clears (ho : o < 131072) (hm : s.mute a (syncAddr o) = false) (ha : s.mayWrite a .tile = true) (hv : v = 0) :
    yields (.syncCmdClearFlags a o v) s (fun t => (t.obj o).short = false ∧ (t.obj o).void = false ∧
      (t.obj o).shortBy = 0 ∧ (t.obj o).count = (s.obj o).count ∧ (∀ q, q ≠ o → t.obj q = s.obj q) ∧ t.msgs = s.msgs) := by
  have he := exec_allowedSync (exec_syncCmdClearFlags_eq (v := v) ho) hm ha
  rw [if_neg (not_not.mpr hv)] at he
  refine answerSync_yields he fun t _ ht => ?_
  rw [State.obj_congr ht.sync, State.obj_setObj_same]
  exact ⟨rfl, rfl, rfl, rfl, fun q hq => (State.obj_congr ht.sync q).trans (s.obj_setObj_ne _ hq), ht.msgs⟩

theorem syncCmdClearFlags_faults (ho : o < 131072) (hm : s.mute a (syncAddr o) = false) (ha : s.mayWrite a .tile = true) (hv : v ≠ 0) :
    yields (.syncCmdClearFlags a o v) s (fun t => s.refusedWrite t) := by
  have he := exec_allowedSync (exec_syncCmdClearFlags_eq (v := v) ho) hm ha
  rw [if_pos hv] at he
  exact decodeFault_answerSync he
end

/-! ## Commands on a watch -/

section
variable {a : Agent} {w : Nat} {v : W64} {s : State} (hw : w < 64) (hm : s.mute a (SEQ_WATCHw w).addr = false)
  (ha : s.mayWrite a .tile = true)
include hw hm ha

theorem seqWatchDisarm_yields :
    yields (.seqWatchDisarm a w v) s (fun t => t.flag (SEQ_WATCHw_ARM w) = false ∧ t.sync = s.sync ∧ s.onlySync t) :=
  answerSync_yields (exec_allowedSync ((exec_seqWatchDisarm s a w v).trans (if_neg (by omega))) hm ha) fun _ honly ht =>
    ⟨(State.flag_congr ht.csr _).trans (s.arm_writeWatch w v false), ht.sync.trans (s.near_writeWatch w v false).sync, honly⟩

theorem seqWatchArm_yields (harm : s.flag (SEQ_WATCHw_ARM w) = false) (hfired : s.flag (SEQ_WATCHw_FIRED w) = false) :
    let fires := (s.syncOwner (v.toNat % 2 ^ 17)).isSome && reached (s.obj (v.toNat % 2 ^ 17)).count ((v >>> 32).setWidth 32)
    yields (.seqWatchArm a w v) s (fun t =>
      t.fld (SEQ_WATCHw_OBJ w) = v.toNat % 2 ^ 17 ∧ t.fld (SEQ_WATCHw_THRESH w) = v.toNat / 2 ^ 32 ∧
      t.flag (SEQ_WATCHw_ARM w) = !fires ∧ t.flag (SEQ_WATCHw_FIRED w) = fires ∧ t.sync = s.sync ∧ s.onlySync t) := by
  intro fires
  obtain ⟨hobj, hthresh, hunfired⟩ := s.writeWatch_disarmed w v true harm
  have hnear := s.near_writeWatch w v true
  have hwords : s.OnlySeqWords (s.writeWatch w v true) := fun r _ hr =>
    s.rd_writeWatch w v true (by simp only [SEQ_WATCHw]; omega)
  have hfires : (s.writeWatch w v true).watchFires w = fires := by
    unfold State.watchFires
    rw [s.arm_writeWatch w v true, hobj, hthresh, hwords.syncOwner, State.obj_congr hnear.sync, bitsOf_zero_eq_mod, ofNat_bitsOf]
    rfl
  refine answerSync_yields (exec_allowedSync ((exec_seqWatchArm s a w v).trans (if_neg (by omega))) hm ha) fun t honly ht =>
    ⟨?_, ?_, ?_, ?_, ht.sync.trans (State.fireWatch_sync.trans hnear.sync), honly⟩
  · rw [State.fld_congr ht.csr, State.fld_fireWatch rfl (.inl (show 0 + 17 ≤ 17 by decide)), hobj, bitsOf_zero_eq_mod]
  · rw [State.fld_congr ht.csr, State.fld_fireWatch rfl (.inr (show 19 ≤ 32 by decide)), hthresh, bitsOf_eq]
    exact Nat.mod_eq_of_lt (by have hv := v.isLt; omega)
  · rw [State.flag_congr ht.csr]
    cases hf : fires with
    | false => rw [State.fireWatch_rests (hfires.trans hf), s.arm_writeWatch w v true]; rfl
    | true => exact (State.flags_fireWatch (hfires.trans hf)).2
  · rw [State.flag_congr ht.csr]
    cases hf : fires with
    | false => rw [State.fireWatch_rests (hfires.trans hf)]; exact hunfired hfired
    | true => exact (State.flags_fireWatch (hfires.trans hf)).1
end

/-- Settles O26: a NACKed message and its resend, the commands on an object, and the commands on a watch. -/
theorem syncMessages : Obligations.SyncMessages := by
  unfold Obligations.SyncMessages
  refine ⟨fun n s m hm hp hg hh => syncNack_holds hm hp hg hh, fun n since entry s m hm hp => syncAddResend_sends hm hp,
    fun a o v s ho hm => ?_, fun a w v s hw hm ha => ⟨seqWatchDisarm_yields hw hm ha, seqWatchArm_yields hw hm ha⟩⟩
  have hset := (exec_syncCmdSet s a o v).trans (if_neg (by omega))
  have hadd := (exec_syncCmdAdd s a o v).trans (if_neg (by omega))
  exact ⟨fun ha => ⟨⟨syncCmd_sends hset hm ha, syncCmd_sends hadd hm ha⟩, syncCmdClearFlags_clears ho hm ha,
      syncCmdClearFlags_faults ho hm ha⟩,
    fun ha => ⟨allowedSync_refused hadd hm ha, allowedSync_refused hset hm ha,
      allowedSync_refused (exec_syncCmdClearFlags_eq ho) hm ha⟩⟩

end Sys2Proof.Machine
end

section
/-! PROOFS. Adds and sets at their home: how a message ends (O25). -/

namespace Sys2Proof.Machine

/-! ## What decides a message -/

theorem State.partOf_lt {s : State} {q p : Nat} (h : s.partOf q = some p) : p < 16 := by
  unfold State.partOf State.partOfGrove at h
  exact List.mem_range.mp (List.mem_of_find?_eq_some h)

theorem State.syncOwner_lt {s : State} {o p : Nat} (h : s.syncOwner o = some p) : p < 16 := by
  unfold State.syncOwner at h
  split at h
  · obtain ⟨q, -, hpart⟩ := Option.bind_eq_some_iff.mp h
    exact State.partOf_lt hpart
  · split at h
    next hex =>
      cases h
      simp only [State.partExists, Bool.and_eq_true, decide_eq_true_eq] at hex
      exact hex.1
    · cases h

namespace State.OnlySeqWords

variable {s t : State} (h : s.OnlySeqWords t)
include h

theorem copyPos (q l : Nat) : t.copyPos q l = s.copyPos q l := by
  unfold State.copyPos
  split
  next hl =>
    unfold State.copyEntry State.elem TILE_NET_MAP
    rw [Nat.add_assoc, h.rd_tile (by omega) (by omega)]
  · rfl

theorem routerUp (q : Nat) : t.routerUp q = s.routerUp q := by
  unfold State.routerUp
  by_cases hq : q < 576
  · have hg := grvBase_mod (groveOf q)
    have hstatus : t.status q = s.status q := by
      unfold State.status State.elem
      rw [h _ (by simp only [DESC_POS_STATUS]; omega) (by simp only [DESC_POS_STATUS]; omega)]
    have hclk : t.clkState (groveOf q) = s.clkState (groveOf q) := State.fld_of_rd
      (h _ (by simp only [GRV_CLK_STATUS_STATE, GRV_CLK_STATUS]; omega) (by simp only [GRV_CLK_STATUS_STATE, GRV_CLK_STATUS]; omega))
    rw [hstatus, hclk]
  · simp [hq]

theorem homeOf (m : SyncMsg) : t.homeOf m = s.homeOf m := by
  unfold State.homeOf
  rw [h.copyPos]
  split
  · rfl
  · cases s.copyPos m.pos (m.obj / 256) with
    | none => rfl
    | some q => simp only [h.routerUp]

theorem syncFault (m : SyncMsg) : t.syncFault m = s.syncFault m := by
  unfold State.syncFault
  rw [h.syncOwner]
  cases ho : s.syncOwner m.obj with
  | none => rfl
  | some p =>
    have hreset : t.underReset p = s.underReset p := by
      rw [State.underReset, State.underReset, h.partState (State.syncOwner_lt ho)]
    dsimp only
    rw [hreset]

end State.OnlySeqWords

/-! ## A message taken out -/

/-- Message `i` is over: out of the list, and besides only counts of delayed messages, sync errors, records, objects and posted
operations may differ. -/
structure State.MsgOver (s t : State) (i : Nat) : Prop where
  clk : t.clk = s.clk
  msgs : t.msgs = removeAt s.msgs i
  stall : ∀ key, (t.core key).stall = (s.core key).stall
  rd : ∀ r : Reg, r.addr % 0x100000 ≠ 0xE0080 → r.addr ≠ SEQ_SYNCERR_CNT.addr → r.addr ≠ SEQ_SYNCERR_CAP.addr →
    t.rd r = s.rd r

theorem State.MsgOver.words {s t : State} {i : Nat} (h : s.MsgOver t i) : s.OnlySeqWords t := fun r hr hq =>
  h.rd r hr (by simp only [SEQ_SYNCERR_CNT]; omega) (by simp only [SEQ_SYNCERR_CAP]; omega)

theorem State.MsgOver.watch {s t : State} {i : Nat} (h : s.MsgOver t i) {w : Nat} (hw : w < 64) :
    t.rd (SEQ_WATCHw w) = s.rd (SEQ_WATCHw w) :=
  h.rd _ (by simp only [SEQ_WATCHw]; omega) (by simp only [SEQ_WATCHw, SEQ_SYNCERR_CNT]; omega)
    (by simp only [SEQ_WATCHw, SEQ_SYNCERR_CAP]; omega)

/-- Counting delays changes the counters of the groves (R190). -/
theorem State.delays_parts (l : List Nat) (s : State) : s.Near (l.foldl State.delayedAt s) ∧
    ∀ r : Reg, r.addr % 0x100000 ≠ 0xE0080 → (l.foldl State.delayedAt s).rd r = s.rd r := by
  induction l generalizing s with
  | nil => exact ⟨s.near_refl, fun _ _ => rfl⟩
  | cons q l ih =>
    obtain ⟨hnear, hrd⟩ := ih (s.delayedAt q)
    refine ⟨(s.near_refl.count _ _).trans hnear, fun r hr => (hrd r hr).trans (s.rd_count_ne _ _ ?_)⟩
    have hg := grvBase_mod (groveOf q)
    simp only [GRV_CNET_SYNCDLY_CNT]
    omega

theorem Core.performed_stall (c : Core) (t id : Nat) : (c.performed t id).stall = c.stall := rfl

section
variable (s : State) (i : Nat) (m : SyncMsg)

theorem State.msgDone_parts : (s.msgDone i m).clk = s.clk ∧ (s.msgDone i m).sync = s.sync ∧
    (s.msgDone i m).msgs = removeAt s.msgs i ∧ (∀ key, ((s.msgDone i m).core key).stall = (s.core key).stall) ∧
    ∀ r : Reg, r.addr % 0x100000 ≠ 0xE0080 → (s.msgDone i m).rd r = s.rd r := by
  obtain ⟨hnear, hrd⟩ := State.delays_parts (s.delayNodes i m) s
  unfold State.msgDone
  cases m.ends with
  | none => exact ⟨hnear.clk, hnear.sync, rfl, fun key => congrArg Core.stall (State.core_congr hnear.cores key), hrd⟩
  | some x =>
    refine ⟨hnear.clk, hnear.sync, rfl, fun key => ?_, hrd⟩
    have hcore : ((s.delayNodes i m).foldl State.delayedAt s).core key = s.core key := State.core_congr hnear.cores key
    dsimp only [State.posted]
    by_cases hk : key = x.1
    · subst hk
      rw [State.core_modCore_same, Core.performed_stall]
      exact congrArg Core.stall hcore
    · rw [State.core_modCore_ne _ _ hk]
      exact congrArg Core.stall hcore

/-- An object once a message has been applied to it. -/
def State.objAfter : SyncObj :=
  if m.set then { s.obj m.obj with count := m.value }
  else { s.obj m.obj with count := (s.obj m.obj).count + m.value, void := (s.obj m.obj).void || m.void }

theorem State.objAfter_parts : (s.objAfter m).count = (if m.set = true then m.value else (s.obj m.obj).count + m.value) ∧
    (s.objAfter m).short = (s.obj m.obj).short ∧ (s.objAfter m).void = ((s.obj m.obj).void || (!m.set && m.void)) := by
  unfold State.objAfter
  cases m.set <;> simp

theorem State.applyMsg_taken (hh : s.homeOf m ≠ .none) (hf : s.syncFault m = none) : s.applyMsg i m =
    if m.void then ((s.setObj m.obj (s.objAfter m)).msgDone i m).flagRecord m.obj false
    else (s.setObj m.obj (s.objAfter m)).msgDone i m := by
  unfold State.applyMsg
  rw [if_neg hh, hf]
  rfl

theorem State.applyMsg_discarded (h : s.homeOf m = .none ∨ (s.syncFault m).isSome = true) :
    ∃ c, s.applyMsg i m = (s.syncError m c).msgDone i m := by
  unfold State.applyMsg
  by_cases hh : s.homeOf m = .none
  · rw [if_pos hh]
    exact ⟨0, rfl⟩
  · obtain ⟨c, hc⟩ := Option.isSome_iff_exists.mp (h.resolve_left hh)
    rw [if_neg hh, hc]
    exact ⟨c, rfl⟩

/-- A message at its home is applied to its object, or discarded and counted. -/
theorem State.applyMsg_over : s.MsgOver (s.applyMsg i m) i ∧
    (s.homeOf m ≠ .none → s.syncFault m = none → (s.applyMsg i m).sync = (s.setObj m.obj (s.objAfter m)).sync) ∧
    (s.homeOf m = .none ∨ (s.syncFault m).isSome = true → (s.applyMsg i m).sync = s.sync ∧
      s.countedBy (s.applyMsg i m) SEQ_SYNCERR_CNT 1) := by
  by_cases h : s.homeOf m = .none ∨ (s.syncFault m).isSome = true
  · obtain ⟨c, hc⟩ := s.applyMsg_discarded i m h
    rw [hc]
    have hnear : s.Near (s.syncError m c) := (s.near_refl.count _ _).capture _ _ _ _
    obtain ⟨hclk, hsync, hmsgs, hstall, hrd⟩ := (s.syncError m c).msgDone_parts i m
    refine ⟨⟨hclk.trans hnear.clk, hmsgs.trans (by rw [hnear.msgs]), fun key => (hstall key).trans
      (congrArg Core.stall (State.core_congr hnear.cores key)), fun r hr hcnt hcap => (hrd r hr).trans
      ((State.rd_capture_ne _ _ _ _ hcap).trans (s.rd_count_ne _ _ hcnt))⟩, fun hh hf => ?_, fun _ => ⟨hsync.trans hnear.sync, ?_⟩⟩
    · exact absurd h (by rw [hf]; simpa using hh)
    · refine State.countedBy_of_rd (s.countedBy_count (seqCounter SEQ_SYNCERR_CNT (srcDev 7)) 1) ((hrd _ (by decide)).trans ?_)
      exact State.rd_capture_ne _ _ _ _ (by decide)
  · obtain ⟨hh, hf⟩ := not_or.mp h
    have hnone : s.syncFault m = none := by simpa using hf
    obtain ⟨hclk, hsync, hmsgs, hstall, hrd⟩ := (s.setObj m.obj (s.objAfter m)).msgDone_parts i m
    rw [s.applyMsg_taken i m hh hnone]
    refine ⟨?_, fun _ _ => ?_, fun hd => absurd hd h⟩
    · cases m.void <;> exact ⟨hclk, hmsgs, hstall, fun r hr _ _ => hrd r hr⟩
    · cases m.void <;> exact hsync

/-- However a message ends, no object but its own changes. -/
theorem State.obj_applyMsg_ne {q : Nat} (hq : q ≠ m.obj) : (s.applyMsg i m).obj q = s.obj q := by
  obtain ⟨-, htaken, hdiscarded⟩ := s.applyMsg_over i m
  by_cases h : s.homeOf m = .none ∨ (s.syncFault m).isSome = true
  · exact State.obj_congr (hdiscarded h).1 q
  · obtain ⟨hh, hf⟩ := not_or.mp h
    exact (State.obj_congr (htaken hh (by simpa using hf)) q).trans (s.obj_setObj_ne _ hq)

theorem State.obj_applyMsg (hh : s.homeOf m ≠ .none) (hf : s.syncFault m = none) : (s.applyMsg i m).obj m.obj = s.objAfter m :=
  (State.obj_congr ((s.applyMsg_over i m).2.1 hh hf) _).trans (s.obj_setObj_same _ _)
end

end Sys2Proof.Machine
end

section
/-! PROOFS. Adds and sets at their home: what a changed count releases, and the commands (O25). -/

namespace Sys2Proof.Machine

/-! ## Waits released -/

/-- A core whose wait on an object has been reached, released for a cycle. -/
def Core.released (c : Core) (o : Nat) (count : W32) (t : Nat) : Core :=
  match c.stall with
  | .wait x thr none => if x = o && reached count thr then { c with stall := .wait x thr (some t) } else c
  | _ => c

theorem Core.released_wait {c : Core} {o t : Nat} {count thr : W32} (h : c.stall = .wait o thr none) (hr : reached count thr = true) :
    (c.released o count t).stall = .wait o thr (some t) := by
  unfold Core.released
  rw [h]
  simp [hr]

theorem State.releaseCore_eq (s : State) (o pos core : Nat) : s.releaseCore o pos core =
    s.modCore (coreKey pos core) (fun c => c.released o (s.obj o).count (s.hereNow pos + 2)) := rfl

/-- The first `n` cores of a tile looked at. -/
theorem State.releaseCores_parts (s : State) (o pos n : Nat) :
    (List.range n).foldl (fun s c => s.releaseCore o pos c) s =
      { s with cores := ((List.range n).foldl (fun s c => s.releaseCore o pos c) s).cores } ∧
    ∀ c, ((List.range n).foldl (fun s c => s.releaseCore o pos c) s).core (coreKey pos c) =
      if c < n then (s.core (coreKey pos c)).released o (s.obj o).count (s.hereNow pos + 2) else s.core (coreKey pos c) := by
  induction n with
  | zero => exact ⟨rfl, fun c => (if_neg (Nat.not_lt_zero c)).symm⟩
  | succ n ih =>
    obtain ⟨hframe, hcore⟩ := ih
    rw [List.range_succ, List.foldl_append]
    generalize (List.range n).foldl (fun s c => s.releaseCore o pos c) s = u at hframe hcore ⊢
    have hobj : u.obj o = s.obj o := State.obj_congr (by rw [hframe]) o
    have hnow : u.hereNow pos = s.hereNow pos := by rw [hframe]; rfl
    rw [List.foldl_cons, List.foldl_nil, State.releaseCore_eq, hobj, hnow]
    refine ⟨?_, fun c => ?_⟩
    · rw [hframe]
      rfl
    · by_cases hc : c = n
      · rw [hc, State.core_modCore_same, hcore, if_neg (Nat.lt_irrefl n), if_pos (Nat.lt_succ_self n)]
      · rw [State.core_modCore_ne _ _ (by unfold coreKey; omega), hcore]
        exact if_congr (by omega) rfl rfl

/-! ## Watches looked at -/

/-- The first `n` watches looked at for an object. -/
def State.lookAt (s : State) (o n : Nat) : State :=
  (List.range n).foldl (fun s w => if s.fld (SEQ_WATCHw_OBJ w) = o then s.fireWatch w else s) s

/-- Between two states only control-space words and the bridge's interrupts differ. -/
def State.Watched (s t : State) : Prop := t = { s with csr := t.csr, bridge := t.bridge }

namespace State.Watched

theorem refl (s : State) : s.Watched s := rfl

theorem setFld (s : State) (f : Field) (v : Nat) : s.Watched (s.setFld f v) := rfl

theorem irq (s : State) (n : Nat) : s.Watched (s.irq n) := by
  unfold State.Watched
  rw [State.irq_frame]

variable {s t u : State}

theorem trans (h : s.Watched t) (k : t.Watched u) : s.Watched u := by
  unfold State.Watched at h k ⊢
  rw [k, h]

theorem fireWatch (s : State) (w : Nat) : s.Watched (s.fireWatch w) := by
  cases hf : s.watchFires w with
  | false => rw [State.fireWatch_rests hf]; exact refl s
  | true =>
    rw [State.fireWatch_fires hf]
    exact ((setFld s _ _).trans (setFld _ _ _)).trans (irq _ _)

variable (h : s.Watched t)
include h

theorem sync : t.sync = s.sync := by rw [h]
theorem cores : t.cores = s.cores := by rw [h]

end State.Watched

theorem State.watchFires_congr {s t : State} {w : Nat} (h : s.OnlySeqWords t) (hsync : t.sync = s.sync)
    (hw : t.rd (SEQ_WATCHw w) = s.rd (SEQ_WATCHw w)) : t.watchFires w = s.watchFires w := by
  unfold State.watchFires
  rw [State.flag_of_rd (f := SEQ_WATCHw_ARM w) hw, State.fld_of_rd (f := SEQ_WATCHw_OBJ w) hw,
    State.fld_of_rd (f := SEQ_WATCHw_THRESH w) hw, h.syncOwner, State.obj_congr hsync]

theorem State.lookAt_succ (s : State) (o n : Nat) : s.lookAt o (n + 1) =
    if (s.lookAt o n).fld (SEQ_WATCHw_OBJ n) = o then (s.lookAt o n).fireWatch n else s.lookAt o n := by
  rw [State.lookAt, List.range_succ, List.foldl_append]
  rfl

theorem State.watched_lookAt (s : State) (o n : Nat) : s.Watched (s.lookAt o n) := by
  induction n with
  | zero => exact .refl s
  | succ n ih =>
    rw [State.lookAt_succ]
    split
    · exact ih.trans (.fireWatch _ n)
    · exact ih

theorem State.rd_lookAt (s : State) (o n : Nat) {r : Reg} (h : ∀ w, w < n → r.addr ≠ (SEQ_WATCHw w).addr) :
    (s.lookAt o n).rd r = s.rd r := by
  induction n with
  | zero => rfl
  | succ n ih =>
    have hbefore := ih fun w hw => h w (by omega)
    rw [State.lookAt_succ]
    split
    · rw [State.rd_fireWatch (h n (Nat.lt_succ_self n)), hbefore]
    · exact hbefore

/-- A watch of the object that fires has FIRED set and ARM clear once it has been looked at, and after. -/
theorem State.lookAt_fires (s : State) {o n w : Nat} (hn : n ≤ 64) (hw : w < n) (ho : s.fld (SEQ_WATCHw_OBJ w) = o)
    (hf : s.watchFires w = true) :
    (s.lookAt o n).flag (SEQ_WATCHw_FIRED w) = true ∧ (s.lookAt o n).flag (SEQ_WATCHw_ARM w) = false := by
  induction n with
  | zero => omega
  | succ n ih =>
    rw [State.lookAt_succ]
    by_cases hwn : w = n
    · have hrd : (s.lookAt o n).rd (SEQ_WATCHw w) = s.rd (SEQ_WATCHw w) :=
        s.rd_lookAt o n fun x hx => by simp only [SEQ_WATCHw]; omega
      have hwords : s.OnlySeqWords (s.lookAt o n) := fun r _ hr => s.rd_lookAt o n fun x hx => by simp only [SEQ_WATCHw]; omega
      have hsync : (s.lookAt o n).sync = s.sync := (s.watched_lookAt o n).sync
      rw [← hwn] at hrd hwords hsync ⊢
      rw [if_pos ((State.fld_of_rd hrd).trans ho)]
      exact State.flags_fireWatch ((State.watchFires_congr hwords hsync hrd).trans hf)
    · obtain ⟨hfired, harm⟩ := ih (by omega) (by omega)
      split
      · have hrd : ((s.lookAt o n).fireWatch n).rd (SEQ_WATCHw w) = (s.lookAt o n).rd (SEQ_WATCHw w) :=
          State.rd_fireWatch (by simp only [SEQ_WATCHw]; omega)
        exact ⟨(State.flag_of_rd hrd).trans hfired, (State.flag_of_rd hrd).trans harm⟩
      · exact ⟨hfired, harm⟩

/-! ## A changed count -/

/-- The cores of the home tile looked at, where the object has one. -/
def State.releaseHome (s : State) (o : Nat) : State :=
  match s.posOf (o / 256) with
  | some pos => if o / 256 < 504 then (List.range 8).foldl (fun s c => s.releaseCore o pos c) s else s
  | none => s

theorem State.countChanged_eq (s : State) (o : Nat) : s.countChanged o = (s.releaseHome o).lookAt o 64 := rfl

theorem State.releaseHome_frame (s : State) (o : Nat) : s.releaseHome o = { s with cores := (s.releaseHome o).cores } := by
  unfold State.releaseHome
  split
  next pos _ =>
    split
    · exact (s.releaseCores_parts o pos 8).1
    · rfl
  · rfl

section
variable (s : State) (o : Nat)

theorem State.countChanged_sync : (s.countChanged o).sync = s.sync :=
  ((s.releaseHome o).watched_lookAt o 64).sync.trans (by rw [State.releaseHome_frame])

theorem State.countChanged_msgs : (s.countChanged o).msgs = s.msgs := by
  rw [State.countChanged_eq, (s.releaseHome o).watched_lookAt o 64, State.releaseHome_frame]

theorem State.rd_countChanged {r : Reg} (h : ∀ w, w < 64 → r.addr ≠ (SEQ_WATCHw w).addr) : (s.countChanged o).rd r = s.rd r := by
  rw [State.countChanged_eq, State.rd_lookAt _ _ _ h]
  exact State.rd_congr (by rw [State.releaseHome_frame]) r

theorem State.countChanged_releases {pos core : Nat} {thr : W32} (hpos : s.posOf (o / 256) = some pos) (ho : o / 256 < 504)
    (hc : core < 8) (hstall : (s.core (coreKey pos core)).stall = .wait o thr none) (hr : reached (s.obj o).count thr = true) :
    ((s.countChanged o).core (coreKey pos core)).stall = .wait o thr (some (s.hereNow pos + 2)) := by
  have hhome : s.releaseHome o = (List.range 8).foldl (fun s c => s.releaseCore o pos c) s := by
    unfold State.releaseHome
    rw [hpos]
    exact if_pos ho
  have hcores : (s.countChanged o).cores = (s.releaseHome o).cores := ((s.releaseHome o).watched_lookAt o 64).cores
  rw [State.core_congr hcores, hhome, (s.releaseCores_parts o pos 8).2, if_pos hc]
  exact Core.released_wait hstall hr

theorem State.countChanged_fires {w : Nat} (hw : w < 64) (ho : s.fld (SEQ_WATCHw_OBJ w) = o) (hf : s.watchFires w = true) :
    (s.countChanged o).flag (SEQ_WATCHw_FIRED w) = true ∧ (s.countChanged o).flag (SEQ_WATCHw_ARM w) = false := by
  have hcsr : (s.releaseHome o).csr = s.csr := by rw [State.releaseHome_frame]
  have hsync : (s.releaseHome o).sync = s.sync := by rw [State.releaseHome_frame]
  exact (s.releaseHome o).lookAt_fires le_rfl hw ((State.fld_congr hcsr _).trans ho)
    ((State.watchFires_congr (.of_csr hcsr) hsync (State.rd_congr hcsr _)).trans hf)
end

/-! ## The messages that are ready -/

theorem mem_zip_range {α : Type} {l : List α} {x : α} {i : Nat} : (x, i) ∈ l.zip (List.range l.length) ↔ l[i]? = some x := by
  rw [List.mem_iff_getElem?]
  constructor
  · rintro ⟨j, hj⟩
    obtain ⟨hx, hi⟩ := List.getElem?_zip_eq_some.mp hj
    obtain ⟨_, hij⟩ := List.getElem?_eq_some_iff.mp hi
    rw [List.getElem_range] at hij
    exact (show j = i from hij) ▸ hx
  · intro h
    obtain ⟨hi, _⟩ := List.getElem?_eq_some_iff.mp h
    exact ⟨i, List.getElem?_zip_eq_some.mpr ⟨h, List.getElem?_range hi⟩⟩

theorem findSome?_if {α β : Type} (p : α → Prop) [DecidablePred p] (f : α → β) (l : List α) :
    l.findSome? (fun x => if p x then some (f x) else none) = (l.filter (fun x => decide (p x))).head?.map f := by
  induction l with
  | nil => rfl
  | cons x l ih =>
    rw [List.findSome?_cons]
    by_cases h : p x
    · simp [h]
    · simpa [h] using ih

section
variable {s : State} {o i : Nat} {m : SyncMsg} {set : Bool}

theorem firstReady_ready (h : s.firstReady o set = some (i, m)) :
    s.msgs[i]? = some m ∧ m.obj = o ∧ m.set = set ∧ s.syncReady i m = true := by
  unfold State.firstReady at h
  obtain ⟨x, hx, hif⟩ := List.exists_of_findSome?_eq_some h
  split at hif
  next hready =>
    cases hif
    exact ⟨mem_zip_range.mp hx, hready⟩
  · cases hif

/-- A message that may take effect is the first of its kind in the list: an equal one before it would hold it back (R143). -/
theorem idxOf_of_ready (hm : s.msgs[i]? = some m) (hr : s.syncReady i m = true) : s.msgs.idxOf m = i := by
  obtain ⟨hi, hget⟩ := List.getElem?_eq_some_iff.mp hm
  refine (List.findIdx_eq hi).mpr ⟨by simp [hget], fun j hj => ?_⟩
  have hall : ∀ n ∈ s.msgs.take i, (!(decide (n.obj = m.obj) && sameSource m n)) = true :=
    List.all_eq_true.mp (Bool.and_eq_true_iff.mp hr).2
  refine beq_eq_false_iff_ne.mpr fun heq => ?_
  have hmem : m ∈ s.msgs.take i := heq ▸ List.mem_take_iff_getElem.mpr ⟨j, by omega, rfl⟩
  simpa [sameSource] using hall m hmem

/-- The sets of an object that may take effect, in the order of the list. -/
def State.readySets (s : State) (o : Nat) : List (SyncMsg × Nat) :=
  (s.msgs.zip (List.range s.msgs.length)).filter (fun x => decide (x.1.obj = o) && x.1.set && s.syncReady x.2 x.1)

theorem firstReady_set_eq : s.firstReady o true = (s.readySets o).head?.map (fun x => (x.2, x.1)) := by
  unfold State.firstReady State.readySets
  rw [findSome?_if (fun x : SyncMsg × Nat => x.1.obj = o ∧ x.1.set = true ∧ s.syncReady x.2 x.1 = true) (fun x => (x.2, x.1))]
  simp only [Bool.decide_and, Bool.decide_eq_true, Bool.and_assoc]

theorem cycleSets_eq (n : Nat) : s.cycleSets o n = ((s.readySets o).take n).foldl (fun l x => s.insertSet x.1 l) [] := rfl

theorem mem_insertSet {x : SyncMsg} {l : List SyncMsg} : x ∈ s.insertSet m l ↔ x = m ∨ x ∈ l := by
  induction l with
  | nil => simp [State.insertSet]
  | cons y l ih =>
    rw [State.insertSet]
    split
    · simp
    · simp only [List.mem_cons, ih]
      tauto

/-- Every message of a cycle's sets is one to its object. -/
theorem obj_of_mem_cycleSets {n : Nat} (h : m ∈ s.cycleSets o n) : m.obj = o ∧ m.set = true := by
  have hfold (l : List (SyncMsg × Nat)) : ∀ (acc : List SyncMsg), m ∈ l.foldl (fun l x => s.insertSet x.1 l) acc →
      m ∈ acc ∨ ∃ x ∈ l, x.1 = m := by
    induction l with
    | nil => exact fun acc hm => .inl hm
    | cons x l ih =>
      intro acc hm
      rcases ih _ hm with hacc | ⟨y, hy, hym⟩
      · rcases mem_insertSet.mp hacc with heq | hmem
        · exact .inr ⟨x, List.mem_cons_self, heq.symm⟩
        · exact .inl hmem
      · exact .inr ⟨y, List.mem_cons_of_mem _ hy, hym⟩
  rw [cycleSets_eq] at h
  rcases hfold _ _ h with hnil | ⟨x, hx, rfl⟩
  · exact absurd hnil List.not_mem_nil
  · have hp := (List.mem_filter.mp (List.mem_of_mem_take hx)).2
    simp only [Bool.and_eq_true, decide_eq_true_eq] at hp
    exact hp.1

theorem cycleSets_one (h : s.firstReady o true = some (i, m)) : s.cycleSets o 1 = [m] := by
  rw [firstReady_set_eq] at h
  rw [cycleSets_eq]
  cases hl : s.readySets o with
  | nil => rw [hl] at h; cases h
  | cons x l =>
    rw [hl] at h
    cases h
    rfl

/-- Two sets of one cycle stand in the order of their inputs, and a set is ready. -/
theorem cycleSets_two {m₁ m₂ : SyncMsg} (h : s.cycleSets o 2 = [m₁, m₂]) :
    s.setRank m₁ ≤ s.setRank m₂ ∧ (s.firstReady o true).isSome = true := by
  rw [firstReady_set_eq]
  rw [cycleSets_eq] at h
  match hl : s.readySets o with
  | [] => rw [hl] at h; cases h
  | [x] => rw [hl] at h; cases h
  | x :: y :: l =>
    rw [hl] at h
    refine ⟨?_, rfl⟩
    have hins : (if s.setRank y.1 < s.setRank x.1 then [y.1, x.1] else [x.1, y.1]) = [m₁, m₂] := h
    split at hins <;> cases hins <;> omega
end

/-! ## The commands -/

section
variable {s : State} {o : Nat}

theorem exec_syncAddApply_eq {n : Nat} (ho : o < 131072) (hn : n ≠ 0) (hr : (s.firstReady o false).isSome = true) :
    exec (.syncAddApply o n) s = answerSync s ((s.applyAdds o n).countChanged o) := by
  rw [exec_syncAddApply, execSyncAddApply, if_neg (by omega), if_neg (by
    rw [not_or, Bool.not_eq_true, Option.isNone_eq_false_iff]
    exact ⟨hn, hr⟩)]

theorem exec_syncSetApply_eq {n : Nat} (ho : o < 131072) (hn : n ≠ 0) (hr : (s.firstReady o true).isSome = true) :
    exec (.syncSetApply ⟨o, n, 0⟩) s = answerSync s ((s.applySets o n).countChanged o) := by
  rw [exec_syncSetApply, execSyncSetApply, if_neg (by dsimp only; omega), if_neg (by
    rw [not_or, Bool.not_eq_true, Option.isNone_eq_false_iff]
    exact ⟨hn, hr⟩)]
  rfl

theorem State.applyAdds_one {i : Nat} {m : SyncMsg} (hr : s.firstReady o false = some (i, m)) : s.applyAdds o 1 = s.applyMsg i m := by
  unfold State.applyAdds
  rw [hr]
  rfl

theorem exec_syncAddApply_one {i : Nat} {m : SyncMsg} (ho : o < 131072) (hr : s.firstReady o false = some (i, m)) :
    exec (.syncAddApply o 1) s = answerSync s ((s.applyMsg i m).countChanged o) := by
  rw [exec_syncAddApply_eq ho one_ne_zero (by rw [hr]; rfl), State.applyAdds_one hr]

theorem exec_syncSetApply_one {i : Nat} {m : SyncMsg} (ho : o < 131072) (hr : s.firstReady o true = some (i, m)) :
    exec (.syncSetApply ⟨o, 1, 0⟩) s = answerSync s ((s.applyMsg i m).countChanged o) := by
  obtain ⟨hm, -, -, hready⟩ := firstReady_ready hr
  rw [exec_syncSetApply_eq ho one_ne_zero (by rw [hr]; rfl), State.applySets, cycleSets_one hr, List.foldl_cons, List.foldl_nil,
    idxOf_of_ready hm hready]

/-- Message `i` has been applied to its object, and the waits and watches that the new count has reached are released. -/
def State.msgApplied (o i : Nat) (m : SyncMsg) (s t : State) : Prop :=
  (t.obj o).count = (if m.set = true then m.value else (s.obj o).count + m.value) ∧
  (∀ q, q ≠ o → t.obj q = s.obj q) ∧ t.msgs = removeAt s.msgs i ∧ s.onlySync t ∧
  (t.obj o).short = (s.obj o).short ∧ (t.obj o).void = ((s.obj o).void || (!m.set && m.void)) ∧
  (∀ pos core thr, s.posOf (o / 256) = some pos → o / 256 < 504 → core < 8 →
    (s.core (coreKey pos core)).stall = .wait o thr none → reached (t.obj o).count thr = true →
    (t.core (coreKey pos core)).stall = .wait o thr (some (s.hereNow pos + 2))) ∧
  (∀ w, w < 64 → s.fld (SEQ_WATCHw_OBJ w) = o → s.flag (SEQ_WATCHw_ARM w) = true → (s.syncOwner o).isSome = true →
    reached (t.obj o).count (BitVec.ofNat 32 (s.fld (SEQ_WATCHw_THRESH w))) = true →
    t.flag (SEQ_WATCHw_FIRED w) = true ∧ t.flag (SEQ_WATCHw_ARM w) = false)

section
variable {c : Instr} {i : Nat} {m : SyncMsg} (he : exec c s = answerSync s ((s.applyMsg i m).countChanged o))
include he

theorem msgApplied_yields (hm : m.obj = o) (hh : s.homeOf m ≠ .none) (hf : s.syncFault m = none) :
    yields c s (State.msgApplied o i m s) := by
  obtain ⟨hover, -, -⟩ := s.applyMsg_over i m
  have hafter : (s.applyMsg i m).obj o = s.objAfter m := hm ▸ s.obj_applyMsg i m hh hf
  obtain ⟨hcount, hshort, hvoid⟩ := s.objAfter_parts m
  rw [hm] at hcount hshort hvoid
  refine answerSync_yields he fun t honly ht => ?_
  have hobj (q : Nat) : t.obj q = (s.applyMsg i m).obj q := State.obj_congr (ht.sync.trans (State.countChanged_sync _ _)) q
  refine ⟨?_, fun q hq => (hobj q).trans (s.obj_applyMsg_ne i m (hm ▸ hq)), ?_, honly, ?_, ?_, fun pos core thr hpos ho hc hst hr => ?_,
    fun w hw hwo harm hown hr => ?_⟩
  · rw [hobj, hafter, hcount]
  · rw [ht.msgs, State.countChanged_msgs, hover.msgs]
  · rw [hobj, hafter, hshort]
  · rw [hobj, hafter, hvoid]
  · rw [State.core_congr ht.cores, State.countChanged_releases _ _ ((hover.words.posOf _).trans hpos) ho hc
      ((hover.stall _).trans hst) (hobj o ▸ hr), State.hereNow, State.cycle, hover.clk]
    rfl
  · rw [State.flag_congr ht.csr, State.flag_congr ht.csr]
    have hrd := hover.watch hw
    have hfires : (s.applyMsg i m).watchFires w = true := by
      unfold State.watchFires
      rw [State.flag_of_rd (f := SEQ_WATCHw_ARM w) hrd, State.fld_of_rd (f := SEQ_WATCHw_OBJ w) hrd,
        State.fld_of_rd (f := SEQ_WATCHw_THRESH w) hrd, hwo, hover.words.syncOwner, harm, hown, ← hobj, hr]
      rfl
    exact State.countChanged_fires _ _ hw ((State.fld_of_rd (f := SEQ_WATCHw_OBJ w) hrd).trans hwo) hfires

theorem msgDiscarded_yields (h : s.homeOf m = .none ∨ (s.syncFault m).isSome = true) : yields c s (fun t =>
    t.sync = s.sync ∧ t.msgs = removeAt s.msgs i ∧ s.onlySync t ∧ s.countedBy t SEQ_SYNCERR_CNT 1) := by
  obtain ⟨hover, -, hdiscarded⟩ := s.applyMsg_over i m
  obtain ⟨hsync, hcounted⟩ := hdiscarded h
  refine answerSync_yields he fun t honly ht => ⟨?_, ?_, honly, State.countedBy_of_rd hcounted ?_⟩
  · rw [ht.sync, State.countChanged_sync, hsync]
  · rw [ht.msgs, State.countChanged_msgs, hover.msgs]
  · rw [State.rd_congr ht.csr]
    exact State.rd_countChanged _ _ fun w hw => by simp only [SEQ_SYNCERR_CNT, SEQ_WATCHw]; omega
end

/-! ## Several messages in one command -/

theorem State.obj_applyAdds_ne (s : State) {o q : Nat} (hq : q ≠ o) (n : Nat) : (s.applyAdds o n).obj q = s.obj q := by
  induction n generalizing s with
  | zero => rfl
  | succ n ih =>
    rw [State.applyAdds]
    cases hr : s.firstReady o false with
    | none => rfl
    | some x =>
      obtain ⟨-, hobj, -, -⟩ := firstReady_ready hr
      exact (ih _).trans (s.obj_applyMsg_ne x.1 x.2 (hobj ▸ hq))

theorem State.obj_applySets_ne (s : State) {o q : Nat} (hq : q ≠ o) (n : Nat) : (s.applySets o n).obj q = s.obj q := by
  have hfold (l : List SyncMsg) : ∀ u : State, (∀ m ∈ l, m.obj = o) →
      (l.foldl (fun (s : State) m => s.applyMsg (s.msgs.idxOf m) m) u).obj q = u.obj q := by
    induction l with
    | nil => exact fun u _ => rfl
    | cons m l ih =>
      intro u hl
      rw [List.foldl_cons, ih _ fun x hx => hl x (List.mem_cons_of_mem _ hx)]
      exact u.obj_applyMsg_ne _ m (hl m List.mem_cons_self ▸ hq)
  exact hfold _ s fun m hm => (obj_of_mem_cycleSets hm).1

theorem answerSync_keeps {s u t : State} {o : Nat} (he : answerSync s u = .next t) (hu : ∀ q, q ≠ o → u.obj q = s.obj q) :
    s.onlySync t ∧ ∀ q, q ≠ o → t.obj q = s.obj q := by
  cases he
  exact ⟨rfl, hu⟩

theorem syncAddApply_keeps {o n : Nat} {s t : State} (he : exec (.syncAddApply o n) s = .next t) :
    s.onlySync t ∧ ∀ q, q ≠ o → t.obj q = s.obj q := by
  rw [exec_syncAddApply, execSyncAddApply] at he
  split_ifs at he
  · cases he
  · cases he
    exact ⟨rfl, fun _ _ => rfl⟩
  · exact answerSync_keeps he fun q hq => (State.obj_congr (State.countChanged_sync _ _) q).trans (s.obj_applyAdds_ne hq n)

theorem syncSetApply_keeps {o n k : Nat} {s t : State} (he : exec (.syncSetApply ⟨o, n, k⟩) s = .next t) :
    s.onlySync t ∧ ∀ q, q ≠ o → t.obj q = s.obj q := by
  rw [exec_syncSetApply, execSyncSetApply] at he
  split_ifs at he
  · cases he
  · cases he
    exact ⟨rfl, fun _ _ => rfl⟩
  · exact answerSync_keeps he fun q hq => (State.obj_congr (State.countChanged_sync _ _) q).trans
      ((State.obj_applyAdds_ne _ hq k).trans (s.obj_applySets_ne hq n))

/-- Of two sets of one cycle the second stands. -/
theorem syncSetApply_two {m₁ m₂ : SyncMsg} (ho : o < 131072) (h : s.cycleSets o 2 = [m₁, m₂]) (hh : s.homeOf m₂ ≠ .none)
    (hf : s.syncFault m₂ = none) : yields (.syncSetApply ⟨o, 2, 0⟩) s (fun t =>
      (t.obj o).count = m₂.value ∧ s.onlySync t ∧ ∀ q, q ≠ o → t.obj q = s.obj q) := by
  obtain ⟨-, hready⟩ := cycleSets_two h
  have he := exec_syncSetApply_eq ho two_ne_zero hready
  obtain ⟨hover, -, -⟩ := s.applyMsg_over (s.msgs.idxOf m₁) m₁
  obtain ⟨hobj, hset⟩ := obj_of_mem_cycleSets (h ▸ List.mem_cons_of_mem _ List.mem_cons_self : m₂ ∈ s.cycleSets o 2)
  have hsets : s.applySets o 2 = (s.applyMsg (s.msgs.idxOf m₁) m₁).applyMsg
      ((s.applyMsg (s.msgs.idxOf m₁) m₁).msgs.idxOf m₂) m₂ := by rw [State.applySets, h]; rfl
  have hlast : (s.applySets o 2).obj o = (s.applyMsg (s.msgs.idxOf m₁) m₁).objAfter m₂ := by
    rw [hsets, ← hobj]
    exact State.obj_applyMsg _ _ m₂ ((hover.words.homeOf m₂).trans_ne hh) ((hover.words.syncFault m₂).trans hf)
  refine answerSync_yields he fun t honly ht => ?_
  have hobj (q : Nat) : t.obj q = (s.applySets o 2).obj q := State.obj_congr (ht.sync.trans (State.countChanged_sync _ _)) q
  refine ⟨?_, honly, fun q hq => (hobj q).trans (s.obj_applySets_ne hq 2)⟩
  rw [hobj, hlast, (State.objAfter_parts _ m₂).1, if_pos hset]
end

/-- Settles O25: a message is applied or discarded by `State.applyMsg`, which changes its own object alone; a new count
releases its waits and watches. -/
theorem syncApply : Obligations.SyncApply := by
  unfold Obligations.SyncApply
  refine ⟨fun o i m s ho hr => ?_, fun o i m s ho hr _ => ?_, fun o m₁ m₂ s ho h _ hh _ hf => ?_,
    fun o n s t he => syncAddApply_keeps he, fun o n k s t he => syncSetApply_keeps he⟩
  · obtain ⟨-, hobj, -, -⟩ := firstReady_ready hr
    have he := exec_syncAddApply_one ho hr
    exact ⟨msgApplied_yields he hobj, msgDiscarded_yields he⟩
  · obtain ⟨-, hobj, -, -⟩ := firstReady_ready hr
    have he := exec_syncSetApply_one ho hr
    exact ⟨msgApplied_yields he hobj, msgDiscarded_yields he⟩
  · exact ⟨(cycleSets_two h).1, syncSetApply_two ho h hh hf⟩

end Sys2Proof.Machine
end

section
/-! PROOFS. What a direct transfer of HBM pieces touches (O38). -/

namespace Sys2Proof.Machine

/-! ## Words in which errors are counted and captured -/

/-- An address of the counters and captures of a tile's movers and scratchpad, or of those of a controller of a compute stack. -/
def errorAddr (a : Nat) : Prop :=
  (0x88000 ≤ a % 0x100000 ∧ a % 0x100000 < 0xA0000) ∨
  (0x300000000 ≤ a ∧ a < 0x303000000 ∧ 0x10 ≤ a % 0x100000 ∧ a % 0x100000 < 0x38)

theorem errorAddr_tile (pos : Nat) {o : Nat} (ho : 0x88000 ≤ o ∧ o < 0xA0000) : errorAddr (tileBase pos + o) := by
  have hbase := tileBase_mod pos
  exact .inl (by omega)

theorem errorAddr_hbm {k o : Nat} (hk : k < 48) (ho : 0x10 ≤ o ∧ o < 0x38) : errorAddr (hbmBase k + o) := by
  unfold errorAddr hbmBase
  omega

theorem State.rd_send (s : State) (x : FaultRec) (r : Reg) : (s.send x).rd r = s.rd r := rfl

theorem State.rd_captureWith_ne (s : State) {r q : Reg} (w : Nat) (f : State → Nat → FaultRec) (h : q.addr ≠ r.addr) :
    (s.captureWith r w f).rd q = s.rd q := by
  unfold State.captureWith
  split
  · rfl
  · dsimp only
    rw [State.rd_send, State.rd_wr_ne _ _ h]

/-- The words other than those that tell errors are in `t` as in `s`. -/
def State.ErrorsOnly (s t : State) : Prop := ∀ r : Reg, ¬ errorAddr r.addr → t.rd r = s.rd r

namespace State.ErrorsOnly

theorem refl (s : State) : s.ErrorsOnly s := fun _ _ => rfl

variable {s t u : State}

theorem of_csr (h : t.csr = s.csr) : s.ErrorsOnly t := fun r _ => State.rd_congr h r

theorem trans (h : s.ErrorsOnly t) (k : t.ErrorsOnly u) : s.ErrorsOnly u := fun r hr => (k r hr).trans (h r hr)

theorem ite (p : Prop) [Decidable p] (h : s.ErrorsOnly t) (k : s.ErrorsOnly u) : s.ErrorsOnly (if p then t else u) := by
  split
  · exact h
  · exact k

variable (s)

theorem foldl {α : Type} {f : State → α → State} (hf : ∀ (u : State) (x : α), u.ErrorsOnly (f u x)) (l : List α) :
    s.ErrorsOnly (l.foldl f s) :=
  List.foldlRecOn (motive := fun u => s.ErrorsOnly u) l f (refl s) fun u hu x _ => hu.trans (hf u x)

theorem count {c : Counter} (n : Nat) (hc : errorAddr c.reg.addr) : s.ErrorsOnly (s.count c n) :=
  fun _ hr => s.rd_count_ne c n fun h => hr (h ▸ hc)

theorem capture {r : Reg} (w a b : Nat) (hc : errorAddr r.addr) : s.ErrorsOnly (s.capture r w a b) :=
  fun _ hr => s.rd_capture_ne w a b fun h => hr (h ▸ hc)

theorem captureWith {r : Reg} (w : Nat) (f : State → Nat → FaultRec) (hc : errorAddr r.addr) :
    s.ErrorsOnly (s.captureWith r w f) :=
  fun _ hr => s.rd_captureWith_ne w f fun h => hr (h ▸ hc)

theorem movError (pos engine code reason addr : Nat) : s.ErrorsOnly (s.movError pos engine code reason addr) :=
  (count s (c := tileCounter pos (TILE_MOV_ERR_CNT pos)) 1 (errorAddr_tile pos (by decide))).trans
    (capture _ _ _ _ (errorAddr_tile pos (by decide)))

theorem spadUe (pos off agent : Nat) (feeder line : Bool) : s.ErrorsOnly (s.spadUe pos off agent feeder line) :=
  (count s (c := tileCounter pos (TILE_SPAD_UE_CNT pos)) 1 (errorAddr_tile pos (by decide))).trans
    (fun _ hr => State.rd_capture_ne _ _ _ _ fun h => hr (h ▸ errorAddr_tile pos (by decide)))

theorem countCe (pos n : Nat) : s.ErrorsOnly (s.count (tileCounter pos (TILE_SPAD_CE_CNT pos)) n) :=
  count s n (errorAddr_tile pos (by decide))

theorem spadRead (pos off len agent : Nat) (feeder : Bool) : s.ErrorsOnly (s.spadRead pos off len agent feeder).2.2 := by
  unfold State.spadRead
  dsimp only
  exact ((foldl s (fun u e => ite _ (countCe u pos 1) (spadUe u _ _ _ _ _)) _).trans (ite _ (refl _) (countCe _ pos _))).trans
    (foldl _ (fun u l => spadUe u _ _ _ _ _) _)

theorem hbmNack {k : Nat} (cause part srckind src a : Nat) (hk : k < 48) :
    s.ErrorsOnly (s.hbmNack k cause part srckind src a) :=
  (count s (c := hbmCounter k (HBM_NACK_CNT k)) 1 (errorAddr_hbm hk (by decide))).trans
    (capture _ _ _ _ (errorAddr_hbm hk (by decide)))

end State.ErrorsOnly

/-! ## Pieces performed in HBM -/

/-- `t` is `s` but for what performing pieces in HBM may change: words, fault records and the memory with its requests. -/
def State.HbmServed (s t : State) : Prop :=
  t = { s with csr := t.csr, faults := t.faults, hbm := t.hbm, hbmPoison := t.hbmPoison, hbmEcc := t.hbmEcc, hbmReqs := t.hbmReqs }

namespace State.HbmServed

theorem refl (s : State) : s.HbmServed s := rfl

variable {s t u : State}

theorem trans (h : s.HbmServed t) (k : t.HbmServed u) : s.HbmServed u := by
  unfold State.HbmServed at h k ⊢
  rw [k, h]

theorem of_near (h : s.Near t) : s.HbmServed t := by
  unfold State.Near at h
  unfold State.HbmServed
  rw [h]

theorem fuses (h : s.HbmServed t) : t.fuses = s.fuses := by rw [h]
theorem tiles (h : s.HbmServed t) : t.tiles = s.tiles := by rw [h]
theorem ops (h : s.HbmServed t) : t.ops = s.ops := by rw [h]
theorem spad (h : s.HbmServed t) : t.spad = s.spad := by rw [h]

end State.HbmServed

/-- A piece performed in HBM, the errors it meets counted and captured. -/
structure State.HbmPiece (s t : State) : Prop where
  served : s.HbmServed t
  words : s.ErrorsOnly t

namespace State.HbmPiece

theorem refl (s : State) : s.HbmPiece s := ⟨.refl s, .refl s⟩

variable {s t u : State}

theorem trans (h : s.HbmPiece t) (k : t.HbmPiece u) : s.HbmPiece u := ⟨h.served.trans k.served, h.words.trans k.words⟩

variable (s)

theorem foldl {α : Type} {f : State → α → State} (hf : ∀ (u : State) (x : α), u.HbmPiece (f u x)) (l : List α) :
    s.HbmPiece (l.foldl f s) :=
  List.foldlRecOn (motive := fun u => s.HbmPiece u) l f (refl s) fun u hu x _ => hu.trans (hf u x)

theorem hbmWrite (k a len data poison : Nat) : s.HbmPiece (s.hbmWrite k a len data poison) := ⟨rfl, .of_csr rfl⟩

section
variable {k : Nat} (hk : k < 48)
include hk

theorem countCe : s.HbmPiece (s.count (hbmCounter k (HBM_CE_CNT k)) 1) :=
  ⟨.of_near (s.near_refl.count _ _), .count s 1 (errorAddr_hbm hk (by decide))⟩

theorem countUe (w : Nat) (f : State → Nat → FaultRec) :
    s.HbmPiece ((s.count (hbmCounter k (HBM_UE_CNT k)) 1).captureWith (HBM_UE_CAP k) w f) :=
  ⟨.of_near ((s.near_refl.count _ _).captureWith _ _ _),
    (State.ErrorsOnly.count s (c := hbmCounter k (HBM_UE_CNT k)) 1 (errorAddr_hbm hk (by decide))).trans
      (.captureWith _ w f (errorAddr_hbm hk (by decide)))⟩

theorem hbmError (scrub : Bool) (part : Option Nat) (capPart : Nat) (e : Nat × Nat) :
    s.HbmPiece (s.hbmError k scrub part capPart e) := by
  unfold State.hbmError
  dsimp only
  split
  · split
    · exact (countCe s hk).trans ⟨rfl, .of_csr rfl⟩
    · exact countCe s hk
  · exact trans (t := { s with hbmPoison := s.hbmPoison.add e.1, hbmEcc := s.hbmEcc.erase e.1 }) ⟨rfl, .of_csr rfl⟩ (countUe _ hk _ _)

theorem hbmRead (a len part : Nat) : s.HbmPiece (s.hbmRead k a len part).2.2 :=
  foldl s (fun u e => hbmError u hk _ _ _ e) _

theorem hbmDrain (a : Nat) : s.HbmPiece (s.hbmDrain k a) := by
  refine foldl s (fun u i => ?_) _
  split
  · exact refl u
  · dsimp only
    split_ifs
    · exact refl u
    · exact (hbmWrite u k _ _ _ _).trans ⟨rfl, .of_csr rfl⟩
    · exact (hbmRead u hk _ _ _).trans ⟨rfl, .of_csr rfl⟩
end

end State.HbmPiece

/-! ## The memory under reads -/

/-- The bytes of HBM and the requests are in `t` as in `s`. -/
def State.HbmSame (s t : State) : Prop := t.hbm = s.hbm ∧ t.hbmReqs = s.hbmReqs

theorem State.hbmSame_error (s : State) (k : Nat) (scrub : Bool) (part : Option Nat) (capPart : Nat) (e : Nat × Nat) :
    s.HbmSame (s.hbmError k scrub part capPart e) := by
  unfold State.hbmError
  dsimp only
  split
  · have hcount := s.near_refl.count (hbmCounter k (HBM_CE_CNT k)) 1
    split
    · exact ⟨hcount.hbm, hcount.hbmReqs⟩
    · exact ⟨hcount.hbm, hcount.hbmReqs⟩
  · have hcount := (({ s with hbmPoison := s.hbmPoison.add e.1, hbmEcc := s.hbmEcc.erase e.1 } : State).near_refl.count
      (hbmCounter k (HBM_UE_CNT k)) 1)
    exact ⟨(hcount.captureWith _ _ _).hbm, (hcount.captureWith _ _ _).hbmReqs⟩

/-- A read changes no byte of HBM and performs no request. -/
theorem State.hbmSame_read (s : State) (k a len part : Nat) : s.HbmSame (s.hbmRead k a len part).2.2 :=
  List.foldlRecOn (motive := fun u => s.HbmSame u) _ _ ⟨rfl, rfl⟩ fun u hu e _ =>
    have he := u.hbmSame_error k false (some part) part e
    ⟨he.1.trans hu.1, he.2.trans hu.2⟩

/-- With every request performed, none goes before a direct access. -/
theorem State.hbmDrain_done {s : State} (h : ∀ r ∈ s.hbmReqs, r.done.isSome = true) (k a : Nat) : s.hbmDrain k a = s := by
  refine List.foldlRecOn (motive := fun u => u = s) _ _ rfl fun u hu i _ => ?_
  subst hu
  split
  · rfl
  · next r hr =>
    exact if_pos (.inr (.inl (h r (List.mem_of_getElem? hr))))

/-! ## The way of a piece -/

theorem destOf_lt {s : State} {pos d : Nat} {a : BitVec 48} (h : s.destOf pos a = some d) : d - 512 < 48 ∧ d < 640 := by
  unfold State.destOf at h
  split at h
  · next l off hl =>
    cases h
    unfold State.dspace at hl
    dsimp only at hl
    split_ifs at hl <;> cases hl
    have hlt := bitsOf_lt a.toNat 27 9
    omega
  · obtain ⟨r, hr, rfl⟩ := Option.map_eq_some_iff.mp h
    unfold hbmMap at hr
    dsimp only at hr
    split at hr
    · next k hk =>
      cases hr
      have hlt : k < 48 := List.mem_range.mp (List.mem_filter.mp (List.mem_of_getElem? hk)).1
      exact ⟨by dsimp only; omega, by dsimp only; omega⟩
    · cases hr
  · cases h

/-- A piece reaches its stack where the router has a trail to it, the H-rim die refuses nothing and the stack answers. -/
theorem hbmReach_inl {s : State} {pos off size type k a : Nat} : s.hbmReach pos off size type = .inl (k, a) ↔
    ∃ d, s.destOf pos (BitVec.ofNat 48 (2 ^ 44 + off)) = some d ∧ (s.trailTo pos d).isSome = true ∧
      s.hbmRefusal (d - 512) ((s.partOf pos).getD 0) (2 ^ 44 + off) size type = none ∧
      s.fld (HBM_STATUS_STATE (d - 512)) ≠ 2 ∧ k = d - 512 ∧ a = s.stackAddr (d - 512) ((s.partOf pos).getD 0) (2 ^ 44 + off) := by
  unfold State.hbmReach
  dsimp only
  constructor
  · intro h
    split at h
    · cases h
    · next d hd =>
      split at h
      · cases h
      · next htrail =>
        split at h
        · cases h
        · next hrefusal =>
          split at h
          · cases h
          · next hstate =>
            obtain ⟨hk, ha⟩ := Prod.mk.inj (Sum.inl.inj h)
            exact ⟨d, hd, Option.isSome_iff_ne_none.mpr fun hnone => htrail (Option.isNone_iff_eq_none.mpr hnone), hrefusal,
              hstate, hk.symm, ha.symm⟩
  · rintro ⟨d, hd, htrail, hrefusal, hstate, hk, ha⟩
    rw [hd]
    dsimp only
    rw [if_neg (by rw [Option.isNone_eq_false_iff.mpr htrail]; decide), hrefusal, hk, ha]
    exact if_neg hstate

theorem hbmReach_lt {s : State} {pos off size type k a : Nat} (h : s.hbmReach pos off size type = .inl (k, a)) : k < 48 := by
  obtain ⟨d, hd, -, -, -, hk, -⟩ := hbmReach_inl.mp h
  rw [hk]
  exact (destOf_lt hd).1

/-- The reasons of an H-rim die are 3 and 5. -/
theorem hbmRefusal_reason {s : State} {k p a size type reason cause : Nat}
    (h : s.hbmRefusal k p a size type = some (reason, cause)) : reason ≠ 6 := by
  unfold State.hbmRefusal at h
  dsimp only at h
  repeat' split at h
  all_goals cases h
  all_goals decide

/-- A piece that does not reach its stack, none being in self-refresh, is refused for another reason than that, and counted. -/
theorem hbmReach_inr {s t : State} {pos off size type reason : Nat} (hs : ∀ k, k < 50 → s.fld (HBM_STATUS_STATE k) ≠ 2)
    (h : s.hbmReach pos off size type = .inr (reason, t)) : reason ≠ 6 ∧ s.Near t ∧ s.ErrorsOnly t := by
  unfold State.hbmReach at h
  dsimp only at h
  split at h
  · cases h
    exact ⟨by decide, rfl, .refl s⟩
  · next d hd =>
    obtain ⟨hk, -⟩ := destOf_lt hd
    split at h
    · cases h
      exact ⟨by decide, rfl, .refl s⟩
    · split at h
      · next hrefusal =>
        cases h
        exact ⟨hbmRefusal_reason hrefusal, (s.near_refl.count _ _).capture _ _ _ _, .hbmNack s _ _ _ _ _ hk⟩
      · rw [if_neg (hs (d - 512) (by omega))] at h
        cases h

/-! ## The way of a piece in another state -/

section
variable {s t : State} (hw : s.ErrorsOnly t)
include hw

theorem State.ErrorsOnly.partExists (p : Nat) : t.partExists p = s.partExists p := by
  unfold State.partExists State.partState
  by_cases hp : p < 16
  · rw [State.fld_of_rd (f := MGMT_PARTp_STATUS_STATE p) (hw _ (by
      simp only [errorAddr, MGMT_PARTp_STATUS_STATE, MGMT_PARTp_STATUS, partBase]; omega))]
  · simp [hp]

theorem State.ErrorsOnly.partOf (q : Nat) : t.partOf q = s.partOf q := by
  unfold State.partOf State.partOfGrove
  refine List.find?_congr fun p hp => ?_
  have hp := List.mem_range.mp hp
  rw [hw.partExists, State.fld_of_rd (f := MGMT_PARTp_CFG_GRVS p) (hw _ (by
    simp only [errorAddr, MGMT_PARTp_CFG_GRVS, MGMT_PARTp_CFG, partBase]; omega))]

theorem State.ErrorsOnly.trailTo (pos : Nat) {d : Nat} (hd : d < 640) : t.trailTo pos d = s.trailTo pos d := by
  have hbase := tileBase_mod pos
  have hflag : t.epoch pos = s.epoch pos := State.flag_of_rd (f := TILE_NET_CFG_EPOCH pos) (hw _ (by
    simp only [errorAddr, TILE_NET_CFG_EPOCH, TILE_NET_CFG]; omega))
  unfold State.trailTo
  dsimp only
  rw [if_pos hd, if_pos hd, hflag]
  unfold State.trailEntry
  cases s.epoch pos with
  | false =>
    simp only [Bool.false_eq_true, if_false]
    rw [hw (TILE_NET_SRTA_CTL pos d) (by simp only [errorAddr, TILE_NET_SRTA_CTL]; omega),
      hw (TILE_NET_SRTA_NIB pos d) (by simp only [errorAddr, TILE_NET_SRTA_NIB]; omega),
      hw (TILE_NET_SRTA_NIB1 pos d) (by simp only [errorAddr, TILE_NET_SRTA_NIB1]; omega),
      hw (TILE_NET_SRTA_NIB2 pos d) (by simp only [errorAddr, TILE_NET_SRTA_NIB2]; omega)]
  | true =>
    simp only [if_true]
    rw [hw (TILE_NET_SRTB_CTL pos d) (by simp only [errorAddr, TILE_NET_SRTB_CTL]; omega),
      hw (TILE_NET_SRTB_NIB pos d) (by simp only [errorAddr, TILE_NET_SRTB_NIB]; omega),
      hw (TILE_NET_SRTB_NIB1 pos d) (by simp only [errorAddr, TILE_NET_SRTB_NIB1]; omega),
      hw (TILE_NET_SRTB_NIB2 pos d) (by simp only [errorAddr, TILE_NET_SRTB_NIB2]; omega)]

theorem State.ErrorsOnly.hbmStatus (k : Nat) : t.fld (HBM_STATUS_STATE k) = s.fld (HBM_STATUS_STATE k) :=
  State.fld_of_rd (f := HBM_STATUS_STATE k) (hw _ (by simp only [errorAddr, HBM_STATUS_STATE, HBM_STATUS, hbmBase]; omega))

/-- The words of a partition's set and grants at a controller. -/
theorem State.ErrorsOnly.hbmSet {k p : Nat} (hp : p < 16) {f : Field}
    (hf : f.reg = HBM_MAPp k p ∨ f.reg = HBM_GRANTp k p) : t.fld f = s.fld f := by
  refine State.fld_of_rd (hw _ ?_)
  rcases hf with hf | hf <;> rw [hf] <;> simp only [errorAddr, HBM_MAPp, HBM_GRANTp, hbmBase] <;> omega

theorem State.ErrorsOnly.stackAddr {p : Nat} (k : Nat) (hp : p < 16) (a : Nat) : t.stackAddr k p a = s.stackAddr k p a := by
  unfold State.stackAddr
  rw [hw.hbmSet (f := HBM_MAPp_SET k p) hp (.inl rfl), hw.hbmSet (f := HBM_MAPp_GRAN k p) hp (.inl rfl)]

end

theorem State.dspace_of_fuses {s t : State} (hf : t.fuses = s.fuses) (a : Nat) : t.dspace a = s.dspace a := by
  unfold State.dspace State.logicalCount State.hbmCapacity State.computeStacks State.groveCount
  rw [hf]

section
variable {s t : State} (hw : s.ErrorsOnly t) (hf : t.fuses = s.fuses)
include hw hf

theorem State.ErrorsOnly.destOf (pos : Nat) (a : BitVec 48) : t.destOf pos a = s.destOf pos a := by
  unfold State.destOf
  rw [State.dspace_of_fuses hf,
    State.fld_of_rd (f := GRV_HBM_MAP_SET (groveOf pos)) (hw _ (by
      simp only [errorAddr, GRV_HBM_MAP_SET, GRV_HBM_MAP, grvBase]; omega)),
    State.fld_of_rd (f := GRV_HBM_MAP_GRAN (groveOf pos)) (hw _ (by
      simp only [errorAddr, GRV_HBM_MAP_GRAN, GRV_HBM_MAP, grvBase]; omega))]

theorem State.ErrorsOnly.hbmRefusal {p : Nat} (k : Nat) (hp : p < 16) (a size type : Nat) :
    t.hbmRefusal k p a size type = s.hbmRefusal k p a size type := by
  unfold State.hbmRefusal
  rw [State.dspace_of_fuses hf, hw.hbmStatus, hw.hbmSet (f := HBM_MAPp_SET k p) hp (.inl rfl),
    hw.hbmSet (f := HBM_MAPp_GRAN k p) hp (.inl rfl), hw.hbmSet (f := HBM_GRANTp_GBASE k p) hp (.inr rfl),
    hw.hbmSet (f := HBM_GRANTp_GLIMIT k p) hp (.inr rfl)]

/-- A piece that reaches its stack reaches it while only errors are told. -/
theorem State.ErrorsOnly.hbmReach {pos off size type k a : Nat} (h : s.hbmReach pos off size type = .inl (k, a)) :
    t.hbmReach pos off size type = .inl (k, a) := by
  obtain ⟨d, hd, htrail, hrefusal, hstate, hk, ha⟩ := hbmReach_inl.mp h
  have hp : (s.partOf pos).getD 0 < 16 := by
    cases hpart : s.partOf pos with
    | none => decide
    | some p => exact State.partOf_lt hpart
  refine hbmReach_inl.mpr ⟨d, (hw.destOf hf pos _).trans hd, ?_, ?_, ?_, hk, ?_⟩
  · rw [hw.trailTo pos (destOf_lt hd).2, htrail]
  · rw [hw.partOf, hw.hbmRefusal hf _ hp, hrefusal]
  · rw [hw.hbmStatus]
    exact hstate
  · rw [hw.partOf, hw.stackAddr _ hp, ha]
end

end Sys2Proof.Machine
end

section
/-! PROOFS. Checkpoint records, gathers and scatters at their completion (O38). -/

namespace Sys2Proof.Machine

/-! ## The states of a run -/

/-- No stack is in self-refresh. -/
def State.stacksAwake (s : State) : Prop := ∀ k, k < 50 → s.fld (HBM_STATUS_STATE k) ≠ 2

/-- Every request that the controllers hold is performed. -/
def State.requestsDone (s : State) : Prop := ∀ r ∈ s.hbmReqs, r.done.isSome = true

/-- What a run of pieces leaves: the words that tell no errors, the fuses, the tiles' queues and the operations. -/
structure State.Moved (s t : State) : Prop where
  words : s.ErrorsOnly t
  fuses : t.fuses = s.fuses
  tiles : t.tiles = s.tiles
  ops : t.ops = s.ops

namespace State.Moved

theorem refl (s : State) : s.Moved s := ⟨.refl s, rfl, rfl, rfl⟩

variable {s t u : State}

theorem trans (h : s.Moved t) (k : t.Moved u) : s.Moved u :=
  ⟨h.words.trans k.words, k.fuses.trans h.fuses, k.tiles.trans h.tiles, k.ops.trans h.ops⟩

theorem of_piece (h : s.HbmPiece t) : s.Moved t := ⟨h.words, h.served.fuses, h.served.tiles, h.served.ops⟩

theorem of_near (h : s.Near t) (hw : s.ErrorsOnly t) : s.Moved t := ⟨hw, h.fuses, h.tiles, h.ops⟩

theorem spadWrite (s : State) (pos off len data poison : Nat) : s.Moved (s.spadWrite pos off len data poison) :=
  ⟨.of_csr rfl, rfl, rfl, rfl⟩

theorem spadRead (s : State) (pos off len agent : Nat) (feeder : Bool) : s.Moved (s.spadRead pos off len agent feeder).2.2 := by
  have hwords := State.ErrorsOnly.spadRead s pos off len agent feeder
  have hchecked := State.Checked.spadRead s pos off len agent feeder
  generalize (s.spadRead pos off len agent feeder).2.2 = t at hwords hchecked
  exact ⟨hwords, by rw [hchecked], hchecked.tiles, by rw [hchecked]⟩

theorem awake (h : s.Moved t) (hs : s.stacksAwake) : t.stacksAwake := fun k hk => by
  rw [h.words.hbmStatus]
  exact hs k hk

end State.Moved

theorem State.requestsDone.same {s t : State} (h : s.requestsDone) (ht : s.HbmSame t) : t.requestsDone := fun r hr => h r (ht.2 ▸ hr)

/-! ## One piece of a run -/

theorem State.hbmRead_data (s : State) (k a len part : Nat) : (s.hbmRead k a len part).1 = Mem.read s.hbm (hbmKey k a) len :=
  congrArg (Mem.read · (hbmKey k a) len) (s.hbmSame_read k a len part).1

theorem State.hbmWrite_hbm (s : State) (k a len data poison : Nat) :
    (s.hbmWrite k a len data poison).hbm = Mem.write s.hbm (hbmKey k a) len data := rfl

theorem State.spadRead_data (s : State) (pos off len agent : Nat) (feeder : Bool) :
    (s.spadRead pos off len agent feeder).1 = Mem.read s.spad (spadKey pos off) len := rfl

theorem Run.waits_of_ne {t : State} {reason a : Nat} (h : reason ≠ 6) : (⟨t, some (reason, a)⟩ : Run).waits = false := by
  unfold Run.waits
  split
  · next heq =>
    cases heq
    exact absurd rfl h
  · rfl

section
variable {r : Run} {pos off : Nat}

theorem Run.store_reaches {size k a : Nat} (data poison : Nat) (hr : r.refused = none)
    (hk : r.state.hbmReach pos off size tWRITE = .inl (k, a)) (hd : r.state.requestsDone) :
    r.store pos off size data poison = ⟨r.state.hbmWrite k a (if size = 1 then 8 else 256) data poison, none⟩ := by
  unfold Run.store
  rw [hr, hk]
  dsimp only
  rw [State.hbmDrain_done hd]
  rfl

theorem Run.fetch_reaches {k a : Nat} (dst : Nat) (hr : r.refused = none) (hk : r.state.hbmReach pos off 2 tREAD = .inl (k, a))
    (hd : r.state.requestsDone) : Mem.read (r.fetch pos off dst).state.spad (spadKey pos dst) 256 =
      Mem.read r.state.hbm (hbmKey k a) 256 % 256 ^ 256 := by
  unfold Run.fetch
  rw [hr, hk]
  dsimp only
  rw [if_neg (by decide), State.hbmDrain_done hd, State.spadWrite_spad, Mem.read_write, State.hbmRead_data]

variable (hs : r.state.stacksAwake) (hw : r.waits = false)
include hs hw

theorem Run.store_piece (size data poison : Nat) : r.state.HbmPiece (r.store pos off size data poison).state ∧
    (r.store pos off size data poison).waits = false := by
  unfold Run.store
  split
  · exact ⟨.refl _, hw⟩
  · split
    · next hreach =>
      obtain ⟨hreason, hnear, hwords⟩ := hbmReach_inr hs hreach
      exact ⟨⟨.of_near hnear, hwords⟩, Run.waits_of_ne hreason⟩
    · next hreach => exact ⟨(State.HbmPiece.hbmDrain _ (hbmReach_lt hreach) _).trans (.hbmWrite _ _ _ _ _ _), rfl⟩

/-- A fetch performs a read in HBM, and then may write its element. -/
theorem Run.fetch_piece (dst : Nat) : (r.fetch pos off dst).waits = false ∧ ∃ u, r.state.HbmPiece u ∧
    (r.state.requestsDone → r.state.HbmSame u) ∧
    ((r.fetch pos off dst).state = u ∨ ∃ data poison, (r.fetch pos off dst).state = u.spadWrite pos dst 256 data poison) := by
  unfold Run.fetch
  split
  · exact ⟨hw, _, .refl _, fun _ => ⟨rfl, rfl⟩, .inl rfl⟩
  · split
    · next hreach =>
      obtain ⟨hreason, hnear, hwords⟩ := hbmReach_inr hs hreach
      exact ⟨Run.waits_of_ne hreason, _, ⟨.of_near hnear, hwords⟩, fun _ => ⟨hnear.hbm, hnear.hbmReqs⟩, .inl rfl⟩
    · next hreach =>
      have hk := hbmReach_lt hreach
      refine ⟨rfl, _, (State.HbmPiece.hbmDrain _ hk _).trans (.hbmRead _ hk _ _ _), fun hd => ?_, .inr ⟨_, _, rfl⟩⟩
      rw [State.hbmDrain_done hd]
      exact State.hbmSame_read _ _ _ _ _
end

/-! ## Answers of the commands -/

theorem answerMover_ops {i : Instr} {s u : State} {P : State → Prop} (he : exec i s = answerMover s u)
    (hP : ∀ t, s.onlyMover t → u.MoverView t → t.ops = u.ops → P t) : yields i s P :=
  ⟨_, he, hP _ rfl ⟨rfl, rfl, rfl, rfl, rfl⟩ rfl⟩

theorem State.freeEntry_queue (s : State) (pos id : Nat) :
    ((s.freeEntry pos id).tile pos).queue = (s.tile pos).queue.filter (fun e => e.id ≠ id) := by
  rw [State.freeEntry, State.tile_modTile_same]

theorem State.freeEntry_same (s : State) (pos id : Nat) : (s.freeEntry pos id).csr = s.csr ∧ (s.freeEntry pos id).spad = s.spad ∧
    (s.freeEntry pos id).hbm = s.hbm := ⟨rfl, rfl, rfl⟩

/-! ## A checkpoint record -/

/-- Words of a record written in turn. -/
def ckptStores (pos : Nat) (e : QEntry) (l : List Nat) (r : Run) : Run :=
  l.foldl (fun (r : Run) i => r.store pos (e.off + 8 * i) 1 (e.desc.getD i 0).toNat 0) r

/-- The words of a record written. -/
def ckptRun (pos : Nat) (e : QEntry) (s : State) : Run := ckptStores pos e (List.range 130) ⟨s, none⟩

/-- The state after a record, its refusal counted. -/
def ckptEnd (pos : Nat) (r : Run) : State :=
  match r.refused with
  | some (reason, a) => r.state.movError pos 1 3 reason a
  | none => r.state

section
variable {pos : Nat} {s : State} {e : QEntry}

theorem ckptStores_piece (hs : s.stacksAwake) (l : List Nat) : s.HbmPiece (ckptStores pos e l ⟨s, none⟩).state ∧
    (ckptStores pos e l ⟨s, none⟩).waits = false :=
  List.foldlRecOn (motive := fun r : Run => s.HbmPiece r.state ∧ r.waits = false) _ _ ⟨.refl s, rfl⟩ fun _ hr i _ =>
    have hstore := Run.store_piece (pos := pos) (off := e.off + 8 * i) ((State.Moved.of_piece hr.1).awake hs) hr.2 1
      (e.desc.getD i 0).toNat 0
    ⟨hr.1.trans hstore.1, hstore.2⟩

theorem exec_checkpoint_eq (hp : pos < 576) (hhead : s.engineHead pos 1 = some e) (hkind : e.kind = .checkpoint) :
    exec (.syncCheckpointWrite pos) s = if (ckptRun pos e s).waits then idle s
      else answerMover s ((ckptEnd pos (ckptRun pos e s)).freeEntry pos e.id) := by
  rw [exec_syncCheckpointWrite, execSyncCheckpointWrite, if_neg (by omega), hhead]
  unfold ckptRun ckptStores ckptEnd
  generalize List.range 130 = l
  exact if_neg (not_not.mpr hkind)

theorem exec_checkpoint (hp : pos < 576) (hhead : s.engineHead pos 1 = some e) (hkind : e.kind = .checkpoint) (hs : s.stacksAwake) :
    exec (.syncCheckpointWrite pos) s = answerMover s ((ckptEnd pos (ckptRun pos e s)).freeEntry pos e.id) :=
  (exec_checkpoint_eq hp hhead hkind).trans (if_neg (by rw [ckptRun, (ckptStores_piece hs _).2]; decide))

theorem ckptEnd_near (r : Run) : r.state.Near (ckptEnd pos r) := by
  unfold ckptEnd
  split
  · exact (r.state.near_refl.count _ _).capture _ _ _ _
  · exact r.state.near_refl

/-- Words that all reach their stacks are written one after the other. -/
theorem ckptStores_reaches {k a : Nat → Nat} {l : List Nat}
    (hreach : ∀ i ∈ l, s.hbmReach pos (e.off + 8 * i) 1 tWRITE = .inl (k i, a i)) :
    ∀ r : Run, r.refused = none → r.state.csr = s.csr → r.state.fuses = s.fuses → r.state.requestsDone →
    (ckptStores pos e l r).refused = none ∧ (ckptStores pos e l r).state.csr = s.csr ∧
      (ckptStores pos e l r).state.hbm = l.foldl (fun m i => Mem.write m (hbmKey (k i) (a i)) 8 (e.desc.getD i 0).toNat) r.state.hbm := by
  induction l with
  | nil => exact fun r hr hcsr _ _ => ⟨hr, hcsr, rfl⟩
  | cons i l ih =>
    intro r hr hcsr hf hd
    have hi := (State.ErrorsOnly.of_csr hcsr).hbmReach hf (hreach i List.mem_cons_self)
    have hstore := Run.store_reaches (e.desc.getD i 0).toNat 0 hr hi hd
    rw [ckptStores, List.foldl_cons, hstore, List.foldl_cons]
    exact ih (fun j hj => hreach j (List.mem_cons_of_mem _ hj)) _ rfl hcsr hf hd

theorem checkpoint_yields (hp : pos < 576) (hhead : s.engineHead pos 1 = some e) (hkind : e.kind = .checkpoint) (hs : s.stacksAwake) :
    yields (.syncCheckpointWrite pos) s (fun t => (t.tile pos).queue = (s.tile pos).queue.filter (fun x => x.id ≠ e.id) ∧
      t.spad = s.spad ∧ s.onlyMover t) := by
  have hrun : s.HbmServed (ckptRun pos e s).state := (ckptStores_piece hs (List.range 130)).1.served
  have hend := ckptEnd_near (pos := pos) (ckptRun pos e s)
  obtain ⟨-, hfree, -⟩ := (ckptEnd pos (ckptRun pos e s)).freeEntry_same pos e.id
  refine answerMover_ops (exec_checkpoint hp hhead hkind hs) fun t honly ht _ => ⟨?_, ?_, honly⟩
  · rw [State.tile_congr ht.tiles, State.freeEntry_queue, State.tile_congr (hend.tiles.trans hrun.tiles)]
  · rw [ht.spad, hfree, hend.spad, hrun.spad]

theorem checkpoint_writes {k a : Nat → Nat} (hp : pos < 576) (hhead : s.engineHead pos 1 = some e) (hkind : e.kind = .checkpoint)
    (hs : s.stacksAwake) (hreach : ∀ i, i < 130 → s.hbmReach pos (e.off + 8 * i) 1 tWRITE = .inl (k i, a i)) (hd : s.requestsDone) :
    yields (.syncCheckpointWrite pos) s (fun t => t.csr = s.csr ∧
      t.hbm = (List.range 130).foldl (fun m i => Mem.write m (hbmKey (k i) (a i)) 8 (e.desc.getD i 0).toNat) s.hbm) := by
  have hrun := ckptStores_reaches (e := e) (l := List.range 130) (fun i hi => hreach i (List.mem_range.mp hi)) ⟨s, none⟩ rfl rfl rfl hd
  rw [← ckptRun] at hrun
  obtain ⟨hrefused, hcsr, hhbm⟩ := hrun
  have hend : ckptEnd pos (ckptRun pos e s) = (ckptRun pos e s).state := by
    unfold ckptEnd
    rw [hrefused]
  obtain ⟨hfcsr, -, hfhbm⟩ := (ckptEnd pos (ckptRun pos e s)).freeEntry_same pos e.id
  refine answerMover_ops (exec_checkpoint hp hhead hkind hs) fun t _ ht _ => ⟨?_, ?_⟩
  · rw [ht.csr, hfcsr, hend, hcsr]
  · rw [ht.hbm, hfhbm, hend, hhbm]
end

/-! ## The end of a gather or scatter -/

theorem errorAddr_slot {slot o : Nat} (hs : slot < 256) (ho : o < 32) : ¬ errorAddr (0x500000000 + o + slot * 32) := by
  unfold errorAddr
  omega

section
variable (s : State) (o : SeqOp) (refused : Option (Nat × Nat))

theorem State.opDone_mem (o : SeqOp) (void : Bool) : (s.opDone o void).spad = s.spad ∧ (s.opDone o void).hbm = s.hbm := by
  unfold State.opDone State.attach
  dsimp only
  split <;> exact ⟨rfl, rfl⟩

/-- The end of an operation: errors told, its parts freed, and INFLIGHT one down. -/
theorem State.opEnd_eq : ∃ u, s.opEnd o refused =
      u.setFld (SEQ_SLOTs_STATE_INFLIGHT o.slot) (u.fld (SEQ_SLOTs_STATE_INFLIGHT o.slot) - 1) ∧ s.ErrorsOnly u ∧
      u.spad = s.spad ∧ u.hbm = s.hbm ∧ u.ops = s.ops.filter (fun x => x.id ≠ o.id) := by
  cases refused with
  | none =>
    obtain ⟨hspad, hhbm⟩ := s.opDone_mem o false
    exact ⟨_, rfl, .of_csr (s.opDone_csr o false), hspad, hhbm, s.opDone_ops o false⟩
  | some x =>
    have hnear : s.Near (s.movError o.pos 0 3 x.1 x.2) := (s.near_refl.count _ _).capture _ _ _ _
    have hwords := State.ErrorsOnly.movError s o.pos 0 3 x.1 x.2
    refine ⟨_, rfl, ?_⟩
    dsimp only
    generalize s.movError o.pos 0 3 x.1 x.2 = v at hnear hwords
    obtain ⟨hspad, hhbm⟩ := v.opDone_mem { o with sb := o.sb &&& 0x7FFFFFFFFFFFFFFF#64 } false
    exact ⟨hwords.trans (.of_csr (v.opDone_csr _ false)), hspad.trans hnear.spad, hhbm.trans hnear.hbm,
      (v.opDone_ops _ false).trans (by rw [hnear.ops])⟩

theorem State.opEnd_parts : (s.opEnd o refused).spad = s.spad ∧ (s.opEnd o refused).hbm = s.hbm ∧
    (s.opEnd o refused).ops = s.ops.filter (fun x => x.id ≠ o.id) := by
  obtain ⟨u, hu, -, hparts⟩ := s.opEnd_eq o refused
  rw [hu]
  exact hparts

theorem State.opEnd_inflight (hslot : o.slot < 256) : (s.opEnd o refused).fld (SEQ_SLOTs_STATE_INFLIGHT o.slot) =
    s.fld (SEQ_SLOTs_STATE_INFLIGHT o.slot) - 1 := by
  obtain ⟨u, hu, hwords, -⟩ := s.opEnd_eq o refused
  have hfl : u.fld (SEQ_SLOTs_STATE_INFLIGHT o.slot) = s.fld (SEQ_SLOTs_STATE_INFLIGHT o.slot) :=
    State.fld_of_rd (f := SEQ_SLOTs_STATE_INFLIGHT o.slot) (hwords _ (errorAddr_slot hslot (by decide)))
  have hlt := s.fld_lt (SEQ_SLOTs_STATE_INFLIGHT o.slot)
  rw [hu, State.fld_setFld_same _ _ (show 7 + 9 ≤ 64 by decide), hfl]
  exact Nat.mod_eq_of_lt (by omega)

theorem State.opEnd_length (hslot : o.slot < 256) : (s.opEnd o refused).fld (SEQ_SLOTs_LEN_LENGTH o.slot) =
    s.fld (SEQ_SLOTs_LEN_LENGTH o.slot) := by
  obtain ⟨u, hu, hwords, -⟩ := s.opEnd_eq o refused
  rw [hu, State.fld_setFld_other (f := SEQ_SLOTs_STATE_INFLIGHT o.slot) (g := SEQ_SLOTs_LEN_LENGTH o.slot) _ _
    (by simp only [SEQ_SLOTs_STATE_INFLIGHT, SEQ_SLOTs_STATE, SEQ_SLOTs_LEN_LENGTH, SEQ_SLOTs_LEN]; omega)]
  exact State.fld_of_rd (f := SEQ_SLOTs_LEN_LENGTH o.slot) (hwords _ (errorAddr_slot hslot (by decide)))
end

/-! ## A gather -/

theorem spadKey_add (pos off n : Nat) : spadKey pos (off + n) = spadKey pos off + n := (Nat.add_assoc _ _ _).symm

theorem hbmKey_add (k a n : Nat) : hbmKey k (a + n) = hbmKey k a + n := (Nat.add_assoc _ _ _).symm

/-- A byte of a scratchpad outside every stream element of a gather. -/
def SeqOp.outside (o : SeqOp) (b : Nat) : Prop :=
  ∀ i, i < o.flag.toNat + o.rows * o.units → b < spadKey o.pos (o.element i) ∨ spadKey o.pos (o.element i + 256) ≤ b

/-- What a gather under way leaves. -/
structure Run.Gathers (o : SeqOp) (s : State) (r : Run) : Prop where
  moved : s.Moved r.state
  ready : r.waits = false
  spad : ∀ b, o.outside b → Mem.byte r.state.spad b = Mem.byte s.spad b
  hbm : s.requestsDone → s.HbmSame r.state

section
variable {o : SeqOp} {s : State} {i : Nat} (hi : i < o.flag.toNat + o.rows * o.units)
include hi

theorem SeqOp.outside.spadWrite {b : Nat} (hb : o.outside b) (u : State) (data poison : Nat) :
    Mem.byte (u.spadWrite o.pos (o.element i) 256 data poison).spad b = Mem.byte u.spad b := by
  rw [State.spadWrite_spad]
  refine Mem.byte_write_outside _ _ _ _ _ ?_
  have houtside := hb i hi
  rw [spadKey_add] at houtside
  exact houtside

theorem Run.Gathers.write {r : Run} (h : r.Gathers o s) (data poison : Nat) :
    (⟨r.state.spadWrite o.pos (o.element i) 256 data poison, none⟩ : Run).Gathers o s :=
  ⟨h.moved.trans (.spadWrite _ _ _ _ _ _), rfl, fun b hb => (hb.spadWrite hi _ _ _).trans (h.spad b hb), h.hbm⟩

theorem Run.Gathers.fetch {r : Run} (h : r.Gathers o s) (hs : s.stacksAwake) (off : Nat) :
    (r.fetch o.pos off (o.element i)).Gathers o s := by
  obtain ⟨hready, u, hu, hsame, hstate⟩ := Run.fetch_piece (pos := o.pos) (off := off) (h.moved.awake hs) h.ready (o.element i)
  have hspad (b : Nat) (hb : o.outside b) : Mem.byte u.spad b = Mem.byte s.spad b := by
    rw [hu.served.spad]
    exact h.spad b hb
  have hhbm (hd : s.requestsDone) : s.HbmSame u :=
    have hrun := h.hbm hd
    have hlast := hsame (hd.same hrun)
    ⟨hlast.1.trans hrun.1, hlast.2.trans hrun.2⟩
  have hmoved := h.moved.trans (.of_piece hu)
  rcases hstate with hstate | ⟨data, poison, hstate⟩
  · exact ⟨hstate ▸ hmoved, hready, hstate ▸ hspad, hstate ▸ hhbm⟩
  · have hwrite := Run.Gathers.write hi (r := ⟨u, none⟩) ⟨hmoved, rfl, hspad, hhbm⟩ data poison
    exact ⟨hstate ▸ hwrite.moved, hready, hstate ▸ hwrite.spad, hstate ▸ hwrite.hbm⟩
end

section
variable {o : SeqOp} {s : State} {n len : Nat} {w : List W64}

theorem gatherHeader_gathers : (⟨gatherHeader o w s, none⟩ : Run).Gathers o s := by
  have hstart : (⟨s, none⟩ : Run).Gathers o s := ⟨.refl s, rfl, fun _ _ => rfl, fun _ => ⟨rfl, rfl⟩⟩
  unfold gatherHeader
  split
  · next hflag => exact hstart.write (i := 0) (by rw [hflag]; exact Nat.lt_of_lt_of_le Nat.one_pos (Nat.le_add_right _ _)) _ _
  · exact hstart

theorem gatherRows_gathers (hs : s.stacksAwake) : (gatherRows o len w ⟨gatherHeader o w s, none⟩).Gathers o s := by
  refine List.foldlRecOn (motive := fun r : Run => r.Gathers o s) _ _ gatherHeader_gathers fun r hr i hi => ?_
  have hi : o.flag.toNat + i < o.flag.toNat + o.rows * o.units := Nat.add_lt_add_left (List.mem_range.mp hi) _
  dsimp only
  split_ifs
  · exact hr
  · exact hr.fetch hi hs _
  · exact hr.write hi _ _

theorem exec_gather (h : s.readyOp n false = some (o, len, w)) (hs : s.stacksAwake) : exec (.gatherComplete n) s =
    answerMover s ((gatherRows o len w ⟨gatherHeader o w s, none⟩).state.opEnd o
      (gatherRows o len w ⟨gatherHeader o w s, none⟩).refused) := by
  rw [exec_gatherComplete, execGatherComplete, h]
  exact if_neg (by rw [(gatherRows_gathers hs).ready]; decide)

/-- A gather of one element. -/
theorem gatherRows_one (hflag : o.flag = false) (hone : o.rows * o.units = 1) : gatherRows o len w ⟨gatherHeader o w s, none⟩ =
    if o.first < len then (⟨s, none⟩ : Run).fetch o.pos (slotOffset w o.units o.first 0) (o.element 0)
    else ⟨s.spadWrite o.pos (o.element 0) 256 (repeatWord (bitsOf (slotWord w 2) 32 32) 64) 0, none⟩ := by
  have hunits : o.units = 1 := Nat.eq_one_of_mul_eq_one_left hone
  unfold gatherRows gatherHeader
  rw [hone, hflag, hunits]
  rfl

theorem gather_yields (h : s.readyOp n false = some (o, len, w)) (hslot : o.slot < 256) (hs : s.stacksAwake) :
    yields (.gatherComplete n) s (fun t => s.onlyMover t ∧ t.ops = s.ops.filter (fun x => x.id ≠ o.id) ∧
      t.fld (SEQ_SLOTs_STATE_INFLIGHT o.slot) = s.fld (SEQ_SLOTs_STATE_INFLIGHT o.slot) - 1 ∧ (s.requestsDone → t.hbm = s.hbm) ∧
      (∀ b, o.outside b → Mem.byte t.spad b = Mem.byte s.spad b) ∧
      (o.flag = false → o.rows * o.units = 1 → len ≤ o.first →
        Mem.read t.spad (spadKey o.pos (o.element 0)) 256 = repeatWord (bitsOf (slotWord w 2) 32 32) 64 % 256 ^ 256) ∧
      (∀ k a, o.flag = false → o.rows = 1 → o.units = 1 → o.first < len → s.requestsDone →
        s.hbmReach o.pos (slotOffset w 1 o.first 0) 2 tREAD = .inl (k, a) →
        Mem.read t.spad (spadKey o.pos (o.element 0)) 256 = Mem.read s.hbm (hbmKey k a) 256 % 256 ^ 256)) := by
  have hrun := gatherRows_gathers (o := o) (len := len) (w := w) hs
  have hone := gatherRows_one (o := o) (s := s) (len := len) (w := w)
  have he := exec_gather h hs
  generalize gatherRows o len w ⟨gatherHeader o w s, none⟩ = r at hrun hone he
  obtain ⟨hspad, hhbm, hops⟩ := r.state.opEnd_parts o r.refused
  refine answerMover_ops he fun t honly ht htops => ⟨honly, ?_, ?_, fun hd => ?_, fun b hb => ?_, fun hflag hn hlen => ?_,
    fun k a hflag hrows hunits hlen hd hreach => ?_⟩
  · rw [htops, hops, hrun.moved.ops]
  · rw [State.fld_congr ht.csr, State.opEnd_inflight _ _ _ hslot,
      State.fld_of_rd (f := SEQ_SLOTs_STATE_INFLIGHT o.slot) (hrun.moved.words _ (errorAddr_slot hslot (by decide)))]
  · rw [ht.hbm, hhbm]
    exact (hrun.hbm hd).1
  · rw [ht.spad, hspad]
    exact hrun.spad b hb
  · rw [ht.spad, hspad, hone hflag hn, if_neg (by omega), State.spadWrite_spad, Mem.read_write]
  · rw [ht.spad, hspad, hone hflag (by rw [hrows, hunits]), if_pos hlen, hunits]
    exact Run.fetch_reaches _ rfl hreach hd
end

/-! ## A scatter -/

section
variable {o : SeqOp} {s : State} {n len : Nat} {w : List W64}

/-- The rows of a scatter change no byte of a scratchpad. -/
theorem scatterRows_moved (hs : s.stacksAwake) : s.Moved (scatterRows o w s).state ∧ (scatterRows o w s).waits = false ∧
    (scatterRows o w s).state.spad = s.spad := by
  refine List.foldlRecOn (motive := fun r : Run => s.Moved r.state ∧ r.waits = false ∧ r.state.spad = s.spad) _ _
    ⟨.refl s, rfl, rfl⟩ fun r hr i _ => ?_
  obtain ⟨hmoved, hready, hspad⟩ := hr
  dsimp only
  split
  · exact ⟨hmoved, hready, hspad⟩
  · have hread := State.Moved.spadRead r.state o.pos (o.element i) 256 8 false
    have hreadSpad : (r.state.spadRead o.pos (o.element i) 256 8 false).2.2.spad = r.state.spad :=
      (State.Checked.spadRead r.state o.pos (o.element i) 256 8 false).served.spadSame.1
    generalize r.state.spadRead o.pos (o.element i) 256 8 false = d at hread hreadSpad
    have hall := hmoved.trans hread
    obtain ⟨hpiece, hwaits⟩ := Run.store_piece (r := { r with state := d.2.2 }) (pos := o.pos)
      (off := slotOffset w o.units (o.first + i / o.units) (i % o.units)) (hall.awake hs) hready 2 d.1 d.2.1
    exact ⟨hall.trans (.of_piece hpiece), hwaits, hpiece.served.spad.trans (hreadSpad.trans hspad)⟩

/-- A scatter of one element whose row reaches its stack. -/
theorem scatterRows_one {k a : Nat} (hrows : o.rows = 1) (hunits : o.units = 1) (hd : s.requestsDone)
    (hreach : s.hbmReach o.pos (slotOffset w 1 o.first 0) 2 tWRITE = .inl (k, a)) : (scatterRows o w s).refused = none ∧
    (scatterRows o w s).state.hbm = Mem.write s.hbm (hbmKey k a) 256 (Mem.read s.spad (spadKey o.pos (o.element 0)) 256) := by
  have hread := State.Moved.spadRead s o.pos (o.element 0) 256 8 false
  have hchecked := State.Checked.spadRead s o.pos (o.element 0) 256 8 false
  have hone : scatterRows o w s = ({ state := (s.spadRead o.pos (o.element 0) 256 8 false).2.2, refused := none } : Run).store o.pos
      (slotOffset w 1 o.first 0) 2 (s.spadRead o.pos (o.element 0) 256 8 false).1
      (s.spadRead o.pos (o.element 0) 256 8 false).2.1 := by
    unfold scatterRows
    rw [hrows, hunits, Nat.mul_one, List.range_one, List.foldl_cons, List.foldl_nil]
    simp only [Option.isSome_none, Bool.false_eq_true, if_false, Nat.zero_div, Nat.zero_mod, Nat.add_zero]
  have hdata := s.spadRead_data o.pos (o.element 0) 256 8 false
  rw [hone]
  generalize s.spadRead o.pos (o.element 0) 256 8 false = d at hread hchecked hdata
  have hdone : d.2.2.requestsDone := fun r hr => hd r (by rw [hchecked] at hr; exact hr)
  have hstore := Run.store_reaches (r := ⟨d.2.2, none⟩) d.1 d.2.1 rfl (hread.words.hbmReach hread.fuses hreach) hdone
  have hhbm : d.2.2.hbm = s.hbm := by rw [hchecked]
  rw [hstore]
  dsimp only
  rw [State.hbmWrite_hbm, hdata, hhbm, if_neg (by decide)]
  exact ⟨rfl, rfl⟩

theorem State.near_advanceLength (u : State) (o : SeqOp) : u.Near (u.advanceLength o) :=
  .ite _ u.near_refl (.ite _ (u.near_refl.setFld _ _) (u.near_seqReject _ _ _ _))

theorem State.inflight_advanceLength (u : State) (o : SeqOp) :
    (u.advanceLength o).fld (SEQ_SLOTs_STATE_INFLIGHT o.slot) = u.fld (SEQ_SLOTs_STATE_INFLIGHT o.slot) := by
  unfold State.advanceLength
  split_ifs
  · rfl
  · exact u.fld_setFld_other (f := SEQ_SLOTs_LEN_LENGTH o.slot) (g := SEQ_SLOTs_STATE_INFLIGHT o.slot) _
      (by simp only [SEQ_SLOTs_STATE_INFLIGHT, SEQ_SLOTs_STATE, SEQ_SLOTs_LEN_LENGTH, SEQ_SLOTs_LEN]; omega)
  · exact u.fld_seqReject o.slot 4 o.logical true rfl (show 7 + 9 ≤ 40 by decide)

theorem State.length_advanceLength {u : State} {o : SeqOp} (hflag : o.flag = true)
    (h : u.fld (SEQ_SLOTs_LEN_LENGTH o.slot) = o.first) (hlt : o.first + o.rows < 2 ^ 24) :
    (u.advanceLength o).fld (SEQ_SLOTs_LEN_LENGTH o.slot) = o.first + o.rows := by
  unfold State.advanceLength
  rw [if_neg (by rw [hflag]; decide), if_pos h, State.fld_setFld_same _ _ (show 0 + 24 ≤ 64 by decide)]
  exact Nat.mod_eq_of_lt hlt

theorem State.advanceLength_plain {u : State} {o : SeqOp} (hflag : o.flag = false) : u.advanceLength o = u :=
  if_pos (by rw [hflag]; decide)

/-- The state that a scatter ends in, before its end. -/
def scatterEnd (o : SeqOp) (r : Run) : State := if r.refused.isSome then r.state else r.state.advanceLength o

theorem exec_scatter (h : s.readyOp n true = some (o, len, w)) (hs : s.stacksAwake) : exec (.scatterComplete n) s =
    answerMover s ((scatterEnd o (scatterRows o w s)).opEnd o (scatterRows o w s).refused) := by
  rw [exec_scatterComplete, execScatterComplete, h]
  exact if_neg (by rw [(scatterRows_moved hs).2.1]; decide)

theorem near_scatterEnd (r : Run) : r.state.Near (scatterEnd o r) := .ite _ r.state.near_refl (r.state.near_advanceLength o)

theorem inflight_scatterEnd (r : Run) :
    (scatterEnd o r).fld (SEQ_SLOTs_STATE_INFLIGHT o.slot) = r.state.fld (SEQ_SLOTs_STATE_INFLIGHT o.slot) := by
  unfold scatterEnd
  split
  · rfl
  · exact r.state.inflight_advanceLength o

theorem scatter_yields (h : s.readyOp n true = some (o, len, w)) (hslot : o.slot < 256) (hs : s.stacksAwake) :
    yields (.scatterComplete n) s (fun t => s.onlyMover t ∧ t.spad = s.spad ∧ t.ops = s.ops.filter (fun x => x.id ≠ o.id) ∧
      t.fld (SEQ_SLOTs_STATE_INFLIGHT o.slot) = s.fld (SEQ_SLOTs_STATE_INFLIGHT o.slot) - 1 ∧
      (∀ k a, o.rows = 1 → o.units = 1 → s.requestsDone → s.hbmReach o.pos (slotOffset w 1 o.first 0) 2 tWRITE = .inl (k, a) →
        Mem.read t.hbm (hbmKey k a) 256 = Mem.read s.spad (spadKey o.pos (o.element 0)) 256 % 256 ^ 256 ∧
        s.hbmKept t k a (a + 256) ∧
        (o.flag = true → s.fld (SEQ_SLOTs_LEN_LENGTH o.slot) = o.first → o.first + 1 < 2 ^ 24 →
          t.fld (SEQ_SLOTs_LEN_LENGTH o.slot) = o.first + 1) ∧
        (o.flag = false → t.fld (SEQ_SLOTs_LEN_LENGTH o.slot) = s.fld (SEQ_SLOTs_LEN_LENGTH o.slot)))) := by
  obtain ⟨hmoved, -, hrunSpad⟩ := scatterRows_moved (o := o) (w := w) hs
  have hone {k a : Nat} := scatterRows_one (o := o) (s := s) (w := w) (k := k) (a := a)
  have he := exec_scatter h hs
  generalize scatterRows o w s = r at hmoved hrunSpad hone he
  have hnear := near_scatterEnd (o := o) r
  obtain ⟨hspad, hhbm, hops⟩ := (scatterEnd o r).opEnd_parts o r.refused
  have hslotWord {f : Field} {a : Nat} (ha : a < 32) (hf : f.reg.addr = 0x500000000 + a + o.slot * 32) : r.state.fld f = s.fld f :=
    State.fld_of_rd (hmoved.words _ (hf ▸ errorAddr_slot hslot ha))
  refine answerMover_ops he fun t honly ht htops => ⟨honly, ?_, ?_, ?_, fun k a hrows hunits hd hreach => ?_⟩
  · rw [ht.spad, hspad, hnear.spad, hrunSpad]
  · rw [htops, hops, hnear.ops, hmoved.ops]
  · rw [State.fld_congr ht.csr, State.opEnd_inflight _ _ _ hslot, inflight_scatterEnd,
      hslotWord (f := SEQ_SLOTs_STATE_INFLIGHT o.slot) (a := 0x18) (by decide) rfl]
  · obtain ⟨hrefused, hwritten⟩ := hone hrows hunits hd hreach
    have hmem : t.hbm = Mem.write s.hbm (hbmKey k a) 256 (Mem.read s.spad (spadKey o.pos (o.element 0)) 256) :=
      ht.hbm.trans (hhbm.trans (hnear.hbm.trans hwritten))
    have hend : scatterEnd o r = r.state.advanceLength o := if_neg (by rw [hrefused]; decide)
    have hlength : r.state.fld (SEQ_SLOTs_LEN_LENGTH o.slot) = s.fld (SEQ_SLOTs_LEN_LENGTH o.slot) :=
      hslotWord (f := SEQ_SLOTs_LEN_LENGTH o.slot) (a := 8) (by decide) rfl
    have hfld : t.fld (SEQ_SLOTs_LEN_LENGTH o.slot) = (r.state.advanceLength o).fld (SEQ_SLOTs_LEN_LENGTH o.slot) := by
      rw [State.fld_congr ht.csr, State.opEnd_length _ _ _ hslot, hend]
    refine ⟨by rw [hmem, Mem.read_write], fun b hb => ?_, fun hflag hfirst hlt => ?_, fun hflag => ?_⟩
    · rw [hmem]
      rw [hbmKey_add] at hb
      exact Mem.byte_write_outside _ _ _ _ _ hb
    · rw [hfld, State.length_advanceLength hflag (hlength.trans hfirst) (hrows ▸ hlt), hrows]
    · rw [hfld, State.advanceLength_plain hflag, hlength]
end

/-- Settles O38: no piece meets a stack in self-refresh, so each command comes; a run changes only words that tell errors. -/
theorem hbmQueueEntries : Obligations.HbmQueueEntries := by
  unfold Obligations.HbmQueueEntries
  exact ⟨fun pos s e hp hhead hkind hs => ⟨checkpoint_yields hp hhead hkind hs,
      fun k a hreach hd => checkpoint_writes hp hhead hkind hs hreach hd⟩,
    fun n len s o w h hslot hs => gather_yields h hslot hs, fun n len s o w h hslot hs => scatter_yields h hslot hs⟩

end Sys2Proof.Machine
end

section
/-! PROOFS. What the host bridge sends and errors change (O54). -/

namespace Sys2Proof.Machine

/-! ## Frames of the bridge's commands -/

/-- `t` is `s` but for what the host bridge touches at one time. -/
def State.BridgeFrame (s t : State) : Prop :=
  t = { s with
    csr := t.csr, faults := t.faults, net := t.net, creditUsed := t.creditUsed, creditBack := t.creditBack
    msgs := t.msgs, sync := t.sync, bridge := t.bridge, answer := t.answer }

namespace State.BridgeFrame

theorem refl (s : State) : s.BridgeFrame s := rfl

variable {s t u : State}

theorem trans (h : s.BridgeFrame t) (k : t.BridgeFrame u) : s.BridgeFrame u := by
  unfold State.BridgeFrame at h k ⊢
  rw [k, h]

theorem of_near (h : s.Near t) : s.BridgeFrame t := by
  unfold State.Near at h
  unfold State.BridgeFrame
  rw [h]

theorem clk (h : s.BridgeFrame t) : t.clk = s.clk := by rw [h]
theorem fuses (h : s.BridgeFrame t) : t.fuses = s.fuses := by rw [h]

theorem onlyBridge (h : s.BridgeFrame t) : s.onlyBridge t := by
  unfold State.BridgeFrame at h
  unfold State.onlyBridge
  rw [h]

end State.BridgeFrame

theorem answer_bridgeFrame {s t : State} (h : s.BridgeFrame t) : answer s t = .next t := by
  rw [answer_eq]
  unfold State.BridgeFrame at h
  rw [h]

theorem yields_bridgeFrame {i : Instr} {s t : State} {P : State → Prop} (h : s.BridgeFrame t) (he : exec i s = answer s t) (hP : P t) :
    yields i s P :=
  ⟨t, he.trans (answer_bridgeFrame h), hP⟩

/-! ## Packets put on the bridge's channel -/

/-- A property of packets that does not look at their way. -/
def Pkt.Wayless (P : Pkt → Prop) : Prop := ∀ p nibs ptr, P p → P { p with nibs := nibs, ptr := ptr }

theorem Pkt.wayless_fromBridge (type size part tag a : Nat) : Pkt.Wayless (fun p => p.fromBridge type size part tag a) :=
  fun _ _ _ h => h

/-- `t` is `s` but for packets put on the bridge's channel: the mesh, its credits and the packets that wait. -/
def State.PutOut (s t : State) : Prop :=
  t = { s with net := t.net, creditUsed := t.creditUsed, bridge := { s.bridge with out := t.bridge.out } }

namespace State.PutOut

variable {s t u : State}

theorem trans (h : s.PutOut t) (k : t.PutOut u) : s.PutOut u := by
  unfold State.PutOut at h k ⊢
  rw [k, h]

theorem frame (h : s.PutOut t) : s.BridgeFrame t := by
  unfold State.PutOut at h
  unfold State.BridgeFrame
  rw [h]

theorem csr (h : s.PutOut t) : t.csr = s.csr := by rw [h]
theorem msgs (h : s.PutOut t) : t.msgs = s.msgs := by rw [h]
theorem buffers (h : s.PutOut t) : t.bridge.buffers = s.bridge.buffers := by rw [h]
theorem track (h : s.PutOut t) : t.bridge.track = s.bridge.track := by rw [h]
theorem trails (h : s.PutOut t) : t.bridge.trails = s.bridge.trails := by rw [h]
theorem syncs (h : s.PutOut t) : t.bridge.syncs = s.bridge.syncs := by rw [h]
theorem faulted (h : s.PutOut t) : t.bridge.faulted = s.bridge.faulted := by rw [h]

end State.PutOut

theorem State.putOut_bridgeOut (l : List (Pkt × List Nat)) :
    ∀ (s : State) (kept : List (Pkt × List Nat)), s.PutOut (s.bridgeOut l kept) := by
  induction l with
  | nil => exact fun _ _ => rfl
  | cons x l ih =>
    intro s kept
    unfold State.bridgeOut
    dsimp only
    split
    · exact ih _ _
    · exact State.PutOut.trans (t := (s.takeCredits (linkKey (x.2.headD 0) 24) (classOf x.1.type) x.1.flits).place
        { x.1 with nibs := x.2.drop 1, ptr := 0 } (.router (x.2.headD 0) 6)) rfl (ih _ _)

/-- Items of the mesh stay, and each packet enters the mesh or waits. -/
theorem State.sent_bridgeOut {P : Pkt → Prop} (hP : Pkt.Wayless P) (l : List (Pkt × List Nat)) :
    ∀ (s : State) (kept : List (Pkt × List Nat)), ((∃ x, x ∈ s.net ∧ P x.pkt) ∨ ∃ e, e ∈ l ++ kept ∧ P e.1) →
      (s.bridgeOut l kept).bridgeSent P := by
  induction l with
  | nil => exact fun _ _ h => h
  | cons x l ih =>
    intro s kept h
    unfold State.bridgeOut
    dsimp only
    split
    · refine ih _ _ (h.imp_right fun ⟨e, he, hp⟩ => ⟨e, ?_, hp⟩)
      simp only [List.mem_append, List.mem_cons, List.not_mem_nil, or_false] at he ⊢
      tauto
    · refine ih _ _ ?_
      rcases h with ⟨y, hy, hp⟩ | ⟨e, he, hp⟩
      · exact .inl ⟨y, List.mem_append_left _ hy, hp⟩
      · rcases List.mem_cons.mp he with rfl | he
        · exact .inl ⟨_, List.mem_append_right _ (List.mem_singleton_self _), hP _ _ _ hp⟩
        · exact .inr ⟨e, he, hp⟩

/-- One packet on an empty channel. -/
theorem State.bridgeOut_one (s : State) (p : Pkt) (l : List Nat) : s.bridgeOut [(p, l)] [] =
    if s.credits (linkKey (l.headD 0) 24) (classOf p.type) < p.flits then { s with bridge := { s.bridge with out := [(p, l)] } }
    else { (s.takeCredits (linkKey (l.headD 0) 24) (classOf p.type) p.flits).place { p with nibs := l.drop 1, ptr := 0 }
      (.router (l.headD 0) 6) with bridge := { s.bridge with out := [] } } := by
  unfold State.bridgeOut
  dsimp only
  by_cases h : s.credits (linkKey (l.headD 0) 24) (classOf p.type) < p.flits
  · rw [if_pos (by rw [List.any_nil, Bool.false_or]; exact decide_eq_true h), if_pos h]
    rfl
  · rw [if_neg (by rw [List.any_nil, Bool.false_or, decide_eq_false h]; decide), if_neg h]
    rfl

/-- A packet put on the channel is on its way, at once where none waits and the channel has the credits. -/
theorem State.bridgeSends_put {s : State} {p : Pkt} {l : List Nat} {P : Pkt → Prop} (hP : Pkt.Wayless P) (hp : P p) :
    s.bridgeSends (s.bridgePut p l) l (classOf p.type) p.flits P := by
  refine ⟨State.sent_bridgeOut hP _ _ _ (.inr ⟨(p, l), by simp, hp⟩), fun hout => ?_⟩
  have hone : s.bridgePut p l = s.bridgeOut [(p, l)] [] := by rw [State.bridgePut, hout, List.nil_append]
  rw [hone, State.bridgeOut_one]
  refine ⟨fun hcredits => ?_, fun hcredits => ?_⟩
  · rw [if_neg (by omega)]
    exact ⟨rfl, _, rfl, hP _ _ _ hp⟩
  · rw [if_pos hcredits]
    exact ⟨rfl, _, rfl, rfl, hp⟩

theorem State.sent_bridgePut {s : State} {P : Pkt → Prop} (hP : Pkt.Wayless P) (p : Pkt) (l : List Nat) (h : s.bridgeSent P) :
    (s.bridgePut p l).bridgeSent P :=
  State.sent_bridgeOut hP _ _ _ (h.imp_right fun ⟨e, he, hp⟩ =>
    ⟨e, by rw [List.append_nil]; exact List.mem_append_left _ he, hp⟩)

/-! ## Errors of the bridge -/

/-- A word other than the bridge's error counter and capture. -/
def Reg.noBridgeError (r : Reg) : Prop := r.addr ≠ MGMT_HBR_ERR_CNT.addr ∧ r.addr ≠ MGMT_HBR_ERR_CAP.addr

/-- What an error of the bridge leaves: all but its counter and capture, records and interrupts. -/
structure State.ErrorTold (s t : State) : Prop where
  frame : t = { s with csr := t.csr, faults := t.faults, bridge := { s.bridge with interrupts := t.bridge.interrupts } }
  words : ∀ r : Reg, r.noBridgeError → t.rd r = s.rd r

namespace State.ErrorTold

variable {s t u : State}

theorem trans (h : s.ErrorTold t) (k : t.ErrorTold u) : s.ErrorTold u := by
  refine ⟨?_, fun r hr => (k.words r hr).trans (h.words r hr)⟩
  have hf := h.frame
  have kf := k.frame
  rw [kf, hf]

theorem bridgeFrame (h : s.ErrorTold t) : s.BridgeFrame t := by
  unfold State.BridgeFrame
  rw [h.frame]

theorem net (h : s.ErrorTold t) : t.net = s.net := by rw [h.frame]
theorem msgs (h : s.ErrorTold t) : t.msgs = s.msgs := by rw [h.frame]
theorem buffers (h : s.ErrorTold t) : t.bridge.buffers = s.bridge.buffers := by rw [h.frame]
theorem out (h : s.ErrorTold t) : t.bridge.out = s.bridge.out := by rw [h.frame]
theorem track (h : s.ErrorTold t) : t.bridge.track = s.bridge.track := by rw [h.frame]
theorem trails (h : s.ErrorTold t) : t.bridge.trails = s.bridge.trails := by rw [h.frame]
theorem syncs (h : s.ErrorTold t) : t.bridge.syncs = s.bridge.syncs := by rw [h.frame]
theorem faulted (h : s.ErrorTold t) : t.bridge.faulted = s.bridge.faulted := by rw [h.frame]

theorem irq (s : State) (n : Nat) : s.ErrorTold (s.irq n) := by
  refine ⟨?_, fun r _ => State.rd_congr (State.irq_csr s n) r⟩
  unfold State.irq
  split <;> rfl

theorem wrCap (s : State) (v : Nat) : s.ErrorTold (s.wr MGMT_HBR_ERR_CAP v) := ⟨rfl, fun _ hr => s.rd_wr_ne v hr.2⟩

end State.ErrorTold

/-- The counter of the bridge's refused writes. -/
def bridgeErrors : Counter := ⟨MGMT_HBR_ERR_CNT, srcDev 6, 0x208⟩

section
variable (s : State) (reason window kind hcore a : Nat)

theorem State.told_count : s.ErrorTold (s.count bridgeErrors 1) := by
  have hnear := s.near_refl.count bridgeErrors 1
  refine ⟨?_, fun r hr => s.rd_count_ne _ _ hr.1⟩
  unfold State.Near at hnear
  rw [hnear]

theorem State.told_capture : s.ErrorTold (s.bridgeCapture reason window kind hcore a) := by
  unfold State.bridgeCapture
  split
  · exact ⟨rfl, fun _ _ => rfl⟩
  · exact (State.ErrorTold.wrCap s _).trans (.irq _ _)

theorem State.count_capture : (s.bridgeCapture reason window kind hcore a).rd MGMT_HBR_ERR_CNT = s.rd MGMT_HBR_ERR_CNT := by
  unfold State.bridgeCapture
  split
  · rfl
  · rw [State.rd_congr (State.irq_csr _ _), State.rd_wr_ne _ _ (by decide)]

/-- A capture takes its reason while it holds none. -/
theorem State.reason_capture (hr : reason < 16) (hv : s.flag MGMT_HBR_ERR_CAP_VALID = false) :
    bitsOf ((s.bridgeCapture reason window kind hcore a).rd MGMT_HBR_ERR_CAP) 0 4 = reason := by
  unfold State.bridgeCapture
  rw [if_neg (by rw [hv]; decide), State.rd_congr (State.irq_csr _ _), State.rd_wr_same, bitsOf_zero_eq_mod]
  simp only [packFields]
  omega
end

section
variable {s : State} {t : BTrack} {reason : Nat}

theorem State.bridgeError_write (h : t.read = none) : s.bridgeError t reason =
    (s.count bridgeErrors 1).bridgeCapture reason t.window 0 t.hcore t.pkt.addr.toNat := by
  unfold State.bridgeError
  rw [h]
  rfl

theorem State.bridgeError_read (h : t.read.isSome = true) : s.bridgeError t reason =
    (s.bridgeCapture reason t.window 1 t.hcore t.pkt.addr.toNat).hostFault := by
  obtain ⟨x, hx⟩ := Option.isSome_iff_exists.mp h
  unfold State.bridgeError
  rw [hx]

theorem State.told_errorWrite (h : t.read = none) : s.ErrorTold (s.bridgeError t reason) := by
  rw [State.bridgeError_write h]
  exact s.told_count.trans (State.told_capture _ _ _ _ _ _)

theorem State.counted_errorWrite (h : t.read = none) : s.countedBy (s.bridgeError t reason) MGMT_HBR_ERR_CNT 1 := by
  rw [State.bridgeError_write h]
  exact State.countedBy_of_rd (s.countedBy_count bridgeErrors 1) (State.count_capture _ _ _ _ _ _)

/-- What an error leaves, of a read or a write. -/
theorem State.bridgeError_same : s.BridgeFrame (s.bridgeError t reason) ∧ (s.bridgeError t reason).net = s.net ∧
    (s.bridgeError t reason).bridge.track = s.bridge.track ∧ (s.bridgeError t reason).bridge.syncs = s.bridge.syncs := by
  cases h : t.read with
  | none =>
    have htold := State.told_errorWrite (s := s) (reason := reason) h
    exact ⟨htold.bridgeFrame, htold.net, htold.track, htold.syncs⟩
  | some x =>
    have htold := s.told_capture reason t.window 1 t.hcore t.pkt.addr.toNat
    rw [State.bridgeError_read (by rw [h]; rfl)]
    exact ⟨htold.bridgeFrame.trans rfl, htold.net, htold.track, htold.syncs⟩

theorem State.reason_error (hr : reason < 16) (hv : s.flag MGMT_HBR_ERR_CAP_VALID = false) :
    bitsOf ((s.bridgeError t reason).rd MGMT_HBR_ERR_CAP) 0 4 = reason := by
  cases h : t.read with
  | none =>
    rw [State.bridgeError_write h]
    refine State.reason_capture _ _ _ _ _ _ hr ?_
    rw [State.flag_of_rd (f := MGMT_HBR_ERR_CAP_VALID) (s.rd_count_ne bridgeErrors 1 (by decide)), hv]
  | some x =>
    rw [State.bridgeError_read (by rw [h]; rfl)]
    exact State.reason_capture _ _ _ _ _ _ hr hv

theorem State.faulted_errorRead (h : t.read.isSome = true) :
    (s.bridgeError t reason).bridge.faulted = true ∧ (s.bridgeError t reason).answer = [] := by
  rw [State.bridgeError_read h]
  exact ⟨rfl, rfl⟩
end

/-! ## What a packet's way depends on -/

/-- What decides the bridge's trails and partitions is in `t` as in `s`. -/
structure State.SameWays (s t : State) : Prop where
  fuses : t.fuses = s.fuses
  trails : t.bridge.trails = s.bridge.trails
  words : ∀ r : Reg, r.noBridgeError → t.rd r = s.rd r

namespace State.SameWays

theorem refl (s : State) : s.SameWays s := ⟨rfl, rfl, fun _ _ => rfl⟩

variable {s t u : State}

theorem trans (h : s.SameWays t) (k : t.SameWays u) : s.SameWays u :=
  ⟨k.fuses.trans h.fuses, k.trails.trans h.trails, fun r hr => (k.words r hr).trans (h.words r hr)⟩

theorem of_put (h : s.PutOut t) : s.SameWays t := ⟨h.frame.fuses, h.trails, fun r _ => State.rd_congr h.csr r⟩

theorem of_told (h : s.ErrorTold t) : s.SameWays t := ⟨h.bridgeFrame.fuses, h.trails, h.words⟩

variable (h : s.SameWays t)
include h

theorem bridgeTrail (p : Pkt) : t.bridgeTrail p = s.bridgeTrail p := by
  unfold State.bridgeTrail State.bridgeDest
  rw [State.dspace_of_fuses h.fuses, h.trails,
    State.fld_of_rd (f := MGMT_PARTp_HBMSET_SET p.part) (h.words _ ⟨by
      simp only [MGMT_PARTp_HBMSET_SET, MGMT_PARTp_HBMSET, partBase, MGMT_HBR_ERR_CNT]; omega, by
      simp only [MGMT_PARTp_HBMSET_SET, MGMT_PARTp_HBMSET, partBase, MGMT_HBR_ERR_CAP]; omega⟩),
    State.fld_of_rd (f := MGMT_PARTp_CFG_GRAN p.part) (h.words _ ⟨by
      simp only [MGMT_PARTp_CFG_GRAN, MGMT_PARTp_CFG, partBase, MGMT_HBR_ERR_CNT]; omega, by
      simp only [MGMT_PARTp_CFG_GRAN, MGMT_PARTp_CFG, partBase, MGMT_HBR_ERR_CAP]; omega⟩)]

theorem windowPart {w : Nat} (hw : w < 16) : t.fld (MGMT_HWINw_PART w) = s.fld (MGMT_HWINw_PART w) :=
  State.fld_of_rd (f := MGMT_HWINw_PART w) (h.words _ ⟨by
    simp only [MGMT_HWINw_PART, MGMT_HWINw, MGMT_HBR_ERR_CNT]; omega, by
    simp only [MGMT_HWINw_PART, MGMT_HWINw, MGMT_HBR_ERR_CAP]; omega⟩)

theorem bridgeWay {w : Nat} (hw : w < 16) (a : Nat) : t.bridgeWay w a = s.bridgeWay w a := by
  unfold State.bridgeWay
  rw [h.bridgeTrail, h.windowPart hw]

end State.SameWays

/-! ## Writes sent -/

/-- What sending writes leaves: the ways, the buffers, the waiting sync commands and the fault of the last access; packets
already on their way stay there. -/
structure State.Sends (s t : State) : Prop where
  frame : s.BridgeFrame t
  ways : s.SameWays t
  msgs : t.msgs = s.msgs
  buffers : t.bridge.buffers = s.bridge.buffers
  syncs : t.bridge.syncs = s.bridge.syncs
  faulted : t.bridge.faulted = s.bridge.faulted
  sent : ∀ P : Pkt → Prop, Pkt.Wayless P → s.bridgeSent P → t.bridgeSent P

namespace State.Sends

theorem refl (s : State) : s.Sends s := ⟨.refl s, .refl s, rfl, rfl, rfl, rfl, fun _ _ h => h⟩

variable {s t u : State}

theorem trans (h : s.Sends t) (k : t.Sends u) : s.Sends u :=
  ⟨h.frame.trans k.frame, h.ways.trans k.ways, k.msgs.trans h.msgs, k.buffers.trans h.buffers, k.syncs.trans h.syncs,
    k.faulted.trans h.faulted, fun P hP hs => k.sent P hP (h.sent P hP hs)⟩

theorem of_told (h : s.ErrorTold t) : s.Sends t :=
  ⟨h.bridgeFrame, .of_told h, h.msgs, h.buffers, h.syncs, h.faulted, fun P _ hs => by
    unfold State.bridgeSent
    rw [h.net, h.out]
    exact hs⟩

variable (s)

theorem put (p : Pkt) (l : List Nat) : s.Sends (s.bridgePut p l) := by
  have h : s.PutOut (s.bridgePut p l) := State.putOut_bridgeOut _ _ _
  exact ⟨h.frame, .of_put h, h.msgs, h.buffers, h.syncs, h.faulted, fun P hP hs => State.sent_bridgePut hP p l hs⟩

theorem tracked (m : SMap BTrack) : s.Sends { s with bridge := { s.bridge with track := m } } :=
  ⟨rfl, ⟨rfl, rfl, fun _ _ => rfl⟩, rfl, rfl, rfl, rfl, fun _ _ hs => hs⟩

theorem next : s.Sends s.bridgeNext.2 := ⟨rfl, ⟨rfl, rfl, fun _ _ => rfl⟩, rfl, rfl, rfl, rfl, fun _ _ hs => hs⟩

end State.Sends

/-- The tracking entry of a packet sent now. -/
def BTrack.sentNow (t : BTrack) (s : State) : BTrack := { t with sent := s.now, gen := s.bridge.gen }

theorem State.bridgeSend_some {s : State} {t : BTrack} {l : List Nat} (h : s.bridgeTrail t.pkt = some l) : s.bridgeSend t =
    ({ s with bridge := { s.bridge with track := s.bridge.track.insert t.pkt.tag (t.sentNow s) } } : State).bridgePut t.pkt l := by
  unfold State.bridgeSend
  rw [h]
  rfl

theorem State.bridgeSend_none {s : State} {t : BTrack} (h : s.bridgeTrail t.pkt = none) : s.bridgeSend t = s.bridgeError t 4 := by
  unfold State.bridgeSend
  rw [h]

theorem State.bridgeSends_send {s : State} {t : BTrack} {l : List Nat} {P : Pkt → Prop} (h : s.bridgeTrail t.pkt = some l)
    (hP : Pkt.Wayless P) (hp : P t.pkt) : s.bridgeSends (s.bridgeSend t) l (classOf t.pkt.type) t.pkt.flits P := by
  rw [State.bridgeSend_some h]
  exact State.bridgeSends_put (s := { s with bridge := { s.bridge with track := s.bridge.track.insert t.pkt.tag (t.sentNow s) } }) hP hp

theorem State.sends_send (s : State) {t : BTrack} (ht : t.read = none) : s.Sends (s.bridgeSend t) := by
  cases h : s.bridgeTrail t.pkt with
  | none =>
    rw [State.bridgeSend_none h]
    exact .of_told (State.told_errorWrite ht)
  | some l =>
    rw [State.bridgeSend_some h]
    exact (State.Sends.tracked s _).trans (.put _ _ _)

/-! ## Words of a buffer -/

/-- The packet of a buffer's word. -/
def State.wordPkt (s : State) (b : WcBuf) (i : Nat) : Pkt :=
  { s.bridgeNext.2.bridgePkt b.window s.bridge.nextTag tWRITE 1 (b.block + 8 * i) with
    inlineW := BitVec.ofNat 64 (bitsOf b.data.toNat (64 * i) 64) }

/-- The packet of a full buffer. -/
def State.blockPkt (s : State) (b : WcBuf) : Pkt :=
  { s.bridgeNext.2.bridgePkt b.window s.bridge.nextTag tWRITE 2 b.block with payload := b.data }

/-- The entry of a write of a buffer. -/
def WcBuf.track (b : WcBuf) (p : Pkt) : BTrack := ⟨p, b.window, b.hcore, none, b.order, 0, none, 0, false, 0⟩

theorem State.sendWord_eq (s : State) (b : WcBuf) (i : Nat) : s.sendWord b i = s.bridgeNext.2.bridgeSend (b.track (s.wordPkt b i)) := rfl

theorem State.sendBlock_eq (s : State) (b : WcBuf) : s.sendBlock b = s.bridgeNext.2.bridgeSend (b.track (s.blockPkt b)) := rfl

section
variable (s : State) (b : WcBuf)

theorem State.sends_word (i : Nat) : s.Sends (s.sendWord b i) := by
  rw [State.sendWord_eq]
  exact (State.Sends.next s).trans (State.sends_send _ rfl)

theorem State.sends_block : s.Sends (s.sendBlock b) := by
  rw [State.sendBlock_eq]
  exact (State.Sends.next s).trans (State.sends_send _ rfl)

/-- Such an INLINE write of a word of a buffer of a window of partition `part`. -/
def WcBuf.wordSent (b : WcBuf) (part i tag : Nat) (p : Pkt) : Prop :=
  p.fromBridge tWRITE 1 part tag (b.block + 8 * i) ∧ p.inlineW = BitVec.ofNat 64 (bitsOf b.data.toNat (64 * i) 64)

theorem WcBuf.wayless_wordSent (part i tag : Nat) : Pkt.Wayless (b.wordSent part i tag) := fun _ _ _ h => h

theorem State.sent_word {i : Nat} (h : s.bridgeWay b.window (b.block + 8 * i) ≠ none) :
    (s.sendWord b i).bridgeSent (b.wordSent (s.fld (MGMT_HWINw_PART b.window)) i s.bridge.nextTag) := by
  obtain ⟨l, hl⟩ := Option.ne_none_iff_exists'.mp h
  have htrail : s.bridgeNext.2.bridgeTrail (b.track (s.wordPkt b i)).pkt = some l := hl
  rw [State.sendWord_eq]
  exact (State.bridgeSends_send htrail (b.wayless_wordSent _ i _) ⟨⟨rfl, rfl, rfl, rfl, rfl, rfl⟩, rfl⟩).1

theorem State.sends_words : s.Sends (s.sendWords b) :=
  List.foldlRecOn (motive := fun u => s.Sends u) _ _ (.refl s) fun u hu i _ => by
    split
    · exact hu.trans (u.sends_word b i)
    · exact hu

/-- Each word stored in a buffer, that the bridge has a trail for, is sent. -/
theorem State.wordsSent_words (hw : b.window < 16) : s.wordsSent (s.sendWords b) b := by
  have hfold (l : List Nat) : ∀ u : State, s.Sends u → ∀ i ∈ l, b.words.getLsbD i = true →
      s.bridgeWay b.window (b.block + 8 * i) ≠ none →
      ∃ tag, (l.foldl (fun (s : State) i => if b.words.getLsbD i then s.sendWord b i else s) u).bridgeSent
        (b.wordSent (s.fld (MGMT_HWINw_PART b.window)) i tag) := by
    induction l with
    | nil => exact fun _ _ _ hi => absurd hi List.not_mem_nil
    | cons j l ih =>
      intro u hu i hi hword hway
      rw [List.foldl_cons]
      have hnext : s.Sends (if b.words.getLsbD j then u.sendWord b j else u) := by
        split
        · exact hu.trans (u.sends_word b j)
        · exact hu
      rcases List.mem_cons.mp hi with rfl | hi
      · rw [if_pos hword]
        refine ⟨u.bridge.nextTag, ?_⟩
        have hsent := u.sent_word b (i := i) (by rw [hu.ways.bridgeWay hw]; exact hway)
        rw [hu.ways.windowPart hw] at hsent
        have hrest : (u.sendWord b i).Sends
            (l.foldl (fun (s : State) i => if b.words.getLsbD i then s.sendWord b i else s) (u.sendWord b i)) :=
          List.foldlRecOn (motive := fun v => (u.sendWord b i).Sends v) _ _ (.refl _) fun v hv j _ => by
            split
            · exact hv.trans (v.sends_word b j)
            · exact hv
        exact hrest.sent _ (b.wayless_wordSent _ i _) hsent
      · exact ih _ hnext i hi hword hway
  exact fun i hi hword hway => hfold _ s (.refl s) i (List.mem_range.mpr hi) hword hway
end

/-! ## Sync accesses released -/

/-- What the release of sync accesses leaves: the packets, the buffers and the tracked accesses; it faults none. -/
structure State.Released (s t : State) : Prop where
  frame : s.BridgeFrame t
  net : t.net = s.net
  bridge : t.bridge = { s.bridge with syncs := t.bridge.syncs, faulted := t.bridge.faulted }
  fine : s.bridge.faulted = false → t.bridge.faulted = false

namespace State.Released

theorem refl (s : State) : s.Released s := ⟨.refl s, rfl, rfl, id⟩

variable {s t u : State}

theorem trans (h : s.Released t) (k : t.Released u) : s.Released u :=
  ⟨h.frame.trans k.frame, k.net.trans h.net, by rw [k.bridge, h.bridge], fun hf => k.fine (h.fine hf)⟩

theorem of_near (h : s.Near t) : s.Released t := ⟨.of_near h, h.net, by rw [h.bridge], fun hf => by rw [h.bridge, hf]⟩

theorem buffers (h : s.Released t) : t.bridge.buffers = s.bridge.buffers := by rw [h.bridge]

theorem sent (h : s.Released t) {P : Pkt → Prop} (hs : s.bridgeSent P) : t.bridgeSent P := by
  unfold State.bridgeSent
  rw [h.net, h.bridge]
  exact hs

theorem windowSync (s : State) (c : BSync) (v : W64) : s.Released (s.windowSync c v) := by
  unfold State.windowSync
  dsimp only
  split
  · exact ⟨rfl, rfl, rfl, id⟩
  · split
    · split
      · exact .of_near ((s.near_refl.count _ _).capture _ _ _ _)
      · exact ⟨rfl, rfl, rfl, id⟩
    · exact .of_near (s.near_refl.raise _ _ _)

theorem syncNow (s : State) (c : BSync) : s.Released (s.syncNow c) := by
  unfold State.syncNow
  split
  · exact windowSync s c _
  · exact ⟨rfl, rfl, rfl, fun _ => rfl⟩

theorem releaseSyncs (s : State) : s.Released s.releaseSyncs :=
  List.foldlRecOn (motive := fun u => s.Released u) _ _ ⟨rfl, rfl, rfl, id⟩ fun u hu c _ => hu.trans (syncNow u c)

end State.Released

theorem State.setSyncs_same {s : State} {l : List BSync} (h : s.bridge.syncs = l) :
    { s with bridge := { s.bridge with syncs := l } } = s := by
  subst h
  rfl

/-- With no sync access waiting, none is released. -/
theorem State.releaseSyncs_none {s : State} (h : s.bridge.syncs = []) : s.releaseSyncs = s := by
  unfold State.releaseSyncs
  rw [h]
  exact State.setSyncs_same h

/-- The only sync access is done where no earlier write of its core is under way, and else waits. -/
theorem State.releaseSyncs_one {s : State} {c : BSync} (h : s.bridge.syncs = [c]) : s.releaseSyncs =
    if s.earlierWrites c.hcore c.order = true then s else ({ s with bridge := { s.bridge with syncs := [] } } : State).syncNow c := by
  unfold State.releaseSyncs
  rw [h]
  cases he : s.earlierWrites c.hcore c.order with
  | true =>
    simp only [List.filter_cons, he, Bool.not_true, Bool.false_eq_true, if_false, if_true, List.filter_nil, List.foldl_nil]
    exact State.setSyncs_same h
  | false =>
    simp only [List.filter_cons, he, Bool.not_false, Bool.false_eq_true, if_false, if_true, List.filter_nil, List.foldl_cons,
      List.foldl_nil]

end Sys2Proof.Machine
end

section
/-! PROOFS. Stores and loads of the host's data windows (O54). -/

namespace Sys2Proof.Machine

/-! ## Stores combined -/

/-- `t` is `s` but for what a combined store changes, no message sent and no access faulted among it. -/
structure State.Stored (s t : State) : Prop where
  frame : s.BridgeFrame t
  msgs : t.msgs = s.msgs
  faulted : t.bridge.faulted = s.bridge.faulted

namespace State.Stored

theorem refl (s : State) : s.Stored s := ⟨.refl s, rfl, rfl⟩

variable {s t u : State}

theorem trans (h : s.Stored t) (k : t.Stored u) : s.Stored u :=
  ⟨h.frame.trans k.frame, k.msgs.trans h.msgs, k.faulted.trans h.faulted⟩

theorem of_sends (h : s.Sends t) : s.Stored t := ⟨h.frame, h.msgs, h.faulted⟩

end State.Stored

/-- The state with other combining buffers. -/
def State.withBuffers (s : State) (l : List WcBuf) : State := { s with bridge := { s.bridge with buffers := l } }

theorem State.stored_withBuffers (s : State) (l : List WcBuf) : s.Stored (s.withBuffers l) := ⟨rfl, rfl, rfl⟩

theorem State.ways_withBuffers (s : State) (l : List WcBuf) : s.SameWays (s.withBuffers l) := ⟨rfl, rfl, fun _ _ => rfl⟩

/-- Whether a buffer is that of a store. -/
def WcBuf.takes (w hcore a : Nat) (b : WcBuf) : Bool :=
  decide (b.window = w) && decide (b.hcore = hcore) && decide (b.block = a / 256 * 256)

/-- A buffer with a word stored. -/
def WcBuf.stored (b : WcBuf) (i : Nat) (v : W64) : WcBuf :=
  { b with data := BitVec.ofNat 2048 (setBitsOf b.data.toNat (64 * i) 64 v.toNat)
           words := BitVec.ofNat 32 (setBitsOf b.words.toNat i 1 1) }

/-- A word stored in its buffer, which goes out when it is full. -/
def State.storedIn (s : State) (w hcore a : Nat) (v : W64) (b : WcBuf) : State :=
  if (b.stored (a % 256 / 8) v).words = BitVec.allOnes 32 then
    (s.withBuffers (s.bridge.buffers.filter (fun x => !x.takes w hcore a))).sendBlock (b.stored (a % 256 / 8) v)
  else s.withBuffers (s.bridge.buffers.map (fun x => if x.takes w hcore a then b.stored (a % 256 / 8) v else x))

/-- Room for a new buffer: the oldest goes out where all 16 are taken. -/
def State.roomMade (s : State) : State :=
  if s.bridge.buffers.length < 16 then s
  else match s.bridge.buffers with
    | [] => s
    | b :: rest => (s.withBuffers rest).sendWords b

/-- A new buffer for a store. -/
def State.newBuffer (s : State) (w hcore a : Nat) : WcBuf := ⟨w, hcore, a / 256 * 256, 0, 0, s.bridge.nextTag⟩

/-- The state with a new buffer for a store. -/
def State.opened (s : State) (w hcore a : Nat) : State := s.bridgeNext.2.withBuffers (s.bridge.buffers ++ [s.newBuffer w hcore a])

section
variable (s : State) (w hcore a : Nat) (v : W64)

theorem State.newBuffer_takes : (s.newBuffer w hcore a).takes w hcore a = true := by
  simp [WcBuf.takes, State.newBuffer]

/-- The state in which a store finds its buffer. -/
def State.bufferReady : State :=
  if (s.bridge.buffers.find? (WcBuf.takes w hcore a)).isSome then s else s.roomMade.opened w hcore a

theorem State.combineStore_some {b : WcBuf} (h : (s.bufferReady w hcore a).bridge.buffers.find? (WcBuf.takes w hcore a) = some b) :
    s.combineStore w hcore a v = (s.bufferReady w hcore a).storedIn w hcore a v b := by
  unfold State.combineStore
  dsimp only
  generalize hready : (if (List.find? _ s.bridge.buffers).isSome = true then s else _) = u
  have hu : u = s.bufferReady w hcore a := hready.symm
  unfold WcBuf.takes at h
  rw [hu, h]
  rfl

theorem State.bufferReady_some {b : WcBuf} (h : s.bridge.buffers.find? (WcBuf.takes w hcore a) = some b) :
    s.bufferReady w hcore a = s :=
  if_pos (by rw [h]; rfl)

theorem State.bufferReady_none (h : s.bridge.buffers.find? (WcBuf.takes w hcore a) = none) :
    s.bufferReady w hcore a = s.roomMade.opened w hcore a :=
  if_neg (by rw [h]; decide)

theorem State.combineStore_found {b : WcBuf} (h : s.bridge.buffers.find? (WcBuf.takes w hcore a) = some b) :
    s.combineStore w hcore a v = s.storedIn w hcore a v b := by
  have hready := s.bufferReady_some w hcore a h
  rw [s.combineStore_some w hcore a v (b := b) (by rw [hready, h]), hready]

theorem State.combineStore_none (h : s.bridge.buffers.find? (WcBuf.takes w hcore a) = none)
    (hroom : s.roomMade.bridge.buffers.find? (WcBuf.takes w hcore a) = none) :
    s.combineStore w hcore a v = (s.roomMade.opened w hcore a).storedIn w hcore a v (s.roomMade.newBuffer w hcore a) := by
  have hready := s.bufferReady_none w hcore a h
  have hnew : (s.roomMade.opened w hcore a).bridge.buffers.find? (WcBuf.takes w hcore a) = some (s.roomMade.newBuffer w hcore a) := by
    show (s.roomMade.bridge.buffers ++ [s.roomMade.newBuffer w hcore a]).find? (WcBuf.takes w hcore a) = _
    rw [List.find?_append, hroom, Option.none_or, List.find?_cons_of_pos (s.roomMade.newBuffer_takes w hcore a)]
  rw [s.combineStore_some w hcore a v (b := s.roomMade.newBuffer w hcore a) (by rw [hready, hnew]), hready]

theorem State.withBuffers_buffers (l : List WcBuf) : (s.withBuffers l).bridge.buffers = l := rfl

theorem State.newBuffer_stored (i : Nat) : (s.newBuffer w hcore a).stored i v = (⟨w, hcore, a / 256 * 256,
    BitVec.ofNat 2048 (setBitsOf 0 (64 * i) 64 v.toNat), BitVec.ofNat 32 (setBitsOf 0 i 1 1), s.bridge.nextTag⟩ : WcBuf) := by
  simp only [WcBuf.stored, State.newBuffer, BitVec.ofNat_eq_ofNat, BitVec.toNat_zero]

theorem State.stored_storedIn (b : WcBuf) : s.Stored (s.storedIn w hcore a v b) := by
  unfold State.storedIn
  split
  · exact (s.stored_withBuffers _).trans (.of_sends (State.sends_block _ _))
  · exact s.stored_withBuffers _

theorem State.stored_opened : s.Stored (s.opened w hcore a) := ⟨rfl, rfl, rfl⟩

theorem State.roomMade_room (h : s.bridge.buffers.length < 16) : s.roomMade = s := if_pos h

theorem State.roomMade_full {b : WcBuf} {r : List WcBuf} (hb : s.bridge.buffers = b :: r) (h : 16 ≤ s.bridge.buffers.length) :
    s.roomMade = (s.withBuffers r).sendWords b := by
  unfold State.roomMade
  rw [if_neg (by omega), hb]

theorem State.stored_roomMade : s.Stored s.roomMade := by
  unfold State.roomMade
  split
  · exact .refl s
  · split
    · exact .refl s
    · exact (s.stored_withBuffers _).trans (.of_sends (State.sends_words _ _))

/-- Making room opens no buffer of the block. -/
theorem State.roomMade_none (h : s.bridge.buffers.find? (WcBuf.takes w hcore a) = none) :
    s.roomMade.bridge.buffers.find? (WcBuf.takes w hcore a) = none := by
  by_cases hlen : s.bridge.buffers.length < 16
  · rw [s.roomMade_room hlen, h]
  · cases hb : s.bridge.buffers with
    | nil => exact absurd (hb ▸ Nat.lt_of_sub_pos (by decide)) hlen
    | cons b r =>
      rw [s.roomMade_full hb (by omega), (State.sends_words _ b).buffers]
      rw [hb, List.find?_eq_none] at h
      exact List.find?_eq_none.mpr fun x hx => h x (List.mem_cons_of_mem _ hx)

theorem State.stored_combineStore : s.Stored (s.combineStore w hcore a v) := by
  cases h : s.bridge.buffers.find? (WcBuf.takes w hcore a) with
  | none =>
    rw [s.combineStore_none w hcore a v h (s.roomMade_none w hcore a h)]
    exact (s.stored_roomMade.trans (s.roomMade.stored_opened w hcore a)).trans (State.stored_storedIn _ _ _ _ _ _)
  | some b =>
    rw [s.combineStore_found w hcore a v h]
    exact s.stored_storedIn _ _ _ _ _

/-- A store in a new buffer leaves its other words. -/
theorem State.storedIn_opened : (s.opened w hcore a).storedIn w hcore a v (s.newBuffer w hcore a) =
    (s.opened w hcore a).withBuffers ((s.bridge.buffers ++ [s.newBuffer w hcore a]).map
      (fun x => if x.takes w hcore a then (s.newBuffer w hcore a).stored (a % 256 / 8) v else x)) := by
  have hwords : ∀ i < 32, BitVec.ofNat 32 (setBitsOf 0 i 1 1) ≠ BitVec.allOnes 32 := by decide
  exact if_neg (hwords (a % 256 / 8) (by omega))

theorem buffers_opened {l : List WcBuf} {b c : WcBuf} (h : l.find? (WcBuf.takes w hcore a) = none) (hb : b.takes w hcore a = true) :
    (l ++ [b]).map (fun x => if x.takes w hcore a then c else x) = l ++ [c] := by
  rw [List.map_append, List.map_cons, List.map_nil, if_pos hb]
  congr 1
  exact (List.map_congr_left fun x hx => if_neg (List.find?_eq_none.mp h x hx)).trans (List.map_id' l)
end

/-! ## A store through a window -/

/-- Sending is the same from a state with the same mesh and channel. -/
theorem State.bridgeSends_congr {s u t : State} {l : List Nat} {cls flits : Nat} {P : Pkt → Prop} (hn : u.net = s.net)
    (hout : u.bridge.out = s.bridge.out) (hused : u.creditUsed = s.creditUsed) (hback : u.creditBack = s.creditBack)
    (h : u.bridgeSends t l cls flits P) : s.bridgeSends t l cls flits P := by
  unfold State.bridgeSends State.credits at h ⊢
  rw [hn, hout, hused, hback] at h
  exact h

theorem State.bridgeSent_congr {s t : State} {P : Pkt → Prop} (hn : t.net = s.net) (hout : t.bridge.out = s.bridge.out)
    (h : s.bridgeSent P) : t.bridgeSent P := by
  unfold State.bridgeSent
  rw [hn, hout]
  exact h

theorem Pkt.wayless_payload (type size part tag a : Nat) (d : Vec) :
    Pkt.Wayless (fun p => p.fromBridge type size part tag a ∧ p.payload = d) := fun _ _ _ h => h

section
variable (s : State) {w : Nat} (hcore a : Nat) (v : W64)

theorem State.sent_full {b : WcBuf} (hb : b.window = w) (l : List WcBuf) {r : List Nat} (h : s.bridgeWay w b.block = some r) :
    s.bridgeSends ((s.withBuffers l).sendBlock b) r 0 4 (fun p =>
      p.fromBridge tWRITE 2 (s.fld (MGMT_HWINw_PART w)) s.bridge.nextTag b.block ∧ p.payload = b.data) := by
  subst hb
  have htrail : (s.withBuffers l).bridgeNext.2.bridgeTrail (b.track ((s.withBuffers l).blockPkt b)).pkt = some r := h
  have hsends := State.bridgeSends_send htrail
    (Pkt.wayless_payload tWRITE 2 (s.fld (MGMT_HWINw_PART b.window)) s.bridge.nextTag b.block b.data)
    ⟨⟨rfl, rfl, rfl, rfl, rfl, rfl⟩, rfl⟩
  rw [State.sendBlock_eq]
  exact State.bridgeSends_congr rfl rfl rfl rfl hsends

/-- A new buffer puts no packet on its way. -/
theorem State.opened_sent (l : List WcBuf) : ((s.opened w hcore a).withBuffers l).net = s.net ∧
    ((s.opened w hcore a).withBuffers l).bridge.out = s.bridge.out := ⟨rfl, rfl⟩

/-- A store that no buffer takes opens one. -/
theorem State.combineStore_opens (hnone : s.bridge.buffers.find? (WcBuf.takes w hcore a) = none) :
    s.combineStore w hcore a v = (s.roomMade.opened w hcore a).withBuffers (s.roomMade.bridge.buffers ++
      [(⟨w, hcore, a / 256 * 256, BitVec.ofNat 2048 (setBitsOf 0 (64 * (a % 256 / 8)) 64 v.toNat),
        BitVec.ofNat 32 (setBitsOf 0 (a % 256 / 8) 1 1), s.roomMade.bridge.nextTag⟩ : WcBuf)]) := by
  have hroom := s.roomMade_none w hcore a hnone
  rw [s.combineStore_none w hcore a v hnone hroom, State.storedIn_opened,
    buffers_opened w hcore a hroom (State.newBuffer_takes _ _ _ _), State.newBuffer_stored]

/-- With all 16 buffers taken the oldest goes out for a new one. -/
theorem State.combined_full {b : WcBuf} {r : List WcBuf} (hnone : s.bridge.buffers.find? (WcBuf.takes w hcore a) = none)
    (hbufs : s.bridge.buffers = b :: r) (hlen : 16 ≤ s.bridge.buffers.length) (hbw : b.window < 16) :
    (∃ n, (s.combineStore w hcore a v).bridge.buffers = r ++ [(⟨w, hcore, a / 256 * 256,
      BitVec.ofNat 2048 (setBitsOf 0 (64 * (a % 256 / 8)) 64 v.toNat), BitVec.ofNat 32 (setBitsOf 0 (a % 256 / 8) 1 1), n⟩ : WcBuf)]) ∧
    s.wordsSent (s.combineStore w hcore a v) b := by
  have hmade := s.roomMade_full hbufs hlen
  have hsends := (s.withBuffers r).sends_words b
  have hwords := (s.withBuffers r).wordsSent_words b hbw
  have hways := s.ways_withBuffers r
  rw [s.combineStore_opens hcore a v hnone]
  rw [← hmade] at hsends hwords
  generalize s.roomMade = u at hsends hwords
  obtain ⟨hnet, hout⟩ := u.opened_sent (w := w) hcore a (u.bridge.buffers ++ [(⟨w, hcore, a / 256 * 256,
    BitVec.ofNat 2048 (setBitsOf 0 (64 * (a % 256 / 8)) 64 v.toNat), BitVec.ofNat 32 (setBitsOf 0 (a % 256 / 8) 1 1),
    u.bridge.nextTag⟩ : WcBuf)])
  refine ⟨⟨u.bridge.nextTag, ?_⟩, fun i hi hword hway => ?_⟩
  · rw [State.withBuffers_buffers, hsends.buffers, State.withBuffers_buffers]
  · obtain ⟨tag, htag⟩ := hwords i hi hword (by rw [hways.bridgeWay hbw]; exact hway)
    rw [hways.windowPart hbw] at htag
    exact ⟨tag, State.bridgeSent_congr hnet hout htag⟩

/-- With room a new buffer is opened, and nothing is sent. -/
theorem State.combined_new (hnone : s.bridge.buffers.find? (WcBuf.takes w hcore a) = none) (hlen : s.bridge.buffers.length < 16) :
    (s.combineStore w hcore a v).net = s.net ∧
    (s.combineStore w hcore a v).bridge.buffers = s.bridge.buffers ++ [(⟨w, hcore, a / 256 * 256,
      BitVec.ofNat 2048 (setBitsOf 0 (64 * (a % 256 / 8)) 64 v.toNat), BitVec.ofNat 32 (setBitsOf 0 (a % 256 / 8) 1 1),
      s.bridge.nextTag⟩ : WcBuf)] := by
  rw [s.combineStore_opens hcore a v hnone, s.roomMade_room hlen, State.withBuffers_buffers]
  exact ⟨(s.opened_sent hcore a _).1, rfl⟩

/-- A store in a buffer that stays short of full. -/
theorem State.combined_part {b : WcBuf} (hsome : s.bridge.buffers.find? (WcBuf.takes w hcore a) = some b)
    (hwords : (b.stored (a % 256 / 8) v).words ≠ BitVec.allOnes 32) : (s.combineStore w hcore a v).net = s.net ∧
    (s.combineStore w hcore a v).bridge.buffers =
      s.bridge.buffers.map (fun x => if x.takes w hcore a = true then b.stored (a % 256 / 8) v else x) := by
  rw [s.combineStore_found w hcore a v hsome, State.storedIn, if_neg hwords]
  exact ⟨rfl, rfl⟩

/-- A store that fills its buffer. -/
theorem State.combined_block {b : WcBuf} (hsome : s.bridge.buffers.find? (WcBuf.takes w hcore a) = some b)
    (hwords : (b.stored (a % 256 / 8) v).words = BitVec.allOnes 32) :
    (s.combineStore w hcore a v).bridge.buffers = s.bridge.buffers.filter (fun x => !x.takes w hcore a) ∧
    ∀ l, s.bridgeWay w b.block = some l → s.bridgeSends (s.combineStore w hcore a v) l 0 4 (fun p =>
      p.fromBridge tWRITE 2 (s.fld (MGMT_HWINw_PART w)) s.bridge.nextTag b.block ∧ p.payload = (b.stored (a % 256 / 8) v).data) := by
  have htakes : b.takes w hcore a = true := List.find?_some hsome
  have hb : b.window = w := by
    simp only [WcBuf.takes, Bool.and_eq_true, decide_eq_true_eq] at htakes
    exact htakes.1.1
  rw [s.combineStore_found w hcore a v hsome, State.storedIn, if_pos hwords]
  exact ⟨(State.sends_block _ _).buffers, fun l hl => s.sent_full (b := b.stored (a % 256 / 8) v) hb _ hl⟩

theorem State.combined_combineStore : s.combined (s.combineStore w hcore a v) w hcore a v :=
  ⟨fun _ _ hnone hbufs hlen hbw => s.combined_full hcore a v hnone hbufs hlen hbw, fun hnone hlen => s.combined_new hcore a v hnone hlen,
    fun _ hsome => ⟨fun hwords => s.combined_part hcore a v hsome hwords, fun hwords => s.combined_block hcore a v hsome hwords⟩⟩
end

/-! ## Sync accesses -/

/-- The state with a sync access put in order. -/
def State.queued (s : State) (hcore w o : Nat) (command : Option W64) : State :=
  { s.bridgeNext.2 with bridge := { s.bridgeNext.2.bridge with
      syncs := s.bridge.syncs ++ [(⟨hcore, w, o, command, s.bridge.nextTag⟩ : BSync)] } }

theorem State.windowQueue_eq (s : State) (hcore w o : Nat) (command : Option W64) :
    s.windowQueue hcore w o command = (s.queued hcore w o command).releaseSyncs := rfl

section
variable (s : State) (hcore w o : Nat) (command : Option W64)

theorem State.windowQueue_same : s.BridgeFrame (s.windowQueue hcore w o command) ∧ (s.windowQueue hcore w o command).net = s.net ∧
    (s.windowQueue hcore w o command).bridge.buffers = s.bridge.buffers ∧
    (s.bridge.faulted = false → (s.windowQueue hcore w o command).bridge.faulted = false) := by
  have h := State.Released.releaseSyncs (s.queued hcore w o command)
  rw [State.windowQueue_eq]
  exact ⟨State.BridgeFrame.trans (t := s.queued hcore w o command) rfl h.frame, h.net, h.buffers, h.fine⟩

theorem State.windowQueue_waits (h : s.bridge.syncs = []) (he : s.earlierWrites hcore s.bridge.nextTag = true) :
    s.windowQueue hcore w o command = s.queued hcore w o command ∧
    (s.queued hcore w o command).bridge.syncs = [(⟨hcore, w, o, command, s.bridge.nextTag⟩ : BSync)] := by
  have hone : (s.queued hcore w o command).bridge.syncs = [(⟨hcore, w, o, command, s.bridge.nextTag⟩ : BSync)] := by
    unfold State.queued
    rw [h]
    rfl
  refine ⟨?_, hone⟩
  rw [State.windowQueue_eq, State.releaseSyncs_one hone]
  exact if_pos he

/-- The order of a sync access done, which no longer waits. -/
def State.ordered (s : State) : State := { s.bridgeNext.2 with bridge := { s.bridgeNext.2.bridge with syncs := [] } }

theorem State.windowQueue_done (h : s.bridge.syncs = []) (he : s.earlierWrites hcore s.bridge.nextTag = false) :
    s.windowQueue hcore w o command = s.ordered.syncNow ⟨hcore, w, o, command, s.bridge.nextTag⟩ := by
  have hone : (s.queued hcore w o command).bridge.syncs = [(⟨hcore, w, o, command, s.bridge.nextTag⟩ : BSync)] := by
    unfold State.queued
    rw [h]
    rfl
  rw [State.windowQueue_eq, State.releaseSyncs_one hone]
  exact if_neg (by rw [show (s.queued hcore w o command).earlierWrites hcore s.bridge.nextTag = false from he]; decide)

theorem State.windowSync_bridge (c : BSync) (v : W64) : (s.windowSync c v).bridge = s.bridge := by
  unfold State.windowSync
  dsimp only
  split
  · rfl
  · split
    · split
      · exact ((s.near_refl.count _ _).capture _ _ _ _).bridge
      · rfl
    · rfl

/-- An add or set of a window is a message of kind 3 of the window's partition. -/
theorem State.windowSync_msgs (c : BSync) (v : W64) (h : bitsOf v.toNat 32 3 ≤ 1) : ∃ m, (s.windowSync c v).msgs = s.msgs ++ [m] ∧
    m.obj = c.obj ∧ m.value = BitVec.ofNat 32 v.toNat ∧ m.kind = 3 ∧ m.part = s.fld (MGMT_HWINw_PART c.window) ∧
    m.set = decide (bitsOf v.toNat 32 3 = 1) := by
  unfold State.windowSync
  dsimp only
  rw [if_pos h]
  exact ⟨_, rfl, rfl, rfl, rfl, rfl, rfl⟩
end

/-! ## Windows -/

/-- A permitted store through a window. -/
def State.storeIn (s : State) (w hcore a : Nat) (v : W64) : DSpace → State
  | .sync o => s.hostFine.windowQueue hcore w o (some v)
  | _ => s.hostFine.combineStore w hcore a v

/-- A permitted load of HBM through a window. -/
def State.loadHbm (s : State) (w hcore a bytes : Nat) : BTrack :=
  ⟨s.bridgePkt w s.bridge.nextTag tREAD 1 (a / 8 * 8), w, hcore, some (a % 8, bytes), s.bridge.nextTag, 0, none, 0, false, 0⟩

/-- The width and alignment of a load. -/
theorem load_fits {a bytes : Nat} (h : bytes ∈ [1, 2, 4, 8]) (hal : a % bytes = 0) :
    (!([1, 2, 4, 8].contains bytes) || decide (a % bytes ≠ 0)) = false := by
  rw [List.contains_iff_mem.mpr h, hal]
  rfl

theorem State.frame_hostFault (s : State) : s.BridgeFrame s.hostFault := rfl

theorem yields_accessFault {i : Instr} {s : State} (he : exec i s = answer s s.hostFault) : yields i s s.accessFault :=
  yields_bridgeFrame s.frame_hostFault he rfl

section
variable {s : State} {hcore ha bytes w a : Nat} {v : W64} (hc : hcore < 32) (hr : s.hostRuns = true)
include hc hr

theorem exec_store_none (hw : s.window ha = none) : exec (.hostWindowWrite hcore ha bytes v) s = answer s s.hostFault := by
  rw [exec_hostWindowWrite, execHostWindowWrite, if_neg (by omega), when_true hr, hw]

theorem exec_load_none (hw : s.window ha = none) : exec (.hostWindowRead hcore ha bytes) s = answer s s.hostFault := by
  rw [exec_hostWindowRead, execHostWindowRead, if_neg (by omega), when_true hr, hw]

section
variable (hw : s.window ha = some (w, a))
include hw

theorem exec_store_bad (h : bytes ≠ 8 ∨ a % 8 ≠ 0 ∨ s.dspan a 8 = none) :
    exec (.hostWindowWrite hcore ha bytes v) s = answer s s.hostFault := by
  rw [exec_hostWindowWrite, execHostWindowWrite, if_neg (by omega), when_true hr, hw]
  dsimp only
  by_cases hb : bytes ≠ 8 ∨ a % 8 ≠ 0
  · rw [if_pos hb]
  · rw [if_neg hb, show s.dspan a 8 = none by tauto]

theorem exec_store {d : DSpace} (hb : bytes = 8) (ha8 : a % 8 = 0) (hd : s.dspan a 8 = some d) :
    exec (.hostWindowWrite hcore ha bytes v) s =
      answer s (if s.right w (storeRight d) = true then s.storeIn w hcore a v d else s.hostFault) := by
  rw [exec_hostWindowWrite, execHostWindowWrite, if_neg (by omega), when_true hr, hw]
  dsimp only
  rw [if_neg (by tauto), hd]
  cases d <;> rfl

theorem exec_load_bad (h : bytes ∉ [1, 2, 4, 8] ∨ a % bytes ≠ 0 ∨ s.dspace (a / 8 * 8) = none) :
    exec (.hostWindowRead hcore ha bytes) s = answer s s.hostFault := by
  rw [exec_hostWindowRead, execHostWindowRead, if_neg (by omega), when_true hr, hw]
  dsimp only
  cases hb : (!([1, 2, 4, 8].contains bytes) || decide (a % bytes ≠ 0)) with
  | true => rw [if_pos rfl]
  | false =>
    rw [if_neg Bool.false_ne_true]
    rw [Bool.or_eq_false_iff, Bool.not_eq_false', List.contains_iff_mem, decide_eq_false_iff_not] at hb
    rw [show s.dspace (a / 8 * 8) = none by tauto]

theorem exec_load_spad {l off : Nat} (h : s.dspace (a / 8 * 8) = some (.spad l off)) :
    exec (.hostWindowRead hcore ha bytes) s = answer s s.hostFault := by
  rw [exec_hostWindowRead, execHostWindowRead, if_neg (by omega), when_true hr, hw]
  dsimp only
  rw [h]
  exact congrArg _ (ite_self _)

theorem exec_load_hbm {off : Nat} (hb : bytes ∈ [1, 2, 4, 8]) (hal : a % bytes = 0) (h : s.dspace (a / 8 * 8) = some (.hbm off)) :
    exec (.hostWindowRead hcore ha bytes) s = answer s (if s.right w 1 = true then
      s.hostFine.bridgeNext.2.bridgeSend (s.hostFine.loadHbm w hcore a bytes) else s.hostFault) := by
  rw [exec_hostWindowRead, execHostWindowRead, if_neg (by omega), when_true hr, hw]
  dsimp only
  rw [if_neg (by rw [load_fits hb hal]; decide), h]
  rfl

theorem exec_load_sync {o : Nat} (hb : bytes ∈ [1, 2, 4, 8]) (hal : a % bytes = 0) (h : s.dspace (a / 8 * 8) = some (.sync o)) :
    exec (.hostWindowRead hcore ha bytes) s =
      answer s (if (s.right w 3 && decide (bytes = 8)) = true then s.windowQueue hcore w o none else s.hostFault) := by
  rw [exec_hostWindowRead, execHostWindowRead, if_neg (by omega), when_true hr, hw]
  dsimp only
  rw [if_neg (by rw [load_fits hb hal]; decide), h]
end
end

end Sys2Proof.Machine
end

section
/-! PROOFS. The commands of the host's data windows (O54). -/

namespace Sys2Proof.Machine

/-! ## Packets sent for a core -/

section
variable {s : State} {t : BTrack}

/-- A packet with a trail is tracked from now. -/
theorem State.bridgeSend_goes {l : List Nat} (h : s.bridgeTrail t.pkt = some l) : s.BridgeFrame (s.bridgeSend t) ∧
    (s.bridgeSend t).bridge.faulted = s.bridge.faulted ∧ (s.bridgeSend t).bridgeEntry t.pkt.tag = some (t.sentNow s) := by
  have hput := State.putOut_bridgeOut (s.bridge.out ++ [(t.pkt, l)])
    ({ s with bridge := { s.bridge with track := s.bridge.track.insert t.pkt.tag (t.sentNow s) } } : State) []
  rw [State.bridgeSend_some h, State.bridgePut]
  refine ⟨(State.Sends.tracked s _).frame.trans hput.frame, hput.faulted, ?_⟩
  rw [State.bridgeEntry, hput.track]
  exact congrArg (Option.map Prod.snd) (SMap.find?_insert_same _ _ _)

/-- A read without a trail faults with reason 4. -/
theorem State.bridgeSend_refused (h : s.bridgeTrail t.pkt = none) (ht : t.read.isSome = true) : s.BridgeFrame (s.bridgeSend t) ∧
    (s.bridgeSend t).bridge.faulted = true ∧ (s.bridgeSend t).net = s.net ∧
    (s.flag MGMT_HBR_ERR_CAP_VALID = false → bitsOf ((s.bridgeSend t).rd MGMT_HBR_ERR_CAP) 0 4 = 4) := by
  obtain ⟨hframe, hnet, -, -⟩ := State.bridgeError_same (s := s) (t := t) (reason := 4)
  rw [State.bridgeSend_none h]
  exact ⟨hframe, (State.faulted_errorRead ht).1, hnet, fun hv => State.reason_error (by decide) hv⟩
end

theorem State.sent_load (s : State) {w : Nat} (hcore a bytes : Nat) {l : List Nat} (h : s.bridgeWay w (a / 8 * 8) = some l) :
    s.bridgeSends (s.bridgeNext.2.bridgeSend (s.loadHbm w hcore a bytes)) l 0 1
      (fun p => p.fromBridge tREAD 1 (s.fld (MGMT_HWINw_PART w)) s.bridge.nextTag (a / 8 * 8)) := by
  have htrail : s.bridgeNext.2.bridgeTrail (s.loadHbm w hcore a bytes).pkt = some l := h
  have hsends := State.bridgeSends_send htrail (Pkt.wayless_fromBridge tREAD 1 (s.fld (MGMT_HWINw_PART w)) s.bridge.nextTag (a / 8 * 8))
    ⟨rfl, rfl, rfl, rfl, rfl, rfl⟩
  exact State.bridgeSends_congr rfl rfl rfl rfl hsends

/-! ## Stores -/

/-- A store combined in a state without a faulted access. -/
theorem State.combined_fine {s t : State} {w hcore a : Nat} {v : W64} (h : s.hostFine.combined t w hcore a v) :
    s.combined t w hcore a v := h

section
variable {s : State} {hcore ha bytes w a : Nat} {v : W64} (hc : hcore < 32) (hr : s.hostRuns = true)
  (hw : s.window ha = some (w, a))
include hc hr hw

theorem store_combines {d : DSpace} (hb : bytes = 8) (ha8 : a % 8 = 0) (hd : s.dspan a 8 = some d)
    (hright : s.right w (storeRight d) = true)
    (hsync : ∀ o, d ≠ .sync o) : yields (.hostWindowWrite hcore ha bytes v) s (fun t =>
      s.onlyBridge t ∧ t.clk = s.clk ∧ t.bridge.faulted = false ∧ s.combined t w hcore a v ∧ t.msgs = s.msgs) := by
  have he := exec_store (v := v) hc hr hw hb ha8 hd
  rw [if_pos hright] at he
  have hstore : s.storeIn w hcore a v d = s.hostFine.combineStore w hcore a v := by
    cases d with
    | spad l off => rfl
    | hbm off => rfl
    | sync o => exact absurd rfl (hsync o)
  rw [hstore] at he
  have hkeeps := s.hostFine.stored_combineStore w hcore a v
  have hframe : s.BridgeFrame (s.hostFine.combineStore w hcore a v) := State.BridgeFrame.trans (t := s.hostFine) rfl hkeeps.frame
  exact yields_bridgeFrame hframe he ⟨hframe.onlyBridge, hframe.clk, hkeeps.faulted,
    State.combined_fine (s.hostFine.combined_combineStore hcore a v), hkeeps.msgs⟩

theorem store_syncs {o : Nat} (hb : bytes = 8) (ha8 : a % 8 = 0) (hd : s.dspan a 8 = some (.sync o)) (hright : s.right w 3 = true) :
    yields (.hostWindowWrite hcore ha bytes v) s (fun t =>
      s.onlyBridge t ∧ t.clk = s.clk ∧ t.bridge.faulted = false ∧ t.bridge.buffers = s.bridge.buffers ∧ t.net = s.net ∧
      (s.bridge.syncs = [] →
        (s.earlierWrites hcore s.bridge.nextTag = true →
          t.bridge.syncs = [(⟨hcore, w, o, some v, s.bridge.nextTag⟩ : BSync)] ∧ t.msgs = s.msgs) ∧
        (s.earlierWrites hcore s.bridge.nextTag = false → t.bridge.syncs = [] ∧ (bitsOf v.toNat 32 3 ≤ 1 →
          ∃ m, t.msgs = s.msgs ++ [m] ∧ m.obj = o ∧ m.value = BitVec.ofNat 32 v.toNat ∧ m.kind = 3 ∧
            m.part = s.fld (MGMT_HWINw_PART w) ∧ m.set = decide (bitsOf v.toNat 32 3 = 1))))) := by
  have he := exec_store (v := v) hc hr hw hb ha8 hd
  rw [if_pos (show s.right w (storeRight (.sync o)) = true from hright)] at he
  obtain ⟨hqueue, hnet, hbuffers, hfine⟩ := s.hostFine.windowQueue_same hcore w o (some v)
  have hframe : s.BridgeFrame (s.hostFine.windowQueue hcore w o (some v)) := State.BridgeFrame.trans (t := s.hostFine) rfl hqueue
  refine yields_bridgeFrame hframe he ⟨hframe.onlyBridge, hframe.clk, hfine rfl, hbuffers, hnet, fun hnone => ⟨fun hearlier => ?_,
    fun hearlier => ?_⟩⟩
  · obtain ⟨hwaits, hone⟩ := s.hostFine.windowQueue_waits hcore w o (some v) hnone hearlier
    rw [hwaits]
    exact ⟨hone, rfl⟩
  · rw [s.hostFine.windowQueue_done hcore w o (some v) hnone hearlier]
    exact ⟨congrArg Bridge.syncs (State.windowSync_bridge _ _ _), State.windowSync_msgs _ _ _⟩

/-! ## Loads -/

theorem load_sync {o : Nat} (hbytes : bytes ∈ [1, 2, 4, 8]) (hal : a % bytes = 0) (hd : s.dspace (a / 8 * 8) = some (.sync o))
    (hright : s.right w 3 = true) (hb : bytes = 8) (hnone : s.bridge.syncs = []) : yields (.hostWindowRead hcore ha bytes) s (fun t =>
      s.onlyBridge t ∧ t.clk = s.clk ∧ t.net = s.net ∧ t.msgs = s.msgs ∧ t.sync = s.sync ∧
      (s.earlierWrites hcore s.bridge.nextTag = true →
        t.bridge.syncs = [(⟨hcore, w, o, none, s.bridge.nextTag⟩ : BSync)] ∧ t.answer = s.answer) ∧
      (s.earlierWrites hcore s.bridge.nextTag = false → t.bridge.syncs = [] ∧
        t.answer = [BitVec.ofNat 64 (s.syncEntry o)] ∧ t.bridge.faulted = false)) := by
  have he := exec_load_sync hc hr hw hbytes hal hd
  rw [if_pos (by rw [hright, hb]; rfl)] at he
  have hframe := (s.windowQueue_same hcore w o none).1
  refine yields_bridgeFrame hframe he ⟨hframe.onlyBridge, hframe.clk, ?_⟩
  cases hearlier : s.earlierWrites hcore s.bridge.nextTag with
  | true =>
    obtain ⟨hwaits, hone⟩ := s.windowQueue_waits hcore w o none hnone hearlier
    rw [hwaits]
    exact ⟨rfl, rfl, rfl, fun _ => ⟨hone, rfl⟩, nofun⟩
  | false =>
    rw [s.windowQueue_done hcore w o none hnone hearlier]
    exact ⟨rfl, rfl, rfl, nofun, fun _ => ⟨rfl, rfl, rfl⟩⟩

/-- A load of HBM is a READ on its way with its entry, or faults where the bridge has no trail. -/
theorem load_reads {off : Nat} (hbytes : bytes ∈ [1, 2, 4, 8]) (hal : a % bytes = 0) (hd : s.dspace (a / 8 * 8) = some (.hbm off))
    (hright : s.right w 1 = true) : yields (.hostWindowRead hcore ha bytes) s (fun t => s.onlyBridge t ∧ t.clk = s.clk ∧
      (∀ l, s.bridgeWay w (a / 8 * 8) = some l → t.bridge.faulted = false ∧
        s.bridgeSends t l 0 1 (fun p => p.fromBridge tREAD 1 (s.fld (MGMT_HWINw_PART w)) s.bridge.nextTag (a / 8 * 8)) ∧
        (∃ e, t.bridgeEntry s.bridge.nextTag = some e ∧ e.read = some (a % 8, bytes) ∧ e.hcore = hcore ∧ e.sent = s.now ∧
          e.held = false)) ∧
      (s.bridgeWay w (a / 8 * 8) = none → t.bridge.faulted = true ∧ t.net = s.net ∧
        (s.flag MGMT_HBR_ERR_CAP_VALID = false → bitsOf (t.rd MGMT_HBR_ERR_CAP) 0 4 = 4))) := by
  have he := exec_load_hbm hc hr hw hbytes hal hd
  rw [if_pos hright] at he
  cases hway : s.bridgeWay w (a / 8 * 8) with
  | none =>
    obtain ⟨hframe, hfaulted, hnet, hreason⟩ := State.bridgeSend_refused (s := s.hostFine.bridgeNext.2)
      (t := s.hostFine.loadHbm w hcore a bytes) hway rfl
    have hframe : s.BridgeFrame (s.hostFine.bridgeNext.2.bridgeSend (s.hostFine.loadHbm w hcore a bytes)) :=
      State.BridgeFrame.trans (t := s.hostFine.bridgeNext.2) rfl hframe
    exact yields_bridgeFrame hframe he ⟨hframe.onlyBridge, hframe.clk, nofun, fun _ => ⟨hfaulted, hnet, hreason⟩⟩
  | some l =>
    obtain ⟨hframe, hfaulted, hentry⟩ := State.bridgeSend_goes (s := s.hostFine.bridgeNext.2)
      (t := s.hostFine.loadHbm w hcore a bytes) hway
    have hframe : s.BridgeFrame (s.hostFine.bridgeNext.2.bridgeSend (s.hostFine.loadHbm w hcore a bytes)) :=
      State.BridgeFrame.trans (t := s.hostFine.bridgeNext.2) rfl hframe
    refine yields_bridgeFrame hframe he ⟨hframe.onlyBridge, hframe.clk, fun l' hl =>
      ⟨hfaulted, ?_, _, hentry, rfl, rfl, rfl, rfl⟩, nofun⟩
    cases hl
    exact s.hostFine.sent_load hcore a bytes hway
end

end Sys2Proof.Machine
end

section
/-! PROOFS. Buffers flushed, answers and timeouts of the host bridge, and O54. -/

namespace Sys2Proof.Machine

/-! ## A buffer flushed -/

theorem wcFlush_yields {n : Nat} {b : WcBuf} {s : State} (h : s.bridge.buffers[n]? = some b) : yields (.wcFlush n) s (fun t =>
    s.onlyBridge t ∧ t.clk = s.clk ∧ t.bridge.buffers = removeAt s.bridge.buffers n ∧ (b.window < 16 → s.wordsSent t b)) := by
  have he : exec (.wcFlush n) s = answer s ((s.withBuffers (removeAt s.bridge.buffers n)).sendWords b).releaseSyncs := by
    rw [exec_wcFlush, execWcFlush, h]
    rfl
  have hways := s.ways_withBuffers (removeAt s.bridge.buffers n)
  have hsends := (s.withBuffers (removeAt s.bridge.buffers n)).sends_words b
  have hwords := (s.withBuffers (removeAt s.bridge.buffers n)).wordsSent_words b
  have hstart := (s.stored_withBuffers (removeAt s.bridge.buffers n)).frame
  have hbuffers := hsends.buffers
  generalize (s.withBuffers (removeAt s.bridge.buffers n)).sendWords b = u at he hsends hwords hbuffers
  have hreleased := State.Released.releaseSyncs u
  have hframe := (hstart.trans hsends.frame).trans hreleased.frame
  refine yields_bridgeFrame hframe he ⟨hframe.onlyBridge, hframe.clk, hreleased.buffers.trans hbuffers, fun hw i hi hword hway => ?_⟩
  obtain ⟨tag, htag⟩ := hwords hw i hi hword (by rw [hways.bridgeWay hw]; exact hway)
  rw [hways.windowPart hw] at htag
  exact ⟨tag, hreleased.sent htag⟩

/-! ## Answers -/

/-- A response taken off the channel of the host bridge. -/
def State.responseTaken (s : State) (n pos : Nat) (p : Pkt) : State := (s.leaveNet n).freeSlots (some (linkKey pos 12)) 1 p.flits

theorem State.responseTaken_frame (s : State) (n pos : Nat) (p : Pkt) : s.responseTaken n pos p = { s with
    net := (s.leaveNet n).net, creditUsed := (s.responseTaken n pos p).creditUsed
    creditBack := (s.responseTaken n pos p).creditBack } := by
  unfold State.responseTaken
  rw [State.freeSlots_frame, State.leaveNet_frame]

/-- What a response taken off the channel leaves. -/
structure State.TookResponse (s u : State) : Prop where
  frame : s.BridgeFrame u
  csr : u.csr = s.csr
  bridge : u.bridge = s.bridge
  answer : u.answer = s.answer
  clk : u.clk = s.clk
  fuses : u.fuses = s.fuses

theorem State.responseTaken_keeps (s : State) (n pos : Nat) (p : Pkt) : s.TookResponse (s.responseTaken n pos p) := by
  have h := s.responseTaken_frame n pos p
  generalize s.responseTaken n pos p = u at h
  exact ⟨by unfold State.BridgeFrame; rw [h], by rw [h], by rw [h], by rw [h], by rw [h], by rw [h]⟩

theorem State.left_responseTaken {s : State} {n : Nat} {it : NetItem} (h : s.net[n]? = some it) (pos : Nat) (p : Pkt) :
    s.left n (s.responseTaken n pos p).net := by
  have hnet : (s.responseTaken n pos p).net = (s.leaveNet n).net := by rw [s.responseTaken_frame n pos p]
  rw [hnet]
  exact State.left_leaveNet h

section
variable {s : State} {n pos : Nat} {it : NetItem} (h : s.net[n]? = some it) (hplace : it.place = .host pos)
  (hclass : classOf it.pkt.type = 1)
include h hplace hclass

theorem answer_bad {c : Nat} (hbad : it.pkt.badHeader = some c) :
    yields (.hostBridgeAnswer n) s (fun t => s.onlyBridge t ∧ s.left n t.net ∧ t.bridge = s.bridge ∧ t.answer = s.answer ∧ s.countedBy t (TILE_NET_DROP_CNT pos) 1) := by
  have he : exec (.hostBridgeAnswer n) s = answer s ((s.responseTaken n pos it.pkt).dropped pos c 6 it.pkt) := by
    rw [exec_hostBridgeAnswer, execHostBridgeAnswer, h]
    dsimp only
    rw [hplace]
    dsimp only
    rw [if_neg (not_not.mpr hclass), hbad]
    rfl
  have htaken := s.responseTaken_keeps n pos it.pkt
  have hleft := State.left_responseTaken h pos it.pkt
  generalize s.responseTaken n pos it.pkt = u at he htaken hleft
  have hnear : u.Near (u.dropped pos c 6 it.pkt) := (u.near_refl.count _ _).capture _ _ _ _
  have hcounted : u.countedBy (u.dropped pos c 6 it.pkt) (TILE_NET_DROP_CNT pos) 1 :=
    State.countedBy_of_rd (u.countedBy_count (tileCounter pos (TILE_NET_DROP_CNT pos)) 1)
      (State.rd_capture_ne _ _ _ _ (tileBase_add_ne (by decide)))
  have hframe := htaken.frame.trans (.of_near hnear)
  refine yields_bridgeFrame hframe he ⟨hframe.onlyBridge, by rw [hnear.net]; exact hleft, by rw [hnear.bridge, htaken.bridge],
    by rw [hnear.answer, htaken.answer], ?_⟩
  rw [State.countedBy, State.rd_congr htaken.csr] at hcounted
  exact hcounted

theorem answer_unknown (hbad : it.pkt.badHeader = none) (hentry : s.bridgeEntry it.pkt.tag = none) :
    yields (.hostBridgeAnswer n) s (fun t => s.onlyBridge t ∧ s.left n t.net ∧ t.bridge = s.bridge ∧ t.answer = s.answer) := by
  have he : exec (.hostBridgeAnswer n) s = answer s (s.responseTaken n pos it.pkt) := by
    rw [exec_hostBridgeAnswer, execHostBridgeAnswer, h]
    dsimp only
    rw [hplace]
    dsimp only
    rw [if_neg (not_not.mpr hclass), hbad, if_neg (by decide), show Option.map _ _ = none from hentry]
    rfl
  have htaken := s.responseTaken_keeps n pos it.pkt
  exact yields_bridgeFrame htaken.frame he
    ⟨htaken.frame.onlyBridge, State.left_responseTaken h pos it.pkt, htaken.bridge, htaken.answer⟩

theorem exec_answer {e : BTrack} (hbad : it.pkt.badHeader = none) (hentry : s.bridgeEntry it.pkt.tag = some e) :
    exec (.hostBridgeAnswer n) s = if (e.read.isSome && s.earlierWrites e.hcore e.order) = true then idle s
      else answer s ((s.responseTaken n pos it.pkt).bridgeAnswer e it.pkt).releaseSyncs := by
  rw [exec_hostBridgeAnswer, execHostBridgeAnswer, h]
  dsimp only
  rw [hplace]
  dsimp only
  rw [if_neg (not_not.mpr hclass), hbad, if_neg (by decide), show Option.map _ _ = some e from hentry]
  rfl
end

/-! ## An answer met with its entry -/

section
variable {u : State} {e : BTrack} {p : Pkt}

theorem State.bridgeAnswer_ack (h : p.type = tACK) : u.bridgeAnswer e p = u.bridgeFree e.pkt.tag := by
  unfold State.bridgeAnswer
  rw [h]
  rfl

theorem State.bridgeAnswer_data (h : p.type = tRDATA) : u.bridgeAnswer e p = u.bridgeData e p := by
  unfold State.bridgeAnswer
  rw [h]
  rfl

theorem State.bridgeAnswer_nack (h : p.type = tNACK) (hr : p.reason ≠ 1) :
    u.bridgeAnswer e p = (u.bridgeFree e.pkt.tag).bridgeError e p.reason := by
  unfold State.bridgeAnswer
  rw [h, if_neg (by decide), if_neg (by decide), if_neg (by rintro (h | h); exacts [absurd h (by decide), hr h])]

theorem State.bridgeAnswer_again (h : p.type = tDEAD ∨ (p.type = tNACK ∧ p.reason = 1)) : u.bridgeAnswer e p = u.bridgeHold e := by
  unfold State.bridgeAnswer
  rcases h with h | ⟨h, hr⟩
  · rw [h]
    rfl
  · rw [h, hr]
    rfl

/-- A state in which the bridge has ended or held an entry: no sync access has come to wait. -/
structure State.Ended (u t : State) : Prop where
  frame : u.BridgeFrame t
  syncs : t.bridge.syncs = u.bridge.syncs

theorem State.ended_free (tag : Nat) : u.Ended (u.bridgeFree tag) := ⟨rfl, rfl⟩

theorem State.ended_error (tag reason : Nat) : u.Ended ((u.bridgeFree tag).bridgeError e reason) := by
  obtain ⟨hframe, -, -, hsyncs⟩ := State.bridgeError_same (s := u.bridgeFree tag) (t := e) (reason := reason)
  exact ⟨State.BridgeFrame.trans (t := u.bridgeFree tag) rfl hframe, hsyncs⟩

/-- An entry freed with an error: its packet is gone from the entries, and no packet moves. -/
theorem State.error_parts (tag reason : Nat) : ((u.bridgeFree tag).bridgeError e reason).bridge.track = u.bridge.track.erase tag ∧
    ((u.bridgeFree tag).bridgeError e reason).net = u.net := by
  obtain ⟨-, hnet, htrack, -⟩ := State.bridgeError_same (s := u.bridgeFree tag) (t := e) (reason := reason)
  exact ⟨htrack, hnet⟩

theorem State.counted_error (tag reason : Nat) (h : e.read = none) :
    u.countedBy ((u.bridgeFree tag).bridgeError e reason) MGMT_HBR_ERR_CNT 1 :=
  State.counted_errorWrite (s := u.bridgeFree tag) h

theorem State.bridgeData_poisoned (h : p.dataPoison ≠ 0) : u.bridgeData e p = (u.bridgeFree e.pkt.tag).bridgeError e 15 := if_pos h

theorem State.bridgeData_good {lo k : Nat} (h : p.dataPoison = 0) (hread : e.read = some (lo, k)) : u.bridgeData e p =
    ({ u.bridgeFree e.pkt.tag with answer := [BitVec.ofNat 64 (bitsOf p.data (8 * lo) (8 * k))] } : State).hostFine := by
  unfold State.bridgeData
  rw [hread]
  exact if_neg (not_not.mpr h)

theorem State.ended_data : u.Ended (u.bridgeData e p) := by
  by_cases h : p.dataPoison = 0
  · cases hread : e.read with
    | none =>
      have heq : u.bridgeData e p = u.bridgeFree e.pkt.tag := by
        unfold State.bridgeData
        rw [hread]
        exact if_neg (not_not.mpr h)
      rw [heq]
      exact State.ended_free _
    | some x =>
      rw [State.bridgeData_good h (lo := x.1) (k := x.2) hread]
      exact ⟨rfl, rfl⟩
  · rw [State.bridgeData_poisoned h]
    exact State.ended_error _ _

/-- A read's data back at its core, or its fault. -/
theorem State.bridgeData_read {lo k : Nat} (hread : e.read = some (lo, k)) :
    (u.bridgeData e p).bridge.track = u.bridge.track.erase e.pkt.tag ∧ (u.bridgeData e p).net = u.net ∧
    (if p.dataPoison = 0
      then (u.bridgeData e p).bridge.faulted = false ∧ (u.bridgeData e p).answer = [BitVec.ofNat 64 (bitsOf p.data (8 * lo) (8 * k))]
      else (u.bridgeData e p).bridge.faulted = true ∧ (u.bridgeData e p).answer = []) := by
  by_cases h : p.dataPoison = 0
  · rw [if_pos h, State.bridgeData_good h hread]
    exact ⟨rfl, rfl, rfl, rfl⟩
  · obtain ⟨htrack, hnet⟩ := State.error_parts (u := u) (e := e) e.pkt.tag 15
    rw [if_neg h, State.bridgeData_poisoned h]
    exact ⟨htrack, hnet, State.faulted_errorRead (by rw [hread]; rfl)⟩

/-! ## A packet held, or sent again -/

/-- The entry of a packet held from now. -/
def BTrack.heldNow (e : BTrack) (u : State) : BTrack := { e with held := true, heldFrom := some u.now }

/-- The state with a tracking entry. -/
def State.withEntry (u : State) (tag : Nat) (e : BTrack) : State :=
  { u with bridge := { u.bridge with track := u.bridge.track.insert tag e } }

theorem State.entry_withEntry (u : State) (tag : Nat) (e : BTrack) : (u.withEntry tag e).bridgeEntry tag = some e :=
  congrArg (Option.map Prod.snd) (SMap.find?_insert_same _ _ _)

theorem State.bridgeAgain_none {tag : Nat} (h : u.bridgeTrail e.pkt = none) : u.bridgeAgain tag e = u := by
  unfold State.bridgeAgain
  rw [h]

/-- The entry of a held packet sent again now. -/
def BTrack.againNow (e : BTrack) (u : State) : BTrack :=
  { e with held := false, gen := u.bridge.gen, sent := u.now, heldFor := e.heldFor + (u.now - e.heldFrom.getD u.now), heldFrom := none }

theorem State.bridgeAgain_some {tag : Nat} {l : List Nat} (h : u.bridgeTrail e.pkt = some l) :
    u.bridgeAgain tag e = (u.withEntry tag (e.againNow u)).bridgePut e.pkt l := by
  unfold State.bridgeAgain
  rw [h]
  rfl

theorem State.bridgeHold_stays (h : e.gen = u.bridge.gen ∨ u.bridgeTrail e.pkt = none) :
    u.bridgeHold e = u.withEntry e.pkt.tag (e.heldNow u) := by
  by_cases hgen : e.gen = u.bridge.gen
  · exact if_pos hgen
  · have hnone : (u.withEntry e.pkt.tag (e.heldNow u)).bridgeTrail (e.heldNow u).pkt = none := h.resolve_left hgen
    exact (if_neg hgen).trans (State.bridgeAgain_none hnone)

theorem State.bridgeHold_goes {l : List Nat} (hgen : e.gen ≠ u.bridge.gen) (h : u.bridgeTrail e.pkt = some l) : u.bridgeHold e =
    ((u.withEntry e.pkt.tag (e.heldNow u)).withEntry e.pkt.tag ((e.heldNow u).againNow u)).bridgePut e.pkt l := by
  have hsome : (u.withEntry e.pkt.tag (e.heldNow u)).bridgeTrail (e.heldNow u).pkt = some l := h
  exact (if_neg hgen).trans (State.bridgeAgain_some hsome)

/-- A packet held and sent again at once was held for no time. -/
theorem BTrack.againNow_heldNow (e : BTrack) (u : State) :
    (e.heldNow u).againNow u = { e with held := false, gen := u.bridge.gen, sent := u.now, heldFrom := none } := by
  simp only [BTrack.againNow, BTrack.heldNow, Option.getD_some, Nat.sub_self, Nat.add_zero]

theorem State.ended_put (v : State) (q : Pkt) (l : List Nat) : v.Ended (v.bridgePut q l) := by
  have h : v.PutOut (v.bridgePut q l) := State.putOut_bridgeOut _ _ _
  exact ⟨h.frame, h.syncs⟩

theorem State.ended_hold : u.Ended (u.bridgeHold e) := by
  by_cases h : e.gen = u.bridge.gen ∨ u.bridgeTrail e.pkt = none
  · rw [State.bridgeHold_stays h]
    exact ⟨rfl, rfl⟩
  · rw [not_or] at h
    obtain ⟨l, hl⟩ := Option.ne_none_iff_exists'.mp h.2
    have hput := ((u.withEntry e.pkt.tag (e.heldNow u)).withEntry e.pkt.tag ((e.heldNow u).againNow u)).ended_put e.pkt l
    have hv : u.BridgeFrame ((u.withEntry e.pkt.tag (e.heldNow u)).withEntry e.pkt.tag ((e.heldNow u).againNow u)) := rfl
    have hsyncs : ((u.withEntry e.pkt.tag (e.heldNow u)).withEntry e.pkt.tag ((e.heldNow u).againNow u)).bridge.syncs =
      u.bridge.syncs := rfl
    rw [State.bridgeHold_goes h.1 hl]
    generalize (u.withEntry e.pkt.tag (e.heldNow u)).withEntry e.pkt.tag ((e.heldNow u).againNow u) = v at hput hv hsyncs ⊢
    exact ⟨hv.trans hput.frame, hput.syncs.trans hsyncs⟩

/-- A packet sent again is on its way, and its entry waits anew. -/
theorem State.bridgeHold_again (hgen : e.gen ≠ u.bridge.gen) (h : u.bridgeTrail e.pkt ≠ none) :
    (u.bridgeHold e).bridgeEntry e.pkt.tag = some { e with held := false, gen := u.bridge.gen, sent := u.now, heldFrom := none } ∧
    (u.bridgeHold e).bridgeSent (fun p => p.tag = e.pkt.tag ∧ p.addr = e.pkt.addr ∧ p.type = e.pkt.type) := by
  obtain ⟨l, hl⟩ := Option.ne_none_iff_exists'.mp h
  rw [State.bridgeHold_goes hgen hl, BTrack.againNow_heldNow]
  generalize u.withEntry e.pkt.tag (e.heldNow u) = v
  generalize ({ e with held := false, gen := u.bridge.gen, sent := u.now, heldFrom := none } : BTrack) = x
  have hput : (v.withEntry e.pkt.tag x).PutOut ((v.withEntry e.pkt.tag x).bridgePut e.pkt l) := State.putOut_bridgeOut _ _ _
  refine ⟨?_, (State.bridgeSends_put (P := fun p => p.tag = e.pkt.tag ∧ p.addr = e.pkt.addr ∧ p.type = e.pkt.type)
    (fun _ _ _ h => h) ⟨rfl, rfl, rfl⟩).1⟩
  rw [State.bridgeEntry, hput.track]
  exact v.entry_withEntry _ _

theorem State.ended_answer : u.Ended (u.bridgeAnswer e p) := by
  unfold State.bridgeAnswer
  split_ifs
  · exact State.ended_data
  · exact State.ended_free _
  · exact State.ended_hold
  · exact State.ended_error _ _
end

/-! ## The answer of a tracked packet -/

section
variable {s : State} {n pos : Nat} {it : NetItem} {e : BTrack} (h : s.net[n]? = some it) (hplace : it.place = .host pos)
  (hclass : classOf it.pkt.type = 1) (hbad : it.pkt.badHeader = none) (hentry : s.bridgeEntry it.pkt.tag = some e)
include h hplace hclass hbad hentry

theorem answer_waits (hread : e.read.isSome = true) (hearlier : s.earlierWrites e.hcore e.order = true) :
    exec (.hostBridgeAnswer n) s = .next s :=
  (exec_answer h hplace hclass hbad hentry).trans (if_pos (by rw [hread, hearlier]; rfl))

theorem answer_ends (htag : e.pkt.tag = it.pkt.tag) (hfree : e.read = none ∨ s.earlierWrites e.hcore e.order = false)
    (hnone : s.bridge.syncs = []) :
    let again := it.pkt.type = tDEAD ∨ (it.pkt.type = tNACK ∧ it.pkt.reason = 1)
    yields (.hostBridgeAnswer n) s (fun t =>
        s.onlyBridge t ∧ t.clk = s.clk ∧
        (it.pkt.type = tACK → t.bridge.track = s.bridge.track.erase it.pkt.tag ∧ s.left n t.net) ∧
        (∀ lo k, it.pkt.type = tRDATA → e.read = some (lo, k) →
          t.bridge.track = s.bridge.track.erase it.pkt.tag ∧ s.left n t.net ∧
          (if it.pkt.dataPoison = 0
            then t.bridge.faulted = false ∧ t.answer = [BitVec.ofNat 64 (bitsOf it.pkt.data (8 * lo) (8 * k))]
            else t.bridge.faulted = true ∧ t.answer = [])) ∧
        (it.pkt.type = tNACK → it.pkt.reason ≠ 1 → t.bridge.track = s.bridge.track.erase it.pkt.tag ∧ s.left n t.net ∧
          (e.read = none → s.countedBy t MGMT_HBR_ERR_CNT 1) ∧ (e.read.isSome = true → t.bridge.faulted = true)) ∧
        (again → (e.gen = s.bridge.gen ∨ s.bridgeTrail e.pkt = none) → s.left n t.net ∧
          t.bridgeEntry it.pkt.tag = some { e with held := true, heldFrom := some s.now }) ∧
        (again → e.gen ≠ s.bridge.gen → s.bridgeTrail e.pkt ≠ none →
          t.bridgeEntry it.pkt.tag = some { e with held := false, gen := s.bridge.gen, sent := s.now, heldFrom := none } ∧
          t.bridgeSent (fun p => p.tag = e.pkt.tag ∧ p.addr = e.pkt.addr ∧ p.type = e.pkt.type))) := by
  have he := (exec_answer h hplace hclass hbad hentry).trans (if_neg (by rcases hfree with hfree | hfree <;> simp [hfree]))
  have htaken := s.responseTaken_keeps n pos it.pkt
  have hleft := State.left_responseTaken h pos it.pkt
  generalize s.responseTaken n pos it.pkt = u at he htaken hleft
  have hended := State.ended_answer (u := u) (e := e) (p := it.pkt)
  rw [State.releaseSyncs_none (hended.syncs.trans (by rw [htaken.bridge, hnone]))] at he
  have hframe := htaken.frame.trans hended.frame
  have hways : s.SameWays u := ⟨htaken.fuses, by rw [htaken.bridge], fun r _ => State.rd_congr htaken.csr r⟩
  have hnow : u.now = s.now := by rw [State.now, State.now, htaken.clk]
  refine yields_bridgeFrame hframe he ⟨hframe.onlyBridge, hframe.clk, fun htype => ?_, fun lo k htype hread => ?_,
    fun htype hreason => ?_, fun htype hstays => ?_, fun htype hgen htrail => ?_⟩
  · rw [State.bridgeAnswer_ack htype, ← htag, ← htaken.bridge]
    exact ⟨rfl, hleft⟩
  · obtain ⟨htrack, hnet, hdata⟩ := State.bridgeData_read (u := u) (p := it.pkt) hread
    rw [State.bridgeAnswer_data htype, ← htag, ← htaken.bridge]
    exact ⟨htrack, by rw [hnet]; exact hleft, hdata⟩
  · obtain ⟨htrack, hnet⟩ := State.error_parts (u := u) (e := e) e.pkt.tag it.pkt.reason
    rw [State.bridgeAnswer_nack htype hreason, ← htag, ← htaken.bridge]
    refine ⟨htrack, by rw [hnet]; exact hleft, fun hread => ?_, fun hread => (State.faulted_errorRead hread).1⟩
    have hcounted := State.counted_error (u := u) e.pkt.tag it.pkt.reason hread
    rw [State.countedBy, State.rd_congr htaken.csr] at hcounted
    exact hcounted
  · rw [State.bridgeAnswer_again htype, State.bridgeHold_stays (by rw [htaken.bridge, hways.bridgeTrail]; exact hstays), ← htag]
    refine ⟨hleft, ?_⟩
    rw [State.entry_withEntry, BTrack.heldNow, hnow]
  · obtain ⟨hagain, hsent⟩ := State.bridgeHold_again (u := u) (e := e) (by rw [htaken.bridge]; exact hgen)
      (by rw [hways.bridgeTrail]; exact htrail)
    rw [State.bridgeAnswer_again htype, ← htag]
    refine ⟨?_, hsent⟩
    rw [hagain, hnow, htaken.bridge]
end

/-! ## A timeout -/

theorem State.onlyBridge_atRef {s t : State} {r : Nat} (h : (s.atRef r).BridgeFrame t) : s.onlyBridge t := by
  unfold State.BridgeFrame at h
  unfold State.onlyBridge
  rw [h]
  rfl

theorem exec_timeout {tag : Nat} {e : BTrack} {s : State} (h : s.bridgeEntry tag = some e) :
    exec (.hostBridgeTimeout tag) s = answerRef (if e.held = true
        then e.heldFrom.getD e.sent + (s.fld MGMT_HOST_CTRL_HOLD_LIM * 100000 - e.heldFor)
        else e.sent + s.fld MGMT_HOST_CTRL_ACK_TO * 100000) s
      (fun s => ((s.bridgeFree tag).bridgeError e (if e.held then 7 else 6)).releaseSyncs) := by
  rw [exec_hostBridgeTimeout, execHostBridgeTimeout, show Option.map _ _ = some e from h]
  rfl

theorem timeout_yields {tag : Nat} {e : BTrack} {s : State} (h : s.bridgeEntry tag = some e) (hnone : s.bridge.syncs = []) :
    yields (.hostBridgeTimeout tag) s (fun t => s.onlyBridge t ∧ t.bridge.track = s.bridge.track.erase tag ∧ t.net = s.net ∧
      (if e.held = true then e.heldFrom.getD e.sent + (s.fld MGMT_HOST_CTRL_HOLD_LIM * 100000 - e.heldFor) ≤ t.now
        else e.sent + s.fld MGMT_HOST_CTRL_ACK_TO * 100000 ≤ t.now) ∧
      (e.read = none → s.countedBy t MGMT_HBR_ERR_CNT 1) ∧ (e.read.isSome = true → t.bridge.faulted = true) ∧
      (s.flag MGMT_HBR_ERR_CAP_VALID = false →
        bitsOf (t.rd MGMT_HBR_ERR_CAP) 0 4 = if e.held = true then 7 else 6)) := by
  have he := exec_timeout h
  generalize hr : (if e.held = true then e.heldFrom.getD e.sent + (s.fld MGMT_HOST_CTRL_HOLD_LIM * 100000 - e.heldFor)
    else e.sent + s.fld MGMT_HOST_CTRL_ACK_TO * 100000) = r at he
  have hended := State.ended_error (u := s.atRef r) (e := e) tag (if e.held then 7 else 6)
  obtain ⟨htrack, hnet⟩ := State.error_parts (u := s.atRef r) (e := e) tag (if e.held then 7 else 6)
  have hcounted := State.counted_error (u := s.atRef r) (e := e) tag (if e.held then 7 else 6)
  have hfaulted := State.faulted_errorRead (s := (s.atRef r).bridgeFree tag) (t := e) (reason := if e.held then 7 else 6)
  have hreason := State.reason_error (s := (s.atRef r).bridgeFree tag) (t := e) (reason := if e.held then 7 else 6)
    (by split <;> decide)
  have hnow := s.now_atRef r
  rw [answerRef, State.releaseSyncs_none (hended.syncs.trans hnone)] at he
  generalize ((s.atRef r).bridgeFree tag).bridgeError e (if e.held then 7 else 6) = t at he hended htrack hnet hcounted hfaulted hreason
  refine ⟨t, he.trans (answer_bridgeFrame hended.frame), State.onlyBridge_atRef hended.frame, htrack, hnet, ?_, hcounted,
    fun hread => (hfaulted hread).1, hreason⟩
  have hle : r ≤ t.now := by
    rw [State.now, hended.frame.clk]
    exact hnow
  rw [← hr] at hle
  split at hle
  · next hheld => rwa [if_pos hheld]
  · next hheld => rwa [if_neg hheld]

/-- Settles O54: an access of a host core is combined, queued or sent by the bridge, or faults; what is sent, and what an error
changes, is said once for all commands. -/
theorem hostWindows : Obligations.HostWindows := by
  unfold Obligations.HostWindows
  refine ⟨fun hcore ha bytes v s hc hr => ⟨fun hw => yields_accessFault (exec_store_none hc hr hw),
      fun w a hw => ⟨fun hbad => yields_accessFault (exec_store_bad hc hr hw hbad),
        fun d hb ha8 hd => ⟨fun hright => ?_, fun hright => ?_⟩⟩⟩,
    fun hcore ha bytes s hc hr => ⟨fun hw => yields_accessFault (exec_load_none hc hr hw), fun w a hw =>
      ⟨fun hbad => yields_accessFault (exec_load_bad hc hr hw hbad), fun hbytes hal =>
        ⟨fun l off hd => yields_accessFault (exec_load_spad hc hr hw hd),
          fun off hd => ⟨fun hright => ?_, load_reads hc hr hw hbytes hal hd⟩,
          fun o hd => ⟨fun hright => ?_, load_sync hc hr hw hbytes hal hd⟩⟩⟩⟩,
    fun n b s hb => wcFlush_yields hb,
    fun n pos it s h hplace hclass => ⟨fun c hbad _ => answer_bad h hplace hclass hbad, answer_unknown h hplace hclass,
      fun e hbad hentry htag => ⟨answer_waits h hplace hclass hbad hentry, answer_ends h hplace hclass hbad hentry htag⟩⟩,
    fun tag e s h hnone => timeout_yields h hnone⟩
  · exact yields_accessFault ((exec_store hc hr hw hb ha8 hd).trans (by rw [if_neg (by rw [hright]; decide)]))
  · cases d with
    | sync o =>
      refine (store_syncs hc hr hw hb ha8 hd hright).mono fun t ⟨honly, hclk, hfine, hbuffers, hnet, hsyncs⟩ =>
        ⟨honly, hclk, hfine, fun hno => absurd rfl (hno o), fun o' ho => ?_⟩
      cases ho
      exact ⟨hbuffers, hnet, hsyncs⟩
    | spad l off =>
      exact (store_combines hc hr hw hb ha8 hd hright nofun).mono fun t ⟨honly, hclk, hfine, hcombined⟩ =>
        ⟨honly, hclk, hfine, fun _ => hcombined, nofun⟩
    | hbm off =>
      exact (store_combines hc hr hw hb ha8 hd hright nofun).mono fun t ⟨honly, hclk, hfine, hcombined⟩ =>
        ⟨honly, hclk, hfine, fun _ => hcombined, nofun⟩
  · exact yields_accessFault ((exec_load_hbm hc hr hw hbytes hal hd).trans (by rw [if_neg (by rw [hright]; decide)]))
  · exact yields_accessFault ((exec_load_sync hc hr hw hbytes hal hd).trans (by
      rw [if_neg (by rcases hright with hright | hright <;> simp [hright])]))

end Sys2Proof.Machine
end
